-- ==== Sys2Proof/Word.lean ====
section
/-! DEFINITION. The word types of the model: a byte of memory, a register word, a Gate Protocol header block and a
tick control message. Field arithmetic on them stands in Machine/Bits.lean. -/

namespace Sys2Proof

/-- One byte of memory, of a frame or of a packet (R5: byte strings keep their own order, first byte first). -/
abbrev Byte := BitVec 8

/-- A 64-bit BAR0 register word or descriptor word (R7). -/
abbrev Word := BitVec 64

end Sys2Proof
end

