-- ==== Sys2Proof/Machine/Bits.lean ====
section
/-! DEFINITION. Bit fields, byte order, sign, saturation, and the sorted table in which registers, memory bytes and
other sparse state are held. -/

namespace Sys2Proof.Machine

/-- Bits `hi:lo` of `x` (notation of chapter 00: bit 0 is the least significant). -/
def bits (x hi lo : Nat) : Nat := x / 2 ^ lo % 2 ^ (hi + 1 - lo)

/-- Bit `n` of `x`. -/
def bit (x n : Nat) : Bool := x / 2 ^ n % 2 == 1

/-- One bit as a number. -/
def b2n (b : Bool) : Nat := if b then 1 else 0

/-- `x` with its `n` low bits read as two's complement. -/
def sext (n x : Nat) : Int := if x % 2 ^ n < 2 ^ (n - 1) then (x % 2 ^ n : Nat) else (x % 2 ^ n : Nat) - (2 ^ n : Nat)

/-- The `n`-bit two's complement encoding of `x`. -/
def twos (n : Nat) (x : Int) : Nat := (x % (2 ^ n : Nat)).toNat

/-- `x` held at `m` from above: a saturating counter. -/
def satTo (m x : Nat) : Nat := if x ≤ m then x else m

/-- The little-endian value of a byte string (R5). -/
def leNat : List Byte → Nat
  | [] => 0
  | b :: r => b.toNat + 256 * leNat r

/-- The `n`-byte little-endian encoding of a number (R5). -/
def leBytes : Nat → Nat → List Byte
  | 0, _ => []
  | n + 1, x => BitVec.ofNat 8 x :: leBytes n (x / 256)

/-- The big-endian value of a byte string, for the public hash standards only. -/
def beNat (l : List Byte) : Nat := l.foldl (fun a b => a * 256 + b.toNat) 0

/-- The `n`-byte big-endian encoding. -/
def beBytes (n x : Nat) : List Byte := (leBytes n x).reverse

/-- The 64-bit little-endian words of a byte string. -/
def leWord (l : List Byte) (i : Nat) : Nat := leNat ((l.drop (8 * i)).take 8)

/-- A list padded with zero bytes, or cut, to `n` bytes. -/
def fitBytes (n : Nat) (l : List Byte) : List Byte := l.take n ++ List.replicate (n - l.length) 0#8

/-- The numbers `a`, `a + 1`, … of which there are `n`. -/
def natRange (a n : Nat) : List Nat := (List.range n).map (a + ·)

/-- Do the byte ranges `[a, a + n)` and `[b, b + m)` overlap? -/
def overlaps (a n b m : Nat) : Bool := a < b + m && b < a + n

/-- Does `[a, a + n)` lie inside `[b, b + m)`? -/
def inside (a n b m : Nat) : Bool := b ≤ a && a + n ≤ b + m

/-! ### Tables: association lists sorted by key, with a default for what is not listed -/

/-- A table of `α` by number. -/
abbrev Table (α : Type) := List (Nat × α)

/-- What a table reads at `k`; `d` gives what is not listed. -/
def Table.get {α : Type} (d : Nat → α) : Table α → Nat → α
  | [], k => d k
  | (j, v) :: r, k => if k < j then d k else if j = k then v else Table.get d r k

/-- Drops the leading entries at or below `k`. -/
def Table.dropLe {α : Type} : Table α → Nat → Table α
  | [], _ => []
  | (j, v) :: r, k => if j ≤ k then Table.dropLe r k else (j, v) :: r

/-- Puts `v` at `k`, keeping the order. -/
def Table.ins {α : Type} : Table α → Nat → α → Table α
  | [], k, v => [(k, v)]
  | (j, w) :: r, k, v => if k < j then (k, v) :: (j, w) :: r else if j = k then (k, v) :: r else (j, w) :: Table.ins r k v

/-- Takes `k` out, so that it reads as the default again. -/
def Table.del {α : Type} : Table α → Nat → Table α
  | [], _ => []
  | (j, w) :: r, k => if k < j then (j, w) :: r else if j = k then Table.dropLe r k else (j, w) :: Table.del r k

/-- Writes `v` at `k`; a value equal to the default is not listed. -/
def Table.set {α : Type} [DecidableEq α] (d : Nat → α) (t : Table α) (k : Nat) (v : α) : Table α :=
  if v = d k then Table.del t k else Table.ins t k v

/-- Keys strictly rising, and no entry equal to the default: the canonical form. -/
def Table.wfFrom {α : Type} [DecidableEq α] (d : Nat → α) : Nat → Table α → Bool
  | _, [] => true
  | lo, (j, v) :: r => lo ≤ j && v != d j && Table.wfFrom d (j + 1) r

/-- The canonical form of a table. -/
def Table.wf {α : Type} [DecidableEq α] (d : Nat → α) (t : Table α) : Bool := Table.wfFrom d 0 t

/-! ### Register fields -/

/-- A field of a BAR0 register: offset of the register, lowest bit, width. -/
structure Fld where
  off : Nat
  lo : Nat
  w : Nat
  deriving DecidableEq, Repr

/-- The key under which a field's value is held: registers are 8-byte aligned (R7), so it is the field's alone. -/
def Fld.key (f : Fld) : Nat := f.off * 64 + f.lo

/-- Access codes of registers (chapter 00). -/
inductive Acc | ro | rw | w1c | wo | rws
  deriving DecidableEq, Repr

/-- One field in a register map. -/
structure FldRow where
  lo : Nat
  w : Nat
  acc : Acc
  reset : Nat
  deriving DecidableEq, Repr

/-- One register of a register map: its copies lie at `base + i × stride` for each dimension `(stride, count)`. -/
structure RegRow where
  name : String
  base : Nat
  dims : List (Nat × Nat)
  fields : List FldRow
  deriving DecidableEq, Repr

/-- The indices of the copy of a register that stands `o` bytes above its base; none when no copy stands there. -/
def dimIdx : List (Nat × Nat) → Nat → Option (List Nat)
  | [], o => if o = 0 then some [] else none
  | (s, c) :: r, o =>
    if o / s < c then (dimIdx r (o % s)).map ((o / s) :: ·)
    else none

/-- The indices of the copy of register `r` at offset `off`. -/
def RegRow.index (r : RegRow) (off : Nat) : Option (List Nat) :=
  if off < r.base then none else dimIdx r.dims (off - r.base)

end Sys2Proof.Machine
end

