-- ==== Sys2Proof/Machine/Flags.lean ====
section
/-! DEFINITION. The four numeric flags (R147, NUM_FLAGS): a set of flags is a 4-bit number, bit 3 NV, bit 2 OF, bit 1 UF,
bit 0 NX. Which operation sets which is said in Numeric.lean and Floats.lean, beside the value. -/

namespace Sys2Proof.Machine

/-- Invalid. -/
def fNV : Nat := 8
/-- Overflow. -/
def fOF : Nat := 4
/-- Underflow. -/
def fUF : Nat := 2
/-- Inexact. -/
def fNX : Nat := 1

/-- The union of two flag sets. -/
def flagOr (a b : Nat) : Nat := a ||| b

/-- A flag where a condition holds. -/
def flagIf (c : Bool) (f : Nat) : Nat := if c then f else 0

/-- What a W1C write of `w` leaves of the flags `f` (R147, R148). -/
def flagClear (f w : Nat) : Nat := f - (f &&& w)

/-- Does a flag set hold NV? -/
def hasNV (f : Nat) : Bool := bit f 3

end Sys2Proof.Machine
end

