-- ==== Sys2Proof/Syntax.lean ====
section
/-! DEFINITION. The commands of the block: one constructor of `Instr` for each row of spec/opcode_table.json, with the
row's operands. A pin, a timer, a sensor, a peer and an engine's progress are inputs, so a measured value, a test
result, a signature's outcome or a peer's bytes is an operand (notes/assumptions/1.md). -/

namespace Sys2Proof

/-- A tick control message as it stands on the wire, 128 bits (R42). -/
abbrev TickWord := BitVec 128

/-- A HEADER block of the Gate Protocol, 256 bits (R259). -/
abbrev Header := BitVec 256

/-- The epoch distribution tree as this device stands in it, measured outside (R36, R49; notes/assumptions/8.md). -/
structure Tree where
  parent : Option (Fin 12)
  children : BitVec 12
  depth : Nat
  depthMax : Nat
  diam : Nat
  reachNs : Nat
  tooDeep : List Nat
  deriving DecidableEq, Repr

/-- What one boot stage found (R371, R372, R97, R215): the stage's verdict and, for the stages that test parts, the
parts that failed. -/
structure StageResult where
  pass : Bool
  copyA : Bool
  copyB : Bool
  stackFailed : Bool
  failedChannels : List (Fin 384)
  failedRing : List (Fin 8)
  failedClusters : List (Fin 400)
  guestFitted : Bool
  elapsedMs : Nat
  deriving DecidableEq, Repr

/-- What an authenticated write carries beside its value: where it came from and its trailer (R358). -/
structure Auth where
  source : Nat
  reqId : Nat
  slot : Fin 8
  counter : Nat
  tag : List Byte
  deriving DecidableEq, Repr

/-- A resident thread group: its logical cluster and its slot (R116). -/
structure GroupRef where
  cluster : Fin 384
  slot : Fin 48
  deriving DecidableEq, Repr

/-- The atomic operations of R165. -/
inductive AtomOp | add | min | max | and | or | xor | exch | cas | inc | dec
  deriving DecidableEq, Repr

/-- The operand types of an atomic (R165), in the order of ATYPE in R327. -/
inductive AtomType | u32 | u64 | i32 | i64 | fp32 | fp64
  deriving DecidableEq, Repr

/-- The scopes of R155. -/
inductive Scope | group | block | device | system
  deriving DecidableEq, Repr

/-- The kinds of a fence (R159): acquire, release, both. -/
inductive FenceKind | acq | rel | ar
  deriving DecidableEq, Repr

/-- The number formats (R81, R131). -/
inductive Fmt | fp64 | fp32 | fp16 | bf16 | lf8a | lf8b | lf6 | lf4 | int8 | int4 | int32 | a48
  deriving DecidableEq, Repr

/-- The rounding attributes of R120. -/
inductive Rm | tiesEven | tiesAway | towardZero | towardPos | towardNeg
  deriving DecidableEq, Repr

/-- The conversion modes of R135. -/
inductive ConvMode | sat | inf | nan
  deriving DecidableEq, Repr

/-- Element-wise floating operations (R120; the list is the model's, notes/assumptions/12.md). -/
inductive FloatOp | add | sub | mul | div | sqrt | fma | lt | le | eq
  deriving DecidableEq, Repr

/-- The two shapes of a divergent branch (R110): one target with the mask of the taken threads, or one target for each
thread. -/
inductive Branch
  | direct (target : Nat) (taken : BitVec 32)
  | indirect (targets : List Nat)
  deriving DecidableEq, Repr

/-- A request as it reaches a Plaza slice (R175). -/
inductive PlzKind
  | read | write (data : List Byte) | atomic (op : AtomOp) (ty : AtomType) (a b : Nat) | zero
  deriving DecidableEq, Repr

/-- What the array and the mesh did with a Plaza request (R180, R390): no error, an error cured by one re-read or
replay, or one that failed again. -/
inductive ParityOutcome | clean | cured | failed
  deriving DecidableEq, Repr

/-- A request of an arbiter (R335). `cls` is 0 BG, 1 P0, 2 P1, 3 P2, 4 P3, 5 SCHED; `served` is what the request's partition has
moved on the arbiter's channel in the current regulator window, in bytes (R205). -/
structure ArbReq where
  requester : Nat
  cls : Fin 6
  part : Fin 8
  served : Nat
  deriving DecidableEq, Repr

/-- What one partition did in one regulator window on one channel (R205, R345): bytes moved, and whether it had a
request raised at every cycle in which it was not served. -/
structure WindowUse where
  bytes : Nat
  raised : Bool
  deriving DecidableEq, Repr

/-- The result of the per-lane test of one module (R240, R241): failing lanes, numbered 0 to 63. -/
structure LaneTest where
  module : Fin 140
  failed : List (Fin 64)
  deriving DecidableEq, Repr

/-- Signature outcomes of one signed object (R248, R379, R385): the keys and record layouts are not in the spec, so
Sentry's verdict is an input (notes/assumptions/6.md). -/
structure Sigs where
  ecdsa : Bool
  lms : Bool
  deriving DecidableEq, Repr

/-- Peer evidence as the checks of R271 see it. -/
structure EvidenceIn where
  wellFormed : Bool
  chainOk : Bool
  sigs : Sigs
  nonce : List Byte
  rank : Nat
  position : Nat
  port : Fin 16
  features : BitVec 128
  peerRejected : Bool
  delayPs : Nat
  deriving DecidableEq, Repr

/-- One profile block (R245): type, highest and lowest version, MANDATORY. -/
structure ProfileBlock where
  type : Nat
  hiVer : Nat
  loVer : Nat
  mandatory : Bool
  deriving DecidableEq, Repr

/-- A qualification record as the checks of R248 see it. -/
structure QualIn where
  wellFormed : Bool
  partner : Nat
  zenrid : Sigs
  partnerSigs : Sigs
  identityMatches : Bool
  serial : Nat
  raw : List Byte
  deriving DecidableEq, Repr

/-- The trigger of a host-facing reset (R330). -/
inductive HostReset | perst | linkDown | hotReset | flr
  deriving DecidableEq, Repr

/-- One measurement of the governor (R375 to R377, R187), watts and sixteenths of a degree Celsius: `dies` gives the hottest sensor of
each C-die and of its Plaza die; `held10ms` says that both conditions of R377 have held for 10 ms. -/
structure GovernorIn where
  pFix : Nat
  pMeas : Nat
  pMean : Nat
  pkgMeas : Nat
  pkgMean : Nat
  hotLogic : Int
  hotStack : Int
  dies : List (Int × Int)
  vin10mV : Nat
  held10ms : Bool
  deriving DecidableEq, Repr

/-- A firmware image (R379): its bytes, the version and the security version of its header, the two signature outcomes. -/
structure FirmwareIn where
  bytes : List Byte
  version : Nat
  secVersion : Nat
  sigs : Sigs
  deriving DecidableEq, Repr

/-- One partner of the partner key list (R385): number and minimum serial. -/
structure PartnerRow where
  partner : Nat
  minSerial : Nat
  deriving DecidableEq, Repr

/-- The commands. -/
inductive Instr
  -- power, pins and boot
  | pwrgd (slotId : Fin 64) (trefGood : Bool)
  | inputLow (vin10mV : Nat)
  | cablePresenceChange (port : Fin 12) (present : Bool)
  | pllLockLoss (domain : Fin 18)
  | bootStage (r : StageResult)
  -- tick
  | tickEnable (tree : Tree)
  | tickDisable
  | storedEnable (tree : Tree)
  | tckHoldAssert
  | tckHoldClear (mask : BitVec 16)
  | periodBoundary
  | tickComplete
  | epoch (port : Fin 12) (msg : TickWord) (phaseErrPs : Int)
  | epochWatchExpiry (tree : Tree)
  | pingInterval (timestamp : Nat)
  | ping (port : Fin 12) (msg : TickWord) (turnaround : Nat)
  | pong (port : Fin 12) (msg : TickWord) (arrival : Nat)
  | hold (port : Fin 12) (msg : TickWord)
  | stretch (port : Fin 12) (msg : TickWord)
  | stretchReport (port : Fin 12) (msg : TickWord)
  | stretchLowering
  | parked (port : Fin 12) (msg : TickWord)
  | masterResume (tree : Tree)
  | resume (port : Fin 12) (msg : TickWord)
  -- schedule images and slots
  | load (p : Fin 8)
  | loadDone (p : Fin 8) (due late : Bool)
  | unstage (p : Fin 8)
  | abort (p : Fin 8)
  | schStopWrite (p : Fin 8) (value : Word)
  | nop (p : Fin 8) (engine : Fin 7) (index : Nat)
  | matrixOperation (p : Fin 8) (cluster : Fin 384) (due : Bool)
  | storeA48 (p : Fin 8) (cluster : Fin 384)
  | loadA48 (p : Fin 8) (cluster : Fin 384) (due : Bool)
  | threadGroupLaunch (p : Fin 8) (cluster : Fin 384)
  | dataMoverTransfer (p : Fin 8) (cluster : Fin 384) (due : Bool)
  | send (p : Fin 8) (port : Fin 12) (due : Bool)
  | recv (p : Fin 8) (port : Fin 12) (ended : Bool)
  | collective (p : Fin 8) (engine : Fin 2) (due : Bool)
  | scheduledCopy (p : Fin 8) (engine : Fin 16) (due : Bool)
  | bestEffortWindow (p : Fin 8) (engine : Fin 16)
  | slotComplete (p : Fin 8) (engine : Fin 7) (index : Nat)
  | slotOverrun (p : Fin 8) (engine : Fin 7) (index : Nat) (excess : Nat)
  -- clusters and spares
  | spareSwap (logical : Fin 384)
  | automaticSwap (logical : Fin 384)
  | swapMove
  | swapDrainTimeout
  | spareSelfTest (failed : List (Fin 400))
  | cluSpillWrite (phys : Fin 400) (value : Word)
  | cluErrClear (phys : Fin 400)
  | settingChange (cluster : Fin 384)
  -- thread groups
  | launch (q : Nat) (seq : Nat)
  | blockStart (launchId : Nat) (cluster : Fin 384)
  | blockEnd (cluster : Fin 384) (block : Nat) (launchId : Nat)
  | threadLoad (g : GroupRef) (ls : Bool) (addrs : List Nat) (sizeLog2 : Fin 4) (dst : Fin 256) (evicted : Bool) (due : Bool)
  | threadStore (g : GroupRef) (ls : Bool) (addrs : List Nat) (sizeLog2 : Fin 4) (src : Fin 256)
  | floatInstruction (g : GroupRef) (op : FloatOp) (fmt : Fmt) (rm : Rm) (dst a b c : Fin 256)
  | conversionInstruction (g : GroupRef) (src dst : Fmt) (mode : ConvMode) (rm : Rm) (rd rs : Fin 256)
  | blockConversion (g : GroupRef) (lf4 : Bool) (src : Fmt) (mode : ConvMode) (rd rs : Fin 256)
  | divergentBranch (g : GroupRef) (reconv : Nat) (fall : Nat) (br : Branch)
  | threadExit (g : GroupRef) (mask : BitVec 32)
  | blockBarrier (g : GroupRef)
  | nflagsWrite (g : GroupRef) (mask : BitVec 4)
  | tmma (g : GroupRef) (units : BitVec 4) (ureg : Fin 64) (due : Bool)
  | tastore (g : GroupRef) (units : BitVec 4) (ureg : Fin 64)
  | taload (g : GroupRef) (units : BitVec 4) (ureg : Fin 64)
  | tmove (g : GroupRef) (mover : Fin 4) (ureg : Fin 64) (due : Bool)
  | ticketClose (g : GroupRef) (ticket : Fin 8)
  | twait (g : GroupRef) (ticket : Fin 8)
  -- memory model
  | fence (g : GroupRef) (scope : Scope) (kind : FenceKind)
  | atom (g : GroupRef) (op : AtomOp) (ty : AtomType) (order : Option (Scope × FenceKind)) (addrs : List Nat) (dst a b : Fin 256) (due : Bool)
  | red (g : GroupRef) (op : AtomOp) (ty : AtomType) (order : Option (Scope × FenceKind)) (addrs : List Nat) (a b : Fin 256) (due : Bool)
  | zline (g : GroupRef) (addrs : List Nat)
  | scienceFence (core : Fin 96) (pred succ : BitVec 4) (tso : Bool)
  | amo (core : Fin 96) (op : AtomOp) (ty : AtomType) (pa : Nat) (operand : Nat) (due : Bool)
  | lr (core : Fin 96) (pa : Nat) (size8 : Bool) (due : Bool)
  | sc (core : Fin 96) (pa : Nat) (size8 : Bool) (value : Nat)
  | reservationTimeout (core : Fin 96)
  | cboZero (core : Fin 96) (pa : Nat)
  -- group debug
  | tgdHalt
  | groupHalted (g : GroupRef)
  | tgdResume
  | tgdStep
  | stepDone (g : GroupRef)
  | tgdBlockStop
  | tgdBlockResume
  | tgdRdataWrite (value : Word)
  | histogramClear (phys : Fin 400) (unit : Fin 4)
  -- Plaza
  | plazaRequest (pa : Nat) (len : Nat) (kind : PlzKind) (tag : Nat) (parity : ParityOutcome) (hop : ParityOutcome)
  | fillReturn (slice : Fin 32) (line : Nat) (due : Bool)
  | parityHeaderTimeout (tag : Nat)
  | wayPowerWrite (die : Fin 4) (value : Word)
  | wayCleanDone (die : Fin 4)
  | wayPowerUpDone (die : Fin 4)
  | plzScrWrite (die : Fin 4) (p : Fin 8) (value : Word)
  -- memory tiers
  | alloc (q : Nat) (seq : Nat)
  | free (q : Nat) (seq : Nat)
  | memRegionWrite (k : Fin 256) (value : Word)
  | memBwrWrite (p : Fin 8) (value : Word)
  | regulatorWindow (channel : Fin 392) (use : List WindowUse)
  | patrolScrub (corrected uncorrectable : List Nat)
  | stackThermalStep (stack : Fin 12) (temp16 : Int)
  | retrain (channel : Fin 512)
  | repair (channel : Fin 512)
  | spare (channel : Fin 512)
  | channelSequenceStart (stack : Fin 12)
  | mirrorDone (channel : Fin 384)
  | redirectSwitch (channel : Fin 384)
  | channelWorkDone (channel : Fin 384) (trained : Bool)
  | restoreDone (channel : Fin 384)
  | restoreSwitch (channel : Fin 384)
  | channelDrift (channel : Fin 392)
  | unplannedRetrainEnd (channel : Fin 392)
  | unplannedRetrainTimeout (channel : Fin 392)
  | repairRecord (source reqId : Nat) (record : List Byte)
  | commitRepairs (auth : Auth) (value : Bool)
  | channelSpareCommit (auth : Auth) (channel : Fin 384)
  | channelSpareRelease (auth : Auth) (channel : Fin 384)
  -- Roundabout
  | binding (holder : Fin 512) (root : Fin 64) (part : Fin 8) (va len : Nat) (need : BitVec 3) (segment : Bool)
  | extentLookup (holder : Fin 512) (root : Fin 64) (va len : Nat)
  | staleRootRecheck (record : Fin 1024)
  | faultRecordTimeout (record : Fin 1024)
  | rbtCommit (root : Fin 64) (gen : Nat)
  | rbtRootWrite (root : Fin 64) (value : Word)
  | invalidate (root : Fin 64) (base : Nat) (order : Nat) (all : Bool)
  | recall (holder : Fin 512)
  | recallAck (holder : Fin 512)
  | retry (record : Fin 1024)
  | reject (record : Fin 1024) (status : Nat)
  -- Boulevard
  | flit (link : Fin 13) (bytes : List Byte)
  | boulevardRetrain (link : Fin 13) (trigger : Nat)
  | boulevardRetrainDone (link : Fin 13) (ok : Bool) (tests : List LaneTest)
  | x32Degrade (module : Fin 140)
  | guestSidebandAnswer
  | capabilityProfile (blocks : List ProfileBlock) (raw : List Byte)
  | qualificationRecord (r : QualIn)
  | qualificationTimeout
  | guestRetry
  | guestRequest (write : Bool) (pa : Nat) (len : Nat) (data : List Byte)
  | guestWindowWrite (w : Fin 4) (value : Word)
  | sensorPoll (logicMax : Int) (stackMax : List Int) (missing : List (Fin 21))
  | telemetryTimeout (die : Fin 21)
  -- gates
  | portEnable (port : Fin 12)
  | portDisable (port : Fin 12)
  | signalDetect (port : Fin 12)
  | trainingComplete (port : Fin 12)
  | trainingTimeout (port : Fin 12)
  | evidence (port : Fin 12) (e : EvidenceIn)
  | evidenceTimeout (port : Fin 12)
  | peerRejection (port : Fin 12)
  | lossOfSignal (port : Fin 12)
  | portRetrain (port : Fin 12)
  | rejectRetryExpiry (port : Fin 12)
  | portRetry (port : Fin 12)
  | linkNak (port : Fin 12) (lastSeq : Nat)
  | packetForward (port : Fin 12) (hdr : Header) (data : List Byte) (crcOk : Bool)
  | writePacket (port : Fin 12) (hdr : Header) (data : List Byte)
  | readPacket (port : Fin 12) (hdr : Header) (due : Bool)
  | atomicPacket (port : Fin 12) (hdr : Header) (op : AtomOp) (ty : AtomType) (a b : Nat)
  | qmsgPacket (port : Fin 12) (hdr : Header) (data : List Byte)
  | respPacket (port : Fin 12) (hdr : Header) (data : List Byte)
  | responseTimeout (tag : Nat)
  | schedPacket (port : Fin 12) (hdr : Header) (data : List Byte)
  | gteWinWrite (win : Fin 256) (word1 : Bool) (value : Word)
  | rankAssignment (auth : Auth) (rank : Nat)
  -- Square
  | allreduce (q : Nat) (seq : Nat)
  | reduceScatter (q : Nat) (seq : Nat)
  | broadcast (q : Nat) (seq : Nat)
  | collectiveStart (engine : Fin 2) (due : Bool)
  | exponentFrame (port : Fin 12) (hdr : Header) (frame : List Byte)
  | bsiDenseFrame (port : Fin 12) (hdr : Header) (frame : List Byte)
  | bsiSparseFrame (port : Fin 12) (hdr : Header) (frame : List Byte)
  | flaglistFrame (port : Fin 12) (hdr : Header) (frame : List Byte)
  | fp32Frame (port : Fin 12) (hdr : Header) (frame : List Byte)
  | onebitFrame (port : Fin 12) (hdr : Header) (frame : List Byte)
  | finalFrame (port : Fin 12) (hdr : Header) (frame : List Byte)
  | backupDeadline (engine : Fin 2) (collId : Nat) (slot : Nat) (firstBlock : Nat)
  | frameStallTimeout (engine : Fin 2) (collId : Nat) (slot : Nat)
  | sqrAbort (engine : Fin 2)
  | segmentPacket (port : Fin 12) (hdr : Header) (collId : Nat) (data : List Byte)
  | segmentTimeout (engine : Fin 2) (collId : Nat)
  | attach (port : Fin 12) (hdr : Header) (collId : Nat) (child lost seg : Nat)
  | resend (port : Fin 12) (hdr : Header) (collId : Nat) (child seg : Nat)
  | done (port : Fin 12) (hdr : Header) (collId : Nat) (child : Nat) (count : Nat)
  | broadcastDoneTimeout (engine : Fin 2) (collId : Nat)
  -- host, queues, copy engines
  | dbPi (q : Fin 262144) (pi : Nat)
  | cqCi (q : Fin 262144) (ci : Nat)
  | queueEnable (q : Fin 262144)
  | queueDisable (q : Fin 262144)
  | queueRestart (q : Fin 262144)
  | queueFetch (q : Fin 262144)
  | staleDescReread (q : Fin 262144)
  | queueNop (q : Nat) (seq : Nat)
  | copy (q : Nat) (seq : Nat) (due : Bool)
  | remoteQmsg (q : Nat) (seq : Nat)
  | remoteAtomic (q : Nat) (seq : Nat)
  | entryComplete (q : Nat) (seq : Nat)
  | kioskRead (offset : Nat) (len : Nat) (due : Bool)
  | kioskWrite (offset : Nat) (data : List Byte)
  | kioskAtomicOp (offset : Nat) (bytes : Nat) (op : AtomOp) (a b : Nat) (due : Bool)
  | kskWinBaseWrite (value : Word)
  | hostFacingReset (why : HostReset)
  | linkRecovery
  | busMasterEnable
  | hostLoadTimeout (g : Option GroupRef) (core : Fin 96)
  -- arbitration and partitions
  | arbiterGrant (a : Fin 6) (inst : Nat) (held : Option ArbReq) (ready : List ArbReq)
  | backoffExpiry (a : Fin 6) (inst : Nat) (requester : Nat)
  | p3QuotaWindow (a : Fin 6) (inst : Nat)
  | partitionCreate (auth : Auth) (p : Fin 8) (record : Word)
  | partitionDestroy (auth : Auth) (p : Fin 8) (record : Word)
  | retire (auth : Auth) (logical : Fin 384)
  | commitMap (auth : Auth) (value : Bool)
  -- control plane
  | read (source : Nat) (frame : List Byte)
  | write (source : Nat) (frame : List Byte)
  | readSeg (source : Nat) (frame : List Byte)
  | writeSeg (source : Nat) (frame : List Byte)
  | segmentedWriteTimeout (source : Nat) (key : Nat)
  | lockoutExpiry (slot : Fin 8)
  | mbxGo
  | featureAccept (source reqId : Nat) (vector : BitVec 128)
  | restoreDefaults (source reqId : Nat)
  -- power management and security
  | governor (m : GovernorIn)
  | sciCapStep (powerW : Nat) (hot16 : Int)
  | wholeDeviceReset (auth : Auth)
  | zeroise (auth : Auth)
  | firmwareUpdate (auth : Auth) (image : FirmwareIn)
  | commitRollback (auth : Auth)
  | keyChange (auth : Auth) (value : List Byte)
  | fuseWrite (auth : Auth) (code : Nat)
  | revocationListWrite (auth : Auth) (sigs : Sigs) (seq : Nat) (list : List Byte)
  | partnerKeyListWrite (auth : Auth) (sigs : Sigs) (seq : Nat) (partners : List PartnerRow) (list : List Byte)
  | quoteNonce (source reqId : Nat) (value : List Byte)
  | quote (source reqId : Nat)
  | serviceStateWrite (diagnostic : Bool)
  | debugUnlock (auth : Auth)
  | debugLock (auth : Auth)
  | registerWrite (offset : Nat) (size : Nat) (value : Word)
  | nonce (port : Fin 12) (bytes : List Byte)
  | linkAcknowledgement (port : Fin 12) (lastSeq : Nat) (credits : List Nat)
  | inputInSpecification
  | lastRequestStoreExpiry (slot : Fin 8)
  | poweredHours
  -- pins and rails without an operand: last, since compiled code numbers the constructors with operands up to 244
  | pwrEnRise
  | pwrEnHoldoffExpiry
  | pwrEnFall
  | railOutOfRegulation
  | undervoltage
  | overvoltage
  | thermtrip
  | perstDeassert
  | configurationReady
  | trefOutOfTolerance
  | trefRelock
  | bootStageTimeout
  deriving DecidableEq, Repr

end Sys2Proof
end

