-- ==== Sys2Proof/Machine/Numeric.lean ====
section
/-! DEFINITION. Number formats, A48, rounding and conversion (chapter 06). A decoded value is exact; a code is a number. -/

namespace Sys2Proof.Machine

open Sys2Proof

/-- A decoded value: a NaN with its signalling mark, sign and 52-bit left-aligned fraction; an infinity; or
(−1)^neg × m × 2^e. -/
inductive Num
  | nan (sig neg : Bool) (frac : Nat)
  | inf (neg : Bool)
  | fin (neg : Bool) (m : Nat) (e : Int)
  deriving DecidableEq, Repr

/-- A floating format (the table of format parameters): width, exponent bits, fraction bits, and whether it has infinities and a
negative zero. -/
structure FloatFmt where
  bits : Nat
  eb : Nat
  fb : Nat
  hasInf : Bool
  deriving DecidableEq, Repr

def ffp64 : FloatFmt := ⟨64, 11, 52, true⟩
def ffp32 : FloatFmt := ⟨32, 8, 23, true⟩
def ffp16 : FloatFmt := ⟨16, 5, 10, true⟩
def fbf16 : FloatFmt := ⟨16, 8, 7, true⟩
def flf8a : FloatFmt := ⟨8, 4, 3, false⟩
def flf8b : FloatFmt := ⟨8, 5, 2, true⟩
def flf6 : FloatFmt := ⟨6, 3, 2, false⟩
def flf4 : FloatFmt := ⟨4, 2, 1, false⟩
def fa48 : FloatFmt := ⟨48, 11, 36, true⟩

end Sys2Proof.Machine

namespace Sys2Proof

open Machine

/-- The floating format of a format name; none for an integer. -/
def Fmt.float : Fmt → Option FloatFmt
  | .fp64 => some ffp64
  | .fp32 => some ffp32
  | .fp16 => some ffp16
  | .bf16 => some fbf16
  | .lf8a => some flf8a
  | .lf8b => some flf8b
  | .lf6 => some flf6
  | .lf4 => some flf4
  | .a48 => some fa48
  | .int8 => none
  | .int4 => none
  | .int32 => none

/-- Element width in bits. -/
def Fmt.width : Fmt → Nat
  | .fp64 => 64
  | .fp32 => 32
  | .fp16 => 16
  | .bf16 => 16
  | .lf8a => 8
  | .lf8b => 8
  | .lf6 => 6
  | .lf4 => 4
  | .int8 => 8
  | .int4 => 4
  | .int32 => 32
  | .a48 => 48

/-- FP64, FP32, FP16 and BF16: the formats whose NaNs carry payloads (R123). -/
def Fmt.ieee : Fmt → Bool
  | .fp64 => true
  | .fp32 => true
  | .fp16 => true
  | .bf16 => true
  | .lf8a => false
  | .lf8b => false
  | .lf6 => false
  | .lf4 => false
  | .int8 => false
  | .int4 => false
  | .int32 => false
  | .a48 => false

end Sys2Proof

namespace Sys2Proof.Machine

open Sys2Proof

/-- The exponent bias. -/
def FloatFmt.bias (f : FloatFmt) : Int := 2 ^ (f.eb - 1) - 1

/-- The exponent of one unit in the last place of the subnormals. -/
def FloatFmt.qmin (f : FloatFmt) : Int := 1 - f.bias - f.fb

/-- The code of +infinity, where there is one. -/
def FloatFmt.infCode (f : FloatFmt) : Nat := (2 ^ f.eb - 1) * 2 ^ f.fb

/-- The code of the largest finite value. -/
def FloatFmt.maxCode (f : FloatFmt) : Nat := if f.hasInf then f.infCode - 1 else 2 ^ (f.eb + f.fb) - 1

/-- The sign bit. -/
def FloatFmt.signBit (f : FloatFmt) : Nat := 2 ^ (f.bits - 1)

/-- The canonical NaN (R123). -/
def FloatFmt.nanCode (f : FloatFmt) : Nat := if f.hasInf then f.infCode + 2 ^ (f.fb - 1) else f.signBit

/-- A signed code: the short formats without a negative zero deliver zero as the all-zero code (R127). -/
def FloatFmt.signed (f : FloatFmt) (neg : Bool) (mag : Nat) : Nat :=
  if neg && (f.hasInf || mag != 0) then f.signBit + mag else mag

/-- The value of a code (the general rule of chapter 06; R124 to R128, R131). -/
def FloatFmt.decode (f : FloatFmt) (code : Nat) : Num :=
  let neg := f.signBit ≤ code % 2 ^ f.bits
  let mag := code % f.signBit
  let e := mag / 2 ^ f.fb
  let m := mag % 2 ^ f.fb
  if f.hasInf && e == 2 ^ f.eb - 1 then
    if m = 0 then .inf neg else .nan (!bit m (f.fb - 1) && f.bits != 8 && f.bits != 48) neg (m * 2 ^ (52 - f.fb))
  else if !f.hasInf && neg && mag == 0 then .nan false false (2 ^ 51)
  else if e = 0 then .fin neg m f.qmin
  else .fin neg (2 ^ f.fb + m) (f.qmin + (e - 1 : Nat))

end Sys2Proof.Machine

namespace Sys2Proof

open Machine

/-- The value of a code of a named format; an integer's value is exact. -/
def Fmt.decode (f : Fmt) (code : Nat) : Machine.Num :=
  match f.float with
  | some g => g.decode code
  | none =>
    let v := sext f.width code
    .fin (v < 0) v.natAbs 0

end Sys2Proof

namespace Sys2Proof.Machine

open Sys2Proof

/-- floor(log2 m) for m > 0. -/
def ilog (m : Nat) : Nat := Nat.log2 m

/-- `m × 2^e` divided by 2^q and rounded to an integer by a rounding attribute; the second component says whether it was
inexact. -/
def roundAt (rm : Rm) (neg : Bool) (m : Nat) (e q : Int) : Nat × Bool :=
  if q ≤ e then (m * 2 ^ (e - q).toNat, false)
  else
    let s := (q - e).toNat
    let k := m / 2 ^ s
    let r := m % 2 ^ s
    let half := 2 ^ (s - 1)
    let up := match rm with
      | .tiesEven => half < r || (r == half && k % 2 == 1)
      | .tiesAway => half ≤ r
      | .towardZero => false
      | .towardPos => !neg && r != 0
      | .towardNeg => neg && r != 0
    (if up then k + 1 else k, r != 0)

/-- What rounding a nonzero finite value into a format gives: the magnitude code before any range check, whether it is inexact,
out of range (R134), and tiny (R138). -/
structure Rounded where
  mag : Nat
  inexact : Bool
  outRange : Bool
  tiny : Bool
  deriving DecidableEq, Repr

/-- Rounds `m × 2^e`, m > 0, into a format with an unbounded upper exponent. -/
def FloatFmt.round (f : FloatFmt) (rm : Rm) (neg : Bool) (m : Nat) (e : Int) : Rounded :=
  let top := (ilog m : Int) + e
  let q0 := top - f.fb
  let q := max q0 f.qmin
  let (k, ix) := roundAt rm neg m e q
  let (k0, _) := roundAt rm neg m e q0
  let mag := (q - f.qmin).toNat * 2 ^ f.fb + k
  -- with an unbounded exponent range the magnitude is k0 × 2^q0; the smallest normal is 2^fb × 2^qmin
  let tiny := decide (q0 < f.qmin) && !(k0 == 2 ^ (f.fb + 1) && q0 + 1 == f.qmin)
  ⟨mag, ix, decide (f.maxCode < mag), tiny⟩

/-- The IEEE overflow result of a rounding attribute: infinity, or the largest finite value (R135, INF). -/
def FloatFmt.overflow (f : FloatFmt) (rm : Rm) (neg : Bool) : Nat :=
  let toInf := match rm with
    | .tiesEven => true
    | .tiesAway => true
    | .towardZero => false
    | .towardPos => !neg
    | .towardNeg => neg
  f.signed neg (if toInf then f.infCode else f.maxCode)

/-- A finite value rounded into a format under a conversion mode: the code and its flags (R134, R135, R138). -/
def FloatFmt.ofFinite (f : FloatFmt) (mode : ConvMode) (rm : Rm) (neg : Bool) (m : Nat) (e : Int) : Nat × Nat :=
  if m = 0 then (f.signed neg 0, 0)
  else
    let r := f.round rm neg m e
    if r.outRange then
      (match mode with
       | .sat => f.signed neg f.maxCode
       | .inf => f.overflow rm neg
       | .nan => f.nanCode, flagOr fOF fNX)
    else (f.signed neg r.mag, flagOr (flagIf r.inexact fNX) (flagIf (r.inexact && r.tiny) fUF))

/-- A NaN with its payload kept: sign and high-order bits that fit, quiet bit set (R123). -/
def FloatFmt.nanKeep (f : FloatFmt) (neg : Bool) (frac : Nat) : Nat :=
  let m := frac / 2 ^ (52 - f.fb)
  f.signed neg (f.infCode + (if bit m (f.fb - 1) then m else m + 2 ^ (f.fb - 1)))

/-- The integer range of a format. -/
def intMax (w : Nat) : Nat := 2 ^ (w - 1) - 1

/-- A value converted to a w-bit two's complement integer: code and flags (R134, R137). -/
def toInteger (w : Nat) (rm : Rm) : Num → Nat × Nat
  | .nan _ _ _ => (0, fNV)
  | .inf neg => (if neg then 2 ^ (w - 1) else intMax w, fNV)
  | .fin neg m e =>
    let (k, ix) := roundAt rm neg m e 0
    if neg then if intMax w + 1 < k then (2 ^ (w - 1), flagOr fOF fNX) else (twos w (-(k : Int)), flagIf ix fNX)
    else if intMax w < k then (intMax w, flagOr fOF fNX)
    else (k, flagIf ix fNX)

/-- Conversion between formats: the destination's code and the flags (R123, R132 to R138). The rounding attribute counts for FP64,
FP32, FP16 and integers; every other destination rounds to nearest, ties to even (R134). INF mode with a destination without
infinity is refused before (R136). -/
def convert (src dst : Fmt) (mode : ConvMode) (rm : Rm) (x : Num) : Nat × Nat :=
  match dst.float with
  | none => toInteger dst.width rm x
  | some f =>
    let rm := if dst = .fp64 ∨ dst = .fp32 ∨ dst = .fp16 then rm else .tiesEven
    match x with
    | .nan sig neg frac =>
      (if src.ieee && dst.ieee then f.nanKeep neg frac else f.nanCode, flagIf sig fNV)
    | .inf neg =>
      if f.hasInf then (f.signed neg f.infCode, 0)
      else (match mode with
        | .nan => f.nanCode
        | .sat => f.signed neg f.maxCode
        | .inf => f.signed neg f.maxCode, fNV)
    | .fin neg m e => f.ofFinite mode rm neg m e

/-- Was a finite value replaced under R135 (R152, SATURATED)? -/
def convertOver (dst : Fmt) : Num → Bool
  | .fin neg m e =>
    match dst.float with
    | some f => m != 0 && (f.round .tiesEven neg m e).outRange
    | none => false
  | _ => false

/-- A block-scaled element: its code's value times 2^(s − 127); scale 0xFF makes it a quiet NaN (R129). -/
def scaled (s : Nat) (x : Num) : Num :=
  if s = 0xFF then .nan false false (2 ^ 51)
  else match x with
    | .fin neg m e => .fin neg m (e + s - 127)
    | y => y

/-! ### Exact arithmetic on decoded values -/

/-- The signed integer of a finite value in units of 2^q, for q ≤ e. -/
def finAt (neg : Bool) (m : Nat) (e q : Int) : Int :=
  let v : Int := m * 2 ^ (e - q).toNat
  if neg then -v else v

/-- The product of two values that are not NaN; none for 0 × ∞. -/
def mulNum : Num → Num → Option Num
  | .fin n m e, .fin n' m' e' => some (.fin (n != n') (m * m') (e + e'))
  | .fin n m _, .inf n' => if m = 0 then none else some (.inf (n != n'))
  | .inf n, .fin n' m _ => if m = 0 then none else some (.inf (n != n'))
  | .inf n, .inf n' => some (.inf (n != n'))
  | _, _ => none

/-- Is a value a NaN? -/
def Num.isNan : Num → Bool
  | .nan _ _ _ => true
  | _ => false

/-- Is a value a signalling NaN? -/
def Num.isSig : Num → Bool
  | .nan s _ _ => s
  | _ => false

/-- Is a value an infinity, and of which sign? -/
def Num.infSign : Num → Option Bool
  | .inf n => some n
  | _ => none

/-- The exact sum of two finite values; an exact zero takes the sign IEEE 754-2019 gives it. -/
def addFin (rm : Rm) (n : Bool) (m : Nat) (e : Int) (n' : Bool) (m' : Nat) (e' : Int) : Num :=
  let q := min e e'
  let v := finAt n m e q + finAt n' m' e' q
  if v = 0 then
    .fin (if m = 0 ∧ m' = 0 ∧ n = n' then n else rm == .towardNeg) 0 q
  else .fin (v < 0) v.natAbs q

/-- A finite or infinite result rounded into a format, IEEE overflow; NaN becomes canonical. -/
def roundNum (f : FloatFmt) (rm : Rm) : Num → Nat × Nat
  | .fin n m e => f.ofFinite .inf rm n m e
  | .inf n => (f.signed n f.infCode, 0)
  | .nan _ _ _ => (f.nanCode, 0)

/-- fusedMultiplyAdd on values: the code, the flags (R120, R145). A NaN result is canonical; 0 × ∞ signals NV even where c is a
quiet NaN. -/
def fmaNum (f : FloatFmt) (rm : Rm) (a b c : Num) : Nat × Nat :=
  let sig := a.isSig || b.isSig || c.isSig
  if a.isNan || b.isNan then (f.nanCode, flagIf sig fNV)
  else
    match mulNum a b with
    | none => (f.nanCode, fNV)
    | some p =>
      if c.isNan then (f.nanCode, flagIf sig fNV)
      else
        match p, c with
        | .inf n, .inf n' => if n = n' then (f.signed n f.infCode, 0) else (f.nanCode, fNV)
        | .inf n, _ => (f.signed n f.infCode, 0)
        | _, .inf n => (f.signed n f.infCode, 0)
        | .fin n m e, .fin n' m' e' => roundNum f rm (addFin rm n m e n' m' e')
        | _, _ => (f.nanCode, 0)

/-! ### The fast dot product (R140 to R144) -/

/-- Where an invalid operation arose in a step: its cause and product index (R149). -/
structure Invalid where
  cause : Nat
  index : Nat
  deriving DecidableEq, Repr

/-- The index of the first product with a signalling NaN element (R149, cause 3). -/
def firstSig (ab : List (Num × Num)) : Option Nat := ab.findIdx? fun p => p.1.isSig || p.2.isSig

/-- The index of the first 0 × ∞ product (cause 1). -/
def firstZeroInf (ab : List (Num × Num)) : Option Nat := ab.findIdx? fun p => (mulNum p.1 p.2).isNone

/-- The scan for infinities of both signs (R149, cause 2): `seen` is the sign of the infinite terms met so far. -/
def firstInfClash : List (Num × Num) → Nat → Option Bool → Option Nat
  | [], _, _ => none
  | p :: r, i, seen =>
    match (mulNum p.1 p.2).bind Num.infSign with
    | none => firstInfClash r (i + 1) seen
    | some s =>
      match seen with
      | none => firstInfClash r (i + 1) (some s)
      | some t => if s = t then firstInfClash r (i + 1) seen else some i

/-- round37: the top 37 bits of a window sum with sticky bit, rounded as R143 rounds: quotient, remainder test. -/
def roundSticky (w : Nat) (sticky : Bool) (lsb p : Int) : Nat × Bool :=
  if p ≤ lsb then (w * 2 ^ (lsb - p).toNat, sticky)
  else
    let s := (p - lsb).toNat
    let q := w / 2 ^ s
    let r := w % 2 ^ s
    let half := 2 ^ (s - 1)
    (if half < r || (r == half && (sticky || q % 2 == 1)) then q + 1 else q, r != 0 || sticky)

/-- The finite procedure of R143 on exact terms: an A48 code and its flags. -/
def sumWindow (terms : List (Bool × Nat × Int)) : Nat × Nat :=
  let nz := terms.filter fun t => t.2.1 != 0
  match nz with
  | [] => (fa48.signed (terms.all fun t => t.1) 0, 0)
  | t0 :: rest =>
    let emax := rest.foldl (fun a t => max a ((ilog t.2.1 : Int) + t.2.2)) ((ilog t0.2.1 : Int) + t0.2.2)
    let lsb := emax - 120
    let part (t : Bool × Nat × Int) : Nat × Bool :=
      if lsb ≤ t.2.2 then (t.2.1 * 2 ^ (t.2.2 - lsb).toNat, false)
      else (t.2.1 / 2 ^ (lsb - t.2.2).toNat, t.2.1 % 2 ^ (lsb - t.2.2).toNat != 0)
    let sticky := nz.any fun t => (part t).2
    let w : Int := nz.foldl (fun a t => if t.1 then a - (part t).1 else a + (part t).1) 0
    if w = 0 then (0, flagIf sticky fNX)
    else
      let neg : Bool := w < 0
      let ev := (ilog w.natAbs : Int) + lsb
      let (q, ix) := roundSticky w.natAbs sticky lsb (max (ev - 36) (-1058))
      let mag := (max (ev - 36) (-1058) + 1058).toNat * 2 ^ 36 + q
      if fa48.maxCode < mag then (fa48.signed neg fa48.infCode, flagOr fOF fNX)
      else
        let (q37, _) := roundSticky w.natAbs sticky lsb (ev - 36)
        let tiny := decide (ev - 36 < -1058) && !(q37 == 2 ^ 37 && ev - 35 == -1058)
        (fa48.signed neg mag, flagOr (flagIf ix fNX) (flagIf (ix && tiny) fUF))

/-- One fast step of one accumulator (R140 to R143): the A48 code, the flags, and the invalid operation if any. An absent
accumulator is −0 (R141). -/
def fastStep (ab : List (Num × Num)) (acc : Option Num) : Nat × Nat × Option Invalid :=
  let c := acc.getD (.fin true 0 0)
  if c.isNan || ab.any fun p => p.1.isNan || p.2.isNan then
    match firstSig ab with
    | some i => (fa48.nanCode, fNV, some ⟨3, i⟩)
    | none => (fa48.nanCode, 0, none)
  else
    let z := firstZeroInf ab
    let k := firstInfClash ab 0 c.infSign
    match z, k with
    | some i, some j => (fa48.nanCode, fNV, some (if i < j then ⟨1, i⟩ else ⟨2, j⟩))
    | some i, none => (fa48.nanCode, fNV, some ⟨1, i⟩)
    | none, some j => (fa48.nanCode, fNV, some ⟨2, j⟩)
    | none, none =>
      let prods := ab.filterMap fun p => mulNum p.1 p.2
      match (c :: prods).findSome? Num.infSign with
      | some s => (fa48.signed s fa48.infCode, 0, none)
      | none =>
        let terms := (match acc with
          | some a => a :: prods
          | none => prods).filterMap fun (t : Num) => match t with
            | Num.fin n m e => some (n, m, e)
            | _ => none
        let r := sumWindow terms
        (r.1, r.2, none)

/-- One integer step (R83): the exact sum of the products and the accumulator, saturated to 48 bits. -/
def intStep (ab : List (Num × Num)) (acc : Option Int) : Int × Nat :=
  let v (x : Num) : Int := match x with
    | .fin n m _ => if n then -(m : Int) else m
    | _ => 0
  let s := ab.foldl (fun a p => a + v p.1 * v p.2) (acc.getD 0)
  if s < -(2 ^ 47) then (-(2 ^ 47), flagOr fOF fNX)
  else if 2 ^ 47 - 1 < s then (2 ^ 47 - 1, flagOr fOF fNX)
  else (s, 0)

/-- The strict chain (R145) in working format `f` from running code `c` and index `i`: the final code, the union of the flags, and
the index of the first fused multiply-add that raised NV. -/
def strictChain (f : FloatFmt) : List (Num × Num) → Nat → Nat → Nat × Nat × Option Nat
  | [], c, _ => (c, 0, none)
  | p :: r, c, i =>
    let (c', fl) := fmaNum f .tiesEven p.1 p.2 (f.decode c)
    let (z, fl', inv) := strictChain f r c' (i + 1)
    (z, flagOr fl fl', if hasNV fl then some i else inv)

/-! ### Block conversion (R139) -/

/-- The scale byte of a block of values for LF4 or LF6. -/
def blockScale (lf4 : Bool) (xs : List Num) : Nat :=
  let f := if lf4 then flf4 else flf6
  let emax : Int := if lf4 then 2 else 4
  let mags := xs.filterMap fun (x : Num) => match x with
    | Num.fin _ m e => if m = 0 then none else some (m, e)
    | _ => none
  match mags with
  | [] => 127
  | t :: r =>
    -- the larger of two positive values m × 2^e
    let big := r.foldl (fun (a b : Nat × Int) =>
      let q := min a.2 b.2
      if a.1 * 2 ^ (a.2 - q).toNat < b.1 * 2 ^ (b.2 - q).toNat then b else a) t
    let s := (ilog big.1 : Int) + big.2 - emax + 127
    let s := if (f.round .tiesEven false big.1 (big.2 - (s - 127))).outRange then s + 1 else s
    (min (max s 0) 254).toNat

/-- A value divided by 2^(s − 127). -/
def unscale (s : Nat) : Num → Num
  | .fin n m e => .fin n m (e - ((s : Int) - 127))
  | x => x

end Sys2Proof.Machine
end

