-- ==== Sys2Proof/Machine/Floats.lean ====
section
/-! DEFINITION. Element-wise floating arithmetic (R120 to R123) and the arithmetic of atomics (R165, R167). Codes go in, a code
and flags come out. -/

namespace Sys2Proof.Machine

open Sys2Proof

/-- The root of `r`, rounded down, bit by bit from bit `n - 1`. -/
def isqrtFrom : Nat → Nat → Nat → Nat
  | 0, _, acc => acc
  | n + 1, r, acc => isqrtFrom n r (if (acc + 2 ^ n) * (acc + 2 ^ n) ≤ r then acc + 2 ^ n else acc)

/-- The integer square root. -/
def isqrt (r : Nat) : Nat := isqrtFrom (Nat.log2 r / 2 + 1) r 0

/-- A finite quotient with a last bit that says whether it was cut: exact for every rounding of the formats here. -/
def divFin (n : Bool) (m : Nat) (e : Int) (n' : Bool) (m' : Nat) (e' : Int) : Num :=
  let k := 128 + ilog m'
  .fin (n != n') (2 * (m * 2 ^ k / m') + b2n (m * 2 ^ k % m' != 0)) (e - e' - k - 1)

/-- A finite square root with a last bit that says whether it was cut. -/
def sqrtFin (m : Nat) (e : Int) : Num :=
  let odd : Bool := e % 2 != 0
  let m := (if odd then 2 * m else m) * 2 ^ 256
  let e := (if odd then e - 1 else e) - 256
  let s := isqrt m
  .fin false (2 * s + b2n (s * s != m)) (e / 2 - 1)

/-- Sign of a value that is not NaN. -/
def Num.neg : Num → Bool
  | .nan _ n _ => n
  | .inf n => n
  | .fin n _ _ => n

/-- Is a value a zero? -/
def Num.isZero : Num → Bool
  | .fin _ m _ => m == 0
  | _ => false

/-- The same value with the other sign. -/
def Num.negate : Num → Num
  | .nan s n f => .nan s (!n) f
  | .inf n => .inf (!n)
  | .fin n m e => .fin (!n) m e

/-- `a < b` on values that are not NaN. -/
def ltNum : Num → Num → Bool
  | .inf n, .inf n' => n && !n'
  | .inf n, _ => n
  | _, .inf n => !n
  | .fin n m e, .fin n' m' e' => decide (finAt n m e (min e e') < finAt n' m' e' (min e e'))
  | _, _ => false

/-- Addition on values that are not NaN: the code and its flags. -/
def addNum (f : FloatFmt) (rm : Rm) (a b : Num) : Nat × Nat :=
  match a, b with
  | .inf n, .inf n' => if n = n' then (f.signed n f.infCode, 0) else (f.nanCode, fNV)
  | .inf n, _ => (f.signed n f.infCode, 0)
  | _, .inf n => (f.signed n f.infCode, 0)
  | .fin n m e, .fin n' m' e' => roundNum f rm (addFin rm n m e n' m' e')
  | _, _ => (f.nanCode, 0)

/-- Division on values that are not NaN. A quotient by zero is an infinity; none of the four flags stands for it
(notes/assumptions/12.md). -/
def divNum (f : FloatFmt) (rm : Rm) (a b : Num) : Nat × Nat :=
  match a, b with
  | .inf _, .inf _ => (f.nanCode, fNV)
  | .inf n, x => (f.signed (n != x.neg) f.infCode, 0)
  | x, .inf n => (f.signed (x.neg != n) 0, 0)
  | .fin n m e, .fin n' m' e' =>
    if m' = 0 then if m = 0 then (f.nanCode, fNV) else (f.signed (n != n') f.infCode, 0)
    else if m = 0 then (f.signed (n != n') 0, 0)
    else roundNum f rm (divFin n m e n' m' e')
  | _, _ => (f.nanCode, 0)

/-- Square root of a value that is not NaN. -/
def sqrtNum (f : FloatFmt) (rm : Rm) : Num → Nat × Nat
  | .inf n => if n then (f.nanCode, fNV) else (f.infCode, 0)
  | .fin n m e =>
    if m = 0 then (f.signed n 0, 0) else if n then (f.nanCode, fNV) else roundNum f rm (sqrtFin m e)
  | .nan _ _ _ => (f.nanCode, 0)

/-- A NaN among several candidates, quiet, by a free pick: IEEE 754-2019 leaves open which payload and which sign a result
NaN has when operands are NaN (R120; notes/assumptions/12.md). -/
def pickNan (f : FloatFmt) (pick : Nat) (codes : List Nat) : Nat :=
  let c := codes.getD (pick % codes.length) f.nanCode
  let mag := c % f.signBit
  f.signed (bit (pick / codes.length) 0) (if bit mag (f.fb - 1) then mag else mag + 2 ^ (f.fb - 1))

/-- An element-wise operation that delivers a floating value, given the operand codes it uses. -/
def arithOp (f : FloatFmt) (rm : Rm) (pick : Nat) (op : FloatOp) (a b c : Nat) : Nat × Nat :=
  let x := f.decode a
  let y := f.decode b
  let z := f.decode c
  let used := match op with
    | .sqrt => [a]
    | .fma => [a, b, c]
    | _ => [a, b]
  let nans := used.filter fun w => (f.decode w).isNan
  let sig := used.any fun w => (f.decode w).isSig
  if nans.isEmpty then
    match op with
    | .add => addNum f rm x y
    | .sub => addNum f rm x y.negate
    | .mul => (match mulNum x y with
      | some p => roundNum f rm p
      | none => (f.nanCode, fNV))
    | .div => divNum f rm x y
    | .sqrt => sqrtNum f rm x
    | _ => fmaNum f rm x y z
  else if op = .fma ∧ !x.isNan ∧ !y.isNan ∧ (mulNum x y).isNone then (pickNan f pick (f.nanCode :: nans), fNV)
  else (pickNan f pick nans, flagIf sig fNV)

/-- A comparison: 1 where it holds. Less-than comparisons signal on every NaN, equality on a signalling one. -/
def compareOp (f : FloatFmt) (op : FloatOp) (a b : Nat) : Nat × Nat :=
  let x := f.decode a
  let y := f.decode b
  if x.isNan || y.isNan then (0, flagIf (op != .eq || x.isSig || y.isSig) fNV)
  else
    match op with
    | .lt => (b2n (ltNum x y), 0)
    | .le => (b2n (!ltNum y x), 0)
    | _ => (b2n (!ltNum x y && !ltNum y x), 0)

/-- An element-wise floating instruction on one thread's operands (R120, R122): BF16 rounds to nearest, ties to even, always. -/
def floatOp (fmt : Fmt) (f : FloatFmt) (rm : Rm) (pick : Nat) (op : FloatOp) (a b c : Nat) : Nat × Nat :=
  match op with
  | .lt => compareOp f .lt a b
  | .le => compareOp f .le a b
  | .eq => compareOp f .eq a b
  | o => arithOp f (if fmt = .bf16 then .tiesEven else rm) pick o a b c

/-! ### Atomics (R165, R167) -/

/-- The bytes of an atomic's operand. -/
def atomBytes : AtomType → Nat
  | .u32 => 4
  | .i32 => 4
  | .fp32 => 4
  | .u64 => 8
  | .i64 => 8
  | .fp64 => 8

/-- Is an operation defined on a type (R165)? -/
def atomOk : AtomOp → AtomType → Bool
  | .add, t => t == .u32 || t == .u64 || t == .fp32 || t == .fp64
  | .min, t => t == .i32 || t == .i64 || t == .u32 || t == .u64
  | .max, t => t == .i32 || t == .i64 || t == .u32 || t == .u64
  | .and, t => t == .u32 || t == .u64
  | .or, t => t == .u32 || t == .u64
  | .xor, t => t == .u32 || t == .u64
  | .exch, t => t == .u32 || t == .u64
  | .cas, t => t == .u32 || t == .u64
  | .inc, t => t == .u32
  | .dec, t => t == .u32

/-- Floating ADD of an atomic: nearest, ties to even; a NaN result is canonical; no flag (R167). -/
def atomFAdd (f : FloatFmt) (a b : Nat) : Nat :=
  let x := f.decode a
  let y := f.decode b
  if x.isNan || y.isNan then f.nanCode else (addNum f .tiesEven x y).1

/-- Is `a` less than `b` in an atomic's integer type? -/
def atomLt (t : AtomType) (a b : Nat) : Bool :=
  if t = .i32 ∨ t = .i64 then decide (sext (8 * atomBytes t) a < sext (8 * atomBytes t) b) else a < b

/-- What an atomic leaves in memory (R165): `old` the value there, `a` and `b` the operands. -/
def atomNew (op : AtomOp) (t : AtomType) (old a b : Nat) : Nat :=
  let w := 2 ^ (8 * atomBytes t)
  let a := a % w
  let b := b % w
  match op with
  | .add =>
    (match t with
     | .fp32 => atomFAdd ffp32 old a
     | .fp64 => atomFAdd ffp64 old a
     | _ => (old + a) % w)
  | .min => if atomLt t a old then a else old
  | .max => if atomLt t old a then a else old
  | .and => old &&& a
  | .or => old ||| a
  | .xor => old ^^^ a
  | .exch => a
  | .cas => if old = a then b else old
  | .inc => if a ≤ old then 0 else old + 1
  | .dec => if old = 0 ∨ a < old then a else old - 1

end Sys2Proof.Machine
end

