-- ==== Sys2Proof/Machine/RegMap.lean ====
section
/-! DEFINITION. The register map of BAR0: for every register its name, where it and its copies lie, and its fields with
bits, access code and reset value, as the register maps of the chapters give them (R6 to R9). -/

namespace Sys2Proof.Machine

def rowIdfId : RegRow := ⟨"IDF_ID", 0x0, [], [⟨40, 8, .ro, 96⟩, ⟨24, 16, .ro, 384⟩, ⟨8, 8, .ro, 9⟩, ⟨0, 8, .ro, 32⟩]⟩
def rowIdfOffer : RegRow := ⟨"IDF_OFFER", 0x8, [(0x8, 2)], [⟨0, 64, .ro, 0⟩]⟩
def rowIdfNeg : RegRow := ⟨"IDF_NEG", 0x18, [(0x8, 2)], [⟨0, 64, .ro, 0⟩]⟩

def regBlock0 : List RegRow := [rowIdfId, rowIdfOffer, rowIdfNeg]

def rowTckCtrl : RegRow := ⟨"TCK_CTRL", 0x100000, [], [⟨40, 8, .rw, 0⟩, ⟨26, 14, .rw, 0⟩, ⟨23, 3, .rw, 2⟩, ⟨8, 12, .rw, 0⟩, ⟨4, 2, .rw, 0⟩, ⟨0, 1, .rw, 0⟩]⟩
def rowTckStatus : RegRow := ⟨"TCK_STATUS", 0x100008, [], [⟨48, 16, .ro, 0⟩, ⟨32, 16, .ro, 0⟩, ⟨26, 6, .ro, 0⟩, ⟨20, 6, .ro, 0⟩, ⟨17, 3, .ro, 2⟩, ⟨8, 8, .ro, 0⟩, ⟨0, 3, .ro, 0⟩]⟩
def rowTckTn : RegRow := ⟨"TCK_TN", 0x100010, [], [⟨0, 64, .ro, 0⟩]⟩
def rowTckEpoch : RegRow := ⟨"TCK_EPOCH", 0x100018, [], [⟨0, 64, .ro, 0⟩]⟩
def rowTckHold : RegRow := ⟨"TCK_HOLD", 0x100020, [], [⟨16, 16, .wo, 0⟩, ⟨0, 1, .wo, 0⟩]⟩
def rowTckHoldLog : RegRow := ⟨"TCK_HOLD_LOG", 0x100028, [], [⟨50, 14, .ro, 0⟩, ⟨46, 4, .ro, 0⟩, ⟨40, 6, .ro, 0⟩, ⟨32, 8, .ro, 0⟩, ⟨0, 32, .ro, 0⟩]⟩
def rowTckPhase : RegRow := ⟨"TCK_PHASE", 0x100030, [], [⟨32, 32, .ro, 0⟩, ⟨0, 32, .ro, 0⟩]⟩
def rowTckReach : RegRow := ⟨"TCK_REACH", 0x100038, [], [⟨40, 8, .ro, 0⟩, ⟨32, 8, .ro, 0⟩, ⟨0, 32, .ro, 0⟩]⟩

def regBlock1 : List RegRow := [rowTckCtrl, rowTckStatus, rowTckTn, rowTckEpoch, rowTckHold, rowTckHoldLog, rowTckPhase, rowTckReach]

def rowSchSrc : RegRow := ⟨"SCH_SRC", 0x200000, [(0x40, 8)], [⟨0, 56, .rw, 0⟩]⟩
def rowSchSize : RegRow := ⟨"SCH_SIZE", 0x200008, [(0x40, 8)], [⟨0, 27, .rw, 0⟩]⟩
def rowSchCtrl : RegRow := ⟨"SCH_CTRL", 0x200010, [(0x40, 8)], [⟨2, 1, .wo, 0⟩, ⟨1, 1, .wo, 0⟩, ⟨0, 1, .wo, 0⟩]⟩
def rowSchStop : RegRow := ⟨"SCH_STOP", 0x200018, [(0x40, 8)], [⟨32, 1, .rw, 0⟩, ⟨0, 32, .rw, 0⟩]⟩
def rowSchStatus : RegRow := ⟨"SCH_STATUS", 0x200020, [(0x40, 8)], [⟨56, 8, .ro, 0⟩, ⟨48, 8, .ro, 0⟩, ⟨18, 27, .ro, 0⟩, ⟨4, 4, .ro, 0⟩, ⟨0, 4, .ro, 0⟩]⟩
def rowSchPass : RegRow := ⟨"SCH_PASS", 0x200028, [(0x40, 8)], [⟨32, 32, .ro, 0⟩, ⟨0, 32, .ro, 0⟩]⟩
def rowSchOvr : RegRow := ⟨"SCH_OVR", 0x200030, [(0x40, 8)], [⟨60, 4, .ro, 0⟩, ⟨59, 1, .ro, 0⟩, ⟨58, 1, .ro, 0⟩, ⟨40, 16, .ro, 0⟩, ⟨16, 24, .ro, 0⟩, ⟨0, 16, .ro, 0⟩]⟩
def rowSchOvrTn : RegRow := ⟨"SCH_OVR_TN", 0x200038, [(0x40, 8)], [⟨0, 64, .ro, 0⟩]⟩
def rowSchTrc : RegRow := ⟨"SCH_TRC", 0x200200, [], [⟨16, 8, .ro, 0⟩, ⟨12, 4, .ro, 0⟩, ⟨7, 1, .ro, 0⟩, ⟨6, 1, .ro, 0⟩]⟩

def regBlock2 : List RegRow := [rowSchSrc, rowSchSize, rowSchCtrl, rowSchStop, rowSchStatus, rowSchPass, rowSchOvr, rowSchOvrTn, rowSchTrc]

def rowCluId : RegRow := ⟨"CLU_ID", 0x400000, [(0x1000, 400)], [⟨40, 4, .ro, 0⟩, ⟨31, 9, .ro, 0⟩, ⟨24, 2, .ro, 0⟩, ⟨20, 4, .ro, 0⟩, ⟨16, 4, .ro, 0⟩, ⟨0, 9, .ro, 0⟩]⟩
def rowCluSram : RegRow := ⟨"CLU_SRAM", 0x400008, [(0x1000, 400)], [⟨4, 4, .ro, 0⟩, ⟨0, 4, .ro, 1⟩]⟩
def rowCluSpill : RegRow := ⟨"CLU_SPILL", 0x400010, [(0x1000, 400)], [⟨32, 6, .rw, 0⟩, ⟨0, 32, .rw, 0⟩]⟩
def rowCluErr : RegRow := ⟨"CLU_ERR", 0x400018, [(0x1000, 400)], [⟨32, 32, .ro, 0⟩, ⟨16, 16, .ro, 0⟩, ⟨0, 1, .wo, 0⟩]⟩
def rowCluSpillcnt : RegRow := ⟨"CLU_SPILLCNT", 0x400020, [(0x1000, 400)], [⟨0, 64, .ro, 0⟩]⟩

def regBlock4 : List RegRow := [rowCluId, rowCluSram, rowCluSpill, rowCluErr, rowCluSpillcnt]

def rowCluLmap : RegRow := ⟨"CLU_LMAP", 0x590000, [(0x8, 384)], [⟨15, 1, .ro, 0⟩, ⟨0, 9, .ro, 0⟩]⟩
def rowCluSwap : RegRow := ⟨"CLU_SWAP", 0x591000, [], [⟨28, 4, .ro, 0⟩, ⟨16, 9, .rw, 0⟩, ⟨0, 1, .wo, 0⟩]⟩

def regBlock5 : List RegRow := [rowCluLmap, rowCluSwap]

def rowTgdCtrl : RegRow := ⟨"TGD_CTRL", 0x800000, [], [⟨1, 1, .rw, 0⟩, ⟨0, 1, .ro, 0⟩]⟩
def rowTgdSel : RegRow := ⟨"TGD_SEL", 0x800008, [], [⟨32, 9, .rw, 0⟩, ⟨0, 6, .rw, 0⟩]⟩
def rowTgdCmd : RegRow := ⟨"TGD_CMD", 0x800010, [], [⟨0, 3, .wo, 0⟩]⟩
def rowTgdState : RegRow := ⟨"TGD_STATE", 0x800018, [], [⟨56, 8, .ro, 0⟩, ⟨48, 8, .ro, 0⟩, ⟨16, 32, .ro, 0⟩, ⟨11, 5, .ro, 0⟩, ⟨9, 2, .ro, 0⟩, ⟨0, 3, .ro, 0⟩]⟩
def rowTgdPc : RegRow := ⟨"TGD_PC", 0x800020, [], [⟨0, 56, .rw, 0⟩]⟩
def rowTgdMask : RegRow := ⟨"TGD_MASK", 0x800028, [], [⟨32, 32, .ro, 0⟩, ⟨0, 32, .rw, 0⟩]⟩
def rowTgdRsel : RegRow := ⟨"TGD_RSEL", 0x800030, [], [⟨16, 5, .rw, 0⟩, ⟨8, 2, .rw, 0⟩, ⟨0, 8, .rw, 0⟩]⟩
def rowTgdRdata : RegRow := ⟨"TGD_RDATA", 0x800038, [], [⟨0, 64, .rw, 0⟩]⟩
def rowTgdSum : RegRow := ⟨"TGD_SUM", 0x800040, [], [⟨6, 1, .ro, 0⟩]⟩

def regBlock8 : List RegRow := [rowTgdCtrl, rowTgdSel, rowTgdCmd, rowTgdState, rowTgdPc, rowTgdMask, rowTgdRsel, rowTgdRdata, rowTgdSum]

def rowNumFlags : RegRow := ⟨"NUM_FLAGS", 0xA00000, [(0x800, 400)], [⟨16, 4, .w1c, 0⟩, ⟨12, 4, .w1c, 0⟩, ⟨8, 4, .w1c, 0⟩, ⟨4, 4, .w1c, 0⟩, ⟨0, 4, .w1c, 0⟩]⟩
def rowNumFicWhere : RegRow := ⟨"NUM_FIC_WHERE", 0xA00040, [(0x800, 400), (0x18, 5)], [⟨63, 1, .w1c, 0⟩, ⟨60, 3, .ro, 0⟩, ⟨0, 60, .ro, 0⟩]⟩
def rowNumFicAux : RegRow := ⟨"NUM_FIC_AUX", 0xA00048, [(0x800, 400), (0x18, 5)], [⟨0, 56, .ro, 0⟩]⟩
def rowNumFicTn : RegRow := ⟨"NUM_FIC_TN", 0xA00050, [(0x800, 400), (0x18, 5)], [⟨0, 64, .ro, 0⟩]⟩
def rowNumHctrl : RegRow := ⟨"NUM_HCTRL", 0xA000C0, [(0x800, 400), (0x8, 4)], [⟨8, 8, .rw, 224⟩, ⟨0, 1, .wo, 0⟩]⟩
def rowNumHist : RegRow := ⟨"NUM_HIST", 0xA00100, [(0x800, 400), (0x140, 4), (0x8, 32)], [⟨32, 32, .ro, 0⟩, ⟨0, 32, .ro, 0⟩]⟩
def rowNumHspec : RegRow := ⟨"NUM_HSPEC", 0xA00200, [(0x800, 400), (0x140, 4), (0x8, 2)], [⟨32, 32, .ro, 0⟩, ⟨0, 32, .ro, 0⟩]⟩
def rowNumCtrl : RegRow := ⟨"NUM_CTRL", 0xAC8000, [], [⟨0, 1, .rw, 0⟩]⟩
def rowNumStatus : RegRow := ⟨"NUM_STATUS", 0xAC8008, [], [⟨0, 1, .ro, 1⟩]⟩
def rowNumSqFlags : RegRow := ⟨"NUM_SQ_FLAGS", 0xAC8010, [(0x8, 2)], [⟨0, 4, .w1c, 0⟩]⟩

def regBlockA : List RegRow := [rowNumFlags, rowNumFicWhere, rowNumFicAux, rowNumFicTn, rowNumHctrl, rowNumHist, rowNumHspec, rowNumCtrl, rowNumStatus, rowNumSqFlags]

def rowPlzDcfg : RegRow := ⟨"PLZ_DCFG", 0xB00000, [(0x10000, 4)], [⟨8, 8, .ro, 16⟩, ⟨0, 3, .ro, 0⟩]⟩
def rowPlzWays : RegRow := ⟨"PLZ_WAYS", 0xB00008, [(0x10000, 4)], [⟨0, 8, .rw, 255⟩]⟩
def rowPlzWstat : RegRow := ⟨"PLZ_WSTAT", 0xB00010, [(0x10000, 4)], [⟨32, 32, .ro, 0⟩, ⟨8, 8, .ro, 255⟩, ⟨0, 4, .ro, 0⟩]⟩
def rowPlzTemp : RegRow := ⟨"PLZ_TEMP", 0xB00018, [(0x10000, 4)], [⟨16, 16, .ro, 0⟩, ⟨0, 16, .ro, 0⟩]⟩
def rowPlzScr : RegRow := ⟨"PLZ_SCR", 0xB00040, [(0x10000, 4), (0x8, 8)], [⟨32, 16, .rw, 0⟩, ⟨0, 32, .rw, 0⟩]⟩
def rowPlzHit : RegRow := ⟨"PLZ_HIT", 0xB01000, [(0x10000, 4), (0x1000, 8)], [⟨0, 64, .ro, 0⟩]⟩
def rowPlzMiss : RegRow := ⟨"PLZ_MISS", 0xB01008, [(0x10000, 4), (0x1000, 8)], [⟨0, 64, .ro, 0⟩]⟩
def rowPlzMshr : RegRow := ⟨"PLZ_MSHR", 0xB01010, [(0x10000, 4), (0x1000, 8)], [⟨32, 32, .ro, 0⟩, ⟨16, 9, .ro, 0⟩, ⟨0, 9, .ro, 0⟩]⟩
def rowPlzPerr : RegRow := ⟨"PLZ_PERR", 0xB01018, [(0x10000, 4), (0x1000, 8)], [⟨32, 32, .ro, 0⟩, ⟨16, 16, .ro, 0⟩, ⟨0, 16, .ro, 0⟩]⟩

def regBlockB : List RegRow := [rowPlzDcfg, rowPlzWays, rowPlzWstat, rowPlzTemp, rowPlzScr, rowPlzHit, rowPlzMiss, rowPlzMshr, rowPlzPerr]

def rowMemRegion : RegRow := ⟨"MEM_REGION", 0xC00000, [(0x8, 256)], [⟨16, 24, .ro, 0⟩, ⟨0, 2, .rw, 0⟩]⟩
def rowMemChan : RegRow := ⟨"MEM_CHAN", 0xC01000, [(0x8, 384)], [⟨48, 16, .ro, 0⟩, ⟨32, 16, .ro, 0⟩, ⟨8, 20, .ro, 0⟩, ⟨0, 4, .ro, 0⟩]⟩
def rowMemStack : RegRow := ⟨"MEM_STACK", 0xC02000, [(0x8, 12)], [⟨48, 16, .ro, 0⟩, ⟨40, 8, .ro, 255⟩, ⟨34, 2, .ro, 0⟩, ⟨16, 16, .ro, 0⟩, ⟨0, 16, .ro, 0⟩]⟩
def rowMemRr : RegRow := ⟨"MEM_RR", 0xC02080, [(0x8, 8)], [⟨48, 16, .ro, 0⟩, ⟨32, 16, .ro, 0⟩, ⟨16, 16, .ro, 0⟩, ⟨0, 4, .ro, 0⟩]⟩
def rowMemBwr : RegRow := ⟨"MEM_BWR", 0xC02100, [(0x8, 8)], [⟨8, 7, .rw, 64⟩, ⟨0, 7, .rw, 0⟩]⟩
def rowMemBws : RegRow := ⟨"MEM_BWS", 0xC02140, [(0x8, 8)], [⟨32, 32, .ro, 0⟩, ⟨0, 32, .ro, 0⟩]⟩
def rowMemCreq : RegRow := ⟨"MEM_CREQ", 0xC02200, [], [⟨60, 4, .ro, 0⟩, ⟨56, 4, .ro, 0⟩, ⟨16, 9, .rw, 0⟩, ⟨1, 3, .rw, 0⟩, ⟨0, 1, .wo, 0⟩]⟩
def rowMemFree : RegRow := ⟨"MEM_FREE", 0xC02208, [], [⟨32, 32, .ro, 8388608⟩, ⟨0, 32, .ro, 12189696⟩]⟩
def rowMemUelog : RegRow := ⟨"MEM_UELOG", 0xC02210, [], [⟨63, 1, .w1c, 0⟩, ⟨61, 2, .ro, 0⟩, ⟨0, 56, .ro, 0⟩]⟩
def rowMemUetn : RegRow := ⟨"MEM_UETN", 0xC02218, [], [⟨0, 64, .ro, 0⟩]⟩

def regBlockC : List RegRow := [rowMemRegion, rowMemChan, rowMemStack, rowMemRr, rowMemBwr, rowMemBws, rowMemCreq, rowMemFree, rowMemUelog, rowMemUetn]

def rowRbtRoot : RegRow := ⟨"RBT_ROOT", 0xE00000, [(0x8, 64)], [⟨63, 1, .rw, 0⟩, ⟨56, 3, .rw, 0⟩, ⟨6, 50, .rw, 0⟩]⟩
def rowRbtGen : RegRow := ⟨"RBT_GEN", 0xE00200, [(0x8, 64)], [⟨0, 32, .ro, 0⟩]⟩
def rowRbtCommit : RegRow := ⟨"RBT_COMMIT", 0xE00400, [], [⟨32, 6, .wo, 0⟩, ⟨0, 32, .wo, 0⟩]⟩
def rowRbtInv : RegRow := ⟨"RBT_INV", 0xE00408, [], [⟨62, 2, .ro, 0⟩, ⟨56, 6, .rw, 0⟩, ⟨50, 6, .rw, 16⟩, ⟨10, 40, .rw, 0⟩, ⟨1, 1, .rw, 0⟩, ⟨0, 1, .wo, 0⟩]⟩
def rowRbtInvWait : RegRow := ⟨"RBT_INV_WAIT", 0xE00410, [], [⟨32, 10, .ro, 1023⟩, ⟨0, 10, .ro, 0⟩]⟩
def rowRbtResolve : RegRow := ⟨"RBT_RESOLVE", 0xE00418, [], [⟨56, 8, .wo, 0⟩, ⟨48, 2, .wo, 0⟩, ⟨0, 10, .wo, 0⟩]⟩
def rowRbtStat : RegRow := ⟨"RBT_STAT", 0xE00420, [], [⟨32, 32, .ro, 0⟩, ⟨0, 32, .ro, 0⟩]⟩
def rowRbtFrec0 : RegRow := ⟨"RBT_FREC", 0xE01000, [(0x10, 1024)], [⟨63, 1, .ro, 0⟩, ⟨60, 3, .ro, 0⟩, ⟨58, 2, .ro, 0⟩, ⟨16, 40, .ro, 0⟩, ⟨10, 6, .ro, 0⟩, ⟨0, 10, .ro, 0⟩]⟩
def rowRbtFrec1 : RegRow := ⟨"RBT_FREC", 0xE01008, [(0x10, 1024)], [⟨0, 10, .ro, 0⟩]⟩

def regBlockE : List RegRow := [rowRbtRoot, rowRbtGen, rowRbtCommit, rowRbtInv, rowRbtInvWait, rowRbtResolve, rowRbtStat, rowRbtFrec0, rowRbtFrec1]

def rowDtdCfg : RegRow := ⟨"DTD_CFG", 0xF00000, [], [⟨4, 4, .ro, 2⟩, ⟨0, 1, .ro, 0⟩]⟩
def rowDtdGuest : RegRow := ⟨"DTD_GUEST", 0xF00008, [], [⟨60, 4, .ro, 0⟩, ⟨56, 4, .ro, 0⟩, ⟨48, 8, .ro, 0⟩, ⟨40, 8, .ro, 0⟩, ⟨16, 16, .ro, 0⟩, ⟨0, 1, .wo, 0⟩]⟩
def rowDtdGuestWin : RegRow := ⟨"DTD_GUEST_WIN", 0xF00010, [(0x8, 4)], [⟨63, 1, .rw, 0⟩, ⟨62, 1, .rw, 0⟩, ⟨61, 1, .rw, 0⟩, ⟨52, 9, .rw, 0⟩, ⟨26, 26, .rw, 0⟩]⟩
def rowDtdLink : RegRow := ⟨"DTD_LINK", 0xF00100, [(0x8, 13)], [⟨48, 16, .ro, 0⟩, ⟨32, 16, .ro, 0⟩, ⟨16, 16, .ro, 0⟩, ⟨8, 5, .ro, 0⟩, ⟨0, 3, .ro, 0⟩]⟩
def rowDtdMod : RegRow := ⟨"DTD_MOD", 0xF00200, [(0x8, 140)], [⟨56, 8, .ro, 0⟩, ⟨40, 3, .ro, 0⟩, ⟨32, 1, .w1c, 0⟩, ⟨30, 2, .rws, 0⟩, ⟨24, 4, .ro, 0⟩, ⟨16, 8, .ro, 0⟩]⟩

def regBlockF : List RegRow := [rowDtdCfg, rowDtdGuest, rowDtdGuestWin, rowDtdLink, rowDtdMod]

def rowGtePort : RegRow := ⟨"GTE_PORT", 0x1000000, [(0x1000, 12)], [⟨60, 4, .ro, 0⟩, ⟨56, 4, .ro, 0⟩, ⟨42, 14, .rw, 0⟩, ⟨4, 2, .rw, 0⟩, ⟨3, 1, .rw, 0⟩, ⟨1, 1, .wo, 0⟩, ⟨0, 1, .rw, 0⟩]⟩
def rowGtePeer : RegRow := ⟨"GTE_PEER", 0x1000008, [(0x1000, 12)], [⟨50, 14, .ro, 0⟩, ⟨26, 24, .ro, 0⟩, ⟨22, 4, .ro, 0⟩, ⟨0, 1, .w1c, 0⟩]⟩
def rowGtePfeat : RegRow := ⟨"GTE_PFEAT", 0x1000010, [(0x1000, 12), (0x8, 2)], [⟨0, 64, .ro, 0⟩]⟩
def rowGteDelay : RegRow := ⟨"GTE_DELAY", 0x1000020, [(0x1000, 12)], [⟨0, 32, .ro, 0⟩]⟩
def rowGtePerr : RegRow := ⟨"GTE_PERR", 0x1000028, [(0x1000, 12)], [⟨48, 16, .ro, 0⟩, ⟨16, 32, .ro, 0⟩, ⟨0, 16, .ro, 0⟩]⟩
def rowGtePstat0 : RegRow := ⟨"GTE_PSTAT0", 0x1000030, [(0x1000, 12)], [⟨0, 64, .ro, 0⟩]⟩
def rowGtePstat1 : RegRow := ⟨"GTE_PSTAT1", 0x1000038, [(0x1000, 12)], [⟨32, 32, .ro, 0⟩, ⟨0, 32, .ro, 0⟩]⟩
def rowGteId : RegRow := ⟨"GTE_ID", 0x1010000, [], [⟨50, 14, .ro, 16383⟩, ⟨49, 1, .ro, 0⟩, ⟨0, 24, .rw, 0⟩]⟩
def rowGteTopo : RegRow := ⟨"GTE_TOPO", 0x1010008, [], [⟨0, 24, .rw, 0⟩]⟩
def rowGtePmap : RegRow := ⟨"GTE_PMAP", 0x1010010, [], [⟨32, 32, .rw, 4294967295⟩, ⟨0, 32, .rw, 4294967295⟩]⟩
def rowGteCtrl : RegRow := ⟨"GTE_CTRL", 0x1010018, [], [⟨1, 1, .ro, 1⟩, ⟨0, 1, .rw, 0⟩]⟩
def rowGteDrops : RegRow := ⟨"GTE_DROPS", 0x1010020, [], [⟨48, 16, .ro, 0⟩, ⟨32, 16, .ro, 0⟩, ⟨16, 16, .ro, 0⟩, ⟨0, 16, .ro, 0⟩]⟩
def rowGteWin0 : RegRow := ⟨"GTE_WIN", 0x1020000, [(0x10, 256)], [⟨63, 1, .rw, 0⟩, ⟨62, 1, .rw, 0⟩, ⟨61, 1, .rw, 0⟩, ⟨60, 1, .rw, 0⟩, ⟨48, 12, .rw, 0⟩, ⟨34, 14, .rw, 0⟩, ⟨20, 14, .rw, 0⟩, ⟨19, 1, .ro, 0⟩]⟩
def rowGteWin1 : RegRow := ⟨"GTE_WIN", 0x1020008, [(0x10, 256)], [⟨32, 32, .rw, 0⟩, ⟨0, 32, .rw, 0⟩]⟩
def rowGteRank : RegRow := ⟨"GTE_RANK", 0x1040000, [(0x8, 16384)], [⟨63, 1, .rw, 0⟩, ⟨0, 24, .rw, 0⟩]⟩
def rowGteIngress : RegRow := ⟨"GTE_INGRESS", 0x1060000, [(0x800, 12), (0x8, 256)], [⟨0, 64, .rw, 0⟩]⟩

def regBlock10 : List RegRow := [rowGtePort, rowGtePeer, rowGtePfeat, rowGteDelay, rowGtePerr, rowGtePstat0, rowGtePstat1, rowGteId, rowGteTopo, rowGtePmap, rowGteCtrl, rowGteDrops, rowGteWin0, rowGteWin1, rowGteRank, rowGteIngress]

def rowSqrCtrl : RegRow := ⟨"SQR_CTRL", 0x1200000, [(0x10000, 2)], [⟨0, 1, .wo, 0⟩]⟩
def rowSqrSel : RegRow := ⟨"SQR_SEL", 0x1200008, [(0x10000, 2)], [⟨0, 64, .rw, 0⟩]⟩
def rowSqrCtx : RegRow := ⟨"SQR_CTX", 0x1200010, [(0x10000, 2)], [⟨16, 16, .ro, 0⟩, ⟨0, 16, .ro, 0⟩]⟩
def rowSqrLast : RegRow := ⟨"SQR_LAST", 0x1200018, [(0x10000, 2)], [⟨56, 8, .ro, 0⟩, ⟨48, 8, .ro, 0⟩, ⟨47, 1, .ro, 0⟩, ⟨46, 1, .ro, 0⟩, ⟨44, 2, .ro, 0⟩, ⟨24, 14, .ro, 0⟩]⟩
def rowSqrLastId : RegRow := ⟨"SQR_LAST_ID", 0x1200020, [(0x10000, 2)], [⟨0, 64, .ro, 0⟩]⟩
def rowSqrRerun : RegRow := ⟨"SQR_RERUN", 0x1200028, [(0x10000, 2)], [⟨32, 32, .ro, 0⟩, ⟨0, 32, .ro, 0⟩]⟩
def rowSqrCkerr : RegRow := ⟨"SQR_CKERR", 0x1200030, [(0x10000, 2)], [⟨48, 16, .ro, 0⟩, ⟨47, 1, .ro, 0⟩, ⟨32, 14, .ro, 0⟩, ⟨0, 32, .ro, 0⟩]⟩
def rowSqrDrops : RegRow := ⟨"SQR_DROPS", 0x1200038, [(0x10000, 2)], [⟨0, 32, .ro, 0⟩]⟩
def rowSqrBcast : RegRow := ⟨"SQR_BCAST", 0x1200040, [(0x10000, 2)], [⟨49, 15, .ro, 0⟩, ⟨35, 14, .ro, 0⟩, ⟨34, 1, .ro, 0⟩, ⟨20, 14, .ro, 0⟩, ⟨0, 2, .ro, 0⟩]⟩

def regBlock12 : List RegRow := [rowSqrCtrl, rowSqrSel, rowSqrCtx, rowSqrLast, rowSqrLastId, rowSqrRerun, rowSqrCkerr, rowSqrDrops, rowSqrBcast]

def rowHstLink : RegRow := ⟨"HST_LINK", 0x1400000, [], [⟨48, 16, .ro, 0⟩, ⟨32, 16, .ro, 0⟩, ⟨15, 1, .ro, 0⟩, ⟨14, 1, .ro, 0⟩, ⟨8, 4, .ro, 0⟩, ⟨0, 5, .ro, 0⟩]⟩
def rowHstQtbl : RegRow := ⟨"HST_QTBL", 0x1400008, [], [⟨24, 32, .rw, 0⟩]⟩
def rowHstQctx : RegRow := ⟨"HST_QCTX", 0x1400010, [], [⟨32, 32, .ro, 0⟩, ⟨0, 13, .ro, 0⟩]⟩
def rowHstLost : RegRow := ⟨"HST_LOST", 0x1400018, [], [⟨32, 32, .ro, 0⟩, ⟨0, 32, .ro, 0⟩]⟩
def rowHstCe : RegRow := ⟨"HST_CE", 0x1400100, [(0x8, 16)], [⟨56, 4, .ro, 0⟩, ⟨48, 8, .ro, 0⟩, ⟨0, 48, .ro, 0⟩]⟩
def rowHstEvrBase : RegRow := ⟨"HST_EVR_BASE", 0x1401000, [(0x20, 64)], [⟨0, 56, .rw, 0⟩]⟩
def rowHstEvrCtl : RegRow := ⟨"HST_EVR_CTL", 0x1401008, [(0x20, 64)], [⟨53, 11, .rw, 0⟩, ⟨52, 1, .w1c, 0⟩, ⟨36, 16, .ro, 0⟩, ⟨1, 4, .rw, 6⟩, ⟨0, 1, .rw, 0⟩]⟩
def rowHstEvrIdx : RegRow := ⟨"HST_EVR_IDX", 0x1401010, [(0x20, 64)], [⟨32, 32, .rw, 0⟩, ⟨0, 32, .ro, 0⟩]⟩
def rowHstEvmap : RegRow := ⟨"HST_EVMAP", 0x1401800, [(0x8, 64)], [⟨0, 6, .rw, 0⟩]⟩

def regBlock14 : List RegRow := [rowHstLink, rowHstQtbl, rowHstQctx, rowHstLost, rowHstCe, rowHstEvrBase, rowHstEvrCtl, rowHstEvrIdx, rowHstEvmap]

def rowKskCtrl : RegRow := ⟨"KSK_CTRL", 0x1500000, [], [⟨2, 6, .rw, 0⟩, ⟨0, 1, .rw, 0⟩]⟩
def rowKskWinBase : RegRow := ⟨"KSK_WIN_BASE", 0x1500008, [], [⟨28, 28, .rw, 0⟩]⟩
def rowKskStat : RegRow := ⟨"KSK_STAT", 0x1500010, [], [⟨32, 32, .ro, 0⟩, ⟨0, 32, .ro, 0⟩]⟩

def regBlock15 : List RegRow := [rowKskCtrl, rowKskWinBase, rowKskStat]

def rowArbPart : RegRow := ⟨"ARB_PART", 0x1800000, [(0x8, 8)], [⟨63, 1, .ro, 0⟩, ⟨62, 1, .ro, 0⟩, ⟨59, 3, .ro, 0⟩, ⟨57, 2, .ro, 0⟩, ⟨55, 2, .ro, 0⟩, ⟨39, 16, .ro, 0⟩, ⟨27, 9, .ro, 0⟩, ⟨18, 9, .ro, 0⟩]⟩
def rowArbFq : RegRow := ⟨"ARB_FQ", 0x1800040, [(0x8, 8)], [⟨32, 32, .ro, 0⟩, ⟨0, 32, .ro, 0⟩]⟩
def rowArbCfg : RegRow := ⟨"ARB_CFG", 0x1800100, [(0x8, 6)], [⟨0, 11, .rw, 256⟩]⟩
def rowArbStat : RegRow := ⟨"ARB_STAT", 0x1800140, [(0x8, 6)], [⟨32, 32, .ro, 0⟩, ⟨0, 32, .ro, 0⟩]⟩
def rowArbGb : RegRow := ⟨"ARB_GB", 0x1800200, [(0x8, 8)], [⟨40, 24, .ro, 0⟩, ⟨0, 40, .ro, 0⟩]⟩
def rowArbGblast : RegRow := ⟨"ARB_GBLAST", 0x1800240, [], [⟨61, 3, .ro, 0⟩, ⟨52, 9, .ro, 0⟩, ⟨0, 32, .ro, 0⟩]⟩

def regBlock18 : List RegRow := [rowArbPart, rowArbFq, rowArbCfg, rowArbStat, rowArbGb, rowArbGblast]

def rowPwrBoot : RegRow := ⟨"PWR_BOOT", 0x1A00000, [], [⟨60, 4, .ro, 0⟩, ⟨56, 4, .ro, 1⟩, ⟨48, 8, .ro, 0⟩, ⟨47, 1, .ro, 0⟩, ⟨0, 32, .ro, 0⟩]⟩
def rowPwrRst : RegRow := ⟨"PWR_RST", 0x1A00008, [], [⟨32, 32, .rws, 0⟩, ⟨16, 16, .rws, 0⟩, ⟨0, 8, .rws, 1⟩]⟩
def rowPwrMeas : RegRow := ⟨"PWR_MEAS", 0x1A00010, [], [⟨48, 16, .ro, 0⟩, ⟨32, 16, .ro, 0⟩, ⟨16, 16, .ro, 0⟩, ⟨0, 16, .ro, 0⟩]⟩
def rowPwrGov : RegRow := ⟨"PWR_GOV", 0x1A00018, [], [⟨56, 6, .ro, 0⟩, ⟨48, 6, .ro, 0⟩, ⟨40, 1, .ro, 0⟩, ⟨16, 16, .ro, 2000⟩, ⟨0, 16, .ro, 0⟩]⟩
def rowPwrSci : RegRow := ⟨"PWR_SCI", 0x1A00020, [], [⟨16, 12, .rw, 3200⟩, ⟨0, 12, .ro, 3200⟩]⟩
def rowPwrClk : RegRow := ⟨"PWR_CLK", 0x1A00028, [], [⟨32, 32, .ro, 0⟩, ⟨0, 18, .ro, 0⟩]⟩

def regBlock1A : List RegRow := [rowPwrBoot, rowPwrRst, rowPwrMeas, rowPwrGov, rowPwrSci, rowPwrClk]

def rowRasCtrl : RegRow := ⟨"RAS_CTRL", 0x1C00000, [], [⟨0, 1, .rw, 1⟩]⟩
def rowRasTf : RegRow := ⟨"RAS_TF", 0x1C00008, [], [⟨63, 1, .w1c, 0⟩, ⟨62, 1, .ro, 0⟩, ⟨59, 3, .ro, 0⟩, ⟨56, 3, .ro, 0⟩, ⟨48, 8, .ro, 0⟩, ⟨38, 10, .ro, 0⟩, ⟨0, 24, .ro, 0⟩]⟩
def rowRasTfAddr : RegRow := ⟨"RAS_TF_ADDR", 0x1C00010, [], [⟨56, 8, .ro, 0⟩, ⟨0, 56, .ro, 0⟩]⟩
def rowRasTfTn : RegRow := ⟨"RAS_TF_TN", 0x1C00018, [], [⟨0, 64, .ro, 0⟩]⟩
def rowRasRegacc : RegRow := ⟨"RAS_REGACC", 0x1C00020, [], [⟨63, 1, .w1c, 0⟩, ⟨48, 15, .ro, 0⟩, ⟨0, 26, .ro, 0⟩]⟩
def rowRasPar : RegRow := ⟨"RAS_PAR", 0x1C00028, [], [⟨32, 32, .ro, 0⟩, ⟨0, 32, .ro, 0⟩]⟩
def rowRasEvseq : RegRow := ⟨"RAS_EVSEQ", 0x1C00030, [], [⟨0, 32, .ro, 0⟩]⟩

def regBlock1C : List RegRow := [rowRasCtrl, rowRasTf, rowRasTfAddr, rowRasTfTn, rowRasRegacc, rowRasPar, rowRasEvseq]

def rowMbxCtrl : RegRow := ⟨"MBX_CTRL", 0x1E00000, [], [⟨0, 1, .wo, 0⟩]⟩
def rowMbxStatus : RegRow := ⟨"MBX_STATUS", 0x1E00008, [], [⟨16, 11, .ro, 0⟩, ⟨0, 2, .ro, 0⟩]⟩
def rowMbxReqLen : RegRow := ⟨"MBX_REQ_LEN", 0x1E00010, [], [⟨0, 11, .rw, 0⟩]⟩
def rowMbxReq : RegRow := ⟨"MBX_REQ", 0x1E01000, [(0x8, 182)], [⟨0, 64, .rw, 0⟩]⟩
def rowMbxRsp : RegRow := ⟨"MBX_RSP", 0x1E02000, [(0x8, 182)], [⟨0, 64, .ro, 0⟩]⟩

def regBlock1E : List RegRow := [rowMbxCtrl, rowMbxStatus, rowMbxReqLen, rowMbxReq, rowMbxRsp]

/-- The registers of the block that an offset lies in, by its megabyte (R8). -/
def regBlock (off : Nat) : List RegRow :=
  match off / 0x100000 with
  | 0 => regBlock0
  | 1 => regBlock1
  | 2 => regBlock2
  | 4 => regBlock4
  | 5 => regBlock4 ++ regBlock5
  | 8 => regBlock8
  | 10 => regBlockA
  | 11 => regBlockB
  | 12 => regBlockC
  | 14 => regBlockE
  | 15 => regBlockF
  | 16 => regBlock10
  | 18 => regBlock12
  | 20 => regBlock14
  | 21 => regBlock15
  | 24 => regBlock18
  | 26 => regBlock1A
  | 28 => regBlock1C
  | 30 => regBlock1E
  | _ => []

/-- The register at an offset and the indices of its copy; none at a reserved offset (R8). -/
def regAt (off : Nat) : Option (RegRow × List Nat) :=
  (regBlock off).findSome? fun r => (r.index off).map fun ix => (r, ix)

/-- Features that every L9 device offers, as object 0x1001.01 (R364). -/
def offeredBits : Nat :=
  ([0, 1, 2, 3, 4, 8, 9, 10, 11, 12, 13, 14, 15, 16, 17, 18, 19, 20, 24, 25, 26, 27, 32, 33, 34, 35, 36, 37, 38, 39, 40, 41,
    42, 43, 44, 48, 49, 50, 51].map (2 ^ ·)).sum

/-- The link of a Boulevard module (the table of links in chapter 12). -/
def linkOfModule (m : Nat) : Nat :=
  if m < 96 then m / 24 else if m < 104 then 4 + (m - 96) / 4 else if m < 120 then 6 + (m - 104) / 8 else 8 + (m - 120) / 4

/-- The reset values that depend on which copy of the register it is: cluster identity and the as-shipped map (R79,
chapter 04; which physical clusters are the spares is notes/assumptions/9.md), region modes (R193), module links,
partition 0 (R344), the feature vectors (R368). -/
def indexedReset (name : String) (lo i : Nat) : Option Nat :=
  if name = "CLU_ID" then
    match lo with
    | 40 => some (if i % 100 < 96 then 0 else 1)
    | 31 => some (if i % 100 < 96 then 96 * (i / 100) + i % 100 else 0x1FF)
    | 24 => some (i / 100)
    | 20 => some (i % 100 / 10)
    | 16 => some (i % 10)
    | _ => some i
  else if name = "CLU_LMAP" then some (if lo = 15 then 1 else 100 * (i / 96) + i % 96)
  else if name = "MEM_REGION" ∧ lo = 0 then some (if 248 ≤ i then 2 else if i < 64 then 1 else 0)
  else if name = "DTD_MOD" ∧ lo = 56 then some (linkOfModule i)
  else if name = "ARB_PART" ∧ i = 0 then
    match lo with
    | 63 => some 1
    | 57 => some 1
    | 55 => some 3
    | 39 => some 0xFFFF
    | 27 => some 384
    | _ => none
  else if name = "ARB_FQ" ∧ lo = 0 ∧ i = 0 then some 0xFFFFFFFF
  else if name = "IDF_OFFER" ∧ i = 0 then some offeredBits
  else if name = "IDF_NEG" ∧ i = 0 then some 3
  else none

/-- The value of the field at `key` after power-on reset with factory defaults (R6, R368). -/
def fieldReset (key : Nat) : Nat :=
  match regAt (key / 64) with
  | none => 0
  | some (r, ix) =>
    match indexedReset r.name (key % 64) (ix.headD 0) with
    | some v => v
    | none => ((r.fields.find? fun f => f.lo = key % 64).map (·.reset)).getD 0

end Sys2Proof.Machine
end

