-- ==== Sys2Proof/Machine/Regs.lean ====
section
/-! DEFINITION. A name for every field of every BAR0 register, at the offset, the bits and the width its chapter's
register map gives it (R8; chapters 00, 02 to 05, 07, 09 to 19). An indexed register takes its index or indices. A word of
two gives the fields of its second word under a name that ends in the register's 1. -/

namespace Sys2Proof.Machine

def F.IDF_ID_SCORES : Fld := ⟨0x0, 40, 8⟩
def F.IDF_ID_CLUSTERS : Fld := ⟨0x0, 24, 16⟩
def F.IDF_ID_MEMBER : Fld := ⟨0x0, 8, 8⟩
def F.IDF_ID_STEPPING : Fld := ⟨0x0, 0, 8⟩
def F.IDF_OFFER_BITS (i : Nat) : Fld := ⟨0x8 + 0x8 * i, 0, 64⟩
def F.IDF_NEG_BITS (i : Nat) : Fld := ⟨0x18 + 0x8 * i, 0, 64⟩
def F.TCK_CTRL_DOMAIN : Fld := ⟨0x100000, 40, 8⟩
def F.TCK_CTRL_MASTER_RANK : Fld := ⟨0x100000, 26, 14⟩
def F.TCK_CTRL_LEN_PEND : Fld := ⟨0x100000, 23, 3⟩
def F.TCK_CTRL_PORTS : Fld := ⟨0x100000, 8, 12⟩
def F.TCK_CTRL_ROLE : Fld := ⟨0x100000, 4, 2⟩
def F.TCK_CTRL_ENABLE : Fld := ⟨0x100000, 0, 1⟩
def F.TCK_STATUS_CAUSES : Fld := ⟨0x100008, 48, 16⟩
def F.TCK_STATUS_DCAUSES : Fld := ⟨0x100008, 32, 16⟩
def F.TCK_STATUS_K_REQ : Fld := ⟨0x100008, 26, 6⟩
def F.TCK_STATUS_K : Fld := ⟨0x100008, 20, 6⟩
def F.TCK_STATUS_LEN : Fld := ⟨0x100008, 17, 3⟩
def F.TCK_STATUS_DEPTH : Fld := ⟨0x100008, 8, 8⟩
def F.TCK_STATUS_STATE : Fld := ⟨0x100008, 0, 3⟩
def F.TCK_TN_TN : Fld := ⟨0x100010, 0, 64⟩
def F.TCK_EPOCH_E : Fld := ⟨0x100018, 0, 64⟩
def F.TCK_HOLD_CLEAR : Fld := ⟨0x100020, 16, 16⟩
def F.TCK_HOLD_ASSERT : Fld := ⟨0x100020, 0, 1⟩
def F.TCK_HOLD_LOG_ORIGIN : Fld := ⟨0x100028, 50, 14⟩
def F.TCK_HOLD_LOG_CAUSE : Fld := ⟨0x100028, 46, 4⟩
def F.TCK_HOLD_LOG_HOPS : Fld := ⟨0x100028, 40, 6⟩
def F.TCK_HOLD_LOG_DISCARDS : Fld := ⟨0x100028, 32, 8⟩
def F.TCK_HOLD_LOG_TARGET : Fld := ⟨0x100028, 0, 32⟩
def F.TCK_PHASE_MAX_ERR : Fld := ⟨0x100030, 32, 32⟩
def F.TCK_PHASE_ERR : Fld := ⟨0x100030, 0, 32⟩
def F.TCK_REACH_DEPTH_MAX : Fld := ⟨0x100038, 40, 8⟩
def F.TCK_REACH_DIAM : Fld := ⟨0x100038, 32, 8⟩
def F.TCK_REACH_REACH : Fld := ⟨0x100038, 0, 32⟩
def F.SCH_SRC_SRC (i : Nat) : Fld := ⟨0x200000 + 0x40 * i, 0, 56⟩
def F.SCH_SIZE_SIZE (i : Nat) : Fld := ⟨0x200008 + 0x40 * i, 0, 27⟩
def F.SCH_CTRL_ABORT (i : Nat) : Fld := ⟨0x200010 + 0x40 * i, 2, 1⟩
def F.SCH_CTRL_UNSTAGE (i : Nat) : Fld := ⟨0x200010 + 0x40 * i, 1, 1⟩
def F.SCH_CTRL_LOAD (i : Nat) : Fld := ⟨0x200010 + 0x40 * i, 0, 1⟩
def F.SCH_STOP_VALID (i : Nat) : Fld := ⟨0x200018 + 0x40 * i, 32, 1⟩
def F.SCH_STOP_PASS (i : Nat) : Fld := ⟨0x200018 + 0x40 * i, 0, 32⟩
def F.SCH_STATUS_LOAD_STATUS (i : Nat) : Fld := ⟨0x200020 + 0x40 * i, 56, 8⟩
def F.SCH_STATUS_DETAIL (i : Nat) : Fld := ⟨0x200020 + 0x40 * i, 48, 8⟩
def F.SCH_STATUS_ERR_OFFSET (i : Nat) : Fld := ⟨0x200020 + 0x40 * i, 18, 27⟩
def F.SCH_STATUS_STAGE (i : Nat) : Fld := ⟨0x200020 + 0x40 * i, 4, 4⟩
def F.SCH_STATUS_RUN (i : Nat) : Fld := ⟨0x200020 + 0x40 * i, 0, 4⟩
def F.SCH_PASS_PASS (i : Nat) : Fld := ⟨0x200028 + 0x40 * i, 32, 32⟩
def F.SCH_PASS_ITICK (i : Nat) : Fld := ⟨0x200028 + 0x40 * i, 0, 32⟩
def F.SCH_OVR_ENGINE (i : Nat) : Fld := ⟨0x200030 + 0x40 * i, 60, 4⟩
def F.SCH_OVR_DEBUG (i : Nat) : Fld := ⟨0x200030 + 0x40 * i, 59, 1⟩
def F.SCH_OVR_MORE (i : Nat) : Fld := ⟨0x200030 + 0x40 * i, 58, 1⟩
def F.SCH_OVR_INDEX (i : Nat) : Fld := ⟨0x200030 + 0x40 * i, 40, 16⟩
def F.SCH_OVR_SLOT (i : Nat) : Fld := ⟨0x200030 + 0x40 * i, 16, 24⟩
def F.SCH_OVR_EXCESS (i : Nat) : Fld := ⟨0x200030 + 0x40 * i, 0, 16⟩
def F.SCH_OVR_TN_TN (i : Nat) : Fld := ⟨0x200038 + 0x40 * i, 0, 64⟩
def F.SCH_TRC_CHAN_OUT : Fld := ⟨0x200200, 16, 8⟩
def F.SCH_TRC_HOT_STACKS : Fld := ⟨0x200200, 12, 4⟩
def F.SCH_TRC_D2D_X32 : Fld := ⟨0x200200, 7, 1⟩
def F.SCH_TRC_SPARES : Fld := ⟨0x200200, 6, 1⟩
def F.CLU_ID_STATE (i : Nat) : Fld := ⟨0x400000 + 0x1000 * i, 40, 4⟩
def F.CLU_ID_LOGICAL (i : Nat) : Fld := ⟨0x400000 + 0x1000 * i, 31, 9⟩
def F.CLU_ID_DIE (i : Nat) : Fld := ⟨0x400000 + 0x1000 * i, 24, 2⟩
def F.CLU_ID_AVENUE (i : Nat) : Fld := ⟨0x400000 + 0x1000 * i, 20, 4⟩
def F.CLU_ID_STREET (i : Nat) : Fld := ⟨0x400000 + 0x1000 * i, 16, 4⟩
def F.CLU_ID_PHYS (i : Nat) : Fld := ⟨0x400000 + 0x1000 * i, 0, 9⟩
def F.CLU_SRAM_PENDING (i : Nat) : Fld := ⟨0x400008 + 0x1000 * i, 4, 4⟩
def F.CLU_SRAM_SETTING (i : Nat) : Fld := ⟨0x400008 + 0x1000 * i, 0, 4⟩
def F.CLU_SPILL_SIZE (i : Nat) : Fld := ⟨0x400010 + 0x1000 * i, 32, 6⟩
def F.CLU_SPILL_BASE (i : Nat) : Fld := ⟨0x400010 + 0x1000 * i, 0, 32⟩
def F.CLU_ERR_REPLAYS (i : Nat) : Fld := ⟨0x400018 + 0x1000 * i, 32, 32⟩
def F.CLU_ERR_CORR (i : Nat) : Fld := ⟨0x400018 + 0x1000 * i, 16, 16⟩
def F.CLU_ERR_CLEAR (i : Nat) : Fld := ⟨0x400018 + 0x1000 * i, 0, 1⟩
def F.CLU_SPILLCNT_COUNT (i : Nat) : Fld := ⟨0x400020 + 0x1000 * i, 0, 64⟩
def F.CLU_LMAP_VALID (i : Nat) : Fld := ⟨0x590000 + 0x8 * i, 15, 1⟩
def F.CLU_LMAP_PHYS (i : Nat) : Fld := ⟨0x590000 + 0x8 * i, 0, 9⟩
def F.CLU_SWAP_STATUS : Fld := ⟨0x591000, 28, 4⟩
def F.CLU_SWAP_LOGICAL : Fld := ⟨0x591000, 16, 9⟩
def F.CLU_SWAP_GO : Fld := ⟨0x591000, 0, 1⟩
def F.TGD_CTRL_TRAP_STOP : Fld := ⟨0x800000, 1, 1⟩
def F.TGD_CTRL_UNLOCKED : Fld := ⟨0x800000, 0, 1⟩
def F.TGD_SEL_LOGICAL : Fld := ⟨0x800008, 32, 9⟩
def F.TGD_SEL_SLOT : Fld := ⟨0x800008, 0, 6⟩
def F.TGD_CMD_CMD : Fld := ⟨0x800010, 0, 3⟩
def F.TGD_STATE_TRAP : Fld := ⟨0x800018, 56, 8⟩
def F.TGD_STATE_STACK : Fld := ⟨0x800018, 48, 8⟩
def F.TGD_STATE_BLOCK : Fld := ⟨0x800018, 16, 32⟩
def F.TGD_STATE_GROUP : Fld := ⟨0x800018, 11, 5⟩
def F.TGD_STATE_SCHED : Fld := ⟨0x800018, 9, 2⟩
def F.TGD_STATE_STATE : Fld := ⟨0x800018, 0, 3⟩
def F.TGD_PC_PC : Fld := ⟨0x800020, 0, 56⟩
def F.TGD_MASK_LIVE : Fld := ⟨0x800028, 32, 32⟩
def F.TGD_MASK_ACTIVE : Fld := ⟨0x800028, 0, 32⟩
def F.TGD_RSEL_THREAD : Fld := ⟨0x800030, 16, 5⟩
def F.TGD_RSEL_SPACE : Fld := ⟨0x800030, 8, 2⟩
def F.TGD_RSEL_INDEX : Fld := ⟨0x800030, 0, 8⟩
def F.TGD_RDATA_DATA : Fld := ⟨0x800038, 0, 64⟩
def F.TGD_SUM_DEBUG : Fld := ⟨0x800040, 6, 1⟩
def F.NUM_FLAGS_TG (i : Nat) : Fld := ⟨0xA00000 + 0x800 * i, 16, 4⟩
def F.NUM_FLAGS_TU3 (i : Nat) : Fld := ⟨0xA00000 + 0x800 * i, 12, 4⟩
def F.NUM_FLAGS_TU2 (i : Nat) : Fld := ⟨0xA00000 + 0x800 * i, 8, 4⟩
def F.NUM_FLAGS_TU1 (i : Nat) : Fld := ⟨0xA00000 + 0x800 * i, 4, 4⟩
def F.NUM_FLAGS_TU0 (i : Nat) : Fld := ⟨0xA00000 + 0x800 * i, 0, 4⟩
def F.NUM_FIC_WHERE_VALID (i : Nat) (j : Nat) : Fld := ⟨0xA00040 + 0x800 * i + 0x18 * j, 63, 1⟩
def F.NUM_FIC_WHERE_CAUSE (i : Nat) (j : Nat) : Fld := ⟨0xA00040 + 0x800 * i + 0x18 * j, 60, 3⟩
def F.NUM_FIC_WHERE_LOC (i : Nat) (j : Nat) : Fld := ⟨0xA00040 + 0x800 * i + 0x18 * j, 0, 60⟩
def F.NUM_FIC_AUX_PC (i : Nat) (j : Nat) : Fld := ⟨0xA00048 + 0x800 * i + 0x18 * j, 0, 56⟩
def F.NUM_FIC_TN_TN (i : Nat) (j : Nat) : Fld := ⟨0xA00050 + 0x800 * i + 0x18 * j, 0, 64⟩
def F.NUM_HCTRL_BASE (i : Nat) (j : Nat) : Fld := ⟨0xA000C0 + 0x800 * i + 0x8 * j, 8, 8⟩
def F.NUM_HCTRL_CLEAR (i : Nat) (j : Nat) : Fld := ⟨0xA000C0 + 0x800 * i + 0x8 * j, 0, 1⟩
def F.NUM_HIST_ODD (i : Nat) (j : Nat) (k : Nat) : Fld := ⟨0xA00100 + 0x800 * i + 0x140 * j + 0x8 * k, 32, 32⟩
def F.NUM_HIST_EVEN (i : Nat) (j : Nat) (k : Nat) : Fld := ⟨0xA00100 + 0x800 * i + 0x140 * j + 0x8 * k, 0, 32⟩
def F.NUM_HSPEC_HI (i : Nat) (j : Nat) (k : Nat) : Fld := ⟨0xA00200 + 0x800 * i + 0x140 * j + 0x8 * k, 32, 32⟩
def F.NUM_HSPEC_LO (i : Nat) (j : Nat) (k : Nat) : Fld := ⟨0xA00200 + 0x800 * i + 0x140 * j + 0x8 * k, 0, 32⟩
def F.NUM_CTRL_FIC_EVENT : Fld := ⟨0xAC8000, 0, 1⟩
def F.NUM_STATUS_SVC : Fld := ⟨0xAC8008, 0, 1⟩
def F.NUM_SQ_FLAGS_FLAGS (i : Nat) : Fld := ⟨0xAC8010 + 0x8 * i, 0, 4⟩
def F.PLZ_DCFG_CACHE_WAYS (i : Nat) : Fld := ⟨0xB00000 + 0x10000 * i, 8, 8⟩
def F.PLZ_DCFG_SCR_GROUPS (i : Nat) : Fld := ⟨0xB00000 + 0x10000 * i, 0, 3⟩
def F.PLZ_WAYS_POWER (i : Nat) : Fld := ⟨0xB00008 + 0x10000 * i, 0, 8⟩
def F.PLZ_WSTAT_CLEANED (i : Nat) : Fld := ⟨0xB00010 + 0x10000 * i, 32, 32⟩
def F.PLZ_WSTAT_PWR_ON (i : Nat) : Fld := ⟨0xB00010 + 0x10000 * i, 8, 8⟩
def F.PLZ_WSTAT_STATE (i : Nat) : Fld := ⟨0xB00010 + 0x10000 * i, 0, 4⟩
def F.PLZ_TEMP_CD_TEMP (i : Nat) : Fld := ⟨0xB00018 + 0x10000 * i, 16, 16⟩
def F.PLZ_TEMP_PLZ_TEMP (i : Nat) : Fld := ⟨0xB00018 + 0x10000 * i, 0, 16⟩
def F.PLZ_SCR_SIZE (i : Nat) (j : Nat) : Fld := ⟨0xB00040 + 0x10000 * i + 0x8 * j, 32, 16⟩
def F.PLZ_SCR_BASE (i : Nat) (j : Nat) : Fld := ⟨0xB00040 + 0x10000 * i + 0x8 * j, 0, 32⟩
def F.PLZ_HIT_COUNT (i : Nat) (j : Nat) : Fld := ⟨0xB01000 + 0x10000 * i + 0x1000 * j, 0, 64⟩
def F.PLZ_MISS_COUNT (i : Nat) (j : Nat) : Fld := ⟨0xB01008 + 0x10000 * i + 0x1000 * j, 0, 64⟩
def F.PLZ_MSHR_MERGED (i : Nat) (j : Nat) : Fld := ⟨0xB01010 + 0x10000 * i + 0x1000 * j, 32, 32⟩
def F.PLZ_MSHR_PEAK (i : Nat) (j : Nat) : Fld := ⟨0xB01010 + 0x10000 * i + 0x1000 * j, 16, 9⟩
def F.PLZ_MSHR_IN_USE (i : Nat) (j : Nat) : Fld := ⟨0xB01010 + 0x10000 * i + 0x1000 * j, 0, 9⟩
def F.PLZ_PERR_REPLAYS (i : Nat) (j : Nat) : Fld := ⟨0xB01018 + 0x10000 * i + 0x1000 * j, 32, 32⟩
def F.PLZ_PERR_REFETCH (i : Nat) (j : Nat) : Fld := ⟨0xB01018 + 0x10000 * i + 0x1000 * j, 16, 16⟩
def F.PLZ_PERR_UNCORR (i : Nat) (j : Nat) : Fld := ⟨0xB01018 + 0x10000 * i + 0x1000 * j, 0, 16⟩
def F.MEM_REGION_ALLOC (i : Nat) : Fld := ⟨0xC00000 + 0x8 * i, 16, 24⟩
def F.MEM_REGION_MODE (i : Nat) : Fld := ⟨0xC00000 + 0x8 * i, 0, 2⟩
def F.MEM_CHAN_RETRAINS (i : Nat) : Fld := ⟨0xC01000 + 0x8 * i, 48, 16⟩
def F.MEM_CHAN_CORR (i : Nat) : Fld := ⟨0xC01000 + 0x8 * i, 32, 16⟩
def F.MEM_CHAN_LIVE (i : Nat) : Fld := ⟨0xC01000 + 0x8 * i, 8, 20⟩
def F.MEM_CHAN_STATE (i : Nat) : Fld := ⟨0xC01000 + 0x8 * i, 0, 4⟩
def F.MEM_STACK_UNCORR (i : Nat) : Fld := ⟨0xC02000 + 0x8 * i, 48, 16⟩
def F.MEM_STACK_RESERVE (i : Nat) : Fld := ⟨0xC02000 + 0x8 * i, 40, 8⟩
def F.MEM_STACK_STEP (i : Nat) : Fld := ⟨0xC02000 + 0x8 * i, 34, 2⟩
def F.MEM_STACK_TEMP (i : Nat) : Fld := ⟨0xC02000 + 0x8 * i, 16, 16⟩
def F.MEM_STACK_REREADS (i : Nat) : Fld := ⟨0xC02000 + 0x8 * i, 0, 16⟩
def F.MEM_RR_LECC (i : Nat) : Fld := ⟨0xC02080 + 0x8 * i, 48, 16⟩
def F.MEM_RR_UNCORR (i : Nat) : Fld := ⟨0xC02080 + 0x8 * i, 32, 16⟩
def F.MEM_RR_RETRAINS (i : Nat) : Fld := ⟨0xC02080 + 0x8 * i, 16, 16⟩
def F.MEM_RR_STATE (i : Nat) : Fld := ⟨0xC02080 + 0x8 * i, 0, 4⟩
def F.MEM_BWR_MAX (i : Nat) : Fld := ⟨0xC02100 + 0x8 * i, 8, 7⟩
def F.MEM_BWR_MIN (i : Nat) : Fld := ⟨0xC02100 + 0x8 * i, 0, 7⟩
def F.MEM_BWS_SHORT (i : Nat) : Fld := ⟨0xC02140 + 0x8 * i, 32, 32⟩
def F.MEM_BWS_CAPPED (i : Nat) : Fld := ⟨0xC02140 + 0x8 * i, 0, 32⟩
def F.MEM_CREQ_STATUS : Fld := ⟨0xC02200, 60, 4⟩
def F.MEM_CREQ_REASON : Fld := ⟨0xC02200, 56, 4⟩
def F.MEM_CREQ_CHANNEL : Fld := ⟨0xC02200, 16, 9⟩
def F.MEM_CREQ_OP : Fld := ⟨0xC02200, 1, 3⟩
def F.MEM_CREQ_GO : Fld := ⟨0xC02200, 0, 1⟩
def F.MEM_FREE_RR_FREE : Fld := ⟨0xC02208, 32, 32⟩
def F.MEM_FREE_HBM_FREE : Fld := ⟨0xC02208, 0, 32⟩
def F.MEM_UELOG_VALID : Fld := ⟨0xC02210, 63, 1⟩
def F.MEM_UELOG_KIND : Fld := ⟨0xC02210, 61, 2⟩
def F.MEM_UELOG_PA : Fld := ⟨0xC02210, 0, 56⟩
def F.MEM_UETN_TN : Fld := ⟨0xC02218, 0, 64⟩
def F.RBT_ROOT_VALID (i : Nat) : Fld := ⟨0xE00000 + 0x8 * i, 63, 1⟩
def F.RBT_ROOT_PART (i : Nat) : Fld := ⟨0xE00000 + 0x8 * i, 56, 3⟩
def F.RBT_ROOT_REC_PA (i : Nat) : Fld := ⟨0xE00000 + 0x8 * i, 6, 50⟩
def F.RBT_GEN_GEN (i : Nat) : Fld := ⟨0xE00200 + 0x8 * i, 0, 32⟩
def F.RBT_COMMIT_ROOT : Fld := ⟨0xE00400, 32, 6⟩
def F.RBT_COMMIT_GEN : Fld := ⟨0xE00400, 0, 32⟩
def F.RBT_INV_STATUS : Fld := ⟨0xE00408, 62, 2⟩
def F.RBT_INV_ROOT : Fld := ⟨0xE00408, 56, 6⟩
def F.RBT_INV_ORDER : Fld := ⟨0xE00408, 50, 6⟩
def F.RBT_INV_BASE : Fld := ⟨0xE00408, 10, 40⟩
def F.RBT_INV_ALL : Fld := ⟨0xE00408, 1, 1⟩
def F.RBT_INV_GO : Fld := ⟨0xE00408, 0, 1⟩
def F.RBT_INV_WAIT_LOWEST : Fld := ⟨0xE00410, 32, 10⟩
def F.RBT_INV_WAIT_COUNT : Fld := ⟨0xE00410, 0, 10⟩
def F.RBT_RESOLVE_STATUS : Fld := ⟨0xE00418, 56, 8⟩
def F.RBT_RESOLVE_ACTION : Fld := ⟨0xE00418, 48, 2⟩
def F.RBT_RESOLVE_RECORD : Fld := ⟨0xE00418, 0, 10⟩
def F.RBT_STAT_HITS : Fld := ⟨0xE00420, 32, 32⟩
def F.RBT_STAT_WALKS : Fld := ⟨0xE00420, 0, 32⟩
def F.RBT_FREC0_OPEN (i : Nat) : Fld := ⟨0xE01000 + 0x10 * i, 63, 1⟩
def F.RBT_FREC0_KIND (i : Nat) : Fld := ⟨0xE01000 + 0x10 * i, 60, 3⟩
def F.RBT_FREC0_ACCESS (i : Nat) : Fld := ⟨0xE01000 + 0x10 * i, 58, 2⟩
def F.RBT_FREC0_VA (i : Nat) : Fld := ⟨0xE01000 + 0x10 * i, 16, 40⟩
def F.RBT_FREC0_ROOT (i : Nat) : Fld := ⟨0xE01000 + 0x10 * i, 10, 6⟩
def F.RBT_FREC0_WAITERS (i : Nat) : Fld := ⟨0xE01000 + 0x10 * i, 0, 10⟩
def F.RBT_FREC1_FIRST (i : Nat) : Fld := ⟨0xE01008 + 0x10 * i, 0, 10⟩
def F.DTD_CFG_PROTO_MAX : Fld := ⟨0xF00000, 4, 4⟩
def F.DTD_CFG_THERM_COMPAT : Fld := ⟨0xF00000, 0, 1⟩
def F.DTD_GUEST_STATE : Fld := ⟨0xF00008, 60, 4⟩
def F.DTD_GUEST_REASON : Fld := ⟨0xF00008, 56, 4⟩
def F.DTD_GUEST_PROTO : Fld := ⟨0xF00008, 48, 8⟩
def F.DTD_GUEST_THERM : Fld := ⟨0xF00008, 40, 8⟩
def F.DTD_GUEST_PARTNER : Fld := ⟨0xF00008, 16, 16⟩
def F.DTD_GUEST_RETRY : Fld := ⟨0xF00008, 0, 1⟩
def F.DTD_GUEST_WIN_VALID (i : Nat) : Fld := ⟨0xF00010 + 0x8 * i, 63, 1⟩
def F.DTD_GUEST_WIN_WRITE (i : Nat) : Fld := ⟨0xF00010 + 0x8 * i, 62, 1⟩
def F.DTD_GUEST_WIN_READ (i : Nat) : Fld := ⟨0xF00010 + 0x8 * i, 61, 1⟩
def F.DTD_GUEST_WIN_SIZE (i : Nat) : Fld := ⟨0xF00010 + 0x8 * i, 52, 9⟩
def F.DTD_GUEST_WIN_BASE (i : Nat) : Fld := ⟨0xF00010 + 0x8 * i, 26, 26⟩
def F.DTD_LINK_CRCERR (i : Nat) : Fld := ⟨0xF00100 + 0x8 * i, 48, 16⟩
def F.DTD_LINK_REPLAYS (i : Nat) : Fld := ⟨0xF00100 + 0x8 * i, 32, 16⟩
def F.DTD_LINK_RETRAINS (i : Nat) : Fld := ⟨0xF00100 + 0x8 * i, 16, 16⟩
def F.DTD_LINK_ACTIVE (i : Nat) : Fld := ⟨0xF00100 + 0x8 * i, 8, 5⟩
def F.DTD_LINK_STATE (i : Nat) : Fld := ⟨0xF00100 + 0x8 * i, 0, 3⟩
def F.DTD_MOD_LINK (i : Nat) : Fld := ⟨0xF00200 + 0x8 * i, 56, 8⟩
def F.DTD_MOD_SPARES_USED (i : Nat) : Fld := ⟨0xF00200 + 0x8 * i, 40, 3⟩
def F.DTD_MOD_DISAGREE (i : Nat) : Fld := ⟨0xF00200 + 0x8 * i, 32, 1⟩
def F.DTD_MOD_WIDTH (i : Nat) : Fld := ⟨0xF00200 + 0x8 * i, 30, 2⟩
def F.DTD_MOD_STATE (i : Nat) : Fld := ⟨0xF00200 + 0x8 * i, 24, 4⟩
def F.DTD_MOD_FAILED (i : Nat) : Fld := ⟨0xF00200 + 0x8 * i, 16, 8⟩
def F.GTE_PORT_STATE (i : Nat) : Fld := ⟨0x1000000 + 0x1000 * i, 60, 4⟩
def F.GTE_PORT_REASON (i : Nat) : Fld := ⟨0x1000000 + 0x1000 * i, 56, 4⟩
def F.GTE_PORT_EXPECT (i : Nat) : Fld := ⟨0x1000000 + 0x1000 * i, 42, 14⟩
def F.GTE_PORT_CLASS (i : Nat) : Fld := ⟨0x1000000 + 0x1000 * i, 4, 2⟩
def F.GTE_PORT_PIN (i : Nat) : Fld := ⟨0x1000000 + 0x1000 * i, 3, 1⟩
def F.GTE_PORT_RETRY (i : Nat) : Fld := ⟨0x1000000 + 0x1000 * i, 1, 1⟩
def F.GTE_PORT_EN (i : Nat) : Fld := ⟨0x1000000 + 0x1000 * i, 0, 1⟩
def F.GTE_PEER_RANK (i : Nat) : Fld := ⟨0x1000008 + 0x1000 * i, 50, 14⟩
def F.GTE_PEER_POS (i : Nat) : Fld := ⟨0x1000008 + 0x1000 * i, 26, 24⟩
def F.GTE_PEER_PORT (i : Nat) : Fld := ⟨0x1000008 + 0x1000 * i, 22, 4⟩
def F.GTE_PEER_CHANGED (i : Nat) : Fld := ⟨0x1000008 + 0x1000 * i, 0, 1⟩
def F.GTE_PFEAT_BITS (i : Nat) (j : Nat) : Fld := ⟨0x1000010 + 0x1000 * i + 0x8 * j, 0, 64⟩
def F.GTE_DELAY_DELAY (i : Nat) : Fld := ⟨0x1000020 + 0x1000 * i, 0, 32⟩
def F.GTE_PERR_UNCORR (i : Nat) : Fld := ⟨0x1000028 + 0x1000 * i, 48, 16⟩
def F.GTE_PERR_CORR (i : Nat) : Fld := ⟨0x1000028 + 0x1000 * i, 16, 32⟩
def F.GTE_PERR_NAKS (i : Nat) : Fld := ⟨0x1000028 + 0x1000 * i, 0, 16⟩
def F.GTE_PSTAT0_SENT (i : Nat) : Fld := ⟨0x1000030 + 0x1000 * i, 0, 64⟩
def F.GTE_PSTAT1_BE (i : Nat) : Fld := ⟨0x1000038 + 0x1000 * i, 32, 32⟩
def F.GTE_PSTAT1_SCHED (i : Nat) : Fld := ⟨0x1000038 + 0x1000 * i, 0, 32⟩
def F.GTE_ID_RANK : Fld := ⟨0x1010000, 50, 14⟩
def F.GTE_ID_RANKED : Fld := ⟨0x1010000, 49, 1⟩
def F.GTE_ID_POS : Fld := ⟨0x1010000, 0, 24⟩
def F.GTE_TOPO_SIZE : Fld := ⟨0x1010008, 0, 24⟩
def F.GTE_PMAP_ALT : Fld := ⟨0x1010010, 32, 32⟩
def F.GTE_PMAP_PRI : Fld := ⟨0x1010010, 0, 32⟩
def F.GTE_CTRL_BE_IDLE : Fld := ⟨0x1010018, 1, 1⟩
def F.GTE_CTRL_BE_STOP : Fld := ⟨0x1010018, 0, 1⟩
def F.GTE_DROPS_INGRESS : Fld := ⟨0x1010020, 48, 16⟩
def F.GTE_DROPS_WINDOW : Fld := ⟨0x1010020, 32, 16⟩
def F.GTE_DROPS_MISDELIVER : Fld := ⟨0x1010020, 16, 16⟩
def F.GTE_DROPS_UNREACH : Fld := ⟨0x1010020, 0, 16⟩
def F.GTE_WIN0_VALID (i : Nat) : Fld := ⟨0x1020000 + 0x10 * i, 63, 1⟩
def F.GTE_WIN0_ATOMIC (i : Nat) : Fld := ⟨0x1020000 + 0x10 * i, 62, 1⟩
def F.GTE_WIN0_WRITE (i : Nat) : Fld := ⟨0x1020000 + 0x10 * i, 61, 1⟩
def F.GTE_WIN0_READ (i : Nat) : Fld := ⟨0x1020000 + 0x10 * i, 60, 1⟩
def F.GTE_WIN0_PORTS (i : Nat) : Fld := ⟨0x1020000 + 0x10 * i, 48, 12⟩
def F.GTE_WIN0_RANK_HI (i : Nat) : Fld := ⟨0x1020000 + 0x10 * i, 34, 14⟩
def F.GTE_WIN0_RANK_LO (i : Nat) : Fld := ⟨0x1020000 + 0x10 * i, 20, 14⟩
def F.GTE_WIN0_DRAIN (i : Nat) : Fld := ⟨0x1020000 + 0x10 * i, 19, 1⟩
def F.GTE_WIN1_SIZE (i : Nat) : Fld := ⟨0x1020008 + 0x10 * i, 32, 32⟩
def F.GTE_WIN1_BASE (i : Nat) : Fld := ⟨0x1020008 + 0x10 * i, 0, 32⟩
def F.GTE_RANK_VALID (i : Nat) : Fld := ⟨0x1040000 + 0x8 * i, 63, 1⟩
def F.GTE_RANK_POS (i : Nat) : Fld := ⟨0x1040000 + 0x8 * i, 0, 24⟩
def F.GTE_INGRESS_MASK (i : Nat) (j : Nat) : Fld := ⟨0x1060000 + 0x800 * i + 0x8 * j, 0, 64⟩
def F.SQR_CTRL_ABORT (i : Nat) : Fld := ⟨0x1200000 + 0x10000 * i, 0, 1⟩
def F.SQR_SEL_COLL_ID (i : Nat) : Fld := ⟨0x1200008 + 0x10000 * i, 0, 64⟩
def F.SQR_CTX_WAITING (i : Nat) : Fld := ⟨0x1200010 + 0x10000 * i, 16, 16⟩
def F.SQR_CTX_ACTIVE (i : Nat) : Fld := ⟨0x1200010 + 0x10000 * i, 0, 16⟩
def F.SQR_LAST_STATUS (i : Nat) : Fld := ⟨0x1200018 + 0x10000 * i, 56, 8⟩
def F.SQR_LAST_DETAIL (i : Nat) : Fld := ⟨0x1200018 + 0x10000 * i, 48, 8⟩
def F.SQR_LAST_BACKUP (i : Nat) : Fld := ⟨0x1200018 + 0x10000 * i, 47, 1⟩
def F.SQR_LAST_RERUN (i : Nat) : Fld := ⟨0x1200018 + 0x10000 * i, 46, 1⟩
def F.SQR_LAST_PASSES (i : Nat) : Fld := ⟨0x1200018 + 0x10000 * i, 44, 2⟩
def F.SQR_LAST_SLOT (i : Nat) : Fld := ⟨0x1200018 + 0x10000 * i, 24, 14⟩
def F.SQR_LAST_ID_COLL_ID (i : Nat) : Fld := ⟨0x1200020 + 0x10000 * i, 0, 64⟩
def F.SQR_RERUN_RERUN (i : Nat) : Fld := ⟨0x1200028 + 0x10000 * i, 32, 32⟩
def F.SQR_RERUN_CLAMPED (i : Nat) : Fld := ⟨0x1200028 + 0x10000 * i, 0, 32⟩
def F.SQR_CKERR_COUNT (i : Nat) : Fld := ⟨0x1200030 + 0x10000 * i, 48, 16⟩
def F.SQR_CKERR_ARITH (i : Nat) : Fld := ⟨0x1200030 + 0x10000 * i, 47, 1⟩
def F.SQR_CKERR_SLOT (i : Nat) : Fld := ⟨0x1200030 + 0x10000 * i, 32, 14⟩
def F.SQR_CKERR_FIRST_BLOCK (i : Nat) : Fld := ⟨0x1200030 + 0x10000 * i, 0, 32⟩
def F.SQR_DROPS_COUNT (i : Nat) : Fld := ⟨0x1200038 + 0x10000 * i, 0, 32⟩
def F.SQR_BCAST_VERIFIED (i : Nat) : Fld := ⟨0x1200040 + 0x10000 * i, 49, 15⟩
def F.SQR_BCAST_PARENT (i : Nat) : Fld := ⟨0x1200040 + 0x10000 * i, 35, 14⟩
def F.SQR_BCAST_ALT (i : Nat) : Fld := ⟨0x1200040 + 0x10000 * i, 34, 1⟩
def F.SQR_BCAST_DONE (i : Nat) : Fld := ⟨0x1200040 + 0x10000 * i, 20, 14⟩
def F.SQR_BCAST_STATE (i : Nat) : Fld := ⟨0x1200040 + 0x10000 * i, 0, 2⟩
def F.HST_LINK_RESETS : Fld := ⟨0x1400000, 48, 16⟩
def F.HST_LINK_RECOV : Fld := ⟨0x1400000, 32, 16⟩
def F.HST_LINK_BME : Fld := ⟨0x1400000, 15, 1⟩
def F.HST_LINK_DL_UP : Fld := ⟨0x1400000, 14, 1⟩
def F.HST_LINK_SPEED : Fld := ⟨0x1400000, 8, 4⟩
def F.HST_LINK_WIDTH : Fld := ⟨0x1400000, 0, 5⟩
def F.HST_QTBL_PA : Fld := ⟨0x1400008, 24, 32⟩
def F.HST_QCTX_SPILLS : Fld := ⟨0x1400010, 32, 32⟩
def F.HST_QCTX_ACTIVE : Fld := ⟨0x1400010, 0, 13⟩
def F.HST_LOST_DISCARD : Fld := ⟨0x1400018, 32, 32⟩
def F.HST_LOST_LLU : Fld := ⟨0x1400018, 0, 32⟩
def F.HST_CE_OPEN (i : Nat) : Fld := ⟨0x1400100 + 0x8 * i, 56, 4⟩
def F.HST_CE_LAST (i : Nat) : Fld := ⟨0x1400100 + 0x8 * i, 48, 8⟩
def F.HST_CE_BYTES (i : Nat) : Fld := ⟨0x1400100 + 0x8 * i, 0, 48⟩
def F.HST_EVR_BASE_PA (i : Nat) : Fld := ⟨0x1401000 + 0x20 * i, 0, 56⟩
def F.HST_EVR_CTL_VECTOR (i : Nat) : Fld := ⟨0x1401008 + 0x20 * i, 53, 11⟩
def F.HST_EVR_CTL_OVF (i : Nat) : Fld := ⟨0x1401008 + 0x20 * i, 52, 1⟩
def F.HST_EVR_CTL_LOST (i : Nat) : Fld := ⟨0x1401008 + 0x20 * i, 36, 16⟩
def F.HST_EVR_CTL_LOG2 (i : Nat) : Fld := ⟨0x1401008 + 0x20 * i, 1, 4⟩
def F.HST_EVR_CTL_EN (i : Nat) : Fld := ⟨0x1401008 + 0x20 * i, 0, 1⟩
def F.HST_EVR_IDX_CI (i : Nat) : Fld := ⟨0x1401010 + 0x20 * i, 32, 32⟩
def F.HST_EVR_IDX_PI (i : Nat) : Fld := ⟨0x1401010 + 0x20 * i, 0, 32⟩
def F.HST_EVMAP_RING (i : Nat) : Fld := ⟨0x1401800 + 0x8 * i, 0, 6⟩
def F.KSK_CTRL_ROOT : Fld := ⟨0x1500000, 2, 6⟩
def F.KSK_CTRL_EN : Fld := ⟨0x1500000, 0, 1⟩
def F.KSK_WIN_BASE_BASE : Fld := ⟨0x1500008, 28, 28⟩
def F.KSK_STAT_FAULTS : Fld := ⟨0x1500010, 32, 32⟩
def F.KSK_STAT_ATOMICS : Fld := ⟨0x1500010, 0, 32⟩
def F.ARB_PART_ACTIVE (i : Nat) : Fld := ⟨0x1800000 + 0x8 * i, 63, 1⟩
def F.ARB_PART_MODE (i : Nat) : Fld := ⟨0x1800000 + 0x8 * i, 62, 1⟩
def F.ARB_PART_PREC (i : Nat) : Fld := ⟨0x1800000 + 0x8 * i, 59, 3⟩
def F.ARB_PART_PRIO (i : Nat) : Fld := ⟨0x1800000 + 0x8 * i, 57, 2⟩
def F.ARB_PART_SQ_MASK (i : Nat) : Fld := ⟨0x1800000 + 0x8 * i, 55, 2⟩
def F.ARB_PART_CE_MASK (i : Nat) : Fld := ⟨0x1800000 + 0x8 * i, 39, 16⟩
def F.ARB_PART_CLUSTER_COUNT (i : Nat) : Fld := ⟨0x1800000 + 0x8 * i, 27, 9⟩
def F.ARB_PART_CLUSTER_FIRST (i : Nat) : Fld := ⟨0x1800000 + 0x8 * i, 18, 9⟩
def F.ARB_FQ_USED (i : Nat) : Fld := ⟨0x1800040 + 0x8 * i, 32, 32⟩
def F.ARB_FQ_QUOTA (i : Nat) : Fld := ⟨0x1800040 + 0x8 * i, 0, 32⟩
def F.ARB_CFG_P3_QUOTA (i : Nat) : Fld := ⟨0x1800100 + 0x8 * i, 0, 11⟩
def F.ARB_STAT_PREEMPT (i : Nat) : Fld := ⟨0x1800140 + 0x8 * i, 32, 32⟩
def F.ARB_STAT_MASKED (i : Nat) : Fld := ⟨0x1800140 + 0x8 * i, 0, 32⟩
def F.ARB_GB_WINDOWS (i : Nat) : Fld := ⟨0x1800200 + 0x8 * i, 40, 24⟩
def F.ARB_GB_SHORT (i : Nat) : Fld := ⟨0x1800200 + 0x8 * i, 0, 40⟩
def F.ARB_GBLAST_PART : Fld := ⟨0x1800240, 61, 3⟩
def F.ARB_GBLAST_CHANNEL : Fld := ⟨0x1800240, 52, 9⟩
def F.ARB_GBLAST_SHORT : Fld := ⟨0x1800240, 0, 32⟩
def F.PWR_BOOT_STATE : Fld := ⟨0x1A00000, 60, 4⟩
def F.PWR_BOOT_STAGE : Fld := ⟨0x1A00000, 56, 4⟩
def F.PWR_BOOT_REASON : Fld := ⟨0x1A00000, 48, 8⟩
def F.PWR_BOOT_COPY : Fld := ⟨0x1A00000, 47, 1⟩
def F.PWR_BOOT_ELAPSED : Fld := ⟨0x1A00000, 0, 32⟩
def F.PWR_RST_WHOLE : Fld := ⟨0x1A00008, 32, 32⟩
def F.PWR_RST_ZEROISE : Fld := ⟨0x1A00008, 16, 16⟩
def F.PWR_RST_CAUSE : Fld := ⟨0x1A00008, 0, 8⟩
def F.PWR_MEAS_MODULE : Fld := ⟨0x1A00010, 48, 16⟩
def F.PWR_MEAS_PACKAGE : Fld := ⟨0x1A00010, 32, 16⟩
def F.PWR_MEAS_FIX : Fld := ⟨0x1A00010, 16, 16⟩
def F.PWR_MEAS_VIN : Fld := ⟨0x1A00010, 0, 16⟩
def F.PWR_GOV_K_POWER : Fld := ⟨0x1A00018, 56, 6⟩
def F.PWR_GOV_K_THERM : Fld := ⟨0x1A00018, 48, 6⟩
def F.PWR_GOV_INPUT_LOW : Fld := ⟨0x1A00018, 40, 1⟩
def F.PWR_GOV_LIMIT : Fld := ⟨0x1A00018, 16, 16⟩
def F.PWR_GOV_HOT : Fld := ⟨0x1A00018, 0, 16⟩
def F.PWR_SCI_TARGET : Fld := ⟨0x1A00020, 16, 12⟩
def F.PWR_SCI_CAP : Fld := ⟨0x1A00020, 0, 12⟩
def F.PWR_CLK_LOSSES : Fld := ⟨0x1A00028, 32, 32⟩
def F.PWR_CLK_LOCK : Fld := ⟨0x1A00028, 0, 18⟩
def F.RAS_CTRL_SVC : Fld := ⟨0x1C00000, 0, 1⟩
def F.RAS_TF_VALID : Fld := ⟨0x1C00008, 63, 1⟩
def F.RAS_TF_MORE : Fld := ⟨0x1C00008, 62, 1⟩
def F.RAS_TF_PART : Fld := ⟨0x1C00008, 59, 3⟩
def F.RAS_TF_ENGINE : Fld := ⟨0x1C00008, 56, 3⟩
def F.RAS_TF_STATUS : Fld := ⟨0x1C00008, 48, 8⟩
def F.RAS_TF_INDEX : Fld := ⟨0x1C00008, 38, 10⟩
def F.RAS_TF_SLOT : Fld := ⟨0x1C00008, 0, 24⟩
def F.RAS_TF_ADDR_KIND : Fld := ⟨0x1C00010, 56, 8⟩
def F.RAS_TF_ADDR_ADDR : Fld := ⟨0x1C00010, 0, 56⟩
def F.RAS_TF_TN_TN : Fld := ⟨0x1C00018, 0, 64⟩
def F.RAS_REGACC_VALID : Fld := ⟨0x1C00020, 63, 1⟩
def F.RAS_REGACC_COUNT : Fld := ⟨0x1C00020, 48, 15⟩
def F.RAS_REGACC_OFFSET : Fld := ⟨0x1C00020, 0, 26⟩
def F.RAS_PAR_REPLAYS : Fld := ⟨0x1C00028, 32, 32⟩
def F.RAS_PAR_ESCALATED : Fld := ⟨0x1C00028, 0, 32⟩
def F.RAS_EVSEQ_NEXT : Fld := ⟨0x1C00030, 0, 32⟩
def F.MBX_CTRL_GO : Fld := ⟨0x1E00000, 0, 1⟩
def F.MBX_STATUS_RSP_LEN : Fld := ⟨0x1E00008, 16, 11⟩
def F.MBX_STATUS_STATE : Fld := ⟨0x1E00008, 0, 2⟩
def F.MBX_REQ_LEN_LEN : Fld := ⟨0x1E00010, 0, 11⟩
def F.MBX_REQ_DATA (i : Nat) : Fld := ⟨0x1E01000 + 0x8 * i, 0, 64⟩
def F.MBX_RSP_DATA (i : Nat) : Fld := ⟨0x1E02000 + 0x8 * i, 0, 64⟩

end Sys2Proof.Machine
end

