-- ==== Sys2Proof/Config.lean ====
section
/-! DEFINITION. What the spec leaves open and the model leaves free: constants without a body, so that no proof can see
a value of them, and the values that are set at manufacture. Each is named in notes/assumptions. -/

namespace Sys2Proof

/-- A byte that holds no defined value (R369, R184, R93, host memory): by the stamp of the event that made it so, and
its address (notes/assumptions/3.md). -/
opaque Config.freeByte : Nat → Nat → Byte

/-- A value the spec does not state, one for each use: the n-th draw of `State.fresh` (notes/assumptions/4.md). -/
opaque Config.freeNat : Nat → Nat

/-- What a register of a thread group holds before the group writes it: by the stamp of its block's start and the register's key
(notes/assumptions/4.md). -/
opaque Config.freeReg : Nat → Nat → Nat

/-- The set of a slice's directory that holds a line (R181 gives the sets and no hash), modulo their number. -/
opaque Config.dirSet : Nat → Nat

/-- A nonce drawn from Sentry's random source (R271): the n-th draw. -/
opaque Config.random : Nat → List Byte

/-- The transport key of slot 0, derived in Sentry from the fused device secret (chapter 18, Key slots). -/
opaque Config.transportKey : List Byte

/-- Serial number, object 0x2000.01: 16 characters set at manufacture. -/
opaque Config.serial : List Byte

/-- Manufacture date, object 0x2000.03. -/
opaque Config.manufactureDate : Nat

/-- Management MAC, object 0x2000.04. -/
opaque Config.mac : List Byte

/-- MCTP vendor identifier, object 0x1100.0A. -/
opaque Config.mctpVendor : Nat

/-- Identity certificate chain, object 0x5001.01. -/
opaque Config.identityChain : List Byte

/-- The evidence signature over a message (R271, R383, R384): its layout and keys are not in the spec. -/
opaque Config.sign : Nat → List Byte → List Byte

/-- What the base dies report as spares remaining, object 0x2700.04 (768 bytes, from base dies). -/
opaque Config.sparesRemaining : Nat → Byte

/-- Addresses in use, object 0x1100.09: the carrier's network assigns them. -/
opaque Config.addressesInUse : List Byte

/-- The revocation list and partner key list set at manufacture (objects 0x5002.01, 0x5003.01). -/
opaque Config.shippedRevocation : List Byte
opaque Config.shippedPartners : List Byte

/-- Firmware as shipped: version and digest of each copy (objects 0x5000.01, 0x5100.03). -/
opaque Config.shippedVersion : Nat → Nat
opaque Config.shippedDigest : Nat → List Byte

/-- Which blocks of the Hub's own capability profile are marked MANDATORY (R246; notes/assumptions/21.md). -/
opaque Config.hubMandatory : Nat → Bool

/-- A declared throttle temperature of the guest die, sixteenths of a degree (R251, R405). -/
opaque Config.guestThrottle16 : Int

/-- The package prediction of R376, which the spec names and gives no formula for: by the measured package draw, K_cur and k
(notes/assumptions/4.md). -/
opaque Config.packagePrediction : Nat → Nat → Nat → Nat

/-- What Sentry reads out of the bytes of a firmware image: version, security version, and whether each signature verifies; the header's
layout and the keys are not in the spec (notes/assumptions/6.md). -/
opaque Config.firmwareHead : List Byte → Nat × Nat × Bool × Bool

/-- What Sentry reads out of the bytes of a signed list: its sequence number and whether each signature verifies. -/
opaque Config.listHead : List Byte → Nat × Bool × Bool

/-- The partners that a partner key list names with their minimum serials. -/
opaque Config.listPartners : List Byte → List (Nat × Nat)

end Sys2Proof
end

