-- ==== Sys2Proof/Machine/State.lean ====
section
/-! DEFINITION. The state of the block, as plain data: Sentry's vault, module flash, and the device behind the two; the
queue of waiting commands; the faults and refusals; and the state after reset. INVENTORY.md lists every piece with its
rule and its reset value. -/

namespace Sys2Proof.Machine

open Sys2Proof

/-- No meaning of this model raises a fault: every command of the table has an effect or is refused the way the spec
refuses it, which is a next state. -/
inductive Fault
  /-- Raised by nobody; safe. -/
  | none
  deriving DecidableEq, Repr

/-- Why a command has no meaning here. -/
inductive Refusal
  /-- A command that has no meaning yet, by its mnemonic; safe. Raised by an arm of exec only. -/
  | notModelled (mnemonic : String)
  deriving DecidableEq, Repr

/-- A range of memory that holds no defined value, and the stamp of the event that made it so. -/
structure Fog where
  lo : Nat
  hi : Nat
  stamp : Nat
  deriving DecidableEq, Repr

/-- A byte-addressed memory: the bytes listed, the ranges that hold no defined value (newest first). -/
structure Mem where
  cells : List Host.Cell
  fogs : List Fog
  deriving DecidableEq, Repr

/-! ### Sentry and module flash -/

/-- An HMAC key slot (chapter 18, Key slots; R360, R361). -/
structure KeySlot where
  key : Option (List Byte)
  mask : Nat
  counter : Nat
  failures : Nat
  locked : Bool
  deriving DecidableEq, Repr

/-- The three cells of a logical fuse (R381). -/
structure Fuse where
  a : Bool
  b : Bool
  c : Bool
  deriving DecidableEq, Repr

/-- A firmware copy in flash (R372, R379). -/
structure Firmware where
  version : Nat
  secVersion : Nat
  digest : List Byte
  verifies : Bool
  deriving DecidableEq, Repr

/-- What Sentry holds and what module flash holds for it: keys, fuses, firmware, signed lists. -/
structure Vault where
  slot0 : KeySlot
  slots : List KeySlot
  debugFuse : Fuse
  guestFuse : Fuse
  intents : List Nat
  rollback : Nat
  copyA : Firmware
  copyB : Firmware
  bootCopy : Nat
  revocation : List Byte
  revocationSeq : Nat
  partners : List PartnerRow
  partnerList : List Byte
  partnerSeq : Nat
  leavesUsed : Nat
  zeroiseBegun : Bool
  deriving DecidableEq, Repr

/-- A stored-configuration record (R365): entries by object key, in key order. -/
structure CfgRecord where
  seq : Nat
  version : Nat
  complete : Bool
  checkOk : Bool
  entries : Table (List Byte)
  deriving DecidableEq, Repr

/-- The last authenticated request of a slot with its response (R361). -/
structure LastRequest where
  slot : Nat
  source : Nat
  request : List Byte
  response : List Byte
  deriving DecidableEq, Repr

/-- Module flash beside Sentry's: stored configuration, lifetime records, committed repairs. -/
structure Flash where
  newest : Option CfgRecord
  older : Option CfgRecord
  shutdown : Option Nat
  everPowered : Bool
  cycles : Nat
  hours : Nat
  map : Option (List Nat)
  outs : List Nat
  repairs : List (List Byte)
  spared : List Nat
  lastRequests : List LastRequest
  deriving DecidableEq, Repr

/-! ### Outputs and events -/

/-- An event record before it is laid out (R389). -/
structure Event where
  cls : Nat
  status : Nat
  source : Nat
  seq : Nat
  tn : Nat
  time : Nat
  detail : List Nat
  deriving DecidableEq, Repr

/-- What the device sends or drives, newest first in the state's list. -/
inductive Out
  | tickMsg (port : Nat) (word : Nat)
  | packet (port : Nat) (hdr : Nat) (data : List Byte)
  | stomp (port : Nat) (hdr : Nat)
  | mgmt (port : Nat) (kind : Nat) (body : List Byte)
  | nak (port : Nat) (lastSeq : Nat)
  | flitNak (link : Nat) (lastSeq : Nat)
  | flit (link : Nat) (bytes : List Byte)
  | msix (vector : Nat)
  | hostCompletion (data : List Byte)
  | hostAbort
  | hostUnsupported
  | lop (dest : Nat) (frame : List Byte)
  | response (tag : Nat) (status : Nat) (data : List Byte)
  | science (core : Nat) (value : Nat)
  | scienceFault (core : Nat)
  | guest (status : Nat) (data : List Byte)
  | grant (cls : Nat) (inst : Nat) (requester : Nat)
  | rails (up : Bool)
  | linkDown
  deriving DecidableEq, Repr

/-! ### Tick -/

/-- A PARKED message as the master keeps it (R51). -/
structure ParkedRec where
  rank : Nat
  causes : Nat
  tn : Nat
  kReq : Nat
  runImg : Bool
  len : Nat
  deriving DecidableEq, Repr

/-- A STRETCH message held for its target (R54). -/
structure StretchRec where
  tn : Nat
  k : Nat
  fromMaster : Bool
  deriving DecidableEq, Repr

/-- Hidden tick state: the distribution tree in force; HOLD targets; floods forwarded; stretches held; the latest PARKED records and
requested K values (on the master); ticks for which every K_req stayed below K; whether the EPOCH watch runs, and the periods since the
last EPOCH; whether PARKED was sent; the pending resume (E_r, LEN, K); whether the tick has completed; the tick that is due since the
last boundary; whether hold reach must be measured again; whether the device quenches; the PING that is
out; one-way delays by port; the rank of the device acting as master; the members of the last resume; whether a stored enable waits. -/
structure TickSt where
  tree : Tree
  targets : List Nat
  seen : List (Nat × Nat × Nat × Nat)
  stretches : List StretchRec
  parked : List ParkedRec
  kReqs : Table Nat
  belowFor : Nat
  watching : Bool
  sinceEpoch : Nat
  parkedSent : Bool
  resumeAt : Option (Nat × Nat × Nat)
  tickDone : Bool
  due : Nat
  reachStale : Bool
  quench : Bool
  pingOut : Option Nat
  delays : Table Nat
  acting : Option Nat
  members : List Nat
  storedDue : Bool
  deriving DecidableEq, Repr

/-! ### Schedule images -/

/-- A slot of a stream, as its four words (R64). -/
structure Slot where
  w0 : Nat
  w1 : Nat
  w2 : Nat
  w3 : Nat
  deriving DecidableEq, Repr

/-- A stream of an image (R63). -/
structure Stream where
  engine : Nat
  index : Nat
  offset : Nat
  slots : List Slot
  deriving DecidableEq, Repr

/-- An entry of the step table with its message expectations (R69). -/
structure Step where
  first : Nat
  count : Nat
  cross : Bool
  msgs : List Nat
  deriving DecidableEq, Repr

/-- One extent of a bound range: a run of device virtual addresses, its physical base and its rights (chapter 11). -/
structure Extent where
  va : Nat
  len : Nat
  pa : Nat
  rights : Nat
  deriving DecidableEq, Repr

/-- A segment, bound (R68, R103). -/
structure Segment where
  base : Nat
  size : Nat
  rights : Nat
  extents : List Extent
  deriving DecidableEq, Repr

/-- A schedule image after LOAD (R59 to R70), with the root that translates its segments. -/
structure Image where
  root : Nat
  programId : Nat
  baseTn : Nat
  passes : Nat
  ticks : Nat
  deviceCount : Nat
  rank : Nat
  domain : Nat
  len : Nat
  clustersReq : Nat
  trClass : Nat
  streams : List Stream
  steps : List Step
  segs : List Segment
  descs : List (List Byte)
  routes : List (List Byte)
  deriving DecidableEq, Repr

/-- Where a stream stands in the running tick: the slot it runs next, and whether that slot has started. -/
structure StreamPos where
  engine : Nat
  index : Nat
  next : Nat
  started : Bool
  deriving DecidableEq, Repr

/-- A LOAD in progress (R72): its source, size and root; once its static checks have passed, the image, how many of its segments are
bound, and where its segments and descriptors stand. -/
structure Load where
  src : Nat
  size : Nat
  root : Option Nat
  image : Option Image
  done : Nat
  segOff : Nat
  descOff : Nat
  deriving DecidableEq, Repr

/-- Hidden state of one scheduled partition: its images, the load in progress, where its streams stand, the tokens set, the step it
waits before, its image buffers (staged, running), and what was written since the last step boundary into ranges that its image may
write (R77, R393). -/
structure PartSt where
  staged : Option Image
  running : Option Image
  loading : Option Load
  positions : List StreamPos
  tokens : List Nat
  stepWait : Option Nat
  buffers : List Nat
  wrote : List (Nat × Nat)
  deriving DecidableEq, Repr

/-! ### Clusters and thread groups -/

/-- A line of a cluster's L1 (chapter 08): its 128 bytes, which of them the cluster wrote, and whether the others were fetched. -/
structure L1Line where
  data : List Byte
  written : List Bool
  filled : Bool
  deriving DecidableEq, Repr

/-- A spare swap that waits or runs (R97, R98): the tick at whose boundary a scheduled one is due (R78), and whether its deferral was
reported (R62). -/
structure Swap where
  logical : Nat
  automatic : Bool
  targetTn : Option Nat
  deferred : Bool
  deriving DecidableEq, Repr

/-- A path of a divided group that is not running: where it goes on, its threads, and the entries of its own that were set aside with
it at a barrier, by their numbers in the group's store. -/
structure Path where
  pc : Nat
  mask : Nat
  sub : List Nat
  deriving DecidableEq, Repr

/-- An entry of a reconvergence stack (R110): the address, the mask to restore, the taken mask, the paths still to run. -/
structure Reconv where
  addr : Nat
  saved : Nat
  taken : Nat
  paths : List Path
  deriving DecidableEq, Repr

/-- A ticket of a group-wide matrix instruction (R114). -/
structure Ticket where
  isOpen : Bool
  status : Nat
  deriving DecidableEq, Repr

/-- A resident group (R101, R110, R111, R114, R117): TGD_STATE.STATE, its launch, block, index and scheduler, its instruction
address and masks, its reconvergence stack (innermost first) with the entries set aside, the trap held and its address, its registers per
thread, the threads that wait at a barrier, its tickets, whether a step has run, and the stamp of its registers' first
contents. -/
structure Group where
  state : Nat
  launch : Nat
  block : Nat
  index : Nat
  sched : Nat
  pc : Nat
  live : Nat
  active : Nat
  stack : List Reconv
  store : List (Nat × Reconv)
  trap : Nat
  trapAddr : Nat
  regs : Nat
  arrived : Nat
  tickets : List Ticket
  stepped : Bool
  stamp : Nat
  deriving DecidableEq, Repr

/-- A resident block (R107, R108). -/
structure Block where
  launch : Nat
  index : Nat
  phys : Nat
  slotNo : Nat
  groups : List Nat
  lsBase : Nat
  lsBytes : Nat
  deriving DecidableEq, Repr

/-- A launch in progress (R102 to R109, R115). -/
structure Launch where
  id : Nat
  queue : Option (Nat × Nat)
  part : Nat
  root : Nat
  entryPc : Nat
  codeSeg : Nat
  argSeg : Nat
  argAddr : Nat
  argWords : Nat
  grid : Nat
  groups : Nat
  regs : Nat
  lsBase : Nat
  lsUnits : Nat
  setting : Nat
  strict : Bool
  first : Nat
  count : Nat
  segs : List Segment
  next : Nat
  ended : Nat
  stopped : Bool
  recalled : Bool
  trapped : List (Nat × Nat)
  slot : Option (Nat × Nat)
  deriving DecidableEq, Repr

/-- Hidden state of clusters and thread groups. Register files, accumulators and L1 lines are tables by number. -/
structure ClusSt where
  l1 : Table (Option L1Line)
  acc : Table Nat
  corr24 : Table Nat
  swaps : List Swap
  groups : Table (Option Group)
  blocks : List Block
  launches : List Launch
  nextLaunch : Nat
  vregs : Table Nat
  uregs : Table Nat
  ficArmed : Table Bool
  deriving DecidableEq, Repr

/-! ### Plaza -/

/-- A line in a way of a set (R173 to R177): its address and which bytes are written and not yet in HBM. -/
structure PLine where
  line : Nat
  written : Bool
  deriving DecidableEq, Repr

/-- A request held by a miss register or waiting (R176); a zero-line of a thread or core has no tag and no response. -/
structure PReq where
  pa : Nat
  len : Nat
  kind : PlzKind
  tag : Option Nat
  deriving DecidableEq, Repr

/-- A miss register (R176). -/
structure Mshr where
  slice : Nat
  line : Nat
  way : Nat
  reqs : List PReq
  waiting : List PReq
  deriving DecidableEq, Repr

/-- A science-core directory entry (R181), oldest first in the list. -/
structure DirEntry where
  slice : Nat
  line : Nat
  deriving DecidableEq, Repr

/-- Hidden state of the Plaza. -/
structure PlzSt where
  ways : Table (Option PLine)
  trees : Table Nat
  mshrs : List Mshr
  stalled : List PReq
  dir : List DirEntry
  reservations : Table (Option Nat)
  deriving DecidableEq, Repr

/-! ### Memory tiers -/

/-- An allocated frame (R196 to R200). -/
structure Frame where
  pa : Nat
  size : Nat
  part : Nat
  scratch : Bool
  image : Bool
  deriving DecidableEq, Repr

/-- A planned sequence on a channel (R209): whether it asserted REPAIR, and whether its deferral was reported. -/
structure ChanSeq where
  stack : Nat
  channel : Nat
  op : Nat
  repairAsserted : Bool
  deferred : Bool
  deriving DecidableEq, Repr

/-- Hidden state of the memory tiers. -/
structure TierSt where
  frames : List Frame
  seqs : List ChanSeq
  before : Table Nat
  committed : List Nat
  softRepairs : List (List Byte)
  applied : List (List Byte)
  badWords : List Nat
  lastGb : Table Nat
  gbAcc : Table (Nat × Nat)
  deriving DecidableEq, Repr

/-! ### Roundabout -/

/-- A cached leaf (R223): root, VA, log2 size, PA, rights; a range entry carries its run size in `z`. -/
structure Leaf where
  root : Nat
  va : Nat
  z : Nat
  pa : Nat
  rights : Nat
  deriving DecidableEq, Repr

/-- A holder record (R227). -/
structure Holder where
  root : Nat
  va : Nat
  len : Nat
  ids : List Nat
  deriving DecidableEq, Repr

/-- A requester parked on a fault record, or waiting for one or for an invalidate (R228, R225, R232): the range it asks for, and
the queue entry it belongs to if any. -/
structure Waiter where
  record : Nat
  holder : Nat
  root : Nat
  part : Nat
  va : Nat
  len : Nat
  need : Nat
  segment : Bool
  entry : Option (Nat × Nat)
  deriving DecidableEq, Repr

/-- The result of the last binding of a holder: its status and its extents. -/
structure Bound where
  holder : Nat
  root : Nat
  va : Nat
  status : Nat
  extents : List Extent
  deriving DecidableEq, Repr

/-- Hidden state of the Roundabout. -/
structure RbtSt where
  ranges : List Leaf
  pages : Table (Option Leaf)
  pageTrees : Table Nat
  holders : List Holder
  waiters : List Waiter
  waitingBind : List Waiter
  bound : List Bound
  recalls : List Nat
  recallRange : Nat × Nat × Nat
  deriving DecidableEq, Repr

/-! ### Boulevard -/

/-- One link's go-back-N state (R239), the NAKs its oldest kept flit has drawn, and what started its last retrain (R240). -/
structure LinkSt where
  txSeq : Nat
  rxSeq : Nat
  retry : List (List Byte)
  nakSent : Bool
  nakCount : Nat
  nakSeq : Nat
  trigger : Nat
  deriving DecidableEq, Repr

/-- Hidden state of the Boulevard and the guest site: by module the lanes that fail and have no redundant lane, and those that have
one; the modules fenced, and those whose degrade holds REPAIR; whether a guest request waits; the dies without telemetry; the modules
whose far end lost its width record. -/
structure DtdSt where
  links : Table LinkSt
  lanes : Table (List Nat)
  remap : Table (List Nat)
  fenced : List Nat
  repairFor : List Nat
  profile : List Byte
  qualRaw : List Byte
  guestBusy : Bool
  silent : List Nat
  stale : List Nat
  deriving DecidableEq, Repr

/-! ### Gates -/

/-- A packet kept until it is acknowledged (R256). -/
structure Kept where
  seq : Nat
  hdr : Nat
  data : List Byte
  deriving DecidableEq, Repr

/-- Hidden state of one gate port: the cable, what its transmitter drives, the attestation's nonces, the rank of its last peer, its
sequence numbers, the packets kept, the credit of each class of its peer's input buffer (scheduled, then VC 0 to 3), whether it
has answered NAK since it last accepted a packet. -/
structure PortSt where
  present : Bool
  driving : Bool
  nonceOut : List Byte
  nonceIn : List Byte
  lastRank : Option Nat
  txSeq : Nat
  rxSeq : Nat
  kept : List Kept
  credits : List Nat
  nakSent : Bool
  deriving DecidableEq, Repr

/-- A packet that waits for the port of a direction, or for its credit: the direction's primary port, the peer it must meet if it
was sent before (R262), the packet. -/
structure WaitPkt where
  dir : Nat
  expect : Option Nat
  hdr : Nat
  data : List Byte
  deriving DecidableEq, Repr

/-- A remote request that a window admitted and whose memory access waits (R276). -/
structure HeldReq where
  port : Nat
  hdr : Nat
  data : List Byte
  win : Nat
  deriving DecidableEq, Repr

/-- A best-effort request of this device that waits for its RESP (R260): its tag and destination, the queue entry it belongs to, its
kind (0 copy WRITE, 1 copy READ, 2 QMSG, 3 ATOMIC, 4 a Square packet of an engine and COLL_ID), where its bytes stand in the transfer, and where its data goes. -/
structure Outstanding where
  tag : Nat
  rank : Nat
  queue : Nat
  seq : Nat
  kind : Nat
  pos : Nat
  runs : List (Nat × Nat)
  deriving DecidableEq, Repr

/-- A RECV's progress (R67): partition, port, slot number, its tick, and the byte ranges that have arrived. -/
structure RecvSt where
  part : Nat
  port : Nat
  slot : Nat
  tn : Nat
  got : List (Nat × Nat)
  deriving DecidableEq, Repr

/-- Hidden state of the gates. -/
structure GateSt where
  ports : Table PortSt
  waiting : List WaitPkt
  held : List HeldReq
  outstanding : List Outstanding
  nextTag : Nat
  recvs : List RecvSt
  lastWindowEvent : Option Nat
  deriving DecidableEq, Repr

/-! ### Square -/

/-- A block of 32 elements as the Square engine holds it: element codes (one-bit mode: sign word and magnitude), exponent byte, NaN
mask, SCALE_OVERFLOW. -/
structure Blk where
  els : List Nat
  x : Nat
  mask : Nat
  flag : Bool
  deriving DecidableEq, Repr

/-- A collective with its context (R278 to R303): its entry if it is queued, partition and root, descriptor, parameter words with
addresses made virtual, rank list or tree table, extents and bound ranges, forced switches; whether it has begun, this device's slot; agreed exponents and
results of its own shard by block (one-bit mode: by slot × 2^32 + block); the blocks its own shard still awaits, the pass it is in;
whether the reduce phase runs; frames taken, frames kept, slots switched to their backups, log entries written; blocks of other
shards passed on, blocks written to OUT, blocks that FLAGLIST frames flagged by pass, the highest pass, whether a block was rerun; a failure. Of a
broadcast: the next segment, its bytes so far, the manifest, the parent, the children, the DONE records, the attach records. -/
structure Coll where
  id : Nat
  queue : Option (Nat × Nat)
  part : Nat
  root : Nat
  desc : List Byte
  params : List Nat
  list : List Nat
  ext : List Extent
  ranges : List (Nat × Nat)
  logIn : List (Nat × Nat)
  begun : Bool
  slot : Nat
  exps : Table (Option Nat)
  got : Table (Option Blk)
  awaiting : List Nat
  pass : Nat
  reducing : Bool
  ownDone : Bool
  seen : List (Nat × Nat × Nat × Nat)
  inbox : List (Nat × List Byte)
  useBackup : List Nat
  logged : Nat
  passed : Nat
  written : Table Bool
  flagged : List (Nat × Nat)
  maxPass : Nat
  reran : Bool
  fail : Option Nat
  next : Nat
  buf : List Byte
  manifest : List Byte
  parent : Nat
  onAlt : Bool
  resent : Bool
  kids : List Nat
  dones : List (Nat × Nat)
  attached : Nat
  deriving DecidableEq, Repr

/-- Hidden state of one Square engine. -/
structure SquareSt where
  waiting : List Coll
  running : List Coll
  deriving DecidableEq, Repr

/-! ### Host -/

/-- A hardware queue while it has a context: its record as read at ENABLE, and its indices (R311 to R319). -/
structure Queue where
  kind : Nat
  prio : Nat
  part : Nat
  root : Nat
  vector : Nat
  irq : Bool
  coal : Nat
  ringLog2 : Nat
  ring : Nat
  cqLog2 : Nat
  cq : Nat
  state : Nat
  stop : Nat
  fetch : Nat
  pi : Nat
  ci : Nat
  cqCount : Nat
  unsignalled : Nat
  rereads : Nat
  deriving DecidableEq, Repr

/-- A fetched queue entry (R314 to R317). -/
structure Entry where
  queue : Nat
  seq : Nat
  type : Nat
  barrier : Bool
  nocq : Bool
  engine : Nat
  tag : Nat
  desc : List Byte
  started : Bool
  finished : Option (Nat × Nat)
  wroteHost : Bool
  deriving DecidableEq, Repr

/-- An open copy descriptor (R325): its engine, its entry, how many of its bytes have moved or been sent. Those of one engine stand
in the order of their next turns. -/
structure CopyOpen where
  engine : Nat
  queue : Nat
  seq : Nat
  moved : Nat
  deriving DecidableEq, Repr

/-- Hidden state of the host side. -/
structure HostSt where
  copies : List CopyOpen
  queues : Table (Option Queue)
  contexts : List Nat
  entries : List Entry
  records : Table (Option (List Byte × Bool))
  pendingVectors : List Nat
  kioskRefusals : Nat
  lastKiosk : Option Nat
  msix : Bool
  cfgReady : Bool
  perst : Bool
  deriving DecidableEq, Repr

/-! ### Arbitration, control plane, power -/

/-- Hidden arbiter state, by arbiter class, arbiter and requester. -/
structure ArbSt where
  losses : Table Nat
  backing : List Nat
  p3 : Table Nat
  last : Table Nat
  deriving DecidableEq, Repr

/-- An open segmented write (R356). -/
structure OpenWrite where
  key : Nat
  source : Nat
  bytes : List Byte
  deriving DecidableEq, Repr

/-- Hidden state of the control plane: segmented writes that are open, the nonce for a quote, the firmware copy in use, values latched at the
last reset or under R363, and the reset that an accepted write starts once its response is sent (0 none, else the CAUSE). -/
structure CtlSt where
  open_ : List OpenWrite
  quoteNonce : Option (List Byte)
  runningCopy : Nat
  applied : Table (Option (List Byte))
  resetDue : Nat
  deriving DecidableEq, Repr

/-- Pins, rails and the governor's memory (chapters 01 and 18): how often it has run, and at which run it last raised and last lowered
K_therm. -/
structure PowerSt where
  pwrEn : Bool
  holdoff : Bool
  ramping : Bool
  pwrgd : Bool
  thermtrip : Bool
  flashWp : Bool
  trefSelected : Bool
  holdover : Bool
  evals : Nat
  hotAt : Option Nat
  coolAt : Option Nat
  deriving DecidableEq, Repr

/-- The device behind Sentry and flash. Registers are held field by field in `regs`, objects that are no mirror of a
register by their key in `objs`. -/
structure Dev where
  regs : Table Nat
  objs : Table (List Byte)
  mem : Mem
  sram : Mem
  time : Nat
  fresh : Nat
  events : List Event
  outs : List Out
  tick : TickSt
  parts : Table PartSt
  clus : ClusSt
  plz : PlzSt
  tier : TierSt
  rbt : RbtSt
  dtd : DtdSt
  gate : GateSt
  square : Table SquareSt
  host : HostSt
  arb : ArbSt
  ctl : CtlSt
  pwr : PowerSt
  deriving DecidableEq, Repr

/-- The state of the block: the commands that wait, Sentry's vault, module flash, the device. -/
structure State where
  pending : List Instr
  vault : Vault
  flash : Flash
  dev : Dev
  deriving DecidableEq, Repr

/-! ### Reset -/

/-- No tree yet. -/
def Tree.none : Tree := ⟨Option.none, 0, 0, 0, 0, 0, []⟩

/-- Tick state after reset: OFF, nothing held (R58, R368). -/
def TickSt.reset : TickSt :=
  { tree := Tree.none, targets := [], seen := [], stretches := [], parked := [], kReqs := [], belowFor := 0,
    watching := false, sinceEpoch := 0, parkedSent := false, resumeAt := none, tickDone := true, due := 0,
    reachStale := false, quench := false, pingOut := none, delays := [], acting := none, members := [],
    storedDue := true }

/-- A partition without an image. -/
def PartSt.reset : PartSt :=
  { staged := none, running := none, loading := none, positions := [], tokens := [], stepWait := none, buffers := [], wrote := [] }

/-- Clusters after reset: nothing resident, every accumulator float zero (R83). -/
def ClusSt.reset : ClusSt :=
  { l1 := [], acc := [], corr24 := [], swaps := [], groups := [], blocks := [], launches := [],
    nextLaunch := 0, vregs := [], uregs := [], ficArmed := [] }

/-- The Plaza after reset: no valid line. -/
def PlzSt.reset : PlzSt :=
  { ways := [], trees := [], mshrs := [], stalled := [], dir := [], reservations := [] }

/-- Memory tiers after reset: nothing allocated, no sequence. -/
def TierSt.reset : TierSt :=
  { frames := [], seqs := [], before := [], committed := [], softRepairs := [], applied := [], badWords := [], lastGb := [],
    gbAcc := [] }

/-- The Roundabout after reset: empty caches and records. -/
def RbtSt.reset : RbtSt :=
  { ranges := [], pages := [], pageTrees := [], holders := [], waiters := [], waitingBind := [], bound := [], recalls := [],
    recallRange := (0, 0, 0) }

/-- A link's retry state after reset. -/
def LinkSt.reset : LinkSt := ⟨0, 0, [], false, 0, 0, 0⟩

/-- The Boulevard after reset. -/
def DtdSt.reset : DtdSt :=
  { links := [], lanes := [], remap := [], fenced := [], repairFor := [], profile := [], qualRaw := [], guestBusy := false,
    silent := [], stale := [] }

/-- A gate port after reset: no cable seen, transmitters undriven (R368). -/
def PortSt.reset : PortSt :=
  { present := false, driving := false, nonceOut := [], nonceIn := [], lastRank := none, txSeq := 0, rxSeq := 0, kept := [],
    credits := [], nakSent := false }

/-- The gates after reset. -/
def GateSt.reset : GateSt := ⟨[], [], [], [], 0, [], none⟩

/-- A Square engine after reset. -/
def SquareSt.reset : SquareSt := ⟨[], []⟩

/-- The host side after reset: every queue DISABLED, MSI-X disabled (R368). -/
def HostSt.reset : HostSt :=
  { copies := [], queues := [], contexts := [], entries := [], records := [], pendingVectors := [], kioskRefusals := 0, lastKiosk := none,
    msix := false, cfgReady := false, perst := true }

/-- Arbiters after reset. -/
def ArbSt.reset : ArbSt := ⟨[], [], [], []⟩

/-- The control plane after reset. -/
def CtlSt.reset : CtlSt := ⟨[], none, 0, [], 0⟩

/-- Power right after PWRGD rose: rails up, PERST# still asserted, the on-module oscillator selected. -/
def PowerSt.reset : PowerSt :=
  { pwrEn := true, holdoff := false, ramping := false, pwrgd := true, thermtrip := false, flashWp := false,
    trefSelected := false, holdover := false, evals := 0, hotAt := none, coolAt := none }

/-- Where host memory begins in the device physical address space (R192, R306). -/
def hostBase : Nat := 0x800000000000

/-- The last device physical address plus one: host memory is 2^55 bytes (R306). -/
def hostTop : Nat := hostBase + 2 ^ 55

/-- Device memory after reset: nothing listed; device bytes read 0, host bytes hold no value the device knows. -/
def Mem.reset : Mem := ⟨[], [⟨hostBase, hostTop, 0⟩]⟩

/-- The device after a power-on reset. -/
def Dev.reset : Dev :=
  { regs := [], objs := [], mem := Mem.reset, sram := ⟨[], []⟩, time := 0, fresh := 1, events := [], outs := [],
    tick := TickSt.reset, parts := [], clus := ClusSt.reset, plz := PlzSt.reset, tier := TierSt.reset, rbt := RbtSt.reset,
    dtd := DtdSt.reset, gate := GateSt.reset, square := [], host := HostSt.reset, arb := ArbSt.reset, ctl := CtlSt.reset,
    pwr := PowerSt.reset }

/-- An empty key slot. -/
def KeySlot.empty : KeySlot := ⟨none, 0, 0, 0, false⟩

/-- Sentry as shipped: the transport key in slot 0 with every permission, no fuse blown (chapter 18, Key slots). -/
def Vault.reset : Vault :=
  { slot0 := ⟨some Config.transportKey, 0xFFFF, 0, 0, false⟩, slots := List.replicate 7 KeySlot.empty,
    debugFuse := ⟨false, false, false⟩, guestFuse := ⟨false, false, false⟩, intents := [], rollback := 0,
    copyA := ⟨Config.shippedVersion 0, 0, Config.shippedDigest 0, true⟩,
    copyB := ⟨Config.shippedVersion 1, 0, Config.shippedDigest 1, true⟩, bootCopy := 0,
    revocation := Config.shippedRevocation, revocationSeq := 0, partners := [], partnerList := Config.shippedPartners,
    partnerSeq := 0, leavesUsed := 0, zeroiseBegun := false }

/-- Module flash as shipped: no stored record, no repair, first power-up. -/
def Flash.reset : Flash :=
  { newest := none, older := none, shutdown := none, everPowered := true, cycles := 1, hours := 0, map := none, outs := [],
    repairs := [], spared := [], lastRequests := [] }

/-- The machine right after power-on reset with factory flash (R6, R368): PWRGD high, boot stage 1, no command waiting. -/
def State.reset : State := { pending := [], vault := Vault.reset, flash := Flash.reset, dev := Dev.reset }

end Sys2Proof.Machine
end

