-- ==== Sys2Proof/Machine/Ops.lean ====
section
/-! DEFINITION. The named operations on the device: register fields, memory bytes, outputs, event records, HOLD causes
and tick faults. Every meaning goes through them. -/

namespace Sys2Proof.Machine

open Sys2Proof

/-! ### Register fields -/

/-- A register field: no more than its width can hold. -/
def Dev.get (d : Dev) (f : Fld) : Nat := Table.get fieldReset d.regs f.key % 2 ^ f.w

/-- Writes a register field, cut to its width. -/
def Dev.put (d : Dev) (f : Fld) (v : Nat) : Dev := { d with regs := Table.set fieldReset d.regs f.key (v % 2 ^ f.w) }

/-- Writes several fields in order. -/
def Dev.puts (d : Dev) : List (Fld × Nat) → Dev
  | [] => d
  | (f, v) :: r => (d.put f v).puts r

/-- Adds to a saturating counter. -/
def Dev.bump (d : Dev) (f : Fld) (n : Nat) : Dev := d.put f (satTo (2 ^ f.w - 1) (d.get f + n))

/-- A field that is one bit. -/
def Dev.on (d : Dev) (f : Fld) : Bool := d.get f == 1

/-! ### Completion status codes (R388) -/

def stOk : Nat := 0x00
def stBounds : Nat := 0x01
def stPerm : Nat := 0x02
def stFaultPending : Nat := 0x03
def stStaleDesc : Nat := 0x04
def stLinkLost : Nat := 0x05
def stChecksum : Nat := 0x06
def stRerun : Nat := 0x07
def stLateBackup : Nat := 0x08
def stAbortedRecall : Nat := 0x09
def stUncorrectable : Nat := 0x0A
def stOverrun : Nat := 0x0B
def stDiverged : Nat := 0x0C
def stNotEnabled : Nat := 0x0D
def stFeature : Nat := 0x0E
def stAuthFail : Nat := 0x0F
def stGuarantee : Nat := 0x10

/-! ### Memory bytes -/

/-- The newest range without defined contents that covers `a`. -/
def Mem.fogOf (m : Mem) (a : Nat) : Option Fog := m.fogs.find? fun f => f.lo ≤ a && a < f.hi

/-- What an unlisted address reads as: a free byte where the contents are undefined, otherwise 0
(notes/assumptions/3.md). -/
def Mem.blank (m : Mem) (a : Nat) : Byte :=
  match m.fogOf a with
  | some f => Config.freeByte f.stamp a
  | none => 0#8

/-- The byte at `a`. -/
def Mem.byte (m : Mem) (a : Nat) : Byte := Table.get m.blank m.cells a

/-- Writes one byte. A byte that equals what an unlisted address reads as is not listed; where the unlisted byte is free it is
listed always. -/
def Mem.write1 (m : Mem) (a : Nat) (b : Byte) : Mem :=
  { m with cells := if (m.fogOf a).isNone && b == 0#8 then Table.del m.cells a else Table.ins m.cells a b }

/-- Writes bytes from `a` upward. -/
def Mem.write (m : Mem) (a : Nat) : List Byte → Mem
  | [] => m
  | b :: r => (m.write1 a b).write (a + 1) r

/-- `n` bytes from `a` upward. -/
def Mem.read (m : Mem) (a n : Nat) : List Byte := (List.range n).map fun i => m.byte (a + i)

/-- The bytes `lo` to `hi - 1` lose their contents. -/
def Mem.blur (m : Mem) (lo hi stamp : Nat) : Mem :=
  { cells := m.cells.filter fun c => c.1 < lo || hi ≤ c.1,
    fogs := ⟨lo, hi, stamp⟩ :: m.fogs.filter fun f => !(lo ≤ f.lo && f.hi ≤ hi) }

/-- No cell lists what its address would read as unlisted. -/
def Mem.cellsTight (m : Mem) : Bool := m.cells.all fun c => (m.fogOf c.1).isSome || c.2 != 0#8

/-- Keys strictly rising. -/
def Table.rising {α : Type} : Nat → Table α → Bool
  | _, [] => true
  | lo, (j, _) :: r => lo ≤ j && Table.rising (j + 1) r

/-- The canonical form of a memory: addresses strictly rising, and no entry that an unlisted address would read as. -/
def Mem.wf (m : Mem) : Bool := Table.rising 0 m.cells && m.cellsTight

/-- The line of 128 bytes an address lies in. -/
def lineOf (a : Nat) : Nat := a / 128

/-- Is a physical address host memory (R192, R306)? -/
def isHost (pa : Nat) : Bool := hostBase ≤ pa

/-- `n` bytes of device physical memory. -/
def Dev.read (d : Dev) (pa n : Nat) : List Byte := d.mem.read pa n

/-- Does a range of bytes touch line `l`? -/
def touches (pa n l : Nat) : Bool := n != 0 && overlaps (128 * l) 128 pa n

/-- Is line `l` wholly inside the range? -/
def lineFull (pa n l : Nat) : Bool := inside (128 * l) 128 pa n

/-- Does a range of bytes touch the 64 B code word `w` (R201)? -/
def touchesWord (pa n w : Nat) : Bool := n != 0 && overlaps (64 * w) 64 pa n

/-- Drops the science-core reservations on the lines a write touches (R170). -/
def Dev.dropReservations (d : Dev) (pa n : Nat) : Dev :=
  { d with plz := { d.plz with reservations := d.plz.reservations.filter fun r =>
      match r.2 with
      | some l => !touches pa n l
      | none => true } }

/-- May an image write some byte of a physical range? -/
def Image.writes (im : Image) (pa n : Nat) : Bool :=
  im.segs.any fun s => bit s.rights 1 && s.extents.any fun e => overlaps pa n e.pa e.len

/-- A write into a range that a running image may write is noted until the next step boundary (R77, R393). -/
def PartSt.noteWrite (x : PartSt) (pa n : Nat) : PartSt :=
  match x.running with
  | some im => if im.writes pa n then { x with wrote := (pa, n) :: x.wrote } else x
  | none => x

/-- The same for every partition. -/
def Dev.noteWrite (d : Dev) (pa n : Nat) : Dev := { d with parts := d.parts.map fun r => (r.1, r.2.noteWrite pa n) }

/-- Writes device physical memory: the bytes change, reservations on the lines are dropped (R170), and a line written
whole holds no uncorrectable word any more (R413). -/
def Dev.write (d : Dev) (pa : Nat) (data : List Byte) : Dev :=
  let d := (d.dropReservations pa data.length).noteWrite pa data.length
  { d with mem := d.mem.write pa data,
           tier := { d.tier with badWords := d.tier.badWords.filter fun w => !lineFull pa data.length (w / 2) } }

/-- A fresh stamp or free draw. -/
def Dev.draw (d : Dev) : Nat × Dev := (d.fresh, { d with fresh := d.fresh + 1 })

/-! ### Outputs and events -/

/-- Sends or drives something. -/
def Dev.emit (d : Dev) (o : Out) : Dev := { d with outs := o :: d.outs }

/-- Sends an MSI-X vector; while MSI-X is not enabled the vector's pending bit is set instead (R329). -/
def Dev.sendVector (d : Dev) (v : Nat) : Dev :=
  if d.host.msix then d.emit (.msix v)
  else { d with host := { d.host with pendingVectors := if d.host.pendingVectors.contains v then d.host.pendingVectors else v :: d.host.pendingVectors } }

/-- An event record as its 64 bytes (R389). -/
def Event.bytes (e : Event) : List Byte :=
  leBytes 8 (e.seq % 2 ^ 32 + e.source % 2 ^ 16 * 2 ^ 32 + e.status % 2 ^ 8 * 2 ^ 48 + e.cls * 2 ^ 58)
    ++ leBytes 8 e.tn ++ leBytes 8 e.time
    ++ (List.range 5).flatMap fun i => leBytes 8 (e.detail.getD i 0)

/-- Tick states (TCK_STATUS.STATE). -/
def tsOff : Nat := 0
def tsLocking : Nat := 1
def tsRunning : Nat := 2
def tsHolding : Nat := 3
def tsParked : Nat := 4
def tsResuming : Nat := 5

/-- The state of the tick state machine. -/
def Dev.tickState (d : Dev) : Nat := d.get F.TCK_STATUS_STATE

/-- Is a tick running (R389, TN)? -/
def Dev.ticking (d : Dev) : Bool := d.tickState == tsRunning || d.tickState == tsHolding

/-- The TN an event record carries (R389). -/
def Dev.tnStamp (d : Dev) : Nat := if d.ticking then d.get F.TCK_TN_TN else 2 ^ 64 - 1

/-- A record the device wrote at a host memory address, kept until it is overwritten (R332): its bytes, and whether the
entry it reports had written host memory. -/
def Dev.keepRecord (d : Dev) (pa : Nat) (rec : List Byte) (llu : Bool) : Dev :=
  if isHost pa then { d with host := { d.host with records := Table.set (fun _ => none) d.host.records pa (some (rec, llu)) } }
  else d

/-- Writes a record to device memory, or to host memory while Bus Master Enable is set; without it the record is held
(R331, R332). -/
def Dev.writeRecord (d : Dev) (pa : Nat) (rec : List Byte) (llu : Bool) : Dev :=
  let d := d.keepRecord pa rec llu
  if isHost pa && !d.on F.HST_LINK_BME then d else d.write pa rec

/-- The size of event ring `r`, in records (R329). -/
def Dev.ringSize (d : Dev) (r : Nat) : Nat := 2 ^ (d.get (F.HST_EVR_CTL_LOG2 r) + 4)

/-- Writes a record to event ring `r`, or counts it lost when the ring is full (R329). A ring that is not enabled takes
nothing (DESIGN CHOICE, notes/assumptions/14.md). -/
def Dev.ringWrite (d : Dev) (r : Nat) (rec : List Byte) : Dev :=
  if !d.on (F.HST_EVR_CTL_EN r) then d
  else
    let pi := d.get (F.HST_EVR_IDX_PI r)
    if d.ringSize r ≤ (pi + 2 ^ 32 - d.get (F.HST_EVR_IDX_CI r)) % 2 ^ 32 then
      (d.bump (F.HST_EVR_CTL_LOST r) 1).put (F.HST_EVR_CTL_OVF r) 1
    else
      let d := d.writeRecord (d.get (F.HST_EVR_BASE_PA r) + 64 * (pi % d.ringSize r)) rec false
      (d.put (F.HST_EVR_IDX_PI r) (pi + 1)).sendVector (d.get (F.HST_EVR_CTL_VECTOR r))

/-- A Lomal Object Protocol frame without its trailer (R354). `key` is index × 256 + subindex. -/
def lopFrame (op reqId key flags status : Nat) (data : List Byte) (offset : Nat) : List Byte :=
  leBytes 2 0x4C50 ++ leBytes 1 1 ++ leBytes 1 op ++ leBytes 4 reqId ++ leBytes 2 (key / 256) ++ leBytes 1 key ++ leBytes 1 flags
    ++ leBytes 1 status ++ leBytes 1 0 ++ leBytes 2 data.length ++ leBytes 4 offset ++ data

/-- Is the management port in use (object 0x1100.01, by default 1)? -/
def Dev.portInUse (d : Dev) : Bool := leNat (Table.get (fun _ => [0x01]) d.objs 0x110001) != 0

/-- NOTIFY carries an event record to the destination of object 0x1100.07 while it holds one and the management port is in use (R355;
notes/assumptions/14.md). -/
def Dev.notify (d : Dev) (rec : List Byte) : Dev :=
  match Table.get (fun _ => []) d.objs 0x110007 with
  | [] => d
  | dest => if d.portInUse then d.emit (.lop (leNat dest) (lopFrame 5 0 0 0 0 rec 0)) else d

/-- Raises an event: numbers it, writes it to the ring of its class and counts it (R329, R389). -/
def Dev.raise (d : Dev) (cls status source : Nat) (detail : List Nat) : Dev :=
  let e : Event := ⟨cls, status, source, d.get F.RAS_EVSEQ_NEXT, d.tnStamp, d.time, detail⟩
  let d := d.put F.RAS_EVSEQ_NEXT (e.seq + 1)
  let d := { d with events := e :: d.events }
  (d.ringWrite (d.get (F.HST_EVMAP_RING cls)) e.bytes).notify e.bytes

/-- Event classes (R389). -/
def evRegister : Nat := 0
def evTick : Nat := 1
def evSchedule : Nat := 2
def evTickFault : Nat := 3
def evNumeric : Nat := 4
def evPlaza : Nat := 5
def evMemory : Nat := 6
def evTranslation : Nat := 7
def evInvalidate : Nat := 8
def evDie : Nat := 9
def evGate : Nat := 10
def evQueue : Nat := 11
def evHost : Nat := 12
def evKiosk : Nat := 13
def evArbitration : Nat := 14
def evSecurity : Nat := 15
def evClock : Nat := 16
def evTrap : Nat := 17
def evMailbox : Nat := 18
def evRas : Nat := 19

/-- A register write is refused: a register-access event, counted in RAS_REGACC (R7, R8, R389). -/
def Dev.refuse (d : Dev) (off value : Nat) : Dev :=
  let d := d.puts [(F.RAS_REGACC_VALID, 1), (F.RAS_REGACC_OFFSET, off)]
  (d.bump F.RAS_REGACC_COUNT 1).raise evRegister stOk 0 [off, value]

/-! ### Features and device state -/

/-- Is feature bit `n` in the negotiated set (R362)? -/
def Dev.has (d : Dev) (n : Nat) : Bool := bit (d.get (F.IDF_NEG_BITS (n / 64))) (n % 64)

/-- The feature bits that meanings ask for (R364). -/
def ftScheduled : Nat := 2
def ftTickDomain : Nat := 3
def ftImageV1 : Nat := 4
def ftFp64Matrix : Nat := 8
def ftStrict : Nat := 9
def ftLf8 : Nat := 10
def ftLf6 : Nat := 11
def ftLf4 : Nat := 12
def ftIntMatrix : Nat := 13
def ftAccStore : Nat := 14
def ftHistogram : Nat := 15
def ftSpill : Nat := 16
def ftZeroLine : Nat := 17
def ftWayPower : Nat := 18
def ftRingRoad : Nat := 19
def ftScratch : Nat := 20
def ftKiosk : Nat := 24
def ftPcieAtomic : Nat := 25
def ftRemote : Nat := 26
def ftGroupDebug : Nat := 27
def ftGate : Nat := 32
def ftGateTick : Nat := 33
def ftGateFixed : Nat := 34
def ftGateSplit : Nat := 35
def ftGateAtomic : Nat := 36
def ftGateQmsg : Nat := 37
def ftGateSquare : Nat := 38
def ftGateBcast : Nat := 39
def ftSqBsi : Nat := 40
def ftSqOnebit : Nat := 41
def ftSqFp32 : Nat := 42
def ftSqBackup : Nat := 43
def ftSqBf16 : Nat := 44
def ftGuest : Nat := 48
def ftThermCompat : Nat := 49
def ftChanRepair : Nat := 50
def ftSpares : Nat := 51

/-- Device states (R371). -/
def dsInit : Nat := 0
def dsReady : Nat := 1
def dsFailed : Nat := 2
def dsRecovery : Nat := 3
def dsZeroising : Nat := 4

/-- Object 0x2E00.01 is READY. -/
def Dev.ready (d : Dev) : Bool := d.get F.PWR_BOOT_STATE == dsReady

/-! ### Domain ports and tick messages (R37, R42) -/

/-- A tick control message, laid out (R42). -/
def tickWord (kind domain origin cause k len runimg aux tick : Nat) : Nat :=
  tick % 2 ^ 64 + aux % 2 ^ 16 * 2 ^ 64 + runimg % 2 * 2 ^ 88 + len % 8 * 2 ^ 89 + k % 64 * 2 ^ 92 + cause % 16 * 2 ^ 98
    + origin % 2 ^ 14 * 2 ^ 102 + domain % 256 * 2 ^ 116 + kind % 16 * 2 ^ 124

/-- A port that has passed attestation. -/
def Dev.portUp (d : Dev) (p : Nat) : Bool := d.get (F.GTE_PORT_STATE p) == 4

/-- Does port `p` carry tick control messages (R37)? -/
def Dev.domainPort (d : Dev) (p : Nat) : Bool := bit (d.get F.TCK_CTRL_PORTS) p && d.portUp p

/-- The domain ports that carry messages. -/
def Dev.domainPorts (d : Dev) : List Nat := (List.range 12).filter d.domainPort

/-- Sends a word on each of some ports. -/
def Dev.sendTick (d : Dev) (ports : List Nat) (w : Nat) : Dev :=
  ports.foldl (fun d p => d.emit (.tickMsg p w)) d

/-- Is the device solo? -/
def Dev.solo (d : Dev) : Bool := d.get F.TCK_CTRL_ROLE == 0
/-- Is the device a member? -/
def Dev.member (d : Dev) : Bool := d.get F.TCK_CTRL_ROLE == 1
/-- Is the device acting as master? -/
def Dev.master (d : Dev) : Bool := d.get F.TCK_CTRL_ROLE == 2

/-- This device's rank. -/
def Dev.rank (d : Dev) : Nat := d.get F.GTE_ID_RANK

/-- A message of this device's own. -/
def Dev.ownTick (d : Dev) (kind cause k len runimg aux tick : Nat) : Nat :=
  tickWord kind (d.get F.TCK_CTRL_DOMAIN) d.rank cause k len runimg aux tick

/-- Floods a message of this device on every domain port; a solo device sends none (R35). The flood's identity is
remembered, so that its own message coming back is not forwarded again (R42). -/
def Dev.flood (d : Dev) (kind cause k tick : Nat) : Dev :=
  if d.solo then d
  else
    let d := d.sendTick d.domainPorts (d.ownTick kind cause k 0 0 0 tick)
    { d with tick := { d.tick with seen := (d.rank, cause, k, tick) :: d.tick.seen } }

/-- A scheduled partition's hidden state. -/
def Dev.part (d : Dev) (p : Nat) : PartSt := Table.get (fun _ => PartSt.reset) d.parts p

/-- Writes it. -/
def Dev.setPart (d : Dev) (p : Nat) (x : PartSt) : Dev := { d with parts := Table.set (fun _ => PartSt.reset) d.parts p x }

/-- Partition `p` is active and scheduled. -/
def Dev.scheduled (d : Dev) (p : Nat) : Bool := d.on (F.ARB_PART_ACTIVE p) && d.on (F.ARB_PART_MODE p)

/-- Partition `p` is active and queued. -/
def Dev.queued (d : Dev) (p : Nat) : Bool := d.on (F.ARB_PART_ACTIVE p) && !d.on (F.ARB_PART_MODE p)

/-- The partitions with a running image (RUNIMG of R42). -/
def Dev.runningParts (d : Dev) : List Nat := (List.range 8).filter fun p => (d.part p).running.isSome

/-- A PARKED record of this device as it stands now (R42, R51). -/
def Dev.parkedRec (d : Dev) : ParkedRec :=
  let len := match d.runningParts with
    | [] => 0
    | p :: _ => ((d.part p).running.map Image.len).getD 0
  ⟨d.rank, d.get F.TCK_STATUS_CAUSES, d.get F.TCK_TN_TN, d.get F.TCK_STATUS_K_REQ, !d.runningParts.isEmpty, len⟩

/-- The union of the latest PARKED bitmaps (TCK_STATUS.DCAUSES). -/
def unionCauses (l : List ParkedRec) : Nat := l.foldl (fun a r => a ||| r.causes) 0

/-- The master keeps the latest PARKED of each rank (R51). -/
def Dev.notePark (d : Dev) (r : ParkedRec) : Dev :=
  let l := r :: d.tick.parked.filter fun x => x.rank != r.rank
  { d with tick := { d.tick with parked := l, kReqs := Table.set (fun _ => 0) d.tick.kReqs r.rank r.kReq } }.put
    F.TCK_STATUS_DCAUSES (unionCauses l)

/-- Sends PARKED: up the tree from a member, into its own record on the master (R42, R47, R51). -/
def Dev.sendParked (d : Dev) : Dev :=
  let r := d.parkedRec
  let d := { d with tick := { d.tick with parkedSent := true } }
  if d.master then d.notePark r
  else if d.member then
    match d.tick.tree.parent with
    | some p => d.sendTick [p.val] (d.ownTick 5 0 r.kReq r.len (b2n r.runImg) r.causes r.tn)
    | none => d
  else d

/-! ### HOLD causes -/

/-- HOLD cause codes. -/
def hcSoftware : Nat := 1
def hcStretch : Nat := 2
def hcThermal : Nat := 3
def hcRetrain : Nat := 4
def hcRepair : Nat := 5
def hcFault : Nat := 6
def hcDebug : Nat := 7
def hcSlip : Nat := 8
def hcClock : Nat := 9
def hcMasterLost : Nat := 10
def hcLink : Nat := 11
def hcStep : Nat := 12
def hcOverrun : Nat := 13

/-- Is a cause held? -/
def Dev.held (d : Dev) (c : Nat) : Bool := bit (d.get F.TCK_STATUS_CAUSES) c

/-- Sets one bit of the cause bitmap. -/
def Dev.setCause (d : Dev) (c : Nat) : Dev := d.put F.TCK_STATUS_CAUSES (d.get F.TCK_STATUS_CAUSES ||| 2 ^ c)

/-- Clears one bit of the cause bitmap. -/
def Dev.dropCause (d : Dev) (c : Nat) : Dev :=
  if d.held c then d.put F.TCK_STATUS_CAUSES (d.get F.TCK_STATUS_CAUSES - 2 ^ c) else d

/-- Adds a HOLD target and leaves RUNNING for HOLDING (R47). -/
def Dev.addTarget (d : Dev) (t : Nat) : Dev :=
  let d := { d with tick := { d.tick with targets := if d.tick.targets.contains t then d.tick.targets else t :: d.tick.targets } }
  if d.tickState == tsRunning then d.put F.TCK_STATUS_STATE tsHolding else d

/-- Sends HOLD for a cause in tick n with target n + 4; a solo device parks at its next period boundary (R38, R47). -/
def Dev.sendHold (d : Dev) (c : Nat) : Dev :=
  let n := d.get F.TCK_TN_TN
  if d.solo then d.addTarget (n + 1) else (d.flood 2 c 0 (n + 4)).addTarget (n + 4)

/-- Asserts HOLD with a cause (R47, R52, R58): the cause is held; in a running tick the HOLD message goes out; while
parked a new PARKED message reports it. A cause already held asserts nothing further. -/
def Dev.assertHold (d : Dev) (c : Nat) : Dev :=
  if d.held c then d
  else
    let d := d.setCause c
    if d.ticking then d.sendHold c
    else if d.tickState == tsParked || (d.tickState == tsLocking && d.tick.parkedSent) then d.sendParked
    else d

/-- Clears a held cause; a parked device reports it (R51), and a solo device leaves PARKED when it holds none (R58). -/
def Dev.clearHold (d : Dev) (c : Nat) : Dev :=
  if !d.held c then d
  else
    let d := d.dropCause c
    if d.solo then
      if d.tickState == tsParked && d.get F.TCK_STATUS_CAUSES == 0 then d.put F.TCK_STATUS_STATE tsResuming else d
    else if d.tickState == tsParked || (d.tickState == tsLocking && d.tick.parkedSent) then d.sendParked
    else d

/-! ### Tick faults (R392, R393) -/

/-- Where a tick fault arose: partition, engine code, stream index, slot number. -/
structure SlotRef where
  part : Nat
  engine : Nat
  index : Nat
  slot : Nat
  deriving DecidableEq, Repr

/-- The device faults the tick: RAS_TF, a tick-fault event, HOLD with cause FAULT, and quenching until it parks (R392, R393). `kind`
and `addr` are RAS_TF_ADDR's fields. -/
def Dev.tickFault (d : Dev) (r : SlotRef) (status kind addr : Nat) : Dev :=
  let d :=
    if d.on F.RAS_TF_VALID then d.put F.RAS_TF_MORE 1
    else d.puts [(F.RAS_TF_VALID, 1), (F.RAS_TF_PART, r.part), (F.RAS_TF_ENGINE, r.engine), (F.RAS_TF_INDEX, r.index),
      (F.RAS_TF_SLOT, r.slot), (F.RAS_TF_STATUS, status), (F.RAS_TF_ADDR_KIND, kind), (F.RAS_TF_ADDR_ADDR, addr),
      (F.RAS_TF_TN_TN, d.get F.TCK_TN_TN)]
  let d := d.raise evTickFault status r.part [r.part, r.engine, r.index, r.slot, kind * 2 ^ 56 + addr % 2 ^ 56]
  let d := { d with tick := { d.tick with quench := d.tick.quench || d.ticking || d.tickState == tsResuming } }
  d.assertHold hcFault

/-- A tick fault at a gate port outside a slot (R262, R265); the spec names no status for it: a free value (notes/assumptions/4.md). -/
def Dev.gateFault (d : Dev) (port : Nat) : Dev :=
  let s := d.draw
  s.2.tickFault ⟨0, 0, 0, 0⟩ (Config.freeNat s.1 % 256) 3 port

/-! ### Lifting a device operation to a command -/

/-- What a command that acts on the device alone does: nothing while PWRGD is low (R24, R26). -/
def onDev (f : Dev → Dev) (s : State) : Host.Outcome State Fault Refusal :=
  if s.dev.pwr.pwrgd then .next { s with dev := f s.dev } else .next s

/-- What a command on the device does that also sees Sentry's vault and flash and may change flash. -/
def onDevFlash (f : Vault → Flash → Dev → Flash × Dev) (s : State) : Host.Outcome State Fault Refusal :=
  if s.dev.pwr.pwrgd then
    let r := f s.vault s.flash s.dev
    .next { s with flash := r.1, dev := r.2 }
  else .next s

end Sys2Proof.Machine
end

