-- ==== Sys2Proof/Machine/Objs.lean ====
section
/-! DEFINITION. The object dictionary: every object with its type, access, range, place in stored configuration and default,
as the object tables of the chapters give them; the checks of R348 and R349 on a value; the values read. -/

namespace Sys2Proof.Machine

open Sys2Proof

/-- Object types (R348). -/
inductive ObjType | u8 | u16 | u32 | u64 | i32 | bool | str | blob
  deriving DecidableEq, Repr

/-- Object access codes (chapter 00). -/
inductive ObjAcc | ro | rw | wo | auth
  deriving DecidableEq, Repr

/-- Ranges of object values: any value of the type, a number range, several number ranges, signed, odd, a length range,
listed lengths. -/
inductive ObjRange
  | any
  | num (lo hi : Nat)
  | nums (l : List (Nat × Nat))
  | signed (lo hi : Int)
  | odd
  | len (lo hi : Nat)
  | lens (l : List Nat)
  deriving DecidableEq, Repr

/-- One row of an object table. `key` is index × 256 + subindex. -/
structure ObjRow where
  key : Nat
  type : ObjType
  acc : ObjAcc
  range : ObjRange
  stored : Bool
  deflt : List Byte

/-- Object rows, part 0. -/
def objRows0 : List ObjRow :=
  [⟨0x100001, .str, .ro, .len 0 65535, false, [0x5A, 0x65, 0x6E, 0x72, 0x69, 0x64]⟩,
   ⟨0x100002, .str, .ro, .len 0 65535, false, [0x5A, 0x52, 0x4C, 0x39, 0x2D, 0x4D, 0x31, 0x32, 0x38, 0x30]⟩,
   ⟨0x100003, .u8, .ro, .num 1 9, false, leBytes 1 0x9⟩,
   ⟨0x100004, .u8, .ro, .num 0 255, false, leBytes 1 0x20⟩,
   ⟨0x100005, .u16, .ro, .num 0 384, false, leBytes 2 0x180⟩,
   ⟨0x100006, .u8, .ro, .num 0 96, false, leBytes 1 0x60⟩,
   ⟨0x100007, .u8, .ro, .num 0 12, false, leBytes 1 0xC⟩,
   ⟨0x100008, .u16, .ro, .num 0 1280, false, leBytes 2 0x500⟩,
   ⟨0x100101, .blob, .ro, .len 16 16, false, leBytes 16 offeredBits⟩,
   ⟨0x100102, .blob, .rw, .len 16 16, true, leBytes 16 3⟩,
   ⟨0x100103, .blob, .ro, .len 16 16, false, leBytes 16 3⟩,
   ⟨0x100104, .blob, .ro, .len 16 16, false, leBytes 16 3⟩,
   ⟨0x100105, .blob, .ro, .len 16 16, false, leBytes 16 0x700000000⟩,
   ⟨0x110001, .bool, .rw, .num 0 1, true, leBytes 1 0x1⟩,
   ⟨0x110002, .u8, .rw, .num 0 2, true, leBytes 1 0x2⟩,
   ⟨0x110003, .u32, .rw, .any, true, leBytes 4 0x0⟩]

/-- Object rows, part 1. -/
def objRows1 : List ObjRow :=
  [⟨0x110004, .u8, .rw, .num 0 32, true, leBytes 1 0x0⟩,
   ⟨0x110005, .u32, .rw, .any, true, leBytes 4 0x0⟩,
   ⟨0x110006, .u16, .rw, .num 1024 65535, true, leBytes 2 0x1D20⟩,
   ⟨0x110007, .blob, .rw, .lens [0, 18], true, []⟩,
   ⟨0x110008, .bool, .rw, .num 0 1, true, leBytes 1 0x1⟩,
   ⟨0x110009, .blob, .ro, .len 20 20, false, []⟩,
   ⟨0x11000A, .u32, .ro, .any, false, leBytes 4 0x0⟩,
   ⟨0x11000B, .u32, .ro, .any, false, leBytes 4 0x0⟩,
   ⟨0x110101, .u64, .ro, .any, false, leBytes 8 0x0⟩,
   ⟨0x110102, .u64, .ro, .any, false, leBytes 8 0x0⟩,
   ⟨0x110103, .u64, .ro, .any, false, leBytes 8 0x0⟩,
   ⟨0x110104, .u64, .ro, .any, false, leBytes 8 0x0⟩,
   ⟨0x110105, .u64, .ro, .any, false, leBytes 8 0x0⟩,
   ⟨0x110106, .u64, .ro, .any, false, leBytes 8 0x0⟩,
   ⟨0x110107, .u64, .ro, .any, false, leBytes 8 0x0⟩,
   ⟨0x110108, .u64, .ro, .any, false, leBytes 8 0x0⟩]

/-- Object rows, part 2. -/
def objRows2 : List ObjRow :=
  [⟨0x110109, .u16, .ro, .any, false, leBytes 2 0x0⟩,
   ⟨0x11010A, .u16, .ro, .any, false, leBytes 2 0x0⟩,
   ⟨0x11010B, .u16, .ro, .any, false, leBytes 2 0x0⟩,
   ⟨0x11010C, .u16, .ro, .any, false, leBytes 2 0x0⟩,
   ⟨0x11010D, .u16, .ro, .any, false, leBytes 2 0x0⟩,
   ⟨0x11010E, .u16, .ro, .any, false, leBytes 2 0x0⟩,
   ⟨0x11010F, .u16, .ro, .any, false, leBytes 2 0x0⟩,
   ⟨0x110110, .u16, .ro, .any, false, leBytes 2 0x0⟩,
   ⟨0x110201, .u8, .rw, .num 0 3, false, leBytes 1 0x0⟩,
   ⟨0x110202, .u16, .ro, .any, false, leBytes 2 0x1⟩,
   ⟨0x110203, .u32, .ro, .any, false, leBytes 4 0x0⟩,
   ⟨0x110204, .bool, .rw, .num 0 1, false, leBytes 1 0x0⟩,
   ⟨0x110205, .bool, .ro, .num 0 1, false, leBytes 1 0x0⟩,
   ⟨0x200001, .str, .ro, .len 16 16, false, []⟩,
   ⟨0x200002, .u8, .ro, .num 0 255, false, leBytes 1 0x3⟩,
   ⟨0x200003, .u32, .ro, .any, false, leBytes 4 0x0⟩]

/-- Object rows, part 3. -/
def objRows3 : List ObjRow :=
  [⟨0x200004, .blob, .ro, .len 6 6, false, []⟩,
   ⟨0x200005, .u8, .ro, .num 0 63, false, leBytes 1 0x0⟩,
   ⟨0x200006, .u8, .ro, .num 0 1, false, leBytes 1 0x0⟩,
   ⟨0x200007, .u16, .ro, .num 0 4095, false, leBytes 2 0x0⟩,
   ⟨0x200008, .u32, .ro, .num 0 4294967295, false, leBytes 4 0x0⟩,
   ⟨0x200009, .u32, .ro, .num 0 4294967295, false, leBytes 4 0x0⟩,
   ⟨0x20000A, .u8, .ro, .num 0 6, false, leBytes 1 0x0⟩,
   ⟨0x20000B, .str, .rw, .len 0 32, true, []⟩,
   ⟨0x20000C, .u8, .ro, .num 0 1, false, leBytes 1 0x0⟩,
   ⟨0x210001, .u8, .rw, .num 0 2, true, leBytes 1 0x0⟩,
   ⟨0x210002, .u8, .rw, .num 0 255, true, leBytes 1 0x0⟩,
   ⟨0x210003, .u16, .rw, .num 0 16383, true, leBytes 2 0x0⟩,
   ⟨0x210004, .u16, .rw, .nums [(0, 16383), (0xFFFF, 0xFFFF)], true, leBytes 2 0xFFFF⟩,
   ⟨0x210005, .u8, .rw, .num 0 6, true, leBytes 1 0x2⟩,
   ⟨0x210006, .u16, .rw, .num 0 1023, true, leBytes 2 0x0⟩,
   ⟨0x210007, .u16, .rw, .num 0 4095, true, leBytes 2 0x0⟩]

/-- Object rows, part 4. -/
def objRows4 : List ObjRow :=
  [⟨0x210008, .bool, .rw, .num 0 1, true, leBytes 1 0x0⟩,
   ⟨0x220001, .u32, .ro, .any, false, leBytes 4 0x4000000⟩,
   ⟨0x220002, .u16, .ro, .any, false, leBytes 2 0x1⟩,
   ⟨0x230001, .bool, .rw, .num 0 1, true, leBytes 1 0x1⟩,
   ⟨0x230002, .u16, .rw, .num 1 65535, true, leBytes 2 0x40⟩,
   ⟨0x230003, .u16, .rw, .num 1 720, true, leBytes 2 0x18⟩,
   ⟨0x230004, .u8, .rw, .num 1 4, true, leBytes 1 0x1⟩,
   ⟨0x230005, .blob, .ro, .len 768 768, false, []⟩,
   ⟨0x230006, .u16, .rw, .num 1 10000, true, leBytes 2 0x64⟩,
   ⟨0x230007, .u16, .auth, .num 0 383, false, leBytes 2 0x0⟩,
   ⟨0x230008, .bool, .auth, .num 0 1, false, leBytes 1 0x0⟩,
   ⟨0x240001, .u8, .ro, .any, false, leBytes 1 0x30⟩,
   ⟨0x240002, .u16, .ro, .any, false, leBytes 2 0x1000⟩,
   ⟨0x240003, .u8, .ro, .any, false, leBytes 1 0x10⟩,
   ⟨0x240004, .u8, .ro, .any, false, leBytes 1 0x20⟩,
   ⟨0x240005, .bool, .rw, .num 0 1, false, leBytes 1 0x0⟩]

/-- Object rows, part 5. -/
def objRows5 : List ObjRow :=
  [⟨0x250001, .bool, .rw, .num 0 1, true, leBytes 1 0x0⟩,
   ⟨0x250002, .i32, .rw, .signed (-128) 127, true, leBytes 4 0xFFFFFFE0⟩,
   ⟨0x250003, .u8, .ro, .any, false, leBytes 1 0x80⟩,
   ⟨0x260001, .u8, .rw, .num 0 6, true, leBytes 1 0x1⟩,
   ⟨0x260002, .u8, .rw, .odd, true, leBytes 1 0xFF⟩,
   ⟨0x260003, .u16, .ro, .any, false, leBytes 2 0x100⟩,
   ⟨0x260004, .u8, .ro, .any, false, leBytes 1 0x20⟩,
   ⟨0x270001, .u8, .rw, .num 0 248, true, leBytes 1 0x40⟩,
   ⟨0x270002, .u16, .rw, .num 0 720, true, leBytes 2 0x18⟩,
   ⟨0x270003, .u8, .rw, .num 1 32, true, leBytes 1 0x10⟩,
   ⟨0x270004, .blob, .ro, .len 768 768, false, []⟩,
   ⟨0x270005, .blob, .rw, .len 16 16, false, []⟩,
   ⟨0x270006, .bool, .auth, .num 0 1, false, leBytes 1 0x0⟩,
   ⟨0x270007, .u16, .auth, .nums [(0, 383), (0x8000, 0x817F)], false, leBytes 2 0x0⟩,
   ⟨0x280001, .u32, .rw, .num 0 3600000, true, leBytes 4 0x2710⟩,
   ⟨0x280002, .u8, .ro, .any, false, leBytes 1 0x30⟩]

/-- Object rows, part 6. -/
def objRows6 : List ObjRow :=
  [⟨0x280003, .u16, .ro, .any, false, leBytes 2 0x4000⟩,
   ⟨0x280004, .u16, .ro, .any, false, leBytes 2 0x400⟩,
   ⟨0x280005, .u16, .ro, .any, false, leBytes 2 0x1000⟩,
   ⟨0x280006, .u8, .ro, .any, false, leBytes 1 0x40⟩,
   ⟨0x290001, .u8, .rw, .num 0 1, true, leBytes 1 0x0⟩,
   ⟨0x290002, .u16, .rw, .num 1 65535, true, leBytes 2 0x40⟩,
   ⟨0x290003, .bool, .rw, .num 0 1, true, leBytes 1 0x1⟩,
   ⟨0x290004, .u8, .ro, .num 0 7, false, leBytes 1 0x0⟩,
   ⟨0x290005, .blob, .ro, .len 0 4096, false, []⟩,
   ⟨0x290006, .blob, .ro, .len 0 8192, false, []⟩,
   ⟨0x290007, .blob, .ro, .len 140 140, false, []⟩,
   ⟨0x2A0001, .u16, .auth, .nums [(0, 16383), (0xFFFF, 0xFFFF)], true, leBytes 2 0xFFFF⟩,
   ⟨0x2A0002, .u32, .rw, .num 0 16777215, true, leBytes 4 0x0⟩,
   ⟨0x2A0003, .u32, .rw, .num 0 16777215, true, leBytes 4 0x0⟩,
   ⟨0x2A0004, .u64, .rw, .any, true, leBytes 8 0xFFFFFFFFFFFFFFFF⟩,
   ⟨0x2A0005, .u16, .rw, .num 0 4095, true, leBytes 2 0x0⟩]

/-- Object rows, part 7. -/
def objRows7 : List ObjRow :=
  [⟨0x2A0006, .u32, .rw, .num 0 16777215, true, leBytes 4 0x0⟩,
   ⟨0x2A0007, .u16, .rw, .num 1 3600, true, leBytes 2 0xA⟩,
   ⟨0x2A0008, .u32, .rw, .num 1 600000, true, leBytes 4 0x3E8⟩,
   ⟨0x2A0009, .blob, .rw, .len 65536 65536, true, List.replicate 65536 0#8⟩,
   ⟨0x2A000A, .u16, .rw, .num 1 65535, true, leBytes 2 0x10⟩,
   ⟨0x2B0001, .u8, .ro, .any, false, leBytes 1 0x10⟩,
   ⟨0x2B0002, .u32, .rw, .num 0 3600000, true, leBytes 4 0x2710⟩,
   ⟨0x2B0003, .u16, .ro, .any, false, leBytes 2 0xA⟩,
   ⟨0x2B0004, .u8, .ro, .any, false, leBytes 1 0x3⟩,
   ⟨0x2B0005, .u8, .ro, .any, false, leBytes 1 0x4⟩,
   ⟨0x2C0001, .u32, .rw, .num 1 600000, true, leBytes 4 0x3E8⟩,
   ⟨0x2C0002, .u32, .ro, .any, false, leBytes 4 0x40000⟩,
   ⟨0x2C0003, .u16, .ro, .any, false, leBytes 2 0x1000⟩,
   ⟨0x2C0004, .u8, .ro, .any, false, leBytes 1 0x40⟩,
   ⟨0x2C0005, .u16, .ro, .any, false, leBytes 2 0x800⟩,
   ⟨0x2C0006, .u8, .ro, .any, false, leBytes 1 0x8⟩]

/-- Object rows, part 8. -/
def objRows8 : List ObjRow :=
  [⟨0x2C0007, .u32, .ro, .any, false, leBytes 4 0x10000⟩,
   ⟨0x2D0001, .u8, .ro, .num 0 255, false, leBytes 1 0x1⟩,
   ⟨0x2D0002, .u16, .rw, .num 1 1024, true, leBytes 2 0x100⟩,
   ⟨0x2D0003, .u16, .rw, .num 1 1024, true, leBytes 2 0x100⟩,
   ⟨0x2D0004, .u16, .rw, .num 1 1024, true, leBytes 2 0x100⟩,
   ⟨0x2D0005, .u16, .rw, .num 1 1024, true, leBytes 2 0x100⟩,
   ⟨0x2D0006, .u16, .rw, .num 1 1024, true, leBytes 2 0x100⟩,
   ⟨0x2D0007, .u16, .rw, .num 1 1024, true, leBytes 2 0x100⟩,
   ⟨0x2D0008, .u16, .rw, .num 1 60000, true, leBytes 2 0x1⟩,
   ⟨0x2D0101, .u64, .auth, .any, true, leBytes 8 0x83FFFF8C00000000⟩,
   ⟨0x2D0102, .u32, .auth, .any, true, leBytes 4 0xFFFFFFFF⟩,
   ⟨0x2D0103, .u32, .ro, .any, false, leBytes 4 0x0⟩,
   ⟨0x2D0201, .u64, .auth, .any, true, leBytes 8 0x0⟩,
   ⟨0x2D0202, .u32, .auth, .any, true, leBytes 4 0x0⟩,
   ⟨0x2D0203, .u32, .ro, .any, false, leBytes 4 0x0⟩,
   ⟨0x2D0301, .u64, .auth, .any, true, leBytes 8 0x0⟩]

/-- Object rows, part 9. -/
def objRows9 : List ObjRow :=
  [⟨0x2D0302, .u32, .auth, .any, true, leBytes 4 0x0⟩,
   ⟨0x2D0303, .u32, .ro, .any, false, leBytes 4 0x0⟩,
   ⟨0x2D0401, .u64, .auth, .any, true, leBytes 8 0x0⟩,
   ⟨0x2D0402, .u32, .auth, .any, true, leBytes 4 0x0⟩,
   ⟨0x2D0403, .u32, .ro, .any, false, leBytes 4 0x0⟩,
   ⟨0x2D0501, .u64, .auth, .any, true, leBytes 8 0x0⟩,
   ⟨0x2D0502, .u32, .auth, .any, true, leBytes 4 0x0⟩,
   ⟨0x2D0503, .u32, .ro, .any, false, leBytes 4 0x0⟩,
   ⟨0x2D0601, .u64, .auth, .any, true, leBytes 8 0x0⟩,
   ⟨0x2D0602, .u32, .auth, .any, true, leBytes 4 0x0⟩,
   ⟨0x2D0603, .u32, .ro, .any, false, leBytes 4 0x0⟩,
   ⟨0x2D0701, .u64, .auth, .any, true, leBytes 8 0x0⟩,
   ⟨0x2D0702, .u32, .auth, .any, true, leBytes 4 0x0⟩,
   ⟨0x2D0703, .u32, .ro, .any, false, leBytes 4 0x0⟩,
   ⟨0x2D0801, .u64, .auth, .any, true, leBytes 8 0x0⟩,
   ⟨0x2D0802, .u32, .auth, .any, true, leBytes 4 0x0⟩]

/-- Object rows, part 10. -/
def objRows10 : List ObjRow :=
  [⟨0x2D0803, .u32, .ro, .any, false, leBytes 4 0x0⟩,
   ⟨0x2E0001, .u8, .ro, .num 0 4, false, leBytes 1 0x0⟩,
   ⟨0x2E0002, .u8, .ro, .num 1 15, false, leBytes 1 0x1⟩,
   ⟨0x2E0003, .u8, .ro, .any, false, leBytes 1 0x0⟩,
   ⟨0x2E0004, .u16, .rw, .num 500 2000, true, leBytes 2 0x7D0⟩,
   ⟨0x2E0005, .u8, .rw, .num 85 105, true, leBytes 1 0x64⟩,
   ⟨0x2E0006, .u16, .rw, .num 1200 3200, true, leBytes 2 0xC80⟩,
   ⟨0x2E0101, .bool, .auth, .num 0 1, false, leBytes 1 0x0⟩,
   ⟨0x2F0001, .u8, .rw, .num 0 1, false, leBytes 1 0x0⟩,
   ⟨0x2F0002, .blob, .ro, .len 24 24, false, List.replicate 24 0#8⟩,
   ⟨0x2F0003, .u64, .ro, .any, false, leBytes 8 0x0⟩,
   ⟨0x2F0101, .bool, .auth, .num 0 1, false, leBytes 1 0x0⟩,
   ⟨0x2F0102, .u8, .ro, .num 0 2, false, leBytes 1 0x0⟩,
   ⟨0x500001, .u32, .ro, .any, false, leBytes 4 0x0⟩,
   ⟨0x500002, .u8, .ro, .num 0 64, false, leBytes 1 0x0⟩,
   ⟨0x500003, .u8, .ro, .num 0 64, false, leBytes 1 0x0⟩]

/-- Object rows, part 11. -/
def objRows11 : List ObjRow :=
  [⟨0x500004, .u8, .ro, .num 0 3, false, leBytes 1 0x0⟩,
   ⟨0x500005, .u64, .ro, .any, false, leBytes 8 0x0⟩,
   ⟨0x500101, .blob, .ro, .len 0 8192, false, []⟩,
   ⟨0x500201, .blob, .auth, .len 0 65536, false, []⟩,
   ⟨0x500301, .blob, .auth, .len 0 65536, false, []⟩,
   ⟨0x500401, .blob, .wo, .len 48 48, false, []⟩,
   ⟨0x500402, .blob, .ro, .len 0 12288, false, []⟩,
   ⟨0x510001, .blob, .auth, .len 0 33554432, false, []⟩,
   ⟨0x510002, .u8, .auth, .num 0 1, false, leBytes 1 0x0⟩,
   ⟨0x510003, .blob, .ro, .len 16 16, false, []⟩,
   ⟨0x510004, .bool, .auth, .num 0 1, false, leBytes 1 0x0⟩,
   ⟨0x520001, .blob, .auth, .len 56 56, false, []⟩,
   ⟨0x520002, .blob, .ro, .len 16 16, false, []⟩,
   ⟨0x530001, .u8, .auth, .num 1 2, false, leBytes 1 0x0⟩,
   ⟨0x540001, .bool, .auth, .num 0 1, false, leBytes 1 0x0⟩]

/-- Every object of the dictionary but the status mirrors at 0x3xxx. -/
def objRows : List ObjRow :=
  objRows0 ++ objRows1 ++ objRows2 ++ objRows3 ++ objRows4 ++ objRows5 ++ objRows6 ++ objRows7 ++ objRows8 ++ objRows9 ++ objRows10 ++ objRows11

/-- The row of an object. A status mirror at 0x3x00 has the row of 0x2x00 with access RO. -/
def objRow (key : Nat) : Option ObjRow :=
  if 0x300000 ≤ key ∧ key < 0x400000 then
    (objRows.find? fun r => r.key = key - 0x100000).map fun r => { r with acc := .ro, stored := false }
  else objRows.find? fun r => r.key = key

/-- The highest subindex of an index; none when the index has no object (R10). -/
def highestSub (index : Nat) : Option Nat :=
  let index := if 0x3000 ≤ index ∧ index < 0x4000 then index - 0x1000 else index
  match objRows.filter fun r => r.key / 256 = index with
  | [] => none
  | l => some (l.foldl (fun a r => max a (r.key % 256)) 0)

/-- Bytes of a fixed-size type (R348). -/
def ObjType.size : ObjType → Option Nat
  | .u8 => some 1
  | .u16 => some 2
  | .u32 => some 4
  | .u64 => some 8
  | .i32 => some 4
  | .bool => some 1
  | .str => none
  | .blob => none

/-- Type codes in stored records: U8 0 to BLOB 7 (R365). -/
def ObjType.code : ObjType → Nat
  | .u8 => 0
  | .u16 => 1
  | .u32 => 2
  | .u64 => 3
  | .i32 => 4
  | .bool => 5
  | .str => 6
  | .blob => 7

/-- A UTF-8 continuation byte. -/
def utf8Cont (b : Byte) : Bool := b.toNat / 64 == 2

/-- Well-formed UTF-8 (R348), with `fuel` at least the length. -/
def utf8Ok : Nat → List Byte → Bool
  | _, [] => true
  | 0, _ => false
  | n + 1, a :: r =>
    let x := a.toNat
    if x < 0x80 then utf8Ok n r
    else if 0xC2 ≤ x ∧ x ≤ 0xDF then
      match r with
      | b :: r => utf8Cont b && utf8Ok n r
      | _ => false
    else if 0xE0 ≤ x ∧ x ≤ 0xEF then
      match r with
      | b :: c :: r =>
        utf8Cont b && utf8Cont c && !(x == 0xE0 && b.toNat < 0xA0) && !(x == 0xED && 0x9F < b.toNat) && utf8Ok n r
      | _ => false
    else if 0xF0 ≤ x ∧ x ≤ 0xF4 then
      match r with
      | b :: c :: e :: r =>
        utf8Cont b && utf8Cont c && utf8Cont e && !(x == 0xF0 && b.toNat < 0x90) && !(x == 0xF4 && 0x8F < b.toNat) && utf8Ok n r
      | _ => false
    else false

/-- Is a value inside a range? -/
def ObjRange.holds (r : ObjRange) (bytes : List Byte) : Bool :=
  match r with
  | .any => true
  | .num lo hi => lo ≤ leNat bytes && leNat bytes ≤ hi
  | .nums l => l.any fun p => p.1 ≤ leNat bytes && leNat bytes ≤ p.2
  | .signed lo hi => lo ≤ sext 32 (leNat bytes) && sext 32 (leNat bytes) ≤ hi
  | .odd => leNat bytes % 2 == 1
  | .len lo hi => lo ≤ bytes.length && bytes.length ≤ hi
  | .lens l => l.contains bytes.length

/-- Length, type and range of a value (R348, R349). -/
def ObjRow.valueOk (r : ObjRow) (bytes : List Byte) : Bool :=
  (match r.type.size with
   | some n => bytes.length == n
   | none => true)
  && (match r.type with
      | .str => utf8Ok bytes.length bytes
      | _ => true)
  && r.range.holds bytes

/-- The longest value an object takes (R356). -/
def ObjRow.maxLen (r : ObjRow) : Nat :=
  match r.type.size, r.range with
  | some n, _ => n
  | none, .len _ hi => hi
  | none, .lens l => l.foldl max 0
  | none, _ => 65535

/-- The factory default of an object. -/
def objDefault (key : Nat) : List Byte := ((objRows.find? fun r => r.key = key).map (·.deflt)).getD []

/-- The value an object holds that is no mirror of a register. -/
def Dev.obj (d : Dev) (key : Nat) : List Byte := Table.get objDefault d.objs key

/-- The same as a number. -/
def Dev.objNat (d : Dev) (key : Nat) : Nat := leNat (d.obj key)

/-- Writes it. -/
def Dev.setObj (d : Dev) (key : Nat) (v : List Byte) : Dev := { d with objs := Table.set objDefault d.objs key v }

/-- The value in force of an object whose value can wait for a reset or a feature (R363, R350): the one latched at the last
reset when there is one. -/
def Dev.inForce (d : Dev) (key : Nat) : List Byte :=
  match Table.get (fun _ => none) d.ctl.applied key with
  | some v => v
  | none => d.obj key

/-- The same as a number. -/
def Dev.inForceNat (d : Dev) (key : Nat) : Nat := leNat (d.inForce key)

/-- The register field that an object is one value with (R350), and the bytes of the object. -/
def mirrorOf (key : Nat) : Option (Fld × Nat) :=
  match key with
  | 0x100005 => some (F.IDF_ID_CLUSTERS, 2)
  | 0x100006 => some (F.IDF_ID_SCORES, 1)
  | 0x210001 => some (F.TCK_CTRL_ROLE, 1)
  | 0x210002 => some (F.TCK_CTRL_DOMAIN, 1)
  | 0x210003 => some (F.TCK_CTRL_MASTER_RANK, 2)
  | 0x210005 => some (F.TCK_CTRL_LEN_PEND, 1)
  | 0x210007 => some (F.TCK_CTRL_PORTS, 2)
  | 0x210008 => some (F.TCK_CTRL_ENABLE, 1)
  | 0x240005 => some (F.TGD_CTRL_TRAP_STOP, 1)
  | 0x290004 => some (F.DTD_GUEST_STATE, 1)
  | 0x2A0002 => some (F.GTE_ID_POS, 4)
  | 0x2A0003 => some (F.GTE_TOPO_SIZE, 4)
  | 0x2E0001 => some (F.PWR_BOOT_STATE, 1)
  | 0x2E0002 => some (F.PWR_BOOT_STAGE, 1)
  | 0x2E0003 => some (F.PWR_BOOT_REASON, 1)
  | 0x2F0001 => some (F.RAS_CTRL_SVC, 1)
  | _ => none

/-- The fields of a register copy joined to its 64-bit value; WO fields read 0. -/
def Dev.regWord (d : Dev) (off : Nat) (r : RegRow) : Nat :=
  r.fields.foldl (fun a f => a + (if f.acc = .wo then 0 else d.get ⟨off, f.lo, f.w⟩ * 2 ^ f.lo)) 0

/-- The 64-bit value a BAR0 register reads; a reserved offset reads 0 (R8). -/
def Dev.regRead (d : Dev) (off : Nat) : Nat :=
  match regAt off with
  | none => 0
  | some (r, _) => d.regWord off r

/-- The byte of a Boolean. -/
def boolByte (b : Bool) : List Byte := [BitVec.ofNat 8 (b2n b)]

/-- A fuse reads as 1 when two of its cells read 1 (R381). -/
def Fuse.blown (f : Fuse) : Bool := (f.a && f.b) || (f.a && f.c) || (f.b && f.c)

/-- The slots of the vault in order. -/
def Vault.slot (v : Vault) (n : Nat) : KeySlot := if n = 0 then v.slot0 else v.slots.getD (n - 1) ⟨none, 0, 0, 0, false⟩

/-- The firmware copy in use: 0 A, 1 B. -/
def Vault.copy (v : Vault) (n : Nat) : Firmware := if n = 0 then v.copyA else v.copyB

/-- LMS leaves of the two-level tree, reserved in blocks of 1,024 (R383). -/
def lmsLeaves : Nat := 2 ^ 40

/-- The value of an object of index 0x1000 to 0x2FFF or 0x5000 to 0x54FF that is neither held nor a mirror: identity, lifetime,
counters and what the registers of its chapter show. -/
def liveValue (v : Vault) (fl : Flash) (d : Dev) (key : Nat) : Option (List Byte) :=
  match key with
  | 0x100101 => some (leBytes 8 (d.get (F.IDF_OFFER_BITS 0)) ++ leBytes 8 (d.get (F.IDF_OFFER_BITS 1)))
  | 0x100103 => some (leBytes 8 (d.get (F.IDF_NEG_BITS 0)) ++ leBytes 8 (d.get (F.IDF_NEG_BITS 1)))
  | 0x110009 => some (fitBytes 20 Config.addressesInUse)
  | 0x11000A => some (leBytes 4 Config.mctpVendor)
  | 0x110205 => some (boolByte d.pwr.flashWp)
  | 0x200001 => some (fitBytes 16 Config.serial)
  | 0x200003 => some (leBytes 4 Config.manufactureDate)
  | 0x200004 => some (fitBytes 6 Config.mac)
  | 0x200008 => some (leBytes 4 fl.hours)
  | 0x200009 => some (leBytes 4 fl.cycles)
  | 0x230005 => some ((List.range 384).flatMap fun l =>
      leBytes 2 (d.get (F.CLU_LMAP_PHYS l) + d.get (F.CLU_LMAP_VALID l) * 2 ^ 15))
  | 0x230007 => some (leBytes 2 0xFFFF)
  | 0x230008 => some (leBytes 1 0)
  | 0x270004 => some ((List.range 768).map Config.sparesRemaining)
  | 0x270006 => some (leBytes 1 0)
  | 0x270007 => some (leBytes 2 0xFFFF)
  | 0x290005 => some d.dtd.profile
  | 0x290006 => some d.dtd.qualRaw
  | 0x290007 => some ((List.range 140).flatMap fun m => leBytes 1 (d.get (F.DTD_MOD_WIDTH m)))
  | 0x2A0001 => some (leBytes 2 (if d.on F.GTE_ID_RANKED then d.rank else 0xFFFF))
  | 0x2A0004 => some (leBytes 8 (d.regRead 0x1010010))
  | 0x2A0006 => some (leBytes 4 ((List.range 12).foldl (fun a p => a + d.get (F.GTE_PORT_CLASS p) * 4 ^ p) 0))
  | 0x2D0001 => some (leBytes 1 ((List.range 8).foldl (fun a p => a + d.get (F.ARB_PART_ACTIVE p) * 2 ^ p) 0))
  | 0x2E0101 => some (leBytes 1 0)
  | 0x2F0002 => some (leBytes 8 (d.regRead 0x1C00008) ++ leBytes 8 (d.regRead 0x1C00010) ++ leBytes 8 (d.regRead 0x1C00018))
  | 0x2F0003 => some (leBytes 8 (d.regRead 0x1C00028))
  | 0x2F0101 => some (leBytes 1 0)
  | 0x2F0102 => some (leBytes 1 (if v.debugFuse.blown then 2 else d.get F.TGD_CTRL_UNLOCKED))
  | 0x500001 => some (leBytes 4 (v.copy d.ctl.runningCopy).version)
  | 0x500002 => some (leBytes 1 (v.copy d.ctl.runningCopy).secVersion)
  | 0x500003 => some (leBytes 1 v.rollback)
  | 0x500004 => some (leBytes 1 (b2n v.debugFuse.blown + 2 * b2n v.guestFuse.blown))
  | 0x500005 => some (leBytes 8 (lmsLeaves - v.leavesUsed))
  | 0x500101 => some Config.identityChain
  | 0x500201 => some v.revocation
  | 0x500301 => some v.partnerList
  | 0x510002 => some (leBytes 1 v.bootCopy)
  | 0x510003 => some (leBytes 4 v.copyA.version ++ leBytes 4 v.copyA.secVersion ++ leBytes 4 v.copyB.version ++ leBytes 4 v.copyB.secVersion)
  | 0x510004 => some (leBytes 1 0)
  | 0x520002 => some ((List.range 8).flatMap fun n => leBytes 2 (if (v.slot n).key.isSome then (v.slot n).mask else 0))
  | 0x530001 => some (leBytes 1 0)
  | 0x540001 => some (leBytes 1 0)
  | _ =>
    if 0x110101 ≤ key ∧ key ≤ 0x110108 then some (leBytes 8 (v.slot (key - 0x110101)).counter)
    else if 0x110109 ≤ key ∧ key ≤ 0x110110 then
      let k := v.slot (key - 0x110109)
      some (leBytes 2 (k.failures % 2 ^ 15 + b2n k.locked * 2 ^ 15))
    else if 0x2D01 ≤ key / 256 ∧ key / 256 ≤ 0x2D08 then
      let p := key / 256 - 0x2D01
      match key % 256 with
      | 1 => some (leBytes 8 (d.regRead (0x1800000 + 8 * p)))
      | 2 => some (leBytes 4 (d.get (F.ARB_FQ_QUOTA p)))
      | _ => some (leBytes 4 (d.get (F.ARB_FQ_USED p)))
    else none

/-- What reading an object's value gives, for an object that exists: a mirror reads its register, a live object what it
reports, any other its held value. -/
def objValue (v : Vault) (fl : Flash) (d : Dev) (key : Nat) : List Byte :=
  match mirrorOf key with
  | some (f, n) => leBytes n (d.get f)
  | none => (liveValue v fl d key).getD (d.obj key)

end Sys2Proof.Machine
end

