-- ==== Sys2Proof/Machine/Memory.lean ====
section
/-! DEFINITION. The physical address space: its ranges, the interleave, channels and home slices, frames and their classes,
and what an access to a physical address can meet (chapters 09 and 10). -/

namespace Sys2Proof.Machine

open Sys2Proof

/-! ### The physical map (R192) -/

/-- What lies at a physical address. -/
inductive PaKind | hbm | reserve | ring | scratch | host | none
  deriving DecidableEq, Repr

def gib : Nat := 0x40000000
def hbmTop : Nat := 0xBA00000000
def reserveTop : Nat := 0xC000000000
def ringBase : Nat := 0x10000000000
def ringTop : Nat := 0x18000000000
def scratchBase : Nat := 0x20000000000
def scratchTop : Nat := 0x20040000000

/-- The range of R192 that holds `pa`. -/
def paKind (pa : Nat) : PaKind :=
  if pa < hbmTop then .hbm
  else if pa < reserveTop then .reserve
  else if ringBase ≤ pa ∧ pa < ringTop then .ring
  else if scratchBase ≤ pa ∧ pa < scratchTop then .scratch
  else if hostBase ≤ pa ∧ pa < hostTop then .host
  else .none

/-- The end of the range of R192 that holds `pa`. -/
def paEnd (pa : Nat) : Nat :=
  match paKind pa with
  | .hbm => hbmTop
  | .reserve => reserveTop
  | .ring => ringTop
  | .scratch => scratchTop
  | .host => hostTop
  | .none => pa

/-- Does a scratch aperture range lie in the backed part of one die (R184)? -/
def Dev.scratchBacked (d : Dev) (pa n : Nat) : Bool :=
  let o := pa - scratchBase
  let die := o / 0x10000000
  o % 0x10000000 + n ≤ 384 * d.get (F.PLZ_DCFG_SCR_GROUPS die) * 0x10000

/-- Does `[pa, pa + n)` lie wholly in one range that agents may access (R192, R184)? -/
def Dev.paOk (d : Dev) (pa n : Nat) : Bool :=
  match paKind pa with
  | .none => false
  | .reserve => false
  | .scratch => d.scratchBacked pa n
  | _ => pa + n ≤ paEnd pa

/-! ### Interleave (R189, R191, R193, R194) -/

/-- Is HBM region `k` package-wide? -/
def Dev.packageWide (d : Dev) (k : Nat) : Bool := d.get (F.MEM_REGION_MODE k) == 1

/-- The global channel and the row of an HBM byte (R194). -/
def hbmChannelRow (wide : Bool) (pa : Nat) : Nat × Nat :=
  let o := pa % (3 * gib)
  let die := if wide then 0 else o / 0x30000000
  let o := if wide then o else o % 0x30000000
  let n := if wide then 384 else 96
  let g := o / 2048
  let row := g / n
  ((if wide then 0 else 96 * die) + (g + 5 * (row ^^^ (row / 64))) % n, row)

/-- The global channel of an HBM byte. -/
def Dev.hbmChannel (d : Dev) (pa : Nat) : Nat := (hbmChannelRow (d.packageWide (pa / (3 * gib))) pa).1

/-- The channel address of an HBM byte (R194). -/
def Dev.channelAddress (d : Dev) (pa : Nat) : Nat :=
  let k := pa / (3 * gib)
  k * 0x800000 + (hbmChannelRow (d.packageWide k) pa).2 * 2048 + pa % 2048

/-- The Ring Road channel of a byte (R191). -/
def ringChannel (pa : Nat) : Nat := bits pa 14 12 ^^^ bits pa 23 21 ^^^ bits pa 32 30

/-- The home slice of a byte (R171, R184). -/
def Dev.homeSlice (d : Dev) (pa : Nat) : Nat :=
  match paKind pa with
  | .hbm => d.hbmChannel pa / 12
  | .scratch =>
    let o := pa - scratchBase
    8 * (o / 0x10000000) + bits o 13 11
  | _ => bits pa 15 11 ^^^ bits pa 20 16 ^^^ bits pa 25 21

/-- The set of an HBM line in its slice (R173). -/
def plazaSet (pa : Nat) : Nat :=
  let l := bits pa 47 7
  (l ^^^ (l / 2 ^ 13) ^^^ (l / 2 ^ 26)) % 12288

/-! ### Channels (R208, R211) -/

/-- Channel states. -/
def csIdle : Nat := 0
def csRequested : Nat := 1
def csMirroring : Nat := 2
def csRedirectWait : Nat := 3
def csWorking : Nat := 4
def csRestoring : Nat := 5
def csRestoreWait : Nat := 6
def csSpared : Nat := 7
def csRetraining : Nat := 8
def csFailed : Nat := 9

/-- The state of HBM channel `c`. -/
def Dev.chan (d : Dev) (c : Nat) : Nat := d.get (F.MEM_CHAN_STATE c)

/-- Is a channel served from partner slots? While it is retraining this is what it was before. -/
def Dev.redirected (d : Dev) (c : Nat) : Bool :=
  let s := d.chan c
  let s := if s = csRetraining then Table.get (fun _ => 0) d.tier.before c else s
  csWorking ≤ s && s ≤ csSpared

/-- The partner channel that serves slice `k` of a redirected channel (R208). -/
def partnerOf (c k : Nat) : Nat :=
  let i := k / 8
  c / 32 * 32 + (if i < c % 32 then i else i + 1)

/-- The channel that serves an HBM byte now. -/
def Dev.servingChannel (d : Dev) (pa : Nat) : Nat :=
  let c := d.hbmChannel pa
  if d.redirected c then partnerOf c (pa / (3 * gib)) else c

/-- Does the byte lie on a failed channel (R214)? -/
def Dev.failedAt (d : Dev) (pa : Nat) : Bool :=
  match paKind pa with
  | .hbm => d.chan (d.servingChannel pa) == csFailed
  | .ring => d.get (F.MEM_RR_STATE (ringChannel pa)) == csFailed
  | _ => false

/-- Does an access to the byte stall: its channel retrains, or its stack is at thermal step 3 (R207, R213)? -/
def Dev.stallsAt (d : Dev) (pa : Nat) : Bool :=
  match paKind pa with
  | .hbm => d.chan (d.servingChannel pa) == csRetraining || d.get (F.MEM_STACK_STEP (d.servingChannel pa / 32)) == 3
  | .ring => d.get (F.MEM_RR_STATE (ringChannel pa)) == csRetraining
  | .host => false
  | _ => false

/-- One byte address in each 2 KiB granule of a range. -/
def granulesOf (pa n : Nat) : List Nat :=
  if n = 0 then [] else (natRange (pa / 2048) ((pa + n - 1) / 2048 - pa / 2048 + 1)).map (2048 * ·)

/-- Does any granule of a range stall? -/
def Dev.stalls (d : Dev) (pa n : Nat) : Bool := (granulesOf pa n).any d.stallsAt

/-- Does any granule of a range lie on a failed channel? -/
def Dev.failed (d : Dev) (pa n : Nat) : Bool := (granulesOf pa n).any d.failedAt

/-- The first byte of a range in a granule on a failed channel. -/
def Dev.failedPa (d : Dev) (pa n : Nat) : Nat := max pa (((granulesOf pa n).find? d.failedAt).getD 0)

/-- Does a range touch a detected uncorrectable code word (R201, R413)? -/
def Dev.bad (d : Dev) (pa n : Nat) : Bool := d.tier.badWords.any (touchesWord pa n)

/-- The lowest address of some code words. -/
def lowestWord : List Nat → Nat
  | [] => 0
  | w :: r => 64 * r.foldl min w

/-- The address of the first uncorrectable code word that a range touches. -/
def Dev.badPa (d : Dev) (pa n : Nat) : Nat := lowestWord (d.tier.badWords.filter (touchesWord pa n))

/-- The code words that make a write of a range fail: their line is written in part (R413). -/
def Dev.badUnder (d : Dev) (pa n : Nat) : List Nat :=
  d.tier.badWords.filter fun w => touches pa n (w / 2) && !lineFull pa n (w / 2)

/-- Marks the code word of a byte as uncorrectable; it stays so until a whole-line write (R413). -/
def Dev.markBad (d : Dev) (pa : Nat) : Dev :=
  if d.tier.badWords.contains (pa / 64) then d
  else { d with tier := { d.tier with badWords := pa / 64 :: d.tier.badWords } }

/-! ### Frames -/

/-- The allocated frame that holds a byte. -/
def Dev.frameAt (d : Dev) (pa : Nat) : Option Frame := d.tier.frames.find? fun f => f.pa ≤ pa && pa < f.pa + f.size

/-- Is `[pa, pa + n)` inside one Kept HBM frame (R59, R218, R311)? -/
def Dev.inKept (d : Dev) (pa n : Nat) : Bool :=
  d.tier.frames.any fun f => inside pa n f.pa f.size && !f.scratch && f.pa + f.size ≤ hbmTop

/-- Is every byte of `[pa, pa + n)` in Kept HBM frames? Looked at in 64 KiB units. -/
def Dev.allKept (d : Dev) (pa n : Nat) : Bool :=
  n == 0 || (natRange (pa / 0x10000) ((pa + n - 1) / 0x10000 - pa / 0x10000 + 1)).all fun u =>
    match d.frameAt (0x10000 * u) with
    | some f => !f.scratch && f.pa + f.size ≤ hbmTop
    | none => false

/-! ### Detected uncorrectable errors (R391, R413) -/

/-- The KIND of MEM_UELOG for a byte: 0 Kept, 1 Scratch, 2 Ring Road. -/
def Dev.ueKind (d : Dev) (pa : Nat) : Nat :=
  match paKind pa with
  | .ring => 2
  | _ => match d.frameAt pa with
    | some f => b2n f.scratch
    | none => 0

/-- A memory controller met an uncorrectable word: MEM_UELOG, MEM_UETN, the stack's or channel's count, a RAS event that
names the code word (R391). -/
def Dev.logUncorrectable (d : Dev) (pa : Nat) : Dev :=
  let d := d.puts [(F.MEM_UELOG_VALID, 1), (F.MEM_UELOG_KIND, d.ueKind pa), (F.MEM_UELOG_PA, pa), (F.MEM_UETN_TN, d.tnStamp)]
  let d := match paKind pa with
    | .hbm => d.bump (F.MEM_STACK_UNCORR (d.servingChannel pa / 32)) 1
    | .ring => d.bump (F.MEM_RR_UNCORR (ringChannel pa)) 1
    | _ => d
  d.raise evRas stUncorrectable 0 [pa]

/-- What a read of a physical range meets: its status, and the state in which a new uncorrectable error is recorded. `due` says
that the range's first code word is uncorrectable, which it then stays (R413). Every error raises a RAS event (R391). -/
def Dev.readStatus (d : Dev) (pa n : Nat) (due : Bool) : Nat × Dev :=
  if n = 0 then (stOk, d)
  else if !d.paOk pa n then (stBounds, d)
  else if isHost pa then (stOk, d)
  else if d.failed pa n then (stUncorrectable, d.raise evRas stUncorrectable 0 [d.failedPa pa n])
  else if d.bad pa n || due then
    let d := if due then d.markBad pa else d
    (stUncorrectable, d.logUncorrectable (d.badPa pa n))
  else (stOk, d)

/-- What a write to a physical range meets (R214, R413): a failed channel, or a partial write of a line that holds an
uncorrectable word, whose fill fails. -/
def Dev.writeStatus (d : Dev) (pa n : Nat) : Nat :=
  if n = 0 then stOk
  else if !d.paOk pa n then stBounds
  else if isHost pa then stOk
  else if d.failed pa n then stUncorrectable
  else if paKind pa != .ring && !(d.badUnder pa n).isEmpty then stUncorrectable
  else stOk

/-- What a write meets, with the error it meets recorded: the fill's in the controller's log (R391, R413). -/
def Dev.tryWrite (d : Dev) (pa n : Nat) : Nat × Dev :=
  let st := d.writeStatus pa n
  if st ≠ stUncorrectable then (st, d)
  else if d.failed pa n then (st, d.raise evRas st 0 [d.failedPa pa n])
  else (st, d.logUncorrectable (lowestWord (d.badUnder pa n)))

/-- Where a read or a write meets its error: the address that a tick fault names (R392). -/
def Dev.errorPa (d : Dev) (pa n : Nat) (write due : Bool) : Nat :=
  if d.failed pa n then d.failedPa pa n
  else if write then lowestWord (d.badUnder pa n)
  else if due then pa
  else max pa (d.badPa pa n)

/-- Range `[lo, hi)` is cut out of a range without defined contents. -/
def Fog.cut (f : Fog) (lo hi : Nat) : List Fog :=
  if f.hi ≤ lo ∨ hi ≤ f.lo then [f]
  else (if f.lo < lo then [{ f with hi := lo }] else []) ++ (if hi < f.hi then [{ f with lo := hi }] else [])

/-- The bytes `lo` to `hi - 1` become 0. -/
def Mem.zero (m : Mem) (lo hi : Nat) : Mem :=
  { cells := m.cells.filter fun c => c.1 < lo || hi ≤ c.1, fogs := m.fogs.flatMap fun f => f.cut lo hi }

/-- Zeroes a physical range (R59, R198). -/
def Dev.zeroRange (d : Dev) (pa n : Nat) : Dev :=
  let d := d.dropReservations pa n
  { d with mem := d.mem.zero pa (pa + n),
           tier := { d.tier with badWords := d.tier.badWords.filter fun w => !lineFull pa n (w / 2) } }

end Sys2Proof.Machine
end

