-- ==== Sys2Proof/Machine/Translate.lean ====
section
/-! DEFINITION. Address translation in the Roundabout: walks, the two caches, extents, holder records, fault records, recalls
(chapter 11). -/

namespace Sys2Proof.Machine

open Sys2Proof

/-! ### Tree pseudo-LRU (R174) -/

/-- Sets tree bit `p` to `v`. -/
def treePut (t p : Nat) (v : Bool) : Nat := t - b2n (bit t p) * 2 ^ p + b2n v * 2 ^ p

/-- From node `k` up: every parent points away from the path. -/
def treeUp : Nat → Nat → Nat → Nat
  | 0, t, _ => t
  | f + 1, t, k => if k ≤ 1 then t else treeUp f (treePut t (k / 2) (k == 2 * (k / 2))) (k / 2)

/-- touch(w) of R174 for a tree of `n` leaves. -/
def treeTouch (n t w : Nat) : Nat := treeUp 8 t (n + w)

/-- Has node `k` an eligible way below it? -/
def treeHas (n : Nat) (elig : Nat → Bool) (k : Nat) : Bool :=
  (List.range n).any fun w => elig w && (List.range 6).any fun j => (n + w) / 2 ^ j == k

/-- victim() of R174 from node `k` down. -/
def treeDown (n t : Nat) (elig : Nat → Bool) : Nat → Nat → Nat
  | 0, k => k
  | f + 1, k =>
    if n ≤ k then k
    else
      let pref := 2 * k + b2n (bit t k)
      let other := 2 * k + 1 - b2n (bit t k)
      treeDown n t elig f (if treeHas n elig pref then pref else other)

/-- The victim way of a tree of `n` leaves. -/
def treeVictim (n t : Nat) (elig : Nat → Bool) : Nat := treeDown n t elig 8 1 - n

/-! ### Walks (R218 to R222) -/

/-- Fault kinds of RBT_FREC.KIND. -/
def fkNotMapped : Nat := 1
def fkRights : Nat := 2
def fkMalformed : Nat := 3
def fkStale : Nat := 4

/-- What a lookup or walk gives. -/
inductive WalkRes
  | leaf (l : Leaf) (run : Nat)
  | fault (kind : Nat)
  | uncorrectable (pa n : Nat)
  deriving DecidableEq, Repr

/-- Is right set `r` enough for need `n` (bit 0 read, 1 write, 2 atomic)? -/
def rightsCover (r n : Nat) : Bool := r &&& n == n

/-- The checks of R222 on a leaf at a level that allows one. `z` is the log2 of its size. -/
def leafResult (root va e z need : Nat) : WalkRes :=
  let run := bits e 61 56
  let pa := bits e 55 8 * 256
  let rights := bits e 4 2
  let base := va / 2 ^ z * 2 ^ z
  let runBase := if run = 0 then base else va / 2 ^ run * 2 ^ run
  let okRun := run = 0 ∨ (z = 21 ∧ 21 ≤ run ∧ run ≤ 36) ∨ (z = 30 ∧ 30 ≤ run ∧ run ≤ 36)
  let okRange (a n : Nat) : Bool := paKind a != .none && paKind a != .reserve && a + n ≤ paEnd a
  if bits e 63 62 ≠ 0 ∨ bits e 7 5 ≠ 0 ∨ ¬okRun ∨ pa % 2 ^ z ≠ 0 ∨ (bit e 4 ∧ ¬(bit e 3 ∧ bit e 2)) ∨ !okRange pa (2 ^ z)
    ∨ (run ≠ 0 ∧ (pa < base - runBase ∨ !okRange (pa - (base - runBase)) (2 ^ run))) then .fault fkMalformed
  else if !rightsCover rights need then .fault fkRights
  else if run = 0 then .leaf ⟨root, base, z, pa, rights⟩ 0
  else .leaf ⟨root, runBase, run, pa - (base - runBase), rights⟩ run

/-- The walk below a table at `tbl`: for each level its index's lowest VA bit, the index's width, the leaf's log2 size (0 where no
leaf is allowed) and whether a table pointer may stand there. -/
def Dev.walkFrom (d : Dev) (root va need : Nat) : List (Nat × Nat × Nat × Bool) → Nat → WalkRes
  | [], _ => .fault fkMalformed
  | (sh, w, z, ptr) :: rest, tbl =>
    let ea := tbl + 8 * (va / 2 ^ sh % 2 ^ w)
    if !d.inKept ea 8 then .fault fkMalformed
    else if d.bad ea 8 || d.failed ea 8 then .uncorrectable ea 8
    else
      let e := leNat (d.read ea 8)
      match e % 4 with
      | 0 => .fault fkNotMapped
      | 1 =>
        let next := bits e 55 8 * 256
        if !ptr || bits e 63 56 != 0 || bits e 7 2 != 0 || (rest.length != 1 && next % 0x1000 != 0) then .fault fkMalformed
        else d.walkFrom root va need rest next
      | 2 => if z = 0 then .fault fkMalformed else leafResult root va e z need
      | _ => .fault fkMalformed

/-- The five levels (the table of levels in chapter 11). -/
def walkLevels : List (Nat × Nat × Nat × Bool) :=
  [(48, 8, 0, true), (39, 9, 0, true), (30, 9, 30, true), (21, 9, 21, true), (16, 5, 16, false)]

/-- `a` is older than `b`, modulo 2^32 (R219). -/
def genOlder (a b : Nat) : Bool :=
  let x := (b + 2 ^ 32 - a) % 2 ^ 32
  1 ≤ x && x ≤ 2 ^ 31 - 1

/-- The physical address of root `r`'s record. -/
def Dev.rootRecord (d : Dev) (r : Nat) : Nat := 64 * d.get (F.RBT_ROOT_REC_PA r)

/-- The GEN in root `r`'s record in device memory. -/
def Dev.rootGen (d : Dev) (r : Nat) : Nat := leNat (d.read (d.rootRecord r + 8) 4)

/-- A walk from the root record (R218, R220, R222). -/
def Dev.walk (d : Dev) (root va need : Nat) : WalkRes :=
  let rec_ := d.rootRecord root
  if !d.inKept rec_ 64 then .fault fkMalformed
  else if d.bad rec_ 64 || d.failed rec_ 64 then .uncorrectable rec_ 64
  else
    let b := d.read rec_ 64
    if leWord b 0 / 2 ^ 56 ≠ 0 ∨ leWord b 0 % 2 ^ 11 ≠ 0 ∨ leWord b 1 / 2 ^ 32 ≠ 0 ∨ (b.drop 16).any (· != 0#8) then .fault fkMalformed
    else if genOlder (leWord b 1) (d.get (F.RBT_GEN_GEN root)) then .fault fkStale
    else d.walkFrom root va need walkLevels (leWord b 0)

/-! ### Caches (R223, R224) -/

/-- The page-cache set of a leaf of size 2^z. -/
def pageSet (root va z : Nat) : Nat := (va / 2 ^ z % 2 ^ 11) ^^^ (32 * root % 2048)

/-- The leaf in a way of a set. -/
def Dev.pageWay (d : Dev) (set w : Nat) : Option Leaf := Table.get (fun _ => none) d.rbt.pages (8 * set + w)

/-- The way of a set that holds the leaf of this root, size and address. -/
def Dev.pageFind (d : Dev) (root va z : Nat) : Option (Nat × Leaf) :=
  (List.range 8).findSome? fun w =>
    match d.pageWay (pageSet root va z) w with
    | some l => if l.root = root ∧ l.z = z ∧ l.va = va / 2 ^ z * 2 ^ z then some (w, l) else none
    | none => none

/-- Touches a way of a page-cache set. -/
def Dev.pageTouch (d : Dev) (set w : Nat) : Dev :=
  let t := Table.set (fun _ => 0) d.rbt.pageTrees set (treeTouch 8 (Table.get (fun _ => 0) d.rbt.pageTrees set) w)
  { d with rbt := { d.rbt with pageTrees := t } }

/-- Fills a leaf into the page cache: its own way, else the lowest invalid way, else the victim. -/
def Dev.pageFill (d : Dev) (l : Leaf) : Dev :=
  let set := pageSet l.root l.va l.z
  let w := match d.pageFind l.root l.va l.z with
    | some (w, _) => w
    | none => match (List.range 8).find? fun w => (d.pageWay set w).isNone with
      | some w => w
      | none => treeVictim 8 (Table.get (fun _ => 0) d.rbt.pageTrees set) fun _ => true
  ({ d with rbt := { d.rbt with pages := Table.set (fun _ => none) d.rbt.pages (8 * set + w) (some l) } } : Dev).pageTouch set w

/-- Does a range entry cover this root and address? -/
def Leaf.covers (l : Leaf) (root va : Nat) : Bool := l.root == root && l.va ≤ va && va < l.va + 2 ^ l.z

/-- Puts a range entry at the most recently used end, at most 48 entries. -/
def Dev.rangeUse (d : Dev) (l : Leaf) : Dev :=
  let r := (l :: d.rbt.ranges.filter fun x => !(x.root == l.root && x.va == l.va && x.z == l.z)).take 48
  { d with rbt := { d.rbt with ranges := r } }

/-- A walk, counted, with its leaf cached (R223). -/
def Dev.walkFill (d : Dev) (root va need : Nat) : WalkRes × Dev :=
  let d := d.bump F.RBT_STAT_WALKS 1
  match d.walk root va need with
  | .leaf l run => (.leaf l run, if run = 0 then d.pageFill l else d.rangeUse l)
  | .uncorrectable pa n => (.uncorrectable pa n, (d.readStatus pa n false).2)
  | r => (r, d)

/-- A lookup: range entries, then the page cache, then a walk; a cached leaf without the right is re-walked once (R224). -/
def Dev.lookup (d : Dev) (root va need : Nat) : WalkRes × Dev :=
  match d.rbt.ranges.find? fun l => l.covers root va with
  | some l =>
    if rightsCover l.rights need then (.leaf l l.z, (d.bump F.RBT_STAT_HITS 1).rangeUse l) else d.walkFill root va need
  | none =>
    match [16, 21, 30].findSome? fun z => d.pageFind root va z with
    | some (w, l) =>
      if rightsCover l.rights need then (.leaf l 0, (d.bump F.RBT_STAT_HITS 1).pageTouch (pageSet root l.va l.z) w)
      else d.walkFill root va need
    | none => d.walkFill root va need

/-! ### Extents (R225) -/

/-- What translating a range gives: extents, a status without a fault record, or a fault at an address. -/
inductive Xlate
  | ok (e : List Extent)
  | stop (status : Nat)
  | fault (kind va : Nat)
  deriving DecidableEq, Repr

/-- Puts a run before extents, merged with the first where PA advances with VA and the rights are the same. -/
def joinExtent (e : Extent) : List Extent → List Extent
  | [] => [e]
  | x :: r => if x.pa = e.pa + e.len ∧ x.rights = e.rights then ⟨e.va, e.len + x.len, e.pa, e.rights⟩ :: r else e :: x :: r

/-- The extents of `[va, stop)`, leaf by leaf; `fuel` is at least the number of 64 KiB granules. -/
def Dev.extentsFrom (root need stop : Nat) : Nat → Dev → Nat → Xlate × Dev
  | 0, d, _ => (.ok [], d)
  | n + 1, d, va =>
    if stop ≤ va then (.ok [], d)
    else
      match d.lookup root va need with
      | (.leaf l _, d) =>
        let e : Extent := ⟨va, min stop (l.va + 2 ^ l.z) - va, l.pa + (va - l.va), l.rights⟩
        match extentsFrom root need stop n d (va + e.len) with
        | (.ok r, d) => (.ok (joinExtent e r), d)
        | x => x
      | (.fault k, d) => (.fault k (if k = fkStale then 0 else va), d)
      | (.uncorrectable _ _, d) => (.stop stUncorrectable, d)

/-- Translates a range for a partition (R217, R225, R321): PERM where the root is not valid or not owned, BOUNDS where the range
passes 2^56. -/
def Dev.translate (d : Dev) (root part va len need : Nat) : Xlate × Dev :=
  if !d.on (F.RBT_ROOT_VALID root) || d.get (F.RBT_ROOT_PART root) != part then (.stop stPerm, d)
  else if 2 ^ 56 < va + len then (.stop stBounds, d)
  else Dev.extentsFrom root need (va + len) (len / 0x10000 + 2) d va

/-- The physical address of `va` in extents. -/
def extentPa (l : List Extent) (va : Nat) : Option Nat :=
  (l.find? fun e => e.va ≤ va && va < e.va + e.len).map fun e => e.pa + (va - e.va)

/-- A virtual range as physical runs. -/
def extentRuns (l : List Extent) (va len : Nat) : List (Nat × Nat) :=
  l.filterMap fun e =>
    let a := max va e.va
    let b := min (va + len) (e.va + e.len)
    if a < b then some (e.pa + (a - e.va), b - a) else none

/-- Reads a virtual range through its extents. -/
def Dev.readVa (d : Dev) (l : List Extent) (va len : Nat) : List Byte :=
  (extentRuns l va len).flatMap fun r => d.read r.1 r.2

/-- Writes bytes to physical runs in order. -/
def Dev.writeRuns (d : Dev) : List (Nat × Nat) → List Byte → Dev
  | [], _ => d
  | (pa, n) :: r, data => (d.write pa (data.take n)).writeRuns r (data.drop n)

/-- Writes a virtual range through its extents. -/
def Dev.writeVa (d : Dev) (l : List Extent) (va : Nat) (data : List Byte) : Dev :=
  d.writeRuns (extentRuns l va data.length) data

/-- What a read of runs meets: the first status that is not OK. -/
def Dev.readRuns (d : Dev) : List (Nat × Nat) → Bool → Nat × Dev
  | [], _ => (stOk, d)
  | (pa, n) :: r, due =>
    match d.readStatus pa n due with
    | (0, d) => d.readRuns r false
    | x => x

/-- What a write of runs meets. -/
def Dev.writeRunsStatus (d : Dev) : List (Nat × Nat) → Nat
  | [] => stOk
  | (pa, n) :: r => if d.writeStatus pa n = stOk then d.writeRunsStatus r else d.writeStatus pa n

/-- What a write of runs meets, with the error recorded. -/
def Dev.tryWriteRuns (d : Dev) : List (Nat × Nat) → Nat × Dev
  | [] => (stOk, d)
  | (pa, n) :: r =>
    match d.tryWrite pa n with
    | (0, d) => d.tryWriteRuns r
    | x => x

/-! ### Holder records (R226, R227) -/

def holderCopy (e : Nat) : Nat := 400 + e
def holderImage (p : Nat) : Nat := 416 + p
def holderSquare (g : Nat) : Nat := 424 + g
def holderQueue : Nat := 426
def holderFrames : Nat := 427

/-- Sets a holder's bit in the record of a root and range, taking a free record where there is none; none while all 4,096 records
are in use. -/
def Dev.hold (d : Dev) (id root va len : Nat) : Option Dev :=
  if d.rbt.holders.any fun h => h.root = root ∧ h.va = va ∧ h.len = len then
    some { d with rbt := { d.rbt with holders := d.rbt.holders.map fun h =>
      if h.root = root ∧ h.va = va ∧ h.len = len then { h with ids := id :: h.ids } else h } }
  else if d.rbt.holders.length < 4096 then
    some { d with rbt := { d.rbt with holders := ⟨root, va, len, [id]⟩ :: d.rbt.holders } }
  else none

/-- A holder releases one binding; a record whose bitmap empties frees (R227). -/
def Dev.release (d : Dev) (id root va len : Nat) : Dev :=
  { d with rbt := { d.rbt with holders := (d.rbt.holders.map fun h =>
      if h.root = root ∧ h.va = va ∧ h.len = len then { h with ids := h.ids.erase id } else h).filter fun h => !h.ids.isEmpty } }

/-! ### Fault records (R228) -/

/-- The access code of a need: 0 read, 1 write, 2 atomic. -/
def accessCode (need : Nat) : Nat := if bit need 2 then 2 else if bit need 1 then 1 else 0

/-- The open record of a key: root and 64 KiB granule; a stale root's record is keyed by the root alone (R220). -/
def Dev.faultRecord (d : Dev) (root va kind : Nat) : Option Nat :=
  (List.range 1024).find? fun i =>
    d.on (F.RBT_FREC0_OPEN i) && d.get (F.RBT_FREC0_ROOT i) == root
      && (if kind = fkStale then d.get (F.RBT_FREC0_KIND i) == fkStale
          else d.get (F.RBT_FREC0_KIND i) != fkStale && d.get (F.RBT_FREC0_VA i) == va / 0x10000)

/-- The lowest record that is not open (DEDUCED, notes/assumptions/15.md). -/
def Dev.freeRecord (d : Dev) : Option Nat := (List.range 1024).find? fun i => !d.on (F.RBT_FREC0_OPEN i)

/-- Appends a waiter to its record. -/
def Dev.addWaiter (d : Dev) (w : Waiter) (record : Nat) : Dev :=
  ({ d with rbt := { d.rbt with waiters := d.rbt.waiters ++ [{ w with record := record }] } } : Dev).put (F.RBT_FREC0_WAITERS record)
    (d.get (F.RBT_FREC0_WAITERS record) + 1)

/-- A requester that faulted parks on the record of its key: it joins the open one, or opens the lowest free one with one
translation event; while all 1,024 are open it waits (R228). -/
def Dev.park (d : Dev) (w : Waiter) (kind va : Nat) : Dev :=
  match d.faultRecord w.root va kind with
  | some i => d.addWaiter w i
  | none =>
    match d.freeRecord with
    | none => { d with rbt := { d.rbt with waitingBind := d.rbt.waitingBind ++ [w] } }
    | some i =>
      let d := d.puts [(F.RBT_FREC0_OPEN i, 1), (F.RBT_FREC0_KIND i, kind), (F.RBT_FREC0_ACCESS i, accessCode w.need),
        (F.RBT_FREC0_VA i, va / 0x10000), (F.RBT_FREC0_ROOT i, w.root), (F.RBT_FREC0_WAITERS i, 0), (F.RBT_FREC1_FIRST i, w.holder)]
      (d.addWaiter w i).raise evTranslation stOk w.holder [i, w.root, va, accessCode w.need, kind]

/-- A queue entry ends with a status and a result; its completion record is written by ENTRY_COMPLETE (R317). -/
def Dev.finishEntry (d : Dev) (q seq status result : Nat) : Dev :=
  { d with host := { d.host with entries := d.host.entries.map fun e =>
      if e.queue = q ∧ e.seq = seq ∧ e.finished.isNone then { e with finished := some (status, result) } else e } }

/-- Keeps the result of a binding request that belongs to no queue entry. -/
def Dev.setBound (d : Dev) (b : Bound) : Dev :=
  { d with rbt := { d.rbt with bound := b :: d.rbt.bound.filter fun x => !(x.holder == b.holder && x.root == b.root && x.va == b.va) } }

/-- Does an invalidate in progress cover the range (R232 step 2)? -/
def Dev.invalidating (d : Dev) (root va len : Nat) : Bool :=
  d.get F.RBT_INV_STATUS == 1 && d.rbt.recallRange.1 == root && overlaps va len d.rbt.recallRange.2.1 d.rbt.recallRange.2.2

/-- A waiter completes with a status: its entry ends with it, or its binding's result shows it. -/
def Dev.waiterDone (d : Dev) (w : Waiter) (status : Nat) : Dev :=
  match w.entry with
  | some (q, s) => d.finishEntry q s status 0
  | none => d.setBound ⟨w.holder, w.root, w.va, status, []⟩

/-- Requests a binding (R225): it waits out an invalidate of its range; a fault parks it; extents past sixteen fail a segment's
binding with BOUNDS; a binding that passes takes its holder record and keeps its extents. A request of a queue entry only clears
the way: the entry's own command translates again. -/
def Dev.requestBind (d : Dev) (w : Waiter) : Dev :=
  if d.invalidating w.root w.va w.len then { d with rbt := { d.rbt with waitingBind := d.rbt.waitingBind ++ [w] } }
  else
    match d.translate w.root w.part w.va w.len w.need with
    | (.fault k va, d) => d.park w k va
    | (.stop st, d) => d.waiterDone w st
    | (.ok l, d) =>
      match w.entry with
      | some _ => d
      | none =>
        if w.segment && 16 < l.length then d.waiterDone w stBounds
        else
          match d.hold w.holder w.root w.va w.len with
          | none => { d with rbt := { d.rbt with waitingBind := d.rbt.waitingBind ++ [w] } }
          | some d => d.setBound ⟨w.holder, w.root, w.va, stOk, l⟩

/-- Takes every waiter off a record and closes it. -/
def Dev.closeRecord (d : Dev) (i : Nat) : List Waiter × Dev :=
  (d.rbt.waiters.filter (·.record == i),
    ({ d with rbt := { d.rbt with waiters := d.rbt.waiters.filter (·.record != i) } } : Dev).puts
      [(F.RBT_FREC0_OPEN i, 0), (F.RBT_FREC0_WAITERS i, 0)])

/-- Requests that waited ask again, in order (R227, R228, R232). -/
def Dev.retryWaiting (d : Dev) : Dev :=
  d.rbt.waitingBind.foldl Dev.requestBind { d with rbt := { d.rbt with waitingBind := [] } }

/-- Every waiter of a record walks again in arrival order (R220, R229). -/
def Dev.rewalk (d : Dev) (i : Nat) : Dev :=
  let r := d.closeRecord i
  (r.1.foldl Dev.requestBind r.2).retryWaiting

/-- Every waiter of a record completes with a status (R229, R230). -/
def Dev.failWaiters (d : Dev) (i status : Nat) : Dev :=
  let r := d.closeRecord i
  (r.1.foldl (fun d w => d.waiterDone w status) r.2).retryWaiting

/-- Is a queue entry parked on a record or waiting to translate? -/
def Dev.entryParked (d : Dev) (q s : Nat) : Bool :=
  (d.rbt.waiters ++ d.rbt.waitingBind).any fun w => w.entry == some (q, s)

/-- The lowest-numbered valid root of a partition (R217). -/
def Dev.rootOfPart (d : Dev) (p : Nat) : Option Nat :=
  (List.range 64).find? fun r => d.on (F.RBT_ROOT_VALID r) && d.get (F.RBT_ROOT_PART r) == p

end Sys2Proof.Machine
end

