-- ==== Sys2Proof/Machine/Operands.lean ====
section
/-! DEFINITION. The operand forms: descriptors of 64 bytes as their fields, with the reserved-field check of each (R9, R321), and
formats by code. -/

namespace Sys2Proof.Machine

open Sys2Proof

/-- The format of a code of the matrix descriptor (chapter 04); none for a reserved code. -/
def fmtOfCode (c : Nat) : Option Fmt :=
  match c with
  | 0x0 => some .fp64
  | 0x1 => some .fp32
  | 0x2 => some .fp16
  | 0x3 => some .bf16
  | 0x4 => some .lf8a
  | 0x5 => some .lf8b
  | 0x6 => some .lf6
  | 0x7 => some .lf4
  | 0x8 => some .int8
  | 0x9 => some .int4
  | 0xA => some .int32
  | _ => none

/-- The feature bit that gives a format code its meaning, if one does (R364). -/
def fmtFeature (c : Nat) : Option Nat :=
  match c with
  | 0x0 => some ftFp64Matrix
  | 0x4 => some ftLf8
  | 0x5 => some ftLf8
  | 0x6 => some ftLf6
  | 0x7 => some ftLf4
  | 0x8 => some ftIntMatrix
  | 0x9 => some ftIntMatrix
  | 0xA => some ftIntMatrix
  | _ => none

/-- Is a format code defined and within the negotiated set (R9, R363)? -/
def Dev.fmtCodeOk (d : Dev) (c : Nat) : Bool :=
  (fmtOfCode c).isSome && match fmtFeature c with
    | some n => d.has n
    | none => true

/-- The conversion mode of a CONV code (R135). -/
def convOfCode (c : Nat) : ConvMode := if c = 1 then .inf else if c = 2 then .nan else .sat

/-- A matrix operation descriptor (R84). -/
structure MatDesc where
  aKstep : Nat
  aAddr : Nat
  aStride : Nat
  bKstep : Nat
  bAddr : Nat
  bStride : Nat
  dUstep : Nat
  dAddr : Nat
  dStride : Nat
  bUstep : Nat
  aUstep : Nat
  sbAddr : Nat
  saAddr : Nat
  sbUstep : Nat
  saUstep : Nat
  kSteps : Nat
  fmtD : Nat
  fmtB : Nat
  fmtA : Nat
  conv : Nat
  out : Bool
  acc : Bool
  zeros : Bool
  deriving DecidableEq, Repr

/-- Reads it from 64 bytes. -/
def matDesc (b : List Byte) : MatDesc :=
  let w (i : Nat) := leWord b i
  { aKstep := bits (w 0) 63 40, aAddr := bits (w 0) 39 16, aStride := bits (w 0) 15 0,
    bKstep := bits (w 1) 63 40, bAddr := bits (w 1) 39 16, bStride := bits (w 1) 15 0,
    dUstep := bits (w 2) 63 40, dAddr := bits (w 2) 39 16, dStride := bits (w 2) 15 0,
    bUstep := bits (w 3) 47 24, aUstep := bits (w 3) 23 0, sbAddr := bits (w 4) 47 24, saAddr := bits (w 4) 23 0,
    sbUstep := bits (w 5) 47 24, saUstep := bits (w 5) 23 0, kSteps := bits (w 6) 31 16, fmtD := bits (w 6) 15 12,
    fmtB := bits (w 6) 11 8, fmtA := bits (w 6) 7 4, conv := bits (w 6) 3 2, out := bit (w 6) 1, acc := bit (w 6) 0,
    zeros := bits (w 3) 63 48 == 0 && bits (w 4) 63 48 == 0 && bits (w 5) 63 48 == 0 && bits (w 6) 63 32 == 0 && w 7 == 0 }

/-- An accumulator store or load descriptor (R88). -/
structure AccDesc where
  addr : Nat
  ustep : Nat
  zeros : Bool
  deriving DecidableEq, Repr

/-- Reads it. -/
def accDesc (b : List Byte) : AccDesc :=
  let w (i : Nat) := leWord b i
  { addr := bits (w 0) 23 0, ustep := bits (w 1) 23 0,
    zeros := bits (w 0) 63 24 == 0 && bits (w 1) 63 24 == 0 && (b.drop 16).all (· == 0#8) }

/-- A data-mover descriptor (R89). -/
structure MovDesc where
  seg : Nat
  memOffset : Nat
  memStride : Nat
  lsStride : Nat
  lsAddr : Nat
  rows : Nat
  rowBytes : Nat
  dir : Nat
  zeros : Bool
  deriving DecidableEq, Repr

/-- Reads it. -/
def movDesc (b : List Byte) : MovDesc :=
  let w (i : Nat) := leWord b i
  { seg := bits (w 0) 63 56, memOffset := bits (w 0) 55 0, memStride := w 1, lsStride := bits (w 2) 63 40,
    lsAddr := bits (w 2) 39 16, rows := bits (w 3) 47 24, rowBytes := bits (w 3) 23 0, dir := bits (w 4) 1 0,
    zeros := bits (w 2) 15 0 == 0 && bits (w 3) 63 48 == 0 && bits (w 4) 63 2 == 0 && (b.drop 40).all (· == 0#8) }

/-- A launch descriptor (R102). -/
structure LaunchDesc where
  codeSeg : Nat
  entryPc : Nat
  argSeg : Nat
  argAddr : Nat
  grid : Nat
  argWords : Nat
  regs : Nat
  groups : Nat
  lsBase : Nat
  setting : Nat
  strict : Bool
  lsUnits : Nat
  segMap : List Nat
  segList : Nat
  count : Nat
  first : Nat
  segCount : Nat
  zeros : Bool
  zerosQueued : Bool
  zerosSched : Bool
  deriving DecidableEq, Repr

/-- Reads it. `zeros` is the check of the fields reserved in both modes and of the reserved values; the other two add those reserved
in one. -/
def launchDesc (b : List Byte) : LaunchDesc :=
  let w (i : Nat) := leWord b i
  let segCount := bits (w 6) 4 0
  let setting := bits (w 3) 39 36
  { codeSeg := bits (w 0) 63 56, entryPc := bits (w 0) 55 0, argSeg := bits (w 1) 63 56, argAddr := bits (w 1) 55 0,
    grid := bits (w 2) 63 32, argWords := bits (w 2) 21 16, regs := bits (w 2) 15 8, groups := bits (w 2) 5 0,
    lsBase := bits (w 3) 63 40, setting := setting, strict := bit (w 3) 33, lsUnits := bits (w 3) 10 0,
    segMap := ((b.drop 32).take 16).map (·.toNat), segList := bits (w 4) 55 0, count := bits (w 6) 63 48,
    first := bits (w 6) 47 32, segCount := segCount,
    zeros := bits (w 2) 31 22 == 0 && bits (w 2) 7 6 == 0 && bits (w 3) 35 34 == 0 && bits (w 3) 32 11 == 0
      && bits (w 6) 31 5 == 0 && w 7 == 0 && setting ≤ 4,
    zerosQueued := bits (w 4) 63 56 == 0 && w 5 == 0,
    zerosSched := bits (w 6) 63 32 == 0 && (((b.drop 32).take 16).drop segCount).all (· == 0#8) }

end Sys2Proof.Machine
end

