-- ==== Sys2Proof/Machine/Engines.lean ====
section
/-! DEFINITION. The engines of a cluster, whoever hands them work: local store and spill, tensor units with flags, captures and
histograms, accumulator store and load, data movers (chapters 04 and 07). -/

namespace Sys2Proof.Machine

open Sys2Proof

/-! ### Clusters and partitions -/

/-- The physical cluster that holds a logical number (R96). -/
def Dev.physOf (d : Dev) (l : Nat) : Option Nat :=
  if d.on (F.CLU_LMAP_VALID l) then some (d.get (F.CLU_LMAP_PHYS l)) else none

/-- The partition that owns a logical cluster (R341). -/
def Dev.clusterPart (d : Dev) (l : Nat) : Option Nat :=
  (List.range 8).find? fun p => d.on (F.ARB_PART_ACTIVE p) && d.get (F.ARB_PART_CLUSTER_FIRST p) ≤ l
    && l < d.get (F.ARB_PART_CLUSTER_FIRST p) + d.get (F.ARB_PART_CLUSTER_COUNT p)

/-- The partition of a physical cluster, by the logical number it holds. -/
def Dev.physPart (d : Dev) (phys : Nat) : Option Nat :=
  if d.get (F.CLU_ID_STATE phys) = 0 then d.clusterPart (d.get (F.CLU_ID_LOGICAL phys)) else none

/-- Does a physical cluster belong to a scheduled partition? -/
def Dev.physScheduled (d : Dev) (phys : Nat) : Bool :=
  match d.physPart phys with
  | some p => d.on (F.ARB_PART_MODE p)
  | none => false

/-! ### Local store (R93, R94) -/

/-- The on-chip local-store bytes of an SRAM setting. -/
def onChipOf (setting : Nat) : Nat := 0x200000 - (setting - 1) * 0x80000

/-- The on-chip bytes at the setting in force. -/
def Dev.onChip (d : Dev) (phys : Nat) : Nat := onChipOf (d.get (F.CLU_SRAM_SETTING phys))

/-- The spill bytes that count: those of CLU_SPILL when its range lies in the partition's scratch range on the cluster's die
(R94, R185). -/
def Dev.spillBytes (d : Dev) (part phys : Nat) : Nat :=
  let n := min (d.get (F.CLU_SPILL_SIZE phys)) 32
  let die := phys / 100
  if inside (d.get (F.CLU_SPILL_BASE phys)) n (d.get (F.PLZ_SCR_BASE die part)) (d.get (F.PLZ_SCR_SIZE die part)) then 0x10000 * n
  else 0

/-- The local-store window at a setting. -/
def Dev.windowAt (d : Dev) (part phys setting : Nat) : Nat := onChipOf setting + d.spillBytes part phys

/-- The local-store window in force. -/
def Dev.window (d : Dev) (part phys : Nat) : Nat := d.windowAt part phys (d.get (F.CLU_SRAM_SETTING phys))

/-- Where on-chip byte `a` of a cluster stands in `sram`. -/
def sramAt (phys a : Nat) : Nat := phys * 0x800000 + a

/-- The physical address of window byte `a`, which lies above the on-chip bytes. -/
def Dev.spillAt (d : Dev) (phys a : Nat) : Nat := scratchBase + 0x10000 * d.get (F.CLU_SPILL_BASE phys) + (a - d.onChip phys)

/-- The bytes of a window range that lie on chip, and those in the spill region: counts. -/
def Dev.lsSplit (d : Dev) (phys a n : Nat) : Nat × Nat :=
  let on := min n (d.onChip phys - a)
  (on, n - on)

/-- Reads local store. -/
def Dev.lsRead (d : Dev) (phys a n : Nat) : List Byte :=
  let (on, off) := d.lsSplit phys a n
  d.sram.read (sramAt phys a) on ++ d.read (d.spillAt phys (a + on)) off

/-- The 64 B accesses that a window range makes to the spill region. -/
def Dev.spillHits (d : Dev) (phys a n : Nat) : Nat :=
  let (on, off) := d.lsSplit phys a n
  if off = 0 then 0 else (a + on + off - 1) / 64 - (a + on) / 64 + 1

/-- Counts spill accesses of window ranges. -/
def Dev.countSpill (d : Dev) (phys : Nat) (l : List (Nat × Nat)) : Dev :=
  let n := l.foldl (fun s r => s + d.spillHits phys r.1 r.2) 0
  if n = 0 then d else d.bump (F.CLU_SPILLCNT_COUNT phys) n

/-- Writes local store. -/
def Dev.lsWrite (d : Dev) (phys a : Nat) (data : List Byte) : Dev :=
  let (on, off) := d.lsSplit phys a data.length
  let pa := d.spillAt phys (a + on)
  let d := if on = 0 then d else { d with sram := d.sram.write (sramAt phys a) (data.take on) }
  if off = 0 then d else d.write pa (data.drop on)

/-- Window bytes lose their contents. -/
def Dev.lsBlur (d : Dev) (phys a n : Nat) : Dev :=
  let (on, off) := d.lsSplit phys a n
  let pa := d.spillAt phys (a + on)
  let (s, d) := d.draw
  let d := if on = 0 then d else { d with sram := d.sram.blur (sramAt phys a) (sramAt phys a + on) s }
  if off = 0 then d else { d with mem := d.mem.blur pa (pa + off) s }

/-- Does a window range meet a spilled word that holds an uncorrectable error? -/
def Dev.lsBad (d : Dev) (phys a n : Nat) : Bool :=
  let (on, off) := d.lsSplit phys a n
  off != 0 && d.bad (d.spillAt phys (a + on)) off

/-! ### Numeric flags and captures (R147 to R151) -/

/-- The sticky flags of engine `e` of a cluster: tensor units 0 to 3, the thread-group processor 4. -/
def numFlags (phys e : Nat) : Fld :=
  match e with
  | 0 => F.NUM_FLAGS_TU0 phys
  | 1 => F.NUM_FLAGS_TU1 phys
  | 2 => F.NUM_FLAGS_TU2 phys
  | 3 => F.NUM_FLAGS_TU3 phys
  | _ => F.NUM_FLAGS_TG phys

/-- Sets flags. -/
def Dev.setFlags (d : Dev) (phys e fl : Nat) : Dev := d.put (numFlags phys e) (flagOr (d.get (numFlags phys e)) fl)

/-- Raises the numeric event of a capture: WHERE, AUX and TN, the physical cluster and the engine (R151). -/
def Dev.captureEvent (d : Dev) (phys e : Nat) : Dev :=
  let wh := d.get (F.NUM_FIC_WHERE_VALID phys e) * 2 ^ 63 + d.get (F.NUM_FIC_WHERE_CAUSE phys e) * 2 ^ 60 + d.get (F.NUM_FIC_WHERE_LOC phys e)
  d.raise evNumeric stOk phys [wh, d.get (F.NUM_FIC_AUX_PC phys e), d.get (F.NUM_FIC_TN_TN phys e), phys, e]

/-- Is the capture of an engine armed (R150)? In a scheduled partition once a tick; in a queued one while VALID is clear. -/
def Dev.ficArmed (d : Dev) (phys e : Nat) : Bool :=
  if d.physScheduled phys then Table.get (fun _ => true) d.clus.ficArmed (5 * phys + e) else !d.on (F.NUM_FIC_WHERE_VALID phys e)

/-- Records an invalid operation where the capture is armed (R149, R150). -/
def Dev.capture (d : Dev) (phys e cause loc pc : Nat) : Dev :=
  if !d.ficArmed phys e then d
  else
    let sched := d.physScheduled phys
    let d := { d with clus := { d.clus with ficArmed := Table.set (fun _ => true) d.clus.ficArmed (5 * phys + e) (!sched) } }
    let d := d.puts [(F.NUM_FIC_WHERE_VALID phys e, 1), (F.NUM_FIC_WHERE_CAUSE phys e, cause), (F.NUM_FIC_WHERE_LOC phys e, loc),
      (F.NUM_FIC_AUX_PC phys e, pc), (F.NUM_FIC_TN_TN phys e, if sched then d.get F.TCK_TN_TN else 2 ^ 64 - 1)]
    if !sched && d.on F.NUM_CTRL_FIC_EVENT then d.captureEvent phys e else d

/-- At a tick boundary every engine of a scheduled partition that captured raises one event and re-arms (R150, R151). -/
def Dev.captureBoundary (d : Dev) : Dev :=
  let done := (d.clus.ficArmed.filter fun r => !r.2).map (·.1)
  let d := { d with clus := { d.clus with ficArmed := [] } }
  if d.on F.NUM_CTRL_FIC_EVENT then done.foldl (fun d k => d.captureEvent (k / 5) (k % 5)) d else d

/-! ### Exponent histograms (R152, R153) -/

/-- Counter `c` of a unit: 0 to 63 the bins, 64 ZERO, 65 SUBNORMAL, 66 SATURATED, 67 NAN. -/
def histCounter (phys u c : Nat) : Fld :=
  if c < 64 then if c % 2 = 0 then F.NUM_HIST_EVEN phys u (c / 2) else F.NUM_HIST_ODD phys u (c / 2)
  else if c = 64 then F.NUM_HSPEC_LO phys u 0
  else if c = 65 then F.NUM_HSPEC_HI phys u 0
  else if c = 66 then F.NUM_HSPEC_LO phys u 1
  else F.NUM_HSPEC_HI phys u 1

/-- The counter of one delivered output element. `over` says that R135 replaced it. -/
def histIndex (fmt : Fmt) (hbase : Int) (code : Nat) (replaced : Bool) : Nat :=
  let bin (e : Int) : Nat := (min (max (e - hbase) 0) 63).toNat
  if replaced then 66
  else
    match fmt.decode code, fmt.float with
    | .nan _ _ _, _ => 67
    | .inf _, _ => 66
    | .fin _ m e, some f => if m = 0 then 64 else if code % f.signBit < 2 ^ f.fb then 65 else bin (ilog m + e)
    | .fin _ m e, none => if m = 0 then 64 else bin (ilog m + e)

/-- Adds the output elements of an operation to a unit's counters. -/
def Dev.histAdd (d : Dev) (phys u : Nat) (hits : List Nat) : Dev :=
  (List.range 68).foldl (fun d c =>
    let n := hits.countP (· == c)
    if n = 0 then d else d.bump (histCounter phys u c) n) d

/-- Are histograms counted: Diagnostic, and the feature negotiated (R152, R363)? -/
def Dev.histOn (d : Dev) : Bool := d.on F.NUM_STATUS_SVC && d.has ftHistogram

/-! ### Accumulators -/

/-- The key of accumulator (i, j) of unit `u`. -/
def accKey (phys u k : Nat) : Nat := phys * 4096 + u * 1024 + k

/-- The 1,024 accumulators of a unit: value, plus 2^48 for the integer tag. -/
def Dev.accs (d : Dev) (phys u : Nat) : List Nat := (List.range 1024).map fun k => Table.get (fun _ => 0) d.clus.acc (accKey phys u k)

/-- Puts all 1,024 accumulators of a unit. -/
def Dev.setAccs (d : Dev) (phys u : Nat) (l : List Nat) : Dev :=
  let lo := accKey phys u 0
  let t := d.clus.acc.filter (fun r => r.1 < lo) ++ ((l.take 1024).zipIdx.filterMap fun r => if r.1 = 0 then none else some (lo + r.2, r.1))
    ++ d.clus.acc.filter fun r => lo + 1024 ≤ r.1
  { d with clus := { d.clus with acc := t } }

/-- The accumulators of a unit become undefined. -/
def Dev.freeAccs (d : Dev) (phys u : Nat) : Dev :=
  let d' := d.setAccs phys u ((List.range 1024).map fun k => Config.freeNat (d.fresh + k) % 2 ^ 49)
  { d' with fresh := d.fresh + 1024 }

/-! ### Matrix operations (R84 to R87) -/

/-- The units of a 4-bit mask. -/
def unitsOf (mask : Nat) : List Nat := (List.range 4).filter fun u => bit mask u

/-- Where a group's or a slot's descriptor addresses count from, and how many bytes they may reach (R86, R113). -/
structure LsSpan where
  base : Nat
  limit : Nat
  deriving DecidableEq, Repr

/-- Is a format code floating? -/
def codeFloat (c : Nat) : Bool := c < 8

/-- Is a format code block-scaled? -/
def codeScaled (c : Nat) : Bool := c == 6 || c == 7

/-- The bits of an element of a format code. -/
def codeBits (c : Nat) : Nat := match fmtOfCode c with
  | some f => f.width
  | none => 0

/-- The end of the last byte that a tiled operand of the selected units reaches. -/
def tileEnd (addr u ustep ks kstep stride rowBytes : Nat) : Nat := addr + u * ustep + (ks - 1) * kstep + 31 * stride + rowBytes

/-- Order 1 of R86: a reserved field, code or feature is used. -/
def Dev.matReserved (d : Dev) (strict : Bool) (m : MatDesc) : Bool :=
  !m.zeros || !d.fmtCodeOk m.fmtA || !d.fmtCodeOk m.fmtB
    || (m.out && (!d.fmtCodeOk m.fmtD || (m.fmtD != 0xA && m.conv == 3))) || (strict && !d.has ftStrict)

/-- Strict mode with an input other than FP32 or FP64 (R82). -/
def matStrictBad (m : MatDesc) : Bool := 1 < m.fmtA || 1 < m.fmtB

/-- Order 2 of R86 but for strict mode: formats that do not go together (R82), or CONV 1 with a format that has no infinity. -/
def matFormatsBad (m : MatDesc) : Bool :=
  codeFloat m.fmtA != codeFloat m.fmtB || m.fmtA == 0xA || m.fmtB == 0xA
    || (m.out && (if codeFloat m.fmtA then 6 ≤ m.fmtD else m.fmtD != 0xA)) || (m.out && m.conv == 1 && m.fmtD == 4)

/-- Orders 4 and 5 of R86: alignment, and every byte inside the window. -/
def matPlaced (units : List Nat) (sp : LsSpan) (m : MatDesc) : Bool :=
  !([m.aKstep, m.aAddr, m.aStride, m.bKstep, m.bAddr, m.bStride, m.dUstep, m.dAddr, m.dStride, m.bUstep, m.aUstep].any (· % 8 != 0)
    || (codeScaled m.fmtA && (m.saAddr % 64 != 0 || m.saUstep % 64 != 0))
    || (codeScaled m.fmtB && (m.sbAddr % 64 != 0 || m.sbUstep % 64 != 0)))
  && !units.any fun u =>
      sp.limit < tileEnd m.aAddr u m.aUstep m.kSteps m.aKstep m.aStride (4 * codeBits m.fmtA)
      || sp.limit < tileEnd m.bAddr u m.bUstep m.kSteps m.bKstep m.bStride (4 * codeBits m.fmtB)
      || (codeScaled m.fmtA && sp.limit < m.saAddr + u * m.saUstep + 64 * m.kSteps)
      || (codeScaled m.fmtB && sp.limit < m.sbAddr + u * m.sbUstep + 64 * m.kSteps)
      || (m.out && sp.limit < tileEnd m.dAddr u m.dUstep 1 0 m.dStride (4 * codeBits m.fmtD))

/-- The checks of R86 in order; OK also for the two no-ops, which the run then skips. -/
def Dev.matCheck (d : Dev) (phys : Nat) (strict : Bool) (units : List Nat) (sp : LsSpan) (m : MatDesc) : Nat :=
  if d.matReserved strict m then stFeature
  else if m.kSteps = 0 ∨ units = [] then stOk
  else if matFormatsBad m || (strict && matStrictBad m) then stNotEnabled
  else if m.acc && units.any (fun u => (d.accs phys u).any fun w => bit w 48 == codeFloat m.fmtA) then stNotEnabled
  else if !matPlaced units sp m then stBounds
  else stOk

/-- A tiled operand of one unit and step: 32 rows (or columns) of 32 values, block scales applied (R85, R129). -/
def Dev.tile (d : Dev) (phys code addr stride saddr : Nat) : List (List Num) :=
  match fmtOfCode code with
  | none => []
  | some f =>
    (List.range 32).map fun r =>
      let row := leNat (d.lsRead phys (addr + r * stride) (4 * f.width))
      let sc := if codeScaled code then d.lsRead phys (saddr + 2 * r) 2 else []
      (List.range 32).map fun e =>
        let x := f.decode (row / 2 ^ (e * f.width) % 2 ^ f.width)
        if codeScaled code then scaled ((sc.getD (e / 16) 0#8).toNat) x else x

/-- The A tile of step `k` for unit `u`. -/
def Dev.tileA (d : Dev) (phys : Nat) (sp : LsSpan) (m : MatDesc) (u k : Nat) : List (List Num) :=
  d.tile phys m.fmtA (sp.base + m.aAddr + u * m.aUstep + k * m.aKstep) m.aStride (sp.base + m.saAddr + u * m.saUstep + 64 * k)

/-- The B tile. -/
def Dev.tileB (d : Dev) (phys : Nat) (sp : LsSpan) (m : MatDesc) (u k : Nat) : List (List Num) :=
  d.tile phys m.fmtB (sp.base + m.bAddr + u * m.bUstep + k * m.bKstep) m.bStride (sp.base + m.sbAddr + u * m.sbUstep + 64 * k)

/-- What the steps of an operation leave: accumulators, flags, the first invalid operation as (cause, row, column, K-element). -/
structure StepsOut where
  accs : List Nat
  flags : Nat
  first : Option (Nat × Nat × Nat × Nat)
  deriving DecidableEq, Repr

/-- The 32 operand pairs of accumulator `x`. -/
def pairsAt (a b : List (List Num)) (x : Nat) : List (Num × Num) := (a.getD (x / 32) []).zip (b.getD (x % 32) [])

/-- One fast step of a unit over its 1,024 accumulators. -/
def stepFast (a b : List (List Num)) (k : Nat) (absent : Bool) (s : StepsOut) : StepsOut :=
  let r := s.accs.zipIdx.map fun w => fastStep (pairsAt a b w.2) (if absent then none else some (fa48.decode (w.1 % 2 ^ 48)))
  let inv := r.zipIdx.findSome? fun q => match q.1.2.2 with
    | some i => some (i.cause, q.2 / 32, q.2 % 32, 32 * k + i.index)
    | none => none
  ⟨r.map (·.1), r.foldl (fun f q => flagOr f q.2.1) s.flags, s.first.or inv⟩

/-- One integer step (R83). -/
def stepInt (a b : List (List Num)) (absent : Bool) (s : StepsOut) : StepsOut :=
  let r := s.accs.zipIdx.map fun w => intStep (pairsAt a b w.2) (if absent then none else some (sext 48 w.1))
  ⟨r.map fun q => 2 ^ 48 + twos 48 q.1, r.foldl (fun f q => flagOr f q.2) s.flags, s.first⟩

/-- The steps of a fast or integer operation in order. -/
def Dev.runSteps (d : Dev) (phys : Nat) (sp : LsSpan) (m : MatDesc) (u : Nat) (s : StepsOut) : StepsOut :=
  (List.range m.kSteps).foldl (fun s k =>
    let absent := k == 0 && !m.acc
    if codeFloat m.fmtA then stepFast (d.tileA phys sp m u k) (d.tileB phys sp m u k) k absent s
    else stepInt (d.tileA phys sp m u k) (d.tileB phys sp m u k) absent s) s

/-- The strict chains of a unit (R145, R146): the final codes in the working format, with accumulators, flags and first invalid
operation. -/
def Dev.runStrict (d : Dev) (phys : Nat) (sp : LsSpan) (m : MatDesc) (u : Nat) (accs : List Nat) : List Nat × StepsOut :=
  let wf : Fmt := if m.fmtA = 0 ∨ m.fmtB = 0 then .fp64 else .fp32
  let f := if m.fmtA = 0 ∨ m.fmtB = 0 then ffp64 else ffp32
  let ts := (List.range m.kSteps).map fun k => (d.tileA phys sp m u k, d.tileB phys sp m u k)
  let r := accs.zipIdx.map fun w =>
    let ab := ts.flatMap fun t => pairsAt t.1 t.2 w.2
    let c0 := if m.acc then convert .a48 wf .inf .tiesEven (fa48.decode (w.1 % 2 ^ 48)) else (f.signBit, 0)
    let z := strictChain f ab c0.1 0
    let a := convert wf .a48 .inf .tiesEven (f.decode z.1)
    (z.1, a.1, flagOr c0.2 (flagOr z.2.1 a.2), z.2.2)
  -- lowest step, then row and column
  let step := r.foldl (fun s q => match q.2.2.2 with
    | some i => (match s with
      | some t => some (min t (i / 32))
      | none => some (i / 32))
    | none => s) none
  let inv := r.zipIdx.findSome? fun q => match q.1.2.2.2 with
    | some i => if some (i / 32) = step then some (5, q.2 / 32, q.2 % 32, i) else none
    | none => none
  (r.map (·.1), ⟨r.map (·.2.1), r.foldl (fun s q => flagOr s q.2.2.1) 0, inv⟩)

/-- One output element: code, flags, whether R135 replaced it. -/
def outElem (src dst : Fmt) (mode : ConvMode) (code : Nat) : Nat × Nat × Bool :=
  let x := src.decode code
  let r := convert src dst mode .tiesEven x
  (r.1, r.2, convertOver dst x)

/-- Where an operation came from, as a capture records it: SRC and SLOT of NUM_FIC_WHERE. -/
structure CapSrc where
  group : Bool
  slot : Nat
  deriving DecidableEq, Repr

/-- The location bits 59:0 of NUM_FIC_WHERE of a tensor unit. -/
def capLoc (c : CapSrc) (row col kidx : Nat) : Nat :=
  b2n c.group * 2 ^ 59 + c.slot % 2 ^ 24 * 2 ^ 32 + row * 2 ^ 27 + col * 2 ^ 22 + kidx

/-- Runs one unit of an operation whose operands `d0` holds: accumulators, output tile, flags, capture, histogram. -/
def Dev.matUnit (d0 d : Dev) (phys : Nat) (strict : Bool) (sp : LsSpan) (m : MatDesc) (c : CapSrc) (u : Nat) : Dev :=
  let accs := d0.accs phys u
  let codesOut := if strict then d0.runStrict phys sp m u accs else
    let s := d0.runSteps phys sp m u ⟨accs, 0, none⟩
    (s.accs.map (· % 2 ^ 48), s)
  let s := codesOut.2
  let d := d.setAccs phys u s.accs
  let src : Fmt := if strict then (if m.fmtA = 0 ∨ m.fmtB = 0 then .fp64 else .fp32) else .a48
  let out := if !m.out then [] else
    match fmtOfCode m.fmtD with
    | none => []
    | some fd =>
      codesOut.1.map fun w =>
        if codeFloat m.fmtA then outElem src fd (convOfCode m.conv) w
        else
          let v := sext 48 w
          let r := toInteger 32 .tiesEven (.fin (v < 0) v.natAbs 0)
          (r.1, r.2, false)
  let d := if !m.out then d else
    let n := codeBits m.fmtD / 8
    (List.range 32).foldl (fun d i =>
      d.lsWrite phys (sp.base + m.dAddr + u * m.dUstep + i * m.dStride) (((out.drop (32 * i)).take 32).flatMap fun q => leBytes n q.1)) d
  let fl := out.foldl (fun f q => flagOr f q.2.1) s.flags
  let d := if fl = 0 then d else d.setFlags phys u fl
  let d := match s.first, out.findIdx? fun q => hasNV q.2.1 with
    | some (cause, i, j, k), _ => d.capture phys u cause (capLoc c i j k) 0
    | none, some x => d.capture phys u 4 (capLoc c (x / 32) (x % 32) 0x3FFFFF) 0
    | none, none => d
  if d.histOn && m.out then
    (match fmtOfCode m.fmtD with
     | some fd => d.histAdd phys u (out.map fun q => histIndex fd (sext 8 (d.get (F.NUM_HCTRL_BASE phys u))) q.1 q.2.2)
     | none => d)
  else d

/-- The local-store ranges that an operation reads. An operand that the units share is read once. -/
def matReads (sp : LsSpan) (m : MatDesc) (units : List Nat) : List (Nat × Nat) :=
  let rows (addr kstep stride n : Nat) : List (Nat × Nat) :=
    (List.range m.kSteps).flatMap fun k => (List.range 32).map fun i => (sp.base + addr + k * kstep + i * stride, n)
  let ua := if m.aUstep = 0 then units.take 1 else units
  let ub := if m.bUstep = 0 then units.take 1 else units
  ua.flatMap (fun u => rows (m.aAddr + u * m.aUstep) m.aKstep m.aStride (4 * codeBits m.fmtA))
    ++ ub.flatMap (fun u => rows (m.bAddr + u * m.bUstep) m.bKstep m.bStride (4 * codeBits m.fmtB))
    ++ (if codeScaled m.fmtA then units.map fun u => (sp.base + m.saAddr + u * m.saUstep, 64 * m.kSteps) else [])
    ++ (if codeScaled m.fmtB then units.map fun u => (sp.base + m.sbAddr + u * m.sbUstep, 64 * m.kSteps) else [])

/-- The local-store ranges that it writes. -/
def matWrites (sp : LsSpan) (m : MatDesc) (units : List Nat) : List (Nat × Nat) :=
  if !m.out then [] else units.flatMap fun u => (List.range 32).map fun i =>
    (sp.base + m.dAddr + u * m.dUstep + i * m.dStride, 4 * codeBits m.fmtD)

/-- A checked matrix operation runs: its status and its effect. `due` says that an operand word holds an uncorrectable error: the
accumulators of the selected units and the output tiles then hold no defined result (R95, R388). -/
def Dev.matRun (d : Dev) (phys : Nat) (strict : Bool) (mask : Nat) (sp : LsSpan) (m : MatDesc) (c : CapSrc) (due : Bool) : Nat × Dev :=
  let units := unitsOf mask
  if m.kSteps = 0 ∨ units = [] then (stOk, d)
  else
    let reads := matReads sp m units
    if due || reads.any (fun r => d.lsBad phys r.1 r.2) then
      let d := units.foldl (fun d u => d.freeAccs phys u) d
      (stUncorrectable, (matWrites sp m units).foldl (fun d r => d.lsBlur phys r.1 r.2) d)
    else
      let d1 := d.countSpill phys (reads ++ matWrites sp m units)
      (stOk, units.foldl (fun x u => d.matUnit x phys strict sp m c u) d1)

/-! ### Accumulator store and load (R88) -/

/-- The checks of an accumulator store or load. -/
def Dev.accCheck (d : Dev) (mask : Nat) (sp : LsSpan) (a : AccDesc) : Nat :=
  if !a.zeros || !d.has ftAccStore then stFeature
  else if mask = 0 then stOk
  else if a.addr % 64 ≠ 0 ∨ a.ustep % 64 ≠ 0 ∨ (unitsOf mask).any (fun u => sp.limit < a.addr + u * a.ustep + 0x2000) then stBounds
  else stOk

/-- Stores the accumulators and tags of the selected units. -/
def Dev.accStore (d : Dev) (phys mask : Nat) (sp : LsSpan) (a : AccDesc) : Dev :=
  (unitsOf mask).foldl (fun d u =>
    let at_ := sp.base + a.addr + u * a.ustep
    (d.countSpill phys [(at_, 0x2000)]).lsWrite phys at_ ((d.accs phys u).flatMap fun w => leBytes 8 w)) d

/-- Loads accumulators and tags of the selected units; bits 63:49 are ignored. -/
def Dev.accLoad (d : Dev) (phys mask : Nat) (sp : LsSpan) (a : AccDesc) (due : Bool) : Nat × Dev :=
  let rows := (unitsOf mask).map fun u => (u, sp.base + a.addr + u * a.ustep)
  if due && mask != 0 || rows.any (fun r => d.lsBad phys r.2 0x2000) then
    (stUncorrectable, rows.foldl (fun d r => d.freeAccs phys r.1) d)
  else
    (stOk, rows.foldl (fun d r =>
      let b := d.lsRead phys r.2 0x2000
      (d.countSpill phys [(r.2, 0x2000)]).setAccs phys r.1 ((List.range 1024).map fun k => leWord (b.drop (8 * k)) 0 % 2 ^ 49)) d)

/-! ### Data movers (R89, R90) -/

/-- Does any run stall: a retraining channel, thermal step 3, or host memory without Bus Master Enable (R207, R213, R331)? -/
def Dev.runsWait (d : Dev) (l : List (Nat × Nat)) : Bool :=
  l.any fun r => d.stalls r.1 r.2 || (isHost r.1 && r.2 != 0 && !d.on F.HST_LINK_BME)

/-- The memory range of a transfer, from row 0 to the end of the last row. -/
def movSpan (m : MovDesc) : Nat := (m.rows - 1) * m.memStride + m.rowBytes

/-- The reserved-field check of a mover descriptor; a queued one takes SEG 0 to 15 or 0xFF. -/
def movReserved (queued : Bool) (m : MovDesc) : Bool :=
  m.zeros && m.dir != 3 && (!queued || m.dir == 2 || m.seg < 16 || m.seg == 0xFF)

/-- Is a transfer a no-op? -/
def movEmpty (m : MovDesc) : Bool := m.rows * m.rowBytes == 0

/-- Do all local-store rows lie inside the span? -/
def movLsOk (sp : LsSpan) (m : MovDesc) : Bool := m.lsAddr + (m.rows - 1) * m.lsStride + m.rowBytes ≤ sp.limit

/-- The right a direction asks for: read for 0, write for 1. -/
def movNeed (m : MovDesc) : Nat := if m.dir = 0 then 1 else 2

/-- The checks of R90 on a segment: BOUNDS, then PERM. -/
def movSegCheck (sp : LsSpan) (segs : List Segment) (m : MovDesc) : Nat :=
  if !movLsOk sp m then stBounds
  else if m.dir = 2 then stOk
  else
    match segs[m.seg]? with
    | none => stBounds
    | some s => if s.size < m.memOffset + movSpan m then stBounds else if !rightsCover s.rights (movNeed m) then stPerm else stOk

/-- The memory runs of row `r`. -/
def movRuns (ext : List Extent) (va0 : Nat) (m : MovDesc) (r : Nat) : List (Nat × Nat) := extentRuns ext (va0 + r * m.memStride) m.rowBytes

/-- The local-store address of row `r`. -/
def movLs (sp : LsSpan) (m : MovDesc) (r : Nat) : Nat := sp.base + m.lsAddr + r * m.lsStride

/-- Moves the rows in ascending order from row `r`, `n` of them; stops at a memory error. -/
def Dev.movRows (phys : Nat) (sp : LsSpan) (ext : List Extent) (va0 : Nat) (m : MovDesc) (due : Bool) : Nat → Nat → Dev → Nat × Dev
  | 0, _, d => (stOk, d)
  | n + 1, r, d =>
    let a := movLs sp m r
    let runs := movRuns ext va0 m r
    let d := d.countSpill phys [(a, m.rowBytes)]
    match m.dir with
    | 0 =>
      (match d.readRuns runs due with
       | (0, d) => movRows phys sp ext va0 m false n (r + 1) (d.lsWrite phys a (runs.flatMap fun x => d.read x.1 x.2))
       | x => x)
    | 1 =>
      if d.lsBad phys a m.rowBytes || due then (stUncorrectable, d)
      else if d.writeRunsStatus runs ≠ stOk then d.tryWriteRuns runs
      else movRows phys sp ext va0 m false n (r + 1) (d.writeRuns runs (d.lsRead phys a m.rowBytes))
    | _ => movRows phys sp ext va0 m false n (r + 1) (d.lsWrite phys a (List.replicate m.rowBytes 0#8))

/-- Physical runs lose their contents. -/
def Dev.blurRuns (d : Dev) (l : List (Nat × Nat)) : Dev :=
  l.foldl (fun d r =>
    let (s, d) := d.draw
    let d := d.dropReservations r.1 r.2
    { d with mem := d.mem.blur r.1 (r.1 + r.2) s }) d

/-- A checked transfer runs; after a memory error its destination holds no defined result (R388). -/
def Dev.movRun (d : Dev) (phys : Nat) (sp : LsSpan) (ext : List Extent) (va0 : Nat) (m : MovDesc) (due : Bool) : Nat × Dev :=
  if movEmpty m then (stOk, d)
  else
    match Dev.movRows phys sp ext va0 m due m.rows 0 d with
    | (0, d) => (stOk, d)
    | (st, d) =>
      (st, if m.dir = 1 then d.blurRuns ((List.range m.rows).flatMap (movRuns ext va0 m))
           else (List.range m.rows).foldl (fun d r => d.lsBlur phys (movLs sp m r) m.rowBytes) d)

/-- All memory runs of a transfer. -/
def movAllRuns (ext : List Extent) (va0 : Nat) (m : MovDesc) : List (Nat × Nat) :=
  if m.dir = 2 then [] else (List.range m.rows).flatMap (movRuns ext va0 m)

end Sys2Proof.Machine
end

