-- ==== Sys2Proof/Machine/Slots.lean ====
section
/-! DEFINITION. The slots of a running image: fields, streams, the slot a stream runs next, tokens, quenching (chapter 03; R393),
and the slots of the tensor units and movers. -/

namespace Sys2Proof.Machine

open Sys2Proof

/-! ### Slot fields (R64) -/

def Slot.tick (s : Slot) : Nat := bits s.w0 63 32
def Slot.start (s : Slot) : Nat := bits s.w0 31 16
def Slot.budget (s : Slot) : Nat := bits s.w0 15 0
def Slot.op (s : Slot) : Nat := bits s.w1 63 56
def Slot.wait (s : Slot) : Nat := bits s.w1 55 48
def Slot.signal (s : Slot) : Nat := bits s.w1 47 40
def Slot.delta (s : Slot) : Nat := bits s.w1 39 36
def Slot.desc (s : Slot) : Nat := bits s.w1 31 0
def Slot.units (s : Slot) : Nat := bits s.w2 7 4
def Slot.mover (s : Slot) : Nat := bits s.w2 5 4
def Slot.strict (s : Slot) : Bool := bit s.w2 0
def Slot.peer (s : Slot) : Nat := bits s.w2 63 50
def Slot.route (s : Slot) : Nat := bits s.w2 49 40
def Slot.length (s : Slot) : Nat := bits s.w2 31 0
def Slot.seg (s : Slot) : Nat := bits s.w3 63 56
def Slot.offset (s : Slot) : Nat := bits s.w3 47 0

/-- Operation codes. -/
def opNop : Nat := 0x00
def opMatrix : Nat := 0x10
def opAccStore : Nat := 0x11
def opAccLoad : Nat := 0x12
def opLaunch : Nat := 0x20
def opMover : Nat := 0x30
def opSend : Nat := 0x40
def opRecv : Nat := 0x41
def opCollective : Nat := 0x50
def opCopy : Nat := 0x60
def opWindow : Nat := 0x61

/-- Engine codes (R63). -/
def engTensor : Nat := 1
def engLaunch : Nat := 2
def engMover : Nat := 3
def engGate : Nat := 4
def engSquare : Nat := 5
def engCopy : Nat := 6

/-! ### Streams -/

/-- The stream of an engine and index. -/
def Image.stream (im : Image) (engine index : Nat) : Option Stream := im.streams.find? fun s => s.engine == engine && s.index == index

/-- Where a stream stands. -/
def PartSt.pos (x : PartSt) (engine index : Nat) : Option StreamPos := x.positions.find? fun q => q.engine == engine && q.index == index

/-- Changes where a stream stands. -/
def PartSt.setPos (x : PartSt) (q : StreamPos) : PartSt :=
  { x with positions := x.positions.map fun r => if r.engine = q.engine ∧ r.index = q.index then q else r }

/-- The slot a stream runs next, with its position, if it belongs to the running tick (R65). -/
def Dev.nextSlot (d : Dev) (p engine index : Nat) : Option (StreamPos × Slot) :=
  match (d.part p).running with
  | none => none
  | some im =>
    match im.stream engine index, (d.part p).pos engine index with
    | some st, some q =>
      (match st.slots[q.next]? with
       | some s => if d.ticking && !d.tick.tickDone && s.tick == d.get (F.SCH_PASS_ITICK p) then some (q, s) else none
       | none => none)
    | _, _ => none

/-- Is a WAIT token set, or does the slot wait for none (R65)? A quenched slot waits for none (R393). -/
def Dev.waitOk (d : Dev) (p : Nat) (s : Slot) : Bool := s.wait == 0xFF || (d.part p).tokens.contains s.wait || d.tick.quench

/-- The slot that a command of operation `op` may start now, with where it stands. -/
def Dev.slotReady (d : Dev) (p engine index op : Nat) : Option (SlotRef × Slot) :=
  match d.nextSlot p engine index with
  | some (q, s) => if !q.started && s.op == op && d.waitOk p s then some (⟨p, engine, index, q.next⟩, s) else none
  | none => none

/-- Marks the slot of a stream as started. -/
def Dev.startSlot (d : Dev) (r : SlotRef) : Dev :=
  d.setPart r.part ((d.part r.part).setPos ⟨r.engine, r.index, r.slot, true⟩)

/-- Runs the next slot of a stream: nothing where no such slot may start or its effect must wait; a quenched slot starts without an
effect (R393). -/
def Dev.slotRun (p engine index op : Nat) (f : SlotRef → Slot → Dev → Option Dev) (d : Dev) : Dev :=
  match d.slotReady p engine index op with
  | none => d
  | some (r, s) =>
    if d.tick.quench then d.startSlot r
    else
      match f r s (d.startSlot r) with
      | some d => d
      | none => d

/-- Descriptor `i` of the running image of a partition. -/
def Dev.imageDesc (d : Dev) (p i : Nat) : List Byte := ((d.part p).running.bind fun im => im.descs[i]?).getD []

/-- The bound segments of the running image. -/
def Dev.imageSegs (d : Dev) (p : Nat) : List Segment := ((d.part p).running.map Image.segs).getD []

/-- The slots of a stream of the running image. -/
def Dev.streamSlots (d : Dev) (p engine index : Nat) : List Slot :=
  (((d.part p).running.bind fun im => im.stream engine index).map Stream.slots).getD []

/-- The tensor units of a cluster that the running image owns (R92). -/
def Dev.ownedUnits (d : Dev) (p cluster : Nat) : Nat :=
  (d.streamSlots p engTensor cluster).foldl (fun m s => if s.op = opNop then m else m ||| s.units) 0

/-- Does the running image own a mover of a cluster (R92)? -/
def Dev.ownsMover (d : Dev) (p cluster mover : Nat) : Bool :=
  (d.streamSlots p engMover cluster).any fun s => s.op == opMover && s.mover == mover

/-- The whole window of a cluster as a span. -/
def Dev.windowSpan (d : Dev) (p phys : Nat) : LsSpan := ⟨0, d.window p phys⟩

/-- The address a memory error of runs names, in the first run that meets one. `due` says that it is the first run. -/
def Dev.errorAt (d : Dev) (l : List (Nat × Nat)) (write due : Bool) : Nat :=
  let meets (r : Nat × Nat) : Bool := if write then d.writeStatus r.1 r.2 != stOk else (d.readStatus r.1 r.2 due).1 != stOk
  match l.find? meets with
  | some r => d.errorPa r.1 r.2 write due
  | none => 0

/-- The last tick of an image: of its last pass, or of the pass that SCH_STOP names (R74). -/
def Dev.lastTick (d : Dev) (p : Nat) (im : Image) : Option Nat :=
  if im.passes ≠ 0 then some (im.baseTn + im.passes * im.ticks - 1)
  else if d.on (F.SCH_STOP_VALID p) then some (im.baseTn + (d.get (F.SCH_STOP_PASS p) + 1) * im.ticks - 1)
  else none

/-- Does an image end before a tick? -/
def Dev.endedBy (d : Dev) (p : Nat) (im : Image) (tn : Nat) : Bool :=
  match d.lastTick p im with
  | some t => t < tn
  | none => false

/-- The image that a partition runs, or will run, in tick `tn`, with its image tick: the staged one from its BASE_TN on, unless it was
compiled for another length (R73), else the running one until it ends. -/
def Dev.imageFor (d : Dev) (p tn : Nat) : Option (Image × Nat) :=
  let x := d.part p
  let due (im : Image) : Bool := im.baseTn ≤ tn
  match x.staged with
  | some im =>
    if due im then (if im.len = d.get F.TCK_STATUS_LEN then some (im, (tn - im.baseTn) % max 1 im.ticks) else none)
    else
      (match x.running with
       | some r => if due r && !d.endedBy p r tn then some (r, (tn - r.baseTn) % max 1 r.ticks) else none
       | none => none)
  | none =>
    match x.running with
    | some r => if due r && !d.endedBy p r tn then some (r, (tn - r.baseTn) % max 1 r.ticks) else none
    | none => none

/-! ### The commands -/

/-- A NOP slot occupies its budget window and moves nothing (R64). -/
def execNop (p : Fin 8) (engine : Fin 7) (index : Nat) (s : State) : Host.Outcome State Fault Refusal :=
  onDev (Dev.slotRun p engine index opNop fun _ _ d => some d) s

/-- A TENSOR slot with OP 0x10 runs a matrix operation (R84 to R87); a failed check or a memory error faults the tick (R86, R391). -/
def Dev.matSlot (d : Dev) (p cluster : Nat) (due : Bool) (r : SlotRef) (s : Slot) : Dev :=
  match d.physOf cluster with
  | none => d
  | some phys =>
    let m := matDesc (d.imageDesc p s.desc)
    let st := d.matCheck phys s.strict (unitsOf s.units) (d.windowSpan p phys) m
    if st ≠ stOk then d.tickFault r st 0 0
    else
      let x := d.matRun phys s.strict s.units (d.windowSpan p phys) m ⟨false, r.slot⟩ due
      if x.1 = stOk then x.2 else x.2.tickFault r x.1 0 0

/-- MATRIX_OPERATION. -/
def execMatrixOperation (p : Fin 8) (cluster : Fin 384) (due : Bool) (s : State) : Host.Outcome State Fault Refusal :=
  onDev (Dev.slotRun p engTensor cluster opMatrix fun r sl d => some (d.matSlot p cluster due r sl)) s

/-- OP 0x11 in a slot (R88). -/
def Dev.accStoreSlot (d : Dev) (p cluster : Nat) (r : SlotRef) (s : Slot) : Dev :=
  match d.physOf cluster with
  | none => d
  | some phys =>
    let a := accDesc (d.imageDesc p s.desc)
    let st := d.accCheck s.units (d.windowSpan p phys) a
    if st ≠ stOk then d.tickFault r st 0 0 else d.accStore phys s.units (d.windowSpan p phys) a

/-- STORE_A48_ACCUMULATORS. -/
def execStoreA48 (p : Fin 8) (cluster : Fin 384) (s : State) : Host.Outcome State Fault Refusal :=
  onDev (Dev.slotRun p engTensor cluster opAccStore fun r sl d => some (d.accStoreSlot p cluster r sl)) s

/-- OP 0x12 in a slot (R88). -/
def Dev.accLoadSlot (d : Dev) (p cluster : Nat) (due : Bool) (r : SlotRef) (s : Slot) : Dev :=
  match d.physOf cluster with
  | none => d
  | some phys =>
    let a := accDesc (d.imageDesc p s.desc)
    let st := d.accCheck s.units (d.windowSpan p phys) a
    if st ≠ stOk then d.tickFault r st 0 0
    else
      let x := d.accLoad phys s.units (d.windowSpan p phys) a due
      if x.1 = stOk then x.2 else x.2.tickFault r x.1 0 0

/-- LOAD_A48_ACCUMULATORS. -/
def execLoadA48 (p : Fin 8) (cluster : Fin 384) (due : Bool) (s : State) : Host.Outcome State Fault Refusal :=
  onDev (Dev.slotRun p engTensor cluster opAccLoad fun r sl d => some (d.accLoadSlot p cluster due r sl)) s

/-- A MOVER slot (R89, R90): none while a memory access stalls. -/
def Dev.movSlot (d : Dev) (p cluster : Nat) (due : Bool) (r : SlotRef) (s : Slot) : Option Dev :=
  match d.physOf cluster with
  | none => some d
  | some phys =>
    let m := movDesc (d.imageDesc p s.desc)
    let sp := d.windowSpan p phys
    if !movReserved false m then some (d.tickFault r stFeature 0 0)
    else if movEmpty m then some d
    else
      let segs := d.imageSegs p
      let st := movSegCheck sp segs m
      if st ≠ stOk then some (d.tickFault r st 0 0)
      else
        let sg := segs.getD m.seg ⟨0, 0, 0, []⟩
        let va := sg.base + m.memOffset
        let all := movAllRuns sg.extents va m
        if d.runsWait all then none
        else
          let x := d.movRun phys sp sg.extents va m due
          if x.1 = stOk then some x.2
          else some (x.2.tickFault r x.1 1 (d.errorAt all (m.dir == 1) due))

/-- DATA_MOVER_TRANSFER. -/
def execDataMoverTransfer (p : Fin 8) (cluster : Fin 384) (due : Bool) (s : State) : Host.Outcome State Fault Refusal :=
  onDev (Dev.slotRun p engMover cluster opMover fun r sl d => d.movSlot p cluster due r sl) s

end Sys2Proof.Machine
end

