-- ==== Sys2Proof/Machine/Clusters.lean ====
section
/-! DEFINITION. A cluster's L1 cache, its SRAM setting and spill register, and spare swaps (chapters 04 and 08). -/

namespace Sys2Proof.Machine

open Sys2Proof

/-! ### L1 (chapter 08) -/

/-- The key of a line in a cluster's L1. -/
def l1Key (phys line : Nat) : Nat := phys * 2 ^ 50 + line

/-- A line of a cluster's L1. -/
def Dev.l1 (d : Dev) (phys line : Nat) : Option L1Line := Table.get (fun _ => none) d.clus.l1 (l1Key phys line)

/-- Writes it. -/
def Dev.setL1 (d : Dev) (phys line : Nat) (x : Option L1Line) : Dev :=
  { d with clus := { d.clus with l1 := Table.set (fun _ => none) d.clus.l1 (l1Key phys line) x } }

/-- A store to host memory while Bus Master Enable is clear is discarded and counted, with a host event (R333). -/
def Dev.discardHost (d : Dev) (pa : Nat) : Dev := (d.bump F.HST_LOST_DISCARD 1).raise evHost stOk 0 [pa]

/-- The runs of marked bytes of a line, as offsets and lengths. -/
def maskRuns (mask : List Bool) : List (Nat × Nat) :=
  let r := mask.zipIdx.foldl (fun (acc : List (Nat × Nat)) b =>
    if !b.1 then acc
    else match acc with
      | (o, n) :: t => if o + n = b.2 then (o, n + 1) :: t else (b.2, 1) :: acc
      | [] => [(b.2, 1)]) []
  r.reverse

/-- The written bytes of a line go to the Plaza (R158). A write-back has no requester: one that meets a failed channel or a line with
an uncorrectable word is discarded with a RAS event (R214, R391, R413). -/
def Dev.lineBack (d : Dev) (line : Nat) (x : L1Line) : Dev :=
  let pa := 128 * line
  match maskRuns x.written with
  | [] => d
  | (o, n) :: t =>
    if isHost pa && !d.on F.HST_LINK_BME then d.discardHost pa
    else if d.writeStatus (pa + o) n ≠ stOk then
      let x := (d.tryWrite (pa + o) n).2
      if d.failed pa 128 && paKind pa == .hbm then x.bump (F.MEM_STACK_UNCORR (d.servingChannel pa / 32)) 1 else x
    else ((o, n) :: t).foldl (fun d r => d.write (pa + r.1) ((x.data.drop r.1).take r.2)) d

/-- The L1 lines of a cluster. -/
def Dev.l1Lines (d : Dev) (phys : Nat) : List (Nat × L1Line) :=
  d.clus.l1.filterMap fun r => if r.1 / 2 ^ 50 = phys then r.2.map fun x => (r.1 % 2 ^ 50, x) else none

/-- Every written byte of the L1 is written back (R160, release side). -/
def Dev.l1WriteBack (d : Dev) (phys : Nat) : Dev :=
  (d.l1Lines phys).foldl (fun d r =>
    (d.lineBack r.1 r.2).setL1 phys r.1 (if r.2.filled then some { r.2 with written := r.2.written.map fun _ => false } else none)) d

/-- Every line is invalidated; written bytes go back first (R160, acquire side). -/
def Dev.l1Invalidate (d : Dev) (phys : Nat) : Dev :=
  (d.l1Lines phys).foldl (fun d r => (d.lineBack r.1 r.2).setL1 phys r.1 none) d

/-- A line's written bytes go back and the line is invalidated (R166). -/
def Dev.l1Flush (d : Dev) (phys line : Nat) : Dev :=
  match d.l1 phys line with
  | some x => (d.lineBack line x).setL1 phys line none
  | none => d

/-! ### Thermal-and-repair class (R61, R62) -/

/-- The current state in the layout of R61. -/
def Dev.trc (d : Dev) : Nat :=
  d.get F.SCH_TRC_CHAN_OUT * 2 ^ 16 + d.get F.SCH_TRC_HOT_STACKS * 2 ^ 12 + d.get F.SCH_TRC_D2D_X32 * 2 ^ 7 + d.get F.SCH_TRC_SPARES * 2 ^ 6

/-- Does a class cover a state (R61)? -/
def trcCovers (c s : Nat) : Bool :=
  bits s 23 16 ≤ bits c 23 16 && bits s 15 12 ≤ bits c 15 12 && (!bit s 7 || bit c 7) && (!bit s 6 || bit c 6)

/-- Is a state covered by the class of an image, if there is one? -/
def imageCovers (i : Option Image) (s : Nat) : Bool :=
  match i with
  | some im => trcCovers im.trClass s
  | none => true

/-- The partitions whose running or staged image does not cover a state. -/
def Dev.uncovered (d : Dev) (st : Nat) : List Nat :=
  (List.range 8).filter fun p => !(imageCovers (d.part p).running st && imageCovers (d.part p).staged st)

/-- A planned change is deferred: one schedule event for each partition whose class does not cover it (R62, R412). -/
def Dev.deferEvent (d : Dev) (action what st : Nat) : Dev :=
  (d.uncovered st).foldl (fun d p => d.raise evSchedule stOk p [1, action, what, st]) d

/-- An unplanned change tests the new state against both classes of every partition (R62, R412). -/
def Dev.classEvent (d : Dev) : Dev :=
  (d.uncovered d.trc).foldl (fun d p =>
    d.raise evSchedule stOk p [2, d.trc, b2n (!imageCovers (d.part p).running d.trc) + 2 * b2n (!imageCovers (d.part p).staged d.trc)]) d

/-! ### Quiescence (R93) -/

/-- Is a TENSOR or MOVER slot of a logical cluster in progress? -/
def Dev.slotBusy (d : Dev) (l : Nat) : Bool :=
  (List.range 8).any fun p => (d.part p).positions.any fun q => q.index == l && q.started && (q.engine == engTensor || q.engine == engMover)

/-- No resident block, no running tensor operation, no running mover transfer (R93). -/
def Dev.quiescent (d : Dev) (phys : Nat) : Bool :=
  !(d.clus.blocks.any fun b => b.phys == phys) && !(d.get (F.CLU_ID_STATE phys) == 0 && d.slotBusy (d.get (F.CLU_ID_LOGICAL phys)))

/-! ### Registers -/

/-- CLU_SPILL: written only while the cluster is quiescent; a nonzero SIZE needs LS_SPILL (R94, R363). -/
def Dev.spillWrite (d : Dev) (phys v : Nat) : Dev :=
  if d.quiescent phys && (bits v 37 32 == 0 || d.has ftSpill) then
    d.puts [(F.CLU_SPILL_SIZE phys, bits v 37 32), (F.CLU_SPILL_BASE phys, bits v 31 0)]
  else d.refuse (F.CLU_SPILL_SIZE phys).off v

/-- CLU_SPILL_WRITE. -/
def execCluSpillWrite (phys : Fin 400) (value : Word) (s : State) : Host.Outcome State Fault Refusal :=
  onDev (fun d => d.spillWrite phys value.toNat) s

/-- CLU_ERR.CLEAR zeroes REPLAYS and CORR; the 24 h count is kept (R97). -/
def Dev.errClear (d : Dev) (phys : Nat) : Dev := d.puts [(F.CLU_ERR_REPLAYS phys, 0), (F.CLU_ERR_CORR phys, 0)]

/-- CLU_ERR_CLEAR. -/
def execCluErrClear (phys : Fin 400) (s : State) : Host.Outcome State Fault Refusal :=
  onDev (fun d => d.errClear phys) s

/-- The bytes of a cluster's window between two on-chip sizes lose their contents, and all of its spill region (R93). -/
def Dev.windowBlur (d : Dev) (phys lo : Nat) : Dev :=
  let (s, d) := d.draw
  let d := { d with sram := d.sram.blur (sramAt phys lo) (sramAt phys 0x200000) s }
  match d.physPart phys with
  | none => d
  | some p =>
    let n := d.spillBytes p phys
    let pa := scratchBase + 0x10000 * d.get (F.CLU_SPILL_BASE phys)
    if n = 0 then d else { d with mem := d.mem.blur pa (pa + n) s }

/-- The waiting SRAM setting is applied once the cluster is quiescent: the L1 is written back and invalidated, and every window byte
at or above the smaller on-chip size is undefined (R93). -/
def Dev.applySetting (d : Dev) (l : Nat) : Dev :=
  match d.physOf l with
  | none => d
  | some phys =>
    let new := d.get (F.CLU_SRAM_PENDING phys)
    if new = 0 || !d.quiescent phys then d
    else
      let old := d.get (F.CLU_SRAM_SETTING phys)
      let d := (d.l1Invalidate phys).windowBlur phys (min (onChipOf old) (onChipOf new))
      d.puts [(F.CLU_SRAM_SETTING phys, new), (F.CLU_SRAM_PENDING phys, 0)]

/-- SETTING_CHANGE. -/
def execSettingChange (cluster : Fin 384) (s : State) : Host.Outcome State Fault Refusal :=
  onDev (fun d => d.applySetting cluster) s

/-- All 68 counters of a unit become zero (R153). -/
def Dev.histClear (d : Dev) (phys u : Nat) : Dev := (List.range 68).foldl (fun d c => d.put (histCounter phys u c) 0) d

/-- HISTOGRAM_CLEAR. -/
def execHistogramClear (phys : Fin 400) (unit : Fin 4) (s : State) : Host.Outcome State Fault Refusal :=
  onDev (fun d => d.histClear phys unit) s

/-! ### Spare swaps (R78, R97, R98) -/

/-- CLU_SWAP.STATUS codes. -/
def swIdle : Nat := 0
def swPending : Nat := 1
def swDone : Nat := 2
def swRefused : Nat := 3
def swNoSpare : Nat := 4

/-- The lowest-numbered spare on the die of a physical cluster (R97). -/
def Dev.spareOf (d : Dev) (phys : Nat) : Option Nat :=
  (natRange (phys / 100 * 100) 100).find? fun c => d.get (F.CLU_ID_STATE c) == 1

/-- Ends the swap at the head with a status; REFUSED and NO_SPARE raise a RAS event that names the logical cluster (R98). -/
def Dev.endSwap (d : Dev) (status : Nat) : Dev :=
  match d.clus.swaps with
  | [] => d
  | w :: r =>
    let d := ({ d with clus := { d.clus with swaps := r } } : Dev).put F.CLU_SWAP_STATUS status
    if status = swDone then d else d.raise evRas stOk ((d.physOf w.logical).getD 0) [w.logical, status]

/-- Swaps at the head whose die has no spare end at once; then the head, if any, is pending (R97, R98). -/
def Dev.swapNext : Nat → Dev → Dev
  | 0, d => d
  | n + 1, d =>
    match d.clus.swaps with
    | [] => d
    | w :: _ =>
      match (d.physOf w.logical).bind d.spareOf with
      | none => swapNext n (d.endSwap swNoSpare)
      | some _ => d.put F.CLU_SWAP_STATUS swPending

/-- The state a swap would leave, in the layout of R61: a logical cluster runs on a spare. -/
def Dev.trcWithSpare (d : Dev) : Nat := if d.on F.SCH_TRC_SPARES then d.trc else d.trc + 2 ^ 6

/-- A swap at the head that the image classes do not cover is deferred, with its event once (R62). -/
def Dev.swapDefer (d : Dev) : Dev :=
  match d.clus.swaps with
  | [] => d
  | w :: r =>
    if w.deferred || (d.uncovered d.trcWithSpare).isEmpty then d
    else ({ d with clus := { d.clus with swaps := { w with deferred := true } :: r } } : Dev).deferEvent 2 w.logical d.trcWithSpare

/-- Requests a swap (R97): it waits behind those before it. -/
def Dev.requestSwap (d : Dev) (l : Nat) (automatic : Bool) : Dev :=
  let d := { d with clus := { d.clus with swaps := d.clus.swaps ++ [(⟨l, automatic, none, false⟩ : Swap)] } }
  (d.swapNext d.clus.swaps.length).swapDefer

/-- CLU_SWAP with GO (R97): ignored with a register-access event while a swap is pending, without the feature, or where the number is
not available. -/
def Dev.swapGo (d : Dev) (l v : Nat) : Dev :=
  if d.get F.CLU_SWAP_STATUS = swPending || !d.has ftSpares || (d.physOf l).isNone then d.refuse F.CLU_SWAP_GO.off v
  else (d.put F.CLU_SWAP_LOGICAL l).requestSwap l false

/-- SPARE_SWAP. -/
def execSpareSwap (logical : Fin 384) (s : State) : Host.Outcome State Fault Refusal :=
  onDev (fun d => d.swapGo logical (logical.val * 2 ^ 16 + 1)) s

/-- Corrected errors of a cluster reached the threshold of 0x2300.02 within 24 h: with 0x2300.01 in force the device requests a swap
itself (R97). -/
def Dev.autoSwap (d : Dev) (l : Nat) : Dev :=
  match d.physOf l with
  | none => d
  | some phys =>
    let d := { d with clus := { d.clus with corr24 := Table.set (fun _ => 0) d.clus.corr24 phys (d.objNat 0x230002) } }
    if d.inForceNat 0x230001 = 1 && d.has ftSpares && !(d.clus.swaps.any fun w => w.logical == l) then d.requestSwap l true else d

/-- AUTOMATIC_SWAP. -/
def execAutomaticSwap (logical : Fin 384) (s : State) : Host.Outcome State Fault Refusal :=
  onDev (fun d => d.autoSwap logical) s

/-- A holder record that names the new physical cluster where it named the old one. -/
def renameHolder (old new : Nat) (h : Holder) : Holder := { h with ids := h.ids.map fun i => if i = old then new else i }

/-- The logical number, the setting and CLU_SPILL move to the spare; the window is undefined afterwards (R98). -/
def Dev.moveCluster (d : Dev) (l old new : Nat) : Dev :=
  let d := d.l1Invalidate old
  let d := d.puts [(F.CLU_SRAM_SETTING new, d.get (F.CLU_SRAM_SETTING old)), (F.CLU_SPILL_SIZE new, d.get (F.CLU_SPILL_SIZE old)),
    (F.CLU_SPILL_BASE new, d.get (F.CLU_SPILL_BASE old)), (F.CLU_SPILL_SIZE old, 0), (F.CLU_SPILL_BASE old, 0),
    (F.CLU_ID_STATE old, 3), (F.CLU_ID_LOGICAL old, 0x1FF), (F.CLU_ID_STATE new, 0), (F.CLU_ID_LOGICAL new, l),
    (F.CLU_LMAP_PHYS l, new), (F.SCH_TRC_SPARES, 1)]
  let d := { d with clus := { d.clus with corr24 := Table.del d.clus.corr24 old } }
  let d := { d with rbt := { d.rbt with holders := d.rbt.holders.map (renameHolder old new) } }
  d.windowBlur new 0

/-- May the swap at the head move now? In a queued partition once the cluster is quiescent; in a scheduled one while parked at the step
boundary it aimed at, or with no running image once quiescent (R78, R98, R396). -/
def Dev.swapDue (d : Dev) (w : Swap) (phys : Nat) : Bool :=
  (d.uncovered d.trcWithSpare).isEmpty &&
  match d.clusterPart w.logical with
  | some p =>
    if d.on (F.ARB_PART_MODE p) && (d.part p).running.isSome then d.tickState == tsParked && w.targetTn == some (d.get F.TCK_TN_TN)
    else d.quiescent phys
  | none => d.quiescent phys

/-- Is a swap on its way to the boundary it aimed at, or parked there (R396)? -/
def Dev.swapHeld (d : Dev) (w : Swap) : Bool :=
  match w.targetTn with
  | some t => d.ticking || t == d.get F.TCK_TN_TN
  | none => false

/-- Does a channel sequence, a spare swap or a Boulevard degrade still hold REPAIR (R78, R210, R396)? -/
def Dev.repairWanted (d : Dev) : Bool :=
  d.tier.seqs.any (fun q => q.repairAsserted) || d.clus.swaps.any d.swapHeld || !d.dtd.repairFor.isEmpty

/-- REPAIR clears as a switch ends, unless another one still holds it (R209, R210). -/
def Dev.repairRelease (d : Dev) : Dev := if d.repairWanted then d else d.clearHold hcRepair

/-- Is the device at a switch point: OFF, LOCKING or PARKED, or without a scheduled partition that runs an image (R210)? -/
def Dev.switchPoint (d : Dev) : Bool :=
  d.tickState == tsOff || d.tickState == tsLocking || d.tickState == tsParked || d.runningParts.isEmpty

/-- Must a switch that becomes ready hold REPAIR (R210): a scheduled partition runs an image and the tick state is not OFF or
LOCKING? -/
def Dev.switchHolds (d : Dev) : Bool := d.tickState != tsOff && d.tickState != tsLocking && !d.runningParts.isEmpty

/-- The swap at the head moves where it is due; REPAIR clears when it held it. -/
def Dev.swapMove (d : Dev) : Dev :=
  match d.clus.swaps with
  | [] => d
  | w :: _ =>
    match d.physOf w.logical with
    | none => d
    | some phys =>
      match d.spareOf phys with
      | none => d
      | some new =>
        if !d.swapDue w phys then d
        else
          let d := (d.moveCluster w.logical phys new).endSwap swDone
          let d := if w.targetTn.isSome then d.repairRelease else d
          (d.swapNext d.clus.swaps.length).swapDefer

/-- SWAP_MOVE. -/
def execSwapMove (s : State) : Host.Outcome State Fault Refusal :=
  onDev Dev.swapMove s

/-- A queued swap whose drain exceeds 0x2300.06 ms is refused; the cluster resumes (R98). -/
def Dev.swapTimeout (d : Dev) : Dev :=
  match d.clus.swaps with
  | [] => d
  | w :: _ =>
    let queued := match d.clusterPart w.logical with
      | some p => !d.on (F.ARB_PART_MODE p)
      | none => true
    match d.physOf w.logical with
    | some phys =>
      if queued && !d.quiescent phys then
        let d := d.endSwap swRefused
        (d.swapNext d.clus.swaps.length).swapDefer
      else d
    | none => d

/-- SWAP_DRAIN_TIMEOUT. -/
def execSwapDrainTimeout (s : State) : Host.Outcome State Fault Refusal :=
  onDev Dev.swapTimeout s

/-- Every idle spare that fails its self-test goes to SPARE_FAILED (R97). -/
def Dev.selfTest (d : Dev) (failed : List Nat) : Dev :=
  failed.foldl (fun d c => if d.get (F.CLU_ID_STATE c) = 1 then d.put (F.CLU_ID_STATE c) 2 else d) d

/-- SPARE_SELF_TEST. -/
def execSpareSelfTest (failed : List (Fin 400)) (s : State) : Host.Outcome State Fault Refusal :=
  onDev (fun d => d.selfTest (failed.map (·.val))) s

end Sys2Proof.Machine
end

