-- ==== Sys2Proof/Machine/Entries.lean ====
section
/-! DEFINITION. Queue entries as their commands meet them: which fetched entry may start, how a range of its descriptor is
translated or parks, how it ends (R314 to R317, R225 to R230). -/

namespace Sys2Proof.Machine

open Sys2Proof

/-- Queue states (QSTATUS.STATE). -/
def qsDisabled : Nat := 0
def qsRunning : Nat := 1
def qsStopped : Nat := 2
def qsDraining : Nat := 3

/-- Entry types (R314). -/
def tyNop : Nat := 0
def tyLaunch : Nat := 1
def tyCopy : Nat := 2
def tyCollective : Nat := 3
def tyMemory : Nat := 4
def tyRemote : Nat := 5

/-- The queue `q` if it is not DISABLED. -/
def Dev.queue (d : Dev) (q : Nat) : Option Queue := Table.get (fun _ => none) d.host.queues q

/-- Writes it. -/
def Dev.setQueue (d : Dev) (q : Nat) (x : Option Queue) : Dev :=
  { d with host := { d.host with queues := Table.set (fun _ => none) d.host.queues q x } }

/-- The entry `seq` of queue `q` that the device holds. -/
def Dev.entry (d : Dev) (q seq : Nat) : Option Entry := d.host.entries.find? fun e => e.queue == q && e.seq == seq

/-- Changes it. -/
def Dev.mapEntry (d : Dev) (q seq : Nat) (f : Entry → Entry) : Dev :=
  { d with host := { d.host with entries := d.host.entries.map fun e => if e.queue = q ∧ e.seq = seq then f e else e } }

/-- Is the completion ring full of records that CQ_CI has not consumed (R317)? -/
def Queue.cqFull (x : Queue) : Bool := 2 ^ x.cqLog2 ≤ (x.cqCount + 2 ^ 32 - x.ci) % 2 ^ 32

/-- The entries of queue `q` fetched before `seq`. -/
def Dev.earlier (d : Dev) (q seq : Nat) : List Entry :=
  (d.host.entries.takeWhile fun e => !(e.queue == q && e.seq == seq)).filter fun e => e.queue == q

/-- May an entry start: in ring order, after every earlier one has completed where BARRIER is set, with room in the completion
ring (R315, R317)? -/
def Dev.mayStart (d : Dev) (x : Queue) (e : Entry) : Bool :=
  let before := d.earlier e.queue e.seq
  !x.cqFull && before.all (fun f => f.started || f.finished.isSome) && (!e.barrier || before.isEmpty)

/-- The queue and entry a command of some entry type may act on now: fetched, not ended, not parked, and started or free to
start. -/
def Dev.entryFor (d : Dev) (q seq type : Nat) : Option (Queue × Entry) :=
  match d.queue q, d.entry q seq with
  | some x, some e =>
    if e.type == type && e.finished.isNone && !d.entryParked q seq && (e.started || d.mayStart x e) then some (x, e) else none
  | _, _ => none

/-- Runs a command on its queue entry; nothing where the entry is not there or may not start. -/
def Dev.onEntry (q seq type : Nat) (f : Queue → Entry → Dev → Dev) (d : Dev) : Dev :=
  match d.entryFor q seq type with
  | none => d
  | some (x, e) => f x e (d.mapEntry q seq fun e => { e with started := true })

/-- An entry has issued a write to host memory (R331). -/
def Dev.wroteHost (d : Dev) (q seq : Nat) : Dev := d.mapEntry q seq fun e => { e with wroteHost := true }

/-- What asking for a translation gives. -/
inductive Got
  | ok (e : List Extent)
  | stop (status : Nat)
  | parked
  deriving DecidableEq, Repr

/-- Does a request wait already? -/
def Dev.isWaiting (d : Dev) (w : Waiter) : Bool :=
  (d.rbt.waiters ++ d.rbt.waitingBind).any fun x =>
    x.holder == w.holder && x.root == w.root && x.va == w.va && x.len == w.len && x.entry == w.entry

/-- The status with which a parked binding ended, if it ended (R229, R230). -/
def Dev.boundFail (d : Dev) (w : Waiter) : Option Nat :=
  (d.rbt.bound.find? fun b => b.holder == w.holder && b.root == w.root && b.va == w.va && b.status != stOk).map Bound.status

/-- Translates a range for a requester, which parks where the walk faults or an invalidate covers the range (R225, R228, R232). -/
def Dev.obtain (d : Dev) (w : Waiter) : Got × Dev :=
  if d.isWaiting w then (.parked, d)
  else
    match w.entry, d.boundFail w with
    | none, some st =>
      (.stop st, { d with rbt := { d.rbt with bound := d.rbt.bound.filter fun b => !(b.holder == w.holder && b.root == w.root && b.va == w.va) } })
    | _, _ =>
      if d.invalidating w.root w.va w.len then (.parked, { d with rbt := { d.rbt with waitingBind := d.rbt.waitingBind ++ [w] } })
      else
        match d.translate w.root w.part w.va w.len w.need with
        | (.ok l, d) => (.ok l, d)
        | (.stop st, d) => (.stop st, d)
        | (.fault k va, d) => (.parked, d.park w k va)

/-- Translates several ranges of one entry in order; the first that parks or fails decides. -/
def Dev.obtainAll : List Waiter → Dev → Got × Dev
  | [], d => (.ok [], d)
  | w :: r, d =>
    match d.obtain w with
    | (.ok l, d) =>
      (match Dev.obtainAll r d with
       | (.ok m, d) => (.ok (l ++ m), d)
       | x => x)
    | x => x

end Sys2Proof.Machine
end

