-- ==== Sys2Proof/Machine/Frames.lean ====
section
/-! DEFINITION. The frame allocator: requests, pools, the choice of frames, the counts that registers show (R193, R196 to R199). -/

namespace Sys2Proof.Machine

open Sys2Proof

/-! ### Requests (R196) -/

/-- A frame request descriptor. -/
structure FrameDesc where
  list : Nat
  count : Nat
  size : Nat
  mode : Nat
  die : Nat
  noSpill : Bool
  scratch : Bool
  op : Nat
  zeros : Bool
  deriving DecidableEq, Repr

/-- Reads it. `zeros` is the check of the reserved fields and values, DIE outside MODE 1 among them. -/
def frameDesc (b : List Byte) : FrameDesc :=
  let w (i : Nat) := leWord b i
  { list := bits (w 0) 55 0, count := bits (w 1) 31 0, size := bits (w 2) 11 10, mode := bits (w 2) 9 8, die := bits (w 2) 7 6,
    noSpill := bit (w 2) 5, scratch := bit (w 2) 4, op := bits (w 2) 1 0,
    zeros := bits (w 0) 63 56 == 0 && bits (w 1) 63 32 == 0 && bits (w 2) 63 12 == 0 && bits (w 2) 3 2 == 0
      && (b.drop 24).all (· == 0#8) && bits (w 2) 11 10 != 3 && bits (w 2) 9 8 != 3 && bits (w 2) 1 0 < 2
      && (bits (w 2) 9 8 == 1 || bits (w 2) 7 6 == 0) }

/-- The bytes of a frame of a SIZE code. -/
def frameBytes (size : Nat) : Nat := if size = 0 then 0x10000 else if size = 1 then 0x200000 else gib

/-- The 64 KiB units of a frame of a SIZE code. -/
def frameUnits (size : Nat) : Nat := frameBytes size / 0x10000

/-- An entry of a frame list (R196). -/
def frameEntry (f : Frame) (size : Nat) (spilled : Bool) : List Byte :=
  leBytes 8 (f.pa + size * 4 + b2n f.scratch * 2 + b2n spilled)

/-! ### Pools (R193, R198) -/

/-- The size of the sub-region of a die in a die-local region. -/
def subRegion : Nat := 0x30000000

/-- The pools of a MODE: (region, first byte, bytes) in ascending address order. A die's pool holds its sub-regions of the die-local
regions; the package-wide pool holds the package-wide regions whole. -/
def Dev.diePool (d : Dev) (die : Nat) : List (Nat × Nat) :=
  ((List.range 248).filter fun k => !d.packageWide k).map fun k => (3 * gib * k + subRegion * die, subRegion)

/-- The package-wide pool. -/
def Dev.widePool (d : Dev) : List (Nat × Nat) := ((List.range 248).filter d.packageWide).map fun k => (3 * gib * k, 3 * gib)

/-- Is any channel of a die in FAILED, or with no die named any channel at all? -/
def Dev.anyFailed (d : Dev) (c n : Nat) : Bool := (natRange c n).any fun c => d.chan c == csFailed

/-- Does a range have a granule on a FAILED channel (R198)? -/
def Dev.onFailed (d : Dev) (pa n : Nat) : Bool :=
  (d.anyFailed 0 384) && (granulesOf pa n).any fun a => d.chan (d.hbmChannel a) == csFailed

/-- May the allocator hand out a range of HBM: no frame overlaps it, no granule of it lies on a FAILED channel? -/
def Dev.hbmFree (d : Dev) (pa n : Nat) : Bool := !(d.tier.frames.any fun f => overlaps pa n f.pa f.size) && !d.onFailed pa n

/-- The free frames of `n` bytes in one part of a pool: counted. -/
def Dev.freeIn (d : Dev) (n : Nat) (r : Nat × Nat) : Nat :=
  if !d.anyFailed 0 384 && !(d.tier.frames.any fun f => overlaps r.1 r.2 f.pa f.size) then r.2 / n
  else (List.range (r.2 / n)).countP fun i => d.hbmFree (r.1 + n * i) n

/-- The free frames of `n` bytes in a pool. -/
def Dev.freeCount (d : Dev) (pool : List (Nat × Nat)) (n : Nat) : Nat := pool.foldl (fun s r => s + d.freeIn n r) 0

/-- The first free frame at or after the `i`-th of a part, of which `k` are left. -/
def Dev.firstIn (d : Dev) (base n : Nat) : Nat → Nat → Option Nat
  | 0, _ => none
  | k + 1, i => if d.hbmFree (base + n * i) n then some (base + n * i) else firstIn d base n k (i + 1)

/-- The free frame of a pool with the lowest address. -/
def Dev.firstFree (d : Dev) (pool : List (Nat × Nat)) (n : Nat) : Option Nat := pool.findSome? fun r => d.firstIn r.1 n (r.2 / n) 0

/-- The die with the most free die-local frames, the lowest-numbered on a tie, if any has one (R198). -/
def Dev.bestDie (d : Dev) (n : Nat) : Option Nat :=
  let c (die : Nat) : Nat := d.freeCount (d.diePool die) n
  let b := (List.range 4).foldl (fun b i => if c b < c i then i else b) 0
  if c b = 0 then none else some b

/-- The next HBM frame a request takes. -/
def Dev.nextFrame (d : Dev) (m : FrameDesc) : Option Nat :=
  let n := frameBytes m.size
  match m.mode with
  | 1 => d.firstFree (d.diePool m.die) n
  | 2 => d.firstFree d.widePool n
  | _ =>
    match if m.size = 2 then none else d.bestDie n with
    | some die => d.firstFree (d.diePool die) n
    | none => d.firstFree d.widePool n

/-- Adds a frame to the map, without counts. -/
def Dev.addFrame (d : Dev) (f : Frame) : Dev := { d with tier := { d.tier with frames := d.tier.frames ++ [f] } }

/-- Takes up to `k` HBM frames, in the order R198 gives. -/
def Dev.takeHbm (m : FrameDesc) (part : Nat) : Nat → Dev → List Frame × Dev
  | 0, d => ([], d)
  | k + 1, d =>
    match d.nextFrame m with
    | none => ([], d)
    | some pa =>
      let f : Frame := ⟨pa, frameBytes m.size, part, m.scratch, false⟩
      let r := takeHbm m part k (d.addFrame f)
      (f :: r.1, r.2)

/-- Is a Ring Road range free, and served? -/
def Dev.ringFree (d : Dev) (pa n : Nat) : Bool :=
  !(d.tier.frames.any fun f => overlaps pa n f.pa f.size) && !((List.range 8).any fun r => d.get (F.MEM_RR_STATE r) == csFailed)

/-- The first free Ring Road frame. -/
def Dev.firstRing (d : Dev) (n : Nat) : Nat → Nat → Option Nat
  | 0, _ => none
  | k + 1, i => if d.ringFree (ringBase + n * i) n then some (ringBase + n * i) else firstRing d n k (i + 1)

/-- Takes up to `k` Ring Road frames in ascending address order. -/
def Dev.takeRing (m : FrameDesc) (part : Nat) : Nat → Dev → List Frame × Dev
  | 0, d => ([], d)
  | k + 1, d =>
    let n := frameBytes m.size
    match d.firstRing n (0x8000000000 / n) 0 with
    | none => ([], d)
    | some pa =>
      let f : Frame := ⟨pa, n, part, m.scratch, false⟩
      let r := takeRing m part k (d.addFrame f)
      (f :: r.1, r.2)

/-! ### Counts -/

/-- The granules of an HBM range in one region on channel `c`: one for each whole row, and those of the rows at its ends. -/
def Dev.granulesOn (d : Dev) (pa n c : Nat) : Nat :=
  let wide := d.packageWide (pa / (3 * gib))
  let o := pa % (3 * gib)
  let w := if wide then 384 else 96
  let g := (if wide then o else o % subRegion) / 2048
  let h := g + n / 2048
  let die := if wide then 0 else o / subRegion
  let on (i : Nat) : Bool := (hbmChannelRow wide (pa + 2048 * (i - g))).1 == c
  if !wide && c / 96 ≠ die then 0
  else
    let lo := (g + w - 1) / w
    let hi := h / w
    if hi ≤ lo then (natRange g (h - g)).countP on
    else (hi - lo) + (natRange g (lo * w - g)).countP on + (natRange (hi * w) (h - hi * w)).countP on

/-- MEM_CHAN.LIVE of every channel follows a frame taken (`true`) or given back. -/
def Dev.liveFrame (d : Dev) (f : Frame) (taken : Bool) : Dev :=
  if hbmTop ≤ f.pa then d
  else
    (List.range 384).foldl (fun d c =>
      let k := d.granulesOn f.pa f.size c
      if k = 0 then d
      else d.put (F.MEM_CHAN_LIVE c) (if taken then d.get (F.MEM_CHAN_LIVE c) + k else d.get (F.MEM_CHAN_LIVE c) - k)) d

/-- MEM_REGION.ALLOC follows a frame taken or given back. -/
def Dev.regionFrame (d : Dev) (f : Frame) (taken : Bool) : Dev :=
  if hbmTop ≤ f.pa then d
  else
    let k := f.pa / (3 * gib)
    let u := f.size / 0x10000
    d.put (F.MEM_REGION_ALLOC k) (if taken then d.get (F.MEM_REGION_ALLOC k) + u else d.get (F.MEM_REGION_ALLOC k) - u)

/-- Allocated units below or above the top of HBM. -/
def Dev.unitsTaken (d : Dev) (hbm : Bool) : Nat :=
  d.tier.frames.foldl (fun s f => if decide (f.pa < hbmTop) == hbm then s + f.size / 0x10000 else s) 0

/-- MEM_FREE: the free units; units with a granule on a FAILED channel are not counted (chapter 10). -/
def Dev.countFree (d : Dev) : Dev :=
  let hbm :=
    if d.anyFailed 0 384 then
      (List.range 4).foldl (fun s die => s + d.freeCount (d.diePool die) 0x10000) (d.freeCount d.widePool 0x10000)
    else 0xBA0000 - d.unitsTaken true
  d.puts [(F.MEM_FREE_HBM_FREE, hbm), (F.MEM_FREE_RR_FREE, 0x800000 - d.unitsTaken false)]

/-- ARB_FQ.USED of a partition follows units taken or given back. -/
def Dev.useQuota (d : Dev) (p u : Nat) (taken : Bool) : Dev :=
  d.put (F.ARB_FQ_USED p) (if taken then d.get (F.ARB_FQ_USED p) + u else d.get (F.ARB_FQ_USED p) - u)

/-- What a partition may still take, in 64 KiB units (R197 check 6). -/
def Dev.quotaLeft (d : Dev) (p : Nat) : Nat := d.get (F.ARB_FQ_QUOTA p) - d.get (F.ARB_FQ_USED p)

/-- Frames that stand in the map count, and are zeroed (R198). -/
def Dev.settleFrames (d : Dev) (l : List Frame) : Dev :=
  (l.foldl (fun d f => (((d.liveFrame f true).regionFrame f true).useQuota f.part (f.size / 0x10000) true).zeroRange f.pa f.size) d).countFree

/-- Frames go back to their pools. -/
def Dev.dropFrames (d : Dev) (l : List Frame) : Dev :=
  let d := l.foldl (fun d f => ((d.liveFrame f false).regionFrame f false).useQuota f.part (f.size / 0x10000) false) d
  ({ d with tier := { d.tier with frames := d.tier.frames.filter fun f => !l.contains f } } : Dev).countFree

/-! ### ALLOC and FREE (R197 to R199) -/

/-- Ends an entry without a result. -/
def Dev.finish0 (d : Dev) (e : Entry) (st : Nat) : Dev := d.finishEntry e.queue e.seq st 0

/-- The frame list of a request: translated with a need; parks, or ends the entry. -/
def Dev.frameList (x : Queue) (e : Entry) (m : FrameDesc) (need : Nat) (d : Dev) (f : List Extent → Dev → Dev) : Dev :=
  match d.obtain ⟨0, holderFrames, x.root, x.part, m.list, 8 * m.count, need, false, some (e.queue, e.seq)⟩ with
  | (.parked, d) => d
  | (.stop st, d) => d.finish0 e st
  | (.ok l, d) => if d.runsWait (extentRuns l m.list (8 * m.count)) then d else f l d

/-- Can a request be met, and with which frames: HBM frames, Ring Road frames, the state that holds them (R197 check 6, R199)? -/
def Dev.chooseFrames (d : Dev) (part : Nat) (m : FrameDesc) : Option (List Frame × List Frame × Dev) :=
  if d.quotaLeft part < m.count * frameUnits m.size then none
  else
    let h := Dev.takeHbm m part m.count d
    let short := m.count - h.1.length
    if short = 0 then some (h.1, [], h.2)
    else if m.noSpill || !d.has ftRingRoad then none
    else
      let r := Dev.takeRing m part short h.2
      if r.1.length < short then none else some (h.1, r.1, r.2)

/-- Are frames in ascending address order? -/
def byAddress (l : List Frame) : List Frame := l.mergeSort fun a b => a.pa ≤ b.pa

/-- An ALLOC entry (R196 to R199); its result is the Ring Road frames given (R317). -/
def Dev.allocEntry (x : Queue) (e : Entry) (d : Dev) : Dev :=
  let m := frameDesc e.desc
  if !m.zeros || (m.scratch && !d.has ftScratch) then d.finish0 e stFeature
  else if m.count = 0 then d.finish0 e stOk
  else if m.list % 8 ≠ 0 then d.finish0 e stBounds
  else
    Dev.frameList x e m 2 d fun l d =>
      let runs := extentRuns l m.list (8 * m.count)
      if m.size = 2 && m.mode = 1 then d.finish0 e stNotEnabled
      else
        match d.chooseFrames x.part m with
        | none => d.finish0 e stBounds
        | some (hbm, ring, d') =>
          if d.writeRunsStatus runs ≠ stOk then (d.tryWriteRuns runs).2.finish0 e (d.writeRunsStatus runs)
          else
            let d := d'.settleFrames (hbm ++ ring)
            let d := d.writeRuns runs (((byAddress hbm).flatMap fun f => frameEntry f m.size false) ++ ring.flatMap fun f => frameEntry f m.size true)
            let d := if runs.any (fun r => isHost r.1) then d.wroteHost e.queue e.seq else d
            let d := if ring.isEmpty then d else d.raise evMemory stOk x.part [x.part, m.size, b2n m.scratch, ring.length]
            d.finishEntry e.queue e.seq stOk ring.length

/-- ALLOC: the memory entries that are no FREE. -/
def execAlloc (q : Nat) (seq : Nat) (s : State) : Host.Outcome State Fault Refusal :=
  onDev (fun d => match d.entry q seq with
    | some e => if (frameDesc e.desc).op = 1 then d else Dev.onEntry q seq tyMemory Dev.allocEntry d
    | none => d) s

/-- The frame a list entry names, if it is one the request may free (R197 check 5). -/
def Dev.freeable (d : Dev) (part size w : Nat) : Option Frame :=
  d.tier.frames.find? fun f =>
    f.pa == bits w 55 16 * 0x10000 && f.size == frameBytes size && f.part == part && !f.image && bits w 3 2 == size

/-- Every entry names a frame of its own. -/
def Dev.freeables (d : Dev) (part size : Nat) : List Nat → Option (List Frame)
  | [] => some []
  | w :: r =>
    match d.freeable part size w, freeables d part size r with
    | some f, some l => if l.contains f then none else some (f :: l)
    | _, _ => none

/-- A FREE entry (R196 to R198). -/
def Dev.freeEntry (x : Queue) (e : Entry) (d : Dev) : Dev :=
  let m := frameDesc e.desc
  if !m.zeros || (m.scratch && !d.has ftScratch) then d.finish0 e stFeature
  else if m.count = 0 then d.finish0 e stOk
  else if m.list % 8 ≠ 0 then d.finish0 e stBounds
  else
    Dev.frameList x e m 1 d fun l d =>
      let r := d.readRuns (extentRuns l m.list (8 * m.count)) false
      if r.1 ≠ stOk then r.2.finish0 e r.1
      else
        let b := d.readVa l m.list (8 * m.count)
        let ws := (List.range m.count).map fun i => leWord b i
        if ws.any (fun w => bits w 63 56 != 0 || bits w 15 4 != 0 || bits w 3 2 == 3) then d.finish0 e stFeature
        else if m.size = 2 && m.mode = 1 then d.finish0 e stNotEnabled
        else
          match d.freeables x.part m.size ws with
          | none => d.finish0 e stPerm
          | some fs => (d.dropFrames fs).finish0 e stOk

/-- FREE. -/
def execFree (q : Nat) (seq : Nat) (s : State) : Host.Outcome State Fault Refusal :=
  onDev (fun d => match d.entry q seq with
    | some e => if (frameDesc e.desc).op = 1 then Dev.onEntry q seq tyMemory Dev.freeEntry d else d
    | none => d) s

/-! ### Regions (R193) -/

/-- MEM_REGION: a mode of an allocatable region changes only while nothing of the region is allocated. -/
def Dev.regionWrite (d : Dev) (k v : Nat) : Dev :=
  if k < 248 && v % 4 < 2 && d.get (F.MEM_REGION_ALLOC k) == 0 then (d.put (F.MEM_REGION_MODE k) (v % 4)).countFree
  else d.refuse (F.MEM_REGION_MODE k).off v

/-- MEM_REGION_WRITE. -/
def execMemRegionWrite (k : Fin 256) (value : Word) (s : State) : Host.Outcome State Fault Refusal :=
  onDev (fun d => d.regionWrite k value.toNat) s

end Sys2Proof.Machine
end

