-- ==== Sys2Proof/Machine/Crypto.lean ====
section
/-! DEFINITION. SHA-384 and HMAC-SHA-384, CRC-32C and CRC-32, which the spec names and takes from public standards
(R359, R365, R245; notes/assumptions/5.md). -/

namespace Sys2Proof.Machine

open Sys2Proof

/-- Round constants of SHA-384, part 0 (FIPS 180-4). -/
def shaK0 : List Word :=
  [0x428a2f98d728ae22, 0x7137449123ef65cd, 0xb5c0fbcfec4d3b2f, 0xe9b5dba58189dbbc,
   0x3956c25bf348b538, 0x59f111f1b605d019, 0x923f82a4af194f9b, 0xab1c5ed5da6d8118,
   0xd807aa98a3030242, 0x12835b0145706fbe, 0x243185be4ee4b28c, 0x550c7dc3d5ffb4e2,
   0x72be5d74f27b896f, 0x80deb1fe3b1696b1, 0x9bdc06a725c71235, 0xc19bf174cf692694]

/-- Round constants of SHA-384, part 1 (FIPS 180-4). -/
def shaK1 : List Word :=
  [0xe49b69c19ef14ad2, 0xefbe4786384f25e3, 0x0fc19dc68b8cd5b5, 0x240ca1cc77ac9c65,
   0x2de92c6f592b0275, 0x4a7484aa6ea6e483, 0x5cb0a9dcbd41fbd4, 0x76f988da831153b5,
   0x983e5152ee66dfab, 0xa831c66d2db43210, 0xb00327c898fb213f, 0xbf597fc7beef0ee4,
   0xc6e00bf33da88fc2, 0xd5a79147930aa725, 0x06ca6351e003826f, 0x142929670a0e6e70]

/-- Round constants of SHA-384, part 2 (FIPS 180-4). -/
def shaK2 : List Word :=
  [0x27b70a8546d22ffc, 0x2e1b21385c26c926, 0x4d2c6dfc5ac42aed, 0x53380d139d95b3df,
   0x650a73548baf63de, 0x766a0abb3c77b2a8, 0x81c2c92e47edaee6, 0x92722c851482353b,
   0xa2bfe8a14cf10364, 0xa81a664bbc423001, 0xc24b8b70d0f89791, 0xc76c51a30654be30,
   0xd192e819d6ef5218, 0xd69906245565a910, 0xf40e35855771202a, 0x106aa07032bbd1b8]

/-- Round constants of SHA-384, part 3 (FIPS 180-4). -/
def shaK3 : List Word :=
  [0x19a4c116b8d2d0c8, 0x1e376c085141ab53, 0x2748774cdf8eeb99, 0x34b0bcb5e19b48a8,
   0x391c0cb3c5c95a63, 0x4ed8aa4ae3418acb, 0x5b9cca4f7763e373, 0x682e6ff3d6b2b8a3,
   0x748f82ee5defb2fc, 0x78a5636f43172f60, 0x84c87814a1f0ab72, 0x8cc702081a6439ec,
   0x90befffa23631e28, 0xa4506cebde82bde9, 0xbef9a3f7b2c67915, 0xc67178f2e372532b]

/-- Round constants of SHA-384, part 4 (FIPS 180-4). -/
def shaK4 : List Word :=
  [0xca273eceea26619c, 0xd186b8c721c0c207, 0xeada7dd6cde0eb1e, 0xf57d4f7fee6ed178,
   0x06f067aa72176fba, 0x0a637dc5a2c898a6, 0x113f9804bef90dae, 0x1b710b35131c471b,
   0x28db77f523047d84, 0x32caab7b40c72493, 0x3c9ebe0a15c9bebc, 0x431d67c49c100d4c,
   0x4cc5d4becb3e42b6, 0x597f299cfc657e2a, 0x5fcb6fab3ad6faec, 0x6c44198c4a475817]

/-- The round constants of SHA-384. -/
def shaK : List Word := shaK0 ++ shaK1 ++ shaK2 ++ shaK3 ++ shaK4

/-- The eight working variables. -/
structure ShaVars where
  a : Word
  b : Word
  c : Word
  d : Word
  e : Word
  f : Word
  g : Word
  h : Word
  deriving DecidableEq, Repr

/-- The initial hash value of SHA-384. -/
def shaInit : ShaVars :=
  ⟨0xcbbb9d5dc1059ed8, 0x629a292a367cd507, 0x9159015a3070dd17, 0x152fecd8f70e5939,
   0x67332667ffc00b31, 0x8eb44a8768581511, 0xdb0c2e0d64f98fa7, 0x47b5481dbefa4fa4⟩

/-- Rotation right of a 64-bit word. -/
def rotr (x : Word) (n : Nat) : Word := (x >>> n) ||| (x <<< (64 - n))

/-- One round. -/
def shaRound (v : ShaVars) (k w : Word) : ShaVars :=
  let t1 := v.h + (rotr v.e 14 ^^^ rotr v.e 18 ^^^ rotr v.e 41) + ((v.e &&& v.f) ^^^ (~~~v.e &&& v.g)) + k + w
  let t2 := (rotr v.a 28 ^^^ rotr v.a 34 ^^^ rotr v.a 39) + ((v.a &&& v.b) ^^^ (v.a &&& v.c) ^^^ (v.b &&& v.c))
  ⟨t1 + t2, v.a, v.b, v.c, v.d + t1, v.e, v.f, v.g⟩

/-- The rounds of one block; the window holds the next sixteen words of the message schedule. -/
def shaRounds : List Word → List Word → ShaVars → ShaVars
  | [], _, v => v
  | k :: ks, w, v =>
    let w0 := w.getD 0 0
    let s0 := rotr (w.getD 1 0) 1 ^^^ rotr (w.getD 1 0) 8 ^^^ (w.getD 1 0 >>> 7)
    let s1 := rotr (w.getD 14 0) 19 ^^^ rotr (w.getD 14 0) 61 ^^^ (w.getD 14 0 >>> 6)
    shaRounds ks (w.drop 1 ++ [w0 + s0 + w.getD 9 0 + s1]) (shaRound v k w0)

/-- One block of 128 bytes. -/
def shaBlock (v : ShaVars) (block : List Byte) : ShaVars :=
  let w := (List.range 16).map fun i => BitVec.ofNat 64 (beNat ((block.drop (8 * i)).take 8))
  let r := shaRounds shaK w v
  ⟨v.a + r.a, v.b + r.b, v.c + r.c, v.d + r.d, v.e + r.e, v.f + r.f, v.g + r.g, v.h + r.h⟩

/-- The message with its padding and 128-bit length. -/
def shaPad (m : List Byte) : List Byte :=
  let z := (128 - (m.length + 17) % 128) % 128
  m ++ [0x80#8] ++ List.replicate z 0#8 ++ beBytes 16 (8 * m.length)

/-- SHA-384 (FIPS 180-4), first byte first (R5). -/
def sha384 (m : List Byte) : List Byte :=
  let p := shaPad m
  let v := (List.range (p.length / 128)).foldl (fun v i => shaBlock v ((p.drop (128 * i)).take 128)) shaInit
  [v.a, v.b, v.c, v.d, v.e, v.f].flatMap fun x => beBytes 8 x.toNat

/-- HMAC-SHA-384 (FIPS 198-1) with a key of at most 128 bytes. -/
def hmac384 (key m : List Byte) : List Byte :=
  let k := fitBytes 128 key
  sha384 ((k.map fun b => b ^^^ 0x5C#8) ++ sha384 ((k.map fun b => b ^^^ 0x36#8) ++ m))

/-- One bit of a reflected CRC. -/
def crcStep (poly : Nat) (x : Nat) : Nat := if x % 2 = 1 then (x / 2) ^^^ poly else x / 2

/-- A reflected 32-bit CRC with all-ones start and final complement; `poly` is the reflected polynomial. -/
def crc32With (poly : Nat) (m : List Byte) : Nat :=
  (m.foldl (fun c b => (List.range 8).foldl (fun x _ => crcStep poly x) (c ^^^ b.toNat)) 0xFFFFFFFF) ^^^ 0xFFFFFFFF

/-- CRC-32C, polynomial 0x1EDC_6F41 (R365). -/
def crc32c (m : List Byte) : Nat := crc32With 0x82F63B78 m

/-- CRC-32 of IEEE 802.3. -/
def crc32 (m : List Byte) : Nat := crc32With 0xEDB88320 m

end Sys2Proof.Machine
end

