-- ==== Sys2Proof/Machine/Lop.lean ====
section
/-! DEFINITION. What the object protocol shares among its commands: replies, authentication, the last-request store, stored
configuration (R353 to R361, R365, R367, R382). -/

namespace Sys2Proof.Machine

open Sys2Proof

/-! ### Replies -/

/-- The source numbers of the PCIe mailbox and of the I3C controller; every other source is an address behind the management port. -/
def srcMailbox : Nat := 0
def srcI3c : Nat := 1

/-- Puts bytes into MBX_RSP. -/
def Dev.putRsp (d : Dev) (b : List Byte) : Dev :=
  (List.range 182).foldl (fun d i => d.put (F.MBX_RSP_DATA i) (leNat ((b.drop (8 * i)).take 8))) d

/-- A response returns to its source; the mailbox's shows in its registers, with an event (R353). -/
def Dev.reply (d : Dev) (source : Nat) (frame : List Byte) : Dev :=
  if source = srcMailbox then
    ((d.putRsp frame).puts [(F.MBX_STATUS_RSP_LEN, frame.length), (F.MBX_STATUS_STATE, 2)]).raise evMailbox stOk 0 []
  else d.emit (.lop source frame)

/-- Does the device serve an object: nothing before boot stage 2 or while ZEROISING; in RECOVERY the recovery service's (R371)? -/
def Dev.serves (d : Dev) (key : Nat) : Bool :=
  let st := d.get F.PWR_BOOT_STATE
  if st = dsInit then 2 ≤ d.get F.PWR_BOOT_STAGE
  else if st = dsRecovery then [0x1000, 0x2000, 0x2E00, 0x5000, 0x5100].contains (key / 256)
  else st ≠ dsZeroising

/-- Is the transport of a source in use (objects 0x1100.01 and 0x1100.08)? The mailbox always is. -/
def Dev.carries (d : Dev) (source : Nat) : Bool :=
  source == srcMailbox || d.objNat (if source = srcI3c then 0x110008 else 0x110001) != 0

/-! ### Authentication (R358 to R361) -/

/-- A write request: source, request number, operation, object, value, trailer, the offset of its last segment, and the frame as it came
where it came as one. -/
structure LopReq where
  source : Nat
  reqId : Nat
  op : Nat
  key : Nat
  value : List Byte
  auth : Option Auth
  offset : Nat
  raw : Option (List Byte)
  deriving DecidableEq, Repr

/-- LOPAUTH1 in ASCII. -/
def lopAuth1 : List Byte := [0x4C, 0x4F, 0x50, 0x41, 0x55, 0x54, 0x48, 0x31]
/-- LOPRESP1 in ASCII. -/
def lopResp1 : List Byte := [0x4C, 0x4F, 0x50, 0x52, 0x45, 0x53, 0x50, 0x31]

/-- The message of a tag: for a response the status byte stands after the subindex (R359). -/
def tagMessage (head : List Byte) (slot counter op key : Nat) (status : List Byte) (data : List Byte) : List Byte :=
  head ++ fitBytes 16 Config.serial ++ leBytes 1 slot ++ leBytes 8 counter ++ leBytes 1 op ++ leBytes 2 (key / 256) ++ leBytes 1 key
    ++ status ++ leBytes 4 data.length ++ sha384 data

/-- The leftmost 128 bits of the HMAC. -/
def tagOf (k m : List Byte) : List Byte := (hmac384 k m).take 16

/-- The tag a request must carry. -/
def requestTag (k : List Byte) (r : LopReq) (a : Auth) : List Byte :=
  tagOf k (tagMessage lopAuth1 a.slot a.counter r.op r.key [] r.value)

/-- A trailer. -/
def trailer (slot counter : Nat) (tag : List Byte) : List Byte := leBytes 1 slot ++ List.replicate 7 0#8 ++ leBytes 8 counter ++ tag

/-- A response, with its trailer where the request carried one and the slot holds a key (R359). -/
def responseFrame (k : Option (List Byte)) (r : LopReq) (status : Nat) (data : List Byte) (flags offset : Nat) : List Byte :=
  match r.auth, k with
  | some a, some k =>
    lopFrame (r.op + 0x80) r.reqId r.key (flags ||| 2) status data offset
      ++ trailer a.slot a.counter (tagOf k (tagMessage lopResp1 a.slot a.counter (r.op + 0x80) r.key (leBytes 1 status) data))
  | _, _ => lopFrame (r.op + 0x80) r.reqId r.key flags status data offset

/-- The bytes of a request, by which a resend is known (R361): the frame as it came, else the one the request stands for. -/
def requestBytes (r : LopReq) : List Byte :=
  match r.raw with
  | some b => b
  | none =>
    lopFrame r.op r.reqId r.key (if r.auth.isSome then 2 else 0) 0 r.value r.offset
      ++ match r.auth with
        | some a => trailer a.slot a.counter a.tag
        | none => []

/-- Writes a key slot. -/
def Vault.setSlot (v : Vault) (n : Nat) (k : KeySlot) : Vault :=
  if n = 0 then { v with slot0 := k } else { v with slots := v.slots.set (n - 1) k }

/-- The permission bit an object's command needs (chapter 18, Permission bits); none where no bit is listed. -/
def permBit (key : Nat) : Option Nat :=
  let i := key / 256
  if i = 0x5100 then some 0
  else if i = 0x5200 ∨ i = 0x5002 ∨ i = 0x5003 then some 1
  else if i = 0x5300 then some 2
  else if i = 0x5400 then some 3
  else if i = 0x2E01 then some 4
  else if i = 0x2F01 then some 5
  else if 0x2D01 ≤ i ∧ i ≤ 0x2D08 then some 6
  else if [0x230007, 0x230008, 0x270006, 0x270007].contains key then some 7
  else if key = 0x2A0001 then some 8
  else none

/-- May a slot's mask issue the command of an object (R360 step 7)? -/
def maskAllows (mask key : Nat) : Bool :=
  match permBit key with
  | some b => bit mask b
  | none => true

/-- A failure at step 4, 5 or 6 counts on its slot; the sixteenth in a row locks it and raises a security event (R361). -/
def authFailed (v : Vault) (d : Dev) (n : Nat) : Vault × Dev :=
  let k := v.slot n
  let f := satTo 0x7FFF (k.failures + 1)
  let v := v.setSlot n { k with failures := f, locked := k.locked || 16 ≤ f }
  (v, if !k.locked && 16 ≤ f then d.raise evSecurity stOk 0 [n] else d)

/-- Steps 4 to 8 of R360: the status, with the slot's counter committed where they pass. -/
def authSteps (v : Vault) (d : Dev) (r : LopReq) (a : Auth) : Nat × Vault × Dev :=
  let k := v.slot a.slot
  match k.key with
  | none => (stAuthFail, authFailed v d a.slot)
  | some key =>
    if k.locked || a.tag != requestTag key r a || a.counter ≤ k.counter || 2 ^ 64 ≤ a.counter then (stAuthFail, authFailed v d a.slot)
    else if !maskAllows k.mask r.key then (stPerm, v.setSlot a.slot { k with failures := 0 }, d)
    else (stOk, v.setSlot a.slot { k with failures := 0, counter := a.counter }, d)

/-- Sends the response of a write. -/
def State.answer (s : State) (k : Option (List Byte)) (r : LopReq) (status : Nat) : State :=
  { s with dev := s.dev.reply r.source (responseFrame k r status [] 0 r.offset) }

/-- Keeps the last accepted request of a slot with its response (R361). -/
def State.keepLast (s : State) (a : Auth) (r : LopReq) (response : List Byte) : State :=
  { s with flash := { s.flash with lastRequests :=
      ⟨a.slot, r.source, requestBytes r, response⟩ :: s.flash.lastRequests.filter fun x => x.slot != a.slot.val } }

/-- The stored response to an identical resend from the same source (R361). -/
def State.resent (s : State) (a : Auth) (r : LopReq) : Option (List Byte) :=
  (s.flash.lastRequests.find? fun x => x.slot == a.slot.val && x.source == r.source && x.request == requestBytes r).map LastRequest.response

/-- A write of an object that exists and is writable (R360 from step 3): a resend is answered from the store; without a trailer an
AUTH object is refused; then authentication, then `rules`, which is step 9 with the write's effect. -/
def lopWrite (needsAuth : Bool) (r : LopReq) (rules : State → Nat × State) (s : State) : State :=
  match r.auth with
  | none =>
    if needsAuth then s.answer none r stAuthFail
    else
      let x := rules s
      x.2.answer none r x.1
  | some a =>
    match s.resent a r with
    | some f => { s with dev := s.dev.reply r.source f }
    | none =>
      let k := (s.vault.slot a.slot).key
      let x := authSteps s.vault s.dev r a
      let s := { s with vault := x.2.1, dev := x.2.2 }
      if x.1 ≠ stOk then s.answer k r x.1
      else
        let y := rules s
        (y.2.answer k r y.1).keepLast a r (responseFrame k r y.1 [] 0 r.offset)

/-- The write that a command of an AUTH object stands for; a value past one frame is a segmented write's. -/
def authReq (a : Auth) (key : Nat) (value : List Byte) : LopReq :=
  ⟨a.source, a.reqId, if value.length ≤ 1400 then 2 else 4, key, value, some a, if value.length ≤ 1400 then 0 else (value.length - 1) / 1400 * 1400, none⟩

/-- Runs a command that is a write of an AUTH object. -/
def onAuth (a : Auth) (key : Nat) (value : List Byte) (rules : State → Nat × State) (s : State) : Host.Outcome State Fault Refusal :=
  if s.dev.pwr.pwrgd && s.dev.serves key && s.dev.carries a.source then .next (lopWrite true (authReq a key value) rules s) else .next s

/-- Runs a command that is a write of an object without a trailer. -/
def onPlain (source reqId key : Nat) (value : List Byte) (rules : State → Nat × State) (s : State) : Host.Outcome State Fault Refusal :=
  if s.dev.pwr.pwrgd && s.dev.serves key && s.dev.carries source then .next (lopWrite false ⟨source, reqId, 2, key, value, none, 0, none⟩ rules s) else .next s

/-- Rules that only look at and change the device. -/
def devRules (f : Dev → Nat × Dev) (s : State) : Nat × State :=
  let r := f s.dev
  (r.1, { s with dev := r.2 })

/-! ### Stored configuration (R365, R367) -/

/-- The complete record with the highest SEQ (R366). -/
def Flash.complete (fl : Flash) : Option CfgRecord :=
  match fl.newest with
  | some r => if r.complete then some r else fl.older.filter (·.complete)
  | none => none

/-- The record in force: that one, where its CHECK passes and its VERSION is known; none where the defaults loaded (R366). -/
def Flash.loaded (fl : Flash) : Option CfgRecord := fl.complete.filter fun r => r.checkOk && r.version == 1

/-- Does an entry name a stored object with a valid value (R366)? -/
def cfgEntryOk (e : Nat × List Byte) : Bool :=
  match objRow e.1 with
  | some o => o.stored && o.valueOk e.2
  | none => false

/-- The entries of the record in force that count; a new record takes them over. -/
def Flash.storedEntries (fl : Flash) : Table (List Byte) :=
  match fl.loaded with
  | some r => r.entries.filter cfgEntryOk
  | none => []

/-- The configured value of a stored object. -/
def Flash.configured (fl : Flash) (key : Nat) : List Byte := Table.get objDefault fl.storedEntries key

/-- Lays a record: it becomes the newest; a failing record is replaced, any other newest becomes the older. -/
def Flash.lay (fl : Flash) (entries : Table (List Byte)) : Flash :=
  match fl.newest with
  | some r =>
    let good := r.complete && r.checkOk && r.version == 1
    { fl with newest := some ⟨(r.seq + 1) % 2 ^ 32, 1, true, true, entries⟩, older := if good then some r else fl.older }
  | none => { fl with newest := some ⟨1, 1, true, true, entries⟩ }

/-- SEQ of the newest record. -/
def Flash.seq (fl : Flash) : Nat := (fl.newest.map CfgRecord.seq).getD 0

/-- Commits a new record with one object's value changed (R367). -/
def State.store (s : State) (key : Nat) (value : List Byte) : State :=
  let fl := s.flash.lay (Table.ins s.flash.storedEntries key value)
  { s with flash := fl, dev := s.dev.setObj 0x110203 (leBytes 4 fl.seq) }

/-- Step 9 for a stored object: FLASH_WP#, the value's type and range, the object's own rules, then the new record (R20, R348, R349,
R367). -/
def storedRules (key : Nat) (value : List Byte) (rule : State → Nat × State) (s : State) : Nat × State :=
  match objRow key with
  | none => (stBounds, s)
  | some o =>
    if s.dev.pwr.flashWp then (stPerm, s)
    else if !o.valueOk value then (stBounds, s)
    else
      let r := rule s
      if r.1 = stOk then (stOk, r.2.store key value) else r

end Sys2Proof.Machine
end

