-- ==== Sys2Proof/Machine/Tiers.lean ====
section
/-! DEFINITION. The memory tiers: regulators, the patrol scrubber, thermal steps, planned channel sequences, unplanned retrains,
repairs (chapter 10). -/

namespace Sys2Proof.Machine

open Sys2Proof

/-! ### Regulators (R205, R206, R345, R346) -/

/-- MEM_BWR: refused where MIN > MAX, where MAX is 0 or past 64, and where the minimums would exceed 64 in all. -/
def Dev.bwrWrite (d : Dev) (p v : Nat) : Dev :=
  let lo := bits v 6 0
  let hi := bits v 14 8
  let others := ((List.range 8).filter (· != p)).foldl (fun s q => s + d.get (F.MEM_BWR_MIN q)) 0
  if hi < lo ∨ hi = 0 ∨ 64 < hi ∨ 64 < others + lo then d.refuse (F.MEM_BWR_MAX p).off v
  else d.puts [(F.MEM_BWR_MAX p, hi), (F.MEM_BWR_MIN p, lo)]

/-- MEM_BWR_WRITE. -/
def execMemBwrWrite (p : Fin 8) (value : Word) (s : State) : Host.Outcome State Fault Refusal :=
  onDev (fun d => d.bwrWrite p value.toNat) s

/-- The bytes of one sixty-fourth of nominal in a window: an HBM channel below 384, a Ring Road channel above. -/
def windowUnit (channel : Nat) : Nat := if channel < 384 then 1024 else 1966

/-- TICKREF cycles in a millisecond (100 MHz, R373). -/
def cyclesPerMs : Nat := 100000

/-- The key of a partition and channel in the report tables. -/
def gbKey (p channel : Nat) : Nat := p * 512 + channel

/-- Raises the report of a partition and channel when one is due (R346). -/
def Dev.gbReport (d : Dev) (p channel : Nat) : Dev :=
  let k := gbKey p channel
  let acc := Table.get (fun _ => (0, 0)) d.tier.gbAcc k
  let last := Table.get (fun _ => 0) d.tier.lastGb k
  if acc.1 = 0 || (last != 0 && d.time + 1 < last + cyclesPerMs * d.objNat 0x2D0008) then d
  else
    let d := d.raise evArbitration stGuarantee p [p, channel, acc.1, acc.2]
    { d with tier := { d.tier with gbAcc := Table.del d.tier.gbAcc k, lastGb := Table.set (fun _ => 0) d.tier.lastGb k (d.time + 1) } }

/-- A short window of a partition on a channel (R345, R346). -/
def Dev.shortWindow (d : Dev) (p channel short : Nat) : Dev :=
  let d := d.bump (F.MEM_BWS_SHORT p) 1
  let d := (d.bump (F.ARB_GB_WINDOWS p) 1).bump (F.ARB_GB_SHORT p) short
  let d := d.puts [(F.ARB_GBLAST_PART, p), (F.ARB_GBLAST_CHANNEL, channel), (F.ARB_GBLAST_SHORT, short)]
  let acc := Table.get (fun _ => (0, 0)) d.tier.gbAcc (gbKey p channel)
  { d with tier := { d.tier with gbAcc := Table.set (fun _ => (0, 0)) d.tier.gbAcc (gbKey p channel) (acc.1 + 1, acc.2 + short) } }

/-- One partition's window on a channel. -/
def Dev.windowOf (d : Dev) (channel p : Nat) (u : WindowUse) : Dev :=
  let unit := windowUnit channel
  let lo := d.get (F.MEM_BWR_MIN p) * unit
  let d := if d.get (F.MEM_BWR_MAX p) * unit ≤ u.bytes then d.bump (F.MEM_BWS_CAPPED p) 1 else d
  let d := if u.raised && u.bytes < lo then d.shortWindow p channel (lo - u.bytes) else d
  d.gbReport p channel

/-- REGULATOR_WINDOW: the windows of the active partitions on one channel; the next window starts from nothing. -/
def Dev.regulatorWindow (d : Dev) (channel : Nat) (use : List WindowUse) : Dev :=
  ((use.take 8).zipIdx).foldl (fun d r => if d.on (F.ARB_PART_ACTIVE r.2) then d.windowOf channel r.2 r.1 else d) d

/-- REGULATOR_WINDOW. -/
def execRegulatorWindow (channel : Fin 392) (use : List WindowUse) (s : State) : Host.Outcome State Fault Refusal :=
  onDev (fun d => d.regulatorWindow channel use) s

/-! ### Patrol scrubber (R204) -/

/-- Is a byte in an allocated Kept frame of HBM? -/
def Dev.keptAt (d : Dev) (pa : Nat) : Bool :=
  match d.frameAt pa with
  | some f => !f.scratch && pa < hbmTop
  | none => false

/-- A patrol pass: the corrected words of Kept frames are rewritten and counted on their channels, the uncorrectable ones logged and
left (R201, R204). A pass does nothing while 0x2700.02 is 0. -/
def Dev.patrol (d : Dev) (corrected uncorrectable : List Nat) : Dev :=
  if d.objNat 0x270002 = 0 then d
  else
    let d := (corrected.filter d.keptAt).foldl (fun d pa => d.bump (F.MEM_CHAN_CORR (d.servingChannel pa)) 1) d
    (uncorrectable.filter d.keptAt).foldl (fun d pa => (d.markBad pa).logUncorrectable (pa / 64 * 64)) d

/-- PATROL_SCRUB. -/
def execPatrolScrub (corrected uncorrectable : List Nat) (s : State) : Host.Outcome State Fault Refusal :=
  onDev (fun d => d.patrol corrected uncorrectable) s

/-! ### Stack thermal steps (R207) -/

/-- HOT_STACKS: stacks at step 2 or 3 on the worst die (R61). -/
def Dev.countHot (d : Dev) : Dev :=
  d.put F.SCH_TRC_HOT_STACKS ((List.range 4).foldl (fun m n =>
    max m ((natRange (3 * n) 3).countP fun s => 2 ≤ d.get (F.MEM_STACK_STEP s))) 0)

/-- The step after a temperature, in sixteenths of a degree: one up or one down at most. -/
def nextThermal (step : Nat) (t : Int) : Nat :=
  let enter (s : Nat) : Int := 16 * (75 + 10 * s)
  let leave (s : Nat) : Int := 16 * (72 + 10 * s)
  if step < 3 && enter (step + 1) ≤ t then step + 1 else if step ≠ 0 && t < leave step then step - 1 else step

/-- STACK_THERMAL_STEP. Entering step 2 is an unplanned change; step 3 asserts THERMAL, which clears under R377 only. -/
def Dev.stackStep (d : Dev) (st : Nat) (t : Int) : Dev :=
  let old := d.get (F.MEM_STACK_STEP st)
  let new := nextThermal old t
  let d := d.put (F.MEM_STACK_TEMP st) (twos 16 t)
  if new = old then d
  else
    let d := ((d.put (F.MEM_STACK_STEP st) new).countHot).raise evMemory stOk st [st, new]
    let d := if old = 1 ∧ new = 2 then d.classEvent else d
    if new = 3 then d.assertHold hcThermal else d

/-- STACK_THERMAL_STEP. -/
def execStackThermalStep (stack : Fin 12) (temp16 : Int) (s : State) : Host.Outcome State Fault Refusal :=
  onDev (fun d => d.stackStep stack temp16) s

/-! ### Channel states (R61, R211) -/

/-- CHAN_OUT: channels redirected, under repair, retraining or failed, on the worst die. -/
def Dev.chanOut (d : Dev) (asked : Bool) : Nat :=
  (List.range 4).foldl (fun m n =>
    max m ((natRange (96 * n) 96).countP fun c => d.chan c != csIdle && (asked || d.chan c != csRequested))) 0

/-- Writes a channel's state; CHAN_OUT and the free counts follow. -/
def Dev.setChan (d : Dev) (c st : Nat) : Dev :=
  let old := d.chan c
  let d := d.put (F.MEM_CHAN_STATE c) st
  let d := d.put F.SCH_TRC_CHAN_OUT (d.chanOut false)
  if old = csFailed ∨ st = csFailed then d.countFree else d

/-- The state in which CHAN_OUT counts every channel that is not IDLE (R209 step 1). -/
def Dev.trcAsked (d : Dev) : Nat := d.trc - d.get F.SCH_TRC_CHAN_OUT * 2 ^ 16 + d.chanOut true % 256 * 2 ^ 16

/-- The state a channel had before it retrained, or has. -/
def Dev.chanBefore (d : Dev) (c : Nat) : Nat := if d.chan c = csRetraining then Table.get (fun _ => 0) d.tier.before c else d.chan c

/-- The local number of a channel in its stack. -/
def localChan (c : Nat) : Nat := c % 32

/-- Does a sequence's copy pause: a channel of its stack retrains, or the stack is at step 3 (R213)? -/
def Dev.copyPaused (d : Dev) (c : Nat) : Bool :=
  d.get (F.MEM_STACK_STEP (c / 32)) == 3 || (natRange (c / 32 * 32) 32).any fun x => d.chan x == csRetraining

/-! ### Planned sequences (R208 to R212) -/

/-- Operations of MEM_CREQ; a release has none. -/
def crRelease : Nat := 0
def crRetrain : Nat := 1
def crRepair : Nat := 2
def crSpare : Nat := 3

/-- MEM_CREQ.STATUS codes. -/
def cqBusy : Nat := 1
def cqDone : Nat := 2
def cqRefused : Nat := 3
def cqFailed : Nat := 4

/-- The sequence on a channel. -/
def Dev.seqOn (d : Dev) (c : Nat) : Option ChanSeq := d.tier.seqs.find? fun q => q.channel == c

/-- Changes it. -/
def Dev.mapSeq (d : Dev) (c : Nat) (f : ChanSeq → ChanSeq) : Dev :=
  { d with tier := { d.tier with seqs := d.tier.seqs.map fun q => if q.channel = c then f q else q } }

/-- The memory event of a sequence: channel, OP, STATUS, REASON (R209). -/
def Dev.seqEvent (d : Dev) (c op status reason : Nat) : Dev := d.raise evMemory stOk c [c, op, status, reason]

/-- The REASON for which a request is refused, in the order of R209; 0 none. -/
def Dev.creqReason (d : Dev) (c : Nat) : Nat :=
  if 392 ≤ c then 5
  else if 384 ≤ c then 4
  else if d.chan c ≠ csIdle then 2
  else if d.get (F.MEM_STACK_STEP (c / 32)) = 3 then 3
  else if d.tier.committed.any (fun x => x / 32 == c / 32) then 1
  else 0

/-- A request whose classes do not cover the resulting state is reported once (R62, R412). -/
def Dev.seqDefer (d : Dev) (c : Nat) : Dev :=
  match d.seqOn c with
  | some q =>
    if q.deferred || (d.uncovered d.trcAsked).isEmpty then d
    else (d.mapSeq c fun q => { q with deferred := true }).deferEvent 1 c d.trcAsked
  | none => d

/-- MEM_CREQ with GO (R209 step 1). -/
def Dev.creq (d : Dev) (op c : Nat) : Dev :=
  if d.get F.MEM_CREQ_STATUS = cqBusy || !d.has ftChanRepair then d.refuse F.MEM_CREQ_GO.off (c * 2 ^ 16 + op * 2 + 1)
  else
    let d := d.puts [(F.MEM_CREQ_CHANNEL, c), (F.MEM_CREQ_OP, op)]
    let r := d.creqReason c
    if r ≠ 0 then (d.puts [(F.MEM_CREQ_STATUS, cqRefused), (F.MEM_CREQ_REASON, r)]).seqEvent c op cqRefused r
    else
      let d := d.puts [(F.MEM_CREQ_STATUS, cqBusy), (F.MEM_CREQ_REASON, 0)]
      let d := { d with tier := { d.tier with seqs := d.tier.seqs ++ [(⟨c / 32, c, op, false, false⟩ : ChanSeq)] } }
      (d.setChan c csRequested).seqDefer c

/-- RETRAIN. -/
def execRetrain (channel : Fin 512) (s : State) : Host.Outcome State Fault Refusal :=
  onDev (fun d => d.creq crRetrain channel) s

/-- REPAIR. -/
def execRepair (channel : Fin 512) (s : State) : Host.Outcome State Fault Refusal :=
  onDev (fun d => d.creq crRepair channel) s

/-- SPARE. -/
def execSpare (channel : Fin 512) (s : State) : Host.Outcome State Fault Refusal :=
  onDev (fun d => d.creq crSpare channel) s

/-- The requested sequence at the head of a stack starts to mirror once the reserve is free and the classes cover (R209). -/
def Dev.seqStart (d : Dev) (st : Nat) : Dev :=
  match d.tier.seqs.find? fun q => q.stack == st && d.chan q.channel == csRequested with
  | none => d
  | some q =>
    if d.get (F.MEM_STACK_RESERVE st) ≠ 0xFF then d
    else if !(d.uncovered d.trcAsked).isEmpty then d.seqDefer q.channel
    else ((d.put (F.MEM_STACK_RESERVE st) (localChan q.channel)).setChan q.channel csMirroring).seqEvent q.channel q.op cqBusy 0

/-- CHANNEL_SEQUENCE_START. -/
def execChannelSequenceStart (stack : Fin 12) (s : State) : Host.Outcome State Fault Refusal :=
  onDev (fun d => d.seqStart stack) s

/-- A switch of a channel became ready: REPAIR is asserted where R210 asks for it. -/
def Dev.switchReady (d : Dev) (c : Nat) : Dev :=
  if d.switchHolds then (d.mapSeq c fun q => { q with repairAsserted := true }).assertHold hcRepair else d

/-- The words of a channel that a copy carries over with their errors: one RAS event each (R212). -/
def Dev.copyErrors (d : Dev) (c : Nat) : Dev :=
  (d.tier.badWords.filter fun w => 64 * w < hbmTop && d.hbmChannel (64 * w) == c && (d.frameAt (64 * w)).isSome).foldl
    (fun d w => d.raise evRas stUncorrectable c [64 * w]) d

/-- Mirroring ends (R209 step 2). -/
def Dev.mirrorDone (d : Dev) (c : Nat) : Dev :=
  if d.chan c ≠ csMirroring || d.copyPaused c then d
  else ((d.copyErrors c).setChan c csRedirectWait).switchReady c

/-- MIRROR_DONE. -/
def execMirrorDone (channel : Fin 384) (s : State) : Host.Outcome State Fault Refusal :=
  onDev (fun d => d.mirrorDone channel) s

/-- A sequence ends with a status (R209, R214). -/
def Dev.seqEnd (d : Dev) (c status : Nat) : Dev :=
  match d.seqOn c with
  | none => d
  | some q =>
    let d := { d with tier := { d.tier with seqs := d.tier.seqs.filter fun x => x.channel != c } }
    let d := if q.op ≠ crRelease then d.put F.MEM_CREQ_STATUS status else d
    (d.seqEvent c q.op status 0).repairRelease

/-- The map is switched: the sequence no longer holds REPAIR. -/
def Dev.switched (d : Dev) (c : Nat) : Dev := (d.mapSeq c fun q => { q with repairAsserted := false }).repairRelease

/-- The redirect (R209 step 3, R210); SPARE keeps it and ends at once. -/
def Dev.redirectSwitch (d : Dev) (c : Nat) : Dev :=
  match d.seqOn c with
  | none => d
  | some q =>
    if d.chan c ≠ csRedirectWait || !d.switchPoint then d
    else if q.op = crSpare then ((d.setChan c csSpared).switched c).seqEnd c cqDone
    else (d.setChan c csWorking).switched c

/-- REDIRECT_SWITCH. -/
def execRedirectSwitch (channel : Fin 384) (s : State) : Host.Outcome State Fault Refusal :=
  onDev (fun d => d.redirectSwitch channel) s

/-- The channel that a soft repair record names: its stack and pseudo-channel (R189, chapter 10). -/
def recordChannel (r : List Byte) : Nat := 32 * (r.getD 1 0#8).toNat + (r.getD 2 0#8).toNat / 2

/-- The work of a sequence ends (R209 step 4): a repair has applied its channel's records; training that fails leaves the channel
SPARED with a RAS event. -/
def Dev.workDone (d : Dev) (c : Nat) (trained : Bool) : Dev :=
  match d.seqOn c with
  | none => d
  | some q =>
    if d.chan c ≠ csWorking then d
    else
      let mine := if q.op = crRepair then d.tier.softRepairs.filter (fun r => recordChannel r == c) else []
      let d := { d with tier := { d.tier with applied := d.tier.applied ++ mine,
                                              softRepairs := d.tier.softRepairs.filter fun r => !mine.contains r } }
      let d := d.bump (F.MEM_CHAN_RETRAINS c) 1
      if trained then d.setChan c csRestoring
      else ((d.setChan c csSpared).raise evRas stOk c [c, csSpared]).seqEnd c cqDone

/-- CHANNEL_WORK_DONE. -/
def execChannelWorkDone (channel : Fin 384) (trained : Bool) (s : State) : Host.Outcome State Fault Refusal :=
  onDev (fun d => d.workDone channel trained) s

/-- The copy back ends (R209 step 5). -/
def Dev.restoreDone (d : Dev) (c : Nat) : Dev :=
  if d.chan c ≠ csRestoring || d.copyPaused c then d
  else ((d.copyErrors c).setChan c csRestoreWait).switchReady c

/-- RESTORE_DONE. -/
def execRestoreDone (channel : Fin 384) (s : State) : Host.Outcome State Fault Refusal :=
  onDev (fun d => d.restoreDone channel) s

/-- The map switches back and the channel is IDLE (R209 step 6). -/
def Dev.restoreSwitch (d : Dev) (c : Nat) : Dev :=
  if d.chan c ≠ csRestoreWait || !d.switchPoint then d
  else (((d.setChan c csIdle).put (F.MEM_STACK_RESERVE (c / 32)) 0xFF).switched c).seqEnd c cqDone

/-- RESTORE_SWITCH. -/
def execRestoreSwitch (channel : Fin 384) (s : State) : Host.Outcome State Fault Refusal :=
  onDev (fun d => d.restoreSwitch channel) s

/-! ### Unplanned retrains (R213, R214) -/

/-- Does any channel of the device retrain? -/
def Dev.anyRetraining (d : Dev) : Bool :=
  (List.range 384).any (fun c => d.chan c == csRetraining) || (List.range 8).any fun r => d.get (F.MEM_RR_STATE r) == csRetraining

/-- RETRAIN clears when no channel retrains. -/
def Dev.retrainRelease (d : Dev) : Dev := if d.anyRetraining then d else d.clearHold hcRetrain

/-- A drift report; a channel that retrains already or has failed is left alone. -/
def Dev.drift (d : Dev) (c : Nat) : Dev :=
  if c < 384 then
    let st := d.chan c
    if st = csRetraining ∨ st = csFailed then d
    else
      let d := { d with tier := { d.tier with before := Table.set (fun _ => 0) d.tier.before c st } }
      (((d.setChan c csRetraining).bump (F.MEM_CHAN_RETRAINS c) 1).assertHold hcRetrain).classEvent
  else
    let r := c - 384
    let st := d.get (F.MEM_RR_STATE r)
    if st = csRetraining ∨ st = csFailed then d
    else (((d.put (F.MEM_RR_STATE r) csRetraining).bump (F.MEM_RR_RETRAINS r) 1).assertHold hcRetrain).classEvent

/-- CHANNEL_DRIFT. -/
def execChannelDrift (channel : Fin 392) (s : State) : Host.Outcome State Fault Refusal :=
  onDev (fun d => d.drift channel) s

/-- Forgets the state before a retrain. -/
def Dev.dropBefore (d : Dev) (c : Nat) : Dev := { d with tier := { d.tier with before := Table.del d.tier.before c } }

/-- A retrain ends in time: the channel is what it was. -/
def Dev.retrainEnd (d : Dev) (c : Nat) : Dev :=
  if c < 384 then
    if d.chan c ≠ csRetraining then d else ((d.setChan c (d.chanBefore c)).dropBefore c).retrainRelease
  else if d.get (F.MEM_RR_STATE (c - 384)) ≠ csRetraining then d
  else (d.put (F.MEM_RR_STATE (c - 384)) csIdle).retrainRelease

/-- UNPLANNED_RETRAIN_END. -/
def execUnplannedRetrainEnd (channel : Fin 392) (s : State) : Host.Outcome State Fault Refusal :=
  onDev (fun d => d.retrainEnd channel) s

/-- The home slice drops the lines of a failed channel and counts them (R214). -/
def Dev.dropLines (d : Dev) (c : Nat) : Dev :=
  let mine (r : Nat × Option PLine) : Bool := match r.2 with
    | some x => d.hbmChannel (128 * x.line) == c
    | none => false
  let n := d.plz.ways.countP mine
  let d := { d with plz := { d.plz with ways := d.plz.ways.filter fun r => !mine r } }
  d.bump (F.MEM_STACK_UNCORR (c / 32)) n

/-- A retrain that runs past 50 µs (R214): FAILED where the channel serves its data, SPARED where partner slots do. -/
def Dev.retrainFail (d : Dev) (c : Nat) : Dev :=
  if c < 384 then
    if d.chan c ≠ csRetraining then d
    else
      let b := d.chanBefore c
      if csWorking ≤ b then
        (((d.setChan c csSpared).dropBefore c).raise evRas stOk c [c, csSpared]).retrainRelease.seqEnd c cqDone
      else
        ((((d.setChan c csFailed).dropBefore c).dropLines c).raise evRas stOk c [c, csFailed]).retrainRelease.seqEnd c cqFailed
  else if d.get (F.MEM_RR_STATE (c - 384)) ≠ csRetraining then d
  else ((d.put (F.MEM_RR_STATE (c - 384)) csFailed).raise evRas stOk c [c, csFailed]).retrainRelease

/-- UNPLANNED_RETRAIN_TIMEOUT. -/
def execUnplannedRetrainTimeout (channel : Fin 392) (s : State) : Host.Outcome State Fault Refusal :=
  onDev (fun d => d.retrainFail channel) s

/-! ### Repairs (R215, R216) -/

/-- What remains of the kind of spare a record asks for, by object 0x2700.04, less the records already made: rows in bits 3:0, column
groups in bits 7:4. -/
def Dev.sparesLeft (d : Dev) (fl : Flash) (rec : List Byte) : Nat :=
  let kind := (rec.getD 0 0#8).toNat
  let place := (rec.drop 1).take 2
  let b := (Config.sparesRemaining (64 * (rec.getD 1 0#8).toNat + (rec.getD 2 0#8).toNat)).toNat
  let had := if kind = 1 then b % 16 else b / 16
  let used := (d.tier.softRepairs ++ d.tier.applied ++ fl.repairs).countP fun r => (r.getD 0 0#8).toNat == kind && (r.drop 1).take 2 == place
  had - used

/-- Object 0x2700.05 adds one soft repair record (R215). -/
def Dev.repairRecord (fl : Flash) (rec : List Byte) (d : Dev) : Nat × Dev :=
  let kind := (rec.getD 0 0#8).toNat
  if !d.has ftChanRepair then (stFeature, d)
  else if rec.length ≠ 16 then (stBounds, d)
  else if kind = 0 ∨ 2 < kind ∨ (rec.drop 8).any (· != 0#8) then (stFeature, d)
  else if 12 ≤ (rec.getD 1 0#8).toNat ∨ 64 ≤ (rec.getD 2 0#8).toNat ∨ d.sparesLeft fl rec = 0 then (stBounds, d)
  else (stOk, ({ d with tier := { d.tier with softRepairs := d.tier.softRepairs ++ [rec] } } : Dev).setObj 0x270005 rec)

/-- The same as rules of a write. -/
def recordRules (rec : List Byte) (s : State) : Nat × State := devRules (Dev.repairRecord s.flash rec) s

/-- REPAIR_RECORD. -/
def execRepairRecord (source reqId : Nat) (record : List Byte) (s : State) : Host.Outcome State Fault Refusal :=
  onPlain source reqId 0x270005 record (recordRules record) s

/-- Object 0x2700.06: a 1 makes the applied records permanent (R215). -/
def commitRules (v : Bool) (s : State) : Nat × State :=
  if !s.dev.has ftChanRepair then (stFeature, s)
  else if !v then (stOk, s)
  else
    (stOk, { s with flash := { s.flash with repairs := s.flash.repairs ++ s.dev.tier.applied },
                    dev := { s.dev with tier := { s.dev.tier with applied := [] } } })

/-- COMMIT_REPAIRS. -/
def execCommitRepairs (auth : Auth) (value : Bool) (s : State) : Host.Outcome State Fault Refusal :=
  onAuth auth 0x270006 (boolByte value) (commitRules value) s

/-- May channel `c` be committed (R214, R216)? -/
def Dev.mayCommit (d : Dev) (c : Nat) : Bool :=
  let r := d.get (F.MEM_STACK_RESERVE (c / 32))
  (d.chan c == csSpared || d.chan c == csFailed) && (r == 0xFF || r == localChan c) && !d.tier.committed.contains c
    && !(d.chan c == csFailed && d.get (F.MEM_CHAN_LIVE c) != 0)

/-- Object 0x2700.07 with a channel number: the channel becomes its stack's permanent reserve occupant, SPARED, its slots zeroed where
it had failed (R214, R215). -/
def spareCommitRules (c : Nat) (s : State) : Nat × State :=
  let d := s.dev
  if !d.has ftChanRepair then (stFeature, s)
  else if !d.mayCommit c then (stPerm, s)
  else
    let d := { d with tier := { d.tier with committed := c :: d.tier.committed } }
    let d := (d.put (F.MEM_STACK_RESERVE (c / 32)) (localChan c)).setChan c csSpared
    (stOk, { s with dev := d, flash := { s.flash with spared := c :: s.flash.spared.filter (· != c) } })

/-- CHANNEL_SPARE_COMMIT. -/
def execChannelSpareCommit (auth : Auth) (channel : Fin 384) (s : State) : Host.Outcome State Fault Refusal :=
  onAuth auth 0x270007 (leBytes 2 channel) (spareCommitRules channel) s

/-- Object 0x2700.07 with 0x8000 + a channel number: a committed spare is released, which starts RESTORING (R215). -/
def spareReleaseRules (c : Nat) (s : State) : Nat × State :=
  let d := s.dev
  if !d.has ftChanRepair then (stFeature, s)
  else if !d.tier.committed.contains c || d.chan c != csSpared then (stPerm, s)
  else
    let d := { d with tier := { d.tier with committed := d.tier.committed.filter (· != c),
                                            seqs := d.tier.seqs ++ [(⟨c / 32, c, crRelease, false, false⟩ : ChanSeq)] } }
    (stOk, { s with dev := (d.setChan c csRestoring).seqEvent c crRelease cqBusy 0,
                    flash := { s.flash with spared := s.flash.spared.filter (· != c) } })

/-- CHANNEL_SPARE_RELEASE. -/
def execChannelSpareRelease (auth : Auth) (channel : Fin 384) (s : State) : Host.Outcome State Fault Refusal :=
  onAuth auth 0x270007 (leBytes 2 (0x8000 + channel)) (spareReleaseRules channel) s

end Sys2Proof.Machine
end

