-- ==== Sys2Proof/Machine/Arb.lean ====
section
/-! DEFINITION. Arbiters (R334 to R340), partitions (R341 to R344, R347), and the cluster map's retirement and commitment (R99,
R100). -/

namespace Sys2Proof.Machine

open Sys2Proof

/-! ### Arbiters -/

/-- The key of a requester of an arbiter. -/
def arbKey (a inst requester : Nat) : Nat := (a * 1024 + inst % 1024) * 1024 + requester % 1024

/-- Classes 2 to 5 are small arbiters, 0 and 1 large. -/
def arbSmall (a : Nat) : Bool := 2 ≤ a

/-- The class of SCHED requests. -/
def clsSched : Nat := 5
/-- The class of P3 requests. -/
def clsP3 : Nat := 4

/-- The key of a partition's P3 grants in the current window of an arbiter; index 8 keeps the quota of the window, plus one. -/
def p3Key (a inst i : Nat) : Nat := arbKey a inst i

/-- A table of numbers that reads 0 where nothing is listed. -/
def countAt (t : Table Nat) (k : Nat) : Nat := Table.get (fun _ => 0) t k

/-- Writes it. -/
def setCount (t : Table Nat) (k v : Nat) : Table Nat := Table.set (fun _ => 0) t k v

/-- The P3 quota of the current window: the one its start took from ARB_CFG, before the first window start the one loaded at reset
(R338); 0 acts as 1. -/
def Dev.p3Quota (d : Dev) (a inst : Nat) : Nat :=
  max 1 (match countAt d.arb.p3 (p3Key a inst 8) with
    | 0 => d.inForceNat (0x2D0002 + a)
    | n + 1 => n)

/-- The P3 grants of a partition in the current window. -/
def Dev.p3Used (d : Dev) (a inst p : Nat) : Nat := countAt d.arb.p3 (p3Key a inst p)

/-- Does a partition stand below its minimum on an HBM channel's arbiter (R205)? -/
def Dev.belowMin (d : Dev) (a inst : Nat) (r : ArbReq) : Bool :=
  a == 0 && r.cls.val != 0 && r.served < d.get (F.MEM_BWR_MIN r.part) * windowUnit inst

/-- Is a partition at its ceiling on an HBM channel's arbiter (R205)? -/
def Dev.atCeiling (d : Dev) (a inst : Nat) (r : ArbReq) : Bool :=
  a == 0 && r.cls.val != 0 && d.get (F.MEM_BWR_MAX r.part) * windowUnit inst ≤ r.served

/-- Is a request masked: P3 at its quota (R338), its partition at its ceiling (R205), its requester backing off (R339)? -/
def Dev.arbMasked (d : Dev) (a inst : Nat) (r : ArbReq) : Bool :=
  (r.cls.val == clsP3 && d.p3Quota a inst ≤ d.p3Used a inst r.part) || d.atCeiling a inst r
    || (arbSmall a && r.cls.val != clsSched && d.arb.backing.contains (arbKey a inst r.requester))

/-- The rank of a request (R336), 1 the highest. -/
def Dev.arbRank (d : Dev) (a inst : Nat) (r : ArbReq) : Nat :=
  if r.cls.val = clsSched then 1
  else if arbSmall a then 6 - r.cls.val
  else if d.belowMin a inst r then 2
  else if r.cls.val = clsP3 then 3
  else if r.cls.val = 0 then 5
  else 4

/-- The order of a request before round-robin: its rank, then the precedence number of its partition at rank 1 and at rank 2 of a large
arbiter, there P3 before the other classes (R336). -/
def Dev.arbOrder (d : Dev) (a inst : Nat) (r : ArbReq) : Nat :=
  let k := d.arbRank a inst r
  let prec := d.get (F.ARB_PART_PREC r.part)
  k * 16 + (if k = 1 then prec else if k = 2 ∧ !arbSmall a then prec * 2 + b2n (r.cls.val != clsP3) else 0)

/-- The place of a requester in the round that starts after the last one granted. -/
def Dev.arbTurn (d : Dev) (a inst : Nat) (r : ArbReq) : Nat :=
  (r.requester % 1024 + 1024 - countAt d.arb.last (arbKey a inst 0)) % 1024

/-- Does request `x` go before `y`? -/
def Dev.arbBefore (d : Dev) (a inst : Nat) (x y : ArbReq) : Bool :=
  d.arbOrder a inst x < d.arbOrder a inst y
    || (d.arbOrder a inst x == d.arbOrder a inst y && d.arbTurn a inst x < d.arbTurn a inst y)

/-- The request an arbiter picks. -/
def Dev.arbPick (d : Dev) (a inst : Nat) (l : List ArbReq) : Option ArbReq :=
  l.foldl (fun b r => match b with
    | none => some r
    | some x => if d.arbBefore a inst r x then some r else some x) none

/-- May a request take the grant that another holds (R337)? -/
def Dev.arbPreempts (d : Dev) (a inst : Nat) (r held : ArbReq) : Bool :=
  held.cls.val != clsSched && d.arbRank a inst r < d.arbRank a inst held && (r.cls.val == clsSched || r.cls.val == clsP3)

/-- The cycles a requester backs off after its losses (R339). -/
def backoffCycles (losses : Nat) : Nat := if losses = 0 then 0 else min 4096 (16 * 2 ^ (losses - 1))

/-- A request loses at a small arbiter: it backs off; SCHED never does (R339). A loss at a large one leaves no trace (R340). -/
def Dev.arbLose (a inst : Nat) (d : Dev) (r : ArbReq) : Dev :=
  let k := arbKey a inst r.requester
  if !arbSmall a || r.cls.val == clsSched || d.arb.backing.contains k then d
  else { d with arb := { d.arb with losses := setCount d.arb.losses k (countAt d.arb.losses k + 1), backing := k :: d.arb.backing } }

/-- A P3 grant counts against its partition's quota; reaching it counts in ARB_STAT.MASKED (R338). -/
def Dev.p3Grant (a inst : Nat) (d : Dev) (r : ArbReq) : Dev :=
  if r.cls.val ≠ clsP3 then d
  else
    let n := d.p3Used a inst r.part + 1
    let q := d.p3Quota a inst
    let d := { d with arb := { d.arb with p3 := setCount d.arb.p3 (p3Key a inst r.part) n } }
    if n = q then d.bump (F.ARB_STAT_MASKED a) 1 else d

/-- A request is granted: its backoff count returns to the first, the round goes on after it. -/
def Dev.arbGive (a inst : Nat) (d : Dev) (r : ArbReq) : Dev :=
  let k := arbKey a inst r.requester
  let d := { d with arb := { d.arb with losses := setCount d.arb.losses k 0,
                                        last := setCount d.arb.last (arbKey a inst 0) (r.requester % 1024 + 1) } }
  (d.p3Grant a inst r).emit (.grant a inst r.requester)

/-- ARBITER_GRANT: a free grant goes to the pick of the ready requests; a grant that is held goes to it only by preemption, which
restarts the transfer that held it (R336, R337). -/
def Dev.arbGrant (d : Dev) (a inst : Nat) (held : Option ArbReq) (ready : List ArbReq) : Dev :=
  let open' := ready.filter fun r => !d.arbMasked a inst r
  match d.arbPick a inst open', held with
  | none, _ => d
  | some r, none => ((open'.filter (· != r)).foldl (Dev.arbLose a inst) d).arbGive a inst r
  | some r, some h =>
    if d.arbPreempts a inst r h then
      let d := (d.bump (F.ARB_STAT_PREEMPT a) 1).arbLose a inst h
      ((open'.filter (· != r)).foldl (Dev.arbLose a inst) d).arbGive a inst r
    else d

/-- ARBITER_GRANT. -/
def execArbiterGrant (a : Fin 6) (inst : Nat) (held : Option ArbReq) (ready : List ArbReq) (s : State) : Host.Outcome State Fault Refusal :=
  onDev (fun d => d.arbGrant a inst held ready) s

/-- BACKOFF_EXPIRY: the requester raises its request again (R339). -/
def Dev.backoffEnd (d : Dev) (a inst requester : Nat) : Dev :=
  { d with arb := { d.arb with backing := d.arb.backing.filter (· != arbKey a inst requester) } }

/-- BACKOFF_EXPIRY. -/
def execBackoffExpiry (a : Fin 6) (inst : Nat) (requester : Nat) (s : State) : Host.Outcome State Fault Refusal :=
  onDev (fun d => d.backoffEnd a inst requester) s

/-- A window ends: the counts return to zero, and the next window takes the quota that ARB_CFG holds (R338). -/
def Dev.p3Window (d : Dev) (a inst : Nat) : Dev :=
  let p3 := (List.range 8).foldl (fun t p => setCount t (p3Key a inst p) 0) d.arb.p3
  { d with arb := { d.arb with p3 := setCount p3 (p3Key a inst 8) (d.get (F.ARB_CFG_P3_QUOTA a) + 1) } }

/-- P3_QUOTA_WINDOW. -/
def execP3QuotaWindow (a : Fin 6) (inst : Nat) (s : State) : Host.Outcome State Fault Refusal :=
  onDev (fun d => d.p3Window a inst) s

/-! ### Partitions -/

/-- The fields of a partition record. -/
def partFields (p rec : Nat) : List (Fld × Nat) :=
  [(F.ARB_PART_ACTIVE p, bits rec 63 63), (F.ARB_PART_MODE p, bits rec 62 62), (F.ARB_PART_PREC p, bits rec 61 59),
   (F.ARB_PART_PRIO p, bits rec 58 57), (F.ARB_PART_SQ_MASK p, bits rec 56 55), (F.ARB_PART_CE_MASK p, bits rec 54 39),
   (F.ARB_PART_CLUSTER_COUNT p, bits rec 35 27), (F.ARB_PART_CLUSTER_FIRST p, bits rec 26 18)]

/-- Does a record take something an active partition `q` has (R342 check 4)? -/
def Dev.partClash (d : Dev) (rec q : Nat) : Bool :=
  let n := bits rec 35 27
  let m := d.get (F.ARB_PART_CLUSTER_COUNT q)
  (n != 0 && m != 0 && overlaps (bits rec 26 18) n (d.get (F.ARB_PART_CLUSTER_FIRST q)) m)
    || bits rec 54 39 &&& d.get (F.ARB_PART_CE_MASK q) != 0 || bits rec 56 55 &&& d.get (F.ARB_PART_SQ_MASK q) != 0
    || bits rec 61 59 == d.get (F.ARB_PART_PREC q)

/-- Bytes of an image buffer (R59). -/
def bufferBytes : Nat := 0x4000000

/-- A free image buffer: on the die with the most free ones, else package-wide (DESIGN CHOICE, notes/assumptions/24.md). -/
def Dev.nextBuffer (d : Dev) (p : Nat) : Option Frame :=
  let pa := match d.bestDie bufferBytes with
    | some die => d.firstFree (d.diePool die) bufferBytes
    | none => d.firstFree d.widePool bufferBytes
  pa.map fun pa => ⟨pa, bufferBytes, p, false, true⟩

/-- The two image buffers of a scheduled partition, if they fit its quota and the free frames (R342 check 5). -/
def Dev.buffersFor (d : Dev) (p : Nat) : Option (List Frame) :=
  if d.quotaLeft p < 2 * (bufferBytes / 0x10000) then none
  else
    match d.nextBuffer p with
    | none => none
    | some a =>
      match (d.addFrame a).nextBuffer p with
      | none => none
      | some b => some [a, b]

/-- Creates a partition from its record (R342; R371 in FAILED): the status, and the device. -/
def Dev.partCreate (d : Dev) (p rec : Nat) : Nat × Dev :=
  let mode := bit rec 62
  let make (d : Dev) (buf : List Nat) : Dev := (d.puts (partFields p rec)).setPart p { PartSt.reset with buffers := buf }
  if d.get F.PWR_BOOT_STATE = dsFailed then (stPerm, d)
  else if bits rec 38 36 ≠ 0 ∨ bits rec 17 0 ≠ 0 ∨ (mode ∧ !d.has ftScheduled) then (stFeature, d)
  else if d.on (F.ARB_PART_ACTIVE p) then (stPerm, d)
  else if 384 < bits rec 26 18 + bits rec 35 27 then (stBounds, d)
  else if (List.range 8).any fun q => d.on (F.ARB_PART_ACTIVE q) && d.partClash rec q then (stPerm, d)
  else if !mode then (stOk, make d [])
  else
    match d.buffersFor p with
    | none => (stBounds, d)
    | some l => (stOk, make ((l.foldl Dev.addFrame d).settleFrames l) (l.map Frame.pa))

/-- Nothing of a partition is in use (R343). -/
def Dev.partIdle (d : Dev) (p : Nat) : Bool :=
  (d.part p).running.isNone && (d.part p).staged.isNone && (d.part p).loading.isNone
    && !(d.host.queues.any fun q => match q.2 with
      | some x => x.part == p
      | none => false)
    && !((List.range 64).any fun r => d.on (F.RBT_ROOT_VALID r) && d.get (F.RBT_ROOT_PART r) == p)
    && !(d.tier.frames.any fun f => f.part == p && !f.image)
    && (natRange (d.get (F.ARB_PART_CLUSTER_FIRST p)) (d.get (F.ARB_PART_CLUSTER_COUNT p))).all fun l =>
      match d.physOf l with
      | some c => d.quiescent c
      | none => true

/-- The SCH registers of a partition read as reset while it is not scheduled. -/
def Dev.schClear (d : Dev) (p : Nat) : Dev :=
  d.puts ([F.SCH_SRC_SRC p, F.SCH_SIZE_SIZE p, F.SCH_STOP_VALID p, F.SCH_STOP_PASS p, F.SCH_STATUS_LOAD_STATUS p, F.SCH_STATUS_DETAIL p,
    F.SCH_STATUS_ERR_OFFSET p, F.SCH_STATUS_STAGE p, F.SCH_STATUS_RUN p, F.SCH_PASS_PASS p, F.SCH_PASS_ITICK p, F.SCH_OVR_ENGINE p,
    F.SCH_OVR_DEBUG p, F.SCH_OVR_MORE p, F.SCH_OVR_INDEX p, F.SCH_OVR_SLOT p, F.SCH_OVR_EXCESS p, F.SCH_OVR_TN_TN p].map fun f => (f, 0))

/-- Destroys a partition (R343); the record of an inactive one is only taken over. -/
def Dev.partDestroy (d : Dev) (p rec : Nat) : Nat × Dev :=
  if bits rec 38 36 ≠ 0 ∨ bits rec 17 0 ≠ 0 then (stFeature, d)
  else if !d.on (F.ARB_PART_ACTIVE p) then (stOk, d.puts (partFields p rec))
  else if !d.partIdle p then (stPerm, d)
  else
    let d := d.dropFrames (d.tier.frames.filter fun f => f.part == p && f.image)
    let d := (List.range 4).foldl (fun d die => d.put (F.PLZ_SCR_SIZE die p) 0) d
    let d := d.puts [(F.MEM_BWR_MAX p, 64), (F.MEM_BWR_MIN p, 0)]
    (stOk, ((d.schClear p).puts (partFields p rec)).setPart p PartSt.reset)

/-- The rule of subindex 01 of a partition object. -/
def Dev.partWrite (d : Dev) (p rec : Nat) : Nat × Dev := if bit rec 63 then d.partCreate p rec else d.partDestroy p rec

/-- The rule of subindex 02: an active partition's quota stays at least its frames in use (R342). -/
def Dev.quotaWrite (d : Dev) (p v : Nat) : Nat × Dev :=
  if d.on (F.ARB_PART_ACTIVE p) ∧ v < d.get (F.ARB_FQ_USED p) then (stPerm, d) else (stOk, d.put (F.ARB_FQ_QUOTA p) v)

/-- The object of a partition's record. -/
def partKey (p : Nat) : Nat := 0x2D0101 + 0x100 * p

/-- A write of a partition record with ACTIVE = 1. -/
def execPartitionCreate (auth : Auth) (p : Fin 8) (record : Word) (s : State) : Host.Outcome State Fault Refusal :=
  onAuth auth (partKey p) (leBytes 8 record.toNat) (storedRules (partKey p) (leBytes 8 record.toNat) (devRules fun d => d.partWrite p record.toNat)) s

/-- A write of a partition record with ACTIVE = 0. -/
def execPartitionDestroy (auth : Auth) (p : Fin 8) (record : Word) (s : State) : Host.Outcome State Fault Refusal :=
  onAuth auth (partKey p) (leBytes 8 record.toNat) (storedRules (partKey p) (leBytes 8 record.toNat) (devRules fun d => d.partWrite p record.toNat)) s

/-! ### Retirement and the committed map (R99, R100) -/

/-- Does an image name a logical cluster: a stream of its tensor units, thread groups or movers? -/
def Image.names (im : Image) (l : Nat) : Bool := im.streams.any fun s => 1 ≤ s.engine && s.engine ≤ 3 && s.index == l

/-- Does a running or staged image name a logical cluster? -/
def Dev.imageNames (d : Dev) (l : Nat) : Bool :=
  (List.range 8).any fun p =>
    let x := d.part p
    (match x.running with | some im => im.names l | none => false) || (match x.staged with | some im => im.names l | none => false)

/-- The rule of object 0x2300.07. A number that is not available names no cluster: BOUNDS (DEDUCED, notes/assumptions/24.md). -/
def Dev.retireRule (d : Dev) (l : Nat) : Nat × Dev :=
  let h := d.get F.IDF_ID_CLUSTERS - 1
  if !d.has ftSpares then (stFeature, d)
  else if 384 ≤ l then (stBounds, d)
  else
    match d.physOf l, d.physOf h with
    | some old, some moved =>
      if d.imageNames l || d.imageNames h || !d.quiescent old || !d.quiescent moved then (stPerm, d)
      else
        let d := if l = h then d else d.puts [(F.CLU_LMAP_PHYS l, moved), (F.CLU_ID_LOGICAL moved, l)]
        (stOk, d.puts [(F.CLU_LMAP_VALID h, 0), (F.CLU_ID_STATE old, 3), (F.CLU_ID_LOGICAL old, 0x1FF), (F.IDF_ID_CLUSTERS, h)])
    | _, _ => (stBounds, d)

/-- RETIRE. -/
def execRetire (auth : Auth) (logical : Fin 384) (s : State) : Host.Outcome State Fault Refusal :=
  onAuth auth 0x230007 (leBytes 2 logical) (devRules fun d => d.retireRule logical) s

/-- The map as it stands: the physical cluster of each available logical number, with bit 15 as in CLU_LMAP. -/
def Dev.lmap (d : Dev) : List Nat := (List.range 384).map fun l => d.get (F.CLU_LMAP_PHYS l) + d.get (F.CLU_LMAP_VALID l) * 2 ^ 15

/-- The rule of object 0x2300.08: a 1 commits the map, and the clusters out of use with it. -/
def mapRule (v : Bool) (s : State) : Nat × State :=
  if !v then (stOk, s)
  else
    (stOk, { s with flash := { s.flash with map := some s.dev.lmap, outs := (List.range 400).filter fun c => s.dev.get (F.CLU_ID_STATE c) == 3 } })

/-- COMMIT_MAP. -/
def execCommitMap (auth : Auth) (value : Bool) (s : State) : Host.Outcome State Fault Refusal :=
  onAuth auth 0x230008 (boolByte value) (mapRule value) s

end Sys2Proof.Machine
end

