-- ==== Sys2Proof/Machine/Plaza.lean ====
section
/-! DEFINITION. The Plaza: atomics at a slice, zero-lines, the ways of a set with their replacement, miss registers, parity, the
science-core directory, way power and scratch ranges (chapter 09). PLAZA_REQUEST and FILL_RETURN alone move ways and slice counters;
what any other command does at the Plaza shows in memory (notes/assumptions/18.md). -/

namespace Sys2Proof.Machine

open Sys2Proof

/-! ### Atomics and the directory (R166, R179, R181) -/

/-- One atomic at a physical address as its slice executes it: status, old value. -/
def Dev.atomicAt (d : Dev) (op : AtomOp) (ty : AtomType) (pa a b : Nat) (due : Bool) : Nat × Nat × Dev :=
  let n := atomBytes ty
  if paKind pa = .ring ∨ isHost pa then (stPerm, 0, d)
  else
    match d.readStatus pa n due with
    | (0, d) =>
      (match d.tryWrite pa n with
       | (0, d) =>
         let old := leNat (d.read pa n)
         (stOk, old, d.write pa (leBytes n (atomNew op ty old a b)))
       | (st, d) => (st, 0, d))
    | (st, d) => (st, 0, d)

/-- The directory recalls every science-core copy of a line before a write reaches its slice (R162, R181). -/
def Dev.recallCores (d : Dev) (line : Nat) : Dev := { d with plz := { d.plz with dir := d.plz.dir.filter fun e => e.line != line } }

/-- The set of the directory that holds a line. -/
def dirSetOf (line : Nat) : Nat := Config.dirSet line % 6144

/-- A core's cache takes a line of HBM or Ring Road: its slice makes an entry, recalling the oldest of a full set (R181). -/
def Dev.dirAdd (d : Dev) (pa : Nat) : Dev :=
  let l := lineOf pa
  let s := d.homeSlice pa
  let kept := d.plz.dir
  if (paKind pa != .hbm && paKind pa != .ring) || kept.any (fun e => e.line == l) then d
  else
    let inSet := kept.filter fun e => e.slice == s && dirSetOf e.line == dirSetOf l
    let kept := if 16 ≤ inSet.length then (match inSet with
      | e :: _ => kept.erase e
      | [] => kept) else kept
    { d with plz := { d.plz with dir := kept ++ [(⟨s, l⟩ : DirEntry)] } }

/-! ### Zero-lines (R177, R178) -/

/-- A zero-line joins the line's miss register, or waits behind it while it holds 32 requests (R176). -/
def Mshr.joinZero (pa : Nat) (m : Mshr) : Mshr :=
  if m.line ≠ lineOf pa then m
  else if m.reqs.length < 32 then { m with reqs := m.reqs ++ [(⟨pa, 128, .zero, none⟩ : PReq)] }
  else { m with waiting := m.waiting ++ [(⟨pa, 128, .zero, none⟩ : PReq)] }

/-- A zero-line of a line (R177, R178): it joins the line's miss register if there is one, where it is applied when the fill returns;
else the line becomes zero. A line on a failed channel keeps its bytes (R214). -/
def Dev.zeroLine (d : Dev) (pa : Nat) : Dev :=
  if d.plz.mshrs.any (fun m => m.line == lineOf pa) then
    { d with plz := { d.plz with mshrs := d.plz.mshrs.map (Mshr.joinZero pa) } }
  else d.zeroRange pa 128

/-! ### Ways (R173, R174) -/

/-- Is way group `g` of a die a powered cache group: not scratch, on, and not being switched (R174, R182)? -/
def Dev.groupOn (d : Dev) (die g : Nat) : Bool :=
  g + d.get (F.PLZ_DCFG_SCR_GROUPS die) < 8 && bit (d.get (F.PLZ_WSTAT_PWR_ON die)) g && bit (d.get (F.PLZ_WAYS_POWER die)) g

/-- The key of a way of a set of a slice. -/
def wayKey (slice set w : Nat) : Nat := (slice * 12288 + set) * 16 + w

/-- The line in a way. -/
def Dev.way (d : Dev) (slice set w : Nat) : Option PLine := Table.get (fun _ => none) d.plz.ways (wayKey slice set w)

/-- Writes it. -/
def Dev.setWay (d : Dev) (slice set w : Nat) (x : Option PLine) : Dev :=
  { d with plz := { d.plz with ways := Table.set (fun _ => none) d.plz.ways (wayKey slice set w) x } }

/-- The way that holds a line. -/
def Dev.findWay (d : Dev) (slice line : Nat) : Option Nat :=
  (List.range 16).find? fun w => match d.way slice (plazaSet (128 * line)) w with
    | some x => x.line == line
    | none => false

/-- The replacement tree of a set. -/
def Dev.plzTree (d : Dev) (slice set : Nat) : Nat := Table.get (fun _ => 0) d.plz.trees (slice * 12288 + set)

/-- touch(w) of R174. -/
def Dev.touchWay (d : Dev) (slice set w : Nat) : Dev :=
  { d with plz := { d.plz with trees := Table.set (fun _ => 0) d.plz.trees (slice * 12288 + set) (treeTouch 16 (d.plzTree slice set) w) } }

/-- The way a new line of a set takes: the lowest eligible empty one, else the victim; none while every eligible way waits for a
fill. -/
def Dev.pickWay (d : Dev) (slice set : Nat) : Option Nat :=
  let reserved (w : Nat) : Bool := d.plz.mshrs.any fun m => m.slice == slice && plazaSet (128 * m.line) == set && m.way == w
  let elig (w : Nat) : Bool := d.groupOn (slice / 8) (w / 2) && !reserved w
  match (List.range 16).find? fun w => elig w && (d.way slice set w).isNone with
  | some w => some w
  | none => if (List.range 16).any elig then some (treeVictim 16 (d.plzTree slice set) elig) else none

/-! ### Requests (R172, R175, R176, R180) -/

/-- Answers a request. -/
def Dev.respond (d : Dev) (tag : Option Nat) (status : Nat) (data : List Byte) : Dev :=
  match tag with
  | some t => d.emit (.response t status data)
  | none => d

/-- Does a request write? -/
def plzWrites : PlzKind → Bool
  | .read => false
  | .write _ => true
  | .atomic _ _ _ _ => true
  | .zero => true

/-- Is a request a zero-line? -/
def PReq.isZero (r : PReq) : Bool := r.kind == PlzKind.zero

/-- Applies a request to memory where its slice serves it, and answers. -/
def Dev.plzApply (d : Dev) (r : PReq) : Dev :=
  let line := 128 * lineOf r.pa
  match r.kind with
  | .read =>
    (match d.readStatus r.pa r.len false with
     | (0, d) => d.respond r.tag stOk (d.read r.pa r.len)
     | (st, d) => d.respond r.tag st [])
  | .write data =>
    let (st, d) := d.tryWrite r.pa data.length
    if st ≠ stOk then d.respond r.tag st [] else ((d.recallCores (lineOf r.pa)).write r.pa data).respond r.tag stOk []
  | .atomic op ty a b =>
    (match (d.recallCores (lineOf r.pa)).atomicAt op ty r.pa a b false with
     | (0, old, d) => d.respond r.tag stOk (leBytes (atomBytes ty) old)
     | (st, _, d) => d.respond r.tag st [])
  | .zero =>
    if d.failed line 128 then (d.tryWrite line 128).2.respond r.tag stUncorrectable []
    else ((d.recallCores (lineOf r.pa)).zeroRange line 128).respond r.tag stOk []

/-- The slice counters' indices: die and slice of the die. -/
def Dev.noteUse (d : Dev) (slice : Nat) : Dev :=
  let n := d.plz.mshrs.countP fun m => m.slice == slice
  d.puts [(F.PLZ_MSHR_IN_USE (slice / 8) (slice % 8), n),
    (F.PLZ_MSHR_PEAK (slice / 8) (slice % 8), max n (d.get (F.PLZ_MSHR_PEAK (slice / 8) (slice % 8))))]

/-- A request joins a miss register, or waits behind its 32 (R176). -/
def Mshr.join (r : PReq) (m : Mshr) : Mshr :=
  if m.reqs.length < 32 then { m with reqs := m.reqs ++ [r] } else { m with waiting := m.waiting ++ [r] }

/-- Does a request write all 128 B of its line in one? -/
def PReq.wholeLine (r : PReq) : Bool :=
  match r.kind with
  | .write data => r.pa % 128 == 0 && data.length == 128
  | .zero => true
  | _ => false

/-- A request that waits for a miss register or a way. -/
def Dev.stallReq (d : Dev) (r : PReq) : Dev := { d with plz := { d.plz with stalled := d.plz.stalled ++ [r] } }

/-- A primary miss (R174, R175, R176). -/
def Dev.plzMiss (d : Dev) (slice : Nat) (r : PReq) : Dev :=
  let l := lineOf r.pa
  let set := plazaSet (128 * l)
  match d.pickWay slice set with
  | none => d.stallReq r
  | some w =>
    if r.wholeLine then
      if d.failed (128 * l) 128 then (d.tryWrite (128 * l) 128).2.respond r.tag stUncorrectable []
      else
        let d := d.setWay slice set w (some ⟨l, true⟩)
        let d := if r.isZero then d.touchWay slice set w else d
        d.plzApply r
    else if 256 ≤ d.plz.mshrs.countP (fun m => m.slice == slice) then d.stallReq r
    else
      let d := d.setWay slice set w none
      let d := { d with plz := { d.plz with mshrs := d.plz.mshrs ++ [(⟨slice, l, w, [r], []⟩ : Mshr)] } }
      (d.bump (F.PLZ_MISS_COUNT (slice / 8) (slice % 8)) 1).noteUse slice

/-- A hit: served, counted, touched, and the line is written where the request writes. -/
def Dev.plzHit (d : Dev) (slice w : Nat) (r : PReq) : Dev :=
  let set := plazaSet (128 * lineOf r.pa)
  let d := if plzWrites r.kind then d.setWay slice set w (some ⟨lineOf r.pa, true⟩) else d
  ((d.bump (F.PLZ_HIT_COUNT (slice / 8) (slice % 8)) 1).touchWay slice set w).plzApply r

/-- A parity failure that stays: an event, a count, and the request completes MEM_UNCORRECTABLE (R180, R391). -/
def Dev.parityLost (d : Dev) (slice : Nat) (r : PReq) : Dev :=
  (((d.bump (F.PLZ_PERR_UNCORR (slice / 8) (slice % 8)) 1).raise evRas stUncorrectable 0 [r.pa])).respond r.tag stUncorrectable []

/-- A request to an HBM line at its slice. -/
def Dev.plzHbm (d : Dev) (parity : ParityOutcome) (r : PReq) : Dev :=
  let slice := d.homeSlice r.pa
  let l := lineOf r.pa
  if d.plz.mshrs.any (fun m => m.line == l) then
    let full := d.plz.mshrs.any fun m => m.line == l && 32 ≤ m.reqs.length
    let d := { d with plz := { d.plz with mshrs := d.plz.mshrs.map fun m => if m.line = l then m.join r else m } }
    if full then d else d.bump (F.PLZ_MSHR_MERGED (slice / 8) (slice % 8)) 1
  else
    match d.findWay slice l with
    | none => d.plzMiss slice r
    | some w =>
      let set := plazaSet (128 * l)
      match parity with
      | .clean => d.plzHit slice w r
      | .cured => (d.bump (F.PLZ_PERR_REPLAYS (slice / 8) (slice % 8)) 1).plzHit slice w r
      | .failed =>
        if (d.way slice set w) = some ⟨l, true⟩ then d.parityLost slice r
        else ((d.setWay slice set w none).bump (F.PLZ_PERR_REFETCH (slice / 8) (slice % 8)) 1).plzMiss slice r

/-- A request to scratch: no tags, the same parity (R184, R186). -/
def Dev.plzScratch (d : Dev) (parity : ParityOutcome) (r : PReq) : Dev :=
  let slice := d.homeSlice r.pa
  match parity with
  | .clean => d.plzApply r
  | .cured => (d.bump (F.PLZ_PERR_REPLAYS (slice / 8) (slice % 8)) 1).plzApply r
  | .failed => d.parityLost slice r

/-- A request to Ring Road or host memory passes through (R172, R179); it waits while its channel stalls, and a read of host memory
while Bus Master Enable is clear; a write of host memory is then discarded (R333). -/
def Dev.plzThrough (d : Dev) (r : PReq) : Dev :=
  if d.stallsAt r.pa then d
  else if isHost r.pa && !d.on F.HST_LINK_BME then
    match r.kind with
    | .read => d
    | .atomic _ _ _ _ => d.plzApply r
    | .write _ => (d.discardHost r.pa).respond r.tag stOk []
    | .zero => (d.discardHost r.pa).respond r.tag stOk []
  else d.plzApply r

/-- A request at its home slice, by what lies at its address (R171, R172, R175, R192). -/
def Dev.plzServe (d : Dev) (parity : ParityOutcome) (r : PReq) : Dev :=
  if !d.paOk r.pa r.len then d.respond r.tag stBounds []
  else
    match paKind r.pa with
    | .hbm => d.plzHbm parity r
    | .scratch => d.plzScratch parity r
    | _ => d.plzThrough r

/-- A replay on a mesh hop is counted device-wide and at the nearest cluster, which the spec does not name further (R390;
notes/assumptions/4.md). -/
def Dev.hopReplay (d : Dev) : Dev :=
  let (k, d) := d.draw
  (d.bump F.RAS_PAR_REPLAYS 1).bump (F.CLU_ERR_REPLAYS (Config.freeNat k % 400)) 1

/-- A request on its way to the slice: a hop's parity error is replayed, or escalates (R390). -/
def Dev.plazaRequest (d : Dev) (r : PReq) (parity hop : ParityOutcome) : Dev :=
  match hop with
  | .clean => d.plzServe parity r
  | .cured => d.hopReplay.plzServe parity r
  | .failed =>
    ((d.hopReplay.bump F.RAS_PAR_ESCALATED 1).raise evRas stUncorrectable 0 [r.pa]).respond r.tag stUncorrectable []

/-- Is a request one of a single line: inside it, and of the size of its data (R175)? -/
def PReq.ok (r : PReq) : Bool :=
  r.len != 0 && r.pa % 128 + r.len ≤ 128 && match r.kind with
    | .read => true
    | .write data => data.length == r.len
    | .atomic op ty _ _ => atomOk op ty && r.len == atomBytes ty && r.pa % r.len == 0
    | .zero => r.len == 128

/-- PLAZA_REQUEST. -/
def execPlazaRequest (pa : Nat) (len : Nat) (kind : PlzKind) (tag : Nat) (parity : ParityOutcome) (hop : ParityOutcome) (s : State) :
    Host.Outcome State Fault Refusal :=
  onDev (fun d => if PReq.ok ⟨pa, len, kind, some tag⟩ then d.plazaRequest ⟨pa, len, kind, some tag⟩ parity hop else d) s

/-- What a request merged with a zero-line is answered: reads take zeros, and so do atomics merged before it (R178). -/
def Dev.zeroAnswer (d : Dev) (r : PReq) : Dev :=
  match r.kind with
  | .read => d.respond r.tag stOk (List.replicate r.len 0#8)
  | .atomic _ ty _ _ => d.respond r.tag stOk (List.replicate (atomBytes ty) 0#8)
  | _ => d.respond r.tag stOk []

/-- The held requests of a fill in arrival order, with the zero-line behaviour of this stepping: what comes before a zero-line has no
lasting effect, and no read of a register that `zeros` says holds one sees anything but zeros. -/
def Dev.applyHeld (zeros : Bool) : List PReq → Dev → Dev
  | [], d => d
  | r :: rest, d =>
    if rest.any PReq.isZero || (zeros && r.kind == .read) then Dev.applyHeld zeros rest (d.zeroAnswer r)
    else Dev.applyHeld zeros rest (d.plzApply r)

/-- A request whose line's fetch failed (R391, R413): a read of bytes that no failed word holds is served, any other completes with the
error. -/
def Dev.fillFailed (d : Dev) (st : Nat) (r : PReq) : Dev :=
  if r.kind == .read && !d.bad r.pa r.len && !d.failed r.pa r.len then d.respond r.tag stOk (d.read r.pa r.len) else d.respond r.tag st []

/-- A fill returns (R176, R178, R391): the way takes the line and the held requests follow in arrival order; a failed fetch takes no
way. Then the requests that waited are served. -/
def Dev.fillReturn (d : Dev) (slice line : Nat) (due : Bool) : Dev :=
  match d.plz.mshrs.find? fun m => m.slice == slice && m.line == line with
  | none => d
  | some m =>
    if d.stallsAt (128 * line) then d
    else
      let d := ({ d with plz := { d.plz with mshrs := d.plz.mshrs.erase m } } : Dev).noteUse slice
      let d := match d.readStatus (128 * line) 128 due with
        | (0, d) =>
          let set := plazaSet (128 * line)
          let d := (d.setWay slice set m.way (some ⟨line, m.reqs.any fun (r : PReq) => plzWrites r.kind⟩)).touchWay slice set m.way
          Dev.applyHeld (m.reqs.any PReq.isZero) m.reqs d
        | (st, d) => m.reqs.foldl (fun (d : Dev) (r : PReq) => d.fillFailed st r) d
      let d := m.waiting.foldl (fun d r => d.plzHbm .clean r) d
      let again := d.plz.stalled.filter fun (r : PReq) => d.homeSlice r.pa == slice
      let d := { d with plz := { d.plz with stalled := d.plz.stalled.filter fun r => d.homeSlice r.pa != slice } }
      again.foldl (fun d r => d.plzHbm .clean r) d

/-- FILL_RETURN. -/
def execFillReturn (slice : Fin 32) (line : Nat) (due : Bool) (s : State) : Host.Outcome State Fault Refusal :=
  onDev (fun d => d.fillReturn slice line due) s

/-- A request whose header flit was lost has had no response for 10 µs (R390). -/
def Dev.headerTimeout (d : Dev) (tag : Nat) : Dev :=
  ((d.bump F.RAS_PAR_ESCALATED 1).raise evRas stUncorrectable 0 [tag]).respond (some tag) stUncorrectable []

/-- PARITY_HEADER_TIMEOUT. -/
def execParityHeaderTimeout (tag : Nat) (s : State) : Host.Outcome State Fault Refusal :=
  onDev (fun d => d.headerTimeout tag) s

/-! ### Way power (R182, R183) -/

/-- PLZ_WSTAT.STATE codes. -/
def wsIdle : Nat := 0
def wsCleaning : Nat := 1
def wsPoweringUp : Nat := 2

/-- The bits of the scratch groups of a die. -/
def Dev.scrBits (d : Dev) (die : Nat) : Nat := 2 ^ 8 - 2 ^ (8 - d.get (F.PLZ_DCFG_SCR_GROUPS die))

/-- PLZ_DCFG.CACHE_WAYS shows the ways eligible under R174. -/
def Dev.countWays (d : Dev) (die : Nat) : Dev :=
  d.put (F.PLZ_DCFG_CACHE_WAYS die) (2 * (List.range 8).countP fun g => d.groupOn die g)

/-- A value PLZ_WAYS may take: bit 0 and the scratch bits set, no bit cleared without WAY_POWER (R183, R363). -/
def Dev.waysOk (d : Dev) (die v : Nat) : Bool :=
  bit v 0 && d.scrBits die &&& v == d.scrBits die && (d.has ftWayPower || d.get (F.PLZ_WAYS_POWER die) &&& v == d.get (F.PLZ_WAYS_POWER die))

/-- PLZ_WAYS: the groups that change are cleaned or powered up (R182), or the write is ignored (R183). -/
def Dev.wayPower (d : Dev) (die v : Nat) : Dev :=
  let v8 := v % 256
  if d.get (F.PLZ_WSTAT_STATE die) ≠ wsIdle || !d.waysOk die v8 then d.refuse (F.PLZ_WAYS_POWER die).off v
  else
    let old := d.get (F.PLZ_WAYS_POWER die)
    let d := d.put (F.PLZ_WAYS_POWER die) v8
    let d := if old &&& v8 ≠ old then d.put (F.PLZ_WSTAT_STATE die) wsCleaning
      else if v8 ≠ old then d.put (F.PLZ_WSTAT_STATE die) wsPoweringUp
      else d
    d.countWays die

/-- WAY_POWER_WRITE. -/
def execWayPowerWrite (die : Fin 4) (value : Word) (s : State) : Host.Outcome State Fault Refusal :=
  onDev (fun d => d.wayPower die value.toNat) s

/-- The end of a power sequence: IDLE and a Plaza event (R182). -/
def Dev.wayEnd (d : Dev) (die : Nat) : Dev :=
  ((d.put (F.PLZ_WSTAT_STATE die) wsIdle).countWays die).raise evPlaza stOk die
    [die, d.get (F.PLZ_WSTAT_CLEANED die), d.get (F.PLZ_WSTAT_PWR_ON die)]

/-- Does a way of the table of ways lie in a group of a die that is being cleaned? -/
def Dev.cleaningKey (d : Dev) (die k : Nat) : Bool :=
  k / 16 / 12288 / 8 == die && !bit (d.get (F.PLZ_WAYS_POWER die)) (k % 16 / 2)

/-- Every slice has cleaned its ways: the lines are gone, the written ones counted, the ways off; groups to power up follow. -/
def Dev.cleanDone (d : Dev) (die : Nat) : Dev :=
  if d.get (F.PLZ_WSTAT_STATE die) ≠ wsCleaning then d
  else
    let n := d.plz.ways.countP fun r => d.cleaningKey die r.1 && (match r.2 with
      | some x => x.written
      | none => false)
    let d := { d with plz := { d.plz with ways := d.plz.ways.filter fun r => !d.cleaningKey die r.1 } }
    let on := d.get (F.PLZ_WSTAT_PWR_ON die) &&& d.get (F.PLZ_WAYS_POWER die)
    let d := d.puts [(F.PLZ_WSTAT_CLEANED die, satTo (2 ^ 32 - 1) n), (F.PLZ_WSTAT_PWR_ON die, on)]
    if on = d.get (F.PLZ_WAYS_POWER die) then d.wayEnd die else d.put (F.PLZ_WSTAT_STATE die) wsPoweringUp

/-- WAY_CLEAN_DONE. -/
def execWayCleanDone (die : Fin 4) (s : State) : Host.Outcome State Fault Refusal :=
  onDev (fun d => d.cleanDone die) s

/-- The groups powered up are eligible. -/
def Dev.powerUpDone (d : Dev) (die : Nat) : Dev :=
  if d.get (F.PLZ_WSTAT_STATE die) ≠ wsPoweringUp then d
  else (d.put (F.PLZ_WSTAT_PWR_ON die) (d.get (F.PLZ_WAYS_POWER die))).wayEnd die

/-- WAY_POWER_UP_DONE. -/
def execWayPowerUpDone (die : Fin 4) (s : State) : Host.Outcome State Fault Refusal :=
  onDev (fun d => d.powerUpDone die) s

/-! ### Scratch ranges (R185) -/

/-- Is every cluster of partition `p` on a die quiescent? -/
def Dev.dieQuiescent (d : Dev) (die p : Nat) : Bool :=
  (natRange (100 * die) 100).all fun c => d.physPart c != some p || d.quiescent c

/-- The rules for a scratch range. -/
def Dev.scrOk (d : Dev) (die p base size : Nat) : Bool :=
  let old := d.get (F.PLZ_SCR_SIZE die p)
  (size == 0 || inside base size (4096 * die) (384 * d.get (F.PLZ_DCFG_SCR_GROUPS die)))
    && ((List.range 8).all fun q => q == p || size == 0 || d.get (F.PLZ_SCR_SIZE die q) == 0
        || !overlaps base size (d.get (F.PLZ_SCR_BASE die q)) (d.get (F.PLZ_SCR_SIZE die q)))
    && (old == 0 || inside (d.get (F.PLZ_SCR_BASE die p)) old base size || d.dieQuiescent die p)

/-- PLZ_SCR. -/
def Dev.scrWrite (d : Dev) (die p v : Nat) : Dev :=
  let base := bits v 31 0
  let size := bits v 47 32
  if d.scrOk die p base size then d.puts [(F.PLZ_SCR_SIZE die p, size), (F.PLZ_SCR_BASE die p, base)]
  else d.refuse (F.PLZ_SCR_SIZE die p).off v

/-- PLZ_SCR_WRITE. -/
def execPlzScrWrite (die : Fin 4) (p : Fin 8) (value : Word) (s : State) : Host.Outcome State Fault Refusal :=
  onDev (fun d => d.scrWrite die p value.toNat) s

end Sys2Proof.Machine
end

