-- ==== Sys2Proof/Machine/Boulevard.lean ====
section
/-! DEFINITION. The Boulevard: flits and retry, retraining, lane repair, width degrade, lost paths; the guest site's admission and
windows (chapter 12). The sensors of the compatibility scheme stand with the governor. -/

namespace Sys2Proof.Machine

open Sys2Proof

/-! ### Links and modules -/

/-- Link states (DTD_LINK.STATE). -/
def lkDown : Nat := 0
def lkTraining : Nat := 1
def lkUp : Nat := 2
def lkRetraining : Nat := 3
def lkFailed : Nat := 4

/-- Module states (DTD_MOD.STATE). -/
def mdActive : Nat := 0
def mdFenced : Nat := 1
def mdDegraded : Nat := 2
def mdOut : Nat := 3

/-- The first module of a link and their number. -/
def linkModules (l : Nat) : Nat × Nat :=
  if l < 4 then (24 * l, 24) else if l < 6 then (96 + 4 * (l - 4), 4) else if l < 8 then (104 + 8 * (l - 6), 8) else (120 + 4 * (l - 8), 4)

/-- The modules of a link. -/
def modulesOf (l : Nat) : List Nat := natRange (linkModules l).1 (linkModules l).2

/-- A link's retry state. -/
def Dev.link (d : Dev) (l : Nat) : LinkSt := Table.get (fun _ => LinkSt.reset) d.dtd.links l

/-- Writes it. -/
def Dev.setLink (d : Dev) (l : Nat) (x : LinkSt) : Dev :=
  { d with dtd := { d.dtd with links := Table.set (fun _ => LinkSt.reset) d.dtd.links l x } }

/-- Does a module carry striped flits? -/
def Dev.striped (d : Dev) (m : Nat) : Bool := d.get (F.DTD_MOD_STATE m) == mdActive || d.get (F.DTD_MOD_STATE m) == mdDegraded

/-- The modules of a link in striping. -/
def Dev.stripedOn (d : Dev) (l : Nat) : Nat := (modulesOf l).countP d.striped

/-- ACTIVE follows the modules, D2D_X32 is set while any module is fenced for its degrade or degraded (R61, R242). -/
def Dev.settleWidths (d : Dev) (l : Nat) : Dev :=
  (d.put (F.DTD_LINK_ACTIVE l) (d.stripedOn l)).put F.SCH_TRC_D2D_X32
    (b2n ((List.range 140).any fun m => d.get (F.DTD_MOD_STATE m) == mdDegraded || d.get (F.DTD_MOD_STATE m) == mdFenced))

/-! ### Flits (R238, R239) -/

/-- The header word of a flit. -/
def flitHead (b : List Byte) : Nat := leNat (b.take 4)

/-- Does a flit's CRC pass? -/
def flitOk (b : List Byte) : Bool := b.length == 256 && crc32 (b.take 252) == leNat (b.drop 252)

/-- The kept flits after an acknowledged SEQ. -/
def flitsAfter (kept : List (List Byte)) (ack : Nat) : List (List Byte) :=
  match kept with
  | [] => []
  | b :: _ =>
    let n := (ack + 4097 - bits (flitHead b) 31 20) % 4096
    if n ≤ kept.length then kept.drop n else kept

/-- A link starts to retrain: traffic stalls, an event names the link, the trigger and the modules in striping (R240). -/
def Dev.retrainStart (d : Dev) (l trigger : Nat) : Dev :=
  if d.get (F.DTD_LINK_STATE l) ≠ lkUp then d
  else
    let d := d.setLink l { d.link l with trigger := trigger, nakCount := 0 }
    ((d.put (F.DTD_LINK_STATE l) lkRetraining).bump (F.DTD_LINK_RETRAINS l) 1).raise evDie stOk l [l, trigger, d.get (F.DTD_LINK_ACTIVE l)]

/-- The trigger of a retrain after 8 NAKs. -/
def trigNaks : Nat := 1

/-- The acknowledgement and NAK of an accepted flit: what is acknowledged is dropped; NAK sends every later flit again; the eighth NAK
of one SEQ starts a retrain. -/
def Dev.flitAck (d : Dev) (l w : Nat) : Dev :=
  let x := d.link l
  let kept := if bit w 7 then flitsAfter x.retry (bits w 19 8) else x.retry
  if !bit w 6 then d.setLink l { x with retry := kept }
  else
    match kept with
    | [] => d.setLink l { x with retry := kept }
    | b :: _ =>
      let seq := bits (flitHead b) 31 20
      let n := if x.nakCount ≠ 0 ∧ x.nakSeq = seq then x.nakCount + 1 else 1
      let d := d.setLink l { x with retry := kept, nakCount := n, nakSeq := seq }
      let d := kept.foldl (fun d f => d.emit (.flit l f)) d
      if n = 8 then d.retrainStart l trigNaks else d

/-- FLIT. -/
def Dev.flitIn (d : Dev) (l : Nat) (b : List Byte) : Dev :=
  let x := d.link l
  let w := flitHead b
  if d.get (F.DTD_LINK_STATE l) ≠ lkUp then d
  else if flitOk b && bits w 31 20 == x.rxSeq then
    (d.setLink l { x with rxSeq := (x.rxSeq + 1) % 4096, nakSent := false }).flitAck l w
  else
    let d := if flitOk b then d else d.bump (F.DTD_LINK_CRCERR l) 1
    if x.nakSent then d
    else ((d.setLink l { x with nakSent := true }).bump (F.DTD_LINK_REPLAYS l) 1).emit (.flitNak l ((x.rxSeq + 4095) % 4096))

/-- FLIT. -/
def execFlit (link : Fin 13) (bytes : List Byte) (s : State) : Host.Outcome State Fault Refusal :=
  onDev (fun d => d.flitIn link bytes) s

/-- BOULEVARD_RETRAIN. -/
def execBoulevardRetrain (link : Fin 13) (trigger : Nat) (s : State) : Host.Outcome State Fault Refusal :=
  onDev (fun d => d.retrainStart link trigger) s

/-! ### Guest states (R247) -/

def guEmpty : Nat := 0
def guIsolated : Nat := 1
def guNegotiating : Nat := 2
def guVerifying : Nat := 3
def guAdmitted : Nat := 4
def guRejected : Nat := 5
def guNeedsCompat : Nat := 6
def guDisabled : Nat := 7

/-- The guest link. -/
def guestLink : Nat := 12

/-- The guest site's state. -/
def Dev.guest (d : Dev) : Nat := d.get F.DTD_GUEST_STATE

/-- The guest site changes state, with an event that names the state and the REASON; away from ADMITTED the link is isolated. -/
def Dev.setGuest (d : Dev) (st reason : Nat) : Dev :=
  let d := d.puts [(F.DTD_GUEST_STATE, st), (F.DTD_GUEST_REASON, reason)]
  let d := if st = guAdmitted then d else d.puts [(F.DTD_LINK_STATE guestLink, lkDown), (F.DTD_LINK_ACTIVE guestLink, 0)]
  let d := if st = guAdmitted then d else { d with dtd := { d.dtd with guestBusy := false } }
  d.raise evDie stOk guestLink [st, reason]

/-! ### Lost paths (R236, R243) -/

/-- The links between two C-dies, in the order of the path: the row link, then the column link. -/
def blockPath (a b : Nat) : List Nat :=
  (if a % 2 = b % 2 then [] else [a / 2]) ++ (if a / 2 = b / 2 then [] else [2 + b % 2])

/-- The C-dies that a die outside the block is attached to, with their links: 4 Hub, 5 science die, 6 GD0, 7 GD1. -/
def attached (x : Nat) : List (Nat × Nat) :=
  if x = 4 then [(2, 4), (3, 5)] else if x = 5 then [(0, 6), (1, 7)] else if x = 6 then [(0, 8), (2, 9)] else [(1, 10), (3, 11)]

/-- The links of the path from a die to a C-die. -/
def pathTo (x c : Nat) : List Nat :=
  if x < 4 then blockPath x c
  else
    let ok := (attached x).filter fun a => a.1 / 2 == c / 2 || a.1 % 2 == c % 2
    match ok with
    | a :: _ => a.2 :: blockPath a.1 c
    | [] => []

/-- The dies that a queued entry works from (DEDUCED, notes/assumptions/21.md): a launch from those of its clusters, a collective from its
gate die, everything else from the Hub. -/
def Dev.entryDies (d : Dev) (e : Entry) : List Nat :=
  if e.type = tyLaunch then
    let m := launchDesc e.desc
    ((natRange m.first m.count).filterMap d.physOf).map (· / 100)
  else if e.type = tyCollective then [6 + e.engine]
  else [4]

/-- A link lost its last module: the guest die is isolated as REJECTED; on another link HOLD FAULT, and queued work that needs the path
ends MEM_UNCORRECTABLE. -/
def Dev.pathLost (d : Dev) (l : Nat) : Dev :=
  let d := d.put (F.DTD_LINK_STATE l) lkFailed
  if l = guestLink then d.setGuest guRejected 0
  else
    let d := d.assertHold hcFault
    (d.host.entries.filter fun e => e.started && e.finished.isNone && (d.entryDies e).any fun x => (List.range 4).any fun c => (pathTo x c).contains l).foldl
      (fun d e => d.finishEntry e.queue e.seq stUncorrectable 0) d

/-! ### Retraining, lane repair, degrade (R240 to R243) -/

/-- The lanes of a module that fail and have no redundant lane. -/
def Dev.badLanes (d : Dev) (m : Nat) : List Nat := Table.get (fun _ => []) d.dtd.lanes m

/-- Is a lane in the half that a width uses? -/
def laneUsed (width lane : Nat) : Bool := if width = 1 then lane < 32 else if width = 2 then 32 ≤ lane else true

/-- Puts a module's lane lists. -/
def Dev.setLanes (d : Dev) (m : Nat) (bad repaired : List Nat) : Dev :=
  { d with dtd := { d.dtd with lanes := Table.set (fun _ => []) d.dtd.lanes m bad, remap := Table.set (fun _ => []) d.dtd.remap m repaired } }

/-- Each failed lane takes the lowest-numbered free redundant lane (R241); those that find none stay failed. -/
def Dev.repairLanes (d : Dev) (m : Nat) (failed : List Nat) : Dev :=
  let used := Table.get (fun _ => []) d.dtd.remap m
  let free := 4 - used.length
  let d := d.setLanes m (d.badLanes m ++ (failed.drop free).filter fun x => !(d.badLanes m).contains x) (used ++ failed.take free)
  d.puts [(F.DTD_MOD_FAILED m, failed.length), (F.DTD_MOD_SPARES_USED m, (used ++ failed.take free).length)]

/-- A module is taken out of service (R243). -/
def Dev.moduleOut (d : Dev) (m : Nat) : Dev :=
  let d := { d with dtd := { d.dtd with fenced := d.dtd.fenced.erase m, repairFor := d.dtd.repairFor.erase m } }
  (d.puts [(F.DTD_MOD_STATE m, mdOut), (F.DTD_MOD_WIDTH m, 3)]).raise evRas stOk m [m]

/-- A module is fenced until its degrade; where a running scheduled partition must park for it, REPAIR is asserted (R210, R242). -/
def Dev.moduleFence (d : Dev) (m : Nat) : Dev :=
  let d := (d.put (F.DTD_MOD_STATE m) mdFenced).raise evRas stOk m [m]
  let d := { d with dtd := { d.dtd with fenced := d.dtd.fenced ++ [m] } }
  if d.switchHolds then ({ d with dtd := { d.dtd with repairFor := d.dtd.repairFor ++ [m] } } : Dev).assertHold hcRepair else d

/-- The widths at the two ends of a module are compared as it retrains: the narrower governs, a disagreement is logged (R244). -/
def Dev.reconcile (d : Dev) (m : Nat) : Dev :=
  if !d.dtd.stale.contains m then d
  else
    let d := { d with dtd := { d.dtd with stale := d.dtd.stale.erase m } }
    if d.get (F.DTD_MOD_WIDTH m) = 0 then d else (d.put (F.DTD_MOD_DISAGREE m) 1).raise evRas stOk m [m]

/-- What the per-lane test of a module leads to. -/
def Dev.moduleTested (d : Dev) (m : Nat) (failed : List Nat) : Dev :=
  if d.get (F.DTD_MOD_STATE m) = mdOut then d
  else
    let d := (d.reconcile m).repairLanes m failed
    let w := d.get (F.DTD_MOD_WIDTH m)
    if d.get (F.DTD_MOD_STATE m) = mdFenced then d
    else if w = 0 then (if (d.badLanes m).isEmpty then d else d.moduleFence m)
    else if (d.badLanes m).any (laneUsed w) then d.moduleOut m
    else d

/-- The failing lanes a test reports of a module. -/
def failedLanes (tests : List LaneTest) (m : Nat) : List Nat :=
  ((tests.filter fun t => t.module.val == m).flatMap fun t => t.failed.map (·.val)).eraseDups.mergeSort

/-- The end of a retrain (R240): the tests, the widths, the link's state, the event; a change of D2D_X32 is an unplanned change of
class (R62). -/
def Dev.retrainDone (d : Dev) (l : Nat) (ok : Bool) (tests : List LaneTest) : Dev :=
  let was := d.get F.SCH_TRC_D2D_X32
  if d.get (F.DTD_LINK_STATE l) ≠ lkRetraining then d
  else
    let d := (modulesOf l).foldl (fun d m => if ok then d.moduleTested m (failedLanes tests m) else d.moduleOut m) d
    let d := d.settleWidths l
    let d := d.put (F.DTD_LINK_STATE l) (if d.stripedOn l = 0 ∧ d.dtd.fenced.all (fun m => !(modulesOf l).contains m) then lkFailed else lkUp)
    let d := d.raise evDie stOk l [l, (d.link l).trigger, d.get (F.DTD_LINK_ACTIVE l)]
    let d := if d.get F.SCH_TRC_D2D_X32 ≠ was then d.classEvent else d
    if d.get (F.DTD_LINK_STATE l) = lkFailed then d.pathLost l else d

/-- BOULEVARD_RETRAIN_DONE. -/
def execBoulevardRetrainDone (link : Fin 13) (ok : Bool) (tests : List LaneTest) (s : State) : Host.Outcome State Fault Refusal :=
  onDev (fun d => d.retrainDone link ok tests) s

/-- X32_DEGRADE: at its switch point a fenced module retrains to the half that passes, the low one when both do; with neither it goes
out of service (R242). -/
def Dev.degrade (d : Dev) (m : Nat) : Dev :=
  let l := linkOfModule m
  if d.get (F.DTD_MOD_STATE m) ≠ mdFenced ∨ !d.switchPoint then d
  else
    let bad := d.badLanes m
    if bad.any (laneUsed 1) && bad.any (laneUsed 2) then
      let d := ((d.moduleOut m).repairRelease).settleWidths l
      if d.stripedOn l = 0 ∧ d.dtd.fenced.all (fun x => !(modulesOf l).contains x) then d.pathLost l else d
    else
      let d := d.puts [(F.DTD_MOD_STATE m, mdDegraded), (F.DTD_MOD_WIDTH m, if bad.any (laneUsed 1) then 2 else 1)]
      let d := { d with dtd := { d.dtd with fenced := d.dtd.fenced.erase m, repairFor := d.dtd.repairFor.erase m } }
      d.repairRelease.settleWidths l

/-- X32_DEGRADE. -/
def execX32Degrade (module : Fin 140) (s : State) : Host.Outcome State Fault Refusal :=
  onDev (fun d => d.degrade module) s

/-! ### Admission (R245 to R248) -/

/-- GUEST_SIDEBAND_ANSWER. -/
def execGuestSidebandAnswer (s : State) : Host.Outcome State Fault Refusal :=
  onDev (fun d => if d.guest = guIsolated then d.setGuest guNegotiating 0 else d) s

/-- The block types of the Hub's profile with their highest and lowest versions. -/
def hubBlocks : List (Nat × Nat × Nat) := [(1, 1, 1), (2, 2, 1), (3, 1, 1), (4, 2, 1), (5, 1, 1), (6, 1, 1)]

/-- The agreed version of a block type that both profiles hold: none where there is no common one. -/
def agreed (hi lo : Nat) (b : ProfileBlock) : Option Nat :=
  let v := min hi b.hiVer
  if max lo b.loVer ≤ v then some v else none

/-- Does the negotiation of R246 fail? -/
def negotiationFails (blocks : List ProfileBlock) : Bool :=
  hubBlocks.any (fun h => match blocks.find? fun b => b.type == h.1 with
    | some b => (agreed h.2.1 h.2.2 b).isNone
    | none => Config.hubMandatory h.1)
  || blocks.any fun b => b.mandatory && !(hubBlocks.any fun h => h.1 == b.type)

/-- The agreed version of a type; 0 where it is not shared. -/
def agreedOf (type : Nat) (blocks : List ProfileBlock) : Nat :=
  match hubBlocks.find? fun h => h.1 == type, blocks.find? fun b => b.type == type with
  | some h, some b => (agreed h.2.1 h.2.2 b).getD 0
  | _, _ => 0

/-- CAPABILITY_PROFILE. -/
def Dev.guestProfile (d : Dev) (blocks : List ProfileBlock) (raw : List Byte) : Dev :=
  if d.guest ≠ guNegotiating then d
  else
    let d := { d with dtd := { d.dtd with profile := raw.take 4096 } }
    if 4096 < raw.length || negotiationFails blocks then d.setGuest guRejected 9
    else
      let d := d.puts [(F.DTD_GUEST_PROTO, agreedOf 2 blocks), (F.DTD_GUEST_THERM, agreedOf 4 blocks)]
      if agreedOf 4 blocks = 1 ∧ !d.on F.DTD_CFG_THERM_COMPAT then d.setGuest guNeedsCompat 0 else d.setGuest guVerifying 0

/-- CAPABILITY_PROFILE. -/
def execCapabilityProfile (blocks : List ProfileBlock) (raw : List Byte) (s : State) : Host.Outcome State Fault Refusal :=
  onDev (fun d => d.guestProfile blocks raw) s

/-- The first check of R248 that a record fails; 0 when all pass. -/
def qualReason (partners : List PartnerRow) (r : QualIn) : Nat :=
  match partners.find? fun p => p.partner == r.partner with
  | none => 2
  | some p =>
    if !r.wellFormed || 8192 < r.raw.length then 2
    else if !r.zenrid.ecdsa then 3
    else if !r.zenrid.lms then 4
    else if !r.partnerSigs.ecdsa then 5
    else if !r.partnerSigs.lms then 6
    else if !r.identityMatches then 7
    else if r.serial < p.minSerial then 8
    else 0

/-- The guest die is admitted: its mainband trains at the recorded widths (R244, R247). -/
def Dev.admitGuest (d : Dev) : Dev :=
  let d := d.setGuest guAdmitted 0
  let d := (modulesOf guestLink).foldl Dev.reconcile d
  let d := d.settleWidths guestLink
  d.put (F.DTD_LINK_STATE guestLink) (if d.stripedOn guestLink = 0 then lkFailed else lkUp)

/-- QUALIFICATION_RECORD. -/
def Dev.qualify (partners : List PartnerRow) (r : QualIn) (d : Dev) : Dev :=
  if d.guest ≠ guVerifying then d
  else
    let d := { d with dtd := { d.dtd with qualRaw := r.raw.take 8192 } }
    let d := if r.wellFormed then d.put F.DTD_GUEST_PARTNER r.partner else d
    let x := qualReason partners r
    if x = 0 then d.admitGuest else d.setGuest guRejected x

/-- QUALIFICATION_RECORD. -/
def execQualificationRecord (r : QualIn) (s : State) : Host.Outcome State Fault Refusal :=
  onDevFlash (fun v f d => (f, d.qualify v.partners r)) s

/-- QUALIFICATION_TIMEOUT. -/
def execQualificationTimeout (s : State) : Host.Outcome State Fault Refusal :=
  onDev (fun d => if d.guest = guVerifying then d.setGuest guRejected 1 else d) s

/-- GUEST_RETRY: the guest die is reset alone, so its ends of the modules lose their width records (R244). -/
def Dev.guestRetry (d : Dev) : Dev :=
  if d.guest ≠ guRejected then d
  else ({ d with dtd := { d.dtd with stale := modulesOf guestLink } } : Dev).setGuest guIsolated 0

/-- GUEST_RETRY. -/
def execGuestRetry (s : State) : Host.Outcome State Fault Refusal :=
  onDev Dev.guestRetry s

/-! ### Guest windows (R249) -/

/-- Does a window let an access in? -/
def Dev.guestWindow (d : Dev) (write : Bool) (pa n w : Nat) : Bool :=
  d.on (F.DTD_GUEST_WIN_VALID w) && (if write then d.on (F.DTD_GUEST_WIN_WRITE w) else d.on (F.DTD_GUEST_WIN_READ w))
    && inside pa n (gib * d.get (F.DTD_GUEST_WIN_BASE w)) (gib * d.get (F.DTD_GUEST_WIN_SIZE w))

/-- GUEST_REQUEST: a request whose memory stalls is outstanding until it comes again and is served. -/
def Dev.guestRequest (d : Dev) (write : Bool) (pa len : Nat) (data : List Byte) : Dev :=
  let n := if write then data.length else len
  let free (d : Dev) : Dev := { d with dtd := { d.dtd with guestBusy := false } }
  if d.guest ≠ guAdmitted ∨ d.get (F.DTD_LINK_STATE guestLink) ≠ lkUp then d
  else if !(List.range 4).any (d.guestWindow write pa n) then ((free d).raise evRas stPerm guestLink [pa]).emit (.guest stPerm [])
  else if d.runsWait [(pa, n)] then { d with dtd := { d.dtd with guestBusy := true } }
  else if write then
    let (st, d) := d.tryWrite pa n
    (free (if st = stOk then d.write pa data else d)).emit (.guest st [])
  else
    match d.readStatus pa n false with
    | (0, d) => (free d).emit (.guest stOk (d.read pa n))
    | (st, d) => (free d).emit (.guest st [])

/-- GUEST_REQUEST. -/
def execGuestRequest (write : Bool) (pa : Nat) (len : Nat) (data : List Byte) (s : State) : Host.Outcome State Fault Refusal :=
  onDev (fun d => d.guestRequest write pa len data) s

/-- GUEST_WINDOW_WRITE. -/
def Dev.guestWindowWrite (d : Dev) (w v : Nat) : Dev :=
  if d.dtd.guestBusy then d.refuse (F.DTD_GUEST_WIN_VALID w).off v
  else d.puts [(F.DTD_GUEST_WIN_VALID w, bits v 63 63), (F.DTD_GUEST_WIN_WRITE w, bits v 62 62), (F.DTD_GUEST_WIN_READ w, bits v 61 61),
    (F.DTD_GUEST_WIN_SIZE w, bits v 60 52), (F.DTD_GUEST_WIN_BASE w, bits v 51 26)]

/-- GUEST_WINDOW_WRITE. -/
def execGuestWindowWrite (w : Fin 4) (value : Word) (s : State) : Host.Outcome State Fault Refusal :=
  onDev (fun d => d.guestWindowWrite w value.toNat) s

end Sys2Proof.Machine
end

