-- ==== Sys2Proof/Machine/Queues.lean ====
section
/-! DEFINITION. Hardware queues: doorbells, enabling and draining, contexts, fetching, completion records (R311 to R318). -/

namespace Sys2Proof.Machine

open Sys2Proof

/-! ### Records and contexts (R311, R318) -/

/-- The doorbell slot of a queue. -/
def doorbell (q : Nat) : Nat := 0x2000000 + 128 * q

/-- The record of a queue in device memory. -/
def Dev.queueRecord (d : Dev) (q : Nat) : Nat := 0x1000000 * d.get F.HST_QTBL_PA + 64 * q

/-- The queue that a record describes: none where the record is not valid, holds a value that R311 does not allow, or asks for a
kind that is not negotiated. The STATE words hold FETCH and PI, then CI and the count of completion records (DESIGN CHOICE,
notes/assumptions/20.md). -/
def Dev.queueOf (d : Dev) (b : List Byte) : Option Queue :=
  let w (i : Nat) := leWord b i
  let kind := bits (w 0) 62 62
  let ring := bits (w 0) 4 0
  let cqLog := bits (w 2) 60 56
  let ok := bit (w 0) 63 && bits (w 0) 38 32 == 0 && bits (w 0) 23 5 == 0 && bits (w 1) 63 56 == 0 && bits (w 2) 63 61 == 0
    && 4 ≤ ring && ring ≤ 20 && bits (w 1) 55 0 % (128 * 2 ^ ring) == 0
    && (if kind = 1 then d.has ftGateQmsg else 4 ≤ cqLog && cqLog ≤ 20 && bits (w 2) 55 0 % (32 * 2 ^ cqLog) == 0)
  if !ok then none
  else some
    { kind := kind, prio := bits (w 0) 61 60, part := bits (w 0) 59 57, root := bits (w 0) 56 51, vector := bits (w 0) 50 40,
      irq := bit (w 0) 39, coal := bits (w 0) 31 24, ringLog2 := ring, ring := bits (w 1) 55 0, cqLog2 := cqLog,
      cq := bits (w 2) 55 0, state := qsRunning, stop := 0, fetch := bits (w 3) 31 0, pi := bits (w 3) 63 32, ci := bits (w 4) 31 0,
      cqCount := bits (w 4) 63 32, unsignalled := 0, rereads := 0 }

/-- Saves a queue's indices in its STATE words. -/
def Dev.saveQueue (d : Dev) (q : Nat) (x : Queue) : Dev :=
  d.write (d.queueRecord q + 24)
    (leBytes 8 (x.fetch + x.pi * 2 ^ 32) ++ leBytes 8 (x.ci + x.cqCount * 2 ^ 32) ++ List.replicate 24 0#8)

/-- Puts the contexts in use. -/
def Dev.setContexts (d : Dev) (l : List Nat) : Dev := ({ d with host := { d.host with contexts := l } } : Dev).put F.HST_QCTX_ACTIVE l.length

/-- Is a context idle: no entry of its queue is held? -/
def Dev.idleQueue (d : Dev) (q : Nat) : Bool := !d.host.entries.any fun e => e.queue == q

/-- A queue that has work takes a context, the most recently used first; where all are in use the least recently used idle one is
saved and taken (R318). -/
def Dev.takeContext (d : Dev) (q : Nat) : Dev :=
  let l := d.host.contexts
  if l.contains q then d.setContexts (q :: l.erase q)
  else if l.length < 4096 then d.setContexts (q :: l)
  else
    match l.reverse.find? d.idleQueue with
    | none => d
    | some o =>
      let d := match d.queue o with
        | some x => d.saveQueue o x
        | none => d
      (d.bump F.HST_QCTX_SPILLS 1).setContexts (q :: l.erase o)

/-- A draining queue whose entries have all completed is DISABLED, its indices saved (R312). -/
def Dev.settleQueue (d : Dev) (q : Nat) : Dev :=
  match d.queue q with
  | some x =>
    if x.state = qsDraining ∧ d.idleQueue q then
      ((d.saveQueue q x).setQueue q none).setContexts (d.host.contexts.erase q)
    else d
  | none => d

/-! ### Doorbells (R312, R313, R317, R319) -/

/-- Slots between FETCH and an index. -/
def Queue.ahead (x : Queue) (pi : Nat) : Nat := (pi + 2 ^ 32 - x.fetch) % 2 ^ 32

/-- DB_PI. A doorbell of a DISABLED queue finds no context and changes nothing (DEDUCED, notes/assumptions/20.md). -/
def Dev.dbPi (d : Dev) (q pi : Nat) : Dev :=
  match d.queue q with
  | none => d
  | some x =>
    let pi := pi % 2 ^ 32
    if x.kind = 1 then d.refuse (doorbell q) pi
    else if x.ahead pi = 0 then d
    else if x.ahead pi ≤ 2 ^ x.ringLog2 then (d.setQueue q (some { x with pi := pi })).takeContext q
    else d.setQueue q (some { x with state := if x.state = qsDraining then qsDraining else qsStopped, stop := stBounds })

/-- DB_PI. -/
def execDbPi (q : Fin 262144) (pi : Nat) (s : State) : Host.Outcome State Fault Refusal :=
  onDev (fun d => d.dbPi q pi) s

/-- CQ_CI: the completion records or messages that software has consumed. -/
def Dev.cqCi (d : Dev) (q ci : Nat) : Dev :=
  match d.queue q with
  | none => d
  | some x => d.setQueue q (some { x with ci := ci % 2 ^ 32 })

/-- CQ_CI. -/
def execCqCi (q : Fin 262144) (ci : Nat) (s : State) : Host.Outcome State Fault Refusal := onDev (fun d => d.cqCi q ci) s

/-- QCTRL.ENABLE: the record is read, and refused where it is not valid or the queue is not DISABLED (and in FAILED, R371). -/
def Dev.queueEnable (d : Dev) (q : Nat) : Dev :=
  let pa := d.queueRecord q
  if d.get F.PWR_BOOT_STATE == dsFailed || (d.queue q).isSome || !d.inKept pa 64 then d.refuse (doorbell q + 0x10) 1
  else
    match d.readStatus pa 64 false with
    | (0, d) => (match d.queueOf (d.read pa 64) with
      | none => d.refuse (doorbell q + 0x10) 1
      | some x => d.setQueue q (some x))
    | (_, d) => d.refuse (doorbell q + 0x10) 1

/-- QUEUE_ENABLE. -/
def execQueueEnable (q : Fin 262144) (s : State) : Host.Outcome State Fault Refusal :=
  onDev (fun d => d.queueEnable q) s

/-- QCTRL.DISABLE. -/
def Dev.queueDisable (d : Dev) (q : Nat) : Dev :=
  match d.queue q with
  | some x =>
    if x.state = qsDraining then d.refuse (doorbell q + 0x10) 2
    else (d.setQueue q (some { x with state := qsDraining, rereads := 0 })).settleQueue q
  | none => d.refuse (doorbell q + 0x10) 2

/-- QUEUE_DISABLE. -/
def execQueueDisable (q : Fin 262144) (s : State) : Host.Outcome State Fault Refusal :=
  onDev (fun d => d.queueDisable q) s

/-- QCTRL.RESTART. -/
def Dev.queueRestart (d : Dev) (q : Nat) : Dev :=
  match d.queue q with
  | some x =>
    if x.state = qsStopped then d.setQueue q (some { x with state := qsRunning, stop := 0, rereads := 0 })
    else d.refuse (doorbell q + 0x10) 4
  | none => d.refuse (doorbell q + 0x10) 4

/-- QUEUE_RESTART. -/
def execQueueRestart (q : Fin 262144) (s : State) : Host.Outcome State Fault Refusal :=
  onDev (fun d => d.queueRestart q) s

/-! ### Fetching (R314 to R316) -/

/-- Translates a range for one access that keeps no binding: what a waiter left behind is released. -/
def Dev.obtainOnce (d : Dev) (w : Waiter) : Got × Dev :=
  match d.obtain w with
  | (.parked, d) => (.parked, d)
  | (g, d) =>
    let mine (b : Bound) : Bool := b.holder == w.holder && b.root == w.root && b.va == w.va
    let d := if d.rbt.bound.any mine then d.release w.holder w.root w.va w.len else d
    (g, { d with rbt := { d.rbt with bound := d.rbt.bound.filter fun b => !mine b } })

/-- The virtual address of slot `i` of a ring. -/
def Queue.slotVa (x : Queue) (i : Nat) : Nat := x.ring + 128 * (i % 2 ^ x.ringLog2)

/-- A waiter of the queue manager. -/
def queueWaiter (x : Queue) (va len need : Nat) : Waiter := ⟨0, holderQueue, x.root, x.part, va, len, need, false, none⟩

/-- Is a queue one that has slots to fetch? -/
def Queue.available (x : Queue) : Bool := x.kind == 0 && x.state == qsRunning && x.pi != x.fetch && x.rereads == 0

/-- Does a partition choose this queue: no available queue of the partition has a higher PRIO (R315)? -/
def Dev.choosesQueue (d : Dev) (x : Queue) : Bool :=
  d.host.queues.all fun r => match r.2 with
    | some y => !(y.available && y.part == x.part && x.prio < y.prio)
    | none => true

/-- Stops a queue with a status. -/
def Dev.stopQueue (d : Dev) (q : Nat) (x : Queue) (st : Nat) : Dev := d.setQueue q (some { x with state := qsStopped, stop := st, rereads := 0 })

/-- The reserved fields and codes of an entry (R314); REMOTE is a code of a feature (R364). -/
def entryOk (remote : Bool) (w0 type engine : Nat) (b : List Byte) : Bool :=
  bits w0 21 5 == 0 && (type ≤ 4 || (type == tyRemote && remote)) && ((b.drop 16).take 48).all (· == 0#8)
    && (if type = tyCopy then engine < 16 else if type = tyCollective then engine < 2 else engine == 0)

/-- A slot whose SEQ matches is copied: FETCH passes it. -/
def Dev.acceptSlot (d : Dev) (q : Nat) (x : Queue) (b : List Byte) : Dev :=
  let w0 := leWord b 0
  let type := bits w0 31 24
  let engine := bits w0 4 0
  let e : Entry := { queue := q, seq := x.fetch, type := type, barrier := bit w0 23, nocq := bit w0 22, engine := engine, tag := leWord b 1,
                     desc := b.drop 64, started := false,
                     finished := if entryOk (d.has ftRemote) w0 type engine b then none else some (stFeature, 0), wroteHost := false }
  (({ d with host := { d.host with entries := d.host.entries ++ [e] } } : Dev).setQueue q
    (some { x with fetch := (x.fetch + 1) % 2 ^ 32, rereads := 0 })).takeContext q

/-- The eighth re-read does not match: the queue stops, a completion record is due, a queue event is raised. -/
def Dev.staleSlot (d : Dev) (q : Nat) (x : Queue) : Dev :=
  let e : Entry := { queue := q, seq := x.fetch, type := 0, barrier := false, nocq := false, engine := 0, tag := 0, desc := [], started := true,
                     finished := some (stStaleDesc, 0), wroteHost := false }
  ((({ d with host := { d.host with entries := d.host.entries ++ [e] } } : Dev).stopQueue q x stStaleDesc).raise evQueue stStaleDesc (q % 2 ^ 16)
    [q, x.fetch])

/-- Reads the slot at FETCH. A range that cannot be translated or read stops the queue with that status (DEDUCED,
notes/assumptions/20.md). -/
def Dev.readSlot (d : Dev) (q : Nat) (x : Queue) (f : List Byte → Dev → Dev) : Dev :=
  match d.obtainOnce (queueWaiter x (x.slotVa x.fetch) 128 1) with
  | (.parked, d) => d
  | (.stop st, d) => (d.stopQueue q x st).raise evQueue st (q % 2 ^ 16) [q, x.fetch]
  | (.ok l, d) =>
    let runs := extentRuns l (x.slotVa x.fetch) 128
    if d.runsWait runs then d
    else
      match d.readRuns runs false with
      | (0, d) => f (d.readVa l (x.slotVa x.fetch) 128) d
      | (st, d) => (d.stopQueue q x st).raise evQueue st (q % 2 ^ 16) [q, x.fetch]

/-- Does the slot at FETCH hold the SEQ it should? -/
def slotVisible (x : Queue) (b : List Byte) : Bool := bits (leWord b 0) 63 32 == x.fetch

/-- QUEUE_FETCH: the queue that its partition chooses; a slot that is not yet visible is re-read (R316). -/
def Dev.queueFetch (d : Dev) (q : Nat) : Dev :=
  match d.queue q with
  | none => d
  | some x =>
    if !x.available || !d.choosesQueue x || (d.entry q x.fetch).isSome then d
    else
      d.readSlot q x fun b d => if slotVisible x b then d.acceptSlot q x b else d.setQueue q (some { x with rereads := 1 })

/-- QUEUE_FETCH. -/
def execQueueFetch (q : Fin 262144) (s : State) : Host.Outcome State Fault Refusal :=
  onDev (fun d => d.queueFetch q) s

/-- STALE_DESC_REREAD: `rereads` is the number of the re-read that is due, 1 to 8. -/
def Dev.reread (d : Dev) (q : Nat) : Dev :=
  match d.queue q with
  | none => d
  | some x =>
    if x.rereads = 0 then d
    else
      d.readSlot q x fun b d =>
        if slotVisible x b then d.acceptSlot q x b
        else if x.rereads < 8 then d.setQueue q (some { x with rereads := x.rereads + 1 })
        else d.staleSlot q x

/-- STALE_DESC_REREAD. -/
def execStaleDescReread (q : Fin 262144) (s : State) : Host.Outcome State Fault Refusal :=
  onDev (fun d => d.reread q) s

/-- QUEUE_NOP. -/
def execQueueNop (q : Nat) (seq : Nat) (s : State) : Host.Outcome State Fault Refusal :=
  onDev (Dev.onEntry q seq tyNop fun _ e d => d.finishEntry e.queue e.seq stOk 0) s

/-! ### Completion (R317) -/

/-- A completion record. -/
def completionRecord (x : Queue) (e : Entry) (status result : Nat) : List Byte :=
  leBytes 8 (e.seq % 2 ^ 32 * 2 ^ 32 + status % 256 * 2 ^ 24 + e.type % 256 * 2 ^ 16 + b2n (x.cqCount / 2 ^ x.cqLog2 % 2 == 0))
    ++ leBytes 8 e.tag ++ leBytes 8 result ++ leBytes 8 0

/-- Takes an entry out. -/
def Dev.dropEntry (d : Dev) (q seq : Nat) : Dev :=
  { d with host := { d.host with entries := d.host.entries.filter fun e => !(e.queue == q && e.seq == seq) } }

/-- Sends the vector of a queue after COAL_N records, or when no entry runs and records have not been signalled. -/
def Dev.signalQueue (d : Dev) (q : Nat) : Dev :=
  match d.queue q with
  | none => d
  | some x =>
    let running := d.host.entries.any fun e => e.queue == q && e.started && e.finished.isNone
    if x.irq && x.unsignalled != 0 && (max x.coal 1 ≤ x.unsignalled || !running) then
      (d.sendVector x.vector).setQueue q (some { x with unsignalled := 0 })
    else d

/-- ENTRY_COMPLETE: the record is written where there is room; NOCQ writes none for OK. -/
def Dev.entryComplete (d : Dev) (q seq : Nat) : Dev :=
  match d.queue q, d.entry q seq with
  | some x, some e =>
    (match e.finished with
     | none => d
     | some (st, res) =>
       if e.nocq && st == stOk then ((d.dropEntry q seq).signalQueue q).settleQueue q
       else if x.cqFull then d
       else
         let va := x.cq + 32 * (x.cqCount % 2 ^ x.cqLog2)
         match d.obtainOnce (queueWaiter x va 32 2) with
         | (.parked, d) => d
         | (.stop st, d) => (((d.stopQueue q x st).dropEntry q seq).raise evQueue st (q % 2 ^ 16) [q, seq]).settleQueue q
         | (.ok l, d) =>
           let pa := (extentPa l va).getD 0
           let d := if d.writeStatus pa 32 = stOk then d.writeRecord pa (completionRecord x e st res) e.wroteHost
             else (d.tryWrite pa 32).2
           let d := (d.dropEntry q seq).setQueue q (some { x with cqCount := (x.cqCount + 1) % 2 ^ 32, unsignalled := x.unsignalled + 1 })
           (d.signalQueue q).settleQueue q)
  | _, _ => d

/-- ENTRY_COMPLETE. -/
def execEntryComplete (q : Nat) (seq : Nat) (s : State) : Host.Outcome State Fault Refusal :=
  onDev (fun d => d.entryComplete q seq) s

end Sys2Proof.Machine
end

