-- ==== Sys2Proof/Machine/Kiosk.lean ====
section
/-! DEFINITION. The Kiosk window, link recovery and Bus Master Enable (R307 to R310, R330, R332). -/

namespace Sys2Proof.Machine

open Sys2Proof

/-! ### The window -/

/-- TICKREF cycles in a second. -/
def cyclesPerSecond : Nat := 100000000

/-- The device virtual address of a BAR2 offset. -/
def Dev.kioskVa (d : Dev) (o : Nat) : Nat := d.get F.KSK_WIN_BASE_BASE * 2 ^ 28 + o

/-- A Kiosk translation: its runs, or the status of its refusal (R308). -/
def Dev.kioskRuns (d : Dev) (o n need : Nat) : Except Nat (List (Nat × Nat)) × Dev :=
  let root := d.get F.KSK_CTRL_ROOT
  let va := d.kioskVa o
  if !d.on F.KSK_CTRL_EN || !d.has ftKiosk || !d.on (F.RBT_ROOT_VALID root) || !d.on (F.ARB_PART_ACTIVE (d.get (F.RBT_ROOT_PART root))) then
    (.error stPerm, d)
  else
    match Dev.extentsFrom root need (va + n) (n / 0x10000 + 2) d va with
    | (.ok l, d) => (.ok (extentRuns l va n), d)
    | (.stop st, d) => (.error st, d)
    | (.fault k _, d) => (.error (if k = fkRights then stPerm else if k = fkStale then stFaultPending else stBounds), d)

/-- A refusal is counted, and reported by at most one event in a second. -/
def Dev.kioskRefuse (d : Dev) (o kind st : Nat) : Dev :=
  let d := d.bump F.KSK_STAT_FAULTS 1
  let n := d.host.kioskRefusals + 1
  let due := match d.host.lastKiosk with
    | none => true
    | some t => t + cyclesPerSecond ≤ d.time
  if due then
    ({ d with host := { d.host with kioskRefusals := 0, lastKiosk := some d.time } } : Dev).raise evKiosk st 0 [o, kind, n]
  else { d with host := { d.host with kioskRefusals := n } }

/-- Does a range lie in BAR2? -/
def inKiosk (o n : Nat) : Bool := n != 0 && o + n ≤ 2 ^ 28

/-- KIOSK_READ: a read whose memory stalls waits. -/
def Dev.kioskRead (d : Dev) (o n : Nat) (due : Bool) : Dev :=
  if !inKiosk o n then d
  else
    match d.kioskRuns o n 1 with
    | (.error st, d) => (d.kioskRefuse o 0 st).emit .hostAbort
    | (.ok runs, d') =>
      if d.runsWait runs then d
      else
        match d'.readRuns runs due with
        | (0, d) => d.emit (.hostCompletion (runs.flatMap fun r => d.read r.1 r.2))
        | (_, d) => d.emit .hostAbort

/-- KIOSK_READ. -/
def execKioskRead (offset : Nat) (len : Nat) (due : Bool) (s : State) : Host.Outcome State Fault Refusal :=
  onDev (fun d => d.kioskRead offset len due) s

/-- KIOSK_WRITE. A write that meets an error is discarded with a RAS event (R214, R391). -/
def Dev.kioskWrite (d : Dev) (o : Nat) (data : List Byte) : Dev :=
  if !inKiosk o data.length then d
  else
    match d.kioskRuns o data.length 2 with
    | (.error st, d) => d.kioskRefuse o 1 st
    | (.ok runs, d') =>
      if d.runsWait runs then d
      else if d'.writeRunsStatus runs = stOk then d'.writeRuns runs data
      else (d'.tryWriteRuns runs).2

/-- KIOSK_WRITE. -/
def execKioskWrite (offset : Nat) (data : List Byte) (s : State) : Host.Outcome State Fault Refusal :=
  onDev (fun d => d.kioskWrite offset data) s

/-- KIOSK_ATOMICOP: FetchAdd, Swap and CAS of 32 or 64 bits, aligned, as unsigned atomics. -/
def Dev.kioskAtomic (d : Dev) (o bytes : Nat) (op : AtomOp) (a b : Nat) (due : Bool) : Dev :=
  let good := (bytes == 4 || bytes == 8) && o % bytes == 0 && (op == .add || op == .exch || op == .cas) && d.has ftPcieAtomic
  if !inKiosk o bytes then d
  else if !good then d.emit .hostUnsupported
  else
    match d.kioskRuns o bytes 4 with
    | (.error st, d) => (d.kioskRefuse o 2 st).emit .hostAbort
    | (.ok runs, d') =>
      let pa := (runs.headD (0, 0)).1
      if d.runsWait runs && !isHost pa then d
      else
        match d'.atomicAt op (if bytes = 4 then .u32 else .u64) pa a b due with
        | (0, old, d) => (d.bump F.KSK_STAT_ATOMICS 1).emit (.hostCompletion (leBytes bytes old))
        | (_, _, d) => d.emit .hostAbort

/-- KIOSK_ATOMICOP. -/
def execKioskAtomicOp (offset : Nat) (bytes : Nat) (op : AtomOp) (a b : Nat) (due : Bool) (s : State) :
    Host.Outcome State Fault Refusal :=
  onDev (fun d => d.kioskAtomic offset bytes op a b due) s

/-- KSK_WIN_BASE (R310). -/
def Dev.winBase (d : Dev) (v : Nat) : Dev := d.put F.KSK_WIN_BASE_BASE (bits v 55 28)

/-- KSK_WIN_BASE_WRITE. -/
def execKskWinBaseWrite (value : Word) (s : State) : Host.Outcome State Fault Refusal := onDev (fun d => d.winBase value.toNat) s

/-! ### The link (R330, R332) -/

/-- LINK_RECOVERY. -/
def execLinkRecovery (s : State) : Host.Outcome State Fault Refusal :=
  onDev (fun d => d.bump F.HST_LINK_RECOV 1) s

/-- The link is up at a rate and width it trained to (R305): free values (notes/assumptions/20.md). -/
def Dev.linkUp (d : Dev) : Dev :=
  if d.on F.HST_LINK_DL_UP then d
  else
    let (a, d) := d.draw
    let (b, d) := d.draw
    d.puts [(F.HST_LINK_DL_UP, 1), (F.HST_LINK_SPEED, 1 + Config.freeNat a % 6), (F.HST_LINK_WIDTH, 2 ^ (Config.freeNat b % 5))]

/-- The indices from `a` to `b`, at most `n` of them. -/
def indexRange (a b n : Nat) : List Nat := natRange a (min n ((b + 2 ^ 32 - a) % 2 ^ 32))

/-- The addresses of the records of an event ring that software has not consumed. -/
def Dev.ringHeld (d : Dev) (r : Nat) : List Nat :=
  (indexRange (d.get (F.HST_EVR_IDX_CI r)) (d.get (F.HST_EVR_IDX_PI r)) (d.ringSize r)).map fun i =>
    d.get (F.HST_EVR_BASE_PA r) + 64 * (i % d.ringSize r)

/-- Those of a completion ring. -/
def Dev.cqHeld (d : Dev) (x : Queue) : List Nat :=
  (indexRange x.ci x.cqCount (2 ^ x.cqLog2)).filterMap fun i =>
    let va := x.cq + 32 * (i % 2 ^ x.cqLog2)
    match (d.translate x.root x.part va 32 2).1 with
    | .ok l => extentPa l va
    | _ => none

/-- Writes a held record again; a completion record of an entry that wrote host memory with status LINK_LOST_UNKNOWN. -/
def Dev.rewrite (d : Dev) (pa : Nat) : Dev :=
  match Table.get (fun _ => none) d.host.records pa with
  | none => d
  | some (bytes, llu) =>
    let lost := llu && bytes.getD 3 0#8 != BitVec.ofNat 8 stLinkLost
    let bytes := if lost then bytes.set 3 (BitVec.ofNat 8 stLinkLost) else bytes
    ((if lost then d.bump F.HST_LOST_LLU 1 else d).keepRecord pa bytes llu).write pa bytes

/-- BUS_MASTER_ENABLE: the host sets Bus Master Enable and enables MSI-X; records are rewritten, pending vectors sent. -/
def Dev.busMaster (d : Dev) : Dev :=
  if !d.host.cfgReady then d
  else
    let d := d.linkUp.put F.HST_LINK_BME 1
    let evs := (List.range 64).flatMap d.ringHeld
    let cqs := d.host.queues.flatMap fun r => match r.2 with
      | some x => if x.kind = 0 then d.cqHeld x else []
      | none => []
    let d := (cqs ++ evs).foldl Dev.rewrite d
    let vs := d.host.pendingVectors
    vs.reverse.foldl (fun d v => d.sendVector v) { d with host := { d.host with msix := true, pendingVectors := [] } }

/-- BUS_MASTER_ENABLE. -/
def execBusMasterEnable (s : State) : Host.Outcome State Fault Refusal :=
  onDev (fun d => d.busMaster) s

end Sys2Proof.Machine
end

