-- ==== Sys2Proof/Machine/Packets.lean ====
section
/-! DEFINITION. Packets: the HEADER block, the port of a direction, dimension-order routes, a port's transmitter with its retained
packets and credits, requests and responses of this device (R255 to R268, R272, R274). -/

namespace Sys2Proof.Machine

open Sys2Proof

/-! ### The HEADER block (R259) -/

/-- The fields of a HEADER block. -/
structure Hdr where
  ptype : Nat
  vc : Nat
  fixed : Bool
  dst : Nat
  src : Nat
  tag : Nat
  len : Nat
  addr : Nat
  hopleft : Nat
  ports : Nat
  deriving DecidableEq, Repr

/-- Reads a HEADER block. -/
def hdrOf (h : Nat) : Hdr :=
  { ptype := bits h 247 244, vc := bits h 243 242, fixed := bit h 241, dst := bits h 240 227, src := bits h 226 213,
    tag := bits h 212 197, len := bits h 196 184, addr := bits h 183 136, hopleft := bits h 133 128, ports := bits h 127 0 }

/-- Are the reserved bits and the LENGTH of a HEADER block as the layout gives them? -/
def hdrOk (h : Nat) : Bool := bits h 255 248 == 1 && bits h 135 134 == 0 && bits h 196 184 ≤ 4096

/-- Lays out a HEADER block. -/
def Hdr.code (h : Hdr) : Nat :=
  2 ^ 248 + h.ptype % 16 * 2 ^ 244 + h.vc % 4 * 2 ^ 242 + b2n h.fixed * 2 ^ 241 + h.dst % 2 ^ 14 * 2 ^ 227 + h.src % 2 ^ 14 * 2 ^ 213
    + h.tag % 2 ^ 16 * 2 ^ 197 + h.len % 2 ^ 13 * 2 ^ 184 + h.addr % 2 ^ 48 * 2 ^ 136 + h.hopleft % 64 * 2 ^ 128 + h.ports % 2 ^ 128

/-- PTYPE codes. -/
def ptSched : Nat := 1
def ptWrite : Nat := 2
def ptRead : Nat := 3
def ptAtomic : Nat := 4
def ptQmsg : Nat := 5
def ptResp : Nat := 6
def ptSquare : Nat := 7
def ptSegment : Nat := 8
def ptControl : Nat := 9

/-- The bytes a packet takes in a buffer: its header, data and trailer blocks. -/
def pktBytes (n : Nat) : Nat := 32 * (2 + (n + 31) / 32)

/-- The credit class of a packet: 0 scheduled, 1 to 4 the virtual channels (R262, R267). -/
def creditClass (h : Hdr) : Nat := if h.ptype = ptSched ∨ (h.fixed ∧ 7 ≤ h.ptype) then 0 else 1 + h.vc

/-- The input buffer of a peer: 256 KiB for scheduled packets, 64 KiB for each virtual channel. -/
def fullCredits : List Nat := [0x40000, 0x10000, 0x10000, 0x10000, 0x10000]

/-! ### Ports and directions (R261, R262) -/

/-- Port states. -/
def psDisabled : Nat := 0
def psDown : Nat := 1
def psTraining : Nat := 2
def psAttesting : Nat := 3
def psUp : Nat := 4
def psRejected : Nat := 5

/-- The state of a port. -/
def Dev.portState (d : Dev) (p : Nat) : Nat := d.get (F.GTE_PORT_STATE p)

/-- A port's hidden state. -/
def Dev.port (d : Dev) (p : Nat) : PortSt := Table.get (fun _ => PortSt.reset) d.gate.ports p

/-- Writes it. -/
def Dev.setPort (d : Dev) (p : Nat) (x : PortSt) : Dev :=
  { d with gate := { d.gate with ports := Table.set (fun _ => PortSt.reset) d.gate.ports p x } }

/-- The ports of dimension `k`, direction `e` (0 plus, 1 minus): primary, then alternate, those that there are. -/
def Dev.portsOf (d : Dev) (k e : Nat) : List Nat :=
  [bits (d.get F.GTE_PMAP_PRI) (8 * k + 4 * e + 3) (8 * k + 4 * e), bits (d.get F.GTE_PMAP_ALT) (8 * k + 4 * e + 3) (8 * k + 4 * e)].filter
    (· < 12)

/-- The eight directions. -/
def directions : List (Nat × Nat) := [(0, 0), (0, 1), (1, 0), (1, 1), (2, 0), (2, 1), (3, 0), (3, 1)]

/-- The number of a direction among those of `WaitPkt`: ports count from 0, directions from 16. -/
def dirCode (k e : Nat) : Nat := 16 + 2 * k + e

/-- The ports that serve a direction, in order: those of a dimension's direction, or a named port and its alternate. -/
def Dev.dirPorts (d : Dev) (dir : Nat) : List Nat :=
  if 16 ≤ dir then d.portsOf ((dir - 16) / 2) ((dir - 16) % 2)
  else
    match directions.find? fun x => bits (d.get F.GTE_PMAP_PRI) (8 * x.1 + 4 * x.2 + 3) (8 * x.1 + 4 * x.2) == dir with
    | some x => d.portsOf x.1 x.2
    | none => if dir < 12 then [dir] else []

/-- The port that a direction uses now, reaching the expected peer if one is. -/
def Dev.outPort (d : Dev) (dir : Nat) (expect : Option Nat) : Option Nat :=
  (d.dirPorts dir).find? fun p => d.portUp p && (expect.isNone || expect == some (d.get (F.GTE_PEER_RANK p)))

/-! ### Transmitting (R256, R262, R267) -/

/-- The bytes a port keeps. -/
def PortSt.keptBytes (x : PortSt) : Nat := x.kept.foldl (fun s k => s + pktBytes k.data.length) 0

/-- Sends a packet on a port: it takes the next SEQ, is kept until acknowledged, and uses credit. -/
def Dev.transmit (d : Dev) (p hdr : Nat) (data : List Byte) : Dev :=
  let x := d.port p
  let c := creditClass (hdrOf hdr)
  let n := pktBytes data.length
  let d := d.setPort p { x with txSeq := (x.txSeq + 1) % 4096, kept := x.kept ++ [⟨x.txSeq, hdr, data⟩],
                                credits := x.credits.set c (x.credits.getD c 0 - n) }
  (d.bump (F.GTE_PSTAT0_SENT p) data.length).emit (.packet p hdr data)

/-- May a packet leave on a port now: credit, and room among the packets kept? -/
def Dev.mayTransmit (d : Dev) (p hdr n : Nat) : Bool :=
  pktBytes n ≤ (d.port p).credits.getD (creditClass (hdrOf hdr)) 0 && (d.port p).keptBytes + pktBytes n ≤ 0x40000

/-- Two waiting packets of one direction and one class. -/
def WaitPkt.sameClass (a b : WaitPkt) : Bool := a.dir == b.dir && creditClass (hdrOf a.hdr) == creditClass (hdrOf b.hdr)

/-- Sends a packet in its direction, or lets it wait behind those of its class. -/
def Dev.sendPkt (d : Dev) (w : WaitPkt) : Dev :=
  let wait : Dev := { d with gate := { d.gate with waiting := d.gate.waiting ++ [w] } }
  if d.gate.waiting.any (WaitPkt.sameClass w) then wait
  else
    match d.outPort w.dir w.expect with
    | some p => if d.mayTransmit p w.hdr w.data.length then d.transmit p w.hdr w.data else wait
    | none => wait

/-- Packets that wait try again, in order. -/
def Dev.drainGates (d : Dev) : Dev := d.gate.waiting.foldl Dev.sendPkt { d with gate := { d.gate with waiting := [] } }

/-- While neither port of a direction is UP and one that scheduled traffic names is in the domain port mask, LINK is held (R262). -/
def Dev.linkWatch (d : Dev) (dir : Nat) : Dev :=
  if (d.outPort dir none).isNone && (d.dirPorts dir).any (fun p => bit (d.get F.TCK_CTRL_PORTS) p) then d.assertHold hcLink else d

/-! ### Dimension-order routes (R266, R267) -/

/-- Coordinate `k` of a position. -/
def coord (pos k : Nat) : Nat := bits pos (6 * k + 5) (6 * k)

/-- The dimension and direction of the next hop to a position, and whether its link crosses the dateline. -/
def Dev.nextHop (d : Dev) (pos : Nat) : Option (Nat × Nat × Bool) :=
  let me := d.get F.GTE_ID_POS
  match (List.range 4).find? fun k => coord me k != coord pos k with
  | none => none
  | some k =>
    let size := coord (d.get F.GTE_TOPO_SIZE) k + 1
    let plus := (coord pos k + size - coord me k) % size
    let e := if 2 * plus ≤ size then 0 else 1
    some (k, e, if e = 0 then coord me k + 1 == size else coord me k == 0)

/-- Does a port belong to a dimension? -/
def Dev.portInDim (d : Dev) (p k : Nat) : Bool := (d.portsOf k 0).contains p || (d.portsOf k 1).contains p

/-- Routes a best-effort packet that entered through a port, or was made here. -/
def Dev.routePkt (d : Dev) (entry : Option Nat) (h : Hdr) (data : List Byte) : Dev :=
  if !d.on (F.GTE_RANK_VALID h.dst) then d.bump F.GTE_DROPS_UNREACH 1
  else
    match d.nextHop (d.get (F.GTE_RANK_POS h.dst)) with
    | none => if h.dst = d.rank then d else d.bump F.GTE_DROPS_MISDELIVER 1
    | some (k, e, cross) =>
      let on := match entry with
        | some p => d.portInDim p k && h.vc % 2 == 1
        | none => false
      d.sendPkt ⟨dirCode k e, none, ({ h with vc := h.vc / 2 * 2 + b2n (on || cross) } : Hdr).code, data⟩

/-- The port on which a request to a rank would leave now. -/
def Dev.portTo (d : Dev) (rank : Nat) : Option Nat :=
  match d.nextHop (d.get (F.GTE_RANK_POS rank)) with
  | some (k, e, _) => d.outPort (dirCode k e) none
  | none => none

/-- Is feature bit `n` in the common set of a port (R272)? -/
def Dev.portHas (d : Dev) (p n : Nat) : Bool := bit (d.get (F.GTE_PFEAT_BITS p (n / 64))) (n % 64)

/-- Does a request to a rank need a feature that its port's common set does not hold? -/
def Dev.lacksTo (d : Dev) (rank : Nat) (fs : List Nat) : Bool :=
  match d.portTo rank with
  | some p => fs.any fun n => !d.portHas p n
  | none => false

/-! ### Requests and responses of this device (R260) -/

/-- BE_IDLE follows the requests outstanding. -/
def Dev.settleIdle (d : Dev) : Dev := d.put F.GTE_CTRL_BE_IDLE (b2n d.gate.outstanding.isEmpty)

/-- May this device make a best-effort request (R269, R270)? -/
def Dev.mayRequest (d : Dev) : Bool := d.on F.GTE_ID_RANKED && !d.on F.GTE_CTRL_BE_STOP

/-- Makes a request: it takes a tag and waits for its RESP. A device without a rank sends nothing (R269). -/
def Dev.request (d : Dev) (ptype dst addr len : Nat) (data : List Byte) (o : Outstanding) : Dev :=
  let tag := d.gate.nextTag
  let d := { d with gate := { d.gate with nextTag := (tag + 1) % 2 ^ 16, outstanding := { o with tag := tag, rank := dst } :: d.gate.outstanding } }
  (if d.on F.GTE_ID_RANKED then d.routePkt none ⟨ptype, 0, false, dst, d.rank, tag, len, addr, 0, 0⟩ data else d).settleIdle

/-- Answers a request with a RESP. -/
def Dev.sendResp (d : Dev) (h : Hdr) (status : Nat) (data : List Byte) : Dev :=
  d.routePkt none ⟨ptResp, 2, false, h.src, d.rank, h.tag, data.length, status, 0, 0⟩ data

/-! ### Receiving (R256, R274) -/

/-- Is a packet's source admitted at a port? -/
def Dev.admits (d : Dev) (p src : Nat) : Bool :=
  d.get (F.GTE_PEER_RANK p) == src || bit (d.get (F.GTE_INGRESS_MASK p (src / 64))) (src % 64)

/-- A port accepts a packet. -/
def Dev.accept (d : Dev) (p : Nat) : Dev :=
  let x := d.port p
  d.setPort p { x with rxSeq := (x.rxSeq + 1) % 4096, nakSent := false }

/-- A port refuses a packet: NAK at the first one, with the last accepted SEQ. -/
def Dev.sendNak (d : Dev) (p : Nat) : Dev :=
  let x := d.port p
  if x.nakSent then d
  else (((d.setPort p { x with nakSent := true }).bump (F.GTE_PERR_NAKS p) 1)).emit (.nak p ((x.rxSeq + 4095) % 4096))

/-- Is a packet delivered at this device, or does it pass on? -/
def Dev.passesOn (d : Dev) (h : Hdr) : Bool := if h.fixed then h.hopleft != 0 else h.dst != d.rank

/-- A packet that passes on leaves in its direction: a fixed route's next port, or the dimension order. -/
def Dev.forward (d : Dev) (p : Nat) (h : Hdr) (data : List Byte) : Dev :=
  if h.fixed then
    let dir := h.ports % 16
    (d.sendPkt ⟨dir, none, ({ h with ports := h.ports / 16, hopleft := h.hopleft - 1 } : Hdr).code, data⟩).linkWatch dir
  else d.routePkt (some p) h data

/-- The port on which a forwarded packet would leave. -/
def Dev.forwardPort (d : Dev) (h : Hdr) : Option Nat := if h.fixed then d.outPort (h.ports % 16) none else d.portTo h.dst

/-- PACKET_FORWARD: a refused copy draws NAK, and ends with STOMP what had begun to leave (R257). -/
def Dev.packetForward (d : Dev) (p hdr : Nat) (data : List Byte) (crcOk : Bool) : Dev :=
  let h := hdrOf hdr
  if !d.portUp p || !d.passesOn h then d
  else if !crcOk then
    let d := d.sendNak p
    if !d.admits p h.src then d
    else
      match d.forwardPort h with
      | some q => d.emit (.stomp q hdr)
      | none => d
  else
    let d := d.accept p
    if !d.admits p h.src then d.bump F.GTE_DROPS_INGRESS 1 else d.forward p h (fitBytes h.len data)

/-- PACKET_FORWARD. -/
def execPacketForward (port : Fin 12) (hdr : Header) (data : List Byte) (crcOk : Bool) (s : State) : Host.Outcome State Fault Refusal :=
  onDev (fun d => d.packetForward port hdr.toNat data crcOk) s

/-- The packets kept after an acknowledged SEQ: those that follow it in the window of 4,096. -/
def PortSt.keptAfter (x : PortSt) (lastSeq : Nat) : List Kept :=
  match x.kept with
  | [] => []
  | k :: _ => x.kept.drop ((lastSeq + 4097 - k.seq) % 4096)

/-- Does a SEQ name a packet that is kept, or the one just before them? -/
def PortSt.seqKnown (x : PortSt) (lastSeq : Nat) : Bool :=
  match x.kept with
  | [] => false
  | k :: _ => (lastSeq + 4097 - k.seq) % 4096 ≤ x.kept.length

/-- LINK_NAK: packets up to the SEQ are acknowledged, every later one is sent again in order (R256). -/
def Dev.linkNak (d : Dev) (p lastSeq : Nat) : Dev :=
  let x := d.port p
  if !d.portUp p || !x.seqKnown lastSeq then d
  else
    let l := x.keptAfter lastSeq
    let d := d.setPort p { x with kept := l }
    l.foldl (fun d k => d.emit (.packet p k.hdr k.data)) d

/-- LINK_NAK. -/
def execLinkNak (port : Fin 12) (lastSeq : Nat) (s : State) : Host.Outcome State Fault Refusal :=
  onDev (fun d => d.linkNak port (lastSeq % 4096)) s

/-- LINK_ACKNOWLEDGEMENT: acknowledged packets are dropped, credit comes back, packets that waited leave. -/
def Dev.linkAck (d : Dev) (p lastSeq : Nat) (credits : List Nat) : Dev :=
  let x := d.port p
  if !d.portUp p then d
  else
    let kept := if x.seqKnown lastSeq then x.keptAfter lastSeq else x.kept
    let c := (x.credits.zip fullCredits).zipIdx.map fun r => min (r.1.1 + credits.getD r.2 0) r.1.2
    (d.setPort p { x with kept := kept, credits := c }).drainGates

/-- LINK_ACKNOWLEDGEMENT. -/
def execLinkAcknowledgement (port : Fin 12) (lastSeq : Nat) (credits : List Nat) (s : State) : Host.Outcome State Fault Refusal :=
  onDev (fun d => d.linkAck port (lastSeq % 4096) credits) s

/-! ### What a delivered packet meets; routes (R263, R274) -/

/-- The header of a packet of a type that a port delivers to this device. -/
def Dev.delivered (d : Dev) (p hdr ptype : Nat) : Option Hdr :=
  let h := hdrOf hdr
  if d.portUp p && h.ptype == ptype && !d.passesOn h then some h else none

/-- What a delivered request meets before its window: none where it goes on. -/
def Dev.turnedAway (d : Dev) (p hdr feature : Nat) (h : Hdr) : Option Dev :=
  if !d.admits p h.src then some (d.bump F.GTE_DROPS_INGRESS 1)
  else if h.dst ≠ d.rank then some (d.bump F.GTE_DROPS_MISDELIVER 1)
  else if !hdrOk hdr || !d.portHas p feature then some (d.sendResp h stFeature [])
  else none

/-- A route entry. -/
structure Route where
  hops : Nat
  splitN : Nat
  split : Nat
  dest : Nat
  ports : Nat
  zeros : Bool
  deriving DecidableEq, Repr

/-- Reads it. -/
def routeOf (b : List Byte) : Route :=
  let w (i : Nat) := leWord b i
  { hops := bits (w 0) 55 50, splitN := bits (w 0) 49 46, split := bits (w 0) 45 36, dest := bits (w 0) 13 0, ports := w 1 + w 2 * 2 ^ 64,
    zeros := bits (w 0) 63 56 == 0 && bits (w 0) 35 14 == 0 && w 3 == 0 }

end Sys2Proof.Machine
end

