-- ==== Sys2Proof/Machine/Gates.lean ====
section
/-! DEFINITION. The gate ports: states, attestation, loss and return of a port, the rank (R22, R253, R254, R258, R261, R262, R269 to
R271, R273). -/

namespace Sys2Proof.Machine

open Sys2Proof

/-! ### States -/

/-- A port's transmitter drives its pairs but in DISABLED and REJECTED, without a cable, and in a power-down (R22, R254). -/
def Dev.driveUpdate (d : Dev) (p : Nat) : Dev :=
  let st := d.portState p
  d.setPort p { d.port p with driving := st != psDisabled && st != psRejected && (d.port p).present && d.pwr.pwrgd }

/-- The direction of a port: that of the dimension it belongs to, or its own. -/
def Dev.dirOfPort (d : Dev) (p : Nat) : Nat :=
  match directions.find? fun x => (d.portsOf x.1 x.2).contains p with
  | some x => dirCode x.1 x.2
  | none => p

/-- A port leaves UP: what it kept waits for its direction and the same peer (R262); in the domain port mask it asserts LINK. -/
def Dev.leaveUp (d : Dev) (p : Nat) : Dev :=
  let x := d.port p
  let peer := d.get (F.GTE_PEER_RANK p)
  let l := x.kept.map fun k => (⟨d.dirOfPort p, some peer, k.hdr, k.data⟩ : WaitPkt)
  let d := d.setPort p { x with kept := [], credits := [] }
  let d := { d with gate := { d.gate with waiting := l ++ d.gate.waiting } }
  let d := if bit (d.get F.TCK_CTRL_PORTS) p then d.assertHold hcLink else d
  d.drainGates

/-- Moves a port to a state. -/
def Dev.setPortState (d : Dev) (p st : Nat) : Dev :=
  let old := d.portState p
  let d := d.put (F.GTE_PORT_STATE p) st
  let d := if old = psUp ∧ st ≠ psUp then d.leaveUp p else d
  d.driveUpdate p

/-- A MGMT block: 0 nonce, 1 evidence, 2 notice of a rejection. -/
def Dev.sendMgmt (d : Dev) (p kind : Nat) (body : List Byte) : Dev := d.emit (.mgmt p kind body)

/-- A port is rejected with a reason, and its peer is told (R271). -/
def Dev.reject (d : Dev) (p reason : Nat) : Dev :=
  ((d.put (F.GTE_PORT_REASON p) reason).setPortState p psRejected).sendMgmt p 2 (leBytes 1 reason)

/-- A port enters ATTESTING with a nonce of its own (R271 step 1). -/
def Dev.attest (d : Dev) (p : Nat) : Dev :=
  let (n, d) := d.draw
  let nonce := fitBytes 48 (Config.random n)
  let d := d.setPortState p psAttesting
  (d.setPort p { d.port p with nonceOut := nonce, nonceIn := [] }).sendMgmt p 0 nonce

/-! ### Enabling, signal, training -/

/-- PORT_ENABLE. -/
def Dev.portEnable (d : Dev) (p : Nat) : Dev :=
  if d.get F.PWR_BOOT_STATE = dsFailed then d.refuse (F.GTE_PORT_EN p).off 1 else
  let d := d.put (F.GTE_PORT_EN p) 1
  if d.portState p = psDisabled then d.setPortState p psDown else d

/-- PORT_ENABLE. -/
def execPortEnable (port : Fin 12) (s : State) : Host.Outcome State Fault Refusal :=
  onDev (fun d => d.portEnable port) s

/-- PORT_DISABLE. -/
def Dev.portDisable (d : Dev) (p : Nat) : Dev := (d.put (F.GTE_PORT_EN p) 0).setPortState p psDisabled

/-- PORT_DISABLE. -/
def execPortDisable (port : Fin 12) (s : State) : Host.Outcome State Fault Refusal :=
  onDev (fun d => d.portDisable port) s

/-- CABLE_PRESENCE_CHANGE (R22). The pin is seen whatever state the port is in. -/
def execCablePresenceChange (port : Fin 12) (present : Bool) (s : State) : Host.Outcome State Fault Refusal :=
  onDev (fun d => (d.setPort port { d.port port with present := present }).driveUpdate port) s

/-- SIGNAL_DETECT. -/
def Dev.signalDetect (d : Dev) (p : Nat) : Dev :=
  if d.portState p = psDown ∧ (d.port p).present then d.setPortState p psTraining else d

/-- SIGNAL_DETECT. -/
def execSignalDetect (port : Fin 12) (s : State) : Host.Outcome State Fault Refusal :=
  onDev (fun d => d.signalDetect port) s

/-- TRAINING_COMPLETE: a device without a rank rejects (R269). -/
def Dev.trained (d : Dev) (p : Nat) : Dev :=
  if d.portState p ≠ psTraining then d else if d.on F.GTE_ID_RANKED then d.attest p else d.reject p 11

/-- TRAINING_COMPLETE. -/
def execTrainingComplete (port : Fin 12) (s : State) : Host.Outcome State Fault Refusal :=
  onDev (fun d => d.trained port) s

/-- A port that is in one state goes to another. -/
def Dev.portStep (d : Dev) (p old new : Nat) : Dev := if d.portState p = old then d.setPortState p new else d

/-- TRAINING_TIMEOUT. -/
def execTrainingTimeout (port : Fin 12) (s : State) : Host.Outcome State Fault Refusal :=
  onDev (fun d => d.portStep port psTraining psDown) s

/-- LOSS_OF_SIGNAL. -/
def execLossOfSignal (port : Fin 12) (s : State) : Host.Outcome State Fault Refusal :=
  onDev (fun d => d.portStep port psUp psDown) s

/-- PORT_RETRAIN (R258). -/
def execPortRetrain (port : Fin 12) (s : State) : Host.Outcome State Fault Refusal :=
  onDev (fun d => d.portStep port psUp psTraining) s

/-- REJECT_RETRY_EXPIRY. -/
def execRejectRetryExpiry (port : Fin 12) (s : State) : Host.Outcome State Fault Refusal :=
  onDev (fun d => d.portStep port psRejected psDown) s

/-- PORT_RETRY. -/
def execPortRetry (port : Fin 12) (s : State) : Host.Outcome State Fault Refusal :=
  onDev (fun d => d.portStep port psRejected psDown) s

/-! ### Attestation (R271) -/

/-- Is a position this device's neighbour in a direction that the port map gives the port? -/
def Dev.neighbour (d : Dev) (p pos : Nat) : Bool :=
  directions.any fun x =>
    (d.portsOf x.1 x.2).contains p &&
      (let me := d.get F.GTE_ID_POS
       let size := coord (d.get F.GTE_TOPO_SIZE) x.1 + 1
       let c := coord me x.1
       let c' := if x.2 = 0 then (c + 1) % size else (c + size - 1) % size
       (List.range 4).all fun k => coord pos k == if k = x.1 then c' else coord me k)

/-- The feature bits required for gates (0x1001.05). -/
def gateBits : List Nat := [ftGate, ftGateTick, ftGateFixed]

/-- The negotiated set as one number. -/
def Dev.negotiated (d : Dev) : Nat := d.get (F.IDF_NEG_BITS 0) + d.get (F.IDF_NEG_BITS 1) * 2 ^ 64

/-- The first check of R271 that the peer's evidence fails, from check 2 on; 0 when all pass. -/
def Dev.evidenceReason (d : Dev) (p : Nat) (e : EvidenceIn) : Nat :=
  if !e.wellFormed then 2
  else if !e.chainOk then 3
  else if !e.sigs.ecdsa then 4
  else if !e.sigs.lms then 5
  else if e.nonce != (d.port p).nonceOut then 6
  else if (d.on F.GTE_ID_RANKED && e.rank == d.rank) || !d.on (F.GTE_RANK_VALID e.rank) || d.get (F.GTE_RANK_POS e.rank) != e.position then 7
  else if !d.neighbour p e.position then 8
  else if d.on (F.GTE_PORT_PIN p) && e.rank != d.get (F.GTE_PORT_EXPECT p) then 9
  else if e.peerRejected then 10
  else if !d.on F.GTE_ID_RANKED then 11
  else if gateBits.any fun n => !d.has n || !bit e.features.toNat n then 12
  else 0

/-- Packets that waited for a peer that did not come back, retained or not yet sent, are discarded; a scheduled one holds FAULT (R262;
DEDUCED, notes/assumptions/19.md). -/
def Dev.newPeer (d : Dev) (p rank : Nat) (changed : Bool) : Dev :=
  let other (w : WaitPkt) : Bool := if w.expect.isSome then w.expect != some rank else changed && (hdrOf w.hdr).ptype == ptSched
  let gone (w : WaitPkt) : Bool := other w && (d.dirPorts w.dir).contains p
  let sched := d.gate.waiting.any fun w => gone w && (hdrOf w.hdr).ptype == ptSched
  let d := { d with gate := { d.gate with waiting := d.gate.waiting.filter fun w => !gone w } }
  if sched then d.gateFault p else d

/-- Every port of the domain port mask is UP. -/
def Dev.maskUp (d : Dev) : Bool := (List.range 12).all fun p => !bit (d.get F.TCK_CTRL_PORTS) p || d.portUp p

/-- A port reaches UP: its common set, its peer, its delay, a change of peer, LINK, and the packets that waited (R271 to R273). -/
def Dev.reachUp (d : Dev) (p : Nat) (e : EvidenceIn) : Dev :=
  let x := d.port p
  let changed := x.lastRank.isSome && x.lastRank != some e.rank
  let common := d.negotiated &&& e.features.toNat
  let d := d.setPort p { x with lastRank := some e.rank, txSeq := 0, rxSeq := 0, kept := [], credits := fullCredits, nakSent := false }
  let d := d.puts [(F.GTE_PFEAT_BITS p 0, common % 2 ^ 64), (F.GTE_PFEAT_BITS p 1, common / 2 ^ 64), (F.GTE_PEER_RANK p, e.rank),
    (F.GTE_PEER_POS p, e.position), (F.GTE_PEER_PORT p, e.port.val)]
  let d := if x.lastRank = some e.rank then d else d.put (F.GTE_DELAY_DELAY p) e.delayPs
  let d := d.setPortState p psUp
  let d := if changed then (d.put (F.GTE_PEER_CHANGED p) 1).raise evGate stOk p [x.lastRank.getD 0, e.rank] else d
  let d := d.newPeer p e.rank changed
  let d :=
    if bit (d.get F.TCK_CTRL_PORTS) p then
      let d := { d with tick := { d.tick with reachStale := d.tick.reachStale || changed } }
      if d.maskUp then d.clearHold hcLink else d
    else d
  d.drainGates

/-- EVIDENCE. -/
def Dev.evidence (d : Dev) (p : Nat) (e : EvidenceIn) : Dev :=
  if d.portState p ≠ psAttesting then d
  else
    let r := d.evidenceReason p e
    if r ≠ 0 then d.reject p r else d.reachUp p e

/-- EVIDENCE. -/
def execEvidence (port : Fin 12) (e : EvidenceIn) (s : State) : Host.Outcome State Fault Refusal :=
  onDev (fun d => d.evidence port e) s

/-- EVIDENCE_TIMEOUT. -/
def execEvidenceTimeout (port : Fin 12) (s : State) : Host.Outcome State Fault Refusal :=
  onDev (fun d => if d.portState port = psAttesting then d.reject port 1 else d) s

/-- PEER_REJECTION. -/
def execPeerRejection (port : Fin 12) (s : State) : Host.Outcome State Fault Refusal :=
  onDev (fun d => if d.portState port = psAttesting then d.reject port 10 else d) s

/-- What this end's evidence says (R271 step 2): its order is the model's (notes/assumptions/6.md). -/
def Dev.evidenceBody (d : Dev) (p : Nat) (nonce : List Byte) : List Byte :=
  Config.identityChain ++ leBytes 2 d.rank ++ leBytes 4 (d.get F.GTE_ID_POS) ++ leBytes 1 p ++ leBytes 16 d.negotiated ++ nonce

/-- NONCE: this end sends its evidence over the peer's nonce, which takes one LMS leaf (R271, R383). -/
def execNonce (port : Fin 12) (bytes : List Byte) (s : State) : Host.Outcome State Fault Refusal :=
  if s.dev.pwr.pwrgd && s.dev.portState port == psAttesting && bytes.length == 48 && s.vault.leavesUsed < lmsLeaves then
    let d := s.dev
    let body := d.evidenceBody port bytes
    .next { s with
      vault := { s.vault with leavesUsed := s.vault.leavesUsed + 1 },
      dev := (d.setPort port { d.port port with nonceIn := bytes }).sendMgmt port 1 (body ++ Config.sign s.vault.leavesUsed body) }
  else .next s

/-! ### The rank (R269, R270) -/

/-- Every port that is ATTESTING or UP attests again. -/
def Dev.reattest (d : Dev) : Dev :=
  (List.range 12).foldl (fun d p => if d.portState p = psAttesting ∨ d.portState p = psUp then d.attest p else d) d

/-- The rule of object 0x2A00.01. -/
def rankRule (rank : Nat) (s : State) : Nat × State :=
  let d := s.dev
  if (d.tickState != tsOff && d.tickState != tsParked) || !d.on F.GTE_CTRL_BE_STOP || !d.on F.GTE_CTRL_BE_IDLE then (stPerm, s)
  else
    (stOk, { s with dev :=
      (d.puts [(F.GTE_ID_RANKED, b2n (rank != 0xFFFF)), (F.GTE_ID_RANK, rank)]).reattest })

/-- RANK_ASSIGNMENT. -/
def execRankAssignment (auth : Auth) (rank : Nat) (s : State) : Host.Outcome State Fault Refusal :=
  onAuth auth 0x2A0001 (leBytes 2 rank) (storedRules 0x2A0001 (leBytes 2 rank) (rankRule (rank % 2 ^ 16))) s

end Sys2Proof.Machine
end

