-- ==== Sys2Proof/Machine/Groups.lean ====
section
/-! DEFINITION. Thread groups: registers, launch segments, divergence and reconvergence, traps, launches and blocks (chapter 05). -/

namespace Sys2Proof.Machine

open Sys2Proof

/-! ### Groups and their registers -/

/-- Group states (TGD_STATE.STATE). -/
def gsEmpty : Nat := 0
def gsRunning : Nat := 1
def gsHaltPending : Nat := 2
def gsHalted : Nat := 3
def gsStepping : Nat := 4

/-- The bytes from one instruction to the next (notes/assumptions/12.md). -/
def instrBytes : Nat := 16

/-- The key of a group: its logical cluster and slot (R116). -/
def groupKey (c s : Nat) : Nat := c * 48 + s

/-- The group in a slot. -/
def Dev.group (d : Dev) (k : Nat) : Option Group := Table.get (fun _ => none) d.clus.groups k

/-- Writes it. -/
def Dev.setGroup (d : Dev) (k : Nat) (g : Option Group) : Dev :=
  { d with clus := { d.clus with groups := Table.set (fun _ => none) d.clus.groups k g } }

/-- The key of a vector register of a thread of a group. -/
def vregKey (k t r : Nat) : Nat := (k * 32 + t) * 256 + r

/-- A vector register; before the group writes it, a free value. -/
def Dev.vreg (d : Dev) (k : Nat) (g : Group) (t r : Nat) : Nat :=
  Table.get (fun x => Config.freeReg g.stamp x % 2 ^ 32) d.clus.vregs (vregKey k t r)

/-- Writes a vector register. -/
def Dev.setVreg (d : Dev) (k t r v : Nat) : Dev :=
  { d with clus := { d.clus with vregs := Table.ins d.clus.vregs (vregKey k t r) (v % 2 ^ 32) } }

/-- A value of `n` bytes in vector registers: 8 bytes take a register and the next, low word first (notes/assumptions/12.md). -/
def Dev.vval (d : Dev) (k : Nat) (g : Group) (t r n : Nat) : Nat :=
  if n = 8 then d.vreg k g t r + d.vreg k g t (r + 1) * 2 ^ 32 else d.vreg k g t r % 2 ^ (8 * n)

/-- Writes a value of `n` bytes. -/
def Dev.setVval (d : Dev) (k t r n v : Nat) : Dev :=
  if n = 8 then (d.setVreg k t r v).setVreg k t (r + 1) (v / 2 ^ 32) else d.setVreg k t r (v % 2 ^ (8 * n))

/-- The vector registers that a value of `n` bytes takes. -/
def regsOf (n : Nat) : Nat := if n = 8 then 2 else 1

/-- A uniform register; before the group writes it, a free value. -/
def Dev.ureg (d : Dev) (k : Nat) (g : Group) (r : Nat) : Nat :=
  Table.get (fun x => Config.freeReg g.stamp (2 ^ 40 + x) % 2 ^ 64) d.clus.uregs (k * 64 + r)

/-- Writes a uniform register. -/
def Dev.setUreg (d : Dev) (k r v : Nat) : Dev :=
  { d with clus := { d.clus with uregs := Table.ins d.clus.uregs (k * 64 + r) (v % 2 ^ 64) } }

/-- Drops the register contents of a group slot. -/
def Dev.dropRegs (d : Dev) (k : Nat) : Dev :=
  { d with clus := { d.clus with vregs := d.clus.vregs.filter (fun r => r.1 / 8192 != k), uregs := d.clus.uregs.filter fun r => r.1 / 64 != k } }

/-- The threads of a mask, ascending. -/
def threadsOf (m : Nat) : List Nat := (List.range 32).filter fun t => bit m t

/-- Takes the bits of `b` out of `a`. -/
def maskMinus (a b : Nat) : Nat := a - (a &&& b)

/-- Is every bit of `a` in `b`? -/
def maskSub (a b : Nat) : Bool := a &&& b == a

/-! ### Launches, blocks and segments -/

/-- A launch by its number. -/
def Dev.launchOf (d : Dev) (id : Nat) : Option Launch := d.clus.launches.find? fun l => l.id == id

/-- Changes it. -/
def Dev.mapLaunch (d : Dev) (id : Nat) (f : Launch → Launch) : Dev :=
  { d with clus := { d.clus with launches := d.clus.launches.map fun l => if l.id = id then f l else l } }

/-- A resident block. -/
def Dev.blockOf (d : Dev) (launch index : Nat) : Option Block := d.clus.blocks.find? fun b => b.launch == launch && b.index == index

/-- The lowest-numbered launch segment that contains every byte of an access (R104). -/
def findSeg (segs : List Segment) (va n : Nat) : Option Segment := segs.find? fun s => inside va n s.base s.size

/-- The check of one access: its physical address, or the trap status (R104). -/
def accessPa (segs : List Segment) (va n need : Nat) : Except Nat Nat :=
  match findSeg segs va n with
  | none => .error stBounds
  | some s =>
    if !rightsCover s.rights need then .error stPerm
    else if va % n ≠ 0 then .error stBounds
    else
      match extentPa s.extents va with
      | some pa => .ok pa
      | none => .error stBounds

/-- The fetch check: inside CODE_SEG, with the read right, aligned (R104). -/
def fetchStatus (l : Launch) (pc : Nat) : Nat :=
  match l.segs[l.codeSeg]? with
  | none => stBounds
  | some s =>
    if !inside pc instrBytes s.base s.size then stBounds
    else if !rightsCover s.rights 1 then stPerm
    else if pc % instrBytes ≠ 0 then stBounds
    else stOk

/-! ### Divergence and reconvergence (R110, R111) -/

/-- The first path of an entry that does not wait at the barrier, else its first path; with the other paths. -/
def pickPath (arrived live : Nat) (ps : List Path) : Option (Path × List Path) :=
  match ps.find? fun p => !maskSub (p.mask &&& live) arrived with
  | some p => some (p, ps.erase p)
  | none => match ps with
    | [] => none
    | p :: r => some (p, r)

/-- The entries set aside with a path. -/
def Group.subOf (g : Group) (p : Path) : List Reconv := p.sub.filterMap fun i => (g.store.find? fun e => e.1 == i).map (·.2)

/-- Runs on from where a path ended: the next path of the innermost entry, or the entry is popped and the mask restored; a group
without live threads ends (R110, R111). -/
def Group.settle : Nat → Group → Group
  | 0, g => g
  | n + 1, g =>
    if g.live = 0 then { g with state := gsEmpty, active := 0, stack := [], store := [], arrived := 0 }
    else
      match g.stack with
      | [] => g
      | e :: r =>
        if g.active ≠ 0 ∧ g.pc ≠ e.addr then g
        else
          match pickPath g.arrived g.live (e.paths.filter fun p => p.mask &&& g.live != 0 || !p.sub.isEmpty) with
          | none => settle n { g with stack := r, active := e.saved &&& g.live, pc := e.addr }
          | some (p, ps) =>
            settle n { g with stack := g.subOf p ++ { e with paths := ps } :: r, active := p.mask &&& g.live, pc := p.pc,
                              store := g.store.filter fun x => !p.sub.contains x.1 }

/-- Settles a group; 2,000 is more than the entries and paths a stack of 32 can hold. -/
def Group.settled (g : Group) : Group := Group.settle 2000 g

/-- A divergent branch: none where the stack is full (R110). -/
def Group.branch (g : Group) (reconv fall : Nat) (br : Branch) : Option Group :=
  match br with
  | .direct target taken =>
    let t := taken.toNat &&& g.active
    if t = 0 then some { g with pc := fall }
    else if t = g.active then some { g with pc := target }
    else if 32 ≤ g.stack.length then none
    else some { g with stack := ⟨reconv, g.active, t, [⟨target, t, []⟩]⟩ :: g.stack, active := maskMinus g.active t, pc := fall }
  | .indirect targets =>
    let at_ (t : Nat) : Nat := targets.getD t 0
    let ts := ((threadsOf g.active).map at_).mergeSort.eraseDups
    let maskFor (x : Nat) : Nat := (threadsOf g.active).foldl (fun m t => if at_ t = x then m + 2 ^ t else m) 0
    match ts with
    | [] => some { g with pc := fall }
    | [x] => some { g with pc := x }
    | x :: r =>
      if 32 ≤ g.stack.length then none
      else some { g with stack := ⟨reconv, g.active, maskMinus g.active (maskFor x), r.map fun y => ⟨y, maskFor y, []⟩⟩ :: g.stack,
                         active := maskFor x, pc := x }

/-- Numbers for entries set aside. -/
def Group.freshIds (g : Group) (n : Nat) : List Nat := natRange (g.store.foldl (fun m e => max m (e.1 + 1)) 0) n

/-- The active threads arrive at a block barrier. Threads of a divided group arrive path by path: while a live thread has not
arrived, the nearest entry with such a path runs it, and the path that arrived is set aside (R111). -/
def Group.arrive (g : Group) : Group :=
  let g := { g with arrived := g.arrived ||| g.active, pc := g.pc + instrBytes }
  if maskSub g.live g.arrived then g
  else
    match g.stack.findIdx? fun e => e.paths.any fun p => !maskSub (p.mask &&& g.live) g.arrived with
    | none => g
    | some i =>
      match g.stack[i]? with
      | none => g
      | some e =>
        match pickPath g.arrived g.live e.paths with
        | none => g
        | some (p, ps) =>
          let upper := g.stack.take i
          let ids := g.freshIds upper.length
          { g with stack := { e with paths := ps ++ [⟨g.pc, g.active, ids⟩] } :: g.stack.drop (i + 1),
                   store := g.store ++ ids.zip upper, active := p.mask &&& g.live, pc := p.pc }

/-! ### Ends: barriers, blocks, launches, traps -/

/-- The groups of a block that have not ended. -/
def Dev.liveGroups (d : Dev) (b : Block) : List (Nat × Group) :=
  b.groups.filterMap fun k => match d.group k with
    | some g => if g.state = gsEmpty then none else some (k, g)
    | none => none

/-- The barrier of a block releases when every live thread of every group has arrived (R111). -/
def Dev.barrierCheck (d : Dev) (b : Block) : Dev :=
  let gs := d.liveGroups b
  if gs.all (fun x => maskSub x.2.live x.2.arrived) then gs.foldl (fun d x => d.setGroup x.1 (some { x.2 with arrived := 0 })) d else d

/-- Does a group stand in a cluster of a scheduled partition? -/
def Dev.keyScheduled (d : Dev) (k : Nat) : Bool :=
  match d.clusterPart (k / 48) with
  | some p => d.on (F.ARB_PART_MODE p)
  | none => false

/-- DEBUG is held while any group of a scheduled partition is HALT_PENDING, HALTED or STEPPING (R119); in tick state OFF no
scheduled partition runs, so debug asserts nothing. -/
def Dev.debugUpdate (d : Dev) : Dev :=
  let any := d.clus.groups.any fun r => match r.2 with
    | some g => gsHaltPending ≤ g.state && d.keyScheduled r.1
    | none => false
  let d :=
    if any then (if d.tickState = tsOff then d else d.assertHold hcDebug)
    else if d.on F.TGD_SUM_DEBUG then d.clearHold hcDebug
    else d
  d.put F.TGD_SUM_DEBUG (b2n (any && d.held hcDebug))

/-- Ends every group of a block at once. -/
def Dev.endGroups (d : Dev) (b : Block) : Dev :=
  (d.liveGroups b).foldl (fun d x => d.setGroup x.1 (some { x.2 with live := 0 }.settled)) d

/-- The clusters a launch may use. -/
def Dev.launchPhys (d : Dev) (l : Launch) : List Nat := (natRange l.first l.count).filterMap d.physOf

/-- Releases the bindings of a queued launch (R226). -/
def Dev.releaseLaunch (d : Dev) (l : Launch) : Dev :=
  if l.queue.isNone then d
  else (d.launchPhys l).foldl (fun d c => l.segs.foldl (fun d s => d.release c l.root s.base s.size) d) d

/-- The status and result of a launch that has ended: ABORTED_RECALL after a recall, else the status and index of its lowest trapped
block, else OK (R105, R115). -/
def launchResult (l : Launch) : Nat × Nat :=
  if l.recalled then (stAbortedRecall, 0)
  else
    match l.trapped with
    | [] => (stOk, 0)
    | t :: r => let m := r.foldl (fun a b => if b.1 < a.1 then b else a) t
      (m.2, m.1)

/-- A launch completes when its last block has ended, or when it stopped and no block is resident: a device release on every cluster
used, then its entry ends with its status (R109, R115, R161). -/
def Dev.launchCheck (d : Dev) (id : Nat) : Dev :=
  match d.launchOf id with
  | none => d
  | some l =>
    if (d.clus.blocks.any fun b => b.launch == id) || !(l.stopped || l.ended == l.grid) then d
    else
      let d := (d.launchPhys l).foldl (fun d c => d.l1WriteBack c) d
      let d := d.releaseLaunch l
      let d := { d with clus := { d.clus with launches := d.clus.launches.filter fun x => x.id != id } }
      match l.queue with
      | some (q, s) => d.finishEntry q s (launchResult l).1 (launchResult l).2
      | none => d

/-- The trap record: cluster, block, group, instruction address, active mask, faulting address, status (R115). -/
def Dev.trapEvent (d : Dev) (phys : Nat) (g : Group) (status addr : Nat) : Dev :=
  d.raise evTrap status phys [g.block, g.index, g.pc, g.active, addr]

/-- What follows a trap that ends the block (R115): a queued launch places no more blocks; in a scheduled partition the tick
faults and the slot's launch ends. -/
def Dev.trapEnd (d : Dev) (phys : Nat) (g : Group) (b : Block) (status addr : Nat) : Dev :=
  let d := d.trapEvent phys g status addr
  let d := d.mapLaunch b.launch fun l => { l with stopped := true, trapped := (b.index, status) :: l.trapped }
  match (d.launchOf b.launch).bind Launch.slot with
  | some (c, n) =>
    let d := (d.clus.blocks.filter fun x => x.launch == b.launch).foldl (fun d x => d.endGroups x) d
    d.tickFault ⟨(d.clusterPart c).getD 0, engLaunch, c, n⟩ status 2 addr
  | none => d.endGroups b

/-- A trap stops the group at its instruction. Under trap-stop it is HALTED with the status shown; otherwise its block ends (R115,
R117). -/
def Dev.trapGroup (d : Dev) (k phys : Nat) (g : Group) (b : Block) (status addr : Nat) : Dev :=
  if d.on F.TGD_CTRL_TRAP_STOP then (d.setGroup k (some { g with state := gsHalted, trap := status, trapAddr := addr })).debugUpdate
  else (d.trapEnd phys g b status addr).debugUpdate

/-! ### Running one instruction -/

/-- A group that executes, with its surroundings. -/
structure Gx where
  k : Nat
  phys : Nat
  g : Group
  l : Launch
  b : Block
  deriving DecidableEq, Repr

/-- What an instruction does: it completes, it set the instruction address itself, it traps, or it waits. -/
inductive IRes
  | done (d : Dev)
  | jump (g : Group) (d : Dev)
  | trap (status addr : Nat) (d : Dev)
  | wait

/-- Where a group reference leads. -/
def Dev.gx (d : Dev) (r : GroupRef) : Option Gx :=
  let k := groupKey r.cluster r.slot
  match d.group k, d.physOf r.cluster with
  | some g, some phys =>
    (match d.launchOf g.launch, d.blockOf g.launch g.block with
     | some l, some b => some ⟨k, phys, g, l, b⟩
     | _, _ => none)
  | _, _ => none

/-- May a group execute an instruction: RUNNING, or STEPPING with its step to come, and not waiting at a barrier? -/
def Group.canRun (g : Group) : Bool :=
  (g.state == gsRunning || (g.state == gsStepping && !g.stepped)) && g.active != 0 && (g.active &&& g.arrived) == 0

/-- After an instruction: the group settles, a step is done, a released barrier lets the block go on. -/
def Dev.afterInstr (d : Dev) (x : Gx) (g : Group) : Dev :=
  ((d.setGroup x.k (some { g with stepped := g.state == gsStepping }.settled)).barrierCheck x.b).debugUpdate

/-- Executes one instruction of a group, after its fetch check (R104). -/
def Dev.instr (r : GroupRef) (f : Gx → Dev → IRes) (d : Dev) : Dev :=
  match d.gx r with
  | none => d
  | some x =>
    if !x.g.canRun then d
    else if fetchStatus x.l x.g.pc ≠ stOk then d.trapGroup x.k x.phys x.g x.b (fetchStatus x.l x.g.pc) x.g.pc
    else
      match f x d with
      | .done d =>
        (match d.group x.k with
         | some g => d.afterInstr x { g with pc := g.pc + instrBytes }
         | none => d)
      | .jump g d => d.afterInstr x g
      | .trap st a d => d.trapGroup x.k x.phys x.g x.b st a
      | .wait => d

/-- Does an instruction name a vector register beyond REGS − 1? Such an encoding is undefined (notes/assumptions/12.md). -/
def badReg (x : Gx) (l : List (Nat × Nat)) : Bool := l.any fun r => x.g.regs < r.1 + r.2

/-! ### The commands: control flow -/

/-- DIVERGENT_BRANCH (R110): a push onto a full stack traps with BOUNDS. -/
def execDivergentBranch (g : GroupRef) (reconv : Nat) (fall : Nat) (br : Branch) (s : State) : Host.Outcome State Fault Refusal :=
  onDev (Dev.instr g fun x d => match x.g.branch reconv fall br with
    | some h => .jump h d
    | none => .trap stBounds 0 d) s

/-- THREAD_EXIT (R111): exiting threads leave the live mask; the last one ends the group. -/
def execThreadExit (g : GroupRef) (mask : BitVec 32) (s : State) : Host.Outcome State Fault Refusal :=
  onDev (Dev.instr g fun x d =>
    let m := mask.toNat &&& x.g.active
    let h := { x.g with live := maskMinus x.g.live m, active := maskMinus x.g.active m, arrived := maskMinus x.g.arrived m }
    .jump { h with pc := x.g.pc + instrBytes } d) s

/-- BLOCK_BARRIER (R111, R161): the block AR fence that goes with it has no cache action (R160). -/
def execBlockBarrier (g : GroupRef) (s : State) : Host.Outcome State Fault Refusal :=
  onDev (Dev.instr g fun x d => .jump x.g.arrive d) s

/-! ### Launch checks (R106) and occupancy (R107) -/

/-- Registers per thread as allocated. -/
def ralloc (regs : Nat) : Nat := (regs + 7) / 8 * 8

/-- M of R107: how many blocks fit on an empty cluster whose window has `window` bytes. -/
def occupancy (groups regs lsUnits window : Nat) : Nat :=
  let m := min 16 (min (48 / groups) (4096 / (groups * ralloc regs)))
  if lsUnits = 0 then m else min m (window / (lsUnits * 0x1000))

/-- LS_BASE of a launch whose local store the device allocates. -/
def lsAuto : Nat := 0xFFFFFF

/-- Check 6: one block fits an empty cluster with `window` bytes, at an explicit LS_BASE if there is one. -/
def fitsCluster (groups regs lsUnits lsBase window : Nat) : Bool :=
  1 ≤ occupancy groups regs lsUnits window && (lsBase == lsAuto || (lsBase % 0x1000 == 0 && lsBase + lsUnits * 0x1000 ≤ window))

/-- Checks 1 and 2, with the no-op between them: a status, or none where the later checks go on. -/
def Dev.launchCheck12 (d : Dev) (m : LaunchDesc) (modeZeros : Bool) : Option Nat :=
  if !m.zeros || !modeZeros || (m.strict && !d.has ftStrict) then some stFeature
  else if m.grid = 0 ∨ m.groups = 0 then some stOk
  else if 32 < m.groups || m.regs < 16 || 32 < m.argWords || 16 < m.segCount || 1024 < m.lsUnits then some stBounds
  else none

/-- Checks 4 and 5 against the launch segments. -/
def launchCheck45 (m : LaunchDesc) (segs : List Segment) : Nat :=
  let inSeg (i a n : Nat) : Bool := match segs[i]? with
    | some s => inside a n s.base s.size
    | none => false
  let readable (i : Nat) : Bool := match segs[i]? with
    | some s => rightsCover s.rights 1
    | none => false
  if !inSeg m.codeSeg m.entryPc instrBytes || m.entryPc % 16 != 0
    || (m.argWords != 0 && (!inSeg m.argSeg m.argAddr (8 * m.argWords) || m.argAddr % 8 != 0)) then stBounds
  else if !readable m.codeSeg || (m.argWords != 0 && !readable m.argSeg) then stPerm
  else stOk

/-- The clusters a queued launch names. -/
def launchRange (m : LaunchDesc) : List Nat := natRange m.first m.count

/-- Checks 6, 7 and 8 of a queued launch. -/
def Dev.launchCheck678 (d : Dev) (part : Nat) (m : LaunchDesc) : Nat :=
  let win (c : Nat) : Option Nat := (d.physOf c).map fun p => d.windowAt part p (if m.setting = 0 then d.get (F.CLU_SRAM_SETTING p) else m.setting)
  if (launchRange m).any (fun c => match win c with
      | some w => !fitsCluster m.groups m.regs m.lsUnits m.lsBase w
      | none => false) then stBounds
  else if m.count = 0 ∨ d.get F.IDF_ID_CLUSTERS < m.first + m.count then stBounds
  else if (launchRange m).any (fun c => d.clusterPart c != some part) then stPerm
  else stOk

/-- The launch segments of a segment list (R68, R102): none where a reserved field is set. -/
def parseSegs (b : List Byte) (n : Nat) : List (Bool × Segment) :=
  (List.range n).map fun i =>
    let w (j : Nat) := leWord (b.drop (32 * i)) j
    (bits (w 0) 63 56 == 0 && w 2 / 8 == 0 && w 3 == 0, ⟨bits (w 0) 55 0, w 1, w 2 % 8, []⟩)

/-- The entries of a list are well formed: aligned, a nonzero multiple of 64 KiB, inside the address space. -/
def segOk (s : Segment) : Bool := s.base % 0x10000 == 0 && s.size != 0 && s.size % 0x10000 == 0 && s.base + s.size ≤ 2 ^ 56

/-- Makes a launch of a checked descriptor and sets the waiting SRAM setting of the clusters that need it (R93). -/
def Dev.makeLaunch (d : Dev) (m : LaunchDesc) (queue : Option (Nat × Nat)) (part root : Nat) (segs : List Segment) (first count : Nat)
    (slot : Option (Nat × Nat)) : Dev :=
  let l : Launch :=
    { id := d.clus.nextLaunch, queue := queue, part := part, root := root, entryPc := m.entryPc, codeSeg := m.codeSeg,
      argSeg := m.argSeg, argAddr := m.argAddr, argWords := m.argWords, grid := m.grid, groups := m.groups, regs := m.regs,
      lsBase := m.lsBase, lsUnits := m.lsUnits, setting := m.setting, strict := m.strict, first := first, count := count, segs := segs,
      next := 0, ended := 0, stopped := false, recalled := false, trapped := [], slot := slot }
  let d := { d with clus := { d.clus with launches := d.clus.launches ++ [l], nextLaunch := d.clus.nextLaunch + 1 } }
  (d.launchPhys l).foldl (fun d c =>
    if m.setting = 0 ∨ m.setting = d.get (F.CLU_SRAM_SETTING c) ∨ d.get (F.CLU_SRAM_PENDING c) ≠ 0 then d
    else d.put (F.CLU_SRAM_PENDING c) m.setting) d

/-- Takes the holder records of a queued launch's segments; none while there are no free records (R227). -/
def Dev.holdSegs (d : Dev) (root : Nat) (cs : List Nat) (segs : List Segment) : Option Dev :=
  cs.foldl (fun d c => segs.foldl (fun d s => d.bind fun d => d.hold c root s.base s.size) d) (some d)

/-- Binds the segments one after the other (R103, R225). -/
def Dev.bindSegs (q : Nat × Nat) (root part holder : Nat) : List Segment → Dev → Except Got (List Segment) × Dev
  | [], d => (.ok [], d)
  | s :: r, d =>
    match d.obtain ⟨0, holder, root, part, s.base, s.size, s.rights, true, some q⟩ with
    | (.ok l, d) =>
      if 16 < l.length then (.error (.stop stBounds), d)
      else
        (match Dev.bindSegs q root part holder r d with
         | (.ok t, d) => (.ok ({ s with extents := l } :: t), d)
         | x => x)
    | (g, d) => (.error g, d)

/-- A LAUNCH entry: the checks of R106 in order, the binding of its segments, then the launch waits for its blocks to be placed. A
translation fault parks it (R103). -/
def Dev.launchEntry (x : Queue) (e : Entry) (d : Dev) : Dev :=
  let q := (e.queue, e.seq)
  let fin (st : Nat) (d : Dev) : Dev := d.finishEntry e.queue e.seq st 0
  let m := launchDesc e.desc
  if d.clus.launches.any fun l => l.queue == some q then d
  else
    match d.launchCheck12 m m.zerosQueued with
    | some st => fin st d
    | none =>
      match (if m.segCount = 0 then (.ok [], d) else d.obtain ⟨0, holderQueue, x.root, x.part, m.segList, 32 * m.segCount, 1, false, some q⟩) with
      | (.parked, d) => d
      | (.stop st, d) => fin st d
      | (.ok l, d) =>
        let runs := extentRuns l m.segList (32 * m.segCount)
        if d.runsWait runs then d
        else if (d.readRuns runs false).1 ≠ stOk then fin (d.readRuns runs false).1 (d.readRuns runs false).2
        else
          let ss := parseSegs (d.readVa l m.segList (32 * m.segCount)) m.segCount
          let segs := ss.map (·.2)
          if ss.any fun r => !r.1 then fin stFeature d
          else if m.segList % 32 ≠ 0 ∨ !segs.all segOk then fin stBounds d
          else if launchCheck45 m segs ≠ stOk then fin (launchCheck45 m segs) d
          else if d.launchCheck678 x.part m ≠ stOk then fin (d.launchCheck678 x.part m) d
          else
            let cs := (launchRange m).filterMap d.physOf
            match Dev.bindSegs q x.root x.part (cs.headD 0) segs d with
            | (.error (.stop st), d) => fin st d
            | (.error _, d) => d
            | (.ok bound, d) =>
              match d.holdSegs x.root cs segs with
              | none => d
              | some d => d.makeLaunch m (some q) x.part x.root bound m.first m.count none

/-- LAUNCH. -/
def execLaunch (q : Nat) (seq : Nat) (s : State) : Host.Outcome State Fault Refusal :=
  onDev (Dev.onEntry q seq tyLaunch Dev.launchEntry) s

/-- A LAUNCH slot: an implied device acquire, then its launch waits for its setting and its blocks (R109, R161). -/
def Dev.launchSlot (d : Dev) (p cluster : Nat) (r : SlotRef) (s : Slot) : Dev :=
  match d.physOf cluster with
  | none => d
  | some phys =>
    let m := launchDesc (d.imageDesc p s.desc)
    let segs := (m.segMap.take m.segCount).map fun i => (d.imageSegs p).getD i ⟨0, 0, 0, []⟩
    let d := d.l1Invalidate phys
    match d.launchCheck12 m m.zerosSched with
    | some st => if st = stOk then d else d.tickFault r st 0 0
    | none => d.makeLaunch m none p 0 segs cluster 1 (some (cluster, r.slot))

/-- THREAD_GROUP_LAUNCH. -/
def execThreadGroupLaunch (p : Fin 8) (cluster : Fin 384) (s : State) : Host.Outcome State Fault Refusal :=
  onDev (Dev.slotRun p engLaunch cluster opLaunch fun r sl d => some (d.launchSlot p cluster r sl)) s

/-! ### Placing blocks (R101, R107, R108) -/

/-- The groups that stand in a cluster's slots. -/
def Dev.residents (d : Dev) (c : Nat) : List (Nat × Group) :=
  (List.range 48).filterMap fun s => (d.group (groupKey c s)).map fun g => (s, g)

/-- The blocks resident on a physical cluster. -/
def Dev.blocksOn (d : Dev) (phys : Nat) : List Block := d.clus.blocks.filter fun b => b.phys == phys

/-- Is a local-store range free of the allocations of resident blocks? -/
def Dev.lsFree (d : Dev) (phys a n : Nat) : Bool := !(d.blocksOn phys).any fun b => n != 0 && b.lsBytes != 0 && overlaps a n b.lsBase b.lsBytes

/-- Where a block of a launch may stand in local store: its block slot and base (R108). -/
def Dev.lsPlace (d : Dev) (l : Launch) (phys : Nat) : Option (Nat × Nat) :=
  let n := l.lsUnits * 0x1000
  let win := d.window l.part phys
  let m := occupancy l.groups l.regs l.lsUnits win
  let taken (j : Nat) : Bool := (d.blocksOn phys).any fun b => b.launch == l.id && b.slotNo == j
  let fits (a : Nat) : Bool := a + n ≤ win && d.lsFree phys a n
  if l.lsBase = lsAuto then
    let starts := (0 :: (d.blocksOn phys).map fun b => b.lsBase + b.lsBytes).mergeSort
    (starts.find? fits).map fun a => (0, a)
  else if l.slot.isSome then
    let j := if m = 0 then 0 else l.next % m
    if m ≠ 0 ∧ !taken j ∧ fits (l.lsBase + j * n) then some (j, l.lsBase + j * n) else none
  else ((List.range m).find? fun j => !taken j && fits (l.lsBase + j * n)).map fun j => (j, l.lsBase + j * n)

/-- Is a swap of this cluster under way in a queued partition (R98 step 1)? -/
def Dev.swapHolds (d : Dev) (c : Nat) : Bool :=
  match d.clus.swaps with
  | w :: _ => w.logical == c && !(match d.clusterPart c with
    | some p => d.on (F.ARB_PART_MODE p)
    | none => false)
  | [] => false

/-- Is the SRAM setting a launch asks for in force on a cluster? -/
def Dev.settingReady (d : Dev) (l : Launch) (phys : Nat) : Bool := l.setting == 0 || l.setting == d.get (F.CLU_SRAM_SETTING phys)

/-- Where the next block of a launch could start on a cluster now: physical cluster, block slot, local-store base, group slots. -/
def Dev.placeOn (d : Dev) (l : Launch) (c : Nat) : Option (Nat × Nat × Nat × List Nat) :=
  match d.physOf c with
  | none => none
  | some phys =>
    let here := d.residents c
    let free := (List.range 48).filter fun s => (d.group (groupKey c s)).isNone
    let units := here.foldl (fun n x => n + ralloc x.2.regs) 0
    if d.swapHolds c || !d.settingReady l phys || free.length < l.groups || 4096 < units + l.groups * ralloc l.regs
      || 16 ≤ (d.blocksOn phys).length then none
    else (d.lsPlace l phys).map fun r => (phys, r.1, r.2, free.take l.groups)

/-- The scheduler with the fewest resident groups, the lowest-numbered of those (R101). -/
def pickSched (counts : List Nat) : Nat :=
  (List.range 4).foldl (fun b i => if counts.getD i 0 < counts.getD b 0 then i else b) 0

/-- The schedulers of a block's groups in ascending order. -/
def assignScheds : Nat → List Nat → List Nat
  | 0, _ => []
  | n + 1, counts =>
    let i := pickSched counts
    i :: assignScheds n (counts.set i (counts.getD i 0 + 1))

/-- A new group. -/
def newGroup (l : Launch) (block index sched stamp : Nat) : Group :=
  { state := gsRunning, launch := l.id, block := block, index := index, sched := sched, pc := l.entryPc, live := 2 ^ 32 - 1,
    active := 2 ^ 32 - 1, stack := [], store := [], trap := 0, trapAddr := 0, regs := l.regs, arrived := 0, tickets := [], stepped := false,
    stamp := stamp }

/-- Reads the argument words of a launch: status, words. -/
def Dev.readArgs (d : Dev) (l : Launch) : Nat × List Nat × Dev :=
  if l.argWords = 0 then (stOk, [], d)
  else
    match l.segs[l.argSeg]? with
    | none => (stOk, [], d)
    | some s =>
      let runs := extentRuns s.extents l.argAddr (8 * l.argWords)
      let r := d.readRuns runs false
      (r.1, (List.range l.argWords).map fun i => leWord (d.readVa s.extents l.argAddr (8 * l.argWords)) i, r.2)

/-- Starts the next block of a launch where it may stand: an implied device acquire, groups with schedulers, masks and arguments
(R101, R108, R109, R161). Arguments that meet an uncorrectable error trap the block's first group (R391). -/
def Dev.startBlock (d : Dev) (l : Launch) (c phys slotNo lsBase : Nat) (slots : List Nat) : Dev :=
  let d := d.l1Invalidate phys
  let (st, args, d) := d.readArgs l
  let (stamp, d) := d.draw
  let counts := (List.range 4).map fun i => (d.residents c).countP fun x => x.2.sched == i
  let scheds := assignScheds l.groups counts
  let b : Block := ⟨l.id, l.next, phys, slotNo, slots.map (groupKey c), lsBase, l.lsUnits * 0x1000⟩
  let d := { d with clus := { d.clus with blocks := d.clus.blocks ++ [b] } }
  let d := (b.groups.zip scheds).zipIdx.foldl (fun d r =>
    let d := (d.dropRegs r.1.1).setGroup r.1.1 (some (newGroup l l.next r.2 r.1.2 stamp))
    args.zipIdx.foldl (fun d a => d.setUreg r.1.1 a.2 a.1) d) d
  let d := d.mapLaunch l.id fun l => { l with next := l.next + 1 }
  if st = stOk then d
  else
    match b.groups with
    | [] => d
    | k :: _ =>
      match d.group k with
      | some g => d.trapGroup k phys g b st l.argAddr
      | none => d

/-- Do the argument reads of a launch stall? -/
def Dev.argsWait (d : Dev) (l : Launch) : Bool :=
  match l.segs[l.argSeg]? with
  | some s => l.argWords != 0 && d.runsWait (extentRuns s.extents l.argAddr (8 * l.argWords))
  | none => false

/-- BLOCK_START: the next block of a launch starts on a cluster if that is the lowest-numbered one of the range that can take it
(R108); a slot's launch first repeats check 6 (R106). -/
def Dev.blockStart (d : Dev) (id c : Nat) : Dev :=
  match d.launchOf id with
  | none => d
  | some l =>
    if l.stopped || l.next == l.grid || !(l.first ≤ c && c < l.first + l.count) then d
    else
      match d.physOf c with
      | none => d
      | some phys =>
        if !d.settingReady l phys then
          (if d.get (F.CLU_SRAM_PENDING phys) = 0 then d.put (F.CLU_SRAM_PENDING phys) l.setting else d)
        else
          match l.slot with
          | some (sc, n) =>
            if l.next = 0 && !fitsCluster l.groups l.regs l.lsUnits l.lsBase (d.window l.part phys) then
              ((d.mapLaunch id fun l => { l with stopped := true }).launchCheck id).tickFault ⟨l.part, engLaunch, sc, n⟩ stBounds 0 0
            else if l.next = 0 && d.tick.quench then (d.mapLaunch id fun l => { l with stopped := true }).launchCheck id
            else
              (match d.placeOn l c with
               | some (phys, j, a, slots) => if d.argsWait l then d else d.startBlock l c phys j a slots
               | none => d)
          | none =>
            if (natRange l.first (c - l.first)).any fun c' => (d.placeOn l c').isSome then d
            else
              (match d.placeOn l c with
               | some (phys, j, a, slots) => if d.argsWait l then d else d.startBlock l c phys j a slots
               | none => d)

/-- BLOCK_START. -/
def execBlockStart (launchId : Nat) (cluster : Fin 384) (s : State) : Host.Outcome State Fault Refusal :=
  onDev (fun d => d.blockStart launchId cluster) s

/-- Has every group of a block ended, with every ticket closed (R111)? -/
def Dev.blockDone (d : Dev) (b : Block) : Bool :=
  b.groups.all fun k => match d.group k with
    | some g => g.state == gsEmpty && g.tickets.all fun t => !t.isOpen
    | none => true

/-- A block ends and frees its resources; the launch may complete (R109, R111). -/
def Dev.blockEnd (d : Dev) (c block id : Nat) : Dev :=
  match d.blockOf id block, d.physOf c with
  | some b, some phys =>
    if b.phys ≠ phys || !d.blockDone b then d
    else
      let d := b.groups.foldl (fun d k => d.setGroup k none) d
      let d := { d with clus := { d.clus with blocks := d.clus.blocks.filter fun x => !(x.launch == id && x.index == block) } }
      ((d.mapLaunch id fun l => { l with ended := l.ended + 1 }).launchCheck id).debugUpdate
  | _, _ => d

/-- BLOCK_END. -/
def execBlockEnd (cluster : Fin 384) (block : Nat) (launchId : Nat) (s : State) : Host.Outcome State Fault Refusal :=
  onDev (fun d => d.blockEnd cluster block launchId) s

/-- A recall covers a segment of queued launches of a cluster: they place no more blocks and their resident blocks end (R105). -/
def Dev.recallLaunches (d : Dev) (phys root va len : Nat) : Dev :=
  let hit := d.clus.launches.filter fun l =>
    l.queue.isSome && l.root == root && l.segs.any (fun s => overlaps s.base s.size va len) && (d.launchPhys l).contains phys
  hit.foldl (fun d l =>
    let d := d.mapLaunch l.id fun l => { l with stopped := true, recalled := true }
    let d := (d.clus.blocks.filter fun b => b.launch == l.id).foldl (fun d b => d.endGroups b) d
    d.launchCheck l.id) d.debugUpdate

end Sys2Proof.Machine
end

