-- ==== Sys2Proof/Machine/Copies.lean ====
section
/-! DEFINITION. Copy engines: the copy descriptor, its checks, pieces and turns, queued copies local and remote, scheduled copies and
best-effort windows (R71, R321 to R326, R328, R333). -/

namespace Sys2Proof.Machine

open Sys2Proof

/-! ### The descriptor (R322) -/

/-- A copy descriptor. -/
structure CopyDesc where
  src : Nat
  dst : Nat
  srcStride : Nat
  dstStride : Nat
  rows : Nat
  rowBytes : Nat
  rank : Nat
  remote : Nat
  zeros : Bool
  deriving DecidableEq, Repr

/-- Reads it. -/
def copyDesc (b : List Byte) : CopyDesc :=
  let w (i : Nat) := leWord b i
  let remote := bits (w 5) 49 48
  let rank := bits (w 5) 63 50
  { src := w 0, dst := w 1, srcStride := w 2, dstStride := w 3, rows := bits (w 4) 63 32, rowBytes := bits (w 4) 31 0, rank := rank,
    remote := remote,
    zeros := bits (w 5) 47 0 == 0 && (b.drop 48).all (· == 0#8) && remote != 3 && (remote != 0 || rank == 0) }

/-- The bytes it moves. -/
def CopyDesc.total (m : CopyDesc) : Nat := m.rows * m.rowBytes

/-- The ranges of one side: one span where the rows overlap or touch, else one for each row. -/
def copyRows (a stride rows rowBytes : Nat) : List (Nat × Nat) :=
  if stride ≤ rowBytes then [(a, (rows - 1) * stride + rowBytes)] else (List.range rows).map fun r => (a + r * stride, rowBytes)

/-- The local ranges of the source. -/
def CopyDesc.srcRows (m : CopyDesc) : List (Nat × Nat) := if m.remote = 1 then [] else copyRows m.src m.srcStride m.rows m.rowBytes

/-- The local ranges of the destination. -/
def CopyDesc.dstRows (m : CopyDesc) : List (Nat × Nat) := if m.remote = 2 then [] else copyRows m.dst m.dstStride m.rows m.rowBytes

/-- The piece at byte `o` of the transfer with room for `room` bytes: source address, destination address, length (R324). -/
def CopyDesc.piece (m : CopyDesc) (o room : Nat) : Nat × Nat × Nat :=
  let r := o / m.rowBytes
  let c := o % m.rowBytes
  let s := m.src + r * m.srcStride + c
  let t := m.dst + r * m.dstStride + c
  (s, t, min (min (m.rowBytes - c) room) (min (4096 - s % 4096) (4096 - t % 4096)))

/-- Moves one local piece between physical runs: the status it meets. -/
def Dev.movePiece (d : Dev) (src dst : List (Nat × Nat)) (due : Bool) : Nat × Dev :=
  match d.readRuns src due with
  | (0, d) =>
    if d.writeRunsStatus dst ≠ stOk then d.tryWriteRuns dst
    else (stOk, d.writeRuns dst (src.flatMap fun r => d.read r.1 r.2))
  | x => x

/-- Does a list of extents or runs reach host memory? -/
def hostRuns (l : List (Nat × Nat)) : Bool := l.any fun r => isHost r.1 && r.2 != 0

/-- The physical runs of extents. -/
def extentAll (l : List Extent) : List (Nat × Nat) := l.map fun e => (e.pa, e.len)

/-- Order 6 of R323: which side may not be host memory. -/
def copyHostOk (engine : Nat) (src dst : List (Nat × Nat)) : Bool := if engine < 8 then !hostRuns dst else !hostRuns src

/-! ### Opening a queued copy (R323, R325) -/

/-- The open descriptor of an entry. -/
def Dev.copyOpen (d : Dev) (q seq : Nat) : Option CopyOpen := d.host.copies.find? fun c => c.queue == q && c.seq == seq

/-- The descriptors open on an engine. -/
def Dev.copiesOn (d : Dev) (engine : Nat) : List CopyOpen := d.host.copies.filter (·.engine == engine)

/-- Puts the list of open descriptors. -/
def Dev.setCopies (d : Dev) (l : List CopyOpen) : Dev := { d with host := { d.host with copies := l } }

/-- The waiters that ask for the ranges of one side. -/
def copyWaiters (x : Queue) (e : Entry) (need : Nat) (l : List (Nat × Nat)) : List Waiter :=
  l.map fun r => ⟨0, holderCopy e.engine, x.root, x.part, r.1, r.2, need, false, some (e.queue, e.seq)⟩

/-- Orders 1 to 3 of R323, with the address words' bounds. -/
def Dev.copyCheck (d : Dev) (x : Queue) (e : Entry) (m : CopyDesc) : Nat :=
  if !m.zeros || 2 ^ 56 ≤ m.src || 2 ^ 56 ≤ m.dst || (m.remote != 0 && !d.has ftRemote) then stFeature
  else if m.total = 0 then stOk
  else if !bit (d.get (F.ARB_PART_CE_MASK x.part)) e.engine then stPerm
  else if m.remote != 0 && (!d.on F.GTE_ID_RANKED || m.rank == d.rank || !d.on (F.GTE_RANK_VALID m.rank)) then stBounds
  else if (m.srcRows ++ m.dstRows).any fun r => 2 ^ 56 < r.1 + r.2 then stBounds
  else if m.remote = 1 ∧ (copyRows m.src m.srcStride m.rows m.rowBytes).any fun r => 2 ^ 48 < r.1 + r.2 then stBounds
  else if m.remote = 2 ∧ (copyRows m.dst m.dstStride m.rows m.rowBytes).any fun r => 2 ^ 48 < r.1 + r.2 then stBounds
  else stOk

/-- Takes holder records for ranges; none while there is no free record (R227). -/
def Dev.holdAll (id root : Nat) : List (Nat × Nat) → Dev → Option Dev
  | [], d => some d
  | r :: t, d => (d.hold id root r.1 r.2).bind (Dev.holdAll id root t)

/-- Releases them. -/
def Dev.releaseAll (d : Dev) (id root : Nat) (l : List (Nat × Nat)) : Dev := l.foldl (fun d r => d.release id root r.1 r.2) d

/-- Ends an open copy: its entry finishes, its bindings go, HST_CE shows its status. -/
def Dev.endCopy (d : Dev) (x : Queue) (e : Entry) (status result : Nat) : Dev :=
  let m := copyDesc e.desc
  let open_ := (d.copyOpen e.queue e.seq).isSome
  let d := d.setCopies (d.host.copies.filter fun c => !(c.queue == e.queue && c.seq == e.seq))
  let d := if open_ then d.releaseAll (holderCopy e.engine) x.root (m.srcRows ++ m.dstRows) else d
  (d.puts [(F.HST_CE_OPEN e.engine, (d.copiesOn e.engine).length), (F.HST_CE_LAST e.engine, status)]).finishEntry e.queue e.seq status result

/-- Opens a copy on its engine; it waits while eight are open. -/
def Dev.copyStart (d : Dev) (x : Queue) (e : Entry) (m : CopyDesc) : Dev :=
  let st := d.copyCheck x e m
  if st ≠ stOk ∨ m.total = 0 then d.endCopy x e st 0
  else if m.remote = 2 ∧ d.lacksTo m.rank [ftGate] ∨ m.remote = 1 ∧ d.lacksTo m.rank [ftGate] then d.endCopy x e stFeature 0
  else if 8 ≤ (d.copiesOn e.engine).length then d
  else
    match Dev.obtainAll (copyWaiters x e 1 m.srcRows) d with
    | (.parked, d) => d
    | (.stop st, d) => d.endCopy x e st 0
    | (.ok src, d) =>
      match Dev.obtainAll (copyWaiters x e 2 m.dstRows) d with
      | (.parked, d) => d
      | (.stop st, d) => d.endCopy x e st 0
      | (.ok dst, d) =>
        if !copyHostOk e.engine (extentAll src) (extentAll dst) then d.endCopy x e stPerm 0
        else
          match Dev.holdAll (holderCopy e.engine) x.root (m.srcRows ++ m.dstRows) d with
          | none => d
          | some d =>
            let d := d.setCopies (d.host.copies ++ [⟨e.engine, e.queue, e.seq, 0⟩])
            d.put (F.HST_CE_OPEN e.engine) (d.copiesOn e.engine).length

/-! ### Turns (R325) -/

/-- The extents of a side of a piece, looked up without a trace: none where the lookup faults. -/
def Dev.peek (d : Dev) (x : Queue) (va n need : Nat) : Option (List (Nat × Nat)) :=
  match (d.translate x.root x.part va n need).1 with
  | .ok l => some (extentRuns l va n)
  | _ => none

/-- Must the next piece of a copy wait: host memory without Bus Master Enable, a stalled access, requests stopped? -/
def Dev.copyHeld (d : Dev) (x : Queue) (m : CopyDesc) (o : Nat) : Bool :=
  let (s, t, n) := m.piece o 0x10000
  let waits (l : Option (List (Nat × Nat))) : Bool := (l.map d.runsWait).getD false
  (m.remote != 0 && !d.mayRequest) || (m.remote != 1 && waits (d.peek x s n 1)) || (m.remote != 2 && waits (d.peek x t n 2))

/-- May an open copy take a turn now? -/
def Dev.copyMovable (d : Dev) (c : CopyOpen) : Bool :=
  match d.queue c.queue, d.entry c.queue c.seq with
  | some x, some e =>
    let m := copyDesc e.desc
    c.moved < m.total && !d.entryParked c.queue c.seq && !d.copyHeld x m c.moved
  | _, _ => false

/-- The PRIO of an open copy's queue. -/
def Dev.copyPrio (d : Dev) (c : CopyOpen) : Nat := ((d.queue c.queue).map Queue.prio).getD 0

/-- The open copy that an engine serves next: the highest PRIO, then the order of turns. -/
def Dev.copyNext (d : Dev) (engine : Nat) : Option CopyOpen :=
  let l := (d.copiesOn engine).filter d.copyMovable
  let best := l.foldl (fun p c => max p (d.copyPrio c)) 0
  l.find? fun c => d.copyPrio c == best

/-- Does a scheduled copy slot of the engine run now (R71)? -/
def Dev.copySlotBusy (d : Dev) (engine : Nat) : Bool :=
  (List.range 8).any fun p => match d.nextSlot p engCopy engine with
    | some (q, s) => q.started && s.op == opCopy && !d.tick.quench
    | none => false

/-- What moving a piece gives. -/
inductive PieceRes
  | moved (n : Nat) (d : Dev)
  | stop (status : Nat) (d : Dev)
  | parked (d : Dev)

/-- Moves or sends one piece of a queued copy. -/
def Dev.copyPiece (x : Queue) (e : Entry) (m : CopyDesc) (due : Bool) (o room : Nat) (d : Dev) : PieceRes :=
  let (s, t, n) := m.piece o room
  let ask (need va : Nat) (d : Dev) : Got × Dev :=
    d.obtain ⟨0, holderCopy e.engine, x.root, x.part, va, n, need, false, some (e.queue, e.seq)⟩
  let out (kind pos : Nat) (runs : List (Nat × Nat)) : Outstanding := ⟨0, m.rank, e.queue, e.seq, kind, pos, runs⟩
  match (if m.remote = 1 then (.ok [], d) else ask 1 s d) with
  | (.parked, d) => .parked d
  | (.stop st, d) => .stop st d
  | (.ok sl, d) =>
    match (if m.remote = 2 then (.ok [], d) else ask 2 t d) with
    | (.parked, d) => .parked d
    | (.stop st, d) => .stop st d
    | (.ok dl, d) =>
      let src := extentRuns sl s n
      let dst := extentRuns dl t n
      if m.remote = 1 then .moved n (d.request ptRead m.rank s n [] (out 1 o dst))
      else if m.remote = 2 then
        match d.readRuns src due with
        | (0, d) => .moved n (d.request ptWrite m.rank t n (src.flatMap fun r => d.read r.1 r.2) (out 0 o []))
        | (st, d) => .stop st d
      else
        match d.movePiece src dst due with
        | (0, d) => .moved n (if hostRuns dst then d.wroteHost e.queue e.seq else d)
        | (st, d) => .stop st d

/-- Has an entry requests outstanding? -/
def Dev.awaits (d : Dev) (q seq : Nat) : Bool := d.gate.outstanding.any fun o => o.queue == q && o.seq == seq

/-- The first byte of a copy that is not known to have moved. -/
def Dev.copyDone (d : Dev) (q seq moved : Nat) : Nat :=
  (d.gate.outstanding.filter fun o => o.queue == q && o.seq == seq).foldl (fun m o => min m o.pos) moved

/-- The pieces of one turn, at most `fuel` of them. -/
def Dev.copyPieces (x : Queue) (e : Entry) (m : CopyDesc) (engine : Nat) : Nat → Bool → Nat → Nat → Dev → PieceRes
  | 0, _, o, _, d => .moved o d
  | f + 1, due, o, room, d =>
    if room = 0 ∨ m.total ≤ o then .moved o d
    else
      match Dev.copyPiece x e m due o room d with
      | .moved n d =>
        let d := d.setCopies (d.host.copies.map fun c => if c.queue = e.queue ∧ c.seq = e.seq then { c with moved := o + n } else c)
        copyPieces x e m engine f false (o + n) (room - n) (d.bump (F.HST_CE_BYTES engine) n)
      | r => r

/-- A copy whose bytes have all moved ends OK once nothing of it is outstanding (R260). -/
def Dev.copySettle (d : Dev) (x : Queue) (e : Entry) : Dev :=
  match d.copyOpen e.queue e.seq with
  | some c => if (copyDesc e.desc).total ≤ c.moved && !d.awaits e.queue e.seq then d.endCopy x e stOk c.moved else d
  | none => d

/-- One turn of 64 KiB; the copy then stands last in its round. -/
def Dev.copyTurn (d : Dev) (x : Queue) (e : Entry) (c : CopyOpen) (due : Bool) : Dev :=
  let m := copyDesc e.desc
  let d := d.setCopies (d.host.copies.filter (fun y => !(y.queue == c.queue && y.seq == c.seq)) ++ [c])
  match Dev.copyPieces x e m e.engine 0x10000 due c.moved 0x10000 d with
  | .moved _ d => d.copySettle x e
  | .parked d => d
  | .stop st d =>
    let at_ := ((d.copyOpen e.queue e.seq).map CopyOpen.moved).getD 0
    d.endCopy x e st (d.copyDone e.queue e.seq at_)

/-- A COPY entry: its checks, then, when the engine serves it, a turn. -/
def Dev.copyEntry (due : Bool) (x : Queue) (e : Entry) (d : Dev) : Dev :=
  let d := if (d.copyOpen e.queue e.seq).isSome then d else d.copyStart x e (copyDesc e.desc)
  match d.copyOpen e.queue e.seq with
  | none => d
  | some c => if d.copyNext c.engine == some c && !d.copySlotBusy c.engine then d.copyTurn x e c due else d

/-- COPY. -/
def execCopy (q : Nat) (seq : Nat) (due : Bool) (s : State) : Host.Outcome State Fault Refusal :=
  onDev (Dev.onEntry q seq tyCopy (Dev.copyEntry due)) s

/-! ### Slots (R71, R323, R324, R333) -/

/-- The physical runs of a scheduled piece: an address word is a segment and an offset. -/
def segRuns (segs : List Segment) (word n : Nat) : List (Nat × Nat) :=
  let s := segs.getD (word / 2 ^ 56) ⟨0, 0, 0, []⟩
  extentRuns s.extents (s.base + word % 2 ^ 56) n

/-- Moves a scheduled copy piece by piece; the status, and where it met an error. -/
def Dev.copyAll (segs : List Segment) (m : CopyDesc) : Nat → Bool → Nat → Dev → Nat × Nat × Dev
  | 0, _, _, d => (stOk, 0, d)
  | f + 1, due, o, d =>
    if m.total ≤ o then (stOk, 0, d)
    else
      let (s, t, n) := m.piece o 4096
      let src := segRuns segs s n
      let dst := segRuns segs t n
      match d.movePiece src dst due with
      | (0, d) => copyAll segs m f false (o + n) d
      | (st, d) => (st, if (d.readRuns src due).1 ≠ stOk then d.errorAt src false due else d.errorAt dst true false, d)

/-- Every row of one side, as runs. -/
def copySegRuns (segs : List Segment) (a stride : Nat) (m : CopyDesc) : List (Nat × Nat) :=
  (copyRows a stride m.rows m.rowBytes).flatMap fun r => segRuns segs r.1 r.2

/-- A scheduled copy: none while it must wait. -/
def Dev.copySlot (d : Dev) (p engine : Nat) (due : Bool) (r : SlotRef) (s : Slot) : Option Dev :=
  let m := copyDesc (d.imageDesc p s.desc)
  let segs := d.imageSegs p
  if m.total = 0 then some d
  else
    let src := copySegRuns segs m.src m.srcStride m
    let dst := copySegRuns segs m.dst m.dstStride m
    if hostRuns dst && !d.on F.HST_LINK_BME then some (d.raise evHost stOk engine [p, engine, r.slot])
    else if d.runsWait src || d.runsWait dst then none
    else
      match Dev.copyAll segs m m.total due 0 d with
      | (0, _, d) => some ((d.put (F.HST_CE_LAST engine) stOk).bump (F.HST_CE_BYTES engine) m.total)
      | (st, a, d) => some ((d.put (F.HST_CE_LAST engine) st).tickFault r st 1 a)

/-- SCHEDULED_COPY. -/
def execScheduledCopy (p : Fin 8) (engine : Fin 16) (due : Bool) (s : State) : Host.Outcome State Fault Refusal :=
  onDev (Dev.slotRun p engCopy engine opCopy fun r sl d => d.copySlot p engine due r sl) s

/-- BEST_EFFORT_WINDOW: the slot moves nothing itself; queued descriptors of its engine take their turns meanwhile (R71). -/
def execBestEffortWindow (p : Fin 8) (engine : Fin 16) (s : State) : Host.Outcome State Fault Refusal :=
  onDev (Dev.slotRun p engCopy engine opWindow fun _ _ d => some d) s

end Sys2Proof.Machine
end

