-- ==== Sys2Proof/Machine/Square.lean ====
section
/-! DEFINITION. Square arithmetic and layouts: the collective descriptor, frames with their checksums, block-scaled integers, one-bit
blocks, FP32 stages, output conversion (R278 to R291, R295). -/

namespace Sys2Proof.Machine

open Sys2Proof

/-! ### The descriptor (R295) -/

/-- A collective descriptor. -/
structure CollDesc where
  op : Nat
  fmt : Nat
  bf16 : Bool
  out : Nat
  conv : Nat
  head : Nat
  parts : Nat
  backup : Bool
  bslot : Nat
  blocks : Nat
  ranks : Nat
  deadline : Nat
  id : Nat
  param : Nat
  routeNext : Nat
  routeB : Nat
  phase : Nat
  pass : Nat
  step : Nat
  chunkBlocks : Nat
  chunkFirst : Nat
  zeros : Bool
  deriving DecidableEq, Repr

def opAllreduce : Nat := 1
def opReduceScatter : Nat := 2
def opBroadcast : Nat := 3
def fmBsi : Nat := 0
def fmOnebit : Nat := 1
def fmFp32 : Nat := 2

/-- Reads it; `queued` reserves W4, W5 and bits 63:56 of the address word. -/
def collDesc (queued : Bool) (b : List Byte) : CollDesc :=
  let w (i : Nat) := leWord b i
  let op := bits (w 0) 63 56
  let parts := bits (w 0) 44 43
  let blocks := bits (w 1) 63 32
  { op := op, fmt := bits (w 0) 55 54, bf16 := bit (w 0) 53, out := bits (w 0) 52 51, conv := bits (w 0) 50 49, head := bits (w 0) 48 45,
    parts := 2 ^ parts, backup := bit (w 0) 42, bslot := bits (w 0) 41 28, blocks := blocks, ranks := bits (w 1) 31 16,
    deadline := bits (w 1) 15 0, id := w 2, param := w 3, routeNext := bits (w 4) 63 54, routeB := bits (w 4) 53 44,
    phase := bits (w 4) 43 42, pass := bits (w 4) 41 40, step := bits (w 4) 39 26, chunkBlocks := bits (w 5) 63 32,
    chunkFirst := bits (w 5) 31 0,
    zeros := 1 ≤ op && op ≤ 3 && bits (w 0) 55 54 != 3 && bits (w 0) 52 51 != 3 && bits (w 0) 50 49 != 3 && parts != 3
      && bits (w 0) 27 0 == 0 && (bit (w 0) 42 || bits (w 0) 41 28 == 0) && w 6 == 0 && w 7 == 0
      && (op != opBroadcast || blocks == 0)
      && (if queued then w 4 == 0 && w 5 == 0 && w 3 / 2 ^ 56 == 0 else bits (w 4) 25 0 == 0) }

/-- The bytes of a block of a part. -/
def CollDesc.inBytes (m : CollDesc) : Nat := if m.bf16 then 64 else 128

/-- The bytes of a block of OUT: FP32, BF16, BSI record (R283). -/
def CollDesc.outBytes (m : CollDesc) : Nat := if m.out = 0 then 128 else if m.out = 1 then 64 else 136

/-- The first block of shard `s` (R279). -/
def CollDesc.lo (m : CollDesc) (s : Nat) : Nat := s * m.blocks / m.ranks

/-- The blocks of shard `s`. -/
def CollDesc.shard (m : CollDesc) (s : Nat) : List Nat := natRange (m.lo s) (m.lo (s + 1) - m.lo s)

/-- The shard of block `b`. -/
def CollDesc.shardOf (m : CollDesc) (b : Nat) : Nat := ((b + 1) * m.ranks - 1) / m.blocks

/-- The successor of a slot. -/
def CollDesc.succ (m : CollDesc) (k : Nat) : Nat := (k + 1) % m.ranks

/-- The predecessor of a slot. -/
def CollDesc.pred (m : CollDesc) (k : Nat) : Nat := (k + m.ranks - 1) % m.ranks

/-! ### Frames (R283, R284) -/

def fkDense : Nat := 0
def fkSparse : Nat := 1
def fkFp32 : Nat := 2
def fkOnebit : Nat := 3
def fkExponent : Nat := 4
def fkFlaglist : Nat := 5
def fkFinal : Nat := 6

/-- A frame header. -/
structure FrameHdr where
  id : Nat
  first : Nat
  kind : Nat
  pass : Nat
  slot : Nat
  count : Nat
  deriving DecidableEq, Repr

/-- Reads the header of a frame. -/
def frameHdr (b : List Byte) : FrameHdr :=
  let w := leNat (b.take 16)
  ⟨bits w 127 64, bits w 63 32, bits w 31 28, bits w 27 26, bits w 25 12, bits w 11 0⟩

/-- The body of a frame. -/
def frameBody (b : List Byte) : List Byte := (b.drop 16).take (b.length - 32)

/-- The bytes of a body, by kind, COUNT and the bytes of an output block. -/
def bodyBytes (outBytes kind count : Nat) : Nat :=
  match kind with
  | 0 => count * 136
  | 1 => count * 140
  | 2 => count * 128
  | 3 => count * 12
  | 4 => count
  | 5 => count
  | _ => count * outBytes

/-- The largest COUNT of a kind. -/
def maxCount (outBytes kind : Nat) : Nat :=
  match kind with
  | 0 => 29
  | 1 => 29
  | 2 => 31
  | 3 => 338
  | 4 => 4064
  | 5 => 4064
  | _ => if outBytes = 128 then 31 else if outBytes = 64 then 63 else 29

/-- Is a frame laid out as its header says? -/
def frameOk (outBytes : Nat) (b : List Byte) : Bool :=
  let h := frameHdr b
  32 ≤ b.length && h.kind ≤ 6 && b.length == 32 + bodyBytes outBytes h.kind h.count && h.count ≤ maxCount outBytes h.kind
    && (h.count != 0 || h.kind == fkSparse) && (h.kind != fkSparse || h.first == 0)

/-- The single NaN code of a block-scaled integer. -/
def bsiNan : Nat := 0x80000000

/-- The signed value of an element; 0 for the NaN code and in a flagged block (R284, R285). -/
def Blk.val (b : Blk) (i : Nat) : Int :=
  let c := b.els.getD i 0
  if b.flag || c == bsiNan then 0 else sext 32 c

/-- A and W over signed values (R284). -/
def sumsOf (l : List Int) : Nat × Nat :=
  (twos 64 (l.foldl (· + ·) 0), twos 64 (l.zipIdx.foldl (fun s r => s + (r.2 + 1 : Nat) * r.1) 0))

/-- The signed values of blocks. -/
def blkVals (l : List Blk) : List Int := l.flatMap fun b => (List.range 32).map b.val

/-- A body as U32 words; a last word that is cut is filled with zeros. -/
def bodyWords (b : List Byte) : List Int := (List.range ((b.length + 3) / 4)).map fun i => (leNat ((b.drop (4 * i)).take 4) : Nat)

/-- Block `i` of a BSI body of `count` blocks. -/
def bodyBlk (body : List Byte) (count i : Nat) : Blk :=
  let meta_ := (body.drop (128 * count + 8 * i)).take 8
  { els := (List.range 32).map fun j => leNat ((body.drop (128 * i + 4 * j)).take 4), x := leNat (meta_.take 1),
    mask := leNat (meta_.drop 4), flag := bit (leNat ((meta_.drop 1).take 1)) 0 }

/-- The blocks of a BSI body. -/
def bodyBlks (body : List Byte) (count : Nat) : List Blk := (List.range count).map (bodyBlk body count)

/-- The metadata of a block. -/
def Blk.metaBytes (b : Blk) : List Byte := leBytes 1 b.x ++ leBytes 1 (b2n b.flag) ++ [0#8, 0#8] ++ leBytes 4 b.mask

/-- Elements as bytes. -/
def elBytes (l : List Nat) : List Byte := l.flatMap (leBytes 4)

/-- The body of a dense frame. -/
def blksBody (l : List Blk) : List Byte := l.flatMap (fun b => elBytes b.els) ++ l.flatMap Blk.metaBytes

/-- A and W of a frame's body. -/
def frameSums (h : FrameHdr) (body : List Byte) : Nat × Nat :=
  if h.kind = fkDense ∨ h.kind = fkSparse then sumsOf (blkVals (bodyBlks body h.count)) else sumsOf (bodyWords body)

/-- A frame of a header and a body. -/
def frameOf (h : FrameHdr) (body : List Byte) : List Byte :=
  let s := frameSums h body
  leBytes 16 (h.id * 2 ^ 64 + h.first * 2 ^ 32 + h.kind * 2 ^ 28 + h.pass * 2 ^ 26 + h.slot * 2 ^ 12 + h.count) ++ body ++ leBytes 8 s.1 ++ leBytes 8 s.2

/-- Do a frame's checksums hold? -/
def frameSumsOk (b : List Byte) : Bool :=
  let s := frameSums (frameHdr b) (frameBody b)
  let t := b.drop (b.length - 16)
  leNat (t.take 8) == s.1 && leNat (t.drop 8) == s.2

/-- The blocks that a frame covers; those of a FLAGLIST are the ones it flags. -/
def frameBlocks (b : List Byte) : List Nat :=
  let h := frameHdr b
  let body := frameBody b
  if h.kind = fkSparse then (List.range h.count).map fun i => leNat ((body.drop (136 * h.count + 4 * i)).take 4)
  else if h.kind = fkFlaglist then (natRange h.first (8 * h.count)).filter fun x => bit (leNat [body.getD ((x - h.first) / 8) 0#8]) ((x - h.first) % 8)
  else natRange h.first h.count

/-- The bitmap of a FLAGLIST frame from block `first` on. -/
def flagBitmap (first bytes : Nat) (l : List Nat) : List Byte :=
  (List.range bytes).map fun i => BitVec.ofNat 8 ((List.range 8).foldl (fun s j => s + b2n (l.contains (first + 8 * i + j)) * 2 ^ j) 0)

/-! ### Contributions (R278, R281, R282, R289) -/

/-- Combines one, two or four parts in the order of R278. -/
def combine {α : Type} (f : α → α → α) (z : α) : List α → α
  | [a] => a
  | [a, b] => f a b
  | [a, b, c, e] => f (f a b) (f c e)
  | _ => z

/-- An input element. -/
def inNum (bf16 : Bool) (code : Nat) : Num := (if bf16 then fbf16 else ffp32).decode code

/-- The proposal of a block (R281): floor(log2 M) + 127 of its largest finite nonzero magnitude. -/
def proposal (bf16 : Bool) (codes : List Nat) : Nat :=
  codes.foldl (fun p c => match inNum bf16 c with
    | .fin _ m e => if m = 0 then p else max p ((ilog m : Int) + e + 127).toNat
    | _ => p) 0

/-- The exponent of a pass (R281, R286). -/
def expOf (pmax head pass : Nat) : Nat := min 254 (pmax + 1 + head) + 4 * pass

/-- A value held to ±(2^31 − 1). -/
def clampBsi (v : Int) : Int := max (-(2 ^ 31 - 1)) (min (2 ^ 31 - 1) v)

/-- Quantises one element: its code and flags (R282). -/
def quantise (bf16 : Bool) (x code : Nat) : Nat × Nat :=
  match inNum bf16 code with
  | .nan sig _ _ => (bsiNan, flagIf sig fNV)
  | .inf _ => (bsiNan, fNV)
  | .fin neg m e =>
    let (k, ix) := roundAt .tiesEven neg m e ((x : Int) - 157)
    let v : Int := if neg then -(k : Int) else k
    (twos 32 (clampBsi v), flagOr (flagIf (decide (2 ^ 31 - 1 < k)) fOF)
      (flagOr (flagIf ix fNX) (flagIf (m != 0 && k == 0) (flagOr fUF fNX))))

/-- A quantised part with its flags. -/
def quantBlk (bf16 : Bool) (x : Nat) (codes : List Nat) : Blk × Nat :=
  let q := codes.map (quantise bf16 x)
  (⟨q.map (·.1), x, q.zipIdx.foldl (fun s r => s + b2n (r.1.1 == bsiNan) * 2 ^ r.2) 0, false⟩, q.foldl (fun f r => flagOr f r.2) 0)

/-- A BSI stage (R285): the sum of a partial and a contribution, its flags, whether the block was clamped. A flag of either stays
(DEDUCED, notes/assumptions/22.md). -/
def bsiAdd (pass : Nat) (p c : Blk) : Blk × Nat × Bool :=
  let mask := p.mask ||| c.mask
  let e := (List.range 32).map fun i => p.val i + c.val i
  let put (l : List Int) : List Nat := l.zipIdx.map fun r => if bit mask r.2 then bsiNan else twos 32 r.1
  let big := e.zipIdx.any fun r => !bit mask r.2 && decide (2 ^ 31 - 1 < r.1.natAbs)
  if p.flag || c.flag || (big && decide (pass < 3) && decide (p.x + 4 ≤ 254)) then
    (⟨put (List.replicate 32 0), p.x, mask, true⟩, 0, false)
  else (⟨put (e.map clampBsi), p.x, mask, false⟩, flagIf big fOF, big)

/-- A device's BSI contribution to a block: its parts quantised at exponent `x` and added. -/
def bsiContrib (bf16 : Bool) (pass x : Nat) (parts : List (List Nat)) : Blk × Nat × Nat :=
  let f (a b : Blk × Nat × Nat) : Blk × Nat × Nat :=
    let r := bsiAdd pass a.1 b.1
    (r.1, flagOr r.2.1 (flagOr a.2.1 b.2.1), a.2.2 + b.2.2 + b2n r.2.2)
  combine f (⟨[], x, 0, false⟩, 0, 0) (parts.map fun c => let q := quantBlk bf16 x c; (q.1, q.2, 0))

/-- Do the sums of a stage agree with the checksums of its operands (R285)? -/
def stageOk (p c : List Blk) : Bool :=
  let e := sumsOf ((blkVals p).zip (blkVals c) |>.map fun r => r.1 + r.2)
  let a := sumsOf (blkVals p)
  let b := sumsOf (blkVals c)
  e == ((a.1 + b.1) % 2 ^ 64, (a.2 + b.2) % 2 ^ 64)

/-- FP32 addition of codes (R291); `pick` settles which payload a NaN result keeps. -/
def addFp (pick a b : Nat) : Nat × Nat := arithOp ffp32 .tiesEven pick .add a b 0

/-- Adds FP32 blocks element by element: codes and flags. -/
def addFps (pick : Nat) (a b : List Nat × Nat) : List Nat × Nat :=
  let r : List (Nat × Nat) := (a.1.zip b.1).map fun x => addFp pick x.1 x.2
  (r.map (·.1), r.foldl (fun f x => flagOr f x.2) (flagOr a.2 b.2))

/-- A part's elements as FP32 codes. -/
def asFp32 (bf16 : Bool) (codes : List Nat) : List Nat := if bf16 then codes.map (· * 2 ^ 16) else codes

/-- A device's FP32 contribution to a block. -/
def fpContrib (bf16 : Bool) (pick : Nat) (parts : List (List Nat)) : List Nat × Nat :=
  combine (addFps pick) ([], 0) (parts.map fun c => (asFp32 bf16 c, 0))

/-- Is an FP32 code a NaN or an infinity? -/
def nonFinite (c : Nat) : Bool := ffp32.infCode ≤ c % 2 ^ 31

/-- One-bit coding of a block (R289): sign word and magnitude with the NaN mask, the error memory's new codes, flags. -/
def onebit (pick : Nat) (g err : List Nat × Nat) : Blk × List Nat × Nat :=
  let s := addFps pick g err
  let fin := s.1.filter fun c => !nonFinite c
  let sum := fin.foldl (fun (a : Nat × Nat) c => let r := addFp pick a.1 (c % 2 ^ 31); (r.1, flagOr a.2 r.2)) (0, 0)
  let m := if fin.isEmpty then (0, 0) else divNum ffp32 .tiesEven (ffp32.decode sum.1) (.fin false fin.length 0)
  let neg (c : Nat) : Bool := bit c 31
  let back (c : Nat) : Nat := if neg c then m.1 else m.1 ^^^ 2 ^ 31
  let e := s.1.map fun c => if nonFinite c then (0, 0) else addFp pick c (back c)
  (⟨[s.1.zipIdx.foldl (fun w r => w + b2n (neg r.1) * 2 ^ r.2) 0, m.1], 0,
      s.1.zipIdx.foldl (fun w r => w + b2n (nonFinite r.1) * 2 ^ r.2) 0, false⟩,
    e.map (·.1), e.foldl (fun f r => flagOr f r.2) (flagOr s.2 (flagOr sum.2 m.2)))

/-- The decoded values of a one-bit block. -/
def onebitVals (b : Blk) : List Nat :=
  let m := b.els.getD 1 0
  (List.range 32).map fun i => if bit (b.els.getD 0 0) i then m ^^^ 2 ^ 31 else m

/-- The owner's sum of one-bit contributions in slot order, NaN masks applied (R290). -/
def onebitSum (pick : Nat) (l : List Blk) : List Nat × Nat :=
  let r : List Nat × Nat := match l with
    | [] => ([], 0)
    | b :: t => t.foldl (fun a c => addFps pick a (onebitVals c, 0)) (onebitVals b, 0)
  let mask := l.foldl (fun m b => m ||| b.mask) 0
  (r.1.zipIdx.map fun x => if bit mask x.2 then ffp32.nanCode else x.1, r.2)

/-! ### Output (R288) -/

/-- The conversion mode of CONV. -/
def collConv (c : Nat) : ConvMode := if c = 1 then .inf else if c = 2 then .nan else .sat

/-- One output element: code and flags. -/
def outNum (m : CollDesc) (x : Num) : Nat × Nat := convert .fp32 (if m.out = 1 then .bf16 else .fp32) (collConv m.conv) .tiesEven x

/-- A final block in the output format: bytes and flags. -/
def outBlock (m : CollDesc) (b : Blk) : List Byte × Nat :=
  if m.out = 2 then (elBytes b.els ++ b.metaBytes, 0)
  else
    let num (c : Nat) : Num :=
      if m.fmt = fmBsi then
        if c = bsiNan then .nan false false (2 ^ 51)
        else .fin (decide (sext 32 c < 0)) (sext 32 c).natAbs ((b.x : Int) - 157)
      else ffp32.decode c
    let r : List (Nat × Nat) := b.els.map fun c => if m.fmt = fmBsi ∧ c = bsiNan then ((if m.out = 1 then fbf16 else ffp32).nanCode, 0) else outNum m (num c)
    (r.flatMap fun q => leBytes (if m.out = 1 then 2 else 4) q.1, r.foldl (fun f q => flagOr f q.2) 0)

end Sys2Proof.Machine
end

