-- ==== Sys2Proof/Machine/Collectives.lean ====
section
/-! DEFINITION. Collectives on a Square engine: their checks, contexts, stages, reruns, backups, frames, rounds and completion (R278 to
R299). -/

namespace Sys2Proof.Machine

open Sys2Proof

/-! ### Contexts -/

/-- The Square engine of gate die `g`. -/
def Dev.sq (d : Dev) (g : Nat) : SquareSt := Table.get (fun _ => SquareSt.reset) d.square g

/-- SQR_CTX follows the engine's lists (R298). -/
def Dev.setSq (d : Dev) (g : Nat) (x : SquareSt) : Dev :=
  ({ d with square := Table.set (fun _ => SquareSt.reset) d.square g x } : Dev).puts
    [(F.SQR_CTX_WAITING g, satTo 0xFFFF x.waiting.length), (F.SQR_CTX_ACTIVE g, 2 ^ min 16 x.running.length - 1)]

/-- The descriptor of a collective. -/
def Coll.m (c : Coll) : CollDesc := collDesc c.queue.isSome c.desc

/-- Parameter word `i`. -/
def Coll.p (c : Coll) (i : Nat) : Nat := c.params.getD i 0

/-- The same collective: its identifier and its entry or partition. -/
def Coll.same (a b : Coll) : Bool := a.id == b.id && a.queue == b.queue && a.part == b.part

/-- Writes a running collective back. -/
def Dev.setColl (d : Dev) (g : Nat) (c : Coll) : Dev :=
  let x : SquareSt := { d.sq g with running := (d.sq g).running.map fun x => if x.same c then c else x }
  { d with square := Table.set (fun _ => SquareSt.reset) d.square g x }

/-- The running collective with an identifier, with its engine. -/
def Dev.findColl (d : Dev) (id : Nat) : Option (Nat × Coll) :=
  [0, 1].findSome? fun g => ((d.sq g).running.find? fun c => c.id == id).map fun c => (g, c)

/-- Is the collective of an entry fetched into an engine already? -/
def Dev.hasColl (d : Dev) (q seq : Nat) : Bool :=
  [0, 1].any fun g => ((d.sq g).waiting ++ (d.sq g).running).any fun c => c.queue == some (q, seq)

/-! ### Rank lists (R296) -/

/-- The primary rank of slot `k`. -/
def Coll.prim (c : Coll) (k : Nat) : Nat := bits (c.list.getD k 0) 13 0

/-- The backup rank of slot `k`, if one is named. -/
def Coll.bak (c : Coll) (k : Nat) : Option Nat := if bit (c.list.getD k 0) 31 then some (bits (c.list.getD k 0) 29 16) else none

/-! ### Checks (R297) -/

/-- The bytes of an entry of LIST. -/
def listBytes (m : CollDesc) : Nat := if m.op = opBroadcast then 8 else 4

/-- The entries of LIST that are read. -/
def listCount (m : CollDesc) : Nat := min m.ranks 16384

/-- The words of LIST. -/
def listWords (m : CollDesc) (b : List Byte) : List Nat :=
  (List.range (listCount m)).map fun i => leNat ((b.drop (listBytes m * i)).take (listBytes m))

/-- Features that a descriptor asks for (R364). -/
def collNeeds (m : CollDesc) : List Nat :=
  if m.op = opBroadcast then [ftGateBcast]
  else [if m.fmt = fmBsi then ftSqBsi else if m.fmt = fmOnebit then ftSqOnebit else ftSqFp32]
    ++ (if m.bf16 || m.out == 1 then [ftSqBf16] else []) ++ (if m.backup || m.deadline != 0 then [ftSqBackup] else [])

/-- Order 1 on the descriptor alone. -/
def Dev.collDescOk (d : Dev) (m : CollDesc) : Bool := m.zeros && (collNeeds m).all d.has

/-- Order 1 on the parameter block and LIST. -/
def Dev.collBlockOk (d : Dev) (queued : Bool) (m : CollDesc) (p list : List Nat) : Bool :=
  let w (i : Nat) : Nat := p.getD i 0
  let addrs := if m.op = opBroadcast then [0, 4, 7, 15]
    else (List.range m.parts) ++ [4, 7, 8, 9] ++ (if m.fmt = fmOnebit then [5, 6] else [])
  bits (w 14) 23 16 == 0 && (!queued || addrs.all fun i => w i / 2 ^ 56 == 0)
    && (if m.op = opBroadcast then list.all fun e => e % 2 ^ 21 == 0
        else w 11 == 0 && w 12 == 0 && w 13 == 0 && w 14 == 0
          && list.all (fun e => bits e 15 14 == 0 && !bit e 30)
          && ((w 8 == 0 && !list.any (bit · 31)) || d.has ftSqBackup))

/-- The image bytes of a broadcast. -/
def bcastBytes (p : List Nat) : Nat := 0x10000 * bits (p.getD 14 0) 63 40

/-- Does a collective move nothing (the no-op cases of R297)? -/
def collEmpty (m : CollDesc) (p : List Nat) : Bool := if m.op = opBroadcast then bcastBytes p == 0 else m.blocks == 0

/-- Orders 2 and 3. -/
def collShape (ranked : Bool) (m : CollDesc) : Nat × Nat :=
  if m.op ≠ opBroadcast ∧ ((m.out = 2 ∧ m.fmt ≠ fmBsi) ∨ (m.conv = 1 ∧ m.out = 2)) then (stNotEnabled, 2)
  else if m.ranks = 0 ∨ 16384 < m.ranks ∨ (!ranked ∧ m.ranks ≠ 1) then (stBounds, 3)
  else (stOk, 0)

/-- Is this device the root of a tree table? -/
def treeRoot (rank : Nat) (list : List Nat) : Bool := list.any fun e => bits e 63 50 == rank && bit e 21

/-- The regions that a collective names: address, bytes, right. -/
def collRegions (rank : Nat) (m : CollDesc) (p list : List Nat) : List (Nat × Nat × Nat) :=
  let w (i : Nat) : Nat := p.getD i 0
  if m.op = opBroadcast then
    if treeRoot rank list then (w 0, bcastBytes p, 1) :: (if bits (w 14) 15 0 = 0 then [] else [(w 15, 8 * bits (w 14) 15 0, 2)])
    else [(w 4, bcastBytes p, 2)]
  else
    (List.range m.parts).map (fun i => (w i, m.blocks * m.inBytes, 1)) ++ [(w 4, m.blocks * m.outBytes, 2)]
      ++ (if m.fmt = fmOnebit then [(w 5, 128 * m.blocks, 1), (w 6, 128 * m.blocks, 2)] else [])
      ++ (if w 8 = 0 ∨ bits (w 10) 63 32 = 0 then [] else [(w 8, 8 * bits (w 10) 63 32, 1)])
      ++ (if bits (w 10) 31 0 = 0 then [] else [(w 9, 8 * bits (w 10) 31 0, 2)])

/-- Orders 6 and 7. -/
def Dev.collErr (d : Dev) (m : CollDesc) (p : List Nat) (ext : List Extent) : Nat × Nat :=
  if m.op = opBroadcast ∨ m.fmt ≠ fmOnebit then (stOk, 0)
  else if p.getD 5 0 % 4096 ≠ 0 ∨ p.getD 6 0 % 4096 ≠ 0 then (stBounds, 6)
  else if [5, 6].any fun i => (extentRuns ext (p.getD i 0) (128 * m.blocks)).any fun r => !d.allKept r.1 r.2 then (stPerm, 7)
  else (stOk, 0)

/-- Order 8: this device's place in LIST. A tree table names each device once and has one root. -/
def Dev.collPlace (d : Dev) (m : CollDesc) (list : List Nat) : Nat × Nat :=
  let names := list.map fun e => if m.op = opBroadcast then bits e 63 50 else bits e 13 0
  let mine := !d.on F.GTE_ID_RANKED || (if m.backup then
      bit (list.getD m.bslot 0) 31 && bits (list.getD m.bslot 0) 29 16 == d.rank && m.bslot < list.length
    else names.contains d.rank)
  if names.eraseDups.length ≠ names.length ∨ !mine ∨ (m.op = opBroadcast ∧ list.countP (bit · 21) ≠ 1) then (stBounds, 8) else (stOk, 0)

/-- A context before it starts. -/
def Dev.newColl (d : Dev) (queue : Option (Nat × Nat)) (part root : Nat) (desc : List Byte) (p list : List Nat) (ext : List Extent) : Coll :=
  let m := collDesc queue.isSome desc
  let slot := if m.backup then m.bslot else (list.findIdx? fun e => bits e 13 0 == d.rank).getD 0
  let regions := collRegions d.rank m p list
  let log := d.readVa ext (p.getD 8 0) (8 * bits (p.getD 10 0) 63 32)
  { id := m.id, queue := queue, part := part, root := root, desc := desc, params := p, list := list, ext := ext,
    ranges := regions.map fun r => (r.1, r.2.1),
    logIn := if m.op = opBroadcast ∨ p.getD 8 0 = 0 then [] else
      (List.range (bits (p.getD 10 0) 63 32)).map fun i => (bits (leWord log i) 63 50, bits (leWord log i) 31 0),
    begun := false, slot := slot, exps := [], got := [], awaiting := [], pass := 0, reducing := false, ownDone := false, seen := [], inbox := [],
    useBackup := [], logged := 0, passed := 0, written := [], flagged := [], maxPass := 0, reran := false, fail := none, next := 0,
    buf := [], manifest := [], parent := 0, onAlt := false, resent := false, kids := [], dones := [], attached := 0 }

/-! ### Completion (R299) -/

/-- The bytes that hold no defined result after a failure: OUT and ERR_OUT; DST of a broadcast. -/
def Coll.outRuns (c : Coll) : List (Nat × Nat) :=
  if c.m.op = opBroadcast then extentRuns c.ext (c.p 4) (bcastBytes c.params)
  else extentRuns c.ext (c.p 4) (c.m.blocks * c.m.outBytes)
    ++ (if c.m.fmt = fmOnebit then extentRuns c.ext (c.p 6) (128 * c.m.blocks) else [])

/-- Shows the last completion of an engine. -/
def Dev.sqLast (d : Dev) (g id status detail slot : Nat) (backup rerun : Bool) (passes : Nat) : Dev :=
  d.puts [(F.SQR_LAST_STATUS g, status), (F.SQR_LAST_DETAIL g, detail), (F.SQR_LAST_BACKUP g, b2n backup), (F.SQR_LAST_RERUN g, b2n rerun),
    (F.SQR_LAST_PASSES g, passes), (F.SQR_LAST_SLOT g, slot), (F.SQR_LAST_ID_COLL_ID g, id)]

/-- Does a status leave no defined result? -/
def collFails (st : Nat) : Bool := st != stOk && st != stRerun && st != stLateBackup

/-- Where a scheduled collective of a partition stands: the slot that its stream runs. -/
def Dev.sqRef (d : Dev) (p g : Nat) : SlotRef :=
  ⟨p, engSquare, g, (((d.part p).pos engSquare g).map StreamPos.next).getD 0⟩

/-- Ends a running or waiting collective: its bindings go, its entry finishes; in a scheduled partition a failure faults the tick. -/
def Dev.endColl (d : Dev) (g : Nat) (c : Coll) (status slot : Nat) : Dev :=
  let x := d.sq g
  let ran := x.running.any (Coll.same c)
  let d := d.setSq g { waiting := x.waiting.filter (fun y => !y.same c), running := x.running.filter fun y => !y.same c }
  let d := d.sqLast g c.id status 0 slot (!c.useBackup.isEmpty) c.reran c.maxPass
  let d := if ran && collFails status && !(c.m.op == opBroadcast && treeRoot d.rank c.list) then d.blurRuns c.outRuns else d
  let d := if c.m.op = opBroadcast && ran then d.put (F.SQR_BCAST_STATE g) (if status = stOk then 2 else 3) else d
  match c.queue with
  | some (q, s) => (c.ranges.foldl (fun d r => d.release (holderSquare g) c.root r.1 r.2) d).finishEntry q s status 0
  | none => if collFails status then d.tickFault (d.sqRef c.part g) status 0 0 else d

/-- A collective that has done its part completes: with a switch, with a rerun, or plainly. -/
def Coll.goodStatus (c : Coll) : Nat := if !c.useBackup.isEmpty then stLateBackup else if c.reran then stRerun else stOk

/-! ### Sending (R292, R298) -/

/-- Where a round of a scheduled partition sends: its routes and the stamp. -/
structure Via where
  next : Route
  bnext : Option Route
  stamp : Nat
  deriving DecidableEq, Repr

/-- Sends a Square packet as a best-effort request of a collective. The ADDR of a frame and of a record is not stated. -/
def Dev.sqRequest (d : Dev) (g : Nat) (c : Coll) (ptype dst addr : Nat) (data : List Byte) : Dev :=
  d.request ptype dst addr data.length data ⟨0, dst, g, c.id, 4, 0, []⟩

/-- Sends a frame towards slot `k` and its backup. -/
def Dev.pushFrame (d : Dev) (g : Nat) (c : Coll) (via : Option Via) (k : Nat) (frame : List Byte) : Dev :=
  match via with
  | none =>
    let (a, d) := d.draw
    (c.prim k :: (c.bak k).toList).foldl (fun d r => d.sqRequest g c ptSquare r (Config.freeNat a) frame) d
  | some v =>
    (v.next :: v.bnext.toList).foldl (fun d r =>
      let dir := r.ports % 16
      let (a, d) := d.draw
      (d.sendPkt ⟨dir, none, (⟨ptSquare, 0, true, r.dest, d.rank, v.stamp, frame.length, Config.freeNat a, r.hops - 1, r.ports / 16⟩ : Hdr).code,
        frame⟩).linkWatch dir) d

/-- Cuts a list into pieces. -/
def chunksOf {α : Type} (n : Nat) : Nat → List α → List (List α)
  | 0, _ => []
  | f + 1, l => if l.isEmpty then [] else l.take n :: chunksOf n f (l.drop n)

/-- Sends blocks of one kind as frames of the largest COUNT. -/
def Dev.pushBlocks (d : Dev) (g : Nat) (c : Coll) (via : Option Via) (kind pass slot dest : Nat) (body : List (Nat × Blk) → List Byte)
    (l : List (Nat × Blk)) : Dev :=
  (chunksOf (maxCount c.m.outBytes kind) l.length l).foldl (fun d x =>
    d.pushFrame g c via dest (frameOf ⟨c.id, if kind = fkSparse then 0 else (x.head?.map (·.1)).getD 0, kind, pass, slot, x.length⟩ (body x))) d

/-- Bodies by kind. -/
def denseBody (l : List (Nat × Blk)) : List Byte := blksBody (l.map (·.2))
def sparseBody (l : List (Nat × Blk)) : List Byte := blksBody (l.map (·.2)) ++ l.flatMap fun r => leBytes 4 r.1
def elsBody (l : List (Nat × Blk)) : List Byte := l.flatMap fun r => elBytes r.2.els
def onebitBody (l : List (Nat × Blk)) : List Byte := l.flatMap fun r => elBytes r.2.els ++ leBytes 4 r.2.mask
def expBody (l : List (Nat × Blk)) : List Byte := l.flatMap fun r => leBytes 1 r.2.x

/-! ### This device's contribution -/

/-- What a step of a collective gives. -/
abbrev CollDev := Coll × Dev

/-- Sets flags of an engine (R282). -/
def Dev.sqFlags (d : Dev) (g fl : Nat) : Dev := d.put (F.NUM_SQ_FLAGS_FLAGS g) (flagOr (d.get (F.NUM_SQ_FLAGS_FLAGS g)) fl)

/-- The element codes of a block in each part. -/
def Dev.partCodes (d : Dev) (c : Coll) (b : Nat) : List (List Nat) :=
  let n := if c.m.bf16 then 2 else 4
  (List.range c.m.parts).map fun i =>
    let bytes := d.readVa c.ext (c.p i + b * c.m.inBytes) c.m.inBytes
    (List.range 32).map fun j => leNat ((bytes.drop (n * j)).take n)

/-- Reads the parts of blocks: a failure where a read meets an error. -/
def collIn (l : List Nat) (due : Bool) (x : CollDev) : CollDev :=
  let runs := l.flatMap fun b => (List.range x.1.m.parts).flatMap fun i => extentRuns x.1.ext (x.1.p i + b * x.1.m.inBytes) x.1.m.inBytes
  match x.2.readRuns runs due with
  | (0, d) => (x.1, d)
  | (st, d) => ({ x.1 with fail := x.1.fail.or (some st) }, d)

/-- Writes to a region of a collective. -/
def collWrite (va : Nat) (bytes : List Byte) (x : CollDev) : CollDev :=
  let runs := extentRuns x.1.ext va bytes.length
  match x.2.tryWriteRuns runs with
  | (0, d) =>
    let d := d.writeRuns runs bytes
    (match x.1.queue, runs.any (fun r => isHost r.1) with
     | some (q, s), true => (x.1, d.wroteHost q s)
     | _, _ => (x.1, d))
  | (st, d) => ({ x.1 with fail := x.1.fail.or (some st) }, d)

/-- The agreed exponent of a block. -/
def Coll.pmax (c : Coll) (b : Nat) : Option Nat := Table.get (fun _ => none) c.exps b

/-- The proposal of a block over all parts. -/
def Dev.propose (d : Dev) (c : Coll) (b : Nat) : Nat := (d.partCodes c b).foldl (fun p l => max p (proposal c.m.bf16 l)) 0

/-- The contribution to a block, for a pass. -/
def Dev.contrib (d : Dev) (g : Nat) (c : Coll) (pass b : Nat) : Blk × Dev :=
  let parts := d.partCodes c b
  if c.m.fmt = fmBsi then
    let r := bsiContrib c.m.bf16 pass (expOf ((c.pmax b).getD 0) c.m.head pass) parts
    (r.1, (d.sqFlags g r.2.1).bump (F.SQR_RERUN_CLAMPED g) r.2.2)
  else
    let (s, d) := d.draw
    let r := fpContrib c.m.bf16 (Config.freeNat s) parts
    (⟨r.1, 0, 0, false⟩, d.sqFlags g r.2)

/-- The contributions to some blocks. -/
def Dev.contribs (g : Nat) (c : Coll) (pass : Nat) : List Nat → Dev → List (Nat × Blk) × Dev
  | [], d => ([], d)
  | b :: r, d =>
    let (x, d) := d.contrib g c pass b
    let (l, d) := Dev.contribs g c pass r d
    ((b, x) :: l, d)

/-- Keeps results of this device's own shard. -/
def Coll.keep (c : Coll) (l : List (Nat × Blk)) : Coll :=
  { c with got := l.foldl (fun t r => Table.set (fun _ => none) t r.1 (some r.2)) c.got,
           awaiting := c.awaiting.filter fun b => !l.any fun r => r.1 == b }

/-- The result of a block. -/
def Coll.res (c : Coll) (b : Nat) : Option Blk := Table.get (fun _ => none) c.got b

/-- Where the one-bit block of a slot is kept. -/
def bitKey (slot b : Nat) : Nat := (slot + 1) * 2 ^ 32 + b

/-- The frame kind and body of reduce frames. -/
def reduceKind (m : CollDesc) (pass : Nat) : Nat := if m.fmt = fmFp32 then fkFp32 else if pass = 0 then fkDense else fkSparse
def reduceBody (m : CollDesc) (pass : Nat) : List (Nat × Blk) → List Byte :=
  if m.fmt = fmFp32 then elsBody else if pass = 0 then denseBody else sparseBody

/-- The first slot of a shard sends its contribution to some blocks (R279). -/
def firstSend (g : Nat) (via : Option Via) (pass : Nat) (l : List Nat) (x : CollDev) : CollDev :=
  let (c, d) := collIn l false x
  let (r, d) := Dev.contribs g c pass l d
  ({ c with passed := c.passed + (if pass = 0 then l.length else 0) },
    d.pushBlocks g c via (reduceKind c.m pass) pass c.slot (c.m.succ c.slot) (reduceBody c.m pass) r)

/-- Codes every block in one-bit form, with the error memory (R289). -/
def onebitAll (g : Nat) (x : CollDev) : CollDev :=
  let (c, d) := collIn (List.range x.1.m.blocks) false x
  let (st, d) := d.readRuns (extentRuns c.ext (c.p 5) (128 * c.m.blocks)) false
  let c := if st = stOk then c else { c with fail := c.fail.or (some st) }
  (List.range c.m.blocks).foldl (fun y b =>
    let (c, d) := y
    let (s, d) := d.draw
    let err := d.readVa c.ext (c.p 5 + 128 * b) 128
    let r := onebit (Config.freeNat s) (fpContrib c.m.bf16 (Config.freeNat s) (d.partCodes c b))
      ((List.range 32).map fun j => leNat ((err.drop (4 * j)).take 4), 0)
    collWrite (c.p 6 + 128 * b) (elBytes r.2.1) ({ c with got := Table.set (fun _ => none) c.got (bitKey c.slot b) (some r.1) }, d.sqFlags g r.2.2)) (c, d)

/-- The one-bit blocks of this device for a shard, as they were coded. -/
def Coll.ownBits (c : Coll) (l : List Nat) : List (Nat × Blk) := l.filterMap fun b => (c.res (bitKey c.slot b)).map fun x => (b, x)

/-- The slot to which this device's own one-bit frames of a shard go: round the ring, or from a backup to the owner (R290, R292). -/
def Coll.bitDest (c : Coll) (s : Nat) : Nat := if c.m.backup then s else c.m.succ c.slot

/-- The owner sums a block once every slot's one-bit form is in (R290). -/
def bitSettle (g b : Nat) (x : CollDev) : CollDev :=
  let (c, d) := x
  let l := (List.range c.m.ranks).filterMap fun j => c.res (bitKey j b)
  if l.length < c.m.ranks then x
  else
    let (s, d) := d.draw
    let r := onebitSum (Config.freeNat s) l
    (c.keep [(b, ⟨r.1, 0, 0, false⟩)], d.sqFlags g r.2)

/-! ### The owner (R280, R286, R288) -/

/-- Writes finished blocks to OUT. -/
def writeOut (g : Nat) (l : List Nat) (x : CollDev) : CollDev :=
  l.foldl (fun y b =>
    match y.1.res b with
    | none => y
    | some k =>
      let r := outBlock y.1.m k
      let (c, d) := collWrite (y.1.p 4 + b * y.1.m.outBytes) r.1 (y.1, y.2.sqFlags g r.2)
      ({ c with written := Table.set (fun _ => false) c.written b true }, d)) x

/-- Sends finished blocks as FINAL frames. -/
def pushFinals (g : Nat) (via : Option Via) (l : List Nat) (x : CollDev) : CollDev :=
  let c := x.1
  let m := c.m
  (c, x.2.pushBlocks g c via fkFinal 0 c.slot (m.succ c.slot) (fun r => r.flatMap fun k => (outBlock m k.2).1)
    (l.filterMap fun b => (c.res b).map fun k => (b, k)))

/-- The blocks of this device's own shard. -/
def Coll.own (c : Coll) : List Nat := c.m.shard c.slot

/-- The flagged results among some blocks. -/
def Coll.flaggedOf (c : Coll) (l : List Nat) : List Nat := l.filter fun b => ((c.res b).map Blk.flag).getD false

/-- FLAGLIST frames of a pass for some blocks of a shard. -/
def pushFlags (g : Nat) (via : Option Via) (pass first n : Nat) (l : List Nat) (x : CollDev) : CollDev :=
  let c := x.1
  (c, (List.range ((n + 32511) / 32512)).foldl (fun d i =>
    let lo := first + 32512 * i
    let bytes := min 4064 ((n - 32512 * i + 7) / 8)
    if via.isNone && !l.any (fun b => lo ≤ b && b < lo + 32512) then d
    else d.pushFrame g c via (c.m.succ c.slot) (frameOf ⟨c.id, lo, fkFlaglist, pass, c.slot, bytes⟩ (flagBitmap lo bytes l))) x.2)

/-- The owner begins a pass for flagged blocks. -/
def beginRerun (g pass : Nat) (l : List Nat) (x : CollDev) : CollDev :=
  ({ x.1 with pass := pass, awaiting := x.1.awaiting ++ l, maxPass := max x.1.maxPass pass, reran := true },
    x.2.bump (F.SQR_RERUN_RERUN g) l.length)

/-- The owner's shard once its results are in: another pass for flagged blocks, or OUT and the gather phase. A device alone reruns by
itself; a round of a scheduled partition starts what the image says. -/
def ownerTurn (g : Nat) (via : Option Via) : Nat → CollDev → CollDev
  | 0, x => x
  | f + 1, x =>
    let c := x.1
    if !c.awaiting.isEmpty || c.ownDone || (c.m.fmt == fmBsi && !c.reducing) then x
    else
      let fl := c.flaggedOf c.own
      if fl.isEmpty then
        let x := writeOut g c.own x
        let x := if c.m.op = opAllreduce ∧ c.m.ranks ≠ 1 ∧ via.isNone then pushFinals g via c.own x else x
        ({ x.1 with ownDone := true }, x.2)
      else if c.m.ranks = 1 then
        let (c, d) := collIn fl false (beginRerun g (c.pass + 1) fl x)
        let (l, d) := Dev.contribs g c c.pass fl d
        ownerTurn g via f (c.keep l, d)
      else if via.isNone then
        let y := beginRerun g (c.pass + 1) fl x
        pushFlags g via y.1.pass (c.m.lo c.slot) c.own.length fl y
      else x

/-! ### Beginning (R280, R281, R290) -/

/-- What a context computes when it begins: its own shard to wait for; one-bit codes; everything where it is alone. -/
def collSetup (g : Nat) (x : CollDev) : CollDev :=
  let x : CollDev := ({ x.1 with awaiting := x.1.own, begun := true }, x.2)
  let all := List.range x.1.m.blocks
  if x.1.m.fmt = fmOnebit then
    let x := onebitAll g x
    if x.1.m.ranks = 1 then x.1.own.foldl (fun y b => bitSettle g b y) x else x
  else if x.1.m.ranks = 1 then
    let (c, d) := collIn all false x
    let c := { c with exps := if c.m.fmt = fmBsi then all.map fun b => (b, some (d.propose c b)) else [], reducing := true }
    let (l, d) := Dev.contribs g c 0 all d
    (c.keep l, d)
  else x

/-- Sends the proposals of blocks, or agreed maxima. -/
def pushExps (g : Nat) (via : Option Via) (slot : Nat) (l : List (Nat × Nat)) (x : CollDev) : CollDev :=
  (x.1, x.2.pushBlocks g x.1 via fkExponent 0 slot (x.1.m.succ x.1.slot) expBody (l.map fun r => (r.1, ⟨[], r.2, 0, false⟩)))

/-- A queued context's first frames. -/
def collFirst (g : Nat) (x : CollDev) : CollDev :=
  let c := x.1
  let s := c.m.pred c.slot
  if c.m.ranks = 1 then x
  else if c.m.fmt = fmFp32 then firstSend g none 0 (c.m.shard s) x
  else if c.m.fmt = fmOnebit then
    (List.range c.m.ranks).foldl (fun y k =>
      if k = c.slot then y
      else (y.1, y.2.pushBlocks g c none fkOnebit 0 c.slot (c.bitDest k) onebitBody (y.1.ownBits (c.m.shard k)))) x
  else
    let (c, d) := collIn (c.m.shard s) false x
    pushExps g none c.slot ((c.m.shard s).map fun b => (b, d.propose c b)) (c, d)

/-- Once every exponent is agreed the reduce phase begins (R281). -/
def reduceTurn (g : Nat) (via : Option Via) (x : CollDev) : CollDev :=
  let c := x.1
  if c.m.fmt ≠ fmBsi ∨ c.reducing ∨ (List.range c.m.blocks).any fun b => (c.pmax b).isNone then x
  else
    let x : CollDev := ({ c with reducing := true }, x.2)
    if via.isNone then firstSend g via 0 (c.m.shard (c.m.pred c.slot)) x else x

/-! ### Frames (R279 to R286, R290 to R294) -/

/-- The first block of a frame, for its identity. -/
def frameFirst (f : List Byte) : Nat :=
  if (frameHdr f).kind = fkSparse then ((frameBlocks f).head?).getD (2 ^ 32) else (frameHdr f).first

/-- The identity of a frame. -/
def frameKey (f : List Byte) : Nat × Nat × Nat × Nat :=
  let h := frameHdr f
  (h.kind, h.slot, h.pass, frameFirst f)

/-- The shard of a frame. -/
def Coll.frameShard (c : Coll) (f : List Byte) : Nat :=
  let h := frameHdr f
  if h.kind = fkFlaglist ∨ h.kind = fkFinal then h.slot else c.m.shardOf (frameFirst f)

/-- Is a frame a part of the gather of exponents: its SLOT is the shard's owner (DEDUCED, notes/assumptions/22.md)? -/
def Coll.gathers (c : Coll) (f : List Byte) : Bool := (frameHdr f).kind == fkExponent && (frameHdr f).slot == c.frameShard f

/-- Is a frame of a kind of which either copy serves? -/
def Coll.either (c : Coll) (f : List Byte) : Bool :=
  let h := frameHdr f
  h.kind == fkFlaglist || h.kind == fkFinal || c.gathers f || (h.kind == fkOnebit && c.frameShard f != c.slot)

/-- The slot whose frame it is, as its consumer decides between primary and backup: the predecessor, or the slot of a one-bit frame. -/
def Coll.source (c : Coll) (f : List Byte) : Nat := if (frameHdr f).kind = fkOnebit then (frameHdr f).slot else c.m.pred c.slot

/-- Does a frame come from the backup of its source? -/
def Coll.fromBackup (c : Coll) (src : Nat) (f : List Byte) : Bool :=
  c.bak (c.source f) == some src && !(c.prim (c.m.pred c.slot) == src)

/-- Is a sender one that this collective expects (R298)? -/
def Coll.expects (c : Coll) (src : Nat) (f : List Byte) : Bool :=
  c.m.ranks != 1 && (src == c.prim (c.m.pred c.slot) || c.bak (c.m.pred c.slot) == some src || c.fromBackup src f)

/-- May a kept frame be taken now: its source decided, its exponents agreed? -/
def Coll.takes (c : Coll) (src : Nat) (f : List Byte) : Bool :=
  let h := frameHdr f
  (c.either f || c.useBackup.contains (c.source f) == c.fromBackup src f)
    && (c.reducing || !(h.kind == fkDense || h.kind == fkSparse || h.kind == fkFlaglist))

/-- Writes a log entry (R294). -/
def logSwitch (slot first : Nat) (x : CollDev) : CollDev :=
  let c := x.1
  let cap := bits (c.p 10) 31 0
  if c.logged < cap then
    collWrite (c.p 9 + 8 * c.logged) (leBytes 8 (slot * 2 ^ 50 + first)) ({ c with logged := c.logged + 1 }, x.2)
  else if cap = 0 then x
  else
    let at_ := c.p 9 + 8 * (cap - 1)
    collWrite at_ (leBytes 8 (leNat (x.2.readVa c.ext at_ 8) ||| 2 ^ 49)) x

/-- Switches a slot to its backup, once (R293). -/
def collSwitch (slot first : Nat) (x : CollDev) : CollDev :=
  if x.1.useBackup.contains slot || (x.1.bak slot).isNone then x
  else logSwitch slot first ({ x.1 with useBackup := slot :: x.1.useBackup }, x.2)

/-- A switch that LOG_IN forces at a frame. -/
def forced (f : List Byte) (x : CollDev) : CollDev :=
  let c := x.1
  if !c.either f && c.logIn.contains (c.source f, (frameHdr f).first) then collSwitch (c.source f) (frameHdr f).first x else x

/-- An EXPONENT frame: MAX with this device's proposals, or an agreed maximum that passes round (R281). -/
def takeExponent (g : Nat) (via : Option Via) (f : List Byte) (x : CollDev) : CollDev :=
  let c := x.1
  let s := c.frameShard f
  let bl := frameBlocks f
  let vals := (bl.zip (frameBody f)).map fun r => (r.1, r.2.toNat)
  let set (c : Coll) (l : List (Nat × Nat)) : Coll := { c with exps := l.foldl (fun t r => Table.set (fun _ => none) t r.1 (some r.2)) c.exps }
  if c.gathers f then
    (set c vals, if via.isNone && c.m.succ c.slot != s then x.2.pushFrame g c via (c.m.succ c.slot) f else x.2)
  else
    let (c, d) := collIn bl false x
    let l := vals.map fun r => (r.1, max r.2 (d.propose c r.1))
    if s = c.slot then if via.isNone then pushExps g via c.slot l (set c l, d) else (set c l, d)
    else pushExps g via c.slot l (c, d)

/-- A checksum mismatch (R284, R285). -/
def Dev.sqMismatch (d : Dev) (g : Nat) (arith : Bool) (h : FrameHdr) : Dev :=
  (d.bump (F.SQR_CKERR_COUNT g) 1).puts [(F.SQR_CKERR_ARITH g, b2n arith), (F.SQR_CKERR_SLOT g, h.slot), (F.SQR_CKERR_FIRST_BLOCK g, h.first)]

/-- A BSI frame: the stage of R285 on its blocks. -/
def takeBsi (g : Nat) (via : Option Via) (f : List Byte) (x : CollDev) : CollDev :=
  let h := frameHdr f
  let bl := frameBlocks f
  let (c, d) := collIn bl false x
  let part := bodyBlks (frameBody f) h.count
  let (own, d) := Dev.contribs g c h.pass bl d
  if !stageOk part (own.map (·.2)) then ({ c with fail := c.fail.or (some stChecksum) }, d.sqMismatch g true h)
  else
    let r := (part.zip own).map fun y => (y.2.1, bsiAdd h.pass y.1 y.2.2)
    let d := (d.sqFlags g (r.foldl (fun m y => flagOr m y.2.2.1) 0)).bump (F.SQR_RERUN_CLAMPED g) (r.countP fun y => y.2.2.2)
    let l := r.map fun y => (y.1, y.2.1)
    if !bl.isEmpty && c.frameShard f == c.slot then (c.keep l, d)
    else
      ({ c with passed := c.passed + (if h.pass = 0 then bl.length else 0) },
        if bl.isEmpty then d.pushFrame g c via (c.m.succ c.slot) (frameOf { h with slot := c.slot } [])
        else d.pushBlocks g c via h.kind h.pass c.slot (c.m.succ c.slot) (reduceBody c.m h.pass) l)

/-- An FP32 frame (R291). -/
def takeFp32 (g : Nat) (via : Option Via) (f : List Byte) (x : CollDev) : CollDev :=
  let h := frameHdr f
  let bl := frameBlocks f
  let (c, d) := collIn bl false x
  let part := (bodyBlks (frameBody f) h.count).map Blk.els
  let (own, d) := Dev.contribs g c 0 bl d
  let (s, d) := d.draw
  let r := (part.zip own).map fun y => (y.2.1, addFps (Config.freeNat s) (y.1, 0) (y.2.2.els, 0))
  let d := d.sqFlags g (r.foldl (fun m y => flagOr m y.2.2) 0)
  let l := r.map fun y => (y.1, (⟨y.2.1, 0, 0, false⟩ : Blk))
  if c.frameShard f = c.slot then (c.keep l, d)
  else ({ c with passed := c.passed + bl.length }, d.pushBlocks g c via fkFp32 0 c.slot (c.m.succ c.slot) elsBody l)

/-- A ONEBIT frame: forwarded, or kept by the owner (R290). -/
def takeOnebit (g : Nat) (via : Option Via) (f : List Byte) (x : CollDev) : CollDev :=
  let h := frameHdr f
  let bl := frameBlocks f
  let c := x.1
  if c.frameShard f ≠ c.slot then ({ c with passed := c.passed + bl.length }, x.2.pushFrame g c via (c.m.succ c.slot) f)
  else
    let body := frameBody f
    let l := bl.zipIdx.map fun r =>
      let w (i : Nat) := leNat ((body.drop (12 * r.2 + 4 * i)).take 4)
      (bitKey h.slot r.1, (⟨[w 0, w 1], 0, w 2, false⟩ : Blk))
    bl.foldl (fun y b => bitSettle g b y) (c.keep l, x.2)

/-- A FLAGLIST frame: forwarded ahead of the data; the first slot of the shard starts the pass (R286). -/
def takeFlags (g : Nat) (via : Option Via) (f : List Byte) (x : CollDev) : CollDev :=
  let h := frameHdr f
  let bl := frameBlocks f
  let c := { x.1 with flagged := x.1.flagged ++ bl.map (fun b => (h.pass, b)), maxPass := max x.1.maxPass (if bl.isEmpty then 0 else h.pass),
                      reran := x.1.reran || !bl.isEmpty }
  let d := if c.m.succ c.slot = h.slot then x.2 else x.2.pushFrame g c via (c.m.succ c.slot) f
  let d := d.bump (F.SQR_RERUN_RERUN g) bl.length
  if via.isNone && c.m.pred c.slot == h.slot && !bl.isEmpty then firstSend g via h.pass bl (c, d) else (c, d)

/-- A FINAL frame: written to OUT and passed on (R280). -/
def takeFinal (g : Nat) (via : Option Via) (f : List Byte) (x : CollDev) : CollDev :=
  let h := frameHdr f
  let n := x.1.m.outBytes
  let (c, d) := (frameBlocks f).zipIdx.foldl (fun y r =>
    let (c, d) := collWrite (y.1.p 4 + r.1 * n) (((frameBody f).drop (n * r.2)).take n) y
    ({ c with written := Table.set (fun _ => false) c.written r.1 true }, d)) x
  (c, if c.m.succ c.slot = h.slot then d else d.pushFrame g c via (c.m.succ c.slot) f)

/-- Takes one frame. -/
def takeFrame (g : Nat) (via : Option Via) (f : List Byte) (x : CollDev) : CollDev :=
  let x : CollDev := ({ x.1 with seen := frameKey f :: x.1.seen }, x.2)
  match (frameHdr f).kind with
  | 0 => takeBsi g via f x
  | 1 => takeBsi g via f x
  | 2 => takeFp32 g via f x
  | 3 => takeOnebit g via f x
  | 4 => takeExponent g via f x
  | 5 => takeFlags g via f x
  | _ => takeFinal g via f x

/-- Frames of blocks of which copies came already, and frames of a source that is switched away from, are let go. -/
def Coll.sweep (c : Coll) : Coll :=
  { c with inbox := c.inbox.filter fun r =>
      !c.seen.contains (frameKey r.2) && (c.either r.2 || c.fromBackup r.1 r.2 || !c.useBackup.contains (c.source r.2)) }

/-- Takes the kept frames that may be taken, in order, as far as `allow` lets them. -/
def takeAll (g : Nat) (via : Option Via) (allow : Coll → List Byte → Bool) : Nat → CollDev → CollDev
  | 0, x => x
  | n + 1, x =>
    let x := x.1.inbox.foldl (fun y r => if allow y.1 r.2 then forced r.2 y else y) x
    let x : CollDev := (x.1.sweep, x.2)
    match x.1.inbox.find? fun r => allow x.1 r.2 && x.1.takes r.1 r.2 with
    | none => x
    | some r =>
      if x.1.fail.isSome then x
      else
        let x := takeFrame g via r.2 ({ x.1 with inbox := x.1.inbox.erase r }, x.2)
        takeAll g via allow n (ownerTurn g via 5 (reduceTurn g via x))

/-! ### When a collective is done -/

/-- The blocks of other shards that this device passes on in the first pass. -/
def Coll.duty (c : Coll) : Nat :=
  let m := c.m
  if m.fmt = fmOnebit then
    (List.range m.ranks).foldl (fun n s => n + (if s = c.slot then 0 else (m.shard s).length * ((c.slot + 2 * m.ranks - s - 1) % m.ranks))) 0
  else m.blocks - c.own.length

/-- Has this device done its part? -/
def Coll.complete (c : Coll) : Bool :=
  c.ownDone && (c.m.ranks == 1
    || (if c.m.op = opAllreduce then (List.range c.m.blocks).all fun b => Table.get (fun _ => false) c.written b else c.duty ≤ c.passed))

/-- Has a collective requests without their RESP? -/
def Dev.sqAwaits (d : Dev) (g id : Nat) : Bool := d.gate.outstanding.any fun o => o.kind == 4 && o.queue == g && o.seq == id

/-- Does a collective wait: memory stalls, or requests are stopped? -/
def Dev.collWaits (d : Dev) (c : Coll) : Bool :=
  d.runsWait (c.ranges.flatMap fun r => extentRuns c.ext r.1 r.2) || (c.queue.isSome && c.m.ranks != 1 && !d.mayRequest)

/-- Puts a context back, or ends it where it failed or is done. -/
def collPut (g : Nat) (x : CollDev) : Dev :=
  match x.1.fail with
  | some st => x.2.endColl g x.1 st 0
  | none =>
    if x.1.queue.isSome && x.1.complete && !x.2.sqAwaits g x.1.id then x.2.endColl g x.1 x.1.goodStatus 0
    else x.2.setColl g x.1

/-- A queued collective goes as far as its frames let it. -/
def Dev.collTurn (d : Dev) (g : Nat) (c : Coll) : Dev :=
  if c.queue.isNone || c.m.op == opBroadcast || d.collWaits c then d
  else collPut g (takeAll g none (fun _ _ => true) (c.inbox.length + 1) (ownerTurn g none 5 (reduceTurn g none (c, d))))

/-! ### Queued descriptors -/

/-- Ends an entry that failed a check, or had nothing to do. -/
def Dev.collStop (d : Dev) (g : Nat) (e : Entry) (status order : Nat) : Dev :=
  (d.sqLast g (collDesc true e.desc).id status order 0 false false 0).finishEntry e.queue e.seq status 0

/-- The order of R297 that a refused range belongs to. -/
def rangeOrder (st : Nat) : Nat := if st = stBounds then 4 else if st = stPerm then 5 else 0

/-- A region that a descriptor names, for its requester. -/
def sqWaiter (g : Nat) (x : Queue) (e : Entry) (r : Nat × Nat × Nat) : Waiter :=
  ⟨0, holderSquare g, x.root, x.part, r.1, r.2.1, r.2.2, false, some (e.queue, e.seq)⟩

/-- Reads a region that the checks look at: its bytes, or none where the entry parks, waits or ends. -/
def Dev.sqFetch (d : Dev) (g : Nat) (x : Queue) (e : Entry) (va n : Nat) : Option (List Byte) × Dev :=
  match d.obtain (sqWaiter g x e (va, n, 1)) with
  | (.parked, d) => (none, d)
  | (.stop st, d) => (none, d.collStop g e st (rangeOrder st))
  | (.ok l, d) =>
    if d.runsWait (extentRuns l va n) then (none, d)
    else
      match d.readRuns (extentRuns l va n) false with
      | (0, d) => (some (d.readVa l va n), d)
      | (st, d) => (none, d.collStop g e st 0)

/-- The checks of R297 in order, then the engine's waiting list (R298). -/
def Dev.collCheck (g : Nat) (x : Queue) (e : Entry) (d : Dev) : Dev :=
  let m := collDesc true e.desc
  if !d.collDescOk m then d.collStop g e stFeature 1
  else if !bit (d.get (F.ARB_PART_SQ_MASK x.part)) g then d.collStop g e stPerm 0
  else
    match d.sqFetch g x e m.param 128 with
    | (none, d) => d
    | (some pb, d) =>
      let p := (List.range 16).map (leWord pb)
      match d.sqFetch g x e (p.getD 7 0 % 2 ^ 56) (listBytes m * listCount m) with
      | (none, d) => d
      | (some lb, d) =>
        let list := listWords m lb
        if !d.collBlockOk true m p list then d.collStop g e stFeature 1
        else if collEmpty m p then d.collStop g e stOk 0
        else
          let sh := collShape (d.on F.GTE_ID_RANKED) m
          if sh.1 ≠ stOk then d.collStop g e sh.1 sh.2
          else
            let regions := collRegions d.rank m p list
            match Dev.obtainAll (regions.map (sqWaiter g x e)) d with
            | (.parked, d) => d
            | (.stop st, d) => d.collStop g e st (rangeOrder st)
            | (.ok ext, d) =>
              let er := d.collErr m p ext
              let pl := d.collPlace m list
              if er.1 ≠ stOk then d.collStop g e er.1 er.2
              else if pl.1 ≠ stOk then d.collStop g e pl.1 pl.2
              else
                match Dev.holdAll (holderSquare g) x.root (regions.map fun r => (r.1, r.2.1)) d with
                | none => d
                | some d =>
                  let c := d.newColl (some (e.queue, e.seq)) x.part x.root e.desc p list ext
                  d.setSq g { d.sq g with waiting := (d.sq g).waiting ++ [c] }

/-- A COLLECTIVE entry, for the command of its operation. -/
def Dev.collEntry (mine : Nat → Bool) (x : Queue) (e : Entry) (d : Dev) : Dev :=
  if mine (collDesc true e.desc).op && !d.hasColl e.queue e.seq then d.collCheck (e.engine % 2) x e else d

/-- ALLREDUCE; a reserved operation is refused here too. -/
def execAllreduce (q : Nat) (seq : Nat) (s : State) : Host.Outcome State Fault Refusal :=
  onDev (Dev.onEntry q seq tyCollective (Dev.collEntry fun op => op != opReduceScatter && op != opBroadcast)) s

/-- REDUCE_SCATTER. -/
def execReduceScatter (q : Nat) (seq : Nat) (s : State) : Host.Outcome State Fault Refusal :=
  onDev (Dev.onEntry q seq tyCollective (Dev.collEntry fun op => op == opReduceScatter)) s

/-- BROADCAST. -/
def execBroadcast (q : Nat) (seq : Nat) (s : State) : Host.Outcome State Fault Refusal :=
  onDev (Dev.onEntry q seq tyCollective (Dev.collEntry fun op => op == opBroadcast)) s

end Sys2Proof.Machine
end

