-- ==== Sys2Proof/Machine/Broadcast.lean ====
section
/-! DEFINITION. Running collectives: the start of a context, Square packets, backups and timeouts, rounds of scheduled partitions, and
image broadcasts (R286, R293, R298 to R304). -/

namespace Sys2Proof.Machine

open Sys2Proof

/-! ### Broadcasts (R300 to R303) -/

/-- The tree-table entry of a rank. -/
def Coll.tree (c : Coll) (r : Nat) : Nat := (c.list.find? fun e => bits e 63 50 == r).getD 0

/-- Is this device the root? -/
def Dev.isRoot (d : Dev) (c : Coll) : Bool := treeRoot d.rank c.list

/-- Where the image lies: SRC at the root, DST elsewhere; segment `i` stands `i` MiB above (DESIGN CHOICE, notes/assumptions/22.md). -/
def Dev.segVa (d : Dev) (c : Coll) (i : Nat) : Nat := (if d.isRoot c then c.p 0 else c.p 4) + 0x100000 * i

/-- The number of data segments and the image size, from a manifest. -/
def manN (b : List Byte) : Nat := leNat ((b.drop 4).take 4)
def manSize (b : List Byte) : Nat := leNat ((b.drop 8).take 8)

/-- The bytes of segment `i`; `b` is the manifest, or what of it is there. -/
def segLen (b : List Byte) (i : Nat) : Nat :=
  if i = 0 then 16 + 48 * manN b else if i < manN b then 0x100000 else manSize b - 0x100000 * (manN b - 1)

/-- The digest that segment `i` must have. -/
def Coll.segDigest (c : Coll) (i : Nat) : List Byte :=
  if i = 0 then (List.range 6).flatMap fun k => leBytes 8 (c.p (8 + k)) else (c.manifest.drop (16 + 48 * (i - 1))).take 48

/-- Is a segment's content the one its digest names? A manifest also has its mark and at most 21,845 segments. -/
def Coll.segGood (c : Coll) (i : Nat) (b : List Byte) : Bool :=
  sha384 b == c.segDigest i && (i != 0 || (leNat (b.take 4) == 0x4C534D46 && manN b ≤ 21845))

/-- SQR_BCAST follows a broadcast. -/
def Dev.showBcast (d : Dev) (g : Nat) (c : Coll) : Dev :=
  d.puts [(F.SQR_BCAST_VERIFIED g, c.next - 1), (F.SQR_BCAST_PARENT g, c.parent), (F.SQR_BCAST_ALT g, b2n c.onAlt),
    (F.SQR_BCAST_DONE g, if d.isRoot c then c.dones.foldl (fun s r => s + r.2) 0 else 0), (F.SQR_BCAST_STATE g, 1)]

/-- Puts a broadcast back. -/
def Dev.putBcast (d : Dev) (g : Nat) (c : Coll) : Dev := (d.setColl g c).showBcast g c

/-- Sends a verified segment to a child in 4 KiB pieces. -/
def Dev.sendSegment (d : Dev) (g : Nat) (c : Coll) (child i : Nat) : Dev :=
  let b := d.readVa c.ext (d.segVa c i) (segLen c.manifest i)
  (packetsFrom (b.length + 1) 0 b).foldl (fun d x => d.sqRequest g c ptSegment child (i * 2 ^ 32 + x.1) x.2) d
where
  packetsFrom : Nat → Nat → List Byte → List (Nat × List Byte)
    | 0, _, _ => []
    | f + 1, o, b => if b.isEmpty then [] else (o, b.take 4096) :: packetsFrom f (o + 4096) (b.drop 4096)

/-- Sends verified segments from `i` on. -/
def Dev.serveFrom (d : Dev) (g : Nat) (c : Coll) (child i : Nat) : Dev :=
  (natRange i (c.next - i)).foldl (fun d k => d.sendSegment g c child k) d

/-- The record of a control packet: kind (1 ATTACH, 2 RESEND, 3 DONE), COLL_ID, three words (DESIGN CHOICE, notes/assumptions/22.md). -/
def ctlRecord (kind id a b n : Nat) : List Byte := leBytes 8 kind ++ leBytes 8 id ++ leBytes 8 a ++ leBytes 8 b ++ leBytes 8 n

/-- Sends a control record. -/
def Dev.sendCtl (d : Dev) (g : Nat) (c : Coll) (dst kind a b n : Nat) : Dev :=
  let (s, d) := d.draw
  d.sqRequest g c ptControl dst (Config.freeNat s) (ctlRecord kind c.id a b n)

/-- Has this device every segment? -/
def Coll.hasAll (c : Coll) : Bool := !c.manifest.isEmpty && decide (manN c.manifest < c.next)

/-- The devices whose DONE is held. -/
def Coll.doneCount (c : Coll) : Nat := c.dones.foldl (fun s r => s + r.2) 0

/-- A broadcast completes when every segment is there and its children are done; the root when all other devices are. -/
def Dev.settleBcast (d : Dev) (g : Nat) (c : Coll) : Dev :=
  let d := d.putBcast g c
  if d.isRoot c then if c.m.ranks - 1 ≤ c.doneCount then d.endColl g c stOk 0 else d
  else if c.hasAll && c.kids.all fun k => c.dones.any fun r => r.1 == k then
    (d.sendCtl g c c.parent 3 d.rank (1 + c.doneCount) 0).endColl g c stOk 0
  else d

/-- The segments of the root, or of a resumed device, that pass their digests, from `i` on. -/
def Dev.verifyFrom (d : Dev) (c : Coll) : Nat → Nat → Nat
  | 0, i => i
  | f + 1, i =>
    if manN c.manifest < i then i
    else if c.segGood i (d.readVa c.ext (d.segVa c i) (segLen c.manifest i)) then d.verifyFrom c f (i + 1) else i

/-- The manifest that lies in memory. -/
def Dev.readManifest (d : Dev) (c : Coll) : List Byte :=
  let b := d.readVa c.ext (d.segVa c 0) 16
  d.readVa c.ext (d.segVa c 0) (min (segLen b 0) 0x100000)

/-- A broadcast begins: the root verifies its image and sends it, another device waits for its first segment. -/
def Dev.beginBcast (d : Dev) (g : Nat) (c : Coll) : Dev :=
  let kids := c.list.filterMap fun e => if !bit e 21 && bits e 49 36 == d.rank then some (bits e 63 50) else none
  let resume := bits (c.p 14) 39 24
  let c := { c with begun := true, kids := kids, parent := bits (c.tree d.rank) 49 36 }
  if d.isRoot c then
    let man := d.readManifest c
    let c := if c.segGood 0 man then { c with manifest := man } else c
    let c := { c with next := if c.manifest.isEmpty then 0 else d.verifyFrom c (manN c.manifest + 1) 0 }
    (kids.foldl (fun d k => d.serveFrom g c k 0) d).settleBcast g c
  else if resume = 0 then d.settleBcast g c
  else
    let man := d.readManifest c
    d.settleBcast g (if c.segGood 0 man then { c with manifest := man, next := resume } else c)

/-- A parent is lost: the alternate is asked from the next segment on; at the alternate the broadcast fails (R302). -/
def Dev.bcastLost (d : Dev) (g : Nat) (c : Coll) : Dev :=
  if c.onAlt then d.endColl g c stFaultPending 0
  else
    let alt := bits (c.tree d.rank) 35 22
    let c' := { c with onAlt := true, parent := alt, buf := [], resent := false }
    (d.putBcast g c').sendCtl g c' alt 1 d.rank c.parent c.next

/-- A whole segment is here: verified, written and forwarded; or sent again once. -/
def Dev.segDone (d : Dev) (g : Nat) (c : Coll) : Dev :=
  let i := c.next
  if c.segGood i c.buf then
    let y := collWrite (d.segVa c i) c.buf ({ c with manifest := if i = 0 then c.buf else c.manifest, next := i + 1, buf := [], resent := false }, d)
    match y.1.fail with
    | some st => y.2.endColl g y.1 st 0
    | none => (y.1.kids.foldl (fun d k => d.sendSegment g y.1 k i) y.2).settleBcast g y.1
  else if c.resent then d.bcastLost g { c with buf := [] }
  else
    let c := { c with buf := [], resent := true }
    (d.putBcast g c).sendCtl g c c.parent 2 d.rank i 0

/-! ### Starting a context (R298) -/

/-- The next waiting descriptor starts while fewer than sixteen run. `due` says that an input read meets an uncorrectable error. -/
def Dev.startColl (d : Dev) (g : Nat) (due : Bool) : Dev :=
  let x := d.sq g
  match x.waiting with
  | [] => d
  | c :: rest =>
    if 16 ≤ x.running.length || d.collWaits c then d
    else
      let d := d.setSq g { waiting := rest, running := x.running ++ [c] }
      let peers := if c.m.op = opBroadcast then [] else if c.m.ranks = 1 then [] else c.prim (c.m.succ c.slot) :: (c.bak (c.m.succ c.slot)).toList
      if peers.any fun r => d.lacksTo r [ftGateSquare] then d.endColl g c stFeature 0
      else if c.m.op = opBroadcast then
        match d.readRuns (if d.isRoot c then extentRuns c.ext (c.p 0) (bcastBytes c.params) else []) due with
        | (0, d) => d.beginBcast g c
        | (st, d) => d.endColl g c st 0
      else
        let y := collIn (List.range c.m.blocks) due (c, d)
        collPut g (if y.1.fail.isSome then y else ownerTurn g none 5 (collFirst g (collSetup g y)))

/-- COLLECTIVE_START. -/
def execCollectiveStart (engine : Fin 2) (due : Bool) (s : State) : Host.Outcome State Fault Refusal :=
  onDev (fun d => d.startColl engine due) s

/-! ### Responses (R298) -/

/-- A RESP, or its absence, for a Square packet: a status other than OK ends the collective with it. -/
def Dev.sqResp (d : Dev) (o : Outstanding) (st : Nat) : Dev :=
  match (d.sq o.queue).running.find? fun c => c.id == o.seq with
  | none => d
  | some c => if st = stOk then d.collTurn o.queue c else d.endColl o.queue c st 0

/-! ### Square packets (R43, R44, R274, R298) -/

/-- The Square engine on the gate die of a port. -/
def portEngine (p : Nat) : Nat := p / 6

/-- The answer to a Square packet that was discarded: the spec gives it no status (notes/assumptions/22.md). -/
def Dev.sqDrop (d : Dev) (p : Nat) (h : Hdr) : Dev :=
  let d := d.bump (F.SQR_DROPS_COUNT (portEngine p)) 1
  if h.fixed then d
  else
    let (s, d) := d.draw
    d.sendResp h (Config.freeNat s % 256) []

/-- The answer to one that was delivered. -/
def Dev.sqOk (d : Dev) (h : Hdr) : Dev := if h.fixed then d else d.sendResp h stOk []

/-- A scheduled descriptor's address word as a virtual address. -/
def segWordVa (segs : List Segment) (w : Nat) : Nat := (segs.getD (w / 2 ^ 56) ⟨0, 0, 0, []⟩).base + w % 2 ^ 56

/-- The context of a scheduled descriptor. -/
def Dev.schedColl (d : Dev) (p : Nat) (im : Image) (desc : List Byte) : Coll :=
  let m := collDesc false desc
  let ext := im.segs.flatMap Segment.extents
  let pb := d.readVa ext (segWordVa im.segs m.param) 128
  let addrs := (List.range m.parts) ++ [4, 5, 6, 7, 9] ++ (if leWord pb 8 = 0 then [] else [8])
  let ps := (List.range 16).map fun i => if addrs.contains i then segWordVa im.segs (leWord pb i) else leWord pb i
  let list := listWords m (d.readVa ext (ps.getD 7 0) (listBytes m * listCount m))
  d.newColl none p 0 desc ps list ext

/-- The scheduled collective of an identifier in a tick: running, or named by an image of that tick. -/
def Dev.schedFind (d : Dev) (id tn : Nat) : Option (Nat × Coll) :=
  (d.findColl id).or ((List.range 8).findSome? fun p =>
    match d.imageFor p tn with
    | none => none
    | some (im, _) => [0, 1].findSome? fun g =>
      ((im.stream engSquare g).bind fun st => st.slots.findSome? fun s =>
        let desc := im.descs.getD s.desc []
        if s.op = opCollective ∧ (collDesc false desc).id = id ∧ (collDesc false desc).op ≠ opBroadcast then some desc else none).map
        fun desc => (g, d.schedColl p im desc))

/-- Puts a context among the running ones if it is not there. -/
def Dev.openColl (d : Dev) (g : Nat) (c : Coll) : Dev :=
  if (d.sq g).running.any (Coll.same c) then d.setColl g c else d.setSq g { d.sq g with running := (d.sq g).running ++ [c] }

/-- A frame that passed the port's checks. -/
def Dev.squareTake (d : Dev) (p kind : Nat) (h : Hdr) (tn : Nat) (frame : List Byte) : Dev :=
  let f := frameHdr frame
  match (if h.fixed then d.schedFind f.id tn else d.findColl f.id) with
  | none => d.sqDrop p h
  | some (g, c) =>
    if f.kind ≠ kind || c.m.op == opBroadcast || !frameOk c.m.outBytes frame || !c.expects h.src frame || c.queue.isSome == h.fixed then
      d.sqDrop p h
    else if !frameSumsOk frame then
      ((if h.fixed then d else d.sendResp h stChecksum []).sqMismatch g false f).endColl g c stChecksum f.slot
    else if c.seen.contains (frameKey frame) then if c.either frame then d.sqOk h else d.sqDrop p h
    else
      let c := { c with inbox := c.inbox ++ [(h.src, frame)] }
      ((d.sqOk h).openColl g c).collTurn g c

/-- A PTYPE 0x7 packet that a port delivers: on a fixed route it carries the stamp of its tick. -/
def Dev.squarePacket (kind p hdr : Nat) (frame : List Byte) (d : Dev) : Dev :=
  match d.delivered p hdr ptSquare with
  | none => d
  | some h =>
    if h.fixed then
      let now := d.get F.TCK_TN_TN
      let ahead := (h.tag + 2 ^ 16 - now % 2 ^ 16) % 2 ^ 16
      if !d.admits p h.src then (d.accept p).bump F.GTE_DROPS_INGRESS 1
      else if h.dst ≠ d.rank then ((d.accept p).bump F.GTE_DROPS_MISDELIVER 1).gateFault p
      else if 2 ≤ ahead ∧ ahead < 2 ^ 15 then d
      else if 2 ^ 15 ≤ ahead then (d.accept p).raise evTick stOk p [h.tag, h.src]
      else if d.tick.quench then d.accept p
      else (d.accept p).squareTake p kind h (now + ahead) (fitBytes h.len frame)
    else
      match (d.accept p).turnedAway p hdr ftGateSquare h with
      | some d => d
      | none => (d.accept p).squareTake p kind h 0 (fitBytes h.len frame)

/-- EXPONENT_FRAME. -/
def execExponentFrame (port : Fin 12) (hdr : Header) (frame : List Byte) (s : State) : Host.Outcome State Fault Refusal :=
  onDev (Dev.squarePacket fkExponent port hdr.toNat frame) s

/-- BSI_DENSE_FRAME. -/
def execBsiDenseFrame (port : Fin 12) (hdr : Header) (frame : List Byte) (s : State) : Host.Outcome State Fault Refusal :=
  onDev (Dev.squarePacket fkDense port hdr.toNat frame) s

/-- BSI_SPARSE_FRAME. -/
def execBsiSparseFrame (port : Fin 12) (hdr : Header) (frame : List Byte) (s : State) : Host.Outcome State Fault Refusal :=
  onDev (Dev.squarePacket fkSparse port hdr.toNat frame) s

/-- FLAGLIST_FRAME. -/
def execFlaglistFrame (port : Fin 12) (hdr : Header) (frame : List Byte) (s : State) : Host.Outcome State Fault Refusal :=
  onDev (Dev.squarePacket fkFlaglist port hdr.toNat frame) s

/-- FP32_FRAME. -/
def execFp32Frame (port : Fin 12) (hdr : Header) (frame : List Byte) (s : State) : Host.Outcome State Fault Refusal :=
  onDev (Dev.squarePacket fkFp32 port hdr.toNat frame) s

/-- ONEBIT_FRAME. -/
def execOnebitFrame (port : Fin 12) (hdr : Header) (frame : List Byte) (s : State) : Host.Outcome State Fault Refusal :=
  onDev (Dev.squarePacket fkOnebit port hdr.toNat frame) s

/-- FINAL_FRAME. -/
def execFinalFrame (port : Fin 12) (hdr : Header) (frame : List Byte) (s : State) : Host.Outcome State Fault Refusal :=
  onDev (Dev.squarePacket fkFinal port hdr.toNat frame) s

/-! ### Backups, timeouts, aborts (R293, R298, R299, R304) -/

/-- A running collective of an engine. -/
def Dev.runningColl (d : Dev) (g id : Nat) : Option Coll := (d.sq g).running.find? fun c => c.id == id

/-- Is this device the consumer of a slot's frames: its predecessor's, or in one-bit mode any other's? -/
def Coll.consumes (c : Coll) (slot : Nat) : Bool :=
  c.m.op != opBroadcast && c.m.ranks != 1 && slot < c.m.ranks
    && (if c.m.fmt = fmOnebit then slot != c.slot else slot == c.m.pred c.slot)

/-- Has the primary's frame of a slot that begins at a block come? -/
def Coll.primCame (c : Coll) (slot first : Nat) : Bool :=
  c.inbox.any fun r => !c.fromBackup r.1 r.2 && c.source r.2 == slot && frameFirst r.2 == first

/-- BACKUP_DEADLINE: the consumer switches. -/
def Dev.deadline (d : Dev) (g id slot first : Nat) : Dev :=
  match d.runningColl g id with
  | none => d
  | some c =>
    if c.m.deadline = 0 || !c.consumes slot || c.primCame slot first || c.useBackup.contains slot || (c.bak slot).isNone then d
    else
      let y := collSwitch slot first (c, d)
      match y.1.fail with
      | some st => y.2.endColl g y.1 st slot
      | none => (y.2.setColl g y.1).collTurn g y.1

/-- BACKUP_DEADLINE. -/
def execBackupDeadline (engine : Fin 2) (collId : Nat) (slot : Nat) (firstBlock : Nat) (s : State) : Host.Outcome State Fault Refusal :=
  onDev (fun d => d.deadline engine collId slot firstBlock) s

/-- FRAME_STALL_TIMEOUT: of a queued collective that waits for a slot. -/
def execFrameStallTimeout (engine : Fin 2) (collId : Nat) (slot : Nat) (s : State) : Host.Outcome State Fault Refusal :=
  onDev (fun d => match d.runningColl engine collId with
    | some c =>
      if c.queue.isSome && d.inForceNat 0x2B0002 != 0 && c.consumes slot && !c.complete then d.endColl engine c stFaultPending slot else d
    | none => d) s

/-- SQR_ABORT: SQR_CTRL.ABORT on the collective of SQR_SEL. -/
def Dev.sqrAbort (d : Dev) (engine : Nat) : Dev :=
  match d.runningColl engine (d.get (F.SQR_SEL_COLL_ID engine)) with
  | some c => d.endColl engine c stFaultPending 0
  | none => d

/-- SQR_ABORT. -/
def execSqrAbort (engine : Fin 2) (s : State) : Host.Outcome State Fault Refusal := onDev (fun d => d.sqrAbort engine) s

/-! ### Rounds of a scheduled partition (R295, R298) -/

/-- The blocks of a shard that a round covers. -/
def CollDesc.chunk (m : CollDesc) (s : Nat) : List Nat := ((m.shard s).drop m.chunkFirst).take m.chunkBlocks

/-- Takes the frames of a round once they cover the blocks it needs; none before. -/
def roundTake (g : Nat) (via : Via) (need : List Nat) (least : Nat) (allow : Coll → List Byte → Bool) (x : CollDev) : Option CollDev :=
  let y := x.1.inbox.foldl (fun y r => if allow y.1 r.2 then forced r.2 y else y) x
  let l := y.1.inbox.filter fun r => allow y.1 r.2 && y.1.takes r.1 r.2
  if least ≤ l.length && need.all (fun b => l.any fun r => (frameBlocks r.2).contains b) then
    some (takeAll g (some via) allow (l.length + 1) y)
  else none

/-- An empty sparse frame: sent first, or taken and passed on (R298). -/
def roundEmpty (g : Nat) (via : Via) (m : CollDesc) (x : CollDev) : Option CollDev :=
  let c := x.1
  let send (d : Dev) : Dev := d.pushFrame g c (some via) (m.succ c.slot) (frameOf ⟨c.id, 0, fkSparse, m.pass, c.slot, 0⟩ [])
  if m.step = 0 then some (c, send x.2)
  else
    match c.inbox.find? fun r => (frameHdr r.2).kind == fkSparse && (frameHdr r.2).count == 0 && (frameHdr r.2).pass == m.pass with
    | none => none
    | some r =>
      let d := if m.step + 1 < m.ranks then send x.2 else x.2
      some ({ c with inbox := c.inbox.erase r }, d)

/-- Is a frame one of a kind whose first block lies in a chunk? -/
def ofChunk (kind : Nat) (l : List Nat) (f : List Byte) : Bool := (frameHdr f).kind == kind && l.contains (frameFirst f)

/-- The ring step of a round in the exponent phase: reduce, then gather. -/
def roundExp (g : Nat) (via : Via) (m : CollDesc) (x : CollDev) : Option CollDev :=
  let k := x.1.slot
  let n := m.ranks
  if m.step = 0 then
    let l := m.chunk (m.pred k)
    let (c, d) := collIn l false x
    some (pushExps g (some via) k (l.map fun b => (b, d.propose c b)) (c, d))
  else if m.step < n then
    let l := m.chunk ((k + 2 * n - 1 - m.step) % n)
    roundTake g via l 0 (fun c f => ofChunk fkExponent l f && !c.gathers f) x
  else if m.step = n then some (pushExps g (some via) k ((m.chunk k).map fun b => (b, (x.1.pmax b).getD 0)) x)
  else
    let l := m.chunk ((k + 2 * n - m.step) % n)
    roundTake g via l 0 (fun c f => ofChunk fkExponent l f && c.gathers f) x

/-- The ring step of a round in the reduce phase. -/
def roundReduce (g : Nat) (via : Via) (m : CollDesc) (x : CollDev) : Option CollDev :=
  let c := x.1
  let k := c.slot
  let n := m.ranks
  if m.fmt = fmOnebit ∧ m.pass = 0 then
    if m.step = 0 then
      some ((List.range n).foldl (fun y s =>
        if s = k then y
        else (y.1, y.2.pushBlocks g c (some via) fkOnebit 0 k (c.bitDest s) onebitBody (c.ownBits (m.chunk s)))) x)
    else
      let j := (k + n - m.step) % n
      let shards := (List.range n).filter fun s => m.step ≤ (s + n - j) % n
      roundTake g via (shards.flatMap m.chunk) 0 (fun _ f => (frameHdr f).slot == j && ofChunk fkOnebit (shards.flatMap m.chunk) f) x
  else
    let s := (k + 2 * n - 1 - m.step) % n
    let l := m.chunk s
    let hit := if s = k then l.filter c.awaiting.contains else l.filter fun b => c.flagged.contains (m.pass, b)
    let need := if m.pass = 0 then l else hit
    if need.isEmpty then if m.pass = 0 then some x else roundEmpty g via m x
    else if m.step = 0 then some (firstSend g (some via) m.pass need x)
    else roundTake g via need 0 (fun _ f => ofChunk (reduceKind m m.pass) l f && (frameHdr f).pass == m.pass) x

/-- The ring step of a round of flag lists: the owner's, then the others'. -/
def roundFlags (g : Nat) (via : Via) (m : CollDesc) (x : CollDev) : Option CollDev :=
  let c := x.1
  let l := m.chunk ((c.slot + m.ranks - m.step) % m.ranks)
  if l.isEmpty then some x
  else if m.step = 0 then
    let fl := c.flaggedOf l
    let y := if fl.isEmpty then x else beginRerun g m.pass fl x
    some (pushFlags g (some via) m.pass (l.headD 0) l.length fl y)
  else roundTake g via [] ((l.length + 32511) / 32512) (fun _ f => ofChunk fkFlaglist l f && (frameHdr f).pass == m.pass) x

/-- The ring step of a round of the gather phase. -/
def roundGather (g : Nat) (via : Via) (m : CollDesc) (x : CollDev) : Option CollDev :=
  let c := x.1
  let l := m.chunk ((c.slot + m.ranks - m.step) % m.ranks)
  if m.step = 0 then
    if l.any c.awaiting.contains || !(c.flaggedOf l).isEmpty then none else some (pushFinals g (some via) l x)
  else roundTake g via l 0 (fun _ f => ofChunk fkFinal l f) x

/-- One round (R298): nothing more where the device is alone; none while its frames are not in. -/
def roundStep (g : Nat) (via : Via) (m : CollDesc) (x : CollDev) : Option CollDev :=
  if m.ranks = 1 then some x
  else
    match m.phase with
    | 0 => roundExp g via m x
    | 1 => roundReduce g via m x
    | 2 => roundFlags g via m x
    | _ => roundGather g via m x

/-- Does a later slot of the stream name the collective? -/
def Dev.laterRound (d : Dev) (p g slot id : Nat) : Bool :=
  ((d.streamSlots p engSquare g).drop (slot + 1)).any fun s => s.op == opCollective && (collDesc false (d.imageDesc p s.desc)).id == id

/-- Does a route's port lack a feature that a Square packet needs (R272)? -/
def Dev.sqLacks (d : Dev) (r : Route) : Bool :=
  match d.outPort (r.ports % 16) none with
  | some p => !d.portHas p ftGateFixed || !d.portHas p ftGateSquare
  | none => false

/-- A SQUARE slot: none while its round waits. A BROADCAST has no round (DEDUCED, notes/assumptions/22.md). -/
def Dev.roundSlot (d : Dev) (p g : Nat) (due : Bool) (r : SlotRef) (s : Slot) : Option Dev :=
  match (d.part p).running with
  | none => some d
  | some im =>
    let desc := d.imageDesc p s.desc
    let m := collDesc false desc
    if m.blocks = 0 ∨ m.op = opBroadcast then some d
    else
      let c := ((d.sq g).running.find? fun c => c.id == m.id && c.queue.isNone).getD (d.schedColl p im desc)
      let next := routeOf (im.routes.getD m.routeNext [])
      let via : Via := ⟨next, if m.routeB = 0x3FF then none else some (routeOf (im.routes.getD m.routeB [])), (d.get F.TCK_TN_TN + s.delta) % 2 ^ 16⟩
      if d.collWaits c || ((d.sq g).running.length == 16 && !(d.sq g).running.any (Coll.same c)) then none
      else if m.ranks ≠ 1 ∧ d.sqLacks next then some (d.tickFault r stFeature 3 g)
      else
        let d := d.openColl g c
        let x : CollDev := if due then collIn (List.range m.blocks) true (c, d) else (c, d)
        let x := if x.1.fail.isSome || c.begun then x else collSetup g x
        match (if x.1.fail.isSome then some x else roundStep g via m x) with
        | none => none
        | some x =>
          let x := ownerTurn g (some via) 5 (reduceTurn g (some via) x)
          if x.1.fail.isNone && !d.laterRound p g r.slot m.id then some (x.2.endColl g x.1 x.1.goodStatus 0) else some (collPut g x)

/-- COLLECTIVE. -/
def execCollective (p : Fin 8) (engine : Fin 2) (due : Bool) (s : State) : Host.Outcome State Fault Refusal :=
  onDev (Dev.slotRun p engSquare engine opCollective fun r sl d => d.roundSlot p engine due r sl) s

/-- The scheduled collectives of a partition are dropped with its image. -/
def Dev.dropRounds (d : Dev) (p : Nat) : Dev :=
  [0, 1].foldl (fun d g => d.setSq g { d.sq g with running := (d.sq g).running.filter fun c => c.queue.isSome || c.part != p }) d

/-! ### Broadcast packets (R300 to R303) -/

/-- A broadcast packet that a port delivers, with the running broadcast it names; or what becomes of it. -/
def Dev.bcastPacket (p hdr ptype id : Nat) (f : Hdr → Nat → Coll → Dev → Option Dev) (d : Dev) : Dev :=
  match d.delivered p hdr ptype with
  | none => d
  | some h =>
    match (d.accept p).turnedAway p hdr ftGateBcast h with
    | some d => d
    | none =>
      let d := d.accept p
      match d.findColl id with
      | none => d.sqDrop p h
      | some (g, c) => if c.m.op ≠ opBroadcast then d.sqDrop p h else (f h g c d).getD (d.sqDrop p h)

/-- A piece of the next segment from the current parent. -/
def Dev.segPiece (data : List Byte) (h : Hdr) (g : Nat) (c : Coll) (d : Dev) : Option Dev :=
  let seg := bits h.addr 46 32
  let off := bits h.addr 19 0
  if d.isRoot c || h.src != c.parent then none
  else if seg ≠ c.next || off ≠ c.buf.length || c.hasAll then some (d.sqOk h)
  else
    let c := { c with buf := c.buf ++ fitBytes h.len data }
    let man := if seg = 0 then c.buf else c.manifest
    let d := (d.sqOk h).putBcast g c
    some (if 16 ≤ man.length && segLen man seg ≤ c.buf.length then d.segDone g c else d)

/-- SEGMENT_PACKET. -/
def execSegmentPacket (port : Fin 12) (hdr : Header) (collId : Nat) (data : List Byte) (s : State) : Host.Outcome State Fault Refusal :=
  onDev (Dev.bcastPacket port hdr.toNat ptSegment collId (Dev.segPiece data)) s

/-- SEGMENT_TIMEOUT. -/
def execSegmentTimeout (engine : Fin 2) (collId : Nat) (s : State) : Host.Outcome State Fault Refusal :=
  onDev (fun d => match d.runningColl engine collId with
    | some c => if c.m.op = opBroadcast ∧ !d.isRoot c ∧ !c.hasAll then d.bcastLost engine c else d
    | none => d) s

/-- The root writes an attach record to BLOG, or marks the last one (R303), and raises a gate event. -/
def Dev.attachLog (d : Dev) (g : Nat) (c : Coll) (child lost seg : Nat) : Dev :=
  let cap := bits (c.p 14) 15 0
  let rec_ := child * 2 ^ 50 + lost * 2 ^ 36 + seg % 2 ^ 32
  let y : CollDev :=
    if c.attached < cap then collWrite (c.p 15 + 8 * c.attached) (leBytes 8 rec_) ({ c with attached := c.attached + 1 }, d)
    else if cap = 0 then (c, d)
    else
      let at_ := c.p 15 + 8 * (cap - 1)
      collWrite at_ (leBytes 8 (leNat (d.readVa c.ext at_ 8) ||| 2 ^ 32)) (c, d)
  let d := y.2.raise evGate stOk g [c.id, child, lost, seg]
  match y.1.fail with
  | some st => d.endColl g y.1 st 0
  | none => d.settleBcast g y.1

/-- An attach record: from the child itself its alternate parent serves it; every device passes the record up to the root. A device
that was lost lets the child go. -/
def Dev.takeAttach (child lost seg : Nat) (h : Hdr) (g : Nat) (c : Coll) (d : Dev) : Option Dev :=
  let mine := h.src == child && bits (c.tree child) 35 22 == d.rank && (c.list.any fun e => bits e 63 50 == child)
  if !mine && !c.kids.contains h.src then none
  else
    let d := d.sqOk h
    let c := if lost = d.rank then { c with kids := c.kids.filter (· != child) } else c
    let c := if mine && !c.kids.contains child then { c with kids := c.kids ++ [child] } else c
    let d := if mine then d.serveFrom g c child seg else d
    some (if d.isRoot c then d.attachLog g c child lost seg else (d.sendCtl g c c.parent 1 child lost seg).settleBcast g c)

/-- ATTACH. -/
def execAttach (port : Fin 12) (hdr : Header) (collId : Nat) (child lost seg : Nat) (s : State) : Host.Outcome State Fault Refusal :=
  onDev (Dev.bcastPacket port hdr.toNat ptControl collId (Dev.takeAttach child lost seg)) s

/-- RESEND: the parent sends a verified segment again. -/
def execResend (port : Fin 12) (hdr : Header) (collId : Nat) (child seg : Nat) (s : State) : Host.Outcome State Fault Refusal :=
  onDev (Dev.bcastPacket port hdr.toNat ptControl collId fun h g c d =>
    if h.src ≠ child || !c.kids.contains child then none
    else some (if seg < c.next then (d.sqOk h).sendSegment g c child seg else d.sqOk h)) s

/-- DONE of a child with the number of devices it stands for. -/
def execDone (port : Fin 12) (hdr : Header) (collId : Nat) (child : Nat) (count : Nat) (s : State) : Host.Outcome State Fault Refusal :=
  onDev (Dev.bcastPacket port hdr.toNat ptControl collId fun h g c d =>
    if h.src ≠ child || !c.kids.contains child then none
    else some ((d.sqOk h).settleBcast g { c with dones := (child, count) :: c.dones.filter fun r => r.1 != child })) s

/-- BROADCAST_DONE_TIMEOUT. -/
def execBroadcastDoneTimeout (engine : Fin 2) (collId : Nat) (s : State) : Host.Outcome State Fault Refusal :=
  onDev (fun d => match d.runningColl engine collId with
    | some c => if c.m.op = opBroadcast ∧ d.isRoot c ∧ d.inForceNat 0x2B0002 ≠ 0 then d.endColl engine c stFaultPending 0 else d
    | none => d) s

/-- Collectives that waited for memory go on. -/
def Dev.serveSquares (d : Dev) : Dev :=
  [0, 1].foldl (fun d g => (d.sq g).running.foldl (fun d c => if c.inbox.isEmpty then d else d.collTurn g c) d) d

end Sys2Proof.Machine
end

