-- ==== Sys2Proof/Machine/Images.lean ====
section
/-! DEFINITION. Schedule images: their sections as they stand in bytes, and the checks of LOAD (R59 to R72, R415). -/

namespace Sys2Proof.Machine

open Sys2Proof

/-! ### Reading an image (R60, R63, R64, R68, R69) -/

/-- A little-endian field of `n` bytes. -/
def fieldAt (b : List Byte) (off n : Nat) : Nat := leNat ((b.drop off).take n)

/-- The sections in the order of the header: directory, steps, messages, segments, descriptors, routes. -/
def secDir : Nat := 0
def secStep : Nat := 1
def secMsg : Nat := 2
def secSeg : Nat := 3
def secDesc : Nat := 4
def secRoute : Nat := 5

/-- The bytes of an entry of a section. -/
def secSize (i : Nat) : Nat := [16, 16, 8, 32, 64, 32].getD i 1

/-- Where a section stands, and how many entries it has. -/
def secOff (b : List Byte) (i : Nat) : Nat := fieldAt b (0x48 + 8 * i) 4
def secCount (b : List Byte) (i : Nat) : Nat := fieldAt b (0x4C + 8 * i) 4

/-- Entries of `size` bytes with their offsets; those past the end of the image are left out (its layout check fails). -/
def entriesAt (b : List Byte) (off count size : Nat) : List (Nat × List Byte) :=
  (List.range (min count ((b.length - off) / size))).map fun k => (off + size * k, (b.drop (off + size * k)).take size)

/-- The entries of a section. -/
def secEntries (b : List Byte) (i : Nat) : List (Nat × List Byte) := entriesAt b (secOff b i) (secCount b i) (secSize i)

/-- A slot from its bytes. -/
def slotOf (e : List Byte) : Slot := ⟨leWord e 0, leWord e 1, leWord e 2, leWord e 3⟩

/-- SLOT_COUNT of a directory entry. -/
def dirCount (e : List Byte) : Nat := fieldAt e 4 4

/-- The stream of a directory entry. -/
def dirStream (b e : List Byte) : Stream :=
  let off := fieldAt e 8 4
  ⟨fieldAt e 0 1, fieldAt e 2 2, off, (entriesAt b off (dirCount e) 32).map fun r => slotOf r.2⟩

/-- A step of the step table. -/
def stepOf (msgs : List Nat) (e : List Byte) : Step :=
  ⟨fieldAt e 0 4, fieldAt e 4 4, bit (fieldAt e 12 1) 0, (msgs.drop (fieldAt e 8 4)).take (fieldAt e 14 2)⟩

/-- A segment, not bound yet. -/
def segOf (e : List Byte) : Segment := ⟨bits (leWord e 0) 55 0, leWord e 1, leWord e 2 % 8, []⟩

/-- An image from its bytes. -/
def imageOf (root : Nat) (b : List Byte) : Image :=
  let msgs := (secEntries b secMsg).map fun r => leNat r.2 % 2 ^ 18
  { root := root, programId := fieldAt b 0x10 8, baseTn := fieldAt b 0x18 8, passes := fieldAt b 0x20 4, ticks := fieldAt b 0x24 4,
    deviceCount := fieldAt b 0x28 2, rank := fieldAt b 0x2A 2 % 2 ^ 14, domain := fieldAt b 0x2C 1, len := fieldAt b 0x2D 1 % 8,
    clustersReq := fieldAt b 0x30 2, trClass := fieldAt b 0x34 4, streams := (secEntries b secDir).map fun r => dirStream b r.2,
    steps := (secEntries b secStep).map fun r => stepOf msgs r.2, segs := (secEntries b secSeg).map fun r => segOf r.2,
    descs := (secEntries b secDesc).map (·.2), routes := (secEntries b secRoute).map (·.2) }

/-- A slot with its place. -/
structure PlacedSlot where
  engine : Nat
  index : Nat
  num : Nat
  s : Slot
  off : Nat
  deriving DecidableEq, Repr

/-- Every slot of an image. -/
def Image.placed (im : Image) : List PlacedSlot :=
  im.streams.flatMap fun st => st.slots.zipIdx.map fun r => ⟨st.engine, st.index, r.2, r.1, st.offset + 32 * r.2⟩

/-! ### Check 0x05: reserved fields and values -/

/-- The operations of an engine (R64). -/
def engineOps (engine : Nat) : List Nat :=
  opNop :: (if engine = engTensor then [opMatrix, opAccStore, opAccLoad]
    else if engine = engLaunch then [opLaunch]
    else if engine = engMover then [opMover]
    else if engine = engGate then [opSend, opRecv]
    else if engine = engSquare then [opCollective]
    else if engine = engCopy then [opCopy, opWindow] else [])

/-- The operations that take a descriptor. -/
def descOps : List Nat := [opMatrix, opAccStore, opAccLoad, opLaunch, opMover, opCollective, opCopy]

/-- Does a slot use a reserved field, code or feature? -/
def Dev.slotReserved (d : Dev) (engine : Nat) (s : Slot) : Bool :=
  !(engineOps engine).contains s.op || bits s.w1 35 32 != 0 || (s.desc != 0 && !descOps.contains s.op)
    || ((s.op == opAccStore || s.op == opAccLoad) && !d.has ftAccStore)
    || (if s.op = opNop then s.w2 != 0 || s.w3 != 0
        else if engine = engGate then bits s.w2 39 32 != 0 || bits s.w3 55 48 != 0 || (s.op == opRecv && s.route != 0)
        else s.w3 != 0 || bits s.w2 63 8 != 0 || bits s.w2 3 1 != 0
          || (if engine = engTensor then s.strict && (s.op != opMatrix || !d.has ftStrict)
              else if engine = engMover then s.strict || bits s.w2 7 6 != 0
              else s.strict || bits s.w2 7 4 != 0))

/-- Does the descriptor of a slot use a reserved field, code or feature (R415)? -/
def Dev.descReserved (d : Dev) (s : Slot) (b : List Byte) : Bool :=
  if s.op = opMatrix then d.matReserved s.strict (matDesc b)
  else if s.op = opAccStore ∨ s.op = opAccLoad then !(accDesc b).zeros
  else if s.op = opMover then !movReserved false (movDesc b)
  else if s.op = opLaunch then
    let m := launchDesc b
    !m.zeros || !m.zerosSched || (m.strict && !d.has ftStrict)
  else if s.op = opCollective then !d.collDescOk (collDesc false b)
  else if s.op = opCopy then !(copyDesc b).zeros || ((copyDesc b).remote != 0 && !d.has ftRemote)
  else false

/-- The reserved fields and values of the header. -/
def Dev.headerReserved (d : Dev) (b : List Byte) : Bool :=
  let feat := fieldAt b 0x38 16
  let tr := fieldAt b 0x34 4
  2 ^ 14 ≤ fieldAt b 0x2A 2 || 7 ≤ fieldAt b 0x2D 1 || fieldAt b 0x2E 2 != 0 || fieldAt b 0x32 2 != 0
    || ((b.drop 0x78).take 0x58).any (· != 0#8) || bits tr 31 24 != 0 || bits tr 11 8 != 0 || bits tr 5 0 != 0
    || feat &&& (d.get (F.IDF_NEG_BITS 0) + d.get (F.IDF_NEG_BITS 1) * 2 ^ 64) != feat || !d.has ftImageV1

/-- Check 0x05: the offset of the first item that fails. -/
def Dev.imgReserved (d : Dev) (b : List Byte) (im : Image) : Option Nat :=
  let find (i : Nat) (bad : List Byte → Bool) : Option Nat := ((secEntries b i).find? fun r => bad r.2).map (·.1)
  if d.headerReserved b then some 0
  else
    (find secDir fun e => fieldAt e 1 1 != 0 || fieldAt e 12 4 != 0 || fieldAt e 0 1 == 0 || 6 < fieldAt e 0 1).or
    ((find secStep fun e => fieldAt e 12 2 / 2 != 0).or
    ((find secMsg fun e => leNat e / 2 ^ 18 != 0).or
    ((find secSeg fun e => bits (leWord e 0) 63 56 != 0 || leWord e 2 / 8 != 0 || leWord e 3 != 0).or
    ((find secRoute fun e => !(routeOf e).zeros || ((routeOf e).splitN != 0 && !d.has ftGateSplit)).or
    (im.placed.findSome? fun x =>
      if d.slotReserved x.engine x.s then some x.off
      else
        match descOps.contains x.s.op, im.descs[x.s.desc]? with
        | true, some e => if d.descReserved x.s e then some (secOff b secDesc + 64 * x.s.desc) else none
        | _, _ => none)))))

/-! ### Checks 0x06 and 0x0B: engines -/

/-- Is an engine fitted? -/
def Dev.fitted (d : Dev) (engine index : Nat) : Bool :=
  if engine = engGate then index < 12
  else if engine = engSquare then index < 2
  else if engine = engCopy then index < 16
  else index < 384 && (d.physOf index).isSome

/-- Is an engine assigned to a partition? Gate ports belong to none (R341). -/
def Dev.assigned (d : Dev) (p engine index : Nat) : Bool :=
  if engine = engGate then true
  else if engine = engSquare then bit (d.get (F.ARB_PART_SQ_MASK p)) index
  else if engine = engCopy then bit (d.get (F.ARB_PART_CE_MASK p)) index
  else d.clusterPart index == some p

/-- The offset of the first directory entry whose engine fails. -/
def dirFail (b : List Byte) (ok : Nat → Nat → Bool) : Option Nat :=
  ((secEntries b secDir).find? fun r => !ok (fieldAt r.2 0 1) (fieldAt r.2 2 2)).map (·.1)

/-! ### Check 0x0C: structure -/

/-- Layout (R60, R63): sections and streams aligned, inside the image, apart from each other; one stream for each engine and index. -/
def layoutFail (b : List Byte) (im : Image) : Option Nat :=
  let n := b.length
  let secs := (List.range 6).map fun i => (secOff b i, secCount b i * secSize i, 0)
  let strs := (secEntries b secDir).map fun r => (fieldAt r.2 8 4, 32 * dirCount r.2, r.1)
  let bad (x : Nat × Nat × Nat) : Bool := if x.2.1 = 0 then x.1 != 0 else x.1 % 64 != 0 || x.1 < 256 || n < x.1 + x.2.1
  let all := (secs ++ strs).filter fun x => x.2.1 != 0
  (((secs ++ strs).find? bad).map (·.2.2)).or
  ((((secEntries b secDir).find? fun r => 2 ^ 24 ≤ dirCount r.2).map (·.1)).or
  ((((all.zipIdx).find? fun x => (all.take x.2).any fun y => overlaps x.1.1 x.1.2.1 y.1 y.2.1).map (·.1.2.2)).or
  (((im.streams.zip (secEntries b secDir)).zipIdx.find? fun x =>
    (im.streams.take x.2).any fun y => y.engine == x.1.1.engine && y.index == x.1.1.index).map (·.1.2.1))))

/-- Must slot `x` come after slot `y` in their tick: `y` is the slot before it in its stream, or signals the token it waits for (R66)? -/
def PlacedSlot.needs (x y : PlacedSlot) : Bool :=
  x.s.tick == y.s.tick && ((y.engine == x.engine && y.index == x.index && y.num + 1 == x.num) || (x.s.wait != 0xFF && y.s.signal == x.s.wait))

/-- Takes out slots that need none of those left, again and again. -/
def unordered : Nat → List PlacedSlot → List PlacedSlot
  | 0, l => l
  | f + 1, l =>
    let r := l.filter fun x => l.any x.needs
    if r.length = l.length then l else unordered f r

/-- Tokens (R66): one signaller in a tick, a wait only for a token of the tick, no cycle. -/
def tokenFail (l : List PlacedSlot) : Option Nat :=
  let same (x y : PlacedSlot) : Bool := y.s.tick == x.s.tick && y.s.signal == x.s.signal
  ((l.find? fun x => x.s.signal != 0xFF && 1 < l.countP (same x)).or
  ((l.find? fun x => x.s.wait != 0xFF && !(l.any fun y => y.s.tick == x.s.tick && y.s.signal == x.s.wait)).or
  (unordered l.length l).head?)).map PlacedSlot.off

/-- Order and place of slots (R64, R65, R67): ticks of the image, sorted, inside the work window, a budget, a stamp of 0 or 1, an index
inside the descriptors. -/
def slotFail (im : Image) (l : List PlacedSlot) : Option Nat :=
  let prev (x : PlacedSlot) : Option PlacedSlot := l.find? fun y => y.engine == x.engine && y.index == x.index && y.num + 1 == x.num
  (l.find? fun x =>
    im.ticks ≤ x.s.tick || (match prev x with
      | some y => x.s.tick < y.s.tick || (x.s.tick == y.s.tick && x.s.start < y.s.start)
      | none => false)).map PlacedSlot.off

/-- The window, budget, stamp and index of each slot. -/
def budgetFail (im : Image) (l : List PlacedSlot) : Option Nat :=
  let win := 2 ^ (10 + im.len) - 16
  (l.find? fun x =>
    win < x.s.start + x.s.budget || (x.s.op != opNop && x.s.budget == 0) || 1 < x.s.delta
      || (descOps.contains x.s.op && im.descs.length ≤ x.s.desc)).map PlacedSlot.off

/-- A range of a segment, with a right: OK, BOUNDS or PERM. A range of no bytes passes (R72). -/
def segRange (segs : List Segment) (seg off n need : Nat) : Nat :=
  if n = 0 then stOk
  else
    match segs[seg]? with
    | none => stBounds
    | some s => if s.size < off + n then stBounds else if rightsCover s.rights need then stOk else stPerm

/-- The same for an address word. -/
def wordRange (segs : List Segment) (w n need : Nat) : Nat := segRange segs (w / 2 ^ 56) (w % 2 ^ 56) n need

/-- The port codes of a route: 0 to 11 for each hop, 0 behind (R263). -/
def Route.portsOk (r : Route) : Bool :=
  1 ≤ r.hops && r.hops ≤ 32 && r.ports / 2 ^ (4 * r.hops) == 0 && (List.range r.hops).all fun h => r.ports / 2 ^ (4 * h) % 16 < 12

/-- A route that a SEND uses (R263); its second route is named only with a split, and has none itself. -/
def routeFail (im : Image) (i dest : Nat) : Bool :=
  match im.routes[i]? with
  | none => true
  | some b =>
    let r := routeOf b
    r.dest != dest || !r.portsOk
      || (if r.split = 0x3FF then false
          else r.splitN == 0 || (match im.routes[r.split]? with
            | some c => (routeOf c).dest != dest || !(routeOf c).portsOk || (routeOf c).split != 0x3FF
            | none => true))

/-- A launch at LOAD: orders 2 to 7 of R106, order 6 against the setting it asks for, or the one in force. -/
def Dev.launchFail (d : Dev) (p cluster : Nat) (im : Image) (m : LaunchDesc) : Nat :=
  match d.launchCheck12 m m.zerosSched with
  | some st => if st = stOk then stOk else st
  | none =>
    let map := m.segMap.take m.segCount
    let segs := map.map fun i => im.segs.getD i ⟨0, 0, 0, []⟩
    if map.any fun i => im.segs.length ≤ i then stBounds
    else if launchCheck45 m segs ≠ stOk then launchCheck45 m segs
    else
      match d.physOf cluster with
      | none => stBounds
      | some c =>
        let win := d.windowAt p c (if m.setting = 0 then d.get (F.CLU_SRAM_SETTING c) else m.setting)
        if !fitsCluster m.groups m.regs m.lsUnits m.lsBase win || m.lsBase == lsAuto then stBounds else stOk

/-- The segment ranges of a copy: source and destination with their rights, as one span each (R323 orders 4 and 5). -/
def copyFail (segs : List Segment) (m : CopyDesc) : Nat :=
  if m.remote ≠ 0 then stBounds
  else if m.total = 0 then stOk
  else
    let s := wordRange segs m.src ((m.rows - 1) * m.srcStride + m.rowBytes) 1
    let t := wordRange segs m.dst ((m.rows - 1) * m.dstStride + m.rowBytes) 2
    if s = stBounds ∨ t = stBounds then stBounds else if s ≠ stOk ∨ t ≠ stOk then stPerm else stOk

/-- A collective at check 0x0C: orders 2 and 3 of R297, its parameter block, its routes' ports. -/
def collFail (ranked : Bool) (im : Image) (m : CollDesc) : Nat :=
  let st := (collShape ranked m).1
  let route (i : Nat) : Bool := match im.routes[i]? with
    | some b => (routeOf b).portsOk && (routeOf b).split == 0x3FF
    | none => false
  if m.op ≠ opBroadcast ∧ m.blocks = 0 then stOk
  else if st ≠ stOk then st
  else if wordRange im.segs m.param 128 1 ≠ stOk then wordRange im.segs m.param 128 1
  else if m.op ≠ opBroadcast ∧ m.ranks ≠ 1 ∧ (!route m.routeNext || (m.routeB != 0x3FF && !route m.routeB)) then stBounds
  else stOk

/-- The status of what a slot carries, under check 0x0C, and whether the failing item is its descriptor. -/
def Dev.payloadFail (d : Dev) (p : Nat) (im : Image) (x : PlacedSlot) : Nat × Bool :=
  let e := im.descs.getD x.s.desc []
  let span : LsSpan := match d.physOf x.index with
    | some c => ⟨0, d.window p c⟩
    | none => ⟨0, 0⟩
  if x.s.op = opMatrix then
    let m := matDesc e
    let units := unitsOf x.s.units
    (if m.kSteps = 0 ∨ units = [] then stOk else if matFormatsBad m then stNotEnabled else if !matPlaced units span m then stBounds else stOk, true)
  else if x.s.op = opAccStore ∨ x.s.op = opAccLoad then (d.accCheck x.s.units span (accDesc e), true)
  else if x.s.op = opMover then
    (if movEmpty (movDesc e) then stOk else movSegCheck span im.segs (movDesc e), true)
  else if x.s.op = opLaunch then (d.launchFail p x.index im (launchDesc e), true)
  else if x.s.op = opCopy then (copyFail im.segs (copyDesc e), true)
  else if x.s.op = opCollective then (collFail (d.on F.GTE_ID_RANKED) im (collDesc false e), true)
  else if x.s.op = opSend then
    (if segRange im.segs x.s.seg x.s.offset x.s.length 1 ≠ stOk || routeFail im x.s.route x.s.peer then stBounds else stOk, false)
  else if x.s.op = opRecv then (if segRange im.segs x.s.seg x.s.offset x.s.length 2 ≠ stOk then stBounds else stOk, false)
  else (stOk, false)

/-- A best-effort window may not overlap a scheduled copy of its engine (R71). -/
def windowFail (l : List PlacedSlot) : Option Nat :=
  (l.find? fun x => x.s.op == opWindow && l.any fun y =>
    y.s.op == opCopy && y.index == x.index && y.s.tick == x.s.tick && overlaps x.s.start x.s.budget y.s.start y.s.budget).map PlacedSlot.off

/-- The step table (R69): in order, without gaps, over all ticks; its messages inside their section. -/
def stepFail (b : List Byte) (im : Image) : Option Nat :=
  let l := (secEntries b secStep).zip im.steps
  let bad := l.zipIdx.find? fun x =>
    let s := x.1.2
    let n := fieldAt x.1.1.2 14 2
    s.first != ((im.steps.take x.2).foldl (fun t y => t + y.count) 0) || s.count == 0 || (s.cross && n == 0)
      || (n != 0 && secCount b secMsg < fieldAt x.1.1.2 8 4 + n)
  (bad.map (·.1.1.1)).or (if im.steps.foldl (fun t y => t + y.count) 0 = im.ticks then none else some (secOff b secStep))

/-- Check 0x0C: the status and offset of the first failure. -/
def Dev.structureFail (d : Dev) (p : Nat) (b : List Byte) (im : Image) : Option (Nat × Nat) :=
  let l := im.placed
  let bounds (o : Option Nat) : Option (Nat × Nat) := o.map fun o => (stBounds, o)
  if im.ticks = 0 ∨ 2 ^ 24 < im.ticks ∨ im.deviceCount = 0 ∨ 16384 < im.deviceCount ∨ 256 < secCount b secSeg then some (stBounds, 0)
  else
    (bounds (layoutFail b im)).or
    ((bounds (slotFail im l)).or
    ((bounds (tokenFail l)).or
    ((bounds (budgetFail im l)).or
    ((bounds (((secEntries b secSeg).find? fun r => !segOk (segOf r.2)).map (·.1))).or
    ((l.findSome? fun x =>
      let r := d.payloadFail p im x
      if r.1 = stOk then none else some (r.1, if r.2 then secOff b secDesc + 64 * x.s.desc else x.off)).or
    ((bounds (windowFail l)).or (bounds (stepFail b im))))))))

/-! ### Checks 0x0D to 0x0F -/

/-- Check 0x0D: strict mode with other operands than FP32 or FP64. -/
def strictFail (b : List Byte) (im : Image) : Option Nat :=
  (im.placed.find? fun x => x.s.op == opMatrix && x.s.strict && matStrictBad (matDesc (im.descs.getD x.s.desc []))).map fun x =>
    secOff b secDesc + 64 * x.s.desc

/-- Check 0x0E: BASE_TN is later than the current tick, and than the last tick of the running image (R72). -/
def Dev.baseOk (d : Dev) (p : Nat) (im : Image) : Bool :=
  d.get F.TCK_TN_TN < im.baseTn && (match (d.part p).running with
    | none => true
    | some r => (match d.lastTick p r with
      | some t => t < im.baseTn
      | none => false))

/-- The checks 0x03 to 0x0E on an image's bytes in order: DETAIL, status and offset of the first that fails. -/
def Dev.imageFail (d : Dev) (p size : Nat) (b : List Byte) (im : Image) : Option (Nat × Nat × Nat) :=
  let zeroed := b.take 0xD0 ++ List.replicate 0x30 0#8 ++ b.drop 0x100
  if fieldAt b 0 4 ≠ 0x4C53494D ∨ fieldAt b 4 2 ≠ 1 ∨ fieldAt b 6 2 ≠ 0x100 ∨ fieldAt b 8 8 ≠ size then some (0x03, stNotEnabled, 0)
  else if sha384 zeroed ≠ (b.drop 0xD0).take 0x30 then some (0x04, stChecksum, 0)
  else
    match d.imgReserved b im with
    | some o => some (0x05, stFeature, o)
    | none =>
      if d.get F.IDF_ID_CLUSTERS < im.clustersReq then some (0x06, stNotEnabled, 0)
      else
        match dirFail b d.fitted with
        | some o => some (0x06, stNotEnabled, o)
        | none =>
          if (if d.solo then im.deviceCount ≠ 1 else im.deviceCount ≠ 1 ∧ im.domain ≠ d.get F.TCK_CTRL_DOMAIN) then some (0x07, stNotEnabled, 0)
          else if (if d.on F.GTE_ID_RANKED then im.rank ≠ d.rank else im.deviceCount ≠ 1 ∨ im.rank ≠ 0) then some (0x08, stPerm, 0)
          else if im.len ≠ d.get F.TCK_STATUS_LEN then some (0x09, stNotEnabled, 0)
          else if !trcCovers im.trClass d.trc then some (0x0A, stNotEnabled, 0)
          else
            match dirFail b (d.assigned p) with
            | some o => some (0x0B, stPerm, o)
            | none =>
              match d.structureFail p b im with
              | some (st, o) => some (0x0C, st, o)
              | none =>
                match strictFail b im with
                | some o => some (0x0D, stNotEnabled, o)
                | none => if d.baseOk p im then none else some (0x0E, stBounds, 0)

/-- The collectives of an image that move something, with the offsets of their descriptors. -/
def collsOf (im : Image) (descOff : Nat) : List (Nat × List Byte) :=
  (im.placed.filter fun x => x.s.op == opCollective).map fun x => (descOff + 64 * x.s.desc, im.descs.getD x.s.desc [])

/-- The memory that check 0x0F reads for a collective: its parameter block, then its list. -/
def Dev.collBlock (d : Dev) (im : Image) (m : CollDesc) : List (Nat × Nat) × List Nat × (List (Nat × Nat)) :=
  let ext := im.segs.flatMap Segment.extents
  let va := segWordVa im.segs m.param
  let pb := d.readVa ext va 128
  let ps := (List.range 16).map fun i => leWord pb i
  (extentRuns ext va 128, ps, extentRuns ext (segWordVa im.segs (ps.getD 7 0)) (listBytes m * listCount m))

/-- The checks of a collective that need translated segments (R297, R415): its status. -/
def Dev.collBound (d : Dev) (p : Nat) (im : Image) (desc : List Byte) : Nat :=
  let m := collDesc false desc
  if m.op ≠ opBroadcast ∧ m.blocks = 0 then stOk
  else
    let (runs, ps, lruns) := d.collBlock im m
    if (d.readRuns runs false).1 ≠ stOk then (d.readRuns runs false).1
    else if m.op = opBroadcast ∧ bcastBytes ps = 0 then (if d.collBlockOk false m ps [] then stOk else stFeature)
    else if wordRange im.segs (ps.getD 7 0) (listBytes m * listCount m) 1 ≠ stOk then
      wordRange im.segs (ps.getD 7 0) (listBytes m * listCount m) 1
    else if (d.readRuns lruns false).1 ≠ stOk then (d.readRuns lruns false).1
    else
      let c := d.schedColl p im desc
      if !d.collBlockOk false m ps c.list then stFeature
      else
        let rs := (collRegions d.rank m ps c.list).map fun r => wordRange im.segs r.1 r.2.1 r.2.2
        if rs.contains stBounds then stBounds
        else if rs.any (· != stOk) then stPerm
        else if (d.collErr m c.params c.ext).1 ≠ stOk then (d.collErr m c.params c.ext).1
        else if (d.collPlace m c.list).1 ≠ stOk then (d.collPlace m c.list).1
        else
          let dest (i : Nat) : Nat := (routeOf (im.routes.getD i [])).dest
          let next := c.list.getD (m.succ c.slot) 0
          if m.op ≠ opBroadcast ∧ m.ranks ≠ 1 ∧ m.fmt ≠ fmOnebit
            ∧ (dest m.routeNext ≠ bits next 13 0 ∨ (m.routeB ≠ 0x3FF ∧ dest m.routeB ≠ bits next 29 16)) then stBounds
          else stOk

/-- Does the memory that check 0x0F reads stall? -/
def Dev.boundWaits (d : Dev) (im : Image) : Bool :=
  (collsOf im 0).any fun r =>
    let x := d.collBlock im (collDesc false r.2)
    d.runsWait x.1 || d.runsWait x.2.2

/-- The descriptor checks behind translation: order 6 of R323 for copies, those of collectives; status and offset of the first failure. -/
def Dev.imageBoundFail (d : Dev) (p : Nat) (im : Image) (descOff : Nat) : Option (Nat × Nat) :=
  ((im.placed.findSome? fun x =>
    let m := copyDesc (im.descs.getD x.s.desc [])
    if x.s.op = opCopy ∧ m.total ≠ 0 ∧ !copyHostOk x.index (copySegRuns im.segs m.src m.srcStride m) (copySegRuns im.segs m.dst m.dstStride m) then
      some (stPerm, descOff + 64 * x.s.desc)
    else none)).or
  ((collsOf im descOff).findSome? fun r =>
    let st := d.collBound p im r.2
    if st = stOk then none else some (st, r.1))

end Sys2Proof.Machine
end

