-- ==== Sys2Proof/Machine/Steps.lean ====
section
/-! DEFINITION. Image-marked step boundaries: the messages a step expects, their consumption, cause STEP (R48, R56, R69, R319). -/

namespace Sys2Proof.Machine

open Sys2Proof

/-- The unconsumed messages of a message queue. -/
def Dev.unread (d : Dev) (q : Nat) : Nat :=
  match d.queue q with
  | some x => if x.kind = 1 then (x.pi + 2 ^ 32 - x.ci) % 2 ^ 32 else 0
  | none => 0

/-- Are all expected messages present? -/
def Dev.msgsIn (d : Dev) (l : List Nat) : Bool := l.all fun q => l.countP (· == q) ≤ d.unread q

/-- Consumes one message of a queue. -/
def Dev.takeMsg (d : Dev) (q : Nat) : Dev :=
  match d.queue q with
  | some x => d.setQueue q (some { x with ci := (x.ci + 1) % 2 ^ 32 })
  | none => d

/-- The messages that the step a partition waits before expects: a step of the image that runs the next tick. -/
def Dev.expected (d : Dev) (p : Nat) : Option (List Nat) :=
  match (d.part p).stepWait, d.imageFor p (d.get F.TCK_TN_TN) with
  | some i, some (im, _) => some (((im.steps[i]?).map Step.msgs).getD [])
  | _, _ => none

/-- A partition that waits before a step consumes the step's messages once they are all in. -/
def Dev.stepTake (d : Dev) (p : Nat) : Dev :=
  match d.expected p with
  | some l => if d.msgsIn l then (l.foldl Dev.takeMsg d).setPart p { d.part p with stepWait := none } else d
  | none => d

/-- Does any partition wait before a step? -/
def Dev.stepWaits (d : Dev) : Bool := (List.range 8).any fun p => (d.expected p).isSome

/-- Waiting partitions look at their messages; STEP clears when none waits (R48). -/
def Dev.stepCheck (d : Dev) : Dev :=
  let d := (List.range 8).foldl Dev.stepTake d
  if d.stepWaits then d else d.clearHold hcStep

end Sys2Proof.Machine
end

