-- ==== Sys2Proof/Machine/Remote.lean ====
section
/-! DEFINITION. Remote traffic: windows, requests served here, responses to this device's requests, REMOTE entries, scheduled sends
and receives (R43, R44, R67, R259 to R265, R272 to R276, R319, R320, R326, R327). -/

namespace Sys2Proof.Machine

open Sys2Proof

/-! ### Windows (R275, R276) -/

/-- The bytes a window covers: base and size. -/
def Dev.winRange (d : Dev) (i : Nat) : Nat × Nat := (0x10000 * d.get (F.GTE_WIN1_BASE i), 0x10000 * d.get (F.GTE_WIN1_SIZE i))

/-- Has a window the right for a need (0 read, 1 write, 2 atomic)? -/
def Dev.winRight (d : Dev) (i need : Nat) : Bool :=
  d.on (if need = 0 then F.GTE_WIN0_READ i else if need = 1 then F.GTE_WIN0_WRITE i else F.GTE_WIN0_ATOMIC i)

/-- The window that admits accesses to physical runs from a rank through a port. -/
def Dev.windowFor (d : Dev) (p src need : Nat) (runs : List (Nat × Nat)) : Option Nat :=
  (List.range 256).find? fun i =>
    d.on (F.GTE_WIN0_VALID i) && d.get (F.GTE_WIN0_RANK_LO i) ≤ src && src ≤ d.get (F.GTE_WIN0_RANK_HI i)
      && bit (d.get (F.GTE_WIN0_PORTS i)) p && d.winRight i need
      && runs.all fun r => inside r.1 r.2 (d.winRange i).1 (d.winRange i).2

/-- May a window name a range? -/
def winRangeOk (base size : Nat) : Bool :=
  size == 0 || inside base size 0 hbmTop || inside base size ringBase (ringTop - ringBase) || inside base size scratchBase (scratchTop - scratchBase)

/-- DRAIN of a window follows the requests admitted under it that still wait. -/
def Dev.settleDrain (d : Dev) (i : Nat) : Dev := if d.gate.held.any fun r => r.win == i then d else d.put (F.GTE_WIN0_DRAIN i) 0

/-- GTE_WIN_WRITE. -/
def Dev.winWrite (d : Dev) (i : Nat) (word1 : Bool) (v : Nat) : Dev :=
  let valid := if word1 then d.on (F.GTE_WIN0_VALID i) else bit v 63
  let base := if word1 then bits v 31 0 else d.get (F.GTE_WIN1_BASE i)
  let size := if word1 then bits v 63 32 else d.get (F.GTE_WIN1_SIZE i)
  if !winRangeOk (0x10000 * base) (0x10000 * size) || (valid && size == 0) then
    d.refuse ((F.GTE_WIN0_VALID i).off + 8 * b2n word1) v
  else
    let d := d.put (F.GTE_WIN0_DRAIN i) (b2n (d.gate.held.any fun r => r.win == i))
    if word1 then d.puts [(F.GTE_WIN1_SIZE i, size), (F.GTE_WIN1_BASE i, base)]
    else d.puts [(F.GTE_WIN0_VALID i, bits v 63 63), (F.GTE_WIN0_ATOMIC i, bits v 62 62), (F.GTE_WIN0_WRITE i, bits v 61 61),
      (F.GTE_WIN0_READ i, bits v 60 60), (F.GTE_WIN0_PORTS i, bits v 59 48), (F.GTE_WIN0_RANK_HI i, bits v 47 34),
      (F.GTE_WIN0_RANK_LO i, bits v 33 20)]

/-- GTE_WIN_WRITE. -/
def execGteWinWrite (i : Fin 256) (word1 : Bool) (value : Word) (s : State) : Host.Outcome State Fault Refusal :=
  onDev (fun d => d.winWrite i word1 value.toNat) s

/-- A refusal by the windows: RESP with PERM, counted, with at most one gate event in a second. -/
def Dev.windowRefuse (d : Dev) (p : Nat) (h : Hdr) : Dev :=
  let d := d.bump F.GTE_DROPS_WINDOW 1
  let due := match d.gate.lastWindowEvent with
    | none => true
    | some t => t + 100000000 ≤ d.time
  let d := if due then
      ({ d with gate := { d.gate with lastWindowEvent := some d.time } } : Dev).raise evGate stPerm p [p, h.src, h.addr]
    else d
  d.sendResp h stPerm []

/-! ### Requests served here (R260, R274, R275) -/

/-- Atomic operations and types as numbers (R327). -/
def atomOps : List AtomOp := [.add, .min, .max, .and, .or, .xor, .exch, .cas, .inc, .dec]
def atomTypes : List AtomType := [.u32, .u64, .i32, .i64, .fp32, .fp64]

/-- The data of an ATOMIC packet: operation, type, operands (DESIGN CHOICE, notes/assumptions/19.md). -/
def atomData (op : AtomOp) (ty : AtomType) (a b : Nat) : List Byte :=
  leBytes 1 (atomOps.idxOf op) ++ leBytes 1 (atomTypes.idxOf ty) ++ List.replicate 6 0#8 ++ leBytes 8 a ++ leBytes 8 b

/-- Serves an admitted request: the access, then its RESP. -/
def Dev.serveReq (d : Dev) (h : Hdr) (data : List Byte) (due : Bool) : Dev :=
  if h.ptype = ptWrite then
    let (st, d) := d.tryWrite h.addr h.len
    (if st = stOk then d.write h.addr (fitBytes h.len data) else d).sendResp h st []
  else if h.ptype = ptRead then
    match d.readStatus h.addr h.len due with
    | (0, d) => d.sendResp h stOk (d.read h.addr h.len)
    | (st, d) => d.sendResp h st []
  else
    let op := atomOps.getD (data.getD 0 0#8).toNat .add
    let ty := atomTypes.getD (data.getD 1 0#8).toNat .u32
    let n := atomBytes ty
    if !atomOk op ty then d.sendResp h stNotEnabled []
    else if h.addr % n ≠ 0 then d.sendResp h stBounds []
    else
      match d.atomicAt op ty h.addr (leWord data 1) (leWord data 2) due with
      | (0, old, d) => d.sendResp h stOk (leBytes n old)
      | (st, _, d) => d.sendResp h st []

/-- The bytes a request accesses. -/
def reqLen (h : Hdr) (data : List Byte) : Nat :=
  if h.ptype = ptAtomic then atomBytes (atomTypes.getD (data.getD 1 0#8).toNat .u32) else h.len

/-- A WRITE, READ or ATOMIC that a port delivers; one whose memory stalls is admitted and waits. -/
def Dev.reqPacket (d : Dev) (p hdr ptype need feature : Nat) (data : List Byte) (due : Bool) : Dev :=
  match d.delivered p hdr ptype with
  | none => d
  | some h =>
    let d := d.accept p
    match d.turnedAway p hdr feature h with
    | some d => d
    | none =>
      let n := reqLen h data
      match d.windowFor p h.src need [(h.addr, n)] with
      | none => d.windowRefuse p h
      | some i =>
        if d.stalls h.addr n then { d with gate := { d.gate with held := d.gate.held ++ [⟨p, hdr, data, i⟩] } }
        else d.serveReq h data due

/-- Requests that waited for memory are served, in order. -/
def Dev.serveHeld (d : Dev) : Dev :=
  d.gate.held.foldl (fun d r =>
    let h := hdrOf r.hdr
    if d.stalls h.addr (reqLen h r.data) then d
    else (({ d with gate := { d.gate with held := d.gate.held.erase r } } : Dev).serveReq h r.data false).settleDrain r.win) d

/-- WRITE_PACKET. -/
def execWritePacket (port : Fin 12) (hdr : Header) (data : List Byte) (s : State) : Host.Outcome State Fault Refusal :=
  onDev (fun d => d.reqPacket port hdr.toNat ptWrite 1 ftGate data false) s

/-- READ_PACKET. -/
def execReadPacket (port : Fin 12) (hdr : Header) (due : Bool) (s : State) : Host.Outcome State Fault Refusal :=
  onDev (fun d => d.reqPacket port hdr.toNat ptRead 0 ftGate [] due) s

/-- ATOMIC_PACKET. -/
def execAtomicPacket (port : Fin 12) (hdr : Header) (op : AtomOp) (ty : AtomType) (a b : Nat) (s : State) :
    Host.Outcome State Fault Refusal :=
  onDev (fun d => d.reqPacket port hdr.toNat ptAtomic 2 ftGateAtomic (atomData op ty a b) false) s

/-! ### Messages (R319, R320) -/

/-- Writes a message into slot PI of a message queue, W1 to W15 before W0, and advances PI. -/
def Dev.putMessage (d : Dev) (q : Nat) (x : Queue) (l : List Extent) (h : Hdr) (data : List Byte) : Dev :=
  let va := x.slotVa x.pi
  let runs := extentRuns l va 128
  if d.writeRunsStatus runs ≠ stOk then (d.tryWriteRuns runs).2.sendResp h (d.writeRunsStatus runs) []
  else
    let d := d.writeVa l (va + 8) (fitBytes 120 data)
    let d := d.writeVa l va (leBytes 8 (x.pi % 2 ^ 32 * 2 ^ 32 + h.src * 2 ^ 18))
    let d := (d.setQueue q (some { x with pi := (x.pi + 1) % 2 ^ 32 })).takeContext q
    (d.sendResp h stOk []).stepCheck

/-- QMSG_PACKET: a message to a command queue or one that is not enabled is refused with PERM, to a full ring with BOUNDS. -/
def Dev.qmsgPacket (d : Dev) (p hdr : Nat) (data : List Byte) : Dev :=
  match d.delivered p hdr ptQmsg with
  | none => d
  | some h =>
    let q := h.addr % 2 ^ 18
    match (d.accept p).turnedAway p hdr ftGateQmsg h, d.queue q with
    | some d, _ => d
    | none, none => (d.accept p).sendResp h stPerm []
    | none, some x =>
      if x.kind = 0 then (d.accept p).sendResp h stPerm []
      else if h.len ≠ 120 ∨ h.addr ≠ q then (d.accept p).sendResp h stBounds []
      else
        match d.obtainOnce (queueWaiter x x.ring (128 * 2 ^ x.ringLog2) 2) with
        | (.parked, d) => d
        | (.stop st, d) => (d.accept p).sendResp h st []
        | (.ok l, d) =>
          if d.runsWait (extentRuns l (x.slotVa x.pi) 128) then d
          else if (d.windowFor p h.src 1 (extentAll l)).isNone then (d.accept p).windowRefuse p h
          else if 2 ^ x.ringLog2 ≤ d.unread q then (d.accept p).sendResp h stBounds []
          else (d.accept p).putMessage q x l h data

/-- QMSG_PACKET. -/
def execQmsgPacket (port : Fin 12) (hdr : Header) (data : List Byte) (s : State) : Host.Outcome State Fault Refusal :=
  onDev (fun d => d.qmsgPacket port hdr.toNat data) s

/-! ### Responses (R260) -/

/-- Ends what a request belongs to with a status other than OK. -/
def Dev.requestFailed (d : Dev) (o : Outstanding) (st : Nat) : Dev :=
  if o.kind < 2 then
    match d.queue o.queue, d.entry o.queue o.seq, d.copyOpen o.queue o.seq with
    | some x, some e, some c => d.endCopy x e st (min o.pos (d.copyDone o.queue o.seq c.moved))
    | _, _, _ => d
  else d.finishEntry o.queue o.seq st 0

/-- Puts the data of a response where it belongs: a status where memory refuses it. -/
def Dev.responseData (d : Dev) (o : Outstanding) (data : List Byte) : Nat × Dev :=
  if d.writeRunsStatus o.runs ≠ stOk then d.tryWriteRuns o.runs
  else (stOk, let d := d.writeRuns o.runs data
              if hostRuns o.runs then d.wroteHost o.queue o.seq else d)

/-- Is the work of a request still in progress? -/
def Dev.requestLive (d : Dev) (o : Outstanding) : Bool :=
  if o.kind = 4 then (d.runningColl o.queue o.seq).isSome
  else
  match d.entry o.queue o.seq with
  | some e => e.finished.isNone
  | none => false

/-- Ends what a request belongs to: data of a response, or a status. -/
def Dev.requestDone (d : Dev) (o : Outstanding) (st : Nat) (data : List Byte) : Dev :=
  let d := ({ d with gate := { d.gate with outstanding := d.gate.outstanding.erase o } } : Dev).settleIdle
  if !d.requestLive o then d
  else if o.kind = 4 then d.sqResp o st
  else if st ≠ stOk then d.requestFailed o st
  else
    match d.responseData o data with
    | (0, d) =>
      if o.kind < 2 then
        (match d.queue o.queue, d.entry o.queue o.seq with
         | some x, some e => d.copySettle x e
         | _, _ => d)
      else d.finishEntry o.queue o.seq stOk 0
    | (st, d) => d.requestFailed o st

/-- RESP_PACKET: a RESP without its request is discarded. -/
def Dev.respPacket (d : Dev) (p hdr : Nat) (data : List Byte) : Dev :=
  match d.delivered p hdr ptResp with
  | none => d
  | some h =>
    if !d.admits p h.src then (d.accept p).bump F.GTE_DROPS_INGRESS 1
    else if h.dst ≠ d.rank then (d.accept p).bump F.GTE_DROPS_MISDELIVER 1
    else
      match d.gate.outstanding.find? fun o => o.tag == h.tag && o.rank == h.src with
      | none => d.accept p
      | some o => if d.requestLive o && d.runsWait o.runs then d else (d.accept p).requestDone o (h.addr % 256) (fitBytes h.len data)

/-- RESP_PACKET. -/
def execRespPacket (port : Fin 12) (hdr : Header) (data : List Byte) (s : State) : Host.Outcome State Fault Refusal :=
  onDev (fun d => d.respPacket port hdr.toNat data) s

/-- RESPONSE_TIMEOUT. -/
def execResponseTimeout (tag : Nat) (s : State) : Host.Outcome State Fault Refusal :=
  onDev (fun d => match d.gate.outstanding.find? fun o => o.tag == tag with
    | none => d
    | some o => d.requestDone o stFaultPending []) s

/-! ### REMOTE entries (R320, R327) -/

/-- A REMOTE descriptor. -/
structure RemoteDesc where
  op : Nat
  rank : Nat
  aop : Nat
  atype : Nat
  queue : Nat
  target : Nat
  lva : Nat
  operand1 : Nat
  operand2 : Nat
  zeros : Bool
  deriving DecidableEq, Repr

/-- Reads it, with its reserved fields: those that the operation does not use are 0. -/
def remoteDesc (b : List Byte) : RemoteDesc :=
  let w (i : Nat) := leWord b i
  let op := bits (w 0) 63 56
  let aop := bits (w 0) 41 38
  let atype := bits (w 0) 37 35
  let queue := bits (w 0) 17 0
  { op := op, rank := bits (w 0) 55 42, aop := aop, atype := atype, queue := queue, target := w 1, lva := w 2, operand1 := w 3,
    operand2 := w 4,
    zeros := bits (w 0) 34 18 == 0 && (b.drop 40).all (· == 0#8)
      && (if op = 1 then aop == 0 && atype == 0 && w 1 == 0 && w 4 == 0
          else op == 2 && queue == 0 && aop ≤ 9 && atype ≤ 5 && w 1 / 2 ^ 56 == 0 && (aop == 7 || w 4 == 0)) }

/-- Is a descriptor one the negotiated set gives a meaning? -/
def Dev.remoteOk (d : Dev) (m : RemoteDesc) : Bool := m.zeros && d.has (if m.op = 1 then ftGateQmsg else ftGateAtomic)

/-- The waiter that asks for LOCAL. -/
def remoteWaiter (x : Queue) (e : Entry) (va n need : Nat) : Waiter :=
  ⟨0, holderQueue, x.root, x.part, va, n, need, false, some (e.queue, e.seq)⟩

/-- A REMOTE entry with OP 0x01. -/
def Dev.remoteQmsg (x : Queue) (e : Entry) (d : Dev) : Dev :=
  let m := remoteDesc e.desc
  let fin (st : Nat) (d : Dev) : Dev := d.finishEntry e.queue e.seq st 0
  if d.awaits e.queue e.seq then d
  else if !d.remoteOk m then fin stFeature d
  else if m.op ≠ 1 then d
  else
    match d.obtain (remoteWaiter x e m.lva 128 1) with
    | (.parked, d) => d
    | (.stop st, d) => fin st d
    | (.ok l, d) =>
      let runs := extentRuns l m.lva 128
      if d.lacksTo m.rank [ftGateQmsg] then fin stFeature d
      else if d.runsWait runs || d.on F.GTE_CTRL_BE_STOP then d
      else
        match d.readRuns runs false with
        | (0, d) => d.request ptQmsg m.rank m.queue 120 ((d.readVa l m.lva 128).drop 8) ⟨0, m.rank, e.queue, e.seq, 2, 0, []⟩
        | (st, d) => fin st d

/-- REMOTE_QMSG. -/
def execRemoteQmsg (q : Nat) (seq : Nat) (s : State) : Host.Outcome State Fault Refusal :=
  onDev (Dev.onEntry q seq tyRemote Dev.remoteQmsg) s

/-- A REMOTE entry with OP 0x02: CAS compares with OPERAND2 and stores OPERAND1 (R327). -/
def Dev.remoteAtomic (x : Queue) (e : Entry) (d : Dev) : Dev :=
  let m := remoteDesc e.desc
  let fin (st : Nat) (d : Dev) : Dev := d.finishEntry e.queue e.seq st 0
  let op := atomOps.getD m.aop .add
  let ty := atomTypes.getD m.atype .u32
  let n := atomBytes ty
  if d.awaits e.queue e.seq then d
  else if !d.remoteOk m then fin stFeature d
  else if m.op ≠ 2 then d
  else if !atomOk op ty then fin stNotEnabled d
  else if 2 ^ 48 < m.target + n then fin stBounds d
  else
    match (if m.lva = 0 then (.ok [], d) else d.obtain (remoteWaiter x e m.lva n 2)) with
    | (.parked, d) => d
    | (.stop st, d) => fin st d
    | (.ok l, d) =>
      if d.lacksTo m.rank [ftGateAtomic] then fin stFeature d
      else if d.on F.GTE_CTRL_BE_STOP then d
      else
        let runs := if m.lva = 0 then [] else extentRuns l m.lva n
        let data := if op = .cas then atomData op ty m.operand2 m.operand1 else atomData op ty m.operand1 0
        d.request ptAtomic m.rank m.target data.length data ⟨0, m.rank, e.queue, e.seq, 3, 0, runs⟩

/-- REMOTE_ATOMIC. -/
def execRemoteAtomic (q : Nat) (seq : Nat) (s : State) : Host.Outcome State Fault Refusal :=
  onDev (Dev.onEntry q seq tyRemote Dev.remoteAtomic) s

/-! ### Sending (R263, R264, R67) -/

/-- Packets of at most 4,096 bytes: offset and data. -/
def packetsOf : Nat → Nat → List Byte → List (Nat × List Byte)
  | 0, _, _ => []
  | f + 1, o, b => if b.isEmpty then [] else (o, b.take 4096) :: packetsOf f (o + 4096) (b.drop 4096)

/-- Sends the packets of one route of a SEND. -/
def Dev.sendRoute (d : Dev) (r : Route) (stamp o : Nat) (b : List Byte) : Dev :=
  let dir := r.ports % 16
  ((packetsOf (b.length + 1) o b).foldl (fun d x =>
    d.sendPkt ⟨dir, none, (⟨ptSched, 0, true, r.dest, d.rank, stamp, x.2.length, x.1, r.hops - 1, r.ports / 16⟩ : Hdr).code, x.2⟩) d).linkWatch dir

/-- The bytes of a SEND that go on its first route. -/
def splitAt (r : Route) (len : Nat) : Nat := if r.splitN = 0 then len else len * (16 - r.splitN) / 16 / 256 * 256

/-- Does a route's port lack a feature the route needs (R272)? -/
def Dev.routeLacks (d : Dev) (r : Route) : Bool :=
  match d.outPort (r.ports % 16) none with
  | some p => !d.portHas p ftGateFixed || (r.splitN != 0 && !d.portHas p ftGateSplit)
  | none => false

/-- SEND: none while its source stalls. -/
def Dev.sendSlot (d : Dev) (p port : Nat) (due : Bool) (r : SlotRef) (s : Slot) : Option Dev :=
  let routes := ((d.part p).running.map Image.routes).getD []
  let a := routeOf (routes.getD s.route [])
  let b := routeOf (routes.getD a.split [])
  let sg := (d.imageSegs p).getD s.seg ⟨0, 0, 0, []⟩
  let runs := extentRuns sg.extents (sg.base + s.offset) s.length
  let stamp := (d.get F.TCK_TN_TN + s.delta) % 2 ^ 16
  if d.routeLacks a || (a.splitN != 0 && d.routeLacks b) then some (d.tickFault r stFeature 3 port)
  else if d.runsWait runs then none
  else
    match d.readRuns runs due with
    | (0, d) =>
      let data := runs.flatMap fun x => d.read x.1 x.2
      let n := splitAt a s.length
      let d := d.sendRoute a stamp 0 (data.take n)
      some (if a.splitN = 0 then d else d.sendRoute b stamp n (data.drop n))
    | (st, d) => some (d.tickFault r st 1 (d.errorAt runs false due))

/-- SEND. -/
def execSend (p : Fin 8) (port : Fin 12) (due : Bool) (s : State) : Host.Outcome State Fault Refusal :=
  onDev (Dev.slotRun p engGate port opSend fun r sl d => d.sendSlot p port due r sl) s

/-! ### Receiving (R43, R44, R67, R264, R265) -/

/-- The bytes of a RECV that have arrived. -/
def gotBytes (l : List (Nat × Nat)) : Nat := l.foldl (fun s r => s + r.2) 0

/-- A RECV's progress. -/
def Dev.recvOf (d : Dev) (p port slot tn : Nat) : RecvSt :=
  (d.gate.recvs.find? fun r => r.part == p && r.port == port && r.slot == slot && r.tn == tn).getD ⟨p, port, slot, tn, []⟩

/-- Adds bytes to it. -/
def Dev.noteRecv (d : Dev) (x : RecvSt) (o n : Nat) : Dev :=
  let rest := d.gate.recvs.filter fun r => !(r.part == x.part && r.port == x.port && r.slot == x.slot && r.tn == x.tn)
  { d with gate := { d.gate with recvs := rest ++ [{ x with got := (o, n) :: x.got }] } }

/-- RECV: it ends once all its bytes are in. `ended`: the transfer is over, its SEND has nothing more on the way; a transfer that is
over with fewer bytes than LENGTH faults the tick (R67). -/
def Dev.recvSlot (d : Dev) (p port : Nat) (ended : Bool) (r : SlotRef) (s : Slot) : Option Dev :=
  if s.length ≤ gotBytes (d.recvOf p port r.slot (d.get F.TCK_TN_TN)).got then some d
  else if ended then some (d.tickFault r stBounds 3 port)
  else none

/-- RECV. -/
def execRecv (p : Fin 8) (port : Fin 12) (ended : Bool) (s : State) : Host.Outcome State Fault Refusal :=
  onDev (Dev.slotRun p engGate port opRecv fun r sl d => d.recvSlot p port ended r sl) s

/-- A RECV slot of a tick that a transfer may belong to: partition, port, slot number, slot, segment. -/
structure RecvSlot where
  part : Nat
  port : Nat
  slot : Nat
  s : Slot
  seg : Segment
  deriving DecidableEq, Repr

/-- The RECVs of a stream for a peer in an image tick, in stream order. -/
def recvsOf (p port tick src : Nat) (im : Image) : List RecvSlot :=
  match im.stream engGate port with
  | none => []
  | some st => st.slots.zipIdx.filterMap fun r =>
      if r.1.op = opRecv ∧ r.1.tick = tick ∧ r.1.peer = src then some ⟨p, port, r.2, r.1, im.segs.getD r.1.seg ⟨0, 0, 0, []⟩⟩ else none

/-- The streams that a transfer through a port is looked for in: the port's own and the primary it stands in for, then the others. -/
def Dev.recvPorts (d : Dev) (port : Nat) : List Nat :=
  let first := (port :: directions.flatMap fun x => if (d.portsOf x.1 x.2).contains port then d.portsOf x.1 x.2 else []).eraseDups
  first ++ (List.range 12).filter fun q => !first.contains q

/-- The RECVs that a transfer of a tick may belong to. -/
def Dev.recvSlots (d : Dev) (port src tn : Nat) : List RecvSlot :=
  (d.recvPorts port).flatMap fun q => (List.range 8).flatMap fun p =>
    match d.imageFor p tn with
    | some (im, tick) => recvsOf p q tick src im
    | none => []

/-- Have bytes of a RECV arrived already? -/
def Dev.recvHas (d : Dev) (tn o n : Nat) (r : RecvSlot) : Bool :=
  (d.recvOf r.part r.port r.slot tn).got.any fun g => overlaps o n g.1 g.2

/-- Delivers scheduled data: into the first RECV that lacks these bytes; past its LENGTH the tick faults (R67). -/
def Dev.deliver (d : Dev) (port src tn o : Nat) (data : List Byte) : Dev :=
  let n := data.length
  match (d.recvSlots port src tn).find? fun r => !d.recvHas tn o n r with
  | none => d
  | some r =>
    let ref : SlotRef := ⟨r.part, engGate, r.port, r.slot⟩
    if r.s.length < o + n then d.tickFault ref stBounds 3 r.port
    else
      let runs := extentRuns r.seg.extents (r.seg.base + r.s.offset + o) n
      if d.writeRunsStatus runs ≠ stOk then (d.tryWriteRuns runs).2.tickFault ref (d.writeRunsStatus runs) 1 (d.errorAt runs true false)
      else (d.writeRuns runs data).noteRecv (d.recvOf r.part r.port r.slot tn) o n

/-- Must a delivery wait for memory? -/
def Dev.deliverWaits (d : Dev) (port src tn o n : Nat) : Bool :=
  match (d.recvSlots port src tn).find? fun r => !d.recvHas tn o n r with
  | some r => d.runsWait (extentRuns r.seg.extents (r.seg.base + r.s.offset + o) n)
  | none => false

/-- SCHED_PACKET: stamps of this tick and the next are taken, later ones wait at their sender, earlier ones are discarded with a tick
event (R44). -/
def Dev.schedPacket (d : Dev) (p hdr : Nat) (data : List Byte) : Dev :=
  match d.delivered p hdr ptSched with
  | none => d
  | some h =>
    let now := d.get F.TCK_TN_TN
    let ahead := (h.tag + 2 ^ 16 - now % 2 ^ 16) % 2 ^ 16
    if !d.admits p h.src then (d.accept p).bump F.GTE_DROPS_INGRESS 1
    else if h.dst ≠ d.rank then ((d.accept p).bump F.GTE_DROPS_MISDELIVER 1).gateFault p
    else if 2 ≤ ahead ∧ ahead < 2 ^ 15 then d
    else if 2 ^ 15 ≤ ahead then (d.accept p).raise evTick stOk p [h.tag, h.src]
    else if d.tick.quench then d.accept p
    else if d.deliverWaits p h.src (now + ahead) h.addr h.len then d
    else (d.accept p).deliver p h.src (now + ahead) h.addr (fitBytes h.len data)

/-- SCHED_PACKET. -/
def execSchedPacket (port : Fin 12) (hdr : Header) (data : List Byte) (s : State) : Host.Outcome State Fault Refusal :=
  onDev (fun d => d.schedPacket port hdr.toNat data) s

end Sys2Proof.Machine
end

