-- ==== Sys2Proof/Machine/Schedule.lean ====
section
/-! DEFINITION. Schedule images in the device: loading, staging, promotion, end, stop and abort; the completion and the overrun of a
slot (R59, R65 to R77, R412, R414 to R416). -/

namespace Sys2Proof.Machine

open Sys2Proof

/-! ### Image buffers -/

/-- STAGE and RUN codes of SCH_STATUS. -/
def sgEmpty : Nat := 0
def sgLoading : Nat := 1
def sgStaged : Nat := 2
def rnIdle : Nat := 0
def rnRunning : Nat := 1
def rnAborted : Nat := 2

/-- The image buffer of a partition releases the bindings of segments (R226). -/
def Dev.releaseSegs (d : Dev) (p root : Nat) (l : List Segment) : Dev :=
  l.foldl (fun d s => d.release (holderImage p) root s.base s.size) d

/-- STAGE as the staged buffer stands while no load runs. -/
def Dev.showStage (d : Dev) (p : Nat) : Dev :=
  d.put (F.SCH_STATUS_STAGE p)
    (if (d.part p).loading.isSome then sgLoading else if (d.part p).staged.isSome then sgStaged else sgEmpty)

/-- Empties the staged buffer. -/
def Dev.dropStaged (d : Dev) (p : Nat) : Dev :=
  let d := match (d.part p).staged with
    | some im => d.releaseSegs p im.root im.segs
    | none => d
  (d.setPart p { d.part p with staged := none }).showStage p

/-- The running image leaves its buffer with everything that its slots had begun: SCH_STOP.VALID clears (R74). -/
def Dev.dropRunning (d : Dev) (p : Nat) : Dev :=
  let d := match (d.part p).running with
    | some im => d.releaseSegs p im.root im.segs
    | none => d
  let d := d.setPart p { d.part p with running := none, positions := [], tokens := [], stepWait := none, wrote := [] }
  (({ d with gate := { d.gate with recvs := d.gate.recvs.filter fun r => r.part != p } } : Dev).dropRounds p).put (F.SCH_STOP_VALID p) 0

/-! ### LOAD (R72, R414) -/

/-- LOAD: ignored while one runs; a partition that is not scheduled completes it PERM at once. -/
def Dev.loadStart (d : Dev) (p : Nat) : Dev :=
  if !d.has ftScheduled then d.refuse (F.SCH_CTRL_LOAD p).off 1
  else if !d.scheduled p then d.raise evSchedule stPerm p [5, 0, 0]
  else if (d.part p).loading.isSome then d
  else
    let l : Load := ⟨d.get (F.SCH_SRC_SRC p), d.get (F.SCH_SIZE_SIZE p), d.rootOfPart p, none, 0, 0, 0⟩
    (d.setPart p { d.part p with loading := some l }).put (F.SCH_STATUS_STAGE p) sgLoading

/-- LOAD. -/
def execLoad (p : Fin 8) (s : State) : Host.Outcome State Fault Refusal := onDev (fun d => d.loadStart p) s

/-- A LOAD completes: the staged buffer holds the new image, or nothing; one event reports it (R72, R412). -/
def Dev.loadEnd (d : Dev) (p st detail off : Nat) (im : Option Image) : Dev :=
  let d := d.dropStaged p
  let d := (d.setPart p { d.part p with loading := none, staged := im }).showStage p
  let d := d.puts [(F.SCH_STATUS_LOAD_STATUS p, st), (F.SCH_STATUS_DETAIL p, detail), (F.SCH_STATUS_ERR_OFFSET p, off)]
  d.raise evSchedule st p [5, detail, d.get (F.SCH_STATUS_ERR_OFFSET p)]

/-- A kept result is taken. -/
def Dev.takeBound (d : Dev) (holder root va : Nat) : Option Bound × Dev :=
  let mine (b : Bound) : Bool := b.holder == holder && b.root == root && b.va == va
  (d.rbt.bound.find? mine, { d with rbt := { d.rbt with bound := d.rbt.bound.filter fun b => !mine b } })

/-- A range of the source is translated: whether it is mapped is asked before whether it may be read (R72). -/
def Dev.sourceRuns (d : Dev) (p root : Nat) (l : Load) : Xlate × Dev :=
  match d.translate root p l.src l.size 0 with
  | (.ok _, d) => d.translate root p l.src l.size 1
  | x => x

/-- The image arrives in the staged buffer and its static checks run; it is kept with the places of its segments and descriptors. -/
def Dev.loadChecks (d : Dev) (p root : Nat) (l : Load) (bytes : List Byte) : Dev :=
  let d := d.dropStaged p
  let d := match (d.part p).buffers with
    | pa :: _ => d.write pa bytes
    | [] => d
  let im := imageOf root bytes
  match d.imageFail p l.size bytes im with
  | some (detail, st, off) => d.loadEnd p st detail off none
  | none => d.setPart p { d.part p with loading := some { l with image := some im, segOff := secOff bytes secSeg, descOff := secOff bytes secDesc } }

/-- The source: checks 0x01, 0x02 and 0x10, then the bytes (R72, R414). It opens no fault record: while its root is stale or its
memory stalls it waits, and a `late` stale root ends it under check 0x10 where 0x2800.01 is not 0 (R220, R230). -/
def Dev.loadSource (d : Dev) (p : Nat) (l : Load) (due late : Bool) : Dev :=
  if l.size < 256 ∨ 2 ^ 26 < l.size then d.loadEnd p stBounds 0x01 0 none
  else
    match l.root with
    | none => d.loadEnd p stPerm 0x02 0 none
    | some root =>
      match d.sourceRuns p root l with
      | (.stop st, d) => d.loadEnd p st (if st = stBounds then 0x01 else if st = stPerm then 0x02 else 0x10) 0 none
      | (.fault k _, d) =>
        if k = fkStale then
          if late ∧ d.inForceNat 0x280001 ≠ 0 then d.loadEnd p stFaultPending 0x10 0 none else d
        else if k = fkRights then d.loadEnd p stPerm 0x02 0 none
        else d.loadEnd p stBounds 0x01 0 none
      | (.ok ext, d) =>
        let runs := extentRuns ext l.src l.size
        if d.runsWait runs then d
        else
          match d.readRuns runs due with
          | (0, d) => d.loadChecks p root l (runs.flatMap fun r => d.read r.1 r.2)
          | (_, d) => d.loadEnd p stUncorrectable 0x10 0 none

/-- A segment of the loading image with its extents. -/
def Image.bindSeg (im : Image) (i : Nat) (ext : List Extent) : Image :=
  { im with segs := im.segs.zipIdx.map fun r => if r.2 = i then { r.1 with extents := ext } else r.1 }

/-- Binds the segments of a loading image in order, as far as no translation waits: the status of the first that fails, with its
number; whether all are bound (R68, check 0x0F). -/
def Dev.imageBindSegs (p : Nat) : Nat → Dev → Load → Image → Option (Nat × Nat) × Bool × Load × Image × Dev
  | 0, d, l, im => (none, false, l, im, d)
  | f + 1, d, l, im =>
    match im.segs[l.done]? with
    | none => (none, true, l, im, d)
    | some s =>
      match d.takeBound (holderImage p) im.root s.base with
      | (some b, d) =>
        if b.status ≠ stOk then (some (b.status, l.done), false, l, im, d)
        else imageBindSegs p f d { l with done := l.done + 1 } (im.bindSeg l.done b.extents)
      | (none, _) =>
        if (d.rbt.waiters ++ d.rbt.waitingBind).any fun w => w.holder == holderImage p && w.entry.isNone then (none, false, l, im, d)
        else imageBindSegs p f (d.requestBind ⟨0, holderImage p, im.root, p, s.base, s.size, s.rights, true, none⟩) l im

/-- The segments, the checks behind their translation, and check 0x0E once more (R72, R73). -/
def Dev.loadBind (d : Dev) (p : Nat) (l : Load) (im : Image) : Dev :=
  match Dev.imageBindSegs p (2 * im.segs.length + 2) d l im with
  | (some (st, i), _, l, im, d) => (d.releaseSegs p im.root (im.segs.take l.done)).loadEnd p st 0x0F (l.segOff + 32 * i) none
  | (none, false, l, im, d) => d.setPart p { d.part p with loading := some { l with image := some im } }
  | (none, true, l, im, d) =>
    if d.boundWaits im then d.setPart p { d.part p with loading := some { l with image := some im } }
    else
      match d.imageBoundFail p im l.descOff with
      | some (st, off) => (d.releaseSegs p im.root im.segs).loadEnd p st 0x0F off none
      | none =>
        if d.baseOk p im then d.loadEnd p stOk 0 0 (some im)
        else (d.releaseSegs p im.root im.segs).loadEnd p stBounds 0x0E 0 none

/-- Goes on with a load whose static checks have passed. -/
def Dev.loadOn (d : Dev) (p : Nat) : Dev :=
  match (d.part p).loading with
  | some l => (match l.image with
    | some im => d.loadBind p l im
    | none => d)
  | none => d

/-- LOAD_DONE: the load goes as far as it can. `late`: a root that was stale at the last try has been so for 0x2800.01 ms. -/
def Dev.loadDone (d : Dev) (p : Nat) (due late : Bool) : Dev :=
  match (d.part p).loading with
  | none => d
  | some l => if l.image.isSome then d.loadOn p else (d.loadSource p l due late).loadOn p

/-- LOAD_DONE. -/
def execLoadDone (p : Fin 8) (due late : Bool) (s : State) : Host.Outcome State Fault Refusal :=
  onDev (fun d => d.loadDone p due late) s

/-- UNSTAGE empties the staged buffer; a load that runs goes on (R73). -/
def Dev.unstage (d : Dev) (p : Nat) : Dev := if d.scheduled p then d.dropStaged p else d

/-- UNSTAGE. -/
def execUnstage (p : Fin 8) (s : State) : Host.Outcome State Fault Refusal := onDev (fun d => d.unstage p) s

/-! ### Promotion and end (R73, R74) -/

/-- An image ends: the partition runs empty ticks, without a HOLD. -/
def Dev.endImage (d : Dev) (p : Nat) : Dev := (d.dropRunning p).put (F.SCH_STATUS_RUN p) rnIdle

/-- The staged image becomes the running one; the old running image's buffer becomes the staged buffer. -/
def Dev.promote (d : Dev) (p : Nat) (im : Image) : Dev :=
  let d := if (d.part p).running.isSome then d.endImage p else d
  if im.len ≠ d.get F.TCK_STATUS_LEN then
    (d.dropStaged p).raise evSchedule stNotEnabled p [3, im.len, d.get F.TCK_STATUS_LEN, im.programId]
  else
    let x := d.part p
    let d := d.setPart p { x with staged := none, running := some im, buffers := x.buffers.reverse }
    (d.showStage p).put (F.SCH_STATUS_RUN p) rnRunning

/-- What the boundary before tick `n` does to the images of a partition: an image past its last tick ends, and a staged one whose
BASE_TN has come is promoted. -/
def Dev.turnImages (d : Dev) (n p : Nat) : Dev :=
  let d := match (d.part p).running with
    | some im => if d.endedBy p im n then d.endImage p else d
    | none => d
  match (d.part p).staged with
  | some im => if im.baseTn ≤ n then d.promote p im else d
  | none => d

/-! ### ABORT and SCH_STOP -/

/-- Launches of slots of a partition stop with their blocks and groups. -/
def Dev.killLaunches (d : Dev) (p : Nat) : Dev :=
  let mine (l : Launch) : Bool := l.slot.isSome && l.part == p
  let ids := (d.clus.launches.filter mine).map Launch.id
  let gone (b : Block) : Bool := ids.contains b.launch
  let d := (d.clus.blocks.filter gone).foldl (fun d b => b.groups.foldl (fun d k => d.setGroup k none) d) d
  { d with clus := { d.clus with launches := d.clus.launches.filter (fun l => !mine l), blocks := d.clus.blocks.filter fun b => !gone b } }

/-- ABORT ends the running image at once (R77); what its step wrote holds no defined result. -/
def Dev.abort (d : Dev) (p : Nat) : Dev :=
  if d.get (F.SCH_STATUS_RUN p) ≠ rnRunning then d
  else
    let d := d.blurRuns (d.part p).wrote
    let d := ((d.killLaunches p).dropRunning p).debugUpdate
    (d.put (F.SCH_STATUS_RUN p) rnAborted).assertHold hcFault

/-- ABORT. -/
def execAbort (p : Fin 8) (s : State) : Host.Outcome State Fault Refusal := onDev (fun d => d.abort p) s

/-- SCH_STOP: refused while VALID is set, or where the pass has begun (R74). A partition that is not scheduled has none. -/
def Dev.stopWrite (d : Dev) (p v : Nat) : Dev :=
  if !d.scheduled p then d
  else if d.on (F.SCH_STOP_VALID p) || ((d.part p).running.isSome && decide (bits v 31 0 ≤ d.get (F.SCH_PASS_PASS p))) then
    d.refuse (F.SCH_STOP_PASS p).off v
  else d.puts [(F.SCH_STOP_VALID p, bits v 32 32), (F.SCH_STOP_PASS p, bits v 31 0)]

/-- SCH_STOP_WRITE. -/
def execSchStopWrite (p : Fin 8) (value : Word) (s : State) : Host.Outcome State Fault Refusal :=
  onDev (fun d => d.stopWrite p value.toNat) s

/-! ### Slots end (R65, R66, R75, R76) -/

/-- The slot a stream has started. -/
def Dev.openSlot (d : Dev) (p engine index : Nat) : Option (StreamPos × Slot) :=
  match d.nextSlot p engine index with
  | some (q, s) => if q.started then some (q, s) else none
  | none => none

/-- Has the work of a started slot ended? A launch when it has left, a SEND when no packet of its stamp and destination waits. -/
def Dev.slotEnded (d : Dev) (p index : Nat) (q : StreamPos) (s : Slot) : Bool :=
  if s.op = opLaunch then !(d.clus.launches.any fun l => l.part == p && l.slot == some (index, q.next))
  else if s.op = opSend then
    let stamp := (d.get F.TCK_TN_TN + s.delta) % 2 ^ 16
    !(d.gate.waiting.any fun w => let h := hdrOf w.hdr
      h.ptype == ptSched && h.src == d.rank && h.dst == s.peer && h.tag == stamp)
  else true

/-- A slot completes: its token is set, and the next slot of its stream may start. -/
def Dev.slotComplete (d : Dev) (p engine index : Nat) : Dev :=
  match d.openSlot p engine index with
  | none => d
  | some (q, s) =>
    if !d.slotEnded p index q s then d
    else
      let x := (d.part p).setPos { q with next := q.next + 1, started := false }
      d.setPart p { x with tokens := if s.signal = 0xFF || x.tokens.contains s.signal then x.tokens else s.signal :: x.tokens }

/-- SLOT_COMPLETE. -/
def execSlotComplete (p : Fin 8) (engine : Fin 7) (index : Nat) (s : State) : Host.Outcome State Fault Refusal :=
  onDev (fun d => d.slotComplete p engine index) s

/-- Has a partition an overrun on record? -/
def Dev.overran (d : Dev) (p : Nat) : Bool := d.regRead (F.SCH_OVR_SLOT p).off != 0

/-- The first overrun of a tick, or of the time since OVERRUN was cleared, is recorded; later ones set MORE; each raises an event.
OVERRUN is asserted unless DEBUG is held (R76). -/
def Dev.overrun (d : Dev) (p engine index num excess : Nat) : Dev :=
  let same := d.held hcOverrun || d.get (F.SCH_OVR_TN_TN p) == d.get F.TCK_TN_TN
  let d :=
    if d.overran p && same then d.put (F.SCH_OVR_MORE p) 1
    else d.puts [(F.SCH_OVR_ENGINE p, engine), (F.SCH_OVR_DEBUG p, b2n (d.held hcDebug)), (F.SCH_OVR_MORE p, 0), (F.SCH_OVR_INDEX p, index),
      (F.SCH_OVR_SLOT p, num), (F.SCH_OVR_EXCESS p, satTo 0xFFFF excess), (F.SCH_OVR_TN_TN p, d.get F.TCK_TN_TN)]
  let d := d.raise evSchedule stOverrun p [6, d.regRead (F.SCH_OVR_SLOT p).off, d.get (F.SCH_OVR_TN_TN p)]
  if d.held hcDebug then d else d.assertHold hcOverrun

/-- A slot's counted cycles exceed its BUDGET: the slot goes on (R75). A quenching device counts none (R393). -/
def Dev.slotOverrun (d : Dev) (p engine index excess : Nat) : Dev :=
  match d.openSlot p engine index with
  | some (q, s) => if excess = 0 || s.op = opNop || d.tick.quench then d else d.overrun p engine index q.next excess
  | none => d

/-- SLOT_OVERRUN. -/
def execSlotOverrun (p : Fin 8) (engine : Fin 7) (index : Nat) (excess : Nat) (s : State) : Host.Outcome State Fault Refusal :=
  onDev (fun d => d.slotOverrun p engine index excess) s

end Sys2Proof.Machine
end

