-- ==== Sys2Proof/Machine/Tick.lean ====
section
/-! DEFINITION. Ticks and tick domains: the tick state machine, period boundaries, parking and resuming, tick control messages, stretch
(R32 to R58, R78). -/

namespace Sys2Proof.Machine

open Sys2Proof

/-! ### Tick control messages (R37, R42) -/

/-- The fields of a tick control message. -/
structure TMsg where
  kind : Nat
  domain : Nat
  origin : Nat
  cause : Nat
  k : Nat
  len : Nat
  runimg : Nat
  zero : Nat
  aux : Nat
  tick : Nat
  deriving DecidableEq, Repr

/-- Reads a message. -/
def tmsgOf (w : Nat) : TMsg :=
  { kind := bits w 127 124, domain := bits w 123 116, origin := bits w 115 102, cause := bits w 101 98, k := bits w 97 92, len := bits w 91 89,
    runimg := bits w 88 88, zero := bits w 87 80, aux := bits w 79 64, tick := bits w 63 0 }

/-- Lays it out. -/
def TMsg.word (m : TMsg) : Nat := tickWord m.kind m.domain m.origin m.cause m.k m.len m.runimg m.aux m.tick

/-- KIND codes. -/
def tkEpoch : Nat := 1
def tkHold : Nat := 2
def tkStretch : Nat := 3
def tkResume : Nat := 4
def tkParked : Nat := 5
def tkPing : Nat := 6
def tkPong : Nat := 7

/-- Are the fields that R42 gives a KIND within their values, and the others 0 (R37)? -/
def TMsg.fieldsOk (m : TMsg) : Bool :=
  let noRun : Bool := m.len == 0 && m.runimg == 0
  m.zero == 0 && m.k ≤ 48 &&
  (if m.kind = tkEpoch then m.cause == 0 && m.k == 0 && noRun
   else if m.kind = tkHold then m.cause != 0 && m.cause != hcStretch && m.cause != hcStep && m.cause ≤ hcOverrun && m.k == 0 && noRun
   else if m.kind = tkStretch then m.cause == hcStretch && noRun
   else if m.kind = tkResume then m.cause == 0 && m.len != 7 && m.runimg == 0 && m.aux == 0
   else if m.kind = tkParked then m.cause == 0 && (m.runimg == 1 || m.len == 0)
   else if m.kind = tkPing then m.cause == 0 && m.k == 0 && noRun && m.aux == 0
   else m.kind == tkPong && m.cause == 0 && m.k == 0 && noRun)

/-- Takes a message of a KIND from a port (R35, R37, R58): an invalid one is counted and discarded; a device that is OFF or solo accepts
none. -/
def Dev.onTick (p w kind : Nat) (f : TMsg → Dev → Dev) (d : Dev) : Dev :=
  let m := tmsgOf w
  if !d.domainPort p || m.domain != d.get F.TCK_CTRL_DOMAIN || !m.fieldsOk || m.kind != kind then d.bump F.TCK_HOLD_LOG_DISCARDS 1
  else if d.tickState = tsOff || d.solo then d
  else f m d

/-- Is the message one that this device's flooding has not seen yet (R42)? -/
def Dev.fresh? (d : Dev) (m : TMsg) : Bool := !d.tick.seen.contains (m.origin, m.cause, m.k, m.tick)

/-- Passes a flooded message on to every other domain port, one hop further. -/
def Dev.passFlood (d : Dev) (p : Nat) (m : TMsg) : Dev :=
  let d := { d with tick := { d.tick with seen := (m.origin, m.cause, m.k, m.tick) :: d.tick.seen } }
  d.sendTick (d.domainPorts.filter (· != p)) ({ m with aux := satTo 0xFFFF (m.aux + 1) } : TMsg).word

/-- Sends a message up the tree. -/
def Dev.sendUp (d : Dev) (w : Nat) : Dev :=
  match d.tick.tree.parent with
  | some p => d.sendTick [p.val] w
  | none => d

/-- The ports of the children in the tree. -/
def Dev.childPorts (d : Dev) : List Nat := (List.range 12).filter fun p => bit d.tick.tree.children.toNat p

/-! ### The distribution tree (R36, R49) -/

/-- Hold reach allows a tick length (R49): at 1.6 GHz, reach + 200 ns is at most three tick lengths. -/
def reachOk (reachNs len : Nat) : Bool := 16 * (reachNs + 200) ≤ 30 * (1024 * 2 ^ len)

/-- A tree is in force. The master leaves devices deeper than 18 hops out, with a tick event each, and reports hold reach. -/
def Dev.takeTree (d : Dev) (t : Tree) : Dev :=
  let d := { d with tick := { d.tick with tree := t } }
  if d.master then
    let d := d.puts [(F.TCK_STATUS_DEPTH, 0), (F.TCK_REACH_DEPTH_MAX, t.depthMax), (F.TCK_REACH_DIAM, t.diam), (F.TCK_REACH_REACH, t.reachNs)]
    t.tooDeep.foldl (fun d r => d.raise evTick stOk 0 [r]) d
  else
    d.puts [(F.TCK_STATUS_DEPTH, if d.member then t.depth else 0), (F.TCK_REACH_DEPTH_MAX, 0), (F.TCK_REACH_DIAM, 0), (F.TCK_REACH_REACH, 0)]

/-! ### Enabling (R57, R58) -/

/-- A solo device without a cause leaves PARKED. -/
def Dev.soloLeave (d : Dev) : Dev :=
  if d.solo && d.tickState == tsParked && d.get F.TCK_STATUS_CAUSES == 0 then d.put F.TCK_STATUS_STATE tsResuming else d

/-- ENABLE is set: from OFF the device begins to form a domain, or parks when solo. -/
def Dev.tickOn (d : Dev) (t : Tree) : Dev :=
  if d.on F.TCK_CTRL_ENABLE then d
  else
    let d := d.puts [(F.TCK_CTRL_ENABLE, 1), (F.TCK_HOLD_LOG_DISCARDS, 0)]
    if d.tickState ≠ tsOff then d
    else
      let k : TickSt := { TickSt.reset with storedDue := d.tick.storedDue }
      let d := ({ d with tick := k } : Dev).puts [(F.TCK_TN_TN, 0), (F.TCK_EPOCH_E, 0),
        (F.TCK_STATUS_STATE, if d.solo then tsParked else tsLocking)]
      (d.takeTree t).soloLeave

/-- The device goes to OFF: no partition waits before a step any more. -/
def Dev.tickOff (d : Dev) : Dev :=
  let d := (List.range 8).foldl (fun d p => d.setPart p { d.part p with stepWait := none }) d
  let d := (d.dropCause hcStep).put F.TCK_STATUS_STATE tsOff
  { d with tick := { TickSt.reset with storedDue := d.tick.storedDue, tree := d.tick.tree } }

/-- ENABLE is cleared: at once from LOCKING and PARKED, else on reaching PARKED. -/
def Dev.tickClear (d : Dev) : Dev :=
  let d := d.put F.TCK_CTRL_ENABLE 0
  if d.tickState = tsLocking || d.tickState = tsParked then d.tickOff else d

/-- TICK_ENABLE. -/
def execTickEnable (tree : Tree) (s : State) : Host.Outcome State Fault Refusal := onDev (fun d => d.tickOn tree) s

/-- TICK_DISABLE. -/
def execTickDisable (s : State) : Host.Outcome State Fault Refusal := onDev Dev.tickClear s

/-- A stored enable of 1 is applied once after boot, as soon as the domain ports have attested. -/
def Dev.storedEnable (fl : Flash) (tree : Tree) (d : Dev) : Dev :=
  let stored := leNat (fl.configured 0x210008)
  if d.tick.storedDue && d.tickState == tsOff && d.ready && stored == 1 && d.maskUp then
    ({ d with tick := { d.tick with storedDue := false } } : Dev).tickOn tree
  else d

/-- STORED_ENABLE. -/
def execStoredEnable (tree : Tree) (s : State) : Host.Outcome State Fault Refusal :=
  onDevFlash (fun _ fl d => (fl, d.storedEnable fl tree)) s

/-! ### Locking (R18, R39) -/

/-- A member that follows EPOCH, whose phase error is within 20 ns and that does not hold CLOCK leaves LOCKING with PARKED. -/
def Dev.tryLock (d : Dev) : Dev :=
  let err := sext 32 (d.get F.TCK_PHASE_ERR)
  if d.member && d.tickState == tsLocking && d.tick.watching && !d.held hcClock && decide (err.natAbs ≤ 20000) then
    (d.puts [(F.TCK_STATUS_STATE, tsParked), (F.TCK_PHASE_MAX_ERR, err.natAbs)]).sendParked
  else d

/-! ### Software HOLD (R47, R51) -/

/-- TCK_HOLD.ASSERT. -/
def execTckHoldAssert (s : State) : Host.Outcome State Fault Refusal := onDev (fun d => d.assertHold hcSoftware) s

/-- The causes that TCK_HOLD.CLEAR can clear now: not CLOCK in holdover, MASTER_LOST only on the acting master (R18, R41). -/
def Dev.clearable (d : Dev) : List Nat :=
  [hcSoftware, hcFault] ++ (if d.pwr.holdover then [] else [hcClock]) ++ (if d.master then [hcMasterLost] else []) ++ [hcOverrun]

/-- What follows when causes have cleared: a parked device reports, a solo one leaves PARKED, a member may lock. -/
def Dev.causesCleared (d : Dev) : Dev :=
  if d.solo then d.soloLeave
  else if d.tickState = tsParked || (d.tickState = tsLocking && d.tick.parkedSent) then d.sendParked
  else d.tryLock

/-- TCK_HOLD.CLEAR; bit 13 clears the overrun records too (R76). -/
def Dev.holdClear (d : Dev) (mask : Nat) : Dev :=
  let gone := d.clearable.filter fun c => bit mask c
  let d := if bit mask hcOverrun then
      (List.range 8).foldl (fun d p => d.puts ([F.SCH_OVR_ENGINE p, F.SCH_OVR_DEBUG p, F.SCH_OVR_MORE p, F.SCH_OVR_INDEX p, F.SCH_OVR_SLOT p,
        F.SCH_OVR_EXCESS p, F.SCH_OVR_TN_TN p].map fun f => (f, 0))) d
    else d
  if gone.any d.held then (gone.foldl Dev.dropCause d).causesCleared else d

/-- TCK_HOLD_CLEAR. -/
def execTckHoldClear (mask : BitVec 16) (s : State) : Host.Outcome State Fault Refusal := onDev (fun d => d.holdClear mask.toNat) s

/-! ### Ticks begin and end (R33, R45, R47, R48, R54, R65, R66, R78) -/

/-- Has every slot of the running tick finished? -/
def Dev.slotsDone (d : Dev) : Bool :=
  (List.range 8).all fun p => (d.part p).positions.all fun q => (d.nextSlot p q.engine q.index).isNone

/-- Is the running tick complete? -/
def Dev.tickFinished (d : Dev) : Bool := d.tick.tickDone || d.slotsDone

/-- The step of a partition that tick `n` begins, if it begins one: its number and the step. -/
def Dev.stepAt (d : Dev) (p n : Nat) : Option (Nat × Step) :=
  match d.imageFor p n with
  | none => none
  | some (im, i) => (im.steps.zipIdx.find? fun r => r.1.first == i).map fun r => (r.2, r.1)

/-- The step before which a partition parks at tick `n` (R48). -/
def Dev.crossAt (d : Dev) (p n : Nat) : Option Nat :=
  match d.stepAt p n with
  | some (i, s) => if s.cross then some i else none
  | none => none

/-- Does the device park before tick `n`: at a HOLD target, or before a step that needs messages? -/
def Dev.stopsBefore (d : Dev) (n : Nat) : Bool :=
  d.tick.targets.any (· ≤ n) || (List.range 8).any fun p => (d.crossAt p n).isSome

/-- K for tick `n` (R54): S is the largest master-originated K held for it, else the K in force; R the largest of the members'. -/
def Dev.stretchAt (d : Dev) (n : Nat) : Nat :=
  let l := d.tick.stretches.filter (·.tn ≤ n)
  let top (l : List StretchRec) : Nat := l.foldl (fun m r => max m r.k) 0
  let s := l.filter StretchRec.fromMaster
  max (if s.isEmpty then d.get F.TCK_STATUS_K else top s) (top (l.filter fun r => !r.fromMaster))

/-- The largest requested K that the master knows. -/
def Dev.topRequest (d : Dev) : Nat := d.tick.kReqs.foldl (fun m r => max m r.2) (d.get F.TCK_STATUS_K_REQ)

/-- Streams of a partition stand at their first slot of an image tick. -/
def startPositions (im : Image) (i : Nat) : List StreamPos :=
  im.streams.map fun s => ⟨s.engine, s.index, s.slots.countP fun x => x.tick < i, false⟩

/-- A partition's part in the beginning of tick `n`: its images turn, its tokens clear, its streams stand at the tick's slots. -/
def Dev.startPart (d : Dev) (n p : Nat) : Dev :=
  if !d.scheduled p then d
  else
    let d := d.turnImages n p
    match (d.part p).running with
    | none => d
    | some im =>
      let i := (n - im.baseTn) % max 1 im.ticks
      let x := d.part p
      let d := d.setPart p { x with positions := startPositions im i, tokens := [],
                                    wrote := if im.steps.any (·.first == i) then [] else x.wrote }
      d.puts [(F.SCH_PASS_PASS p, (n - im.baseTn) / max 1 im.ticks), (F.SCH_PASS_ITICK p, i)]

/-- A planned spare swap at the head of the queue asserts REPAIR four ticks before the first tick of a step, on a solo device one (R78). -/
def Dev.aimSwap (d : Dev) (n : Nat) : Dev :=
  match d.clus.swaps with
  | [] => d
  | w :: r =>
    let t := if d.solo then n + 1 else n + 4
    match d.clusterPart w.logical with
    | none => d
    | some p =>
      if w.targetTn.isNone && d.scheduled p && (d.part p).running.isSome && (d.stepAt p t).isSome && (d.uncovered d.trcWithSpare).isEmpty then
        ({ d with clus := { d.clus with swaps := { w with targetTn := some t } :: r } } : Dev).assertHold hcRepair
      else d

/-- The master counts the ticks for which every requested K stays below K (R53). -/
def Dev.countBelow (d : Dev) : Dev :=
  let k : TickSt := { d.tick with belowFor := if d.topRequest < d.get F.TCK_STATUS_K then d.tick.belowFor + 1 else 0 }
  { d with tick := k }

/-- Tick `n` starts. -/
def Dev.startTick (d : Dev) (n : Nat) : Dev :=
  let d := d.captureBoundary
  let st := if d.tick.targets.isEmpty then tsRunning else tsHolding
  let d := d.puts [(F.TCK_STATUS_STATE, st), (F.TCK_STATUS_K, d.stretchAt n), (F.TCK_TN_TN, n)]
  let k : TickSt := { d.tick with stretches := d.tick.stretches.filter (n < ·.tn), tickDone := false, parkedSent := false }
  let d := { d with tick := k, gate := { d.gate with recvs := d.gate.recvs.filter (n ≤ ·.tn) } }
  (((List.range 8).foldl (fun d p => d.startPart n p) d).countBelow).aimSwap n

/-- A quench ends: what the quenched steps wrote holds no defined result (R393). -/
def Dev.endQuench (d : Dev) : Dev :=
  if d.tick.quench then
    let d := (List.range 8).foldl (fun d p => (d.blurRuns (d.part p).wrote).setPart p { d.part p with wrote := [] }) d
    { d with tick := { d.tick with quench := false } }
  else d

/-- REPAIR at a park: held while a repair step is due there; a swap that aims at a later boundary does not hold this park (R396). -/
def Dev.parkRepair (d : Dev) : Dev :=
  if d.clus.swaps.any d.swapHeld then d.setCause hcRepair else if d.repairWanted then d else d.dropCause hcRepair

/-- The step waits of a park before tick `n`: messages that are in are taken, STEP is held for the others (R48, R56). -/
def Dev.parkSteps (d : Dev) (n : Nat) : Dev :=
  let d := (List.range 8).foldl (fun d p =>
    d.setPart p { d.part p with positions := [], tokens := [], stepWait := d.crossAt p n }) d
  let d := (List.range 8).foldl Dev.stepTake d
  if d.stepWaits then d.setCause hcStep else d

/-- The device parks before tick `n` (R47): SLIP clears, later targets stay, PARKED goes out; a device whose ENABLE was cleared goes to
OFF, a solo one without a cause leaves at the next boundary. -/
def Dev.park47 (d : Dev) (n : Nat) : Dev :=
  let d := d.captureBoundary.endQuench
  let d := d.puts [(F.TCK_STATUS_STATE, tsParked), (F.TCK_TN_TN, n)]
  let k : TickSt := { d.tick with targets := d.tick.targets.filter (n < ·), tickDone := true, due := n }
  let d := ((({ d with tick := k } : Dev).dropCause hcSlip).parkRepair).parkSteps n
  if !d.on F.TCK_CTRL_ENABLE then d.tickOff
  else if d.solo then d.soloLeave
  else d.sendParked

/-- What follows tick TN once it is complete: the park before the next tick, or its start where it is due. -/
def Dev.afterTick (d : Dev) (atBoundary : Bool) : Dev :=
  let n := d.get F.TCK_TN_TN + 1
  let late : Bool := n ≤ d.tick.due
  if d.stopsBefore n && (atBoundary || late || !d.solo) then d.park47 n
  else if late then d.startTick n
  else d

/-- TICK_COMPLETE. -/
def Dev.tickComplete (d : Dev) : Dev :=
  if !d.ticking || d.tick.tickDone || !d.slotsDone then d
  else ({ d with tick := { d.tick with tickDone := true } } : Dev).afterTick false

/-- TICK_COMPLETE. -/
def execTickComplete (s : State) : Host.Outcome State Fault Refusal := onDev Dev.tickComplete s

/-- The device resumes at boundary E_r: L and K are those of the RESUME, on a solo device its own; causes held since count as asserted
in this tick (R38, R51, R52, R55). -/
def Dev.resumeNow (d : Dev) : Dev :=
  let (len, k) := match d.tick.resumeAt with
    | some (_, len, k) => (len, k)
    | none => (d.get F.TCK_CTRL_LEN_PEND, d.get F.TCK_STATUS_K_REQ)
  let n := d.get F.TCK_TN_TN
  let d := d.puts [(F.TCK_STATUS_LEN, len), (F.TCK_STATUS_K, k)]
  let d := ({ d with tick := { d.tick with resumeAt := none, due := n } } : Dev).startTick n
  (List.range 16).foldl (fun d c => if d.held c && c != hcStep then d.sendHold c else d) d

/-- PERIOD_BOUNDARY. In OFF the period timer counts on, and the stretch that the governor requires applies by itself (R376, R378). -/
def Dev.periodBoundary (d : Dev) : Dev :=
  let st := d.tickState
  if st = tsOff then d.put F.TCK_STATUS_K (d.get F.TCK_STATUS_K_REQ)
  else
    let d := d.put F.TCK_EPOCH_E (d.get F.TCK_EPOCH_E + 1)
    let e := d.get F.TCK_EPOCH_E
    let d := if d.solo then d.put F.TCK_STATUS_K (d.get F.TCK_STATUS_K_REQ) else d
    let d := if d.master && e % 16 == 0 then d.sendTick d.childPorts (d.ownTick tkEpoch 0 0 0 0 0 e) else d
    let d := if d.member && d.tick.watching then { d with tick := { d.tick with sinceEpoch := d.tick.sinceEpoch + 1 } } else d
    if st = tsRunning || st = tsHolding then
      let done := d.tickFinished
      let d := { d with tick := { d.tick with due := d.tick.due + 1, tickDone := done } }
      if done then d.afterTick true else d.assertHold hcSlip
    else if st = tsResuming then
      match d.tick.resumeAt with
      | some (er, _, _) => if er ≤ e then d.resumeNow else d
      | none => d.resumeNow
    else d

/-- PERIOD_BOUNDARY. -/
def execPeriodBoundary (s : State) : Host.Outcome State Fault Refusal := onDev Dev.periodBoundary s

/-! ### EPOCH and the watch (R37, R39, R41) -/

/-- A member follows an EPOCH from its tree parent, passes it on with its own transmit offset, and clears MASTER_LOST. -/
def Dev.followEpoch (d : Dev) (m : TMsg) (err : Int) : Dev :=
  let (n, d) := d.draw
  let d := d.puts [(F.TCK_EPOCH_E, m.tick), (F.TCK_PHASE_ERR, twos 32 err),
    (F.TCK_PHASE_MAX_ERR, max (d.get F.TCK_PHASE_MAX_ERR) (satTo (2 ^ 32 - 1) err.natAbs))]
  let d := { d with tick := { d.tick with sinceEpoch := 0, watching := true, acting := some m.origin } }
  let d := d.sendTick d.childPorts ({ m with aux := Config.freeNat n % 2 ^ 16 } : TMsg).word
  (d.clearHold hcMasterLost).tryLock

/-- EPOCH. -/
def execEpoch (port : Fin 12) (msg : TickWord) (phaseErrPs : Int) (s : State) : Host.Outcome State Fault Refusal :=
  onDev (Dev.onTick port msg.toNat tkEpoch fun m d =>
    if d.member ∧ d.tick.tree.parent = some port then d.followEpoch m phaseErrPs else d) s

/-- The successor takes the master role with a tree of its own. -/
def Dev.succeed (d : Dev) (tree : Tree) : Dev :=
  let d := d.puts [(F.TCK_CTRL_ROLE, 2), (F.TCK_CTRL_MASTER_RANK, d.rank)]
  let k : TickSt := { d.tick with watching := false, sinceEpoch := 0, acting := none, parked := [], members := [], kReqs := [], belowFor := 0 }
  let d := ({ d with tick := k } : Dev).takeTree tree
  if d.tickState = tsParked then d.sendParked else d

/-- No EPOCH for 64 periods: MASTER_LOST. -/
def Dev.watchExpiry (d : Dev) (tree : Tree) : Dev :=
  if d.member && d.tickState != tsOff && d.tick.watching && decide (64 ≤ d.tick.sinceEpoch) && !d.held hcMasterLost then
    let d := d.assertHold hcMasterLost
    if d.inForceNat 0x210004 = d.rank && d.on F.GTE_ID_RANKED then d.succeed tree else d
  else d

/-- EPOCH_WATCH_EXPIRY. -/
def execEpochWatchExpiry (tree : Tree) (s : State) : Host.Outcome State Fault Refusal := onDev (fun d => d.watchExpiry tree) s

/-! ### Link delay (R39) -/

/-- A member sends PING on its parent link. -/
def Dev.pingSend (d : Dev) (ts : Nat) : Dev :=
  if d.member && d.tickState != tsOff && d.tick.tree.parent.isSome then
    ({ d with tick := { d.tick with pingOut := some (ts % 2 ^ 64) } } : Dev).sendUp (d.ownTick tkPing 0 0 0 0 0 ts)
  else d

/-- PING_INTERVAL. -/
def execPingInterval (timestamp : Nat) (s : State) : Host.Outcome State Fault Refusal := onDev (fun d => d.pingSend timestamp) s

/-- PING is answered with PONG, which carries the turnaround and this device's own timestamp. -/
def Dev.pingTaken (d : Dev) (p turnaround : Nat) : Dev :=
  let (n, d) := d.draw
  d.sendTick [p] (d.ownTick tkPong 0 0 0 0 turnaround (Config.freeNat n))

/-- PING. -/
def execPing (port : Fin 12) (msg : TickWord) (turnaround : Nat) (s : State) : Host.Outcome State Fault Refusal :=
  onDev (Dev.onTick port msg.toNat tkPing fun _ d => d.pingTaken port turnaround) s

/-- PONG on the parent link gives the one-way delay: half of the round trip less the turnaround. -/
def Dev.pongTaken (d : Dev) (p : Nat) (m : TMsg) (arrival : Nat) : Dev :=
  match d.tick.pingOut with
  | some ts => { d with tick := { d.tick with pingOut := none, delays := Table.set (fun _ => 0) d.tick.delays p ((arrival - ts - m.aux) / 2) } }
  | none => d

/-- PONG. -/
def execPong (port : Fin 12) (msg : TickWord) (arrival : Nat) (s : State) : Host.Outcome State Fault Refusal :=
  onDev (Dev.onTick port msg.toNat tkPong fun m d => if d.tick.tree.parent = some port then d.pongTaken port m arrival else d) s

/-! ### HOLD messages (R42, R47, R50, R393) -/

/-- An accepted HOLD: it is logged, a FAULT quenches, its target is held; where the target has started the device parks before its next
tick and reports it. -/
def Dev.takeHold (d : Dev) (p : Nat) (m : TMsg) : Dev :=
  let d := d.puts [(F.TCK_HOLD_LOG_ORIGIN, m.origin), (F.TCK_HOLD_LOG_CAUSE, m.cause), (F.TCK_HOLD_LOG_HOPS, m.aux),
    (F.TCK_HOLD_LOG_TARGET, m.tick)]
  let tn := d.get F.TCK_TN_TN
  let d := if m.cause = hcFault && (d.ticking || d.tickState == tsResuming) then { d with tick := { d.tick with quench := true } } else d
  if d.ticking then
    let d :=
      if tn < m.tick then d.addTarget m.tick
      else (({ d with tick := { d.tick with reachStale := true } } : Dev).raise evTick stOk p [m.origin, m.tick]).addTarget (tn + 1)
    if d.tick.tickDone && d.stopsBefore (tn + 1) then d.park47 (tn + 1) else d
  else if (d.tickState = tsParked || d.tickState = tsResuming) && tn < m.tick then d.addTarget m.tick
  else d

/-- HOLD. -/
def execHold (port : Fin 12) (msg : TickWord) (s : State) : Host.Outcome State Fault Refusal :=
  onDev (Dev.onTick port msg.toNat tkHold fun m d => if d.fresh? m then (d.passFlood port m).takeHold port m else d) s

/-! ### Stretch (R53, R54) -/

/-- Keeps a requested K of a rank on the master. -/
def Dev.noteK (d : Dev) (rank k : Nat) : Dev :=
  if d.master then { d with tick := { d.tick with kReqs := Table.set (fun _ => 0) d.tick.kReqs rank k } } else d

/-- The rank that acts as master, as this device knows it. -/
def Dev.actingMaster (d : Dev) : Nat := if d.master then d.rank else d.tick.acting.getD (d.get F.TCK_CTRL_MASTER_RANK)

/-- Holds a stretch for its target. -/
def Dev.addStretch (d : Dev) (origin k tn : Nat) : Dev :=
  { d with tick := { d.tick with stretches := ⟨tn, k, origin == d.actingMaster⟩ :: d.tick.stretches } }

/-- A STRETCH message with a target. -/
def Dev.takeStretch (d : Dev) (m : TMsg) : Dev :=
  let d := if m.origin = d.actingMaster then d else d.noteK m.origin m.k
  d.addStretch m.origin m.k m.tick

/-- A stretch report: the master keeps it, a member passes it up. -/
def Dev.takeReport (d : Dev) (m : TMsg) : Dev := if d.master then d.noteK m.origin m.k else d.sendUp m.word

/-- STRETCH. -/
def execStretch (port : Fin 12) (msg : TickWord) (s : State) : Host.Outcome State Fault Refusal :=
  onDev (Dev.onTick port msg.toNat tkStretch fun m d =>
    if m.tick = 0 then d.takeReport m else if d.fresh? m then (d.passFlood port m).takeStretch m else d) s

/-- STRETCH_REPORT. -/
def execStretchReport (port : Fin 12) (msg : TickWord) (s : State) : Host.Outcome State Fault Refusal :=
  onDev (Dev.onTick port msg.toNat tkStretch fun m d => if m.tick = 0 then d.takeReport m else d) s

/-- Floods a STRETCH of this device with target n + 4 and holds it. -/
def Dev.sendStretch (d : Dev) (k : Nat) : Dev :=
  let t := d.get F.TCK_TN_TN + 4
  (d.flood tkStretch hcStretch k t).addStretch d.rank k t

/-- STRETCH_LOWERING: at most one message for each target. -/
def Dev.lowerStretch (d : Dev) : Dev :=
  let t := d.get F.TCK_TN_TN + 4
  if !d.master || !d.ticking || d.tick.belowFor < 1024 || d.tick.stretches.any (fun r => r.fromMaster && r.tn == t) then d
  else ({ d with tick := { d.tick with belowFor := 0 } } : Dev).sendStretch d.topRequest

/-- STRETCH_LOWERING. -/
def execStretchLowering (s : State) : Host.Outcome State Fault Refusal := onDev Dev.lowerStretch s

/-- A new requested K of this device (R53, R376, R378): in OFF and on a solo device it applies at the next boundary; a rise above K is
flooded, a fall reported. -/
def Dev.requestK (d : Dev) (k : Nat) : Dev :=
  let old := d.get F.TCK_STATUS_K_REQ
  let d := d.put F.TCK_STATUS_K_REQ k
  if d.solo || d.tickState == tsOff || d.tickState == tsLocking then d
  else
    let d := d.noteK d.rank k
    if old < k ∧ d.get F.TCK_STATUS_K < k then d.sendStretch k
    else if k < old ∧ d.member then d.sendUp (d.ownTick tkStretch hcStretch k 0 0 0 0)
    else d

/-! ### Parking and resuming a domain (R49, R51, R52, R55) -/

/-- A PARKED message: the master keeps it, a member passes it up. -/
def Dev.takeParked (d : Dev) (m : TMsg) : Dev :=
  if d.master then d.notePark ⟨m.origin, m.aux, m.tick, m.k, m.runimg == 1, m.len⟩ else d.sendUp m.word

/-- PARKED. -/
def execParked (port : Fin 12) (msg : TickWord) (s : State) : Host.Outcome State Fault Refusal :=
  onDev (Dev.onTick port msg.toNat tkParked fun m d => d.takeParked m) s

/-- The master holds the latest PARKED of every device: of the expected number while the domain forms, else of all that last resumed. -/
def Dev.allParked (d : Dev) : Bool :=
  let others := d.tick.parked.filter fun r => r.rank != d.rank
  if d.tickState = tsLocking || d.tick.members.isEmpty then d.inForceNat 0x210006 ≤ others.length
  else d.tick.members.all fun r => others.any fun x => x.rank == r

/-- The master resumes the domain: LOCKING goes on to PARKED first. It refuses where next TNs differ, where hold reach does not allow
L (looked at after a rebuild, a late HOLD, and for a new L), and where a running image was compiled for another L. -/
def Dev.masterResume (d : Dev) (tree : Tree) : Dev :=
  if !d.master || !(d.tickState == tsLocking || d.tickState == tsParked) || d.get F.TCK_STATUS_CAUSES != 0 then d
  else
    let d := d.takeTree tree
    let own := d.parkedRec
    let fresh := d.tickState == tsLocking || d.tick.members.isEmpty || d.tick.reachStale || d.get F.TCK_CTRL_LEN_PEND != d.get F.TCK_STATUS_LEN
    let l := own :: d.tick.parked.filter fun r => r.rank != d.rank
    let len := d.get F.TCK_CTRL_LEN_PEND
    if !d.allParked || unionCauses l != 0 then d
    else if l.any fun r => r.tn != own.tn then d.raise evTick stOk 0 []
    else if fresh && !reachOk tree.reachNs len then (if len = d.get F.TCK_STATUS_LEN then d else d.raise evTick stOk 0 [])
    else if l.any fun r => r.runImg && r.len != len then d.raise evTick stOk 0 []
    else
      let er := d.get F.TCK_EPOCH_E + 4
      let k : TickSt := { d.tick with
        resumeAt := some (er, len, d.get F.TCK_STATUS_K), parked := [], reachStale := false, members := (l.map ParkedRec.rank).filter (· != d.rank) }
      let d := (({ d with tick := k } : Dev).puts [(F.TCK_STATUS_STATE, tsResuming), (F.TCK_STATUS_DCAUSES, 0)])
      d.sendTick d.childPorts (d.ownTick tkResume 0 (d.get F.TCK_STATUS_K) len 0 0 er)

/-- MASTER_RESUME. -/
def execMasterResume (tree : Tree) (s : State) : Host.Outcome State Fault Refusal := onDev (fun d => d.masterResume tree) s

/-- A RESUME from the tree parent: it goes on to the children, and a parked device starts its tick at E_r. -/
def Dev.takeResume (d : Dev) (m : TMsg) : Dev :=
  let d := d.sendTick d.childPorts m.word
  if d.tickState = tsParked then
    ({ d with tick := { d.tick with resumeAt := some (m.tick, m.len, m.k) } } : Dev).put F.TCK_STATUS_STATE tsResuming
  else d

/-- RESUME. -/
def execResume (port : Fin 12) (msg : TickWord) (s : State) : Host.Outcome State Fault Refusal :=
  onDev (Dev.onTick port msg.toNat tkResume fun m d => if d.member ∧ d.tick.tree.parent = some port then d.takeResume m else d) s

end Sys2Proof.Machine
end

