-- ==== Sys2Proof/Machine/Power.lean ====
section
/-! DEFINITION. Pins, rails, clocks, the thermal managers and the tick governor (R18, R22 to R31, R187, R251, R373 to R378, R405). -/

namespace Sys2Proof.Machine

open Sys2Proof

/-! ### What a reset covers (R369) -/

/-- The objects that show pins and straps, and what was found at power-up. -/
def pinObjects : List Nat := [0x200005, 0x200006, 0x200007, 0x20000A, 0x20000C]

/-- The fields that a whole-device reset keeps: RWS fields (R6), and the thermal scheme, which is set at power-on reset only (R252). -/
def rwsFields : List Fld :=
  [F.PWR_RST_WHOLE, F.PWR_RST_ZEROISE, F.PWR_RST_CAUSE, F.DTD_CFG_THERM_COMPAT] ++ (List.range 140).map F.DTD_MOD_WIDTH

/-- Bytes of every cluster's SRAM address range. -/
def sramTop : Nat := 400 * 2 ^ 23

/-- A reset of every die and every register: device memory and cluster SRAM lose their contents; pins and the TICKREF source stay, and the
fields listed. -/
def Dev.rebooted (d : Dev) (keep : List Fld) : Dev :=
  let keys := keep.map Fld.key
  let pw : PowerSt := { d.pwr with evals := 0, hotAt := none, coolAt := none }
  let cables := (d.gate.ports.filter fun r => r.2.present).map fun r => (r.1, ({ PortSt.reset with present := true } : PortSt))
  { Dev.reset with
    regs := d.regs.filter fun r => keys.contains r.1
    objs := d.objs.filter fun r => pinObjects.contains r.1
    mem := d.mem.blur 0 hostBase d.fresh
    sram := d.sram.blur 0 sramTop d.fresh
    time := d.time
    fresh := d.fresh + 1
    events := d.events
    outs := d.outs
    gate := { GateSt.reset with ports := cables }
    host := { HostSt.reset with perst := d.host.perst }
    pwr := pw }

/-- LMS leaves of a block left unused at a reset are abandoned (R383). -/
def Vault.abandonLeaves (v : Vault) : Vault := { v with leavesUsed := (v.leavesUsed + 1023) / 1024 * 1024 }

/-! ### Rails (R24 to R28) -/

/-- Every gate transmitter stops driving. -/
def Dev.stopGates (d : Dev) : Dev :=
  (List.range 12).foldl (fun d p => d.setPort p { d.port p with driving := false }) d

/-- Writes the power state of a device. -/
def State.setPower (s : State) (p : PowerSt) : State := { s with dev := { s.dev with pwr := p } }

/-- The rails fall with a shutdown cause: PWRGD low, transmitters off, the cause in flash; a ramp that has not ended only stops. -/
def State.powerDown (s : State) (cause : Nat) : State :=
  let p := s.dev.pwr
  if p.pwrgd then
    let d : Dev := { s.dev.stopGates with pwr := { p with pwrgd := false, ramping := false } }
    { s with flash := { s.flash with shutdown := some cause }, dev := d.emit (.rails false) }
  else if p.ramping then
    { s with dev := ({ s.dev with pwr := { p with ramping := false } } : Dev).emit (.rails false) }
  else s

/-- The rail sequence starts, where PWR_EN is high, no hold-off runs and the rails are down. -/
def State.rampUp (s : State) : State :=
  let p := s.dev.pwr
  if p.pwrEn && !p.holdoff && !p.ramping && !p.pwrgd then
    { s with dev := ({ s.dev with pwr := { p with ramping := true } } : Dev).emit (.rails true) }
  else s

/-- PWR_EN_RISE: an edge within the hold-off counts when that ends. -/
def execPwrEnRise (s : State) : Host.Outcome State Fault Refusal :=
  .next (s.setPower { s.dev.pwr with pwrEn := true }).rampUp

/-- PWR_EN_HOLDOFF_EXPIRY. -/
def execPwrEnHoldoffExpiry (s : State) : Host.Outcome State Fault Refusal :=
  .next (s.setPower { s.dev.pwr with holdoff := false }).rampUp

/-- PWR_EN_FALL: the latch of THERMTRIP# clears, the hold-off starts. -/
def execPwrEnFall (s : State) : Host.Outcome State Fault Refusal :=
  .next ((s.setPower { s.dev.pwr with pwrEn := false, thermtrip := false, holdoff := true }).powerDown 1)

/-- RAIL_OUT_OF_REGULATION. -/
def execRailOutOfRegulation (s : State) : Host.Outcome State Fault Refusal := .next (s.powerDown 4)

/-- UNDERVOLTAGE. -/
def execUndervoltage (s : State) : Host.Outcome State Fault Refusal := .next (s.powerDown 2)

/-- OVERVOLTAGE. -/
def execOvervoltage (s : State) : Host.Outcome State Fault Refusal := .next (s.powerDown 3)

/-- THERMTRIP: the pin latches while the rails are up or rising. -/
def execThermtrip (s : State) : Host.Outcome State Fault Refusal :=
  let p := s.dev.pwr
  .next ((s.setPower { p with thermtrip := p.thermtrip || p.pwrgd || p.ramping }).powerDown 5)

/-- The cause that object 0x2000.0A shows at power-up: the one recorded, else removal with PWR_EN high, at the first power-up none
(R30, R31). -/
def Flash.lastCause (fl : Flash) : Nat :=
  match fl.shutdown with
  | some c => c
  | none => if fl.everPowered then 6 else 0

/-- PWRGD rises: power-on reset, with SLOT_ID and TREF sampled and the power cycle counted. -/
def State.powerGood (s : State) (slotId : Nat) (trefGood : Bool) : State :=
  let p := s.dev.pwr
  if p.pwrEn && p.ramping && !p.pwrgd then
    let pw : PowerSt := { p with ramping := false, pwrgd := true, trefSelected := trefGood, holdover := false, evals := 0, hotAt := none, coolAt := none }
    let d := s.dev.rebooted []
    let d : Dev := { d with pwr := pw, time := 0 }
    let d := ((d.setObj 0x200005 (leBytes 1 slotId)).setObj 0x20000C (boolByte trefGood)).setObj 0x20000A (leBytes 1 s.flash.lastCause)
    { s with
      vault := s.vault.abandonLeaves
      flash := { s.flash with shutdown := none, everPowered := true, cycles := satTo (2 ^ 32 - 1) (s.flash.cycles + 1) }
      dev := d }
  else s

/-- PWRGD. -/
def execPwrgd (slotId : Fin 64) (trefGood : Bool) (s : State) : Host.Outcome State Fault Refusal := .next (s.powerGood slotId trefGood)

/-! ### PERST# (R25) -/

/-- PERST# deasserts: its level counts once PWRGD is high. -/
def execPerstDeassert (s : State) : Host.Outcome State Fault Refusal :=
  .next { s with dev := { s.dev with host := { s.dev.host with perst := false } } }

/-- The endpoint becomes configuration-ready once PERST# is deasserted; its link is up. -/
def execConfigurationReady (s : State) : Host.Outcome State Fault Refusal :=
  onDev (fun d => if d.host.perst then d else ({ d with host := { d.host with cfgReady := true } } : Dev).linkUp) s

/-! ### Clocks (R18, R373) -/

/-- The domains locked in fixed ratios to TICKREF, and TICKREF itself, by their LOCK bits. -/
def lockedDomains : List Nat := [0, 1, 2, 4, 9, 17]

/-- Sets or clears LOCK bits. -/
def Dev.setLock (d : Dev) (l : List Nat) (v : Bool) : Dev :=
  d.put F.PWR_CLK_LOCK ((List.range 18).foldl (fun a i =>
    a + (if l.contains i then b2n v else bits (d.get F.PWR_CLK_LOCK) i i) * 2 ^ i) 0)

/-- A domain loses lock: LOCK, LOSSES and a clock event. -/
def Dev.lockLost (d : Dev) (i : Nat) : Dev := ((d.setLock [i] false).bump F.PWR_CLK_LOSSES 1).raise evClock stOk 0 []

/-- Holdover begins: CLOCK is held. -/
def Dev.holdoverStart (d : Dev) : Dev := ({ d with pwr := { d.pwr with holdover := true } } : Dev).assertHold hcClock

/-- TREF_OUT_OF_TOLERANCE: only a TREF that was selected counts. -/
def execTrefOutOfTolerance (s : State) : Host.Outcome State Fault Refusal :=
  onDev (fun d => if d.pwr.trefSelected && !d.pwr.holdover then (d.lockLost 17).holdoverStart else d) s

/-- TREF_RELOCK: holdover ends; CLOCK stays held until software clears it. -/
def execTrefRelock (s : State) : Host.Outcome State Fault Refusal :=
  onDev (fun d => if d.pwr.holdover then ({ d with pwr := { d.pwr with holdover := false } } : Dev).setLock lockedDomains true else d) s

/-- PLL_LOCK_LOSS: a locked domain is handled as a TICKREF fault. -/
def execPllLockLoss (domain : Fin 18) (s : State) : Host.Outcome State Fault Refusal :=
  onDev (fun d =>
    let d := d.lockLost domain
    if lockedDomains.contains domain.val then d.holdoverStart else d) s

/-! ### Input voltage (R23, R375) -/

/-- The module limit in force: object 0x2E00.04, and while the input is low 50 A times its voltage. -/
def Dev.moduleLimit (d : Dev) : Nat :=
  let l := d.objNat 0x2E0004
  if d.on F.PWR_GOV_INPUT_LOW then min l (d.get F.PWR_MEAS_VIN / 2) else l

/-- PWR_GOV.LIMIT follows. -/
def Dev.setLimit (d : Dev) : Dev := d.put F.PWR_GOV_LIMIT d.moduleLimit

/-- INPUT_LOW: between 38 V and 40 V; the event is raised once. -/
def Dev.inputLow (d : Dev) (vin : Nat) : Dev :=
  if vin < 3800 ∨ 4000 ≤ vin then d
  else
    let was := d.on F.PWR_GOV_INPUT_LOW
    let d := (d.puts [(F.PWR_MEAS_VIN, vin), (F.PWR_GOV_INPUT_LOW, 1)]).setLimit
    if was then d else d.raise evClock stOk 0 []

/-- INPUT_LOW. -/
def execInputLow (vin10mV : Nat) (s : State) : Host.Outcome State Fault Refusal := onDev (fun d => d.inputLow vin10mV) s

/-- INPUT_IN_SPECIFICATION. -/
def execInputInSpecification (s : State) : Host.Outcome State Fault Refusal :=
  onDev (fun d => (d.put F.PWR_GOV_INPUT_LOW 0).setLimit) s

/-- POWERED_HOURS. -/
def execPoweredHours (s : State) : Host.Outcome State Fault Refusal :=
  onDevFlash (fun _ f d => ({ f with hours := satTo (2 ^ 32 - 1) (f.hours + 1) }, d)) s

/-! ### Thermal managers (R187, R250, R251, R405) -/

/-- The compatibility scheme is in force. -/
def Dev.compat (d : Dev) : Bool := d.on F.DTD_CFG_THERM_COMPAT

/-- The number of the guest die among the dies read over the sideband: 0 to 3 C-dies, 4 Hub, 5 science die, 6 and 7 gate dies, 8 guest die,
9 to 20 the stacks. -/
def guestDie : Nat := 8

/-- The step-2 temperature of R207, sixteenths of a degree. -/
def step2Temp : Int := 16 * 95

/-- An admitted guest die whose telemetry stopped: it was missing for 10 ms, or a module of its link has degraded (R405). -/
def Dev.guestSilent (d : Dev) : Bool :=
  d.guest == guAdmitted && (d.dtd.silent.contains guestDie || (modulesOf guestLink).any fun m => d.get (F.DTD_MOD_STATE m) == mdDegraded)

/-- A hottest logic-die sensor with what dies without telemetry are taken for (R251, R405). -/
def Dev.withSilent (d : Dev) (hot : Int) : Int :=
  let hot := if d.guestSilent then max hot Config.guestThrottle16 else hot
  if d.compat && d.dtd.silent.any (· < guestDie) then max hot step2Temp else hot

/-- TELEMETRY_TIMEOUT: a RAS event; the die counts as silent until it is read again. -/
def execTelemetryTimeout (die : Fin 21) (s : State) : Host.Outcome State Fault Refusal :=
  onDev (fun d =>
    if d.dtd.silent.contains die.val then d
    else ({ d with dtd := { d.dtd with silent := die.val :: d.dtd.silent } } : Dev).raise evRas stOk die [die.val]) s

/-- SENSOR_POLL under the compatibility scheme: telemetry that is back is taken again, each stack steps by its hottest sensor, the hottest
logic-die sensor is kept for the governor. -/
def Dev.sensorPoll (d : Dev) (logicMax : Int) (stackMax : List Int) (missing : List Nat) : Dev :=
  if !d.compat then d
  else
    let d : Dev := { d with dtd := { d.dtd with silent := d.dtd.silent.filter fun x => missing.contains x || (x == guestDie && d.guestSilent) } }
    let d := (List.range 12).foldl (fun d st =>
      if d.dtd.silent.contains (9 + st) then d.stackStep st step2Temp
      else if missing.contains (9 + st) then d
      else match stackMax[st]? with
        | some t => d.stackStep st t
        | none => d) d
    d.put F.PWR_GOV_HOT (twos 16 (d.withSilent logicMax))

/-- SENSOR_POLL. -/
def execSensorPoll (logicMax : Int) (stackMax : List Int) (missing : List (Fin 21)) (s : State) : Host.Outcome State Fault Refusal :=
  onDev (fun d => d.sensorPoll logicMax stackMax (missing.map (·.val))) s

/-- PLZ_TEMP of a C-die; a Plaza sensor that comes to read more than 10 degrees above the die beneath it raises an event (R187). -/
def Dev.plazaTemp (d : Dev) (n : Nat) (cd plz : Int) : Dev :=
  let was : Bool := 160 < sext 16 (d.get (F.PLZ_TEMP_PLZ_TEMP n)) - sext 16 (d.get (F.PLZ_TEMP_CD_TEMP n))
  let d := d.puts [(F.PLZ_TEMP_CD_TEMP n, twos 16 cd), (F.PLZ_TEMP_PLZ_TEMP n, twos 16 plz)]
  if 160 < plz - cd ∧ !was then d.raise evPlaza stOk n [n] else d

/-! ### The governor (R375 to R377) -/

/-- Does a stretch value fit both limits with their margin (R376)? -/
def Dev.fits (d : Dev) (m : GovernorIn) (k : Nat) : Bool :=
  let kCur := d.get F.TCK_STATUS_K
  let draw : Int := m.pFix * (16 + k) + (m.pMeas - m.pFix : Int) * (16 + kCur)
  decide (draw ≤ (d.get F.PWR_GOV_LIMIT - 20 : Int) * (16 + k)) && decide (Config.packagePrediction m.pkgMeas kCur k ≤ 1880)

/-- The smallest K that fits. -/
def Dev.kPower (d : Dev) (m : GovernorIn) : Option Nat := (List.range 49).find? (d.fits m)

/-- The throttle target in sixteenths of a degree. -/
def Dev.target16 (d : Dev) : Int := 16 * (d.objNat 0x2E0005 : Int)

/-- Were there at least `n` runs of the governor since the one noted? -/
def Dev.runsSince (d : Dev) (at_ : Option Nat) (n : Nat) : Bool :=
  match at_ with
  | some t => t + n ≤ d.pwr.evals
  | none => true

/-- K_therm: up by one at most once per 1 ms (10 runs), down by one at most once per 10 ms (100 runs). -/
def Dev.stepTherm (d : Dev) (hot stack : Int) : Dev :=
  let k := d.get F.PWR_GOV_K_THERM
  if d.target16 ≤ hot ∨ 16 * 90 ≤ stack then
    if k < 48 ∧ d.runsSince d.pwr.hotAt 10 then
      ({ d with pwr := { d.pwr with hotAt := some d.pwr.evals } } : Dev).put F.PWR_GOV_K_THERM (k + 1)
    else d
  else if hot < d.target16 - 48 ∧ stack < 16 * 87 ∧ 0 < k ∧ d.runsSince d.pwr.coolAt 100 then
    ({ d with pwr := { d.pwr with coolAt := some d.pwr.evals } } : Dev).put F.PWR_GOV_K_THERM (k - 1)
  else d

/-- THERMAL under R377: asserted when no K fits and a mean exceeds its limit, at the target plus 10 degrees with K at 48, or with a stack
at step 3; cleared with no stack at step 3 once both conditions have held for 10 ms. -/
def Dev.thermal (d : Dev) (m : GovernorIn) (hot : Int) : Dev :=
  let above : Bool := d.get F.PWR_GOV_LIMIT < m.pMean || 1900 < m.pkgMean
  let step3 := (List.range 12).any fun st => d.get (F.MEM_STACK_STEP st) == 3
  if ((d.kPower m).isNone && above) || (decide (d.target16 + 160 ≤ hot) && d.get F.TCK_STATUS_K == 48) || step3 then d.assertHold hcThermal
  else if !above && decide (hot < d.target16 - 80) && m.held10ms then d.clearHold hcThermal
  else d

/-- GOVERNOR: one run, every 100 µs. -/
def Dev.governor (d : Dev) (m : GovernorIn) : Dev :=
  let d : Dev := { d with pwr := { d.pwr with evals := d.pwr.evals + 1 } }
  let d := m.dies.zipIdx.foldl (fun d x => if x.2 < 4 then d.plazaTemp x.2 x.1.1 x.1.2 else d) d
  let hot := if d.compat then sext 16 (d.get F.PWR_GOV_HOT) else d.withSilent m.hotLogic
  let d := d.puts [(F.PWR_MEAS_MODULE, m.pMean), (F.PWR_MEAS_PACKAGE, m.pkgMean), (F.PWR_MEAS_FIX, m.pFix), (F.PWR_MEAS_VIN, m.vin10mV),
    (F.PWR_GOV_HOT, twos 16 hot)]
  let d := d.setLimit.stepTherm hot m.hotStack
  let d := d.put F.PWR_GOV_K_POWER ((d.kPower m).getD 48)
  let d := d.requestK (max (d.get F.PWR_GOV_K_POWER) (d.get F.PWR_GOV_K_THERM))
  d.thermal m hot

/-- GOVERNOR. -/
def execGovernor (m : GovernorIn) (s : State) : Host.Outcome State Fault Refusal := onDev (fun d => d.governor m) s

/-- SCI_CAP_STEP: one step of 100 MHz down while the science die draws more than 180 W or reaches the target, else one step up (R374). -/
def Dev.sciCap (d : Dev) (powerW : Nat) (hot : Int) : Dev :=
  let c := d.get F.PWR_SCI_CAP
  d.put F.PWR_SCI_CAP (if 180 < powerW ∨ d.target16 ≤ hot then max 1200 (c - 100) else min 3200 (c + 100))

/-- SCI_CAP_STEP. -/
def execSciCapStep (powerW : Nat) (hot16 : Int) (s : State) : Host.Outcome State Fault Refusal := onDev (fun d => d.sciCap powerW hot16) s

end Sys2Proof.Machine
end

