-- ==== Sys2Proof/Machine/Boot.lean ====
section
/-! DEFINITION. Boot, stage by stage: the copy that boots, the stored configuration, the dies and what they find, the partitions
(R97, R99, R184, R188, R193, R215, R247, R252, R342, R344, R347, R362, R363, R366, R370 to R372, R381, R386, R395). -/

namespace Sys2Proof.Machine

open Sys2Proof

/-! ### The end of boot -/

/-- Boot ends in a state with a reason; a stage failure raises a RAS event that names the stage (R371). -/
def Dev.bootFail (d : Dev) (st reason : Nat) : Dev :=
  (d.puts [(F.PWR_BOOT_STATE, st), (F.PWR_BOOT_REASON, reason)]).raise evRas stOk 0 [d.get F.PWR_BOOT_STAGE]

/-- The next stage starts. -/
def Dev.nextStage (d : Dev) : Dev := d.put F.PWR_BOOT_STAGE (d.get F.PWR_BOOT_STAGE + 1)

/-! ### Stage 1: Sentry (R372, R381, R386) -/

/-- Every cell of a logical fuse is blown. -/
def Vault.blow (v : Vault) (code : Nat) : Vault :=
  if code = 1 then { v with debugFuse := ⟨true, true, true⟩ }
  else if code = 2 then { v with guestFuse := ⟨true, true, true⟩ }
  else v

/-- Intents that are still recorded are completed. -/
def Vault.finishFuses (v : Vault) : Vault := { v.intents.foldl Vault.blow v with intents := [] }

/-- Key slots 1 to 7 are emptied; slot 0 returns to the transport key with every permission and keeps its counter (R386 step 4). -/
def Vault.wipeKeys (v : Vault) : Vault :=
  { v with slot0 := { v.slot0 with key := some Config.transportKey, mask := 0xFFFF }, slots := List.replicate 7 KeySlot.empty, zeroiseBegun := false }

/-- The stored-configuration regions and the last-request store are erased (R386 step 3). -/
def Flash.erase (fl : Flash) : Flash := { fl with newest := none, older := none, lastRequests := [] }

/-- Steps 3 and 4 of a zeroise that flash records as begun. -/
def State.finishZeroise (s : State) : State :=
  if s.vault.zeroiseBegun then { s with vault := s.vault.wipeKeys, flash := s.flash.erase } else s

/-- Does a firmware copy qualify (R372)? -/
def Vault.qualifies (v : Vault) (copy : Nat) : Bool := (v.copy copy).verifies && v.rollback ≤ (v.copy copy).secVersion

/-- The copy that boots: the one named, else the other. -/
def Vault.choose (v : Vault) : Option Nat :=
  if v.qualifies v.bootCopy then some v.bootCopy
  else if v.qualifies (1 - v.bootCopy) then some (1 - v.bootCopy)
  else none

/-- Stage 1; on its way every clock domain locks, but TICKREF while in holdover. -/
def State.bootSentry (s : State) (r : StageResult) : State :=
  let s := s.finishZeroise
  let v := s.vault.finishFuses
  let v := { v with copyA := { v.copyA with verifies := r.copyA }, copyB := { v.copyB with verifies := r.copyB } }
  let s := { s with vault := v }
  let d := s.dev.setLock ((List.range 18).filter fun i => i != 17 || !s.dev.pwr.holdover) true
  match if r.pass then v.choose else none with
  | none => { s with dev := d.bootFail dsRecovery 1 }
  | some c =>
    let d : Dev := { d with ctl := { d.ctl with runningCopy := c } }
    { s with dev := (d.put F.PWR_BOOT_COPY c).nextStage }

/-! ### Stage 2: stored configuration (R362, R363, R366) -/

/-- The value applied in place of one that needs a feature outside the negotiated set (R363). -/
def Dev.applicable (d : Dev) (key : Nat) (v : List Byte) : List Byte :=
  match key with
  | 0x210001 => if d.has ftTickDomain then v else [0#8]
  | 0x230001 => if d.has ftSpares then v else [0#8]
  | 0x260001 => if d.has ftSpill then v else [0#8]
  | 0x260002 => if d.has ftWayPower then v else [0xFF#8]
  | 0x290001 => if d.has ftThermCompat then v else [0#8]
  | 0x290003 => if d.has ftGuest then v else [0#8]
  | _ => v

/-- Objects whose value in force is the one taken at a reset, or under R363. -/
def latchedObjects : List Nat :=
  [0x230001, 0x230004, 0x250001, 0x250002, 0x260001, 0x260002, 0x270001, 0x290001, 0x290003, 0x2D0002, 0x2D0003, 0x2D0004, 0x2D0005,
   0x2D0006, 0x2D0007, 0x2A0005, 0x2E0006]

/-- GTE_RANK from rank `r` on, from U32 words: bit 31 VALID, bits 23:0 the position. -/
def Dev.rankRows : Nat → List Byte → Dev → Dev
  | r, a :: b :: c :: e :: l, d =>
    let w := leNat [a, b, c, e]
    rankRows (r + 1) l (if w = 0 then d else d.puts [(F.GTE_RANK_VALID r, bits w 31 31), (F.GTE_RANK_POS r, bits w 23 0)])
  | _, _, d => d

/-- The rank table object is loaded into GTE_RANK (R277). -/
def Dev.loadRanks (d : Dev) (v : List Byte) : Dev :=
  Dev.rankRows 0 v { d with regs := d.regs.filter fun r => r.1 / 64 < 0x1040000 || 0x1060000 ≤ r.1 / 64 }

/-- Applies the configured value of one stored object at a reset. The tick enable, the partitions and the port enables have their own
times (R57, R344, chapter 13). -/
def Dev.applyStored (fl : Flash) (d : Dev) (key : Nat) : Dev :=
  let v := fl.configured key
  let n := leNat v
  if key = 0x210008 ∨ 0x2D01 ≤ key / 256 ∧ key / 256 ≤ 0x2D08 then d
  else
    let u := d.applicable key v
    let d : Dev := if latchedObjects.contains key then { d with ctl := { d.ctl with applied := Table.set (fun _ => none) d.ctl.applied key (some u) } } else d
    match mirrorOf key with
    | some (f, _) => d.put f (leNat u)
    | none =>
      match key with
      | 0x2A0001 => d.puts [(F.GTE_ID_RANKED, b2n (n != 0xFFFF)), (F.GTE_ID_RANK, n)]
      | 0x2A0004 => d.puts [(F.GTE_PMAP_ALT, n / 2 ^ 32), (F.GTE_PMAP_PRI, n % 2 ^ 32)]
      | 0x2A0009 => (d.setObj key v).loadRanks v
      | 0x2A0006 => (List.range 12).foldl (fun d p => d.put (F.GTE_PORT_CLASS p) (bits n (2 * p + 1) (2 * p))) d
      | _ => d.setObj key v

/-- SCI frequency as PWR_SCI.TARGET takes it: down to 100 MHz, within 1,200 to 3,200. -/
def sciTarget (mhz : Nat) : Nat := min 3200 (max 1200 (mhz / 100 * 100))

/-- Registers that load the value in force of an object at every reset (R93, R151, R152, R374, chapter 16). -/
def Dev.loadRegisters (d : Dev) : Dev :=
  let d := (List.range 400).foldl (fun d c => d.put (F.CLU_SRAM_SETTING c) (d.inForceNat 0x230004)) d
  let d := d.put F.NUM_CTRL_FIC_EVENT (d.inForceNat 0x250001)
  let base := twos 8 (sext 32 (d.inForceNat 0x250002))
  let d := (List.range 400).foldl (fun d c => (List.range 4).foldl (fun d u => d.put (F.NUM_HCTRL_BASE c u) base) d) d
  let d := (List.range 6).foldl (fun d a => d.put (F.ARB_CFG_P3_QUOTA a) (d.inForceNat (0x2D0002 + a))) d
  (d.put F.PWR_SCI_TARGET (sciTarget (d.inForceNat 0x2E0006))).setLimit

/-- Stage 2: the record is loaded, the negotiated set formed before the first stored object is applied. -/
def State.bootConfig (s : State) : State :=
  let fl := s.flash
  let d := s.dev
  let acc := leNat (fl.configured 0x100102) &&& offeredBits
  let d := d.puts [(F.IDF_NEG_BITS 0, acc % 2 ^ 64), (F.IDF_NEG_BITS 1, acc / 2 ^ 64)]
  let d := ((objRows.filter (·.stored)).map ObjRow.key).foldl (Dev.applyStored fl) d
  let d := if d.get F.PWR_RST_CAUSE = 1 then d.put F.DTD_CFG_THERM_COMPAT (d.inForceNat 0x290001) else d
  let d := d.loadRegisters
  let d := match fl.loaded with
    | some r =>
      let flag := if r.entries.all cfgEntryOk then 0 else 2
      ((d.setObj 0x110201 (leBytes 1 flag)).setObj 0x110202 (leBytes 2 1)).setObj 0x110203 (leBytes 4 r.seq)
    | none => (((d.setObj 0x110201 (leBytes 1 1)).setObj 0x110202 (leBytes 2 0)).setObj 0x110203 (leBytes 4 0)).raise evRas stOk 0 []
  let d := if d.ctl.runningCopy = s.vault.bootCopy then d else d.raise evSecurity stOk 0 [d.ctl.runningCopy]
  { s with dev := d.nextStage }

/-! ### Stages 3 to 8: dies, memory, guest site -/

/-- A link trains: its modules take the widths their records give (R244). -/
def Dev.linkTrain (d : Dev) (l : Nat) : Dev :=
  let d := (modulesOf l).foldl (fun d m =>
    let w := d.get (F.DTD_MOD_WIDTH m)
    d.put (F.DTD_MOD_STATE m) (if w = 0 then mdActive else if w = 3 then mdOut else mdDegraded)) d
  let d := d.settleWidths l
  d.put (F.DTD_LINK_STATE l) (if d.stripedOn l = 0 then lkFailed else lkUp)

/-- Several links train. -/
def Dev.linksTrain (d : Dev) (l : List Nat) : Dev := l.foldl Dev.linkTrain d

/-- Stage 6: committed spares load in SPARED with their reserve; a channel that fails its test goes to FAILED (R215). -/
def Dev.bootMemory (fl : Flash) (failed : List Nat) (d : Dev) : Dev :=
  let d := fl.spared.foldl (fun d c =>
    let d : Dev := { d with tier := { d.tier with committed := c :: d.tier.committed } }
    (d.put (F.MEM_STACK_RESERVE (c / 32)) (localChan c)).setChan c csSpared) d
  (failed.filter fun c => !fl.spared.contains c).foldl (fun d c => (d.setChan c csFailed).raise evRas stOk c [c, csFailed]) d

/-- Stage 7: a Ring Road channel that fails goes to FAILED. -/
def Dev.bootRing (failed : List Nat) (d : Dev) : Dev :=
  failed.foldl (fun d r => (d.put (F.MEM_RR_STATE r) csFailed).raise evRas stOk (384 + r) [384 + r, csFailed]) d

/-- Stage 8: the guest site (R15, R247, R381). -/
def Dev.bootGuest (fused fitted : Bool) (d : Dev) : Dev :=
  let d := d.setObj 0x200006 (boolByte fitted)
  if !fitted then d.put F.DTD_GUEST_STATE guEmpty
  else if fused || d.inForceNat 0x290003 = 0 || !d.has ftGuest then d.setGuest guDisabled 0
  else d.setGuest guIsolated 0

/-! ### Stage 9: clusters (R97, R99) -/

/-- Physical clusters that run a logical number on a spare as shipped (R61; notes/assumptions/9.md). -/
def Dev.onSpares (d : Dev) : Bool := (List.range 384).any fun l => d.on (F.CLU_LMAP_VALID l) && 96 ≤ d.get (F.CLU_LMAP_PHYS l) % 100

/-- The committed map is loaded: each physical cluster's state and number follow. -/
def Dev.loadMap (map : List Nat) (out : List Nat) (d : Dev) : Dev :=
  let d := (List.range 400).foldl (fun d c => d.puts [(F.CLU_ID_STATE c, if out.contains c then 3 else 1), (F.CLU_ID_LOGICAL c, 0x1FF)]) d
  let d := map.zipIdx.foldl (fun d e =>
    let phys := e.1 % 2 ^ 15
    let d := d.puts [(F.CLU_LMAP_PHYS e.2, phys), (F.CLU_LMAP_VALID e.2, e.1 / 2 ^ 15)]
    if e.1 / 2 ^ 15 = 1 then d.puts [(F.CLU_ID_STATE phys, 0), (F.CLU_ID_LOGICAL phys, e.2)] else d) d
  d.puts [(F.IDF_ID_CLUSTERS, map.countP fun e => e / 2 ^ 15 == 1), (F.SCH_TRC_SPARES, b2n d.onSpares)]

/-- A cluster that fails its logic self-test at boot: a spare goes to SPARE_FAILED, another cluster's number moves to the lowest spare of
its die, if there is one (DEDUCED, notes/assumptions/23.md). -/
def Dev.bootCluster (d : Dev) (c : Nat) : Dev :=
  if d.get (F.CLU_ID_STATE c) = 1 then d.put (F.CLU_ID_STATE c) 2
  else if d.get (F.CLU_ID_STATE c) ≠ 0 then d
  else
    match d.spareOf c with
    | some new => d.moveCluster (d.get (F.CLU_ID_LOGICAL c)) c new
    | none => d

/-- Working clusters of a die: neither failed nor committed out of use. -/
def workingOn (out failed : List Nat) (n : Nat) : Nat := (natRange (100 * n) 100).countP fun c => !out.contains c && !failed.contains c

/-- Stage 9. -/
def Dev.bootClusters (fl : Flash) (failed : List Nat) (d : Dev) : Dev :=
  let retired := match fl.map with
    | some m => m.any fun e => e / 2 ^ 15 == 0
    | none => false
  if !retired && (List.range 4).any fun n => workingOn fl.outs failed n < 96 then d.bootFail dsFailed 5
  else
    let d := match fl.map with
      | some m => d.loadMap m fl.outs
      | none => d
    let spares := failed.filter fun c => d.get (F.CLU_ID_STATE c) == 1
    ((spares ++ failed.filter fun c => !spares.contains c).foldl Dev.bootCluster d).nextStage

/-! ### Stage 10 -/

/-- The region modes and the scratch groups that the objects in force give (R184, R188, R193). -/
def Dev.bootPlaza (d : Dev) : Dev :=
  let p := d.inForceNat 0x270001
  let g := d.inForceNat 0x260001
  let d := (List.range 248).foldl (fun d k => d.put (F.MEM_REGION_MODE k) (b2n (decide (k < p)))) d
  (List.range 4).foldl (fun d n =>
    let d := d.put (F.PLZ_DCFG_SCR_GROUPS n) g
    let w := d.inForceNat 0x260002 ||| d.scrBits n
    (d.puts [(F.PLZ_WAYS_POWER n, w), (F.PLZ_WSTAT_PWR_ON n, w)]).countWays n) d

/-- A partition is made from its stored record; a record that fails leaves it inactive, with an arbitration event (R347). -/
def Dev.bootPartition (fl : Flash) (d : Dev) (p : Nat) : Dev :=
  let rec_ := leNat (fl.configured (partKey p))
  if bit rec_ 63 then
    match d.partCreate p rec_ with
    | (0, d) => d
    | (st, d) => d.raise evArbitration st p [p, rec_]
  else d.puts (partFields p rec_)

/-- Partitions in ascending order, from none. -/
def Dev.bootPartitions (fl : Flash) (d : Dev) : Dev :=
  let d := (List.range 8).foldl (fun d p =>
    (d.puts (partFields p 0)).puts [(F.ARB_FQ_QUOTA p, leNat (fl.configured (partKey p + 1))), (F.ARB_FQ_USED p, 0)]) d
  (List.range 8).foldl (Dev.bootPartition fl) d

/-- The last stage passes: service state Normal, READY, and the port enables load (chapter 13). -/
def Dev.bootDone (d : Dev) : Dev :=
  let d := d.puts [(F.RAS_CTRL_SVC, 0), (F.NUM_STATUS_SVC, 0), (F.PWR_BOOT_STATE, dsReady), (F.PWR_BOOT_STAGE, 0xF)]
  ((List.range 12).filter fun p => bit (d.inForceNat 0x2A0005) p).foldl Dev.portEnable d

/-! ### The commands -/

/-- A stage that only passes or fails with a reason. -/
def Dev.plainStage (pass : Bool) (reason : Nat) (d : Dev) (f : Dev → Dev) : Dev := if pass then (f d).nextStage else d.bootFail dsFailed reason

/-- A stage from 2 on. -/
def State.bootLater (s : State) (r : StageResult) : State :=
  let onDevice (f : Dev → Dev) : State := { s with dev := f s.dev }
  match s.dev.get F.PWR_BOOT_STAGE with
  | 2 => if r.pass then s.bootConfig else onDevice fun d => d.bootFail dsFailed 7
  | 3 => onDevice fun d => d.plainStage r.pass 2 fun d => d.linksTrain [4, 5, 2, 3, 8, 9, 10, 11]
  | 4 => onDevice fun d => d.plainStage r.pass 2 fun d => d.linksTrain [0, 1]
  | 5 => onDevice fun d => d.plainStage r.pass 2 fun d => d.linksTrain [6, 7]
  | 6 => onDevice fun d => d.plainStage (r.pass && !r.stackFailed) 3 (Dev.bootMemory s.flash (r.failedChannels.map (·.val)))
  | 7 => onDevice fun d => (d.bootRing (r.failedRing.map (·.val))).nextStage
  | 8 => onDevice fun d => (d.bootGuest s.vault.guestFuse.blown r.guestFitted).nextStage
  | 9 => onDevice (Dev.bootClusters s.flash (r.failedClusters.map (·.val)))
  | _ => onDevice fun d => if r.pass then ((d.bootPlaza).bootPartitions s.flash).bootDone else d.bootFail dsFailed 7

/-- BOOT_STAGE: the stage in progress ends; nothing once boot has ended. -/
def State.bootStage (s : State) (r : StageResult) : State :=
  if s.dev.get F.PWR_BOOT_STATE ≠ dsInit then s
  else
    let s := { s with dev := s.dev.put F.PWR_BOOT_ELAPSED (satTo (2 ^ 32 - 1) r.elapsedMs) }
    if s.dev.get F.PWR_BOOT_STAGE = 1 then s.bootSentry r else s.bootLater r

/-- BOOT_STAGE. -/
def execBootStage (r : StageResult) (s : State) : Host.Outcome State Fault Refusal :=
  if s.dev.pwr.pwrgd then .next (s.bootStage r) else .next s

/-- BOOT_STAGE_TIMEOUT: reason 6; in stage 1 nothing but Sentry runs, so the device is in RECOVERY. -/
def execBootStageTimeout (s : State) : Host.Outcome State Fault Refusal :=
  onDev (fun d =>
    if d.get F.PWR_BOOT_STATE ≠ dsInit then d
    else d.bootFail (if d.get F.PWR_BOOT_STAGE = 1 then dsRecovery else dsFailed) 6) s

end Sys2Proof.Machine
end

