-- ==== Sys2Proof/Machine/Debug.lean ====
section
/-! DEFINITION. Group debug: the TGD commands, register writes to a halted group, and what TGD registers read (R116 to R119). -/

namespace Sys2Proof.Machine

open Sys2Proof

/-- May the TGD block be written: the debug unlock has completed and GROUP_DEBUG is negotiated (R116, R363)? -/
def Dev.tgdOpen (d : Dev) : Bool := d.on F.TGD_CTRL_UNLOCKED && d.has ftGroupDebug

/-- The key of the selected group; none where TGD_SEL names no group. -/
def Dev.tgdKey (d : Dev) : Option Nat :=
  if d.get F.TGD_SEL_LOGICAL < 384 ∧ d.get F.TGD_SEL_SLOT < 48 then some (groupKey (d.get F.TGD_SEL_LOGICAL) (d.get F.TGD_SEL_SLOT))
  else none

/-- The selected group. -/
def Dev.tgdGroup (d : Dev) : Option (Nat × Group) :=
  match d.tgdKey with
  | none => none
  | some k => (d.group k).map fun g => (k, g)

/-- A TGD_CMD command: ignored with a register-access event while the block is locked or where the selected group's state does not
allow it (R116, R117). -/
def Dev.tgdCommand (d : Dev) (code : Nat) (allowed : Nat → Bool) (f : Nat → Group → Dev → Dev) : Dev :=
  match d.tgdGroup with
  | some (k, g) => if d.tgdOpen && allowed g.state then (f k g d).debugUpdate else d.refuse F.TGD_CMD_CMD.off code
  | none => d.refuse F.TGD_CMD_CMD.off code

/-- HALT of a group that is RUNNING. -/
def Dev.haltGroup (d : Dev) (k : Nat) (g : Group) : Dev :=
  if g.state = gsRunning then d.setGroup k (some { g with state := gsHaltPending }) else d

/-- RESUME of a HALTED group; after a trap-stop its block ends instead (R117). -/
def Dev.resumeGroup (d : Dev) (k : Nat) (g : Group) : Dev :=
  if g.state ≠ gsHalted then d
  else if g.trap = 0 then d.setGroup k (some { g with state := gsRunning }.settled)
  else
    match d.blockOf g.launch g.block with
    | some b => d.trapEnd b.phys g b g.trap g.trapAddr
    | none => d

/-- HALT as TGD_CMD asks for it. -/
def Dev.tgdHalt (d : Dev) : Dev :=
  d.tgdCommand 1 (· == gsRunning) fun k g d => d.haltGroup k g

/-- TGD_HALT. -/
def execTgdHalt (s : State) : Host.Outcome State Fault Refusal := onDev Dev.tgdHalt s

/-- Has a group reached an instruction boundary: no group-wide matrix operation in progress, no barrier not yet released? -/
def Group.atBoundary (g : Group) : Bool := g.tickets.all (fun t => !t.isOpen) && (g.active &&& g.arrived) == 0

/-- A HALT_PENDING group becomes HALTED at its next instruction boundary (R117, R119). -/
def Dev.groupHalted (d : Dev) (r : GroupRef) : Dev :=
  match d.group (groupKey r.cluster r.slot) with
  | some g =>
    if g.state = gsHaltPending ∧ g.atBoundary then
      (d.setGroup (groupKey r.cluster r.slot) (some { g with state := gsHalted })).debugUpdate
    else d
  | none => d

/-- GROUP_HALTED. -/
def execGroupHalted (g : GroupRef) (s : State) : Host.Outcome State Fault Refusal :=
  onDev (fun d => d.groupHalted g) s

/-- RESUME as TGD_CMD asks for it. -/
def Dev.tgdResume (d : Dev) : Dev :=
  d.tgdCommand 2 (· == gsHalted) fun k g d => d.resumeGroup k g

/-- TGD_RESUME. -/
def execTgdResume (s : State) : Host.Outcome State Fault Refusal := onDev Dev.tgdResume s

/-- STEP: one instruction with the active mask (R117). The trap of a trap-stop is no longer held (notes/assumptions/17.md). -/
def Dev.stepGroup (d : Dev) (k : Nat) (g : Group) : Dev :=
  d.setGroup k (some { g with state := gsStepping, stepped := false, trap := 0, trapAddr := 0 }.settled)

/-- STEP as TGD_CMD asks for it. -/
def Dev.tgdStep (d : Dev) : Dev :=
  d.tgdCommand 3 (· == gsHalted) fun k g d => d.stepGroup k g

/-- TGD_STEP. -/
def execTgdStep (s : State) : Host.Outcome State Fault Refusal := onDev Dev.tgdStep s

/-- A stepped group is HALTED again once its instruction, its whole operation or its barrier has completed (R117). -/
def Dev.stepDone (d : Dev) (r : GroupRef) : Dev :=
  match d.group (groupKey r.cluster r.slot) with
  | some g =>
    if g.state = gsStepping ∧ g.stepped ∧ g.atBoundary then
      (d.setGroup (groupKey r.cluster r.slot) (some { g with state := gsHalted, stepped := false })).debugUpdate
    else d
  | none => d

/-- STEP_DONE. -/
def execStepDone (g : GroupRef) (s : State) : Host.Outcome State Fault Refusal :=
  onDev (fun d => d.stepDone g) s

/-- Runs an operation on every group of the selected group's block. -/
def Dev.blockGroups (d : Dev) (g : Group) (f : Nat → Group → Dev → Dev) : Dev :=
  match d.blockOf g.launch g.block with
  | none => d
  | some b => b.groups.foldl (fun d k => match d.group k with
    | some h => f k h d
    | none => d) d

/-- BLOCK_STOP as TGD_CMD asks for it. -/
def Dev.tgdBlockStop (d : Dev) : Dev :=
  d.tgdCommand 4 (· != gsEmpty) fun _ g d => d.blockGroups g fun k h d => d.haltGroup k h

/-- TGD_BLOCK_STOP. -/
def execTgdBlockStop (s : State) : Host.Outcome State Fault Refusal := onDev Dev.tgdBlockStop s

/-- BLOCK_RESUME as TGD_CMD asks for it. -/
def Dev.tgdBlockResume (d : Dev) : Dev :=
  d.tgdCommand 5 (· != gsEmpty) fun _ g d => d.blockGroups g fun k h d => d.resumeGroup k h

/-- TGD_BLOCK_RESUME. -/
def execTgdBlockResume (s : State) : Host.Outcome State Fault Refusal := onDev Dev.tgdBlockResume s

/-- The place in the stack, which lists the innermost entry first, of entry `n`, counted from the oldest
(notes/assumptions/17.md). -/
def Group.entryAt (g : Group) (n : Nat) : Option Nat := if n < g.stack.length then some (g.stack.length - 1 - n) else none

/-- A written taken mask is also that of the path still to run, where the entry has one. -/
def Reconv.setMasks (e : Reconv) (v : Nat) : Reconv :=
  { e with taken := v / 2 ^ 32 % 2 ^ 32, saved := v % 2 ^ 32,
           paths := match e.paths with
             | [p] => [{ p with mask := v / 2 ^ 32 % 2 ^ 32 }]
             | l => l }

/-- Writes a stack entry: below 32 its address, from 32 to 63 its masks. -/
def Group.setEntry (g : Group) (i v : Nat) : Group :=
  match g.entryAt (i % 32) with
  | none => g
  | some j =>
    if 64 ≤ i then g
    else
      { g with stack := g.stack.mapIdx fun n e =>
          if n ≠ j then e else if i < 32 then { e with addr := v % 2 ^ 56 } else e.setMasks v }

/-- TGD_RDATA: the selected register of a HALTED group; a selector that names nothing ignores the write (R118). -/
def Dev.tgdSetData (d : Dev) (k : Nat) (g : Group) (v : Nat) : Dev :=
  let i := d.get F.TGD_RSEL_INDEX
  match d.get F.TGD_RSEL_SPACE with
  | 0 => if i < g.regs then d.setVreg k (d.get F.TGD_RSEL_THREAD) i v else d
  | 1 => if i < 64 then d.setUreg k i v else d
  | 2 => d.setGroup k (some (g.setEntry i v))
  | _ => d

/-- A write to TGD_PC, TGD_MASK or TGD_RDATA of the selected group: only while it is HALTED, otherwise ignored with a register-access
event (R116, R118). -/
def Dev.tgdGroupWrite (d : Dev) (off v : Nat) (f : Nat → Group → Dev → Dev) : Dev :=
  match d.tgdGroup with
  | some (k, g) => if d.tgdOpen && g.state == gsHalted then f k g d else d.refuse off v
  | none => d.refuse off v

/-- TGD_RDATA. -/
def Dev.tgdDataWrite (d : Dev) (v : Nat) : Dev := d.tgdGroupWrite F.TGD_RDATA_DATA.off v fun k g d => d.tgdSetData k g v

/-- TGD_RDATA_WRITE. -/
def execTgdRdataWrite (value : Word) (s : State) : Host.Outcome State Fault Refusal := onDev (fun d => d.tgdDataWrite value.toNat) s

/-- TGD_PC: the instruction address of the selected group. -/
def Dev.tgdPcWrite (d : Dev) (v : Nat) : Dev :=
  d.tgdGroupWrite F.TGD_PC_PC.off v fun k g d => d.setGroup k (some { g with pc := v % 2 ^ 56 })

/-- TGD_MASK: the active mask, cut to the live mask. -/
def Dev.tgdMaskWrite (d : Dev) (v : Nat) : Dev :=
  d.tgdGroupWrite F.TGD_MASK_ACTIVE.off v fun k g d => d.setGroup k (some { g with active := v % 2 ^ 32 &&& g.live })

/-- What TGD_RDATA reads of a group. -/
def Dev.tgdData (d : Dev) (k : Nat) (g : Group) : Nat :=
  let i := d.get F.TGD_RSEL_INDEX
  match d.get F.TGD_RSEL_SPACE with
  | 0 => if i < g.regs then d.vreg k g (d.get F.TGD_RSEL_THREAD) i else 0
  | 1 => if i < 64 then d.ureg k g i else 0
  | 2 =>
    match if i < 64 then (g.entryAt (i % 32)).bind fun j => g.stack[j]? else none with
    | none => 0
    | some e => if i < 32 then e.addr % 2 ^ 56 else e.taken * 2 ^ 32 + e.saved
  | _ => 0

/-- What TGD_STATE, TGD_PC, TGD_MASK and TGD_RDATA read: reset values while the block is locked, otherwise the selected group's (R116,
R118). -/
def Dev.tgdRead (d : Dev) (off : Nat) : Nat :=
  match d.tgdGroup with
  | none => 0
  | some (k, g) =>
    if !d.tgdOpen then 0
    else if off = F.TGD_STATE_STATE.off then
      g.trap * 2 ^ 56 + g.stack.length * 2 ^ 48 + g.block * 2 ^ 16 + g.index * 2 ^ 11 + g.sched * 2 ^ 9 + g.state
    else if off = F.TGD_PC_PC.off then g.pc
    else if off = F.TGD_MASK_LIVE.off then g.live * 2 ^ 32 + g.active
    else if off = F.TGD_RDATA_DATA.off then d.tgdData k g
    else 0

end Sys2Proof.Machine
end

