-- ==== Sys2Proof/Machine/Security.lean ====
section
/-! DEFINITION. Resets of the whole device, zeroise, firmware, fuses, keys, lists, quotes, the service state and the debug unlock
(R18, R20, R369 to R371, R379 to R387, R395, R397). -/

namespace Sys2Proof.Machine

open Sys2Proof

/-! ### Resets (R369, R370, R386) -/

/-- PWR_RST.CAUSE of a whole-device reset and of a zeroise. -/
def rcWhole : Nat := 2
def rcZeroise : Nat := 3

/-- A whole-device reset: transmitters stop, the PCIe link goes down, boot starts again from stage 1; a device in holdover holds CLOCK
again (R18). -/
def State.wholeReset (s : State) (cause : Nat) : State :=
  let d := (s.dev.stopGates.emit .linkDown).rebooted rwsFields
  let d := (d.bump (if cause = rcZeroise then F.PWR_RST_ZEROISE else F.PWR_RST_WHOLE) 1).put F.PWR_RST_CAUSE cause
  { s with vault := s.vault.abandonLeaves, dev := if d.pwr.holdover then d.assertHold hcClock else d }

/-- A zeroise erases stored configuration, the last-request store and the keys, then a whole-device reset runs (R386). -/
def State.zeroiseNow (s : State) : State := ({ s with vault := s.vault.wipeKeys, flash := s.flash.erase } : State).wholeReset rcZeroise

/-- The reset that an accepted write asked for, once its response is sent. -/
def State.runReset (s : State) : State :=
  let c := s.dev.ctl.resetDue
  let s := { s with dev := { s.dev with ctl := { s.dev.ctl with resetDue := 0 } } }
  if c = rcWhole then s.wholeReset rcWhole else if c = rcZeroise then s.zeroiseNow else s

/-- Asks for a reset after the response. -/
def State.askReset (s : State) (cause : Nat) : State := { s with dev := { s.dev with ctl := { s.dev.ctl with resetDue := cause } } }

/-- The rule of object 0x2E01.01: PERM while a segmented write of firmware is open (R370). -/
def resetRule (v : Bool) (s : State) : Nat × State :=
  if !v then (stOk, s)
  else if s.dev.ctl.open_.any fun w => w.key == 0x510001 then (stPerm, s)
  else (stOk, s.askReset rcWhole)

/-- The rule of object 0x5400.01. -/
def zeroiseRule (v : Bool) (s : State) : Nat × State := (stOk, if v then s.askReset rcZeroise else s)

/-- Runs a command that is a write of an AUTH object and may start a reset. -/
def onAuthReset (a : Auth) (key : Nat) (value : List Byte) (rules : State → Nat × State) (s : State) : Host.Outcome State Fault Refusal :=
  if s.dev.pwr.pwrgd && s.dev.serves key && s.dev.carries a.source then .next (lopWrite true (authReq a key value) rules s).runReset else .next s

/-- WHOLE_DEVICE_RESET. -/
def execWholeDeviceReset (auth : Auth) (s : State) : Host.Outcome State Fault Refusal :=
  onAuthReset auth 0x2E0101 (boolByte true) (resetRule true) s

/-- ZEROISE. -/
def execZeroise (auth : Auth) (s : State) : Host.Outcome State Fault Refusal :=
  onAuthReset auth 0x540001 (boolByte true) (zeroiseRule true) s

/-! ### Firmware (R20, R371, R372, R379, R380) -/

/-- The copy an image is written to: the one not in use; in RECOVERY, where none runs, the one named to boot. -/
def State.spareCopy (s : State) : Nat :=
  if s.dev.get F.PWR_BOOT_STATE = dsRecovery then s.vault.bootCopy else 1 - s.dev.ctl.runningCopy

/-- The longest firmware image. -/
def firmwareMax : Nat := 33554432

/-- The rule of object 0x5100.01; in RECOVERY the device reboots from the image. -/
def firmwareRule (im : FirmwareIn) (s : State) : Nat × State :=
  if s.dev.pwr.flashWp then (stPerm, s)
  else if firmwareMax < im.bytes.length then (stBounds, s)
  else if !im.sigs.ecdsa || !im.sigs.lms then (stAuthFail, s)
  else if im.secVersion < s.vault.rollback then (stPerm, s)
  else
    let f : Firmware := ⟨im.version, im.secVersion, sha384 im.bytes, true⟩
    let v := if s.spareCopy = 0 then { s.vault with copyA := f } else { s.vault with copyB := f }
    let d := s.dev
    let d := if d.get F.PWR_BOOT_STATE = dsRecovery then
        d.puts [(F.PWR_BOOT_STATE, dsInit), (F.PWR_BOOT_STAGE, 1), (F.PWR_BOOT_REASON, 0)]
      else d
    (stOk, { s with vault := v, dev := d })

/-- FIRMWARE_UPDATE. -/
def execFirmwareUpdate (auth : Auth) (image : FirmwareIn) (s : State) : Host.Outcome State Fault Refusal :=
  onAuth auth 0x510001 image.bytes (firmwareRule image) s

/-- The rule of object 0x5100.02. -/
def bootCopyRule (v : Nat) (s : State) : Nat × State :=
  if s.dev.pwr.flashWp then (stPerm, s) else (stOk, { s with vault := { s.vault with bootCopy := v % 2 } })

/-- The rule of object 0x5100.04. -/
def rollbackRule (v : Bool) (s : State) : Nat × State :=
  if !v then (stOk, s)
  else if !s.dev.ready then (stPerm, s)
  else (stOk, { s with vault := { s.vault with rollback := max s.vault.rollback (s.vault.copy s.dev.ctl.runningCopy).secVersion } })

/-- COMMIT_ROLLBACK. -/
def execCommitRollback (auth : Auth) (s : State) : Host.Outcome State Fault Refusal :=
  onAuth auth 0x510004 (boolByte true) (rollbackRule true) s

/-! ### Keys and fuses (R360, R381, R382) -/

/-- The rule of object 0x5200.01 for a command from slot `issuer`. -/
def keyRule (issuer : Nat) (b : List Byte) (s : State) : Nat × State :=
  let target := (b.getD 0 0#8).toNat
  let mask := leNat ((b.drop 2).take 2)
  let key := b.drop 8
  let own := (s.vault.slot issuer).mask
  if b.length ≠ 56 then (stBounds, s)
  else if b.getD 1 0#8 != 0#8 || ((b.drop 4).take 4).any (· != 0#8) || mask / 2 ^ 9 != 0 then (stFeature, s)
  else if 7 < target then (stBounds, s)
  else if mask &&& own != mask then (stPerm, s)
  else if key.all (· == 0#8) then
    if target = 0 then (stPerm, s)
    else (stOk, { s with vault := s.vault.setSlot target { s.vault.slot target with key := none, mask := 0, failures := 0 } })
  else if target = 0 ∧ !bit mask 1 then (stPerm, s)
  else (stOk, { s with vault := s.vault.setSlot target ⟨some key, mask, 0, 0, false⟩ })

/-- KEY_CHANGE. -/
def execKeyChange (auth : Auth) (value : List Byte) (s : State) : Host.Outcome State Fault Refusal :=
  onAuth auth 0x520001 value (keyRule auth.slot value) s

/-- The rule of object 0x5300.01: the intent is recorded, the cells are blown, the intent is cleared. -/
def fuseRule (code : Nat) (s : State) : Nat × State :=
  if code = 1 ∨ code = 2 then (stOk, { s with vault := s.vault.blow code }) else (stBounds, s)

/-- FUSE_WRITE. -/
def execFuseWrite (auth : Auth) (code : Nat) (s : State) : Host.Outcome State Fault Refusal :=
  onAuth auth 0x530001 (leBytes 1 code) (fuseRule code) s

/-! ### Signed lists (R20, R385) -/

/-- The checks of a signed list that replaces one with sequence number `old`. -/
def listStatus (sigs : Sigs) (seq old : Nat) (list : List Byte) (s : State) : Nat :=
  if s.dev.pwr.flashWp then stPerm
  else if 65536 < list.length then stBounds
  else if !sigs.ecdsa || !sigs.lms then stAuthFail
  else if seq ≤ old then stPerm
  else stOk

/-- The rule of object 0x5002.01. -/
def revocationRule (sigs : Sigs) (seq : Nat) (list : List Byte) (s : State) : Nat × State :=
  let st := listStatus sigs seq s.vault.revocationSeq list s
  (st, if st = stOk then { s with vault := { s.vault with revocation := list, revocationSeq := seq } } else s)

/-- REVOCATION_LIST_WRITE. -/
def execRevocationListWrite (auth : Auth) (sigs : Sigs) (seq : Nat) (list : List Byte) (s : State) : Host.Outcome State Fault Refusal :=
  onAuth auth 0x500201 list (revocationRule sigs seq list) s

/-- The rule of object 0x5003.01. -/
def partnerRule (sigs : Sigs) (seq : Nat) (partners : List PartnerRow) (list : List Byte) (s : State) : Nat × State :=
  let st := listStatus sigs seq s.vault.partnerSeq list s
  (st, if st = stOk then { s with vault := { s.vault with partners := partners, partnerList := list, partnerSeq := seq } } else s)

/-- PARTNER_KEY_LIST_WRITE. -/
def execPartnerKeyListWrite (auth : Auth) (sigs : Sigs) (seq : Nat) (partners : List PartnerRow) (list : List Byte) (s : State) :
    Host.Outcome State Fault Refusal :=
  onAuth auth 0x500301 list (partnerRule sigs seq partners list) s

/-! ### Quotes (R365, R384) -/

/-- An entry of a stored-configuration record. -/
def cfgEntryBytes (e : Nat × List Byte) : List Byte :=
  let type := ((objRow e.1).map fun o => o.type.code).getD 7
  leBytes 2 (e.1 / 256) ++ leBytes 1 e.1 ++ leBytes 1 type ++ leBytes 2 e.2.length ++ leBytes 2 0
    ++ e.2 ++ List.replicate ((8 - e.2.length % 8) % 8) 0#8

/-- A stored-configuration record as its bytes (R365). -/
def CfgRecord.bytes (r : CfgRecord) : List Byte :=
  let body := r.entries.flatMap cfgEntryBytes
  let b := leBytes 4 0x4C534346 ++ leBytes 2 r.version ++ leBytes 2 0 ++ leBytes 4 r.seq ++ leBytes 4 body.length ++ body
  b ++ leBytes 4 (crc32c b) ++ leBytes 4 (r.seq ^^^ 0xFFFFFFFF)

/-- The bytes of the record in force; none where the defaults loaded. -/
def Flash.recordBytes (fl : Flash) : List Byte := (fl.loaded.map CfgRecord.bytes).getD []

/-- What the evidence of a quote holds (R384). -/
def State.quoteBody (s : State) (nonce : List Byte) : List Byte :=
  let f := s.vault.copy s.dev.ctl.runningCopy
  nonce ++ fitBytes 16 Config.serial ++ fitBytes 48 f.digest ++ leBytes 1 f.secVersion ++ leBytes 1 s.vault.rollback
    ++ leBytes 8 (s.dev.get (F.IDF_NEG_BITS 0)) ++ leBytes 8 (s.dev.get (F.IDF_NEG_BITS 1)) ++ leBytes 1 (s.dev.get F.PWR_BOOT_STATE)
    ++ sha384 s.flash.recordBytes

/-- Signs the evidence and keeps it in 0x5004.02; none without a nonce. -/
def State.makeQuote (s : State) : Option State :=
  s.dev.ctl.quoteNonce.map fun n =>
    let body := s.quoteBody n
    { s with
      vault := { s.vault with leavesUsed := s.vault.leavesUsed + 1 }
      dev := s.dev.setObj 0x500402 (body ++ Config.sign s.vault.leavesUsed body) }

/-- The rule of object 0x5004.01. -/
def nonceRule (b : List Byte) (s : State) : Nat × State :=
  if b.length ≠ 48 then (stBounds, s)
  else (stOk, { s with dev := { s.dev with ctl := { s.dev.ctl with quoteNonce := some b } } })

/-- QUOTE_NONCE. -/
def execQuoteNonce (source reqId : Nat) (nonce : List Byte) (s : State) : Host.Outcome State Fault Refusal :=
  onPlain source reqId 0x500401 nonce (nonceRule nonce) s

/-- A read request without a trailer. -/
def readReq (source reqId op key : Nat) : LopReq := ⟨source, reqId, op, key, [], none, 0, none⟩

/-- A segment of a value from an offset: at most 1,400 B, with LAST where it reaches the end (R355). -/
def segReply (r : LopReq) (v : List Byte) (offset : Nat) : List Byte :=
  responseFrame none r stOk ((v.drop offset).take 1400) (b2n (decide (v.length ≤ offset + 1400))) offset

/-- QUOTE: a read of 0x5004.02 from its start. -/
def State.quoteRead (s : State) (source reqId : Nat) : State :=
  let r := readReq source reqId 3 0x500402
  match s.makeQuote with
  | none => { s with dev := s.dev.reply source (responseFrame none r stBounds [] 0 0) }
  | some s => { s with dev := s.dev.reply source (segReply r (s.dev.obj 0x500402) 0) }

/-- QUOTE. -/
def execQuote (source reqId : Nat) (s : State) : Host.Outcome State Fault Refusal :=
  if s.dev.pwr.pwrgd && s.dev.serves 0x500402 && s.dev.carries source then .next (s.quoteRead source reqId) else .next s

/-! ### Service state and debug (R395, R397) -/

/-- The service state is set. -/
def Dev.setService (d : Dev) (v : Nat) : Dev := d.puts [(F.RAS_CTRL_SVC, v), (F.NUM_STATUS_SVC, v)]

/-- A register write of RAS_CTRL.SVC. -/
def Dev.serviceWrite (d : Dev) (v : Nat) : Dev := if d.ready then d.setService v else d.refuse F.RAS_CTRL_SVC.off v

/-- SERVICE_STATE_WRITE. -/
def execServiceStateWrite (diagnostic : Bool) (s : State) : Host.Outcome State Fault Refusal :=
  onDev (fun d => d.serviceWrite (b2n diagnostic)) s

/-- The debug unlock. -/
def unlockRule (s : State) : Nat × State :=
  if s.vault.debugFuse.blown then (stPerm, s)
  else (stOk, { s with dev := (s.dev.put F.TGD_CTRL_UNLOCKED 1).raise evSecurity stOk 0 [] })

/-- The lock: groups that are HALTED are resumed first. -/
def Dev.debugLock (d : Dev) : Dev :=
  let d := (d.clus.groups.map (·.1)).foldl (fun d k => match d.group k with
    | some g => d.resumeGroup k g
    | none => d) d
  (d.debugUpdate.put F.TGD_CTRL_UNLOCKED 0).raise evSecurity stOk 0 []

/-- The rule of a lock. -/
def lockRule (s : State) : Nat × State := (stOk, { s with dev := s.dev.debugLock })

/-- DEBUG_UNLOCK. -/
def execDebugUnlock (auth : Auth) (s : State) : Host.Outcome State Fault Refusal := onAuth auth 0x2F0101 (boolByte true) unlockRule s

/-- DEBUG_LOCK. -/
def execDebugLock (auth : Auth) (s : State) : Host.Outcome State Fault Refusal := onAuth auth 0x2F0101 (boolByte false) lockRule s

end Sys2Proof.Machine
end

