-- ==== Sys2Proof/Machine/Control.lean ====
section
/-! DEFINITION. The object protocol: frames, reads, the rules of every writable object, segmented writes, the mailbox, the feature vector,
restore defaults, expiries (R9, R10, R20, R57, R183, R188, R216, R269, R277, R347 to R368, R395). -/

namespace Sys2Proof.Machine

open Sys2Proof

/-! ### Frames (R354) -/

/-- A frame's header fields, its data and its trailer. -/
structure LopFrame where
  op : Nat
  reqId : Nat
  key : Nat
  flags : Nat
  status : Nat
  res : Nat
  length : Nat
  offset : Nat
  data : List Byte
  tail : List Byte
  deriving DecidableEq, Repr

/-- Reads a frame; none where it is discarded in silence: wrong MAGIC or VERSION, a size that disagrees, longer than 1,452 B. -/
def readFrame (b : List Byte) : Option LopFrame :=
  let flags := fieldAt b 0x0B 1
  let length := fieldAt b 0x0E 2
  let tail := if bit flags 1 then 32 else 0
  if b.length < 20 ∨ 1452 < b.length ∨ fieldAt b 0 2 ≠ 0x4C50 ∨ fieldAt b 2 1 ≠ 1 ∨ b.length ≠ 20 + length + tail then none
  else some ⟨fieldAt b 3 1, fieldAt b 4 4, fieldAt b 8 2 * 256 + fieldAt b 0x0A 1, flags, fieldAt b 0x0C 1, fieldAt b 0x0D 1, length,
    fieldAt b 0x10 4, (b.drop 20).take length, b.drop (20 + length)⟩

/-- Is a reserved OP, a reserved value or a nonzero reserved field in a frame? Only the segment with LAST carries a trailer (R358). -/
def LopFrame.reserved (f : LopFrame) : Bool :=
  f.op == 0 || 4 < f.op || 4 ≤ f.flags || f.status != 0 || f.res != 0 || (f.op != 2 && 1400 < f.length) || (f.op < 3 && f.offset != 0)
    || (f.op == 4 && bit f.flags 1 && !bit f.flags 0)

/-- The trailer of a frame: none where it has none, else whether its reserved bytes are 0 and its slot exists, and what it says. -/
def LopFrame.auth (f : LopFrame) (source : Nat) : Option (Bool × Auth) :=
  if bit f.flags 1 then
    let slot := fieldAt f.tail 0 1
    some (decide (slot < 8) && fieldAt f.tail 1 7 == 0,
      ⟨source, f.reqId, Fin.ofNat 8 slot, fieldAt f.tail 8 8, (f.tail.drop 16).take 16⟩)
  else none

/-! ### Objects that exist (R10) -/

/-- The object that a status mirror mirrors; another object itself. -/
def originKey (key : Nat) : Nat := if 0x3000 ≤ key / 256 ∧ key / 256 ≤ 0x3FFF then key - 0x100000 else key

/-- The value in force of an object of index 0x2xxx, which its status mirror reads (R350). -/
def forceValue (s : State) (key : Nat) : List Byte :=
  let d := s.dev
  match key with
  | 0x250001 => leBytes 1 (d.get F.NUM_CTRL_FIC_EVENT)
  | 0x290001 => leBytes 1 (d.get F.DTD_CFG_THERM_COMPAT)
  | 0x2E0006 => leBytes 2 (d.get F.PWR_SCI_TARGET)
  | _ =>
    if 0x2D0002 ≤ key ∧ key ≤ 0x2D0007 then leBytes 2 (d.get (F.ARB_CFG_P3_QUOTA (key - 0x2D0002)))
    else
      match Table.get (fun _ => none) d.ctl.applied key with
      | some v => v
      | none => objValue s.vault s.flash d key

/-- Reading an object: the status and the value. -/
def State.readObject (s : State) (key : Nat) : Nat × List Byte :=
  let k := originKey key
  if k % 256 = 0 then
    match highestSub (k / 256) with
    | some n => (stOk, leBytes 1 n)
    | none => (stBounds, [])
  else
    match objRow k with
    | none => (stBounds, [])
    | some o =>
      if k ≠ key then (stOk, forceValue s k)
      else if o.acc == .wo || key == 0x510001 || key == 0x520001 then (stPerm, [])
      else (stOk, objValue s.vault s.flash s.dev key)

/-! ### Reads (R355, R384) -/

/-- A read of the quote signs new evidence at its start; its later segments read what was signed. -/
def State.refreshQuote (s : State) (key offset : Nat) : Nat × State :=
  if key ≠ 0x500402 then (stOk, s)
  else if offset ≠ 0 then (if s.dev.ctl.quoteNonce.isSome then stOk else stBounds, s)
  else
    match s.makeQuote with
    | some s => (stOk, s)
    | none => (stBounds, s)

/-- Sends a response without data. -/
def State.respond (s : State) (r : LopReq) (status : Nat) : State :=
  { s with dev := s.dev.reply r.source (responseFrame none r status [] 0 r.offset) }

/-- READ returns the whole value, at most 1,400 B; READ_SEG a segment of it. -/
def State.serveRead (s : State) (r : LopReq) (seg : Bool) : State :=
  let x := s.refreshQuote r.key r.offset
  if x.1 ≠ stOk then x.2.respond r x.1
  else
    let s := x.2
    let v := s.readObject r.key
    if v.1 ≠ stOk then s.respond r v.1
    else if seg then
      if v.2.length < r.offset then s.respond r stBounds
      else { s with dev := s.dev.reply r.source (segReply r v.2 r.offset) }
    else if 1400 < v.2.length then s.respond r stBounds
    else { s with dev := s.dev.reply r.source (responseFrame none r stOk v.2 0 0) }

/-! ### Rules of single objects -/

/-- Tick fields that change only in OFF or PARKED (R57). -/
def Dev.tickOpen (d : Dev) : Bool := d.tickState == tsOff || d.tickState == tsParked

/-- A tick field's rule. -/
def tickFieldRule (f : Fld) (v : Nat) (d : Dev) : Nat × Dev := if d.tickOpen then (stOk, d.put f v) else (stPerm, d)

/-- The rule of object 0x2100.01: roles 1 and 2 need TICK_DOMAIN. -/
def roleRule (v : Nat) (d : Dev) : Nat × Dev := if v ≠ 0 ∧ !d.has ftTickDomain then (stFeature, d) else tickFieldRule F.TCK_CTRL_ROLE v d

/-- The rule of object 0x2400.05. -/
def trapStopRule (v : Nat) (d : Dev) : Nat × Dev :=
  if v ≠ 0 ∧ !d.has ftGroupDebug then (stFeature, d)
  else if !d.on F.TGD_CTRL_UNLOCKED then (stPerm, d)
  else (stOk, d.put F.TGD_CTRL_TRAP_STOP v)

/-- Position and sizes stay while a port is ATTESTING or UP (R277). -/
def Dev.posFixed (d : Dev) : Bool := (List.range 12).any fun p => d.portState p == psAttesting || d.portState p == psUp

/-- The rule of objects 0x2A00.02 and .03. -/
def positionRule (f : Fld) (v : Nat) (d : Dev) : Nat × Dev := if d.posFixed then (stPerm, d) else (stOk, d.put f v)

/-- May a port's CLASS, PIN and EXPECT be written (chapter 13)? -/
def Dev.portFree (d : Dev) (p : Nat) : Bool := d.portState p == psDisabled || d.portState p == psDown || d.portState p == psRejected

/-- The rule of object 0x2A00.06: no class 3 (R253), and a port keeps its class outside DISABLED, DOWN and REJECTED. -/
def classRule (v : Nat) (d : Dev) : Nat × Dev :=
  let cls (p : Nat) : Nat := bits v (2 * p + 1) (2 * p)
  if (List.range 12).any fun p => cls p == 3 then (stBounds, d)
  else if (List.range 12).any fun p => cls p != d.get (F.GTE_PORT_CLASS p) && !d.portFree p then (stPerm, d)
  else (stOk, (List.range 12).foldl (fun d p => d.put (F.GTE_PORT_CLASS p) (cls p)) d)

/-- The feature that an object's value needs (R363). -/
def needs (key v : Nat) : Option Nat :=
  match key with
  | 0x230001 => if v = 1 then some ftSpares else none
  | 0x260001 => if v ≠ 0 then some ftSpill else none
  | 0x260002 => if v ≠ 0xFF then some ftWayPower else none
  | 0x290001 => if v = 1 then some ftThermCompat else none
  | 0x290003 => if v = 1 then some ftGuest else none
  | _ => none

/-- An object that is held as written; the automatic swap is in force at once. -/
def heldRule (key : Nat) (v : List Byte) (d : Dev) : Nat × Dev :=
  match needs key (leNat v) with
  | some f => if d.has f then (stOk, keep d) else (stFeature, d)
  | none => (stOk, keep d)
where
  keep (d : Dev) : Dev :=
    let d := d.setObj key v
    if key = 0x230001 then { d with ctl := { d.ctl with applied := Table.set (fun _ => none) d.ctl.applied key (some v) } }
    else if key = 0x2E0004 then d.setLimit
    else d

/-- The rule of object 0x1001.02 (R362). -/
def featureRule (v : Nat) (d : Dev) : Nat × Dev :=
  let mandatory := 3
  let cleared := d.negotiated &&& (d.negotiated ^^^ (v &&& d.negotiated))
  let still := d.host.queues.isEmpty && !((List.range 8).any fun p => (d.part p).staged.isSome || (d.part p).running.isSome) && !d.posFixed
  if v &&& offeredBits ≠ v ∨ v &&& mandatory ≠ mandatory then (stFeature, d)
  else if cleared ≠ 0 ∧ !still then (stPerm, d)
  else
    let d := d.setObj 0x100102 (leBytes 16 v)
    (stOk, d.puts [(F.IDF_NEG_BITS 0, v % 2 ^ 64), (F.IDF_NEG_BITS 1, v / 2 ^ 64)])

/-- ALERT# is asserted while CFG_DEFAULTED stands (R366). No NOTIFY is held for the I3C controller (R352; notes/assumptions/14.md). -/
def Dev.alert (d : Dev) : Bool := bit (d.objNat 0x110201) 0

/-- The rule of object 0x1102.01: a 1 clears a flag. -/
def flagsRule (v : Nat) (d : Dev) : Nat × Dev :=
  let f := d.objNat 0x110201
  (stOk, d.setObj 0x110201 (leBytes 1 (f - (f &&& v))))

/-- Every stored object with its factory default. -/
def factoryEntries : Table (List Byte) := (objRows.filter (·.stored)).foldl (fun t o => Table.ins t o.key o.deflt) []

/-- The rule of object 0x1102.04: a record of factory defaults is laid (R20, R367). -/
def defaultsRule (v : Bool) (s : State) : Nat × State :=
  if s.dev.pwr.flashWp then (stPerm, s)
  else if !v then (stOk, s)
  else
    let fl := s.flash.lay factoryEntries
    (stOk, { s with flash := fl, dev := s.dev.setObj 0x110203 (leBytes 4 fl.seq) })

/-- The rule of object 0x2600.02: PERM while a die's ways are being cleaned or powered up (R183). -/
def waysRule (v : List Byte) (d : Dev) : Nat × Dev :=
  if (List.range 4).any fun n => d.get (F.PLZ_WSTAT_STATE n) != wsIdle then (stPerm, d) else heldRule 0x260002 v d

/-- The rule of object 0x2F00.01 (R395). -/
def serviceRule (v : Nat) (d : Dev) : Nat × Dev := if d.ready then (stOk, d.setService v) else (stPerm, d)

/-- The rule of object 0x2100.08: ENABLE is set with the distribution tree last in force, or cleared. -/
def enableRule (v : Nat) (d : Dev) : Nat × Dev := (stOk, if v = 1 then d.tickOn d.tick.tree else d.tickClear)

/-- The rule of object 0x2700.07. -/
def channelRule (v : Nat) (s : State) : Nat × State := if v < 0x8000 then spareCommitRules v s else spareReleaseRules (v - 0x8000) s

/-- The firmware image that Sentry reads in written bytes. -/
def firmwareOf (b : List Byte) : FirmwareIn :=
  let h := Config.firmwareHead b
  ⟨b, h.1, h.2.1, ⟨h.2.2.1, h.2.2.2⟩⟩

/-- The signatures of a written list. -/
def listSigs (b : List Byte) : Sigs := ⟨(Config.listHead b).2.1, (Config.listHead b).2.2⟩

/-- The rule of a write of an object (R349, R360 step 9), its length and range being right, from a slot if it is authenticated. -/
def objRule (slot : Nat) (key : Nat) (b : List Byte) : State → Nat × State :=
  let v := leNat b
  match key with
  | 0x100102 => devRules (featureRule v)
  | 0x110201 => devRules (flagsRule v)
  | 0x110204 => defaultsRule (v == 1)
  | 0x210001 => devRules (roleRule v)
  | 0x210002 => devRules (tickFieldRule F.TCK_CTRL_DOMAIN v)
  | 0x210003 => devRules (tickFieldRule F.TCK_CTRL_MASTER_RANK v)
  | 0x210005 => devRules fun d => (stOk, d.put F.TCK_CTRL_LEN_PEND v)
  | 0x210007 => devRules (tickFieldRule F.TCK_CTRL_PORTS v)
  | 0x210008 => devRules (enableRule v)
  | 0x230007 => devRules fun d => d.retireRule v
  | 0x230008 => mapRule (v == 1)
  | 0x240005 => devRules (trapStopRule v)
  | 0x260002 => devRules (waysRule b)
  | 0x270005 => recordRules b
  | 0x270006 => commitRules (v == 1)
  | 0x270007 => channelRule v
  | 0x2A0001 => rankRule v
  | 0x2A0002 => devRules (positionRule F.GTE_ID_POS v)
  | 0x2A0003 => devRules (positionRule F.GTE_TOPO_SIZE v)
  | 0x2A0004 => devRules fun d => (stOk, d.puts [(F.GTE_PMAP_ALT, v / 2 ^ 32), (F.GTE_PMAP_PRI, v % 2 ^ 32)])
  | 0x2A0006 => devRules (classRule v)
  | 0x2A0009 => devRules fun d => (stOk, (d.setObj key b).loadRanks b)
  | 0x2E0101 => resetRule (v == 1)
  | 0x2F0001 => devRules (serviceRule v)
  | 0x2F0101 => if v = 1 then unlockRule else lockRule
  | 0x500201 => revocationRule (listSigs b) (Config.listHead b).1 b
  | 0x500301 => partnerRule (listSigs b) (Config.listHead b).1 ((Config.listPartners b).map fun x => ⟨x.1, x.2⟩) b
  | 0x500401 => nonceRule b
  | 0x510001 => firmwareRule (firmwareOf b)
  | 0x510002 => bootCopyRule v
  | 0x510004 => rollbackRule (v == 1)
  | 0x520001 => keyRule slot b
  | 0x530001 => fuseRule v
  | 0x540001 => zeroiseRule (v == 1)
  | _ =>
    if 0x2D01 ≤ key / 256 ∧ key / 256 ≤ 0x2D08 then
      let p := key / 256 - 0x2D01
      if key % 256 = 1 then devRules fun d => d.partWrite p v else devRules fun d => d.quotaWrite p v
    else devRules (heldRule key b)

/-- Step 9 of R360 for a write of an object. -/
def stepNine (slot : Nat) (o : ObjRow) (b : List Byte) (s : State) : Nat × State :=
  if o.stored then storedRules o.key b (objRule slot o.key b) s
  else if s.dev.pwr.flashWp && [0x510001, 0x510002, 0x110204, 0x500201, 0x500301].contains o.key then (stPerm, s)
  else if !o.valueOk b then (stBounds, s)
  else objRule slot o.key b s

/-! ### Writes (R356, R360) -/

/-- Steps 1 and 2 of R360 for an object: the row it writes. -/
def writable (key : Nat) : Nat × Option ObjRow :=
  match objRow key with
  | some o => if o.acc == .ro then (stPerm, none) else (stOk, some o)
  | none => (if key % 256 = 0 ∧ (highestSub (key / 256)).isSome then stPerm else stBounds, none)

/-- The whole value of an object is written: steps 3 to 9, and a reset that it starts. -/
def State.writeValue (s : State) (o : ObjRow) (f : LopFrame) (source offset : Nat) (raw v : List Byte) : State :=
  let go (a : Option Auth) : State :=
    let r : LopReq := ⟨source, f.reqId, f.op, f.key, v, a, offset, some raw⟩
    (lopWrite (o.acc == .auth) r (stepNine ((a.map fun a => a.slot.val).getD 0) o v) s).runReset
  match f.auth source with
  | none => go none
  | some (ok, a) => if ok then go (some a) else s.respond ⟨source, f.reqId, f.op, f.key, v, none, offset, some raw⟩ stAuthFail

/-- The segmented writes that are open but one. -/
def CtlSt.others (c : CtlSt) (key source : Nat) : List OpenWrite := c.open_.filter fun w => !(w.key == key && w.source == source)

/-- Sets the open writes. -/
def State.setOpen (s : State) (l : List OpenWrite) : State := { s with dev := { s.dev with ctl := { s.dev.ctl with open_ := l } } }

/-- A segment whose place is right: the value so far with it. -/
def State.segment (s : State) (o : ObjRow) (f : LopFrame) (source : Nat) (raw have_ : List Byte) : State :=
  let v := have_ ++ f.data
  let rest := s.dev.ctl.others f.key source
  let r : LopReq := ⟨source, f.reqId, f.op, f.key, [], none, f.offset, some raw⟩
  if o.maxLen < v.length then (s.setOpen rest).respond r stBounds
  else if bit f.flags 0 then (s.setOpen rest).writeValue o f source f.offset raw v
  else (s.setOpen (⟨f.key, source, v⟩ :: rest)).respond r stOk

/-- A resend of the last segment of an authenticated write gets the stored response (R361). -/
def State.resentSegment (s : State) (f : LopFrame) (source : Nat) (raw : List Byte) : Option (List Byte) :=
  match f.auth source with
  | some (_, a) => s.resent a ⟨source, f.reqId, f.op, f.key, [], none, f.offset, some raw⟩
  | none => none

/-- WRITE_SEG of a writable object. -/
def State.writeSegment (s : State) (o : ObjRow) (f : LopFrame) (source : Nat) (raw : List Byte) : State :=
  let r : LopReq := ⟨source, f.reqId, f.op, f.key, [], none, f.offset, some raw⟩
  let rest := s.dev.ctl.others f.key source
  match s.resentSegment f source raw with
  | some b => { s with dev := s.dev.reply source b }
  | none =>
    if f.offset = 0 then
      if rest.any fun w => w.key == f.key then s.respond r stPerm
      else if 4 ≤ rest.length then (s.setOpen rest).respond r stBounds
      else s.segment o f source raw []
    else
      match s.dev.ctl.open_.find? fun w => w.key == f.key && w.source == source with
      | none => s.respond r stBounds
      | some w => if f.offset = w.bytes.length then s.segment o f source raw w.bytes else (s.setOpen rest).respond r stBounds

/-! ### Serving a frame -/

/-- Serves a frame that is well-formed: reserved fields, a WRITE longer than 1,400 B (R409), then by its operation. -/
def State.serveFrame (s : State) (source : Nat) (raw : List Byte) (f : LopFrame) : State :=
  let r : LopReq := ⟨source, f.reqId, f.op, f.key, [], none, f.offset, some raw⟩
  if f.reserved then s.respond r stFeature
  else if 1400 < f.length then s.respond r stBounds
  else if f.op = 1 then s.serveRead r false
  else if f.op = 3 then s.serveRead r true
  else
    match writable f.key with
    | (st, none) => s.respond r st
    | (_, some o) => if f.op = 2 then s.writeValue o f source 0 raw f.data else s.writeSegment o f source raw

/-- A frame arrives: one that is discarded in silence is counted; otherwise it is served if it is `mine` and the device serves its object
(R354, R371). -/
def State.frameIn (s : State) (source : Nat) (raw : List Byte) (mine : Nat → Bool) : State :=
  match readFrame raw with
  | none => { s with dev := s.dev.setObj 0x11000B (leBytes 4 (satTo (2 ^ 32 - 1) (s.dev.objNat 0x11000B + 1))) }
  | some f => if mine f.op && s.dev.serves f.key then s.serveFrame source raw f else s

/-- Runs a frame command. -/
def onFrame (source : Nat) (raw : List Byte) (mine : Nat → Bool) (s : State) : Host.Outcome State Fault Refusal :=
  if s.dev.pwr.pwrgd && s.dev.carries source then .next (s.frameIn source raw mine) else .next s

/-- READ, and a frame with a reserved OP. -/
def execRead (source : Nat) (frame : List Byte) (s : State) : Host.Outcome State Fault Refusal :=
  onFrame source frame (fun op => op == 1 || op == 0 || 4 < op) s

/-- WRITE. -/
def execWrite (source : Nat) (frame : List Byte) (s : State) : Host.Outcome State Fault Refusal := onFrame source frame (· == 2) s

/-- READ_SEG. -/
def execReadSeg (source : Nat) (frame : List Byte) (s : State) : Host.Outcome State Fault Refusal := onFrame source frame (· == 3) s

/-- WRITE_SEG. -/
def execWriteSeg (source : Nat) (frame : List Byte) (s : State) : Host.Outcome State Fault Refusal := onFrame source frame (· == 4) s

/-- SEGMENTED_WRITE_TIMEOUT. -/
def execSegmentedWriteTimeout (source : Nat) (key : Nat) (s : State) : Host.Outcome State Fault Refusal :=
  onDev (fun d => { d with ctl := { d.ctl with open_ := d.ctl.others key source } }) s

/-! ### The mailbox (R353) -/

/-- The bytes of MBX_REQ. -/
def Dev.mailbox (d : Dev) (n : Nat) : List Byte := ((List.range 182).flatMap fun i => leBytes 8 (d.get (F.MBX_REQ_DATA i))).take n

/-- The mailbox is done without a response. -/
def Dev.mailboxEmpty (d : Dev) : Dev := (d.puts [(F.MBX_STATUS_RSP_LEN, 0), (F.MBX_STATUS_STATE, 2)]).raise evMailbox stOk 0 []

/-- MBX_CTRL.GO: ignored while BUSY; a length outside 20 to 1,452 is a discarded frame; a frame without a response leaves DONE with
RSP_LEN 0. -/
def State.mailboxGo (s : State) : State :=
  let n := s.dev.get F.MBX_REQ_LEN_LEN
  if s.dev.get F.MBX_STATUS_STATE = 1 then { s with dev := s.dev.refuse F.MBX_CTRL_GO.off 1 }
  else
    let frame := s.dev.mailbox n
    let s := { s with dev := s.dev.put F.MBX_STATUS_STATE 1 }
    let s := if n < 20 ∨ 1452 < n then s.frameIn srcMailbox [] fun _ => false else s.frameIn srcMailbox frame fun _ => true
    if s.dev.get F.MBX_STATUS_STATE = 1 then { s with dev := s.dev.mailboxEmpty } else s

/-- MBX_GO. -/
def execMbxGo (s : State) : Host.Outcome State Fault Refusal := if s.dev.pwr.pwrgd then .next s.mailboxGo else .next s

/-! ### Single commands -/

/-- FEATURE_ACCEPT. -/
def execFeatureAccept (source reqId : Nat) (vector : BitVec 128) (s : State) : Host.Outcome State Fault Refusal :=
  let b := leBytes 16 vector.toNat
  onPlain source reqId 0x100102 b (storedRules 0x100102 b (devRules (featureRule vector.toNat))) s

/-- RESTORE_DEFAULTS. -/
def execRestoreDefaults (source reqId : Nat) (s : State) : Host.Outcome State Fault Refusal :=
  onPlain source reqId 0x110204 (boolByte true) (defaultsRule true) s

/-- LOCKOUT_EXPIRY. -/
def execLockoutExpiry (slot : Fin 8) (s : State) : Host.Outcome State Fault Refusal :=
  if s.dev.pwr.pwrgd && (s.vault.slot slot).locked then
    .next { s with vault := s.vault.setSlot slot { s.vault.slot slot with locked := false, failures := 0 } }
  else .next s

/-- LAST_REQUEST_STORE_EXPIRY. -/
def execLastRequestStoreExpiry (slot : Fin 8) (s : State) : Host.Outcome State Fault Refusal :=
  onDevFlash (fun _ f d => ({ f with lastRequests := f.lastRequests.filter fun x => x.slot != slot.val }, d)) s

end Sys2Proof.Machine
end

