-- ==== Sys2Proof/Machine/HostReset.lean ====
section
/-! DEFINITION. Losing the host link (R330, R331). -/

namespace Sys2Proof.Machine

open Sys2Proof

/-- An entry that wrote host memory ends LINK_LOST_UNKNOWN: an open copy with the bytes it moved, a launch with its blocks, a collective
with its context (R331 step 2); one that has ended but is not yet reported changes its status. -/
def Dev.loseEntry (d : Dev) (e : Entry) : Dev :=
  let d := d.bump F.HST_LOST_LLU 1
  match e.finished with
  | some (_, r) => d.mapEntry e.queue e.seq fun e => { e with finished := some (stLinkLost, r) }
  | none =>
    match d.queue e.queue, d.copyOpen e.queue e.seq with
    | some x, some c => d.endCopy x e stLinkLost (d.copyDone e.queue e.seq c.moved)
    | _, _ =>
      match [0, 1].findSome? fun g => ((d.sq g).running.find? fun c => c.queue == some (e.queue, e.seq)).map fun c => (g, c) with
      | some (g, c) => d.endColl g c stLinkLost 0
      | none =>
        let d := d.finishEntry e.queue e.seq stLinkLost 0
        (d.clus.launches.filter fun l => l.queue == some (e.queue, e.seq)).foldl (fun d l =>
          let d := d.mapLaunch l.id fun l => { l with stopped := true }
          let d := (d.clus.blocks.filter fun b => b.launch == l.id).foldl (fun d b => d.endGroups b) d
          d.launchCheck l.id) d

/-- A host-facing reset; PERST# counts once the endpoint is configuration-ready. A Function Level Reset leaves the link up. -/
def Dev.hostReset (d : Dev) (why : HostReset) : Dev :=
  if !d.host.cfgReady then d
  else
    let d := (d.bump F.HST_LINK_RESETS 1).put F.HST_LINK_BME 0
    let d := if why = .flr then d else d.puts [(F.HST_LINK_DL_UP, 0), (F.HST_LINK_SPEED, 0), (F.HST_LINK_WIDTH, 0)]
    let p := decide (why = .perst)
    let d : Dev := { d with host := { d.host with msix := false, pendingVectors := [], perst := p, cfgReady := !p } }
    (d.host.entries.filter (·.wroteHost)).foldl Dev.loseEntry d

/-- HOST_FACING_RESET. -/
def execHostFacingReset (why : HostReset) (s : State) : Host.Outcome State Fault Refusal :=
  onDev (fun d => d.hostReset why) s

end Sys2Proof.Machine
end

