-- ==== Sys2Proof/Machine/Roundabout.lean ====
section
/-! DEFINITION. The Roundabout's own commands: bindings, window lookups, stale roots, fault records, commits, root registers, invalidates
and recalls (R217 to R234). -/

namespace Sys2Proof.Machine

open Sys2Proof

/-! ### Bindings (R225 to R227) -/

/-- BINDING: a request that already waits is not made twice. -/
def execBinding (holder : Fin 512) (root : Fin 64) (part : Fin 8) (va len : Nat) (need : BitVec 3) (segment : Bool) (s : State) :
    Host.Outcome State Fault Refusal :=
  onDev (fun d =>
    let w : Waiter := ⟨0, holder, root, part, va, len, need.toNat, segment, none⟩
    if d.isWaiting w then d else d.requestBind w) s

/-- Does a holder hold a binding of the root that covers a range? -/
def Dev.holdsRange (d : Dev) (id root va len : Nat) : Bool :=
  d.rbt.holders.any fun h => h.ids.contains id && h.root == root && inside va len h.va h.len

/-- EXTENT_LOOKUP: the extents of a window of a bound range, as the tables give them now (R226). -/
def Dev.lookupWindow (d : Dev) (id root va len : Nat) : Dev :=
  let w : Waiter := ⟨0, id, root, d.get (F.RBT_ROOT_PART root), va, len, 0, false, none⟩
  if !d.holdsRange id root va len || d.isWaiting w then d
  else if d.invalidating root va len then { d with rbt := { d.rbt with waitingBind := d.rbt.waitingBind ++ [w] } }
  else
    match d.translate root w.part va len 0 with
    | (.ok l, d) => d.setBound ⟨id, root, va, stOk, l⟩
    | (.stop st, d) => d.setBound ⟨id, root, va, st, []⟩
    | (.fault k at_, d) => d.park w k at_

/-- EXTENT_LOOKUP. -/
def execExtentLookup (holder : Fin 512) (root : Fin 64) (va len : Nat) (s : State) : Host.Outcome State Fault Refusal :=
  onDev (fun d => d.lookupWindow holder root va len) s

/-! ### Fault records (R220, R229, R230) -/

/-- STALE_ROOT_RECHECK. -/
def execStaleRootRecheck (record : Fin 1024) (s : State) : Host.Outcome State Fault Refusal :=
  onDev (fun d =>
    let r := d.get (F.RBT_FREC0_ROOT record)
    if d.on (F.RBT_FREC0_OPEN record) && d.get (F.RBT_FREC0_KIND record) == fkStale && !genOlder (d.rootGen r) (d.get (F.RBT_GEN_GEN r)) then
      d.rewalk record
    else d) s

/-- The five words of a translation event about a record. -/
def Dev.recordDetail (d : Dev) (i : Nat) : List Nat :=
  [i, d.get (F.RBT_FREC0_ROOT i), 0x10000 * d.get (F.RBT_FREC0_VA i), d.get (F.RBT_FREC0_ACCESS i), d.get (F.RBT_FREC0_KIND i)]

/-- FAULT_RECORD_TIMEOUT. -/
def execFaultRecordTimeout (record : Fin 1024) (s : State) : Host.Outcome State Fault Refusal :=
  onDev (fun d =>
    if d.on (F.RBT_FREC0_OPEN record) && d.inForceNat 0x280001 != 0 then
      (d.raise evTranslation stFaultPending (d.get (F.RBT_FREC1_FIRST record)) (d.recordDetail record)).failWaiters record stFaultPending
    else d) s

/-- RETRY; a record that is not open refuses the write. -/
def Dev.resolveRetry (d : Dev) (record : Nat) : Dev :=
  if d.on (F.RBT_FREC0_OPEN record) then d.rewalk record else d.refuse F.RBT_RESOLVE_RECORD.off (2 ^ 48 + record)

/-- RETRY. -/
def execRetry (record : Fin 1024) (s : State) : Host.Outcome State Fault Refusal := onDev (fun d => d.resolveRetry record) s

/-- REJECT with BOUNDS, PERM or MEM_UNCORRECTABLE; any other value is refused. -/
def Dev.resolveReject (d : Dev) (record status : Nat) : Dev :=
  if d.on (F.RBT_FREC0_OPEN record) && [stBounds, stPerm, stUncorrectable].contains status then d.failWaiters record status
  else d.refuse F.RBT_RESOLVE_RECORD.off (status % 256 * 2 ^ 56 + 2 ^ 49 + record)

/-- REJECT. -/
def execReject (record : Fin 1024) (status : Nat) (s : State) : Host.Outcome State Fault Refusal :=
  onDev (fun d => d.resolveReject record status) s

/-! ### Commits and roots (R219, R234) -/

/-- RBT_COMMIT: the generation of a root only rises. -/
def Dev.commitGen (d : Dev) (root gen : Nat) : Dev :=
  let g := gen % 2 ^ 32
  if genOlder (d.get (F.RBT_GEN_GEN root)) g then d.put (F.RBT_GEN_GEN root) g
  else d.refuse F.RBT_COMMIT_GEN.off (root * 2 ^ 32 + g)

/-- RBT_COMMIT. -/
def execRbtCommit (root : Fin 64) (gen : Nat) (s : State) : Host.Outcome State Fault Refusal :=
  onDev (fun d => d.commitGen root gen) s

/-- Does a holder record, a cache entry or an open fault record belong to a root? -/
def Dev.rootBusy (d : Dev) (r : Nat) : Bool :=
  d.rbt.holders.any (fun h => h.root == r) || d.rbt.ranges.any (fun l => l.root == r)
    || d.rbt.pages.any (fun x => (x.2.map Leaf.root) == some r)
    || (List.range 1024).any fun i => d.on (F.RBT_FREC0_OPEN i) && d.get (F.RBT_FREC0_ROOT i) == r

/-- RBT_ROOT: written while nothing belongs to the root. -/
def Dev.rootWrite (d : Dev) (root v : Nat) : Dev :=
  if d.rootBusy root then d.refuse (F.RBT_ROOT_VALID root).off v
  else d.puts [(F.RBT_ROOT_VALID root, bits v 63 63), (F.RBT_ROOT_PART root, bits v 58 56), (F.RBT_ROOT_REC_PA root, bits v 55 6)]

/-- RBT_ROOT_WRITE. -/
def execRbtRootWrite (root : Fin 64) (value : Word) (s : State) : Host.Outcome State Fault Refusal :=
  onDev (fun d => d.rootWrite root value.toNat) s

/-! ### Invalidates and recalls (R231 to R233) -/

/-- RBT_INV_WAIT follows the recalls that are not acknowledged. -/
def Dev.showRecalls (d : Dev) : Dev :=
  d.puts [(F.RBT_INV_WAIT_COUNT, d.rbt.recalls.length), (F.RBT_INV_WAIT_LOWEST, d.rbt.recalls.foldl min 0x3FF)]

/-- An invalidate is DONE once no recall is left: the event, and the bindings that waited. -/
def Dev.settleInvalidate (d : Dev) : Dev :=
  let d := d.showRecalls
  if d.get F.RBT_INV_STATUS == 1 && d.rbt.recalls.isEmpty then
    ((d.put F.RBT_INV_STATUS 2).raise evInvalidate stOk d.rbt.recallRange.1 [d.rbt.recallRange.1, d.rbt.recallRange.2.1, d.rbt.recallRange.2.2]).retryWaiting
  else d

/-- The range of an invalidate. -/
def invRange (base order : Nat) (all : Bool) : Nat × Nat :=
  let n := if 16 ≤ order ∧ order ≤ 56 then order else 56
  if all then (0, 2 ^ 56) else (base % 2 ^ 56 / 2 ^ n * 2 ^ n, 2 ^ n)

/-- Drops the cached leaves of a root that overlap a range. -/
def Dev.dropCaches (d : Dev) (root lo n : Nat) : Dev :=
  let hit (l : Leaf) : Bool := l.root == root && overlaps l.va (2 ^ l.z) lo n
  { d with rbt := { d.rbt with ranges := d.rbt.ranges.filter (fun l => !hit l),
                               pages := d.rbt.pages.filter fun x => !(x.2.map hit).getD false } }

/-- The holder records of a root that overlap a range. -/
def Dev.holdersIn (d : Dev) (root lo n : Nat) : List Holder := d.rbt.holders.filter fun h => h.root == root && overlaps h.va h.len lo n

/-- INVALIDATE. -/
def Dev.invalidate (d : Dev) (root base order : Nat) (all : Bool) : Dev :=
  if d.get F.RBT_INV_STATUS = 1 then
    d.refuse F.RBT_INV_GO.off (root * 2 ^ 56 + order % 64 * 2 ^ 50 + base / 0x10000 % 2 ^ 40 * 2 ^ 10 + b2n all * 2 + 1)
  else
    let r := invRange base order all
    let d := d.puts [(F.RBT_INV_ROOT, root), (F.RBT_INV_ORDER, order), (F.RBT_INV_BASE, base / 0x10000), (F.RBT_INV_ALL, b2n all),
      (F.RBT_INV_STATUS, 1)]
    let d := d.dropCaches root r.1 r.2
    let ids := ((d.holdersIn root r.1 r.2).flatMap Holder.ids).eraseDups
    ({ d with rbt := { d.rbt with recalls := ids, recallRange := (root, r.1, r.2) } } : Dev).settleInvalidate

/-- INVALIDATE. -/
def execInvalidate (root : Fin 64) (base : Nat) (order : Nat) (all : Bool) (s : State) : Host.Outcome State Fault Refusal :=
  onDev (fun d => d.invalidate root base order all) s

/-- The ranges that the work of a holder still needs: segments of launches, open copies, collectives. -/
def Dev.ownedRanges (d : Dev) (id root : Nat) : List (Nat × Nat) :=
  if id < 400 then
    (d.clus.launches.filter fun l => l.queue.isSome && l.root == root && (d.launchPhys l).contains id).flatMap fun l =>
      l.segs.map fun s => (s.base, s.size)
  else if id < 416 then
    (d.copiesOn (id - 400)).flatMap fun c =>
      match d.queue c.queue, d.entry c.queue c.seq with
      | some x, some e => if x.root = root then (copyDesc e.desc).srcRows ++ (copyDesc e.desc).dstRows else []
      | _, _ => []
  else if id = 424 ∨ id = 425 then
    ((d.sq (id - 424)).waiting ++ (d.sq (id - 424)).running).flatMap fun c => if c.queue.isSome && c.root == root then c.ranges else []
  else []

/-- A holder lets go of the bindings in a range that none of its work needs. -/
def Dev.releaseStray (d : Dev) (id root lo n : Nat) : Dev :=
  let own := d.ownedRanges id root
  let drop (h : Holder) : Holder :=
    if h.root == root && overlaps h.va h.len lo n && !own.contains (h.va, h.len) then { h with ids := h.ids.filter (· != id) } else h
  { d with rbt := { d.rbt with holders := (d.rbt.holders.map drop).filter fun h => !h.ids.isEmpty } }

/-- The copies of an engine that a recalled range overlaps end with the bytes moved so far. -/
def Dev.recallCopies (d : Dev) (engine root lo n : Nat) : Dev :=
  (d.copiesOn engine).foldl (fun d c =>
    match d.queue c.queue, d.entry c.queue c.seq with
    | some x, some e =>
      let m := copyDesc e.desc
      if x.root == root && (m.srcRows ++ m.dstRows).any fun r => overlaps r.1 r.2 lo n then
        d.endCopy x e stAbortedRecall (d.copyDone e.queue e.seq c.moved)
      else d
    | _, _ => d) d

/-- The collectives of an engine that a recalled range overlaps end. -/
def Dev.recallSquares (d : Dev) (g root lo n : Nat) : Dev :=
  ((d.sq g).waiting ++ (d.sq g).running).foldl (fun d c =>
    if c.queue.isSome && c.root == root && c.ranges.any fun r => overlaps r.1 r.2 lo n then d.endColl g c stAbortedRecall 0 else d) d

/-- RECALL: the holder stops or finishes its work as its kind requires; an image buffer reports that it holds the range (R68, R412). -/
def Dev.recall (d : Dev) (id : Nat) : Dev :=
  let (root, lo, n) := d.rbt.recallRange
  if !d.rbt.recalls.contains id then d
  else if 416 ≤ id ∧ id ≤ 423 then d.raise evSchedule stOk (id - 416) [4, root, lo]
  else
    let d :=
      if id < 400 then d.recallLaunches id root lo n
      else if id < 416 then d.recallCopies (id - 400) root lo n
      else if id = 424 ∨ id = 425 then d.recallSquares (id - 424) root lo n
      else d
    d.releaseStray id root lo n

/-- RECALL. -/
def execRecall (holder : Fin 512) (s : State) : Host.Outcome State Fault Refusal := onDev (fun d => d.recall holder) s

/-- RECALL_ACK: only once no binding of the holder overlaps the range. -/
def Dev.recallAck (d : Dev) (id : Nat) : Dev :=
  let (root, lo, n) := d.rbt.recallRange
  if !d.rbt.recalls.contains id || (d.holdersIn root lo n).any (fun h => h.ids.contains id) then d
  else ({ d with rbt := { d.rbt with recalls := d.rbt.recalls.filter (· != id) } } : Dev).settleInvalidate

/-- RECALL_ACK. -/
def execRecallAck (holder : Fin 512) (s : State) : Host.Outcome State Fault Refusal := onDev (fun d => d.recallAck holder) s

end Sys2Proof.Machine
end

