-- ==== Sys2Proof/Machine/RegWrite.lean ====
section
/-! DEFINITION. REGISTER_WRITE: a BAR0 write by offset, size and value, with what each register's write does (R7 to R9, R312). -/

namespace Sys2Proof.Machine

open Sys2Proof

/-! ### Access codes -/

/-- One field of a register written: RW and RWS take the value, a 1 clears a W1C bit, RO ignores the write, and WO holds nothing. -/
def Dev.fieldWrite (d : Dev) (off v : Nat) (f : FldRow) : Dev :=
  let x : Fld := ⟨off, f.lo, f.w⟩
  let w := bits v (f.lo + f.w - 1) f.lo
  match f.acc with
  | .rw | .rws => d.put x w
  | .w1c => d.put x (d.get x - (d.get x &&& w))
  | .ro | .wo => d

/-- The fields of a register written by their access codes; bits of reserved fields are ignored (R9). -/
def Dev.plainWrite (d : Dev) (r : RegRow) (off v : Nat) : Dev := r.fields.foldl (fun d f => d.fieldWrite off v f) d

/-- Is a nibble of GTE_PMAP neither a port nor 0xF? -/
def pmapReserved (v : Nat) : Bool := (List.range 16).any fun n => 12 ≤ bits v (4 * n + 3) (4 * n) && bits v (4 * n + 3) (4 * n) ≤ 14

/-- Does a value written to the register with base `base` hold a reserved value, which discards the write as a whole (R9)? -/
def reservedValue (base v : Nat) : Bool :=
  match base with
  | 0x100000 => bits v 5 4 == 3 || bits v 25 23 == 7
  | 0x591000 => 384 ≤ bits v 24 16
  | 0x800008 => 384 ≤ bits v 40 32
  | 0x800030 => bits v 9 8 == 3
  | 0xC02200 => bits v 3 1 == 0 || 4 ≤ bits v 3 1
  | 0x1000000 => bits v 5 4 == 3
  | 0x1010010 => pmapReserved v
  | 0x1800100 => 1024 < bits v 10 0
  | 0x1A00008 => bits v 7 0 == 0 || 3 < bits v 7 0
  | _ => false

/-- Runs an operation when a condition holds. -/
def Dev.when (d : Dev) (c : Bool) (f : Dev → Dev) : Dev := if c then f d else d

/-! ### Registers whose write does more than its fields -/

/-- TCK_CTRL: the fields of R57 change in OFF and PARKED only; LEN_PEND and ENABLE apply in every state. -/
def Dev.tckCtrl (d : Dev) (v : Nat) : Dev :=
  if bits v 5 4 ≠ 0 ∧ !d.has ftTickDomain then d.refuse F.TCK_CTRL_ROLE.off v
  else
    let l : List (Fld × Nat) := [(F.TCK_CTRL_DOMAIN, bits v 47 40), (F.TCK_CTRL_MASTER_RANK, bits v 39 26), (F.TCK_CTRL_PORTS, bits v 19 8),
      (F.TCK_CTRL_ROLE, bits v 5 4)]
    let d := if d.tickOpen then d.puts l
      else if l.any fun x => d.get x.1 != x.2 then d.refuse F.TCK_CTRL_ROLE.off v
      else d
    let d := d.put F.TCK_CTRL_LEN_PEND (bits v 25 23)
    if bit v 0 then d.tickOn d.tick.tree else d.tickClear

/-- CLU_SWAP: LOGICAL, and with GO a request. -/
def Dev.cluSwap (d : Dev) (v : Nat) : Dev := if bit v 0 then d.swapGo (bits v 24 16) v else d.put F.CLU_SWAP_LOGICAL (bits v 24 16)

/-- TGD_CMD: other values are ignored. -/
def Dev.tgdCmd (d : Dev) (c : Nat) : Dev :=
  match c with
  | 1 => d.tgdHalt
  | 2 => d.tgdResume
  | 3 => d.tgdStep
  | 4 => d.tgdBlockStop
  | 5 => d.tgdBlockResume
  | _ => d

/-- A write to the TGD block: discarded before a debug unlock (R116). -/
def Dev.tgdWrite (d : Dev) (r : RegRow) (off v : Nat) : Dev :=
  if !d.on F.TGD_CTRL_UNLOCKED then d.refuse off v
  else
    match off with
    | 0x800000 => if bit v 1 && !d.has ftGroupDebug then d.refuse off v else d.plainWrite r off v
    | 0x800010 => d.tgdCmd (bits v 2 0)
    | 0x800020 => d.tgdPcWrite v
    | 0x800028 => d.tgdMaskWrite v
    | 0x800038 => d.tgdDataWrite v
    | _ => d.plainWrite r off v

/-- MEM_CREQ: CHANNEL and OP, and with GO the request. -/
def Dev.creqWrite (d : Dev) (v : Nat) : Dev :=
  if bit v 0 then d.creq (bits v 3 1) (bits v 24 16)
  else if !d.has ftChanRepair then d.refuse F.MEM_CREQ_GO.off v
  else d.puts [(F.MEM_CREQ_CHANNEL, bits v 24 16), (F.MEM_CREQ_OP, bits v 3 1)]

/-- RBT_INV: its fields, and with GO the invalidate. -/
def Dev.invWrite (d : Dev) (v : Nat) : Dev :=
  if bit v 0 then d.invalidate (bits v 61 56) (0x10000 * bits v 49 10) (bits v 55 50) (bit v 1)
  else d.puts [(F.RBT_INV_ROOT, bits v 61 56), (F.RBT_INV_ORDER, bits v 55 50), (F.RBT_INV_BASE, bits v 49 10), (F.RBT_INV_ALL, bits v 1 1)]

/-- RBT_RESOLVE: other actions are ignored. -/
def Dev.resolveWrite (d : Dev) (v : Nat) : Dev :=
  match bits v 49 48 with
  | 1 => d.resolveRetry (bits v 9 0)
  | 2 => d.resolveReject (bits v 9 0) (bits v 63 56)
  | _ => d

/-- GTE_PORT[p]: CLASS, PIN and EXPECT in DISABLED, DOWN and REJECTED only; RETRY leaves REJECTED; EN enables or disables. -/
def Dev.gtePort (d : Dev) (p v : Nat) : Dev :=
  let l : List (Fld × Nat) := [(F.GTE_PORT_EXPECT p, bits v 55 42), (F.GTE_PORT_CLASS p, bits v 5 4), (F.GTE_PORT_PIN p, bits v 3 3)]
  let d := if d.portFree p then d.puts l
    else if l.any fun x => d.get x.1 != x.2 then d.refuse (F.GTE_PORT_EN p).off v
    else d
  let d := d.when (bit v 1) fun d => d.portStep p psRejected psDown
  if bit v 0 then (if d.on (F.GTE_PORT_EN p) then d else d.portEnable p)
  else if d.on (F.GTE_PORT_EN p) then d.portDisable p
  else d

/-- KSK_CTRL: EN needs KIOSK; ROOT changes only while EN is clear (R310). -/
def Dev.kskCtrl (d : Dev) (v : Nat) : Dev :=
  if bit v 0 && !d.has ftKiosk then d.refuse F.KSK_CTRL_EN.off v
  else
    let d := if !d.on F.KSK_CTRL_EN then d.put F.KSK_CTRL_ROOT (bits v 7 2)
      else if d.get F.KSK_CTRL_ROOT ≠ bits v 7 2 then d.refuse F.KSK_CTRL_EN.off v
      else d
    d.put F.KSK_CTRL_EN (bits v 0 0)

/-- RAS_TF: clearing VALID clears the three registers. -/
def Dev.tfClear (d : Dev) : Dev :=
  d.puts ([F.RAS_TF_VALID, F.RAS_TF_MORE, F.RAS_TF_PART, F.RAS_TF_ENGINE, F.RAS_TF_STATUS, F.RAS_TF_INDEX, F.RAS_TF_SLOT, F.RAS_TF_ADDR_KIND,
    F.RAS_TF_ADDR_ADDR, F.RAS_TF_TN_TN].map fun f => (f, 0))

/-- A write to a register of the mailbox's request: refused while STATE is BUSY (R353). -/
def Dev.mailboxWrite (d : Dev) (r : RegRow) (off v : Nat) : Dev :=
  if d.get F.MBX_STATUS_STATE = 1 then d.refuse off v else d.plainWrite r off v

/-- The aligned 64-bit write of a listed register, `i` and `j` its indices. -/
def Dev.regWrite (d : Dev) (r : RegRow) (i j off v : Nat) : Dev :=
  if reservedValue r.base v then d.refuse off v
  else
    match r.base with
    | 0x100000 => d.tckCtrl v
    | 0x100020 => (d.holdClear (bits v 31 16)).when (bit v 0) fun d => d.assertHold hcSoftware
    | 0x200000 | 0x200008 => if d.scheduled i then d.plainWrite r off v else d
    | 0x200010 => ((d.when (bit v 2) fun d => d.abort i).when (bit v 1) fun d => d.unstage i).when (bit v 0) fun d => d.loadStart i
    | 0x200018 => d.stopWrite i v
    | 0x400010 => d.spillWrite i v
    | 0x400018 => d.when (bit v 0) fun d => d.errClear i
    | 0x591000 => d.cluSwap v
    | 0x800000 | 0x800008 | 0x800010 | 0x800018 | 0x800020 | 0x800028 | 0x800030 | 0x800038 | 0x800040 => d.tgdWrite r off v
    | 0xA000C0 => (d.plainWrite r off v).when (bit v 0) fun d => d.histClear i j
    | 0xB00008 => d.wayPower i v
    | 0xB00040 => d.scrWrite i j v
    | 0xC00000 => d.regionWrite i v
    | 0xC02100 => d.bwrWrite i v
    | 0xC02200 => d.creqWrite v
    | 0xE00000 => d.rootWrite i v
    | 0xE00400 => d.commitGen (bits v 37 32) (bits v 31 0)
    | 0xE00408 => d.invWrite v
    | 0xE00418 => d.resolveWrite v
    | 0xF00008 => d.when (bit v 0) Dev.guestRetry
    | 0xF00010 => d.guestWindowWrite i v
    | 0xF00200 => d.when (bit v 32) fun d => d.put (F.DTD_MOD_DISAGREE i) 0
    | 0x1000000 => d.gtePort i v
    | 0x1010000 | 0x1010008 => if d.posFixed then d.refuse off v else d.plainWrite r off v
    | 0x1020000 => d.winWrite i false v
    | 0x1020008 => d.winWrite i true v
    | 0x1200000 => d.when (bit v 0) fun d => d.sqrAbort i
    | 0x1400008 => if d.host.queues.isEmpty then d.plainWrite r off v else d.refuse off v
    | 0x1500000 => d.kskCtrl v
    | 0x1500008 => d.winBase v
    | 0x1A00020 => d.put F.PWR_SCI_TARGET (sciTarget (bits v 27 16))
    | 0x1C00000 => d.serviceWrite (bits v 0 0)
    | 0x1C00008 => d.when (bit v 63) Dev.tfClear
    | 0x1E00010 | 0x1E01000 => d.mailboxWrite r off v
    | _ => d.plainWrite r off v

/-! ### Doorbell slots (R312) -/

/-- QCTRL: one command bit; two or more are no valid command (DEDUCED, log 27). -/
def Dev.qctrl (d : Dev) (q off v : Nat) : Dev :=
  match bits v 2 0 with
  | 0 => d
  | 1 => d.queueEnable q
  | 2 => d.queueDisable q
  | 4 => d.queueRestart q
  | _ => d.refuse off v

/-- A write to a doorbell slot: aligned, of 32 or 64 bits, at DB_PI, CQ_CI or QCTRL; any other is discarded. -/
def Dev.doorbellWrite (d : Dev) (off size v : Nat) : Dev :=
  let q := (off - 0x2000000) / 128
  if !(size == 4 || size == 8) then d.refuse off v
  else
    match (off - 0x2000000) % 128 with
    | 0x00 => d.dbPi q v
    | 0x08 => d.cqCi q v
    | 0x10 => d.qctrl q off v
    | _ => d.refuse off v

/-! ### The command -/

/-- A write to the register blocks: aligned 64-bit writes of listed registers only (R7, R8). -/
def Dev.blockWrite (d : Dev) (off size v : Nat) : Dev :=
  if size ≠ 8 ∨ off % 8 ≠ 0 then d.refuse off v
  else
    match regAt off with
    | none => d.refuse off v
    | some (r, ix) => d.regWrite r (ix.headD 0) (ix.getD 1 0) off v

/-- A BAR0 write; an offset at or past 64 MiB reaches no register. MBX_CTRL.GO alone acts on more than the device. -/
def State.barWrite (s : State) (off size v : Nat) : State :=
  if 0x4000000 ≤ off then s
  else if off = F.MBX_CTRL_GO.off ∧ size = 8 then (if bit v 0 then s.mailboxGo else s)
  else if off < 0x2000000 then { s with dev := s.dev.blockWrite off size v }
  else { s with dev := s.dev.doorbellWrite off size v }

/-- REGISTER_WRITE. -/
def execRegisterWrite (offset : Nat) (size : Nat) (value : Word) (s : State) : Host.Outcome State Fault Refusal :=
  if s.dev.pwr.pwrgd then .next (s.barWrite offset size (value.toNat % 2 ^ (8 * size))) else .next s

end Sys2Proof.Machine
end

