-- ==== Sys2Proof/Machine/Threads.lean ====
section
/-! DEFINITION. The instructions of a thread group: loads and stores through the L1, fences, atomics, zero-lines, floating and
conversion instructions, and the group-wide matrix instructions with their tickets (chapters 05 to 08). -/

namespace Sys2Proof.Machine

open Sys2Proof

/-! ### Loads and stores through the L1 -/

/-- Does a load of `n` bytes at `pa` find them in the L1? -/
def Dev.l1Hit (d : Dev) (phys pa n : Nat) (evicted : Bool) : Bool :=
  !evicted && match d.l1 phys (lineOf pa) with
    | some x => x.filled || ((x.written.drop (pa % 128)).take n).all id
    | none => false

/-- Fetches a line into the L1, under the bytes the cluster has written: its status. -/
def Dev.l1Fetch (d : Dev) (phys line : Nat) (due : Bool) : Nat × Dev :=
  match d.readStatus (128 * line) 128 due with
  | (0, d) =>
    let fresh := d.read (128 * line) 128
    (match d.l1 phys line with
     | some x => (stOk, d.setL1 phys line (some { x with data := (x.written.zip (x.data.zip fresh)).map (fun r => if r.1 then r.2.1 else r.2.2), filled := true }))
     | none => (stOk, d.setL1 phys line (some ⟨fresh, List.replicate 128 false, true⟩)))
  | x => x

/-- A thread's load of `n` bytes at a physical address: status, bytes. `evicted` says that the L1 evicted the line before. -/
def Dev.l1Load (d : Dev) (phys pa n : Nat) (evicted due : Bool) : Nat × List Byte × Dev :=
  let d := if evicted then d.l1Flush phys (lineOf pa) else d
  let r := if d.l1Hit phys pa n false then (stOk, d) else d.l1Fetch phys (lineOf pa) due
  match r.2.l1 phys (lineOf pa) with
  | some x => (r.1, (x.data.drop (pa % 128)).take n, r.2)
  | none => (r.1, [], r.2)

/-- Must a load wait: it misses, and its channel stalls or host memory is not reachable (R207, R213, R333)? -/
def Dev.l1Waits (d : Dev) (phys pa n : Nat) (evicted : Bool) : Bool :=
  !d.l1Hit phys pa n evicted && d.runsWait [(pa, n)]

/-- Replaces bytes of a list from an offset. -/
def patch {α : Type} (l : List α) (o : Nat) (new : List α) : List α := l.take o ++ new ++ l.drop (o + new.length)

/-- A thread's store: into the L1, with the bytes marked written; one to host memory without Bus Master Enable is discarded (R158,
R333). -/
def Dev.l1Store (d : Dev) (phys pa : Nat) (data : List Byte) : Dev :=
  if isHost pa && !d.on F.HST_LINK_BME then d.discardHost pa
  else
    let x := (d.l1 phys (lineOf pa)).getD ⟨List.replicate 128 0#8, List.replicate 128 false, false⟩
    d.setL1 phys (lineOf pa) (some ⟨patch x.data (pa % 128) data, patch x.written (pa % 128) (data.map fun _ => true), x.filled⟩)

/-- The physical addresses of the active threads' accesses, or the trap of the lowest-numbered thread that has one (R104). -/
def accessAll (x : Gx) (addrs : List Nat) (n need : Nat) : Except (Nat × Nat) (List (Nat × Nat)) :=
  (threadsOf x.g.active).foldr (fun t r =>
    match accessPa x.l.segs (addrs.getD t 0) n need with
    | .error st => .error (st, addrs.getD t 0)
    | .ok pa => r.map fun l => (t, pa) :: l) (.ok [])

/-- Local-store accesses of the active threads: inside the window and aligned, or BOUNDS (notes/assumptions/12.md). -/
def Dev.lsAccessAll (d : Dev) (x : Gx) (addrs : List Nat) (n : Nat) : Except (Nat × Nat) (List (Nat × Nat)) :=
  (threadsOf x.g.active).foldr (fun t r =>
    let a := addrs.getD t 0
    if d.window x.l.part x.phys < a + n ∨ a % n ≠ 0 then .error (stBounds, a) else r.map fun l => (t, a) :: l) (.ok [])

/-- The loads of the threads in order. -/
def Dev.loadThreads (x : Gx) (n dst : Nat) (evicted : Bool) : List (Nat × Nat) → Bool → Dev → Nat × Nat × Dev
  | [], _, d => (stOk, 0, d)
  | (t, pa) :: r, due, d =>
    match d.l1Load x.phys pa n evicted due with
    | (0, b, d) => loadThreads x n dst false r false (d.setVval x.k t dst n (leNat b))
    | (st, _, d) => (st, pa, d)

/-- A thread load (R104, R158): no register changes where a thread's access traps. -/
def Dev.threadLoad (ls : Bool) (addrs : List Nat) (sz dst : Nat) (evicted due : Bool) (x : Gx) (d : Dev) : IRes :=
  let n := 2 ^ sz
  if badReg x [(dst, regsOf n)] then .trap stFeature 0 d
  else if ls then
    match d.lsAccessAll x addrs n with
    | .error e => .trap e.1 e.2 d
    | .ok l =>
      if due || l.any (fun r => d.lsBad x.phys r.2 n) then .trap stUncorrectable ((l.map (·.2)).headD 0) d
      else .done (l.foldl (fun e r => (e.countSpill x.phys [(r.2, n)]).setVval x.k r.1 dst n (leNat (d.lsRead x.phys r.2 n))) d)
  else
    match accessAll x addrs n 1 with
    | .error e => .trap e.1 e.2 d
    | .ok l =>
      if l.any (fun r => d.l1Waits x.phys r.2 n evicted) then .wait
      else
        match Dev.loadThreads x n dst evicted l due d with
        | (0, _, e) => .done e
        | (st, pa, e) =>
          let t := ((l.find? fun r => r.2 == pa).map (·.1)).getD 0
          .trap st (addrs.getD t 0) { e with clus := { e.clus with vregs := d.clus.vregs } }

/-- THREAD_LOAD. -/
def execThreadLoad (g : GroupRef) (ls : Bool) (addrs : List Nat) (sizeLog2 : Fin 4) (dst : Fin 256) (evicted : Bool) (due : Bool)
    (s : State) : Host.Outcome State Fault Refusal :=
  onDev (Dev.instr g (Dev.threadLoad ls addrs sizeLog2 dst evicted due)) s

/-- A list turned by a number of places: threads that store to one place in one instruction have no order among themselves, so the
last of them is free (notes/assumptions/4.md). -/
def turn {α : Type} (l : List α) (n : Nat) : List α := if l.isEmpty then l else l.drop (n % l.length) ++ l.take (n % l.length)

/-- A queued launch has issued a write to host memory (R331). -/
def Dev.launchHost (d : Dev) (x : Gx) (any : Bool) : Dev :=
  match any, x.l.queue with
  | true, some (q, s) => d.wroteHost q s
  | _, _ => d

/-- A thread store (R104, R158). -/
def Dev.threadStore (ls : Bool) (addrs : List Nat) (sz src : Nat) (x : Gx) (d : Dev) : IRes :=
  let n := 2 ^ sz
  let val (t : Nat) : List Byte := leBytes n (d.vval x.k x.g t src n)
  if badReg x [(src, regsOf n)] then .trap stFeature 0 d
  else if ls then
    match d.lsAccessAll x addrs n with
    | .error e => .trap e.1 e.2 d
    | .ok l =>
      let (k, d) := d.draw
      .done ((turn l (Config.freeNat k)).foldl (fun d r => (d.countSpill x.phys [(r.2, n)]).lsWrite x.phys r.2 (val r.1)) d)
  else
    match accessAll x addrs n 2 with
    | .error e => .trap e.1 e.2 d
    | .ok l =>
      let (k, d) := d.draw
      .done (((turn l (Config.freeNat k)).foldl (fun d r => d.l1Store x.phys r.2 (val r.1)) d).launchHost x (l.any fun r => isHost r.2))

/-- THREAD_STORE. -/
def execThreadStore (g : GroupRef) (ls : Bool) (addrs : List Nat) (sizeLog2 : Fin 4) (src : Fin 256) (s : State) :
    Host.Outcome State Fault Refusal :=
  onDev (Dev.instr g (Dev.threadStore ls addrs sizeLog2 src)) s

/-! ### Fences (R159, R160) -/

/-- Does a scope reach beyond the cluster? -/
def wideScope : Scope → Bool
  | .group => false
  | .block => false
  | .device => true
  | .system => true

/-- The release side of a fence: at device and system scope every written byte of the L1 goes to the Plaza. -/
def Dev.releaseSide (d : Dev) (phys : Nat) (sc : Scope) (k : FenceKind) : Dev := if wideScope sc && k != .acq then d.l1WriteBack phys else d

/-- The acquire side: the L1 lines are invalidated, written bytes going back first. -/
def Dev.acquireSide (d : Dev) (phys : Nat) (sc : Scope) (k : FenceKind) : Dev := if wideScope sc && k != .rel then d.l1Invalidate phys else d

/-- FENCE. Earlier accesses of the group have already taken effect, so group and block scope wait for nothing. -/
def execFence (g : GroupRef) (scope : Scope) (kind : FenceKind) (s : State) : Host.Outcome State Fault Refusal :=
  onDev (Dev.instr g fun x d => .done ((d.releaseSide x.phys scope kind).acquireSide x.phys scope kind)) s

/-! ### Atomics (R165 to R168, R179) -/

/-- The atomics of the threads of one instruction, in ascending thread order (R168). -/
def Dev.atomThreads (x : Gx) (op : AtomOp) (ty : AtomType) (dst : Option Nat) (a b : Nat) : List (Nat × Nat) → Bool → Dev → Nat × Nat × Dev
  | [], _, d => (stOk, 0, d)
  | (t, pa) :: r, due, d =>
    let n := atomBytes ty
    let d := d.l1Flush x.phys (lineOf pa)
    match d.atomicAt op ty pa (d.vval x.k x.g t a n) (d.vval x.k x.g t b n) due with
    | (0, old, d) => atomThreads x op ty dst a b r false (match dst with
      | some q => d.setVval x.k t q n old
      | none => d)
    | (st, _, d) => (st, pa, d)

/-- An atomic instruction, with or without return (R165 to R168). An undefined pair of operation and type is an undefined encoding. A
trap leaves memory and registers as they were. -/
def Dev.atomInstr (op : AtomOp) (ty : AtomType) (order : Option (Scope × FenceKind)) (addrs : List Nat) (dst : Option Nat) (a b : Nat)
    (due : Bool) (x : Gx) (d : Dev) : IRes :=
  let n := atomBytes ty
  let rs := [(a, regsOf n)] ++ (if op = .cas then [(b, regsOf n)] else []) ++ (match dst with
    | some q => [(q, regsOf n)]
    | none => [])
  if !atomOk op ty || badReg x rs then .trap stFeature 0 d
  else
    match accessAll x addrs n 4 with
    | .error e => .trap e.1 e.2 d
    | .ok l =>
      let pas := l.map (·.2)
      match l.find? fun r => paKind r.2 == .ring || isHost r.2 with
      | some r => .trap stPerm (addrs.getD r.1 0) d
      | none =>
        if d.runsWait (pas.map (fun p => (p, n))) then .wait
        else
          let d1 := match order with
            | some (sc, k) => d.releaseSide x.phys sc k
            | none => d
          match Dev.atomThreads x op ty dst a b l due d1 with
          | (0, _, e) => .done (match order with
            | some (sc, k) => e.acquireSide x.phys sc k
            | none => e)
          | (st, pa, e) =>
            let t := ((l.find? fun r => r.2 == pa).map (·.1)).getD 0
            .trap st (addrs.getD t 0)
              { d with regs := e.regs, events := e.events, fresh := e.fresh, host := e.host, outs := e.outs, tier := e.tier }

/-- ATOM. -/
def execAtom (g : GroupRef) (op : AtomOp) (ty : AtomType) (order : Option (Scope × FenceKind)) (addrs : List Nat) (dst a b : Fin 256)
    (due : Bool) (s : State) : Host.Outcome State Fault Refusal :=
  onDev (Dev.instr g (Dev.atomInstr op ty order addrs (some dst.val) a b due)) s

/-- RED: the same update, nothing returned (R165). -/
def execRed (g : GroupRef) (op : AtomOp) (ty : AtomType) (order : Option (Scope × FenceKind)) (addrs : List Nat) (a b : Fin 256)
    (due : Bool) (s : State) : Host.Outcome State Fault Refusal :=
  onDev (Dev.instr g (Dev.atomInstr op ty order addrs none a b due)) s

/-! ### Zero-lines (R177, R178) -/

/-- ZLINE (R177): 128 B aligned, inside a segment with the write right; the L1's written bytes of the line go first. -/
def Dev.zlineInstr (addrs : List Nat) (x : Gx) (d : Dev) : IRes :=
  if !d.has ftZeroLine then .trap stFeature 0 d
  else
    match accessAll x addrs 128 2 with
    | .error e => .trap e.1 e.2 d
    | .ok l =>
      if d.runsWait (l.map (fun r => (r.2, 128))) && !(l.all (fun r => isHost r.2)) then .wait
      else
        match l.find? fun r => d.writeStatus r.2 128 != stOk with
        | some r => .trap stUncorrectable (addrs.getD r.1 0) (d.tryWrite r.2 128).2
        | none => .done (l.foldl (fun d r =>
            if isHost r.2 && !d.on F.HST_LINK_BME then d.discardHost r.2 else (d.l1Flush x.phys (lineOf r.2)).zeroLine r.2) d)

/-- ZLINE. -/
def execZline (g : GroupRef) (addrs : List Nat) (s : State) : Host.Outcome State Fault Refusal :=
  onDev (Dev.instr g (Dev.zlineInstr addrs)) s

/-! ### Floating and conversion instructions (R120 to R123, R133 to R139, R147, R149) -/

/-- The bytes of an element in vector registers: FP64 takes two registers, every other format one. -/
def elemBytes (f : Fmt) : Nat := if f = .fp64 then 8 else 4

/-- A thread's element in a format. -/
def Dev.elem (d : Dev) (x : Gx) (f : Fmt) (t r : Nat) : Nat := d.vval x.k x.g t r (elemBytes f) % 2 ^ f.width

/-- The location bits of NUM_FIC_WHERE[4]: group slot and thread. -/
def groupLoc (x : Gx) (t : Nat) : Nat := x.k % 48 * 2 ^ 32 + t * 2 ^ 27

/-- Sets the processor's flags for the results of the threads and captures the lowest thread that raised NV. -/
def Dev.groupFlags (d : Dev) (x : Gx) (cause : Nat) (fl : List (Nat × Nat)) : Dev :=
  let all := fl.foldl (fun a r => flagOr a r.2) 0
  let d := if all = 0 then d else d.setFlags x.phys 4 all
  match fl.find? fun r => hasNV r.2 with
  | some r => d.capture x.phys 4 cause (groupLoc x r.1) x.g.pc
  | none => d

/-- An element-wise floating instruction on FP64, FP32, FP16 or BF16; in any other format the encoding is undefined. -/
def Dev.floatInstr (op : FloatOp) (fmt : Fmt) (rm : Rm) (dst a b c : Nat) (x : Gx) (d : Dev) : IRes :=
  let n := elemBytes fmt
  let cmp := op == .lt || op == .le || op == .eq
  let rs := [(dst, if cmp then 1 else regsOf n), (a, regsOf n)] ++ (if op = .sqrt then [] else [(b, regsOf n)])
    ++ (if op = .fma then [(c, regsOf n)] else [])
  match fmt.float with
  | none => .trap stFeature 0 d
  | some f =>
    if !fmt.ieee || badReg x rs then .trap stFeature 0 d
    else
      let r := (threadsOf x.g.active).map fun t =>
        (t, floatOp fmt f rm (Config.freeNat (d.fresh + t)) op (d.elem x fmt t a) (d.elem x fmt t b) (d.elem x fmt t c))
      let d := { d with fresh := d.fresh + 32 }
      let d := r.foldl (fun d q => d.setVval x.k q.1 dst (if cmp then 4 else n) q.2.1) d
      .done (d.groupFlags x 6 (r.map fun q => (q.1, q.2.2)))

/-- FLOAT_INSTRUCTION. -/
def execFloatInstruction (g : GroupRef) (op : FloatOp) (fmt : Fmt) (rm : Rm) (dst a b c : Fin 256) (s : State) :
    Host.Outcome State Fault Refusal :=
  onDev (Dev.instr g (Dev.floatInstr op fmt rm dst a b c)) s

/-- Has a conversion instruction this pair of formats and this rounding attribute? LF4 and LF6 results come from block conversion
alone, and an integer takes roundTiesToEven or roundTowardZero (R134; notes/assumptions/12.md). -/
def convDefined (src dst : Fmt) (rm : Rm) : Bool :=
  src != .a48 && dst != .a48 && dst != .lf6 && dst != .lf4 && (dst.float.isSome || rm == .tiesEven || rm == .towardZero)

/-- Is INF mode refused for a destination (R136)? -/
def infRefused (dst : Fmt) (mode : ConvMode) : Bool := mode == .inf && (dst == .lf8a || dst == .lf6 || dst == .lf4)

/-- A conversion instruction. -/
def Dev.convInstr (src dst : Fmt) (mode : ConvMode) (rm : Rm) (rd rs : Nat) (x : Gx) (d : Dev) : IRes :=
  if infRefused dst mode then .trap stNotEnabled 0 d
  else if !convDefined src dst rm || badReg x [(rd, regsOf (elemBytes dst)), (rs, regsOf (elemBytes src))] then .trap stFeature 0 d
  else
    let r := (threadsOf x.g.active).map fun t => (t, convert src dst mode rm (src.decode (d.elem x src t rs)))
    let d := r.foldl (fun d q => d.setVval x.k q.1 rd (elemBytes dst) q.2.1) d
    .done (d.groupFlags x 7 (r.map fun q => (q.1, q.2.2)))

/-- CONVERSION_INSTRUCTION. -/
def execConversionInstruction (g : GroupRef) (src dst : Fmt) (mode : ConvMode) (rm : Rm) (rd rs : Fin 256) (s : State) :
    Host.Outcome State Fault Refusal :=
  onDev (Dev.instr g (Dev.convInstr src dst mode rm rd rs)) s

/-- The 16 codes, the scale and the flags of a block (R139). -/
def blockCodes (lf4 : Bool) (src : Fmt) (mode : ConvMode) (xs : List Num) : List Nat × Nat × Nat :=
  let s := blockScale lf4 xs
  let r := xs.map fun v => convert src (if lf4 then .lf4 else .lf6) mode .tiesEven (unscale s v)
  (r.map (·.1), s, r.foldl (fun f q => flagOr f q.2) 0)

/-- Is a format the source of a block conversion? -/
def blockSource (f : Fmt) : Bool := f.ieee || f == .lf8a || f == .lf8b

/-- A block conversion: sources in 16 elements from `rs`, codes packed from `rd`, the scale in the register after them. -/
def Dev.blockInstr (lf4 : Bool) (src : Fmt) (mode : ConvMode) (rd rs : Nat) (x : Gx) (d : Dev) : IRes :=
  let w := if lf4 then 4 else 6
  let words := if lf4 then 2 else 3
  if infRefused .lf4 mode then .trap stNotEnabled 0 d
  else if !blockSource src || badReg x [(rd, words + 1), (rs, 16 * regsOf (elemBytes src))] then .trap stFeature 0 d
  else
    let r := (threadsOf x.g.active).map fun t =>
      (t, blockCodes lf4 src mode ((List.range 16).map fun i => src.decode (d.elem x src t (rs + i * regsOf (elemBytes src)))))
    let d := r.foldl (fun d q =>
      let packed := q.2.1.zipIdx.foldl (fun a c => a + c.1 * 2 ^ (w * c.2)) 0
      let d := (List.range words).foldl (fun d i => d.setVreg x.k q.1 (rd + i) (packed / 2 ^ (32 * i))) d
      d.setVreg x.k q.1 (rd + words) q.2.2.1) d
    .done (d.groupFlags x 7 (r.map fun q => (q.1, q.2.2.2)))

/-- BLOCK_CONVERSION. -/
def execBlockConversion (g : GroupRef) (lf4 : Bool) (src : Fmt) (mode : ConvMode) (rd rs : Fin 256) (s : State) :
    Host.Outcome State Fault Refusal :=
  onDev (Dev.instr g (Dev.blockInstr lf4 src mode rd rs)) s

/-- NFLAGS_WRITE (R148): a 1 clears the flag of the cluster's processor, as a W1C write of NUM_FLAGS.TG does. -/
def execNflagsWrite (g : GroupRef) (mask : BitVec 4) (s : State) : Host.Outcome State Fault Refusal :=
  onDev (Dev.instr g fun x d => .done (d.put (numFlags x.phys 4) (flagClear (d.get (numFlags x.phys 4)) mask.toNat))) s

/-! ### Group-wide matrix instructions (R112 to R114) -/

/-- The tickets of a group with one more open: the lowest closed one, or a new one while there are fewer than eight; none while eight
are open. -/
def openTicket (l : List Ticket) (st : Nat) : Option (List Ticket) :=
  match l.findIdx? fun t => !t.isOpen with
  | some i => some (l.set i ⟨true, st⟩)
  | none => if l.length < 8 then some (l ++ [⟨true, st⟩]) else none

/-- The span of a block's own allocation (R113). -/
def Gx.span (x : Gx) : LsSpan := ⟨x.b.lsBase, x.b.lsBytes⟩

/-- The common part: a divided group traps before anything is read (R112); a ninth ticket waits; the descriptor lies in the block's
allocation; then `run` checks and runs it: a trap status, or the ticket's status. -/
def Dev.wideInstr (ureg : Nat) (run : Gx → List Byte → Dev → Except (Option Nat) (Nat × Dev)) (x : Gx) (d : Dev) : IRes :=
  let a := d.ureg x.k x.g ureg
  if x.g.active ≠ x.g.live then .trap stDiverged 0 d
  else if (openTicket x.g.tickets stOk).isNone then .wait
  else if x.b.lsBytes < a + 64 then .trap stBounds 0 d
  else
    match run x (d.lsRead x.phys (x.b.lsBase + a) 64) d with
    | .error (some st) => .trap st 0 d
    | .error none => .wait
    | .ok (st, d) =>
      match openTicket x.g.tickets st with
      | some l => .jump { x.g with tickets := l, pc := x.g.pc + instrBytes } d
      | none => .wait

/-- Does the running image own one of these units of the group's cluster (R92, R114)? -/
def Dev.unitsOwned (d : Dev) (x : Gx) (mask : Nat) : Bool := d.ownedUnits x.l.part (x.k / 48) &&& mask != 0

/-- TMMA: the checks of R86 against the block's allocation, then ownership, then the operation. -/
def Dev.tmmaRun (mask : Nat) (due : Bool) (x : Gx) (b : List Byte) (d : Dev) : Except (Option Nat) (Nat × Dev) :=
  let m := matDesc b
  let st := d.matCheck x.phys x.l.strict (unitsOf mask) x.span m
  if st ≠ stOk then .error (some st)
  else if d.unitsOwned x mask then .error (some stPerm)
  else .ok (d.matRun x.phys x.l.strict mask x.span m ⟨true, x.k % 48⟩ due)

/-- TMMA. -/
def execTmma (g : GroupRef) (units : BitVec 4) (ureg : Fin 64) (due : Bool) (s : State) : Host.Outcome State Fault Refusal :=
  onDev (Dev.instr g (Dev.wideInstr ureg (Dev.tmmaRun units.toNat due))) s

/-- TASTORE. -/
def Dev.tastoreRun (mask : Nat) (x : Gx) (b : List Byte) (d : Dev) : Except (Option Nat) (Nat × Dev) :=
  let a := accDesc b
  let st := d.accCheck mask x.span a
  if st ≠ stOk then .error (some st)
  else if d.unitsOwned x mask then .error (some stPerm)
  else .ok (stOk, d.accStore x.phys mask x.span a)

/-- TASTORE. -/
def execTastore (g : GroupRef) (units : BitVec 4) (ureg : Fin 64) (s : State) : Host.Outcome State Fault Refusal :=
  onDev (Dev.instr g (Dev.wideInstr ureg (Dev.tastoreRun units.toNat))) s

/-- TALOAD. -/
def Dev.taloadRun (mask : Nat) (x : Gx) (b : List Byte) (d : Dev) : Except (Option Nat) (Nat × Dev) :=
  let a := accDesc b
  let st := d.accCheck mask x.span a
  if st ≠ stOk then .error (some st)
  else if d.unitsOwned x mask then .error (some stPerm)
  else .ok (d.accLoad x.phys mask x.span a false)

/-- TALOAD. -/
def execTaload (g : GroupRef) (units : BitVec 4) (ureg : Fin 64) (s : State) : Host.Outcome State Fault Refusal :=
  onDev (Dev.instr g (Dev.wideInstr ureg (Dev.taloadRun units.toNat))) s

/-- TMOVE: the checks of R90 against the block's allocation and the launch's segments, then ownership, then the transfer. -/
def Dev.tmoveRun (mover : Nat) (due : Bool) (x : Gx) (b : List Byte) (d : Dev) : Except (Option Nat) (Nat × Dev) :=
  let m := movDesc b
  let owned := d.ownsMover x.l.part (x.k / 48) mover
  let go (ext : List Extent) (va : Nat) (d : Dev) : Except (Option Nat) (Nat × Dev) :=
    if d.runsWait (movAllRuns ext va m) then .error none
    else
      let r := d.movRun x.phys x.span ext va m due
      .ok (r.1, r.2.launchHost x (m.dir == 1 && (movAllRuns ext va m).any fun r => isHost r.1))
  if !movReserved true m then .error (some stFeature)
  else if movEmpty m then (if owned then .error (some stPerm) else .ok (stOk, d))
  else if m.seg ≠ 0xFF ∨ m.dir = 2 then
    let st := movSegCheck x.span x.l.segs m
    if st ≠ stOk then .error (some st)
    else if owned then .error (some stPerm)
    else
      let sg := x.l.segs.getD m.seg ⟨0, 0, 0, []⟩
      go sg.extents (sg.base + m.memOffset) d
  else if !movLsOk x.span m then .error (some stBounds)
  else
    -- SEG 0xFF: the range as the Roundabout checks it whole (R89, R226)
    match d.translate x.l.root x.l.part m.memOffset (movSpan m) (movNeed m) with
    | (.ok l, d) => if owned then .error (some stPerm) else go l m.memOffset d
    | (.stop st, _) => .error (some st)
    | (.fault _ _, _) => .error none

/-- What TMOVE asks the Roundabout for: its memory range, when it names one by address. -/
def Dev.tmoveRange (x : Gx) (d : Dev) (ureg : Nat) : Option Waiter :=
  let a := d.ureg x.k x.g ureg
  let m := movDesc (d.lsRead x.phys (x.b.lsBase + a) 64)
  if x.g.active = x.g.live ∧ x.g.canRun ∧ a + 64 ≤ x.b.lsBytes ∧ movReserved true m ∧ !movEmpty m ∧ m.seg = 0xFF ∧ m.dir ≠ 2
    ∧ movLsOk x.span m then
    some ⟨0, x.phys, x.l.root, x.l.part, m.memOffset, movSpan m, movNeed m, false, none⟩
  else none

/-- TMOVE. A range that faults parks; the instruction completes, or traps with the status its record was rejected with, when it is
issued again (R228, R229). -/
def Dev.tmove (g : GroupRef) (mover ureg : Nat) (due : Bool) (d : Dev) : Dev :=
  match (d.gx g).bind fun x => (d.tmoveRange x ureg).map fun w => (x, w) with
  | none => Dev.instr g (Dev.wideInstr ureg (Dev.tmoveRun mover due)) d
  | some (x, w) =>
    match d.obtain w with
    | (.parked, e) => e
    | (.stop st, e) => e.trapGroup x.k x.phys x.g x.b st w.va
    | (.ok _, _) => Dev.instr g (Dev.wideInstr ureg (Dev.tmoveRun mover due)) d

/-- TMOVE. -/
def execTmove (g : GroupRef) (mover : Fin 4) (ureg : Fin 64) (due : Bool) (s : State) : Host.Outcome State Fault Refusal :=
  onDev (Dev.tmove g mover ureg due) s

/-- Closes a ticket with the status its operation ended with (R114). -/
def Dev.closeTicket (d : Dev) (r : GroupRef) (i : Nat) : Dev :=
  let k := groupKey r.cluster r.slot
  match d.group k with
  | none => d
  | some g =>
    match g.tickets[i]? with
    | some t => if t.isOpen then d.setGroup k (some { g with tickets := g.tickets.set i { t with isOpen := false } }) else d
    | none => d

/-- TICKET_CLOSE. -/
def execTicketClose (g : GroupRef) (ticket : Fin 8) (s : State) : Host.Outcome State Fault Refusal :=
  onDev (fun d => d.closeTicket g ticket) s

/-- TWAIT (R114, R161): waits while the ticket is open; an error status traps; the block acquire has no cache action. -/
def execTwait (g : GroupRef) (ticket : Fin 8) (s : State) : Host.Outcome State Fault Refusal :=
  onDev (Dev.instr g fun x d =>
    match x.g.tickets[ticket.val]? with
    | none => .done d
    | some t => if t.isOpen then .wait else if t.status ≠ stOk then .trap t.status 0 d else .done d) s

/-! ### Science cores (R163, R170, R177) -/

/-- SCIENCE_FENCE (R163): with R or W bits in both sets it acts at device scope, with I or O bits at system scope. A core's accesses
have taken effect in the Plaza when their commands end, so nothing is left to order (notes/assumptions/1.md). -/
def execScienceFence (core : Fin 96) (pred succ : BitVec 4) (tso : Bool) (s : State) : Host.Outcome State Fault Refusal :=
  let _ := (core, pred, succ, tso)
  onDev (fun d => d) s

/-- A science-core AMO in its slice (R170): an access fault to the core where it is refused or meets an error (R179, R391). -/
def Dev.amo (d : Dev) (core : Nat) (op : AtomOp) (ty : AtomType) (pa operand : Nat) (due : Bool) : Dev :=
  let n := atomBytes ty
  if !atomOk op ty || op = .cas || pa % n ≠ 0 || !d.paOk pa n then d.emit (.scienceFault core)
  else if d.runsWait [(pa, n)] && !isHost pa then d
  else
    match (d.recallCores (lineOf pa)).atomicAt op ty pa operand 0 due with
    | (0, old, d) => d.emit (.science core old)
    | (_, _, d) => d.emit (.scienceFault core)

/-- AMO. -/
def execAmo (core : Fin 96) (op : AtomOp) (ty : AtomType) (pa : Nat) (operand : Nat) (due : Bool) (s : State) :
    Host.Outcome State Fault Refusal :=
  onDev (fun d => d.amo core op ty pa operand due) s

/-- LR (R170): reads 4 or 8 bytes and places the core's reservation on the 128 B line. -/
def Dev.lr (d : Dev) (core pa : Nat) (size8 due : Bool) : Dev :=
  let n := if size8 then 8 else 4
  if pa % n ≠ 0 || !d.paOk pa n then d.emit (.scienceFault core)
  else if d.runsWait [(pa, n)] then d
  else
    match d.readStatus pa n due with
    | (0, d) =>
      let d := { d with plz := { d.plz with reservations := Table.set (fun _ => none) d.plz.reservations core (some (lineOf pa)) } }
      let d := d.dirAdd pa
      d.emit (.science core (leNat (d.read pa n)))
    | (_, d) => d.emit (.scienceFault core)

/-- LR. -/
def execLr (core : Fin 96) (pa : Nat) (size8 : Bool) (due : Bool) (s : State) : Host.Outcome State Fault Refusal :=
  onDev (fun d => d.lr core pa size8 due) s

/-- Drops a core's reservation. -/
def Dev.dropReservation (d : Dev) (core : Nat) : Dev :=
  { d with plz := { d.plz with reservations := Table.del d.plz.reservations core } }

/-- SC (R170): succeeds, with 0, only if the core's reservation on the line stands; else 1 (notes/assumptions/16.md). -/
def Dev.sc (d : Dev) (core pa : Nat) (size8 : Bool) (value : Nat) : Dev :=
  let n := if size8 then 8 else 4
  if pa % n ≠ 0 || !d.paOk pa n then d.emit (.scienceFault core)
  else if d.runsWait [(pa, n)] && !isHost pa then d
  else if Table.get (fun _ => none) d.plz.reservations core ≠ some (lineOf pa) then (d.dropReservation core).emit (.science core 1)
  else if d.writeStatus pa n ≠ stOk then ((d.tryWrite pa n).2.dropReservation core).emit (.scienceFault core)
  else if isHost pa && !d.on F.HST_LINK_BME then ((d.dropReservation core).discardHost pa).emit (.science core 0)
  else (((d.recallCores (lineOf pa)).dropReservation core).write pa (leBytes n value)).emit (.science core 0)

/-- SC. -/
def execSc (core : Fin 96) (pa : Nat) (size8 : Bool) (value : Nat) (s : State) : Host.Outcome State Fault Refusal :=
  onDev (fun d => d.sc core pa size8 value) s

/-- RESERVATION_TIMEOUT (R170): a reservation is dropped after 4,096 SCI cycles without an SC. -/
def execReservationTimeout (core : Fin 96) (s : State) : Host.Outcome State Fault Refusal :=
  onDev (fun d => d.dropReservation core) s

/-- CBO.ZERO of a science core, on a 128 B line (R177). -/
def Dev.cboZero (d : Dev) (core pa : Nat) : Dev :=
  let a := 128 * lineOf pa
  if !d.has ftZeroLine || !d.paOk a 128 then d.emit (.scienceFault core)
  else if isHost a && !d.on F.HST_LINK_BME then d.discardHost a
  else if d.runsWait [(a, 128)] then d
  else if d.writeStatus a 128 ≠ stOk then (d.tryWrite a 128).2.emit (.scienceFault core)
  else (d.recallCores (lineOf a)).zeroLine a

/-- CBO_ZERO. -/
def execCboZero (core : Fin 96) (pa : Nat) (s : State) : Host.Outcome State Fault Refusal :=
  onDev (fun d => d.cboZero core pa) s

/-- Bus Master Enable stayed clear for 0x2C00.01 ms under a load of host memory: a thread load traps with MEM_UNCORRECTABLE, a
science-core load takes an access fault (R333). -/
def Dev.hostLoadTimeout (d : Dev) (g : Option GroupRef) (core : Nat) : Dev :=
  if d.on F.HST_LINK_BME then d
  else
    match g with
    | some r => Dev.instr r (fun _ d => .trap stUncorrectable 0 d) d
    | none => d.emit (.scienceFault core)

/-- HOST_LOAD_TIMEOUT. -/
def execHostLoadTimeout (g : Option GroupRef) (core : Fin 96) (s : State) : Host.Outcome State Fault Refusal :=
  onDev (fun d => d.hostLoadTimeout g core) s

end Sys2Proof.Machine
end

