-- ==== Sys2Proof/Machine/Dispatch.lean ====
section
/-! DEFINITION. One arm for each command of the table: a direct call of its meaning, or a rejection by its mnemonic. -/

namespace Sys2Proof.Machine

open Sys2Proof

def exec (i : Instr) (s : State) : Host.Outcome State Fault Refusal :=
  match i with
  | .pwrgd slotId trefGood => Sys2Proof.Machine.execPwrgd slotId trefGood s
  | .inputLow vin10mV => Sys2Proof.Machine.execInputLow vin10mV s
  | .cablePresenceChange port present => Sys2Proof.Machine.execCablePresenceChange port present s
  | .pllLockLoss domain => Sys2Proof.Machine.execPllLockLoss domain s
  | .bootStage r => Sys2Proof.Machine.execBootStage r s
  | .tickEnable tree => Sys2Proof.Machine.execTickEnable tree s
  | .tickDisable => Sys2Proof.Machine.execTickDisable s
  | .storedEnable tree => Sys2Proof.Machine.execStoredEnable tree s
  | .tckHoldAssert => Sys2Proof.Machine.execTckHoldAssert s
  | .tckHoldClear mask => Sys2Proof.Machine.execTckHoldClear mask s
  | .periodBoundary => Sys2Proof.Machine.execPeriodBoundary s
  | .tickComplete => Sys2Proof.Machine.execTickComplete s
  | .epoch port msg phaseErrPs => Sys2Proof.Machine.execEpoch port msg phaseErrPs s
  | .epochWatchExpiry tree => Sys2Proof.Machine.execEpochWatchExpiry tree s
  | .pingInterval timestamp => Sys2Proof.Machine.execPingInterval timestamp s
  | .ping port msg turnaround => Sys2Proof.Machine.execPing port msg turnaround s
  | .pong port msg arrival => Sys2Proof.Machine.execPong port msg arrival s
  | .hold port msg => Sys2Proof.Machine.execHold port msg s
  | .stretch port msg => Sys2Proof.Machine.execStretch port msg s
  | .stretchReport port msg => Sys2Proof.Machine.execStretchReport port msg s
  | .stretchLowering => Sys2Proof.Machine.execStretchLowering s
  | .parked port msg => Sys2Proof.Machine.execParked port msg s
  | .masterResume tree => Sys2Proof.Machine.execMasterResume tree s
  | .resume port msg => Sys2Proof.Machine.execResume port msg s
  | .load p => Sys2Proof.Machine.execLoad p s
  | .loadDone p due late => Sys2Proof.Machine.execLoadDone p due late s
  | .unstage p => Sys2Proof.Machine.execUnstage p s
  | .abort p => Sys2Proof.Machine.execAbort p s
  | .schStopWrite p value => Sys2Proof.Machine.execSchStopWrite p value s
  | .nop p engine index => Sys2Proof.Machine.execNop p engine index s
  | .matrixOperation p cluster due => Sys2Proof.Machine.execMatrixOperation p cluster due s
  | .storeA48 p cluster => Sys2Proof.Machine.execStoreA48 p cluster s
  | .loadA48 p cluster due => Sys2Proof.Machine.execLoadA48 p cluster due s
  | .threadGroupLaunch p cluster => Sys2Proof.Machine.execThreadGroupLaunch p cluster s
  | .dataMoverTransfer p cluster due => Sys2Proof.Machine.execDataMoverTransfer p cluster due s
  | .send p port due => Sys2Proof.Machine.execSend p port due s
  | .recv p port ended => Sys2Proof.Machine.execRecv p port ended s
  | .collective p engine due => Sys2Proof.Machine.execCollective p engine due s
  | .scheduledCopy p engine due => Sys2Proof.Machine.execScheduledCopy p engine due s
  | .bestEffortWindow p engine => Sys2Proof.Machine.execBestEffortWindow p engine s
  | .slotComplete p engine index => Sys2Proof.Machine.execSlotComplete p engine index s
  | .slotOverrun p engine index excess => Sys2Proof.Machine.execSlotOverrun p engine index excess s
  | .spareSwap logical => Sys2Proof.Machine.execSpareSwap logical s
  | .automaticSwap logical => Sys2Proof.Machine.execAutomaticSwap logical s
  | .swapMove => Sys2Proof.Machine.execSwapMove s
  | .swapDrainTimeout => Sys2Proof.Machine.execSwapDrainTimeout s
  | .spareSelfTest failed => Sys2Proof.Machine.execSpareSelfTest failed s
  | .cluSpillWrite phys value => Sys2Proof.Machine.execCluSpillWrite phys value s
  | .cluErrClear phys => Sys2Proof.Machine.execCluErrClear phys s
  | .settingChange cluster => Sys2Proof.Machine.execSettingChange cluster s
  | .launch q seq => Sys2Proof.Machine.execLaunch q seq s
  | .blockStart launchId cluster => Sys2Proof.Machine.execBlockStart launchId cluster s
  | .blockEnd cluster block launchId => Sys2Proof.Machine.execBlockEnd cluster block launchId s
  | .threadLoad g ls addrs sizeLog2 dst evicted due => Sys2Proof.Machine.execThreadLoad g ls addrs sizeLog2 dst evicted due s
  | .threadStore g ls addrs sizeLog2 src => Sys2Proof.Machine.execThreadStore g ls addrs sizeLog2 src s
  | .floatInstruction g op fmt rm dst a b c => Sys2Proof.Machine.execFloatInstruction g op fmt rm dst a b c s
  | .conversionInstruction g src dst mode rm rd rs => Sys2Proof.Machine.execConversionInstruction g src dst mode rm rd rs s
  | .blockConversion g lf4 src mode rd rs => Sys2Proof.Machine.execBlockConversion g lf4 src mode rd rs s
  | .divergentBranch g reconv fall br => Sys2Proof.Machine.execDivergentBranch g reconv fall br s
  | .threadExit g mask => Sys2Proof.Machine.execThreadExit g mask s
  | .blockBarrier g => Sys2Proof.Machine.execBlockBarrier g s
  | .nflagsWrite g mask => Sys2Proof.Machine.execNflagsWrite g mask s
  | .tmma g units ureg due => Sys2Proof.Machine.execTmma g units ureg due s
  | .tastore g units ureg => Sys2Proof.Machine.execTastore g units ureg s
  | .taload g units ureg => Sys2Proof.Machine.execTaload g units ureg s
  | .tmove g mover ureg due => Sys2Proof.Machine.execTmove g mover ureg due s
  | .ticketClose g ticket => Sys2Proof.Machine.execTicketClose g ticket s
  | .twait g ticket => Sys2Proof.Machine.execTwait g ticket s
  | .fence g scope kind => Sys2Proof.Machine.execFence g scope kind s
  | .atom g op ty order addrs dst a b due => Sys2Proof.Machine.execAtom g op ty order addrs dst a b due s
  | .red g op ty order addrs a b due => Sys2Proof.Machine.execRed g op ty order addrs a b due s
  | .zline g addrs => Sys2Proof.Machine.execZline g addrs s
  | .scienceFence core pred succ tso => Sys2Proof.Machine.execScienceFence core pred succ tso s
  | .amo core op ty pa operand due => Sys2Proof.Machine.execAmo core op ty pa operand due s
  | .lr core pa size8 due => Sys2Proof.Machine.execLr core pa size8 due s
  | .sc core pa size8 value => Sys2Proof.Machine.execSc core pa size8 value s
  | .reservationTimeout core => Sys2Proof.Machine.execReservationTimeout core s
  | .cboZero core pa => Sys2Proof.Machine.execCboZero core pa s
  | .tgdHalt => Sys2Proof.Machine.execTgdHalt s
  | .groupHalted g => Sys2Proof.Machine.execGroupHalted g s
  | .tgdResume => Sys2Proof.Machine.execTgdResume s
  | .tgdStep => Sys2Proof.Machine.execTgdStep s
  | .stepDone g => Sys2Proof.Machine.execStepDone g s
  | .tgdBlockStop => Sys2Proof.Machine.execTgdBlockStop s
  | .tgdBlockResume => Sys2Proof.Machine.execTgdBlockResume s
  | .tgdRdataWrite value => Sys2Proof.Machine.execTgdRdataWrite value s
  | .histogramClear phys unit => Sys2Proof.Machine.execHistogramClear phys unit s
  | .plazaRequest pa len kind tag parity hop => Sys2Proof.Machine.execPlazaRequest pa len kind tag parity hop s
  | .fillReturn slice line due => Sys2Proof.Machine.execFillReturn slice line due s
  | .parityHeaderTimeout tag => Sys2Proof.Machine.execParityHeaderTimeout tag s
  | .wayPowerWrite die value => Sys2Proof.Machine.execWayPowerWrite die value s
  | .wayCleanDone die => Sys2Proof.Machine.execWayCleanDone die s
  | .wayPowerUpDone die => Sys2Proof.Machine.execWayPowerUpDone die s
  | .plzScrWrite die p value => Sys2Proof.Machine.execPlzScrWrite die p value s
  | .alloc q seq => Sys2Proof.Machine.execAlloc q seq s
  | .free q seq => Sys2Proof.Machine.execFree q seq s
  | .memRegionWrite k value => Sys2Proof.Machine.execMemRegionWrite k value s
  | .memBwrWrite p value => Sys2Proof.Machine.execMemBwrWrite p value s
  | .regulatorWindow channel use => Sys2Proof.Machine.execRegulatorWindow channel use s
  | .patrolScrub corrected uncorrectable => Sys2Proof.Machine.execPatrolScrub corrected uncorrectable s
  | .stackThermalStep stack temp16 => Sys2Proof.Machine.execStackThermalStep stack temp16 s
  | .retrain channel => Sys2Proof.Machine.execRetrain channel s
  | .repair channel => Sys2Proof.Machine.execRepair channel s
  | .spare channel => Sys2Proof.Machine.execSpare channel s
  | .channelSequenceStart stack => Sys2Proof.Machine.execChannelSequenceStart stack s
  | .mirrorDone channel => Sys2Proof.Machine.execMirrorDone channel s
  | .redirectSwitch channel => Sys2Proof.Machine.execRedirectSwitch channel s
  | .channelWorkDone channel trained => Sys2Proof.Machine.execChannelWorkDone channel trained s
  | .restoreDone channel => Sys2Proof.Machine.execRestoreDone channel s
  | .restoreSwitch channel => Sys2Proof.Machine.execRestoreSwitch channel s
  | .channelDrift channel => Sys2Proof.Machine.execChannelDrift channel s
  | .unplannedRetrainEnd channel => Sys2Proof.Machine.execUnplannedRetrainEnd channel s
  | .unplannedRetrainTimeout channel => Sys2Proof.Machine.execUnplannedRetrainTimeout channel s
  | .repairRecord source reqId record => Sys2Proof.Machine.execRepairRecord source reqId record s
  | .commitRepairs auth value => Sys2Proof.Machine.execCommitRepairs auth value s
  | .channelSpareCommit auth channel => Sys2Proof.Machine.execChannelSpareCommit auth channel s
  | .channelSpareRelease auth channel => Sys2Proof.Machine.execChannelSpareRelease auth channel s
  | .binding holder root part va len need segment => Sys2Proof.Machine.execBinding holder root part va len need segment s
  | .extentLookup holder root va len => Sys2Proof.Machine.execExtentLookup holder root va len s
  | .staleRootRecheck record => Sys2Proof.Machine.execStaleRootRecheck record s
  | .faultRecordTimeout record => Sys2Proof.Machine.execFaultRecordTimeout record s
  | .rbtCommit root gen => Sys2Proof.Machine.execRbtCommit root gen s
  | .rbtRootWrite root value => Sys2Proof.Machine.execRbtRootWrite root value s
  | .invalidate root base order all => Sys2Proof.Machine.execInvalidate root base order all s
  | .recall holder => Sys2Proof.Machine.execRecall holder s
  | .recallAck holder => Sys2Proof.Machine.execRecallAck holder s
  | .retry record => Sys2Proof.Machine.execRetry record s
  | .reject record status => Sys2Proof.Machine.execReject record status s
  | .flit link bytes => Sys2Proof.Machine.execFlit link bytes s
  | .boulevardRetrain link trigger => Sys2Proof.Machine.execBoulevardRetrain link trigger s
  | .boulevardRetrainDone link ok tests => Sys2Proof.Machine.execBoulevardRetrainDone link ok tests s
  | .x32Degrade module => Sys2Proof.Machine.execX32Degrade module s
  | .guestSidebandAnswer => Sys2Proof.Machine.execGuestSidebandAnswer s
  | .capabilityProfile blocks raw => Sys2Proof.Machine.execCapabilityProfile blocks raw s
  | .qualificationRecord r => Sys2Proof.Machine.execQualificationRecord r s
  | .qualificationTimeout => Sys2Proof.Machine.execQualificationTimeout s
  | .guestRetry => Sys2Proof.Machine.execGuestRetry s
  | .guestRequest write pa len data => Sys2Proof.Machine.execGuestRequest write pa len data s
  | .guestWindowWrite w value => Sys2Proof.Machine.execGuestWindowWrite w value s
  | .sensorPoll logicMax stackMax missing => Sys2Proof.Machine.execSensorPoll logicMax stackMax missing s
  | .telemetryTimeout die => Sys2Proof.Machine.execTelemetryTimeout die s
  | .portEnable port => Sys2Proof.Machine.execPortEnable port s
  | .portDisable port => Sys2Proof.Machine.execPortDisable port s
  | .signalDetect port => Sys2Proof.Machine.execSignalDetect port s
  | .trainingComplete port => Sys2Proof.Machine.execTrainingComplete port s
  | .trainingTimeout port => Sys2Proof.Machine.execTrainingTimeout port s
  | .evidence port e => Sys2Proof.Machine.execEvidence port e s
  | .evidenceTimeout port => Sys2Proof.Machine.execEvidenceTimeout port s
  | .peerRejection port => Sys2Proof.Machine.execPeerRejection port s
  | .lossOfSignal port => Sys2Proof.Machine.execLossOfSignal port s
  | .portRetrain port => Sys2Proof.Machine.execPortRetrain port s
  | .rejectRetryExpiry port => Sys2Proof.Machine.execRejectRetryExpiry port s
  | .portRetry port => Sys2Proof.Machine.execPortRetry port s
  | .linkNak port lastSeq => Sys2Proof.Machine.execLinkNak port lastSeq s
  | .packetForward port hdr data crcOk => Sys2Proof.Machine.execPacketForward port hdr data crcOk s
  | .writePacket port hdr data => Sys2Proof.Machine.execWritePacket port hdr data s
  | .readPacket port hdr due => Sys2Proof.Machine.execReadPacket port hdr due s
  | .atomicPacket port hdr op ty a b => Sys2Proof.Machine.execAtomicPacket port hdr op ty a b s
  | .qmsgPacket port hdr data => Sys2Proof.Machine.execQmsgPacket port hdr data s
  | .respPacket port hdr data => Sys2Proof.Machine.execRespPacket port hdr data s
  | .responseTimeout tag => Sys2Proof.Machine.execResponseTimeout tag s
  | .schedPacket port hdr data => Sys2Proof.Machine.execSchedPacket port hdr data s
  | .gteWinWrite win word1 value => Sys2Proof.Machine.execGteWinWrite win word1 value s
  | .rankAssignment auth rank => Sys2Proof.Machine.execRankAssignment auth rank s
  | .allreduce q seq => Sys2Proof.Machine.execAllreduce q seq s
  | .reduceScatter q seq => Sys2Proof.Machine.execReduceScatter q seq s
  | .broadcast q seq => Sys2Proof.Machine.execBroadcast q seq s
  | .collectiveStart engine due => Sys2Proof.Machine.execCollectiveStart engine due s
  | .exponentFrame port hdr frame => Sys2Proof.Machine.execExponentFrame port hdr frame s
  | .bsiDenseFrame port hdr frame => Sys2Proof.Machine.execBsiDenseFrame port hdr frame s
  | .bsiSparseFrame port hdr frame => Sys2Proof.Machine.execBsiSparseFrame port hdr frame s
  | .flaglistFrame port hdr frame => Sys2Proof.Machine.execFlaglistFrame port hdr frame s
  | .fp32Frame port hdr frame => Sys2Proof.Machine.execFp32Frame port hdr frame s
  | .onebitFrame port hdr frame => Sys2Proof.Machine.execOnebitFrame port hdr frame s
  | .finalFrame port hdr frame => Sys2Proof.Machine.execFinalFrame port hdr frame s
  | .backupDeadline engine collId slot firstBlock => Sys2Proof.Machine.execBackupDeadline engine collId slot firstBlock s
  | .frameStallTimeout engine collId slot => Sys2Proof.Machine.execFrameStallTimeout engine collId slot s
  | .sqrAbort engine => Sys2Proof.Machine.execSqrAbort engine s
  | .segmentPacket port hdr collId data => Sys2Proof.Machine.execSegmentPacket port hdr collId data s
  | .segmentTimeout engine collId => Sys2Proof.Machine.execSegmentTimeout engine collId s
  | .attach port hdr collId child lost seg => Sys2Proof.Machine.execAttach port hdr collId child lost seg s
  | .resend port hdr collId child seg => Sys2Proof.Machine.execResend port hdr collId child seg s
  | .done port hdr collId child count => Sys2Proof.Machine.execDone port hdr collId child count s
  | .broadcastDoneTimeout engine collId => Sys2Proof.Machine.execBroadcastDoneTimeout engine collId s
  | .dbPi q pi => Sys2Proof.Machine.execDbPi q pi s
  | .cqCi q ci => Sys2Proof.Machine.execCqCi q ci s
  | .queueEnable q => Sys2Proof.Machine.execQueueEnable q s
  | .queueDisable q => Sys2Proof.Machine.execQueueDisable q s
  | .queueRestart q => Sys2Proof.Machine.execQueueRestart q s
  | .queueFetch q => Sys2Proof.Machine.execQueueFetch q s
  | .staleDescReread q => Sys2Proof.Machine.execStaleDescReread q s
  | .queueNop q seq => Sys2Proof.Machine.execQueueNop q seq s
  | .copy q seq due => Sys2Proof.Machine.execCopy q seq due s
  | .remoteQmsg q seq => Sys2Proof.Machine.execRemoteQmsg q seq s
  | .remoteAtomic q seq => Sys2Proof.Machine.execRemoteAtomic q seq s
  | .entryComplete q seq => Sys2Proof.Machine.execEntryComplete q seq s
  | .kioskRead offset len due => Sys2Proof.Machine.execKioskRead offset len due s
  | .kioskWrite offset data => Sys2Proof.Machine.execKioskWrite offset data s
  | .kioskAtomicOp offset bytes op a b due => Sys2Proof.Machine.execKioskAtomicOp offset bytes op a b due s
  | .kskWinBaseWrite value => Sys2Proof.Machine.execKskWinBaseWrite value s
  | .hostFacingReset why => Sys2Proof.Machine.execHostFacingReset why s
  | .linkRecovery => Sys2Proof.Machine.execLinkRecovery s
  | .busMasterEnable => Sys2Proof.Machine.execBusMasterEnable s
  | .hostLoadTimeout g core => Sys2Proof.Machine.execHostLoadTimeout g core s
  | .arbiterGrant a inst held ready => Sys2Proof.Machine.execArbiterGrant a inst held ready s
  | .backoffExpiry a inst requester => Sys2Proof.Machine.execBackoffExpiry a inst requester s
  | .p3QuotaWindow a inst => Sys2Proof.Machine.execP3QuotaWindow a inst s
  | .partitionCreate auth p record => Sys2Proof.Machine.execPartitionCreate auth p record s
  | .partitionDestroy auth p record => Sys2Proof.Machine.execPartitionDestroy auth p record s
  | .retire auth logical => Sys2Proof.Machine.execRetire auth logical s
  | .commitMap auth value => Sys2Proof.Machine.execCommitMap auth value s
  | .read source frame => Sys2Proof.Machine.execRead source frame s
  | .write source frame => Sys2Proof.Machine.execWrite source frame s
  | .readSeg source frame => Sys2Proof.Machine.execReadSeg source frame s
  | .writeSeg source frame => Sys2Proof.Machine.execWriteSeg source frame s
  | .segmentedWriteTimeout source key => Sys2Proof.Machine.execSegmentedWriteTimeout source key s
  | .lockoutExpiry slot => Sys2Proof.Machine.execLockoutExpiry slot s
  | .mbxGo => Sys2Proof.Machine.execMbxGo s
  | .featureAccept source reqId vector => Sys2Proof.Machine.execFeatureAccept source reqId vector s
  | .restoreDefaults source reqId => Sys2Proof.Machine.execRestoreDefaults source reqId s
  | .governor m => Sys2Proof.Machine.execGovernor m s
  | .sciCapStep powerW hot16 => Sys2Proof.Machine.execSciCapStep powerW hot16 s
  | .wholeDeviceReset auth => Sys2Proof.Machine.execWholeDeviceReset auth s
  | .zeroise auth => Sys2Proof.Machine.execZeroise auth s
  | .firmwareUpdate auth image => Sys2Proof.Machine.execFirmwareUpdate auth image s
  | .commitRollback auth => Sys2Proof.Machine.execCommitRollback auth s
  | .keyChange auth value => Sys2Proof.Machine.execKeyChange auth value s
  | .fuseWrite auth code => Sys2Proof.Machine.execFuseWrite auth code s
  | .revocationListWrite auth sigs seq list => Sys2Proof.Machine.execRevocationListWrite auth sigs seq list s
  | .partnerKeyListWrite auth sigs seq partners list => Sys2Proof.Machine.execPartnerKeyListWrite auth sigs seq partners list s
  | .quoteNonce source reqId value => Sys2Proof.Machine.execQuoteNonce source reqId value s
  | .quote source reqId => Sys2Proof.Machine.execQuote source reqId s
  | .serviceStateWrite diagnostic => Sys2Proof.Machine.execServiceStateWrite diagnostic s
  | .debugUnlock auth => Sys2Proof.Machine.execDebugUnlock auth s
  | .debugLock auth => Sys2Proof.Machine.execDebugLock auth s
  | .registerWrite offset size value => Sys2Proof.Machine.execRegisterWrite offset size value s
  | .nonce port bytes => Sys2Proof.Machine.execNonce port bytes s
  | .linkAcknowledgement port lastSeq credits => Sys2Proof.Machine.execLinkAcknowledgement port lastSeq credits s
  | .inputInSpecification => Sys2Proof.Machine.execInputInSpecification s
  | .lastRequestStoreExpiry slot => Sys2Proof.Machine.execLastRequestStoreExpiry slot s
  | .poweredHours => Sys2Proof.Machine.execPoweredHours s
  | .pwrEnRise => Sys2Proof.Machine.execPwrEnRise s
  | .pwrEnHoldoffExpiry => Sys2Proof.Machine.execPwrEnHoldoffExpiry s
  | .pwrEnFall => Sys2Proof.Machine.execPwrEnFall s
  | .railOutOfRegulation => Sys2Proof.Machine.execRailOutOfRegulation s
  | .undervoltage => Sys2Proof.Machine.execUndervoltage s
  | .overvoltage => Sys2Proof.Machine.execOvervoltage s
  | .thermtrip => Sys2Proof.Machine.execThermtrip s
  | .perstDeassert => Sys2Proof.Machine.execPerstDeassert s
  | .configurationReady => Sys2Proof.Machine.execConfigurationReady s
  | .trefOutOfTolerance => Sys2Proof.Machine.execTrefOutOfTolerance s
  | .trefRelock => Sys2Proof.Machine.execTrefRelock s
  | .bootStageTimeout => Sys2Proof.Machine.execBootStageTimeout s

end Sys2Proof.Machine
end

