-- ==== Sys2Proof/Machine/Idle.lean ====
section
/-! DEFINITION. What the block does while no command waits: one TICKREF cycle passes (notes/assumptions/2.md). -/

namespace Sys2Proof.Machine

open Sys2Proof

/-- One TICKREF cycle: TIME counts it (R389), and requests and collectives that waited for memory are served where memory answers
again (R209, R241). -/
def Dev.cycle (d : Dev) : Dev := (({ d with time := d.time + 1 } : Dev).serveHeld).serveSquares

/-- The block idles: the cycle passes while PWRGD is high. -/
def State.idle (s : State) : State := if s.dev.pwr.pwrgd then { s with dev := s.dev.cycle } else s

end Sys2Proof.Machine
end

