-- ==== Sys2Proof/Safety.lean ====
section
/-! DEFINITION. What the statements call safe: the vault's invariants, what of it only ever grows, memory in its canonical form, and
what it means that a command leaves a part of the state alone. -/

namespace Sys2Proof.Machine

open Sys2Proof

/-- Slot 0 always holds a key, and its mask always lets it change keys (R382, R386); there are seven more slots. -/
def Vault.sound (v : Vault) : Prop := v.slot0.key.isSome = true ∧ bit v.slot0.mask 1 = true ∧ v.slots.length = 7

/-- What of the vault never goes back: blown fuses (R381), the rollback counter (R380), the LMS leaves used (R383), the sequence numbers of
the signed lists (R385). -/
def Vault.onward (a b : Vault) : Prop :=
  (a.debugFuse.blown = true → b.debugFuse.blown = true) ∧ (a.guestFuse.blown = true → b.guestFuse.blown = true) ∧
    a.rollback ≤ b.rollback ∧ a.leavesUsed ≤ b.leavesUsed ∧ a.revocationSeq ≤ b.revocationSeq ∧ a.partnerSeq ≤ b.partnerSeq

/-- The memories of the device are in canonical form. -/
def Dev.memWf (d : Dev) : Prop := d.mem.wf = true ∧ d.sram.wf = true

/-- Every byte of device memory outside the ranges `l` reads as before. -/
def Dev.sameMemBut (l : List (Nat × Nat)) (a b : Dev) : Prop :=
  ∀ x : Nat, (∀ r ∈ l, x < r.1 ∨ r.1 + r.2 ≤ x) → b.mem.byte x = a.mem.byte x

/-- Every byte of device memory and of local store reads as before. -/
def Dev.sameMem (a b : Dev) : Prop := (∀ x : Nat, b.mem.byte x = a.mem.byte x) ∧ ∀ x : Nat, b.sram.byte x = a.sram.byte x

/-- Every register field outside the list `l` reads as before. -/
def Dev.sameRegsBut (l : List Fld) (a b : Dev) : Prop := ∀ f : Fld, (∀ g ∈ l, f.key ≠ g.key) → b.get f = a.get f

/-- Everything but the device is as before: the queue, Sentry's vault, module flash. -/
def State.sameBut (a b : State) : Prop := b.pending = a.pending ∧ b.vault = a.vault ∧ b.flash = a.flash

/-! ### Words the statements share -/

/-- A command answers a next state of which `P` holds. -/
def Answers (c : Instr) (s : State) (P : State → Prop) : Prop := ∃ t : State, exec c s = .next t ∧ P t

/-- Power is good: PWRGD is high. -/
def State.powered (s : State) : Prop := s.dev.pwr.pwrgd = true

/-- From `a` to `b` exactly one event was raised, and what its record says; its SEQ is the number that was next (R389). -/
def Dev.raisedOne (a b : Dev) (cls status source : Nat) (detail : List Nat) : Prop :=
  ∃ e : Event, b.events = e :: a.events ∧ e.cls = cls ∧ e.status = status ∧ e.source = source ∧ e.detail = detail ∧
    e.seq = a.get F.RAS_EVSEQ_NEXT

/-- The register fields that raising an event may write: the event number, and of an event ring its producer index and its lost and
overflow marks (R329, R389). -/
def eventFields : List Fld :=
  F.RAS_EVSEQ_NEXT :: (List.range 64).flatMap fun r => [F.HST_EVR_CTL_LOST r, F.HST_EVR_CTL_OVF r, F.HST_EVR_IDX_PI r]

/-- The fields that asserting or clearing a HOLD may write (R47, R51). -/
def holdFields : List Fld := [F.TCK_STATUS_CAUSES, F.TCK_STATUS_STATE, F.TCK_STATUS_DCAUSES]

/-- The fields a tick fault may write beside those of its event and its HOLD (R392, R393). -/
def faultFields : List Fld :=
  [F.RAS_TF_VALID, F.RAS_TF_MORE, F.RAS_TF_PART, F.RAS_TF_ENGINE, F.RAS_TF_INDEX, F.RAS_TF_SLOT, F.RAS_TF_STATUS, F.RAS_TF_ADDR_KIND,
    F.RAS_TF_ADDR_ADDR, F.RAS_TF_TN_TN]

/-- Does address `x` lie in an event ring that is enabled in `d` (R329)? -/
def Dev.inEventRing (d : Dev) (x : Nat) : Prop :=
  ∃ r : Nat, r < 64 ∧ d.on (F.HST_EVR_CTL_EN r) = true ∧ d.get (F.HST_EVR_BASE_PA r) ≤ x ∧
    x < d.get (F.HST_EVR_BASE_PA r) + 64 * d.ringSize r

/-- Every byte of memory outside the enabled event rings and the ranges `l` reads as before, and every byte of local store. -/
def Dev.sameMemButRings (l : List (Nat × Nat)) (a b : Dev) : Prop :=
  (∀ x : Nat, ¬ a.inEventRing x → (∀ r ∈ l, x < r.1 ∨ r.1 + r.2 ≤ x) → b.mem.byte x = a.mem.byte x) ∧ b.sram = a.sram

/-- The frame of a command that stores nothing and raises no event: the queue, the vault, flash, memory and local store are as before,
and every register field but those of `l`. -/
def State.onlyFields (l : List Fld) (s t : State) : Prop :=
  State.sameBut s t ∧ Dev.sameRegsBut l s.dev t.dev ∧ t.dev.mem = s.dev.mem ∧ t.dev.sram = s.dev.sram

/-- The frame of a command that may raise events: the same, but for the fields an event writes and the enabled event rings. -/
def State.onlyFieldsEv (l : List Fld) (s t : State) : Prop :=
  State.sameBut s t ∧ Dev.sameRegsBut (l ++ eventFields) s.dev t.dev ∧ Dev.sameMemButRings [] s.dev t.dev

/-- A tick control message of a KIND that this device takes from port `p`: valid, and the device is in a domain (R35, R37, R58). -/
def Dev.takesTick (d : Dev) (p : Fin 12) (w : TickWord) (kind : Nat) : Prop :=
  d.domainPort p = true ∧ (tmsgOf w.toNat).domain = d.get F.TCK_CTRL_DOMAIN ∧ (tmsgOf w.toNat).fieldsOk = true ∧
    (tmsgOf w.toNat).kind = kind ∧ d.tickState ≠ tsOff ∧ d.solo = false

/-- Every byte of local store outside the ranges `l` reads as before. -/
def Dev.sameSramBut (l : List (Nat × Nat)) (a b : Dev) : Prop :=
  ∀ x : Nat, (∀ r ∈ l, x < r.1 ∨ r.1 + r.2 ≤ x) → b.sram.byte x = a.sram.byte x

/-- Where the on-chip bytes of a local-store range stand. -/
def Dev.lsChip (d : Dev) (phys a n : Nat) : Nat × Nat := (sramAt phys a, (d.lsSplit phys a n).1)

/-- Where its spilled bytes stand in device memory (R94). -/
def Dev.lsSpilled (d : Dev) (phys a n : Nat) : Nat × Nat := (d.spillAt phys (a + (d.lsSplit phys a n).1), (d.lsSplit phys a n).2)

/-- The next slot of a stream may start and is not quenched. -/
def Dev.slotStarts (d : Dev) (p engine index op : Nat) (r : SlotRef) (sl : Slot) : Prop :=
  d.slotReady p engine index op = some (r, sl) ∧ d.tick.quench = false

/-- A stream stands at its started slot. -/
def Dev.slotStarted (d : Dev) (p engine index : Nat) (r : SlotRef) : Prop :=
  (d.part p).pos engine index = some ⟨engine, index, r.slot, true⟩

/-- A group runs its next instruction: it may run, and its fetch check passes (R104). -/
def Dev.runs (d : Dev) (r : GroupRef) (x : Gx) : Prop := d.gx r = some x ∧ x.g.canRun = true ∧ fetchStatus x.l x.g.pc = stOk

/-- A live group that does not meet a reconvergence address at `pc` (R110). -/
def Gx.clearAt (x : Gx) (pc : Nat) : Prop := x.g.live ≠ 0 ∧ ∀ e : Reconv, x.g.stack.head? = some e → e.addr ≠ pc

/-- The group stands behind its instruction, its masks, state and stack as before. -/
def Dev.advanced (d : Dev) (x : Gx) : Prop :=
  ∃ g : Group, d.group x.k = some g ∧ g.pc = x.g.pc + instrBytes ∧ g.live = x.g.live ∧ g.active = x.g.active ∧ g.state = x.g.state ∧
    g.stack = x.g.stack

/-- The fields that a change of a group's state may write: the debug summary and the HOLD of R119. -/
def debugFields : List Fld := F.TGD_SUM_DEBUG :: holdFields

/-- Every vector register of a group but `n` of them from `dst` of its active threads reads as before. -/
def Dev.sameVregsBut (a b : Dev) (x : Gx) (dst n : Nat) : Prop :=
  ∀ th r : Nat, th < 32 → r < 256 → (bit x.g.active th = false ∨ r < dst ∨ dst + n ≤ r) → b.vreg x.k x.g th r = a.vreg x.k x.g th r

/-- The fields in which the mailbox shows a response (R353). -/
def mailboxFields : List Fld := F.MBX_STATUS_RSP_LEN :: F.MBX_STATUS_STATE :: (List.range 182).map F.MBX_RSP_DATA

/-- A response has just left for its source; the mailbox's shows in its registers (R353). -/
def Dev.respondedTo (d : Dev) (source : Nat) (frame : List Byte) : Prop :=
  if source = srcMailbox then
    d.get F.MBX_STATUS_STATE = 2 ∧ d.get F.MBX_STATUS_RSP_LEN = frame.length % 2 ^ F.MBX_STATUS_RSP_LEN.w
  else d.outs.head? = some (.lop source frame)

/-- The device takes a write of an object from a source at all. -/
def State.listens (s : State) (source key : Nat) : Prop :=
  s.powered ∧ s.dev.serves key = true ∧ s.dev.carries source = true

/-- A write of an AUTH object that is new and passes steps 3 to 7 of R360. -/
def State.authentic (s : State) (a : Auth) (key : Nat) (value : List Byte) : Prop :=
  s.listens a.source key ∧ s.resent a (authReq a key value) = none ∧ (s.vault.slot a.slot).locked = false ∧
    (s.vault.slot a.slot).counter < a.counter ∧ a.counter < 2 ^ 64 ∧ maskAllows (s.vault.slot a.slot).mask key = true ∧
    ∃ k : List Byte, (s.vault.slot a.slot).key = some k ∧ a.tag = requestTag k (authReq a key value) a

/-- The vault once the counter of an accepted request is committed (R360 step 8). -/
def State.countedVault (s : State) (a : Auth) : Vault :=
  s.vault.setSlot a.slot { s.vault.slot a.slot with failures := 0, counter := a.counter }

/-- The response to an AUTH write. -/
def State.authResponse (s : State) (a : Auth) (key : Nat) (value : List Byte) (status : Nat) : List Byte :=
  responseFrame (s.vault.slot a.slot).key (authReq a key value) status [] 0 (authReq a key value).offset

/-- Flash `fl` with the accepted request and its response as the last of its slot (R361). -/
def State.lastKept (s : State) (a : Auth) (key : Nat) (value : List Byte) (status : Nat) (fl : Flash) : Flash :=
  { fl with lastRequests :=
      ⟨a.slot, a.source, requestBytes (authReq a key value), s.authResponse a key value status⟩ ::
        s.flash.lastRequests.filter fun x => x.slot != a.slot.val }

/-- An AUTH write was accepted and answered with a status: the vault is `v`, flash `fl` with the request kept; of the registers only `l`,
the mailbox's and an event's may have changed, and no byte of memory outside the event rings. -/
def State.authDone (a : Auth) (key : Nat) (value : List Byte) (status : Nat) (v : Vault) (fl : Flash) (l : List Fld) (s t : State) : Prop :=
  t.pending = s.pending ∧ t.vault = v ∧ t.flash = s.lastKept a key value status fl ∧
    t.dev.respondedTo a.source (s.authResponse a key value status) ∧
    Dev.sameRegsBut (l ++ mailboxFields ++ eventFields) s.dev t.dev ∧ Dev.sameMemButRings [] s.dev t.dev

/-- A write without a trailer was answered with a status. -/
def State.plainDone (source reqId key : Nat) (value : List Byte) (status : Nat) (fl : Flash) (l : List Fld) (s t : State) : Prop :=
  t.pending = s.pending ∧ t.vault = s.vault ∧ t.flash = fl ∧
    t.dev.respondedTo source (responseFrame none ⟨source, reqId, 2, key, value, none, 0, none⟩ status [] 0 0) ∧
    Dev.sameRegsBut (l ++ mailboxFields ++ eventFields) s.dev t.dev ∧ Dev.sameMemButRings [] s.dev t.dev

/-- The fields of a register-access event (R7, R389). -/
def regaccFields : List Fld := [F.RAS_REGACC_VALID, F.RAS_REGACC_OFFSET, F.RAS_REGACC_COUNT]

/-- What asking for a translation may write: the two counters of RBT_STAT. -/
def walkFields : List Fld := [F.RBT_STAT_WALKS, F.RBT_STAT_HITS]

/-- The free counts and what they are counted from: MEM_FREE, MEM_CHAN.LIVE, MEM_REGION.ALLOC. -/
def frameFields : List Fld :=
  F.MEM_FREE_HBM_FREE :: F.MEM_FREE_RR_FREE :: (List.range 384).map F.MEM_CHAN_LIVE ++ (List.range 248).map F.MEM_REGION_ALLOC

/-- What a change of channel `c`'s state writes: the state, the resource class, and the free counts where the channel fails. -/
def chanFields (c : Nat) : List Fld := [F.MEM_CHAN_STATE c, F.SCH_TRC_CHAN_OUT, F.MEM_FREE_HBM_FREE, F.MEM_FREE_RR_FREE]

/-- The fields of MEM_CREQ that a request writes. -/
def creqFields : List Fld := [F.MEM_CREQ_CHANNEL, F.MEM_CREQ_OP, F.MEM_CREQ_STATUS, F.MEM_CREQ_REASON]

/-- A queue entry has ended with a status and a result. -/
def Dev.entryEnded (d : Dev) (q seq status result : Nat) : Prop := (d.entry q seq).bind Entry.finished = some (status, result)

/-- The entry `e` of queue `x` as its command finds it: it may run, and it is marked as started. -/
def Dev.entryRuns (d : Dev) (q seq type : Nat) (x : Queue) (e : Entry) (d1 : Dev) : Prop :=
  d.entryFor q seq type = some (x, e) ∧ d1 = d.mapEntry q seq fun e => { e with started := true }

/-- The bytes-sent counters of the ports: what a packet that leaves may write. -/
def sentFields : List Fld := (List.range 12).map F.GTE_PSTAT0_SENT

/-- A RESP to the source of request `h`, of `n` bytes with a status, leaves at once, on port `q` as HEADER `hdr`: its route is known, its
port is up, nothing waits before it, and there is room and credit for it (R260, R262, R266). -/
def Dev.respLeaves (d : Dev) (h : Hdr) (status n q hdr : Nat) : Prop :=
  d.on (F.GTE_RANK_VALID h.src) = true ∧ d.gate.waiting = [] ∧ d.mayTransmit q hdr n = true ∧
    ∃ (k e : Nat) (cross : Bool), d.nextHop (d.get (F.GTE_RANK_POS h.src)) = some (k, e, cross) ∧
      d.outPort (dirCode k e) none = some q ∧
      hdr = (⟨ptResp, 2 + b2n cross, false, h.src, d.rank, h.tag, n, status, 0, 0⟩ : Hdr).code

/-- A request that port `p` delivers and that passes the checks before its window (R274). -/
def Dev.takesRequest (d : Dev) (p hdr ptype feature : Nat) (h : Hdr) : Prop :=
  d.delivered p hdr ptype = some h ∧ d.admits p h.src = true ∧ h.dst = d.rank ∧ hdrOk hdr = true ∧ d.portHas p feature = true

/-- The registers of an engine's last completion (R297, R299). -/
def sqLastFields (g : Nat) : List Fld :=
  [F.SQR_LAST_STATUS g, F.SQR_LAST_DETAIL g, F.SQR_LAST_BACKUP g, F.SQR_LAST_RERUN g, F.SQR_LAST_PASSES g, F.SQR_LAST_SLOT g,
    F.SQR_LAST_ID_COLL_ID g]

/-- The registers that count an engine's waiting and running collectives (R298). -/
def sqCtxFields (g : Nat) : List Fld := [F.SQR_CTX_WAITING g, F.SQR_CTX_ACTIVE g]

/-- The registers that show an engine's broadcast (R300 to R303). -/
def sqBcastFields (g : Nat) : List Fld :=
  [F.SQR_BCAST_VERIFIED g, F.SQR_BCAST_PARENT g, F.SQR_BCAST_ALT g, F.SQR_BCAST_DONE g, F.SQR_BCAST_STATE g]

/-- What a best-effort packet of this device's own may write as it is routed. -/
def routedFields : List Fld := F.GTE_CTRL_BE_IDLE :: F.GTE_DROPS_UNREACH :: F.GTE_DROPS_MISDELIVER :: sentFields

/-- From `a` to `b` the queued collective `c` of engine `g` ended with a status: it has left the engine's lists, SQR_LAST shows it, its
entry ended, and no byte of memory but those of its outputs changed (R299). -/
def Dev.collEnded (a b : Dev) (g : Nat) (c : Coll) (status slot : Nat) : Prop :=
  (b.sq g).running = (a.sq g).running.filter (fun y => !y.same c) ∧ (b.sq g).waiting = (a.sq g).waiting.filter (fun y => !y.same c) ∧
    b.get (F.SQR_LAST_STATUS g) = status ∧ b.get (F.SQR_LAST_SLOT g) = slot % 2 ^ 14 ∧ b.get (F.SQR_LAST_ID_COLL_ID g) = c.id % 2 ^ 64 ∧
    (∀ (q n : Nat) (e : Entry), c.queue = some (q, n) → a.entry q n = some e → e.finished = none → b.entryEnded q n status 0) ∧
    Dev.sameMemBut c.outRuns a b ∧ b.sram = a.sram

/-- A collective at rest: nothing of it waits to be taken, and neither its own shard nor its exponents let it go on by itself. -/
def Coll.resting (c : Coll) : Prop :=
  c.inbox = [] ∧ c.fail = none ∧ c.complete = false ∧
    (c.awaiting ≠ [] ∨ c.ownDone = true ∨ (c.m.fmt = fmBsi ∧ c.reducing = false)) ∧
    (c.m.fmt ≠ fmBsi ∨ c.reducing = true ∨ ∃ b : Nat, b < c.m.blocks ∧ c.pmax b = none)

/-- A best-effort frame of a kind that a port delivers for the queued collective `c` of engine `g`: it passes the port's checks and those
of R298, and is laid out as its header says. -/
def Dev.takesFrame (d : Dev) (p hdr kind : Nat) (frame : List Byte) (h : Hdr) (g : Nat) (c : Coll) : Prop :=
  d.takesRequest p hdr ptSquare ftGateSquare h ∧ h.fixed = false ∧ frame.length = h.len ∧ (frameHdr frame).kind = kind ∧
    d.findColl (frameHdr frame).id = some (g, c) ∧ c.queue.isSome = true ∧ c.m.op ≠ opBroadcast ∧
    frameOk c.m.outBytes frame = true ∧ c.expects h.src frame = true

/-- Such a frame is new, its checksums hold, and the collective, at rest, takes it at once and can read its parts of the frame's blocks. -/
def Dev.stagesFrame (d : Dev) (p hdr kind : Nat) (frame : List Byte) (h : Hdr) (g : Nat) (c : Coll) : Prop :=
  d.takesFrame p hdr kind frame h g c ∧ frameSumsOk frame = true ∧ c.seen.contains (frameKey frame) = false ∧ c.logIn = [] ∧
    c.resting ∧ d.collWaits c = false ∧ c.takes h.src frame = true ∧ (collIn (frameBlocks frame) false (c, d)).1.fail = none

/-- A request of this device of `n` bytes to rank `dst` leaves at once on port `q`. -/
def Dev.reqLeaves (d : Dev) (ptype dst n q : Nat) (cross : Bool) : Prop :=
  d.on F.GTE_ID_RANKED = true ∧ d.on (F.GTE_RANK_VALID dst) = true ∧ d.gate.waiting = [] ∧
    (∃ k e : Nat, d.nextHop (d.get (F.GTE_RANK_POS dst)) = some (k, e, cross) ∧ d.outPort (dirCode k e) none = some q) ∧
    ∀ addr : Nat, d.mayTransmit q (⟨ptype, b2n cross, false, dst, d.rank, d.gate.nextTag, n, addr, 0, 0⟩ : Hdr).code n = true

/-- The SCH registers of partition `p` (R77). -/
def schFields (p : Nat) : List Fld :=
  [F.SCH_SRC_SRC p, F.SCH_SIZE_SIZE p, F.SCH_STOP_VALID p, F.SCH_STOP_PASS p, F.SCH_STATUS_LOAD_STATUS p, F.SCH_STATUS_DETAIL p,
    F.SCH_STATUS_ERR_OFFSET p, F.SCH_STATUS_STAGE p, F.SCH_STATUS_RUN p, F.SCH_PASS_PASS p, F.SCH_PASS_ITICK p, F.SCH_OVR_ENGINE p,
    F.SCH_OVR_DEBUG p, F.SCH_OVR_MORE p, F.SCH_OVR_INDEX p, F.SCH_OVR_SLOT p, F.SCH_OVR_EXCESS p, F.SCH_OVR_TN_TN p]

/-- A frame was answered with a response and nothing else: vault and flash are `v` and `fl`, of the registers only the mailbox's, those
of `l` and an event's may have changed, and no byte of memory outside the event rings. -/
def State.replied (source : Nat) (response : List Byte) (v : Vault) (fl : Flash) (l : List Fld) (s t : State) : Prop :=
  t.pending = s.pending ∧ t.vault = v ∧ t.flash = fl ∧ t.dev.respondedTo source response ∧
    Dev.sameRegsBut (l ++ mailboxFields ++ eventFields) s.dev t.dev ∧ Dev.sameMemButRings [] s.dev t.dev

/-- A frame as it came: its fields are read, its reserved ones are 0, its object is served and its source's transport is in use (R354). -/
def State.takesLop (s : State) (source : Nat) (raw : List Byte) (f : LopFrame) : Prop :=
  readFrame raw = some f ∧ s.listens source f.key ∧ f.reserved = false ∧ f.length ≤ 1400

/-- The commands of the power pins and PERST#, which act while PWRGD is low too (R24 to R28). -/
def powerCommand : Instr → Bool
  | .pwrEnRise | .pwrEnHoldoffExpiry | .pwrEnFall | .railOutOfRegulation | .undervoltage | .overvoltage | .thermtrip | .pwrgd _ _
  | .perstDeassert => true
  | _ => false

/-- The commands that may change what Sentry keeps, in its vault or in flash: power, boot, attestation, Sentry's own timers, and the
object protocol with its mailbox (R20, R26, R31, R360, R361, R367, R372, R381, R383). -/
def reachesSentry : Instr → Bool
  | .pwrgd _ _ | .pwrEnFall | .railOutOfRegulation | .undervoltage | .overvoltage | .thermtrip | .poweredHours => true
  | .bootStage _ | .nonce _ _ | .lockoutExpiry _ | .lastRequestStoreExpiry _ => true
  | .read _ _ | .write _ _ | .readSeg _ _ | .writeSeg _ _ | .mbxGo | .registerWrite _ _ _ => true
  | .repairRecord _ _ _ | .commitRepairs _ _ | .channelSpareCommit _ _ | .channelSpareRelease _ _ | .rankAssignment _ _ => true
  | .partitionCreate _ _ _ | .partitionDestroy _ _ _ | .retire _ _ | .commitMap _ _ | .featureAccept _ _ _ | .restoreDefaults _ _ => true
  | .wholeDeviceReset _ | .zeroise _ | .firmwareUpdate _ _ | .commitRollback _ | .keyChange _ _ | .fuseWrite _ _ => true
  | .revocationListWrite _ _ _ _ | .partnerKeyListWrite _ _ _ _ _ | .quoteNonce _ _ _ | .quote _ _ | .debugUnlock _ | .debugLock _ => true
  | _ => false

end Sys2Proof.Machine
end

