-- ==== Sys2Proof/Certificates/Slice0/Obligations.lean ====
section
/-! DEFINITION. The statements for the provers: what the machine does as a whole, and for every family of commands where a command
completes, what it changes and what it leaves alone. Rule numbers are those of the files of spec/. -/

open Sys2Proof Sys2Proof.Machine

/-- The rails come up on PWR_EN, wait out the hold-off, and PWRGD begins a power cycle. (R24, R27, R31, R368) -/
def Obligations.PowerUpSequence : Prop :=
  (∀ s : State, s.dev.pwr.holdoff = false → s.dev.pwr.ramping = false → s.dev.pwr.pwrgd = false →
    Answers .pwrEnRise s fun t =>
      t.dev.pwr.pwrEn = true ∧ t.dev.pwr.ramping = true ∧ t.dev.pwr.pwrgd = false ∧ t.dev.outs = .rails true :: s.dev.outs ∧
        State.onlyFields [] s t ∧ t.dev.mem = s.dev.mem) ∧
  (∀ s : State, s.dev.pwr.holdoff = true →
    Answers .pwrEnRise s fun t =>
      t.dev.pwr = { s.dev.pwr with pwrEn := true } ∧ t.dev.outs = s.dev.outs ∧ State.onlyFields [] s t ∧ t.dev.mem = s.dev.mem) ∧
  (∀ s : State, s.dev.pwr.pwrEn = true → s.dev.pwr.ramping = false → s.dev.pwr.pwrgd = false →
    Answers .pwrEnHoldoffExpiry s fun t =>
      t.dev.pwr.holdoff = false ∧ t.dev.pwr.ramping = true ∧ t.dev.outs = .rails true :: s.dev.outs ∧ State.onlyFields [] s t ∧
        t.dev.mem = s.dev.mem) ∧
  ∀ (s : State) (slotId : Fin 64) (tref : Bool), s.dev.pwr.pwrEn = true → s.dev.pwr.ramping = true → s.dev.pwr.pwrgd = false →
    Answers (.pwrgd slotId tref) s fun t =>
      t.dev.pwr.pwrgd = true ∧ t.dev.pwr.ramping = false ∧ t.dev.pwr.trefSelected = tref ∧ t.dev.time = 0 ∧
        t.flash.cycles = min (2 ^ 32 - 1) (s.flash.cycles + 1) ∧ t.flash.shutdown = none ∧ t.dev.get F.PWR_BOOT_STATE = dsInit ∧
        t.dev.objNat 0x200005 = slotId.val ∧ t.pending = s.pending ∧ t.flash.hours = s.flash.hours

/-- Every trigger of a controlled power-down drops PWRGD, stops the gate transmitters and records its cause. (R24, R26, R28, R30) -/
def Obligations.PowerDownRecordsItsCause : Prop :=
  (∀ (s : State) (c : Instr) (cause : Nat), s.powered →
    (c, cause) ∈ [(Instr.pwrEnFall, 1), (.railOutOfRegulation, 4), (.undervoltage, 2), (.overvoltage, 3), (.thermtrip, 5)] →
    Answers c s fun t =>
      t.dev.pwr.pwrgd = false ∧ t.flash = { s.flash with shutdown := some cause } ∧ t.dev.outs = .rails false :: s.dev.outs ∧
        (∀ p : Nat, p < 12 → (t.dev.port p).driving = false) ∧ t.vault = s.vault ∧ t.pending = s.pending ∧
        Dev.sameRegsBut [] s.dev t.dev ∧ t.dev.mem = s.dev.mem ∧
        (c = .thermtrip → t.dev.pwr.thermtrip = true) ∧
        (c = .pwrEnFall → t.dev.pwr.thermtrip = false ∧ t.dev.pwr.holdoff = true ∧ t.dev.pwr.pwrEn = false))

/-- Losing TREF or a PLL raises a clock event and holds CLOCK; a relock ends holdover. (R18, R373) -/
def Obligations.ClocksAndHoldover : Prop :=
  (∀ s : State, s.powered → s.dev.pwr.trefSelected = true → s.dev.pwr.holdover = false →
    Answers .trefOutOfTolerance s fun t =>
      t.dev.pwr.holdover = true ∧ bit (t.dev.get F.PWR_CLK_LOCK) 17 = false ∧ t.dev.held hcClock = true ∧
        t.dev.get F.PWR_CLK_LOSSES = min (2 ^ 32 - 1) (s.dev.get F.PWR_CLK_LOSSES + 1) ∧ Dev.raisedOne s.dev t.dev evClock stOk 0 [] ∧
        State.sameBut s t) ∧
  (∀ (s : State) (domain : Fin 18), s.powered →
    Answers (.pllLockLoss domain) s fun t =>
      bit (t.dev.get F.PWR_CLK_LOCK) domain = false ∧
        (∀ i : Nat, i < 18 → i ≠ domain.val → bit (t.dev.get F.PWR_CLK_LOCK) i = bit (s.dev.get F.PWR_CLK_LOCK) i) ∧
        t.dev.get F.PWR_CLK_LOSSES = min (2 ^ 32 - 1) (s.dev.get F.PWR_CLK_LOSSES + 1) ∧ Dev.raisedOne s.dev t.dev evClock stOk 0 [] ∧
        (domain.val ∈ [0, 1, 2, 4, 9, 17] → t.dev.pwr.holdover = true ∧ t.dev.held hcClock = true) ∧ State.sameBut s t) ∧
  ∀ s : State, s.powered → s.dev.pwr.holdover = true →
    Answers .trefRelock s fun t =>
      t.dev.pwr.holdover = false ∧ (∀ i ∈ [0, 1, 2, 4, 9, 17], bit (t.dev.get F.PWR_CLK_LOCK) i = true) ∧
        t.dev.get F.TCK_STATUS_CAUSES = s.dev.get F.TCK_STATUS_CAUSES ∧ State.onlyFields [F.PWR_CLK_LOCK] s t ∧ t.dev.mem = s.dev.mem

/-- Input voltage, cable presence, PERST#, configuration readiness and the powered-hours counter. (R22, R23, R25, R31, R375) -/
def Obligations.InputPinsAndCounters : Prop :=
  (∀ (s : State) (vin : Nat), s.powered → 3800 ≤ vin → vin < 4000 → s.dev.get F.PWR_GOV_INPUT_LOW = 0 →
    Answers (.inputLow vin) s fun t =>
      t.dev.get F.PWR_MEAS_VIN = vin ∧ t.dev.get F.PWR_GOV_INPUT_LOW = 1 ∧
        t.dev.get F.PWR_GOV_LIMIT = min (s.dev.objNat 0x2E0004) (vin / 2) % 2 ^ 16 ∧ Dev.raisedOne s.dev t.dev evClock stOk 0 [] ∧
        State.onlyFieldsEv [F.PWR_MEAS_VIN, F.PWR_GOV_INPUT_LOW, F.PWR_GOV_LIMIT] s t) ∧
  (∀ s : State, s.powered →
    Answers .inputInSpecification s fun t =>
      t.dev.get F.PWR_GOV_INPUT_LOW = 0 ∧ t.dev.get F.PWR_GOV_LIMIT = s.dev.objNat 0x2E0004 % 2 ^ 16 ∧
        State.onlyFields [F.PWR_GOV_INPUT_LOW, F.PWR_GOV_LIMIT] s t ∧ t.dev.mem = s.dev.mem) ∧
  (∀ s : State, Answers .perstDeassert s fun t => t.dev.host.perst = false ∧ State.onlyFields [] s t ∧ t.dev.mem = s.dev.mem) ∧
  (∀ s : State, s.powered → s.dev.host.perst = false →
    Answers .configurationReady s fun t => t.dev.host.cfgReady = true ∧ t.dev.get F.HST_LINK_DL_UP = 1 ∧ State.sameBut s t ∧ t.dev.mem = s.dev.mem) ∧
  (∀ s : State, s.powered →
    Answers .poweredHours s fun t => t = { s with flash := { s.flash with hours := min (2 ^ 32 - 1) (s.flash.hours + 1) } }) ∧
  (∀ (s : State) (die : Fin 21), s.powered → die.val ∉ s.dev.dtd.silent →
    Answers (.telemetryTimeout die) s fun t =>
      die.val ∈ t.dev.dtd.silent ∧ Dev.raisedOne s.dev t.dev evRas stOk die [die.val] ∧ State.onlyFieldsEv [] s t) ∧
  (∀ (s : State) (power : Nat) (hot : Int), s.powered → 1200 ≤ s.dev.get F.PWR_SCI_CAP → s.dev.get F.PWR_SCI_CAP ≤ 3200 →
    Answers (.sciCapStep power hot) s fun t =>
      t.dev.get F.PWR_SCI_CAP = (if 180 < power ∨ 16 * (s.dev.objNat 0x2E0005 : Int) ≤ hot then max 1200 (s.dev.get F.PWR_SCI_CAP - 100)
        else min 3200 (s.dev.get F.PWR_SCI_CAP + 100)) ∧
        State.onlyFields [F.PWR_SCI_CAP] s t ∧ t.dev.mem = s.dev.mem)

/-- Stage 1 boots a copy that qualifies, a stage without one ends in RECOVERY, a stage that runs out of time ends boot. (R371, R372, R243) -/
def Obligations.BootStagesRun : Prop :=
  (∀ (s : State) (r : StageResult), s.powered → s.dev.get F.PWR_BOOT_STATE = dsInit → s.dev.get F.PWR_BOOT_STAGE = 1 →
    s.vault.zeroiseBegun = false → s.vault.bootCopy = 0 → s.vault.rollback ≤ s.vault.copyA.secVersion → r.pass = true → r.copyA = true →
    Answers (.bootStage r) s fun t =>
      t.dev.get F.PWR_BOOT_COPY = 0 ∧ t.dev.ctl.runningCopy = 0 ∧ t.dev.get F.PWR_BOOT_STAGE = 2 ∧ t.dev.get F.PWR_BOOT_STATE = dsInit ∧
        t.dev.get F.PWR_BOOT_ELAPSED = min (2 ^ 32 - 1) r.elapsedMs ∧ t.flash = s.flash ∧ t.pending = s.pending ∧ t.dev.mem = s.dev.mem) ∧
  (∀ (s : State) (r : StageResult), s.powered → s.dev.get F.PWR_BOOT_STATE = dsInit → s.dev.get F.PWR_BOOT_STAGE = 1 →
    r.copyA = false → r.copyB = false →
    Answers (.bootStage r) s fun t =>
      t.dev.get F.PWR_BOOT_STATE = dsRecovery ∧ t.dev.get F.PWR_BOOT_REASON = 1 ∧ t.dev.get F.PWR_BOOT_STAGE = 1 ∧
        Dev.raisedOne s.dev t.dev evRas stOk 0 [1]) ∧
  (∀ (s : State) (r : StageResult), s.powered → s.dev.get F.PWR_BOOT_STATE = dsInit → s.dev.get F.PWR_BOOT_STAGE = 7 →
    Answers (.bootStage r) s fun t =>
      (∀ c ∈ r.failedRing, t.dev.get (F.MEM_RR_STATE c) = csFailed) ∧ t.dev.get F.PWR_BOOT_STAGE = 8 ∧ State.sameBut s t) ∧
  (∀ s : State, s.powered → s.dev.get F.PWR_BOOT_STATE = dsInit →
    Answers .bootStageTimeout s fun t =>
      t.dev.get F.PWR_BOOT_STATE = (if s.dev.get F.PWR_BOOT_STAGE = 1 then dsRecovery else dsFailed) ∧ t.dev.get F.PWR_BOOT_REASON = 6 ∧
        Dev.raisedOne s.dev t.dev evRas stOk 0 [s.dev.get F.PWR_BOOT_STAGE] ∧
        State.onlyFieldsEv [F.PWR_BOOT_STATE, F.PWR_BOOT_REASON] s t) ∧
  ∀ (s : State) (r : StageResult), s.powered → s.dev.get F.PWR_BOOT_STATE ≠ dsInit → Answers (.bootStage r) s fun t => t = s

/-- One run of the governor: its measurements, K_power as the least stretch that fits, THERMAL while a stack is at step 3. (R375, R376,
R377) -/
def Obligations.GovernorTakesTheLeastStretchThatFits : Prop :=
  ∀ (s : State) (m : GovernorIn), s.powered →
    Answers (.governor m) s fun t =>
      let k0 := s.dev.get F.TCK_STATUS_K
      let lim := t.dev.get F.PWR_GOV_LIMIT
      let fits (k : Nat) : Prop :=
        (m.pFix : Int) * (16 + k) + ((m.pMeas : Int) - m.pFix) * (16 + k0) ≤ ((lim : Int) - 20) * (16 + k) ∧
          Config.packagePrediction m.pkgMeas k0 k ≤ 1880
      t.dev.get F.PWR_MEAS_MODULE = m.pMean % 2 ^ 16 ∧ t.dev.get F.PWR_MEAS_PACKAGE = m.pkgMean % 2 ^ 16 ∧
        t.dev.get F.PWR_MEAS_FIX = m.pFix % 2 ^ 16 ∧ t.dev.get F.PWR_MEAS_VIN = m.vin10mV % 2 ^ 16 ∧
        (∀ k : Nat, k ≤ 48 → fits k → (∀ j : Nat, j < k → ¬ fits j) → t.dev.get F.PWR_GOV_K_POWER = k) ∧
        ((∀ j : Nat, j ≤ 48 → ¬ fits j) → t.dev.get F.PWR_GOV_K_POWER = 48) ∧
        t.dev.get F.TCK_STATUS_K_REQ = max (t.dev.get F.PWR_GOV_K_POWER) (t.dev.get F.PWR_GOV_K_THERM) ∧
        ((∃ st : Nat, st < 12 ∧ s.dev.get (F.MEM_STACK_STEP st) = 3) → t.dev.held hcThermal = true) ∧ State.sameBut s t

/-- A stack moves by one thermal step at its thresholds, with an event; step 3 holds THERMAL. (R207, R251, R377) -/
def Obligations.StackThermalSteps : Prop :=
  (∀ (s : State) (st : Fin 12) (t16 : Int), s.powered →
    Answers (.stackThermalStep st t16) s fun t =>
      let old := s.dev.get (F.MEM_STACK_STEP st)
      let up := old < 3 ∧ 16 * (85 + 10 * (old : Int)) ≤ t16
      let down := old ≠ 0 ∧ t16 < 16 * (72 + 10 * (old : Int))
      t.dev.get (F.MEM_STACK_TEMP st) = twos 16 t16 ∧
        (up → t.dev.get (F.MEM_STACK_STEP st) = old + 1 ∧ ∃ l : List Event, t.dev.events = l ++ s.dev.events ∧
          ∃ e ∈ l, e.cls = evMemory ∧ e.source = st.val ∧ e.detail = [st.val, old + 1]) ∧
        (¬ up → down → t.dev.get (F.MEM_STACK_STEP st) = old - 1) ∧
        (¬ up → ¬ down → t.dev.get (F.MEM_STACK_STEP st) = old ∧ t.dev.events = s.dev.events ∧ State.onlyFields [F.MEM_STACK_TEMP st] s t) ∧
        (up → old = 2 → t.dev.held hcThermal = true) ∧ State.sameBut s t) ∧
  ∀ (s : State) (hot : Int) (l : List Int), s.powered → s.dev.compat = true → s.dev.dtd.silent = [] → s.dev.guest ≠ guAdmitted →
    Answers (.sensorPoll hot l []) s fun t =>
      t.dev.get F.PWR_GOV_HOT = twos 16 hot ∧ (∀ st : Nat, st < 12 → ∀ x : Int, l[st]? = some x → t.dev.get (F.MEM_STACK_TEMP st) = twos 16 x) ∧
        State.sameBut s t

/-- ENABLE takes the device from OFF to PARKED or LOCKING, a stored enable once after boot; clearing it leads back to OFF. (R57, R58, R48) -/
def Obligations.TickEnableAndDisable : Prop :=
  (∀ (s : State) (tree : Tree), s.powered → s.dev.on F.TCK_CTRL_ENABLE = false → s.dev.tickState = tsOff → s.dev.master = false →
    Answers (.tickEnable tree) s fun t =>
      t.dev.get F.TCK_CTRL_ENABLE = 1 ∧ t.dev.get F.TCK_HOLD_LOG_DISCARDS = 0 ∧ t.dev.get F.TCK_TN_TN = 0 ∧ t.dev.get F.TCK_EPOCH_E = 0 ∧
        t.dev.tick.tree = tree ∧
        t.dev.tickState =
          (if s.dev.solo then (if s.dev.get F.TCK_STATUS_CAUSES = 0 then tsResuming else tsParked) else tsLocking) ∧
        State.onlyFields [F.TCK_CTRL_ENABLE, F.TCK_HOLD_LOG_DISCARDS, F.TCK_TN_TN, F.TCK_EPOCH_E, F.TCK_STATUS_STATE, F.TCK_STATUS_DEPTH,
          F.TCK_REACH_DEPTH_MAX, F.TCK_REACH_DIAM, F.TCK_REACH_REACH] s t) ∧
  (∀ (s : State) (tree : Tree), s.powered → s.dev.on F.TCK_CTRL_ENABLE = false → s.dev.tickState = tsOff → s.dev.solo = false →
    s.dev.master = false → s.dev.ready = true → s.dev.tick.storedDue = true → leNat (s.flash.configured 0x210008) = 1 →
    s.dev.maskUp = true →
    Answers (.storedEnable tree) s fun t =>
      t.dev.get F.TCK_CTRL_ENABLE = 1 ∧ t.dev.tickState = tsLocking ∧ t.dev.tick.storedDue = false ∧ t.flash = s.flash) ∧
  (∀ (s : State) (tree : Tree), s.powered → s.dev.tick.storedDue = false → Answers (.storedEnable tree) s fun t => t = s) ∧
  (∀ s : State, s.powered → s.dev.tickState = tsLocking ∨ s.dev.tickState = tsParked →
    Answers .tickDisable s fun t =>
      t.dev.get F.TCK_CTRL_ENABLE = 0 ∧ t.dev.tickState = tsOff ∧ t.dev.held hcStep = false ∧
        (∀ p : Nat, p < 8 → (t.dev.part p).stepWait = none) ∧
        State.onlyFields [F.TCK_CTRL_ENABLE, F.TCK_STATUS_CAUSES, F.TCK_STATUS_STATE] s t) ∧
  ∀ s : State, s.powered → s.dev.tickState = tsRunning ∨ s.dev.tickState = tsHolding →
    Answers .tickDisable s fun t =>
      t.dev.get F.TCK_CTRL_ENABLE = 0 ∧ t.dev.tickState = s.dev.tickState ∧ State.onlyFields [F.TCK_CTRL_ENABLE] s t

/-- Software HOLD sets SOFTWARE and a target; TCK_HOLD.CLEAR clears the causes it may clear; a HOLD message is logged, passed on and held.
(R18, R47, R51, R76) -/
def Obligations.HoldCausesAreAssertedAndCleared : Prop :=
  (∀ s : State, s.powered → s.dev.held hcSoftware = false →
    Answers .tckHoldAssert s fun t =>
      t.dev.held hcSoftware = true ∧ (∀ c : Nat, c < 16 → c ≠ hcSoftware → t.dev.held c = s.dev.held c) ∧
        (s.dev.ticking = true → t.dev.tickState = tsHolding ∧
          (s.dev.get F.TCK_TN_TN + if s.dev.solo then 1 else 4) ∈ t.dev.tick.targets) ∧
        (s.dev.ticking = false → t.dev.tickState = s.dev.tickState) ∧ State.onlyFields holdFields s t) ∧
  (∀ (s : State) (mask : BitVec 16), s.powered →
    Answers (.tckHoldClear mask) s fun t =>
      (∀ c : Nat, c < 16 → t.dev.held c =
        (s.dev.held c && !(bit mask.toNat c && (c == hcSoftware || c == hcFault || c == hcOverrun || (c == hcClock && !s.dev.pwr.holdover) ||
          (c == hcMasterLost && s.dev.master))))) ∧
        (bit mask.toNat hcOverrun = true → ∀ p : Nat, p < 8 → t.dev.get (F.SCH_OVR_ENGINE p) = 0 ∧ t.dev.get (F.SCH_OVR_SLOT p) = 0 ∧
          t.dev.get (F.SCH_OVR_EXCESS p) = 0 ∧ t.dev.get (F.SCH_OVR_TN_TN p) = 0) ∧
        (bit mask.toNat hcOverrun = false → State.onlyFields (F.TCK_PHASE_MAX_ERR :: holdFields) s t) ∧ t.dev.mem = s.dev.mem) ∧
  (∀ (s : State) (p : Fin 12) (w : TickWord), s.powered → s.dev.takesTick p w tkHold → s.dev.fresh? (tmsgOf w.toNat) = true →
    s.dev.tick.tickDone = false → s.dev.ticking = true → s.dev.get F.TCK_TN_TN < (tmsgOf w.toNat).tick →
    Answers (.hold p w) s fun t =>
      t.dev.get F.TCK_HOLD_LOG_ORIGIN = (tmsgOf w.toNat).origin ∧ t.dev.get F.TCK_HOLD_LOG_CAUSE = (tmsgOf w.toNat).cause ∧
        t.dev.get F.TCK_HOLD_LOG_HOPS = (tmsgOf w.toNat).aux % 2 ^ 6 ∧ t.dev.get F.TCK_HOLD_LOG_TARGET = (tmsgOf w.toNat).tick % 2 ^ 32 ∧
        (tmsgOf w.toNat).tick ∈ t.dev.tick.targets ∧ t.dev.tickState = tsHolding ∧ t.dev.fresh? (tmsgOf w.toNat) = false ∧
        ((tmsgOf w.toNat).cause = hcFault → t.dev.tick.quench = true) ∧
        (∀ q ∈ s.dev.domainPorts, q ≠ p.val →
          Out.tickMsg q ({ tmsgOf w.toNat with aux := min 0xFFFF ((tmsgOf w.toNat).aux + 1) } : TMsg).word ∈ t.dev.outs) ∧
        State.onlyFields [F.TCK_HOLD_LOG_ORIGIN, F.TCK_HOLD_LOG_CAUSE, F.TCK_HOLD_LOG_HOPS, F.TCK_HOLD_LOG_TARGET, F.TCK_STATUS_STATE] s t) ∧
  ∀ (s : State) (p : Fin 12) (w : TickWord), s.powered → s.dev.takesTick p w tkHold → s.dev.fresh? (tmsgOf w.toNat) = false →
    Answers (.hold p w) s fun t => t = s

/-- A period boundary applies the stretch in OFF, holds SLIP while the tick is late, and starts the next tick when it is due. (R33, R45,
R47, R54, R378) -/
def Obligations.PeriodsTicksAndSlip : Prop :=
  (∀ s : State, s.powered → s.dev.tickState = tsOff →
    Answers .periodBoundary s fun t => t.dev.get F.TCK_STATUS_K = s.dev.get F.TCK_STATUS_K_REQ ∧ State.onlyFields [F.TCK_STATUS_K] s t) ∧
  (∀ s : State, s.powered → s.dev.ticking = true → s.dev.tickFinished = false →
    Answers .periodBoundary s fun t =>
      t.dev.held hcSlip = true ∧ t.dev.get F.TCK_EPOCH_E = (s.dev.get F.TCK_EPOCH_E + 1) % 2 ^ 64 ∧
        t.dev.get F.TCK_TN_TN = s.dev.get F.TCK_TN_TN ∧ t.dev.tick.due = s.dev.tick.due + 1 ∧
        State.onlyFields (F.TCK_EPOCH_E :: F.TCK_STATUS_K :: holdFields) s t) ∧
  (∀ s : State, s.powered → s.dev.ticking = true → s.dev.tickFinished = true → s.dev.solo = false →
    s.dev.get F.TCK_TN_TN ≤ s.dev.tick.due → s.dev.get F.TCK_TN_TN < 2 ^ 64 - 1 → s.dev.tick.targets = [] →
    (∀ p : Nat, p < 8 → s.dev.scheduled p = false) → (∀ p : Nat, p < 8 → s.dev.crossAt p (s.dev.get F.TCK_TN_TN + 1) = none) →
    s.dev.clus.swaps = [] → s.dev.clus.ficArmed = [] →
    Answers .periodBoundary s fun t =>
      t.dev.get F.TCK_TN_TN = s.dev.get F.TCK_TN_TN + 1 ∧ t.dev.tickState = tsRunning ∧
        t.dev.get F.TCK_STATUS_K = s.dev.stretchAt (s.dev.get F.TCK_TN_TN + 1) % 2 ^ 6 ∧ t.dev.tick.tickDone = false ∧
        State.onlyFields [F.TCK_EPOCH_E, F.TCK_STATUS_K, F.TCK_TN_TN, F.TCK_STATUS_STATE] s t) ∧
  (∀ (s : State) (p : Nat) (im : Image), s.powered → p < 8 → s.dev.ticking = true → s.dev.tickFinished = true → s.dev.solo = false →
    s.dev.get F.TCK_TN_TN ≤ s.dev.tick.due → s.dev.get F.TCK_TN_TN < 2 ^ 64 - 1 → s.dev.tick.targets = [] →
    (∀ q : Nat, q < 8 → q ≠ p → s.dev.scheduled q = false) → (∀ q : Nat, q < 8 → s.dev.crossAt q (s.dev.get F.TCK_TN_TN + 1) = none) →
    s.dev.scheduled p = true → (s.dev.part p).running = some im → (s.dev.part p).staged = none →
    s.dev.endedBy p im (s.dev.get F.TCK_TN_TN + 1) = false →
    Answers .periodBoundary s fun t =>
      let n := s.dev.get F.TCK_TN_TN + 1
      t.dev.get F.TCK_TN_TN = n ∧ t.dev.get (F.SCH_PASS_PASS p) = (n - im.baseTn) / max 1 im.ticks % 2 ^ 32 ∧
        t.dev.get (F.SCH_PASS_ITICK p) = (n - im.baseTn) % max 1 im.ticks % 2 ^ 32 ∧
        (t.dev.part p).positions = startPositions im ((n - im.baseTn) % max 1 im.ticks) ∧ (t.dev.part p).tokens = []) ∧
  (∀ s : State, s.powered → s.dev.ticking = true → s.dev.tick.tickDone = false → s.dev.slotsDone = true → s.dev.solo = false →
    s.dev.on F.TCK_CTRL_ENABLE = true → s.dev.get F.TCK_TN_TN < 2 ^ 64 - 1 → (s.dev.get F.TCK_TN_TN + 1) ∈ s.dev.tick.targets →
    Answers .tickComplete s fun t =>
      t.dev.tickState = tsParked ∧ t.dev.get F.TCK_TN_TN = s.dev.get F.TCK_TN_TN + 1 ∧ t.dev.held hcSlip = false ∧
        t.dev.tick.quench = false ∧ t.dev.tick.tickDone = true ∧ State.sameBut s t) ∧
  ∀ s : State, s.powered → s.dev.ticking = true → s.dev.tick.tickDone = false → s.dev.slotsDone = true →
    s.dev.tick.due ≤ s.dev.get F.TCK_TN_TN → s.dev.stopsBefore (s.dev.get F.TCK_TN_TN + 1) = false →
    Answers .tickComplete s fun t => t.dev.tick.tickDone = true ∧ State.onlyFields [] s t

/-- A member follows the EPOCH of its parent, loses its master after 64 periods, and measures its link by PING and PONG. (R37, R39, R41) -/
def Obligations.EpochsAndLinkDelay : Prop :=
  (∀ (s : State) (p : Fin 12) (w : TickWord) (err : Int), s.powered → s.dev.takesTick p w tkEpoch → s.dev.member = true →
    s.dev.tick.tree.parent = some p →
    Answers (.epoch p w err) s fun t =>
      t.dev.get F.TCK_EPOCH_E = (tmsgOf w.toNat).tick ∧ t.dev.get F.TCK_PHASE_ERR = twos 32 err ∧ t.dev.tick.sinceEpoch = 0 ∧
        t.dev.tick.watching = true ∧ t.dev.held hcMasterLost = false ∧ State.onlyFields ([F.TCK_EPOCH_E, F.TCK_PHASE_ERR,
          F.TCK_PHASE_MAX_ERR] ++ holdFields) s t) ∧
  (∀ (s : State) (tree : Tree), s.powered → s.dev.member = true → s.dev.tickState ≠ tsOff → s.dev.tick.watching = true →
    64 ≤ s.dev.tick.sinceEpoch → s.dev.held hcMasterLost = false → s.dev.inForceNat 0x210004 ≠ s.dev.rank →
    Answers (.epochWatchExpiry tree) s fun t => t.dev.held hcMasterLost = true ∧ t.dev.member = true ∧ State.onlyFields holdFields s t) ∧
  (∀ (s : State) (tree : Tree), s.powered → s.dev.member = true → s.dev.tickState ≠ tsOff → s.dev.tick.watching = true →
    64 ≤ s.dev.tick.sinceEpoch → s.dev.held hcMasterLost = false → s.dev.inForceNat 0x210004 = s.dev.rank →
    s.dev.on F.GTE_ID_RANKED = true →
    Answers (.epochWatchExpiry tree) s fun t =>
      t.dev.held hcMasterLost = true ∧ t.dev.master = true ∧ t.dev.get F.TCK_CTRL_MASTER_RANK = s.dev.rank ∧ State.sameBut s t) ∧
  (∀ (s : State) (ts : Nat) (p : Fin 12), s.powered → s.dev.member = true → s.dev.tickState ≠ tsOff → s.dev.tick.tree.parent = some p →
    Answers (.pingInterval ts) s fun t =>
      t.dev.outs = .tickMsg p (s.dev.ownTick tkPing 0 0 0 0 0 ts) :: s.dev.outs ∧ t.dev.tick.pingOut = some (ts % 2 ^ 64) ∧
        State.onlyFields [] s t) ∧
  (∀ (s : State) (p : Fin 12) (w : TickWord) (turn : Nat), s.powered → s.dev.takesTick p w tkPing →
    Answers (.ping p w turn) s fun t =>
      (∃ ts : Nat, t.dev.outs = .tickMsg p (s.dev.ownTick tkPong 0 0 0 0 turn ts) :: s.dev.outs) ∧ State.onlyFields [] s t) ∧
  (∀ (s : State) (p : Fin 12) (w : TickWord) (arrival ts : Nat), s.powered → s.dev.takesTick p w tkPong →
    s.dev.tick.tree.parent = some p → s.dev.tick.pingOut = some ts →
    Answers (.pong p w arrival) s fun t =>
      Table.get (fun _ => 0) t.dev.tick.delays p = (arrival - ts - (tmsgOf w.toNat).aux) / 2 ∧ t.dev.tick.pingOut = none ∧
        State.onlyFields [] s t) ∧
  ∀ (s : State) (p : Fin 12) (w : TickWord) (kind : Nat), s.powered →
    s.dev.domainPort p = false ∨ (tmsgOf w.toNat).domain ≠ s.dev.get F.TCK_CTRL_DOMAIN ∨ (tmsgOf w.toNat).fieldsOk = false ∨
      (tmsgOf w.toNat).kind ≠ kind →
    ∀ c : Instr, (c, kind) ∈ [(Instr.epoch p w 0, tkEpoch), (.ping p w 0, tkPing), (.pong p w 0, tkPong), (.hold p w, tkHold),
      (.stretch p w, tkStretch), (.stretchReport p w, tkStretch), (.parked p w, tkParked), (.resume p w, tkResume)] →
    Answers c s fun t =>
      t.dev.get F.TCK_HOLD_LOG_DISCARDS = min 255 (s.dev.get F.TCK_HOLD_LOG_DISCARDS + 1) ∧
        State.onlyFields [F.TCK_HOLD_LOG_DISCARDS] s t

/-- Stretch messages are held for their target, reports go up the tree, and the master resumes a domain that is parked. (R42, R51, R52,
R53, R54, R55) -/
def Obligations.StretchParkAndResume : Prop :=
  (∀ (s : State) (p : Fin 12) (w : TickWord), s.powered → s.dev.takesTick p w tkStretch → (tmsgOf w.toNat).tick ≠ 0 →
    s.dev.fresh? (tmsgOf w.toNat) = true →
    Answers (.stretch p w) s fun t =>
      (∃ r ∈ t.dev.tick.stretches, r.tn = (tmsgOf w.toNat).tick ∧ r.k = (tmsgOf w.toNat).k) ∧
        t.dev.fresh? (tmsgOf w.toNat) = false ∧ State.onlyFields [] s t) ∧
  (∀ (s : State) (p : Fin 12) (w : TickWord), s.powered → s.dev.takesTick p w tkStretch → (tmsgOf w.toNat).tick = 0 →
    ∀ c ∈ [Instr.stretch p w, .stretchReport p w], Answers c s fun t =>
      (s.dev.master = true → Table.get (fun _ => 0) t.dev.tick.kReqs (tmsgOf w.toNat).origin = (tmsgOf w.toNat).k ∧ t.dev.outs = s.dev.outs) ∧
        (s.dev.master = false → ∀ q : Fin 12, s.dev.tick.tree.parent = some q →
          t.dev.outs = .tickMsg q (tmsgOf w.toNat).word :: s.dev.outs) ∧ State.onlyFields [] s t) ∧
  (∀ s : State, s.powered → s.dev.master = true → s.dev.ticking = true → 1024 ≤ s.dev.tick.belowFor → s.dev.tick.stretches = [] →
    Answers .stretchLowering s fun t =>
      t.dev.tick.stretches = [⟨s.dev.get F.TCK_TN_TN + 4, s.dev.topRequest, true⟩] ∧ t.dev.tick.belowFor = 0 ∧ State.onlyFields [] s t) ∧
  (∀ (s : State) (p : Fin 12) (w : TickWord), s.powered → s.dev.takesTick p w tkParked →
    Answers (.parked p w) s fun t =>
      (s.dev.master = true → ∃ r ∈ t.dev.tick.parked, r.rank = (tmsgOf w.toNat).origin ∧ r.causes = (tmsgOf w.toNat).aux ∧
        r.tn = (tmsgOf w.toNat).tick) ∧
        (s.dev.master = false → ∀ q : Fin 12, s.dev.tick.tree.parent = some q →
          t.dev.outs = .tickMsg q (tmsgOf w.toNat).word :: s.dev.outs) ∧ State.onlyFields [F.TCK_STATUS_DCAUSES] s t) ∧
  (∀ (s : State) (tree : Tree), s.powered → s.dev.master = true → s.dev.tickState = tsParked → s.dev.get F.TCK_STATUS_CAUSES = 0 →
    tree.tooDeep = [] → reachOk tree.reachNs (s.dev.get F.TCK_CTRL_LEN_PEND) = true →
    s.dev.tick.members ≠ [] → s.dev.runningParts = [] →
    (∀ r ∈ s.dev.tick.members, ∃ x ∈ s.dev.tick.parked, x.rank = r ∧ x.rank ≠ s.dev.rank) →
    (∀ x ∈ s.dev.tick.parked, x.causes = 0 ∧ x.tn = s.dev.get F.TCK_TN_TN ∧ x.runImg = false) →
    Answers (.masterResume tree) s fun t =>
      t.dev.tickState = tsResuming ∧
        t.dev.tick.resumeAt = some (s.dev.get F.TCK_EPOCH_E + 4, s.dev.get F.TCK_CTRL_LEN_PEND, s.dev.get F.TCK_STATUS_K) ∧
        (∀ q : Nat, q < 12 → bit tree.children.toNat q = true →
          Out.tickMsg q (s.dev.ownTick tkResume 0 (s.dev.get F.TCK_STATUS_K) (s.dev.get F.TCK_CTRL_LEN_PEND) 0 0 (s.dev.get F.TCK_EPOCH_E + 4))
            ∈ t.dev.outs) ∧
        State.onlyFields [F.TCK_STATUS_STATE, F.TCK_STATUS_DCAUSES, F.TCK_STATUS_DEPTH, F.TCK_REACH_DEPTH_MAX, F.TCK_REACH_DIAM,
          F.TCK_REACH_REACH] s t) ∧
  ∀ (s : State) (p : Fin 12) (w : TickWord), s.powered → s.dev.takesTick p w tkResume → s.dev.member = true →
    s.dev.tick.tree.parent = some p → s.dev.tickState = tsParked →
    Answers (.resume p w) s fun t =>
      t.dev.tickState = tsResuming ∧ t.dev.tick.resumeAt = some ((tmsgOf w.toNat).tick, (tmsgOf w.toNat).len, (tmsgOf w.toNat).k) ∧
        State.onlyFields [F.TCK_STATUS_STATE] s t

/-- LOAD starts a load, a load that passes stages its image, UNSTAGE empties the buffer, ABORT ends the running image with FAULT, SCH_STOP
names a last pass. (R72, R73, R74, R77, R412, R414) -/
def Obligations.ImagesLoadStageStopAndAbort : Prop :=
  (∀ (s : State) (p : Fin 8), s.powered → s.dev.has ftScheduled = true → s.dev.scheduled p = true → (s.dev.part p).loading = none →
    Answers (.load p) s fun t =>
      (∃ l : Load, (t.dev.part p).loading = some l ∧ l.src = s.dev.get (F.SCH_SRC_SRC p) ∧ l.size = s.dev.get (F.SCH_SIZE_SIZE p) ∧
        l.root = s.dev.rootOfPart p ∧ l.image = none) ∧
        (t.dev.part p).staged = (s.dev.part p).staged ∧ (t.dev.part p).running = (s.dev.part p).running ∧
        t.dev.get (F.SCH_STATUS_STAGE p) = sgLoading ∧ State.onlyFields [F.SCH_STATUS_STAGE p] s t) ∧
  (∀ (s : State) (p : Fin 8), s.powered → s.dev.has ftScheduled = true → s.dev.scheduled p = true → (s.dev.part p).loading ≠ none →
    Answers (.load p) s fun t => t = s) ∧
  (∀ (s : State) (p : Fin 8), s.powered → s.dev.has ftScheduled = true → s.dev.scheduled p = false →
    Answers (.load p) s fun t => Dev.raisedOne s.dev t.dev evSchedule stPerm p [5, 0, 0] ∧ State.onlyFieldsEv [] s t) ∧
  (∀ (s : State) (p : Fin 8) (due late : Bool) (l : Load), s.powered → (s.dev.part p).loading = some l → l.image = none →
    l.size < 256 ∨ 2 ^ 26 < l.size →
    Answers (.loadDone p due late) s fun t =>
      t.dev.get (F.SCH_STATUS_LOAD_STATUS p) = stBounds ∧ t.dev.get (F.SCH_STATUS_DETAIL p) = 1 ∧
        t.dev.get (F.SCH_STATUS_ERR_OFFSET p) = 0 ∧ t.dev.get (F.SCH_STATUS_STAGE p) = sgEmpty ∧ (t.dev.part p).staged = none ∧
        (t.dev.part p).loading = none ∧ Dev.raisedOne s.dev t.dev evSchedule stBounds p [5, 1, 0] ∧
        State.onlyFieldsEv [F.SCH_STATUS_LOAD_STATUS p, F.SCH_STATUS_DETAIL p, F.SCH_STATUS_ERR_OFFSET p, F.SCH_STATUS_STAGE p] s t) ∧
  (∀ (s : State) (p : Fin 8) (due late : Bool) (l : Load) (im : Image), s.powered → (s.dev.part p).loading = some l → l.image = some im →
    im.segs = [] → s.dev.boundWaits im = false → s.dev.imageBoundFail p im l.descOff = none → s.dev.baseOk p im = true →
    Answers (.loadDone p due late) s fun t =>
      t.dev.get (F.SCH_STATUS_LOAD_STATUS p) = stOk ∧ t.dev.get (F.SCH_STATUS_STAGE p) = sgStaged ∧ (t.dev.part p).staged = some im ∧
        (t.dev.part p).loading = none ∧ (t.dev.part p).running = (s.dev.part p).running ∧
        Dev.raisedOne s.dev t.dev evSchedule stOk p [5, 0, 0] ∧
        State.onlyFieldsEv [F.SCH_STATUS_LOAD_STATUS p, F.SCH_STATUS_DETAIL p, F.SCH_STATUS_ERR_OFFSET p, F.SCH_STATUS_STAGE p] s t) ∧
  (∀ (s : State) (p : Fin 8), s.powered → s.dev.scheduled p = true →
    Answers (.unstage p) s fun t =>
      (t.dev.part p).staged = none ∧ (t.dev.part p).loading = (s.dev.part p).loading ∧ (t.dev.part p).running = (s.dev.part p).running ∧
        t.dev.get (F.SCH_STATUS_STAGE p) = (if (s.dev.part p).loading.isSome then sgLoading else sgEmpty) ∧
        State.onlyFields [F.SCH_STATUS_STAGE p] s t) ∧
  (∀ (s : State) (p : Fin 8), s.powered → s.dev.get (F.SCH_STATUS_RUN p) = rnRunning →
    Answers (.abort p) s fun t =>
      t.dev.get (F.SCH_STATUS_RUN p) = rnAborted ∧ t.dev.get (F.SCH_STOP_VALID p) = 0 ∧ t.dev.held hcFault = true ∧
        (t.dev.part p).running = none ∧ (t.dev.part p).positions = [] ∧ (t.dev.part p).staged = (s.dev.part p).staged ∧
        State.sameBut s t ∧ Dev.sameRegsBut ([F.SCH_STATUS_RUN p, F.SCH_STOP_VALID p, F.TGD_SUM_DEBUG] ++ holdFields) s.dev t.dev ∧
        Dev.sameMemBut (s.dev.part p).wrote s.dev t.dev ∧ t.dev.sram = s.dev.sram ∧ t.dev.events = s.dev.events) ∧
  ∀ (s : State) (p : Fin 8) (v : Word), s.powered → s.dev.scheduled p = true → s.dev.on (F.SCH_STOP_VALID p) = false →
    (s.dev.part p).running = none ∨ s.dev.get (F.SCH_PASS_PASS p) < bits v.toNat 31 0 →
    Answers (.schStopWrite p v) s fun t =>
      t.dev.get (F.SCH_STOP_VALID p) = bits v.toNat 32 32 ∧ t.dev.get (F.SCH_STOP_PASS p) = bits v.toNat 31 0 ∧
        State.onlyFields [F.SCH_STOP_VALID p, F.SCH_STOP_PASS p] s t

/-- A slot waits for its token, starts, completes and sets its token; an overrun is recorded with its excess and holds OVERRUN. (R64, R65,
R66, R71, R75, R76, R393) -/
def Obligations.SlotsWaitStartCompleteAndOverrun : Prop :=
  (∀ (s : State) (p : Fin 8) (cl : Fin 384) (port : Fin 12) (sq : Fin 2) (ce : Fin 16) (eng : Fin 7) (idx : Nat) (b : Bool) (c : Instr)
      (e i op : Nat), s.powered →
    (c, e, i, op) ∈ [(Instr.nop p eng idx, eng.val, idx, opNop), (.matrixOperation p cl b, engTensor, cl.val, opMatrix),
      (.storeA48 p cl, engTensor, cl.val, opAccStore), (.loadA48 p cl b, engTensor, cl.val, opAccLoad),
      (.threadGroupLaunch p cl, engLaunch, cl.val, opLaunch), (.dataMoverTransfer p cl b, engMover, cl.val, opMover),
      (.send p port b, engGate, port.val, opSend), (.recv p port b, engGate, port.val, opRecv),
      (.collective p sq b, engSquare, sq.val, opCollective), (.scheduledCopy p ce b, engCopy, ce.val, opCopy),
      (.bestEffortWindow p ce, engCopy, ce.val, opWindow)] →
    (s.dev.slotReady p e i op = none → Answers c s fun t => t = s) ∧
    ∀ (r : SlotRef) (sl : Slot), s.dev.slotReady p e i op = some (r, sl) → s.dev.tick.quench = true →
      Answers c s fun t => t.dev.slotStarted p e i r ∧ State.onlyFields [] s t) ∧
  (∀ (s : State) (p : Fin 8) (eng : Fin 7) (idx : Nat) (r : SlotRef) (sl : Slot), s.powered → s.dev.slotStarts p eng idx opNop r sl →
    Answers (.nop p eng idx) s fun t => t.dev.slotStarted p eng idx r ∧ State.onlyFields [] s t) ∧
  (∀ (s : State) (p : Fin 8) (ce : Fin 16) (r : SlotRef) (sl : Slot), s.powered → s.dev.slotStarts p engCopy ce opWindow r sl →
    Answers (.bestEffortWindow p ce) s fun t => t.dev.slotStarted p engCopy ce r ∧ State.onlyFields [] s t) ∧
  (∀ (s : State) (p : Fin 8) (eng : Fin 7) (idx : Nat) (q : StreamPos) (sl : Slot), s.powered →
    s.dev.openSlot p eng idx = some (q, sl) → s.dev.slotEnded p idx q sl = true →
    Answers (.slotComplete p eng idx) s fun t =>
      (t.dev.part p).pos eng idx = some ⟨eng, idx, q.next + 1, false⟩ ∧ (sl.signal ≠ 0xFF → sl.signal ∈ (t.dev.part p).tokens) ∧
        (∀ k : Nat, k ≠ sl.signal → (k ∈ (t.dev.part p).tokens ↔ k ∈ (s.dev.part p).tokens)) ∧ State.onlyFields [] s t) ∧
  ∀ (s : State) (p : Fin 8) (eng : Fin 7) (idx excess : Nat) (q : StreamPos) (sl : Slot), s.powered →
    s.dev.openSlot p eng idx = some (q, sl) → 0 < excess → sl.op ≠ opNop → s.dev.tick.quench = false → s.dev.overran p = false →
    s.dev.held hcDebug = false →
    Answers (.slotOverrun p eng idx excess) s fun t =>
      t.dev.get (F.SCH_OVR_ENGINE p) = eng ∧ t.dev.get (F.SCH_OVR_INDEX p) = idx % 2 ^ 16 ∧ t.dev.get (F.SCH_OVR_SLOT p) = q.next % 2 ^ 24 ∧
        t.dev.get (F.SCH_OVR_EXCESS p) = min 0xFFFF excess ∧ t.dev.get (F.SCH_OVR_MORE p) = 0 ∧ t.dev.get (F.SCH_OVR_DEBUG p) = 0 ∧
        t.dev.get (F.SCH_OVR_TN_TN p) = s.dev.get F.TCK_TN_TN ∧ t.dev.held hcOverrun = true ∧
        (∃ e : Event, t.dev.events = e :: s.dev.events ∧ e.cls = evSchedule ∧ e.status = stOverrun ∧ e.source = p) ∧
        State.onlyFieldsEv ([F.SCH_OVR_ENGINE p, F.SCH_OVR_INDEX p, F.SCH_OVR_SLOT p, F.SCH_OVR_EXCESS p, F.SCH_OVR_MORE p, F.SCH_OVR_DEBUG p,
          F.SCH_OVR_TN_TN p] ++ holdFields) s t

/-- A matrix operation of one integer step leaves the saturated dot products; accumulator store and load move 8 KiB a unit; a failed check
faults the tick. (R81, R83, R84, R85, R86, R88) -/
def Obligations.TensorSlotsMoveAndMultiply : Prop :=
  (∀ (s : State) (p : Fin 8) (cl : Fin 384) (phys : Nat) (r : SlotRef) (sl : Slot), s.powered →
    s.dev.slotStarts p engTensor cl opMatrix r sl → s.dev.physOf cl = some phys →
    let d := s.dev.startSlot r
    let m := matDesc (d.imageDesc p sl.desc)
    let sp := d.windowSpan p phys
    d.matCheck phys sl.strict (unitsOf sl.units) sp m = stOk → m.kSteps = 1 → m.acc = false → sl.strict = false → codeFloat m.fmtA = false →
    ((matReads sp m (unitsOf sl.units)).any fun x => d.lsBad phys x.1 x.2) = false →
    Answers (.matrixOperation p cl false) s fun t =>
      t.dev.slotStarted p engTensor cl r ∧
        (∀ u ∈ unitsOf sl.units, ∀ k : Nat, k < 1024 →
          (t.dev.accs phys u)[k]? = some (2 ^ 48 + twos 48 (intStep (pairsAt (d.tileA phys sp m u 0) (d.tileB phys sp m u 0) k) none).1)) ∧
        (∀ e : Nat × Nat, (∀ u ∈ unitsOf sl.units, e.1 < accKey phys u 0 ∨ accKey phys u 0 + 1024 ≤ e.1) →
          (e ∈ t.dev.clus.acc ↔ e ∈ s.dev.clus.acc)) ∧
        Dev.sameSramBut ((matWrites sp m (unitsOf sl.units)).map fun x => s.dev.lsChip phys x.1 x.2) s.dev t.dev ∧
        (∀ x : Nat, ¬ s.dev.inEventRing x →
          (∀ w ∈ matWrites sp m (unitsOf sl.units), x < (s.dev.lsSpilled phys w.1 w.2).1 ∨
            (s.dev.lsSpilled phys w.1 w.2).1 + (s.dev.lsSpilled phys w.1 w.2).2 ≤ x) → t.dev.mem.byte x = s.dev.mem.byte x) ∧
        State.sameBut s t) ∧
  (∀ (s : State) (p : Fin 8) (cl : Fin 384) (phys u : Nat) (r : SlotRef) (sl : Slot), s.powered →
    s.dev.slotStarts p engTensor cl opAccStore r sl → s.dev.physOf cl = some phys → unitsOf sl.units = [u] →
    let d := s.dev.startSlot r
    let a := accDesc (d.imageDesc p sl.desc)
    let at_ := (d.windowSpan p phys).base + a.addr + u * a.ustep
    d.accCheck sl.units (d.windowSpan p phys) a = stOk →
    Answers (.storeA48 p cl) s fun t =>
      t.dev.slotStarted p engTensor cl r ∧ t.dev.lsRead phys at_ 0x2000 = (s.dev.accs phys u).flatMap (fun w => leBytes 8 w) ∧
        t.dev.clus.acc = s.dev.clus.acc ∧ State.sameBut s t ∧ Dev.sameRegsBut [F.CLU_SPILLCNT_COUNT phys] s.dev t.dev ∧
        Dev.sameSramBut [s.dev.lsChip phys at_ 0x2000] s.dev t.dev ∧ Dev.sameMemBut [s.dev.lsSpilled phys at_ 0x2000] s.dev t.dev) ∧
  (∀ (s : State) (p : Fin 8) (cl : Fin 384) (phys u : Nat) (r : SlotRef) (sl : Slot), s.powered →
    s.dev.slotStarts p engTensor cl opAccLoad r sl → s.dev.physOf cl = some phys → unitsOf sl.units = [u] →
    let d := s.dev.startSlot r
    let a := accDesc (d.imageDesc p sl.desc)
    let at_ := (d.windowSpan p phys).base + a.addr + u * a.ustep
    d.accCheck sl.units (d.windowSpan p phys) a = stOk → d.lsBad phys at_ 0x2000 = false →
    Answers (.loadA48 p cl false) s fun t =>
      t.dev.slotStarted p engTensor cl r ∧
        (∀ k : Nat, k < 1024 → (t.dev.accs phys u)[k]? = some (leWord ((s.dev.lsRead phys at_ 0x2000).drop (8 * k)) 0 % 2 ^ 49)) ∧
        State.onlyFields [F.CLU_SPILLCNT_COUNT phys] s t) ∧
  ∀ (s : State) (p : Fin 8) (cl : Fin 384) (phys : Nat) (r : SlotRef) (sl : Slot) (due : Bool), s.powered →
    s.dev.slotStarts p engTensor cl opMatrix r sl → s.dev.physOf cl = some phys →
    let d := s.dev.startSlot r
    let st := d.matCheck phys sl.strict (unitsOf sl.units) (d.windowSpan p phys) (matDesc (d.imageDesc p sl.desc))
    st ≠ stOk →
    Answers (.matrixOperation p cl due) s fun t =>
      t.dev.held hcFault = true ∧ (∃ e : Event, t.dev.events = e :: s.dev.events ∧ e.cls = evTickFault ∧ e.status = st ∧ e.source = p) ∧
        (s.dev.on F.RAS_TF_VALID = false → t.dev.on F.RAS_TF_VALID = true ∧ t.dev.get F.RAS_TF_PART = p ∧
          t.dev.get F.RAS_TF_ENGINE = engTensor ∧ t.dev.get F.RAS_TF_STATUS = st ∧ t.dev.get F.RAS_TF_INDEX = cl) ∧
        State.onlyFieldsEv (faultFields ++ holdFields) s t

/-- A mover transfer and a scheduled copy move their bytes and no others; a launch slot makes a launch. (R89, R90, R109, R161, R71, R324) -/
def Obligations.MoverCopyAndLaunchSlots : Prop :=
  (∀ (s : State) (p : Fin 8) (cl : Fin 384) (phys : Nat) (r : SlotRef) (sl : Slot), s.powered →
    s.dev.slotStarts p engMover cl opMover r sl → s.dev.physOf cl = some phys →
    let d := s.dev.startSlot r
    let m := movDesc (d.imageDesc p sl.desc)
    let sp := d.windowSpan p phys
    let sg := (d.imageSegs p).getD m.seg ⟨0, 0, 0, []⟩
    let va := sg.base + m.memOffset
    movReserved false m = true → movEmpty m = false → movSegCheck sp (d.imageSegs p) m = stOk →
    d.runsWait (movAllRuns sg.extents va m) = false → (d.movRun phys sp sg.extents va m false).1 = stOk →
    Answers (.dataMoverTransfer p cl false) s fun t =>
      t.dev.slotStarted p engMover cl r ∧
        (∀ pa : Nat, m.dir = 0 → m.rows = 1 → movRuns sg.extents va m 0 = [(pa, m.rowBytes)] →
          t.dev.lsRead phys (movLs sp m 0) m.rowBytes = s.dev.read pa m.rowBytes) ∧
        (m.dir = 2 → m.rows = 1 → t.dev.lsRead phys (movLs sp m 0) m.rowBytes = List.replicate m.rowBytes 0#8) ∧
        (∀ pa : Nat, m.dir = 1 → m.rows = 1 → movRuns sg.extents va m 0 = [(pa, m.rowBytes)] →
          t.dev.read pa m.rowBytes = s.dev.lsRead phys (movLs sp m 0) m.rowBytes) ∧
        (m.dir = 1 → t.dev.sram = s.dev.sram ∧ Dev.sameMemBut ((List.range m.rows).flatMap (movRuns sg.extents va m)) s.dev t.dev) ∧
        (m.dir ≠ 1 →
          Dev.sameSramBut ((List.range m.rows).map fun i => s.dev.lsChip phys (movLs sp m i) m.rowBytes) s.dev t.dev ∧
          Dev.sameMemBut ((List.range m.rows).map fun i => s.dev.lsSpilled phys (movLs sp m i) m.rowBytes) s.dev t.dev) ∧
        State.sameBut s t ∧ Dev.sameRegsBut [F.CLU_SPILLCNT_COUNT phys] s.dev t.dev) ∧
  (∀ (s : State) (p : Fin 8) (ce : Fin 16) (r : SlotRef) (sl : Slot) (a b : Nat), s.powered →
    s.dev.slotStarts p engCopy ce opCopy r sl →
    let d := s.dev.startSlot r
    let m := copyDesc (d.imageDesc p sl.desc)
    let segs := d.imageSegs p
    m.total ≠ 0 → m.piece 0 4096 = (m.src, m.dst, m.total) → segRuns segs m.src m.total = [(a, m.total)] →
    segRuns segs m.dst m.total = [(b, m.total)] →
    (hostRuns (copySegRuns segs m.dst m.dstStride m) && !d.on F.HST_LINK_BME) = false →
    d.runsWait (copySegRuns segs m.src m.srcStride m) = false → d.runsWait (copySegRuns segs m.dst m.dstStride m) = false →
    (d.readStatus a m.total false).1 = stOk → d.writeStatus b m.total = stOk →
    Answers (.scheduledCopy p ce false) s fun t =>
      t.dev.slotStarted p engCopy ce r ∧ t.dev.read b m.total = s.dev.read a m.total ∧ t.dev.get (F.HST_CE_LAST ce) = stOk ∧
        t.dev.get (F.HST_CE_BYTES ce) = min (2 ^ 48 - 1) (s.dev.get (F.HST_CE_BYTES ce) + m.total) ∧ State.sameBut s t ∧
        Dev.sameRegsBut [F.HST_CE_LAST ce, F.HST_CE_BYTES ce] s.dev t.dev ∧ Dev.sameMemBut [(b, m.total)] s.dev t.dev ∧
        t.dev.sram = s.dev.sram) ∧
  ∀ (s : State) (p : Fin 8) (cl : Fin 384) (phys : Nat) (r : SlotRef) (sl : Slot), s.powered →
    s.dev.slotStarts p engLaunch cl opLaunch r sl → s.dev.physOf cl = some phys →
    let d := s.dev.startSlot r
    let m := launchDesc (d.imageDesc p sl.desc)
    (d.l1Invalidate phys).launchCheck12 m m.zerosSched = none →
    Answers (.threadGroupLaunch p cl) s fun t =>
      t.dev.slotStarted p engLaunch cl r ∧ t.dev.clus.nextLaunch = s.dev.clus.nextLaunch + 1 ∧
        (∃ l : Launch, t.dev.clus.launches = s.dev.clus.launches ++ [l] ∧ l.id = s.dev.clus.nextLaunch ∧ l.entryPc = m.entryPc ∧
          l.grid = m.grid ∧ l.groups = m.groups ∧ l.regs = m.regs ∧ l.slot = some (cl.val, r.slot) ∧ l.queue = none ∧ l.part = p ∧
          l.next = 0 ∧ l.ended = 0) ∧
        (m.setting ≠ 0 → m.setting ≠ s.dev.get (F.CLU_SRAM_SETTING phys) → s.dev.get (F.CLU_SRAM_PENDING phys) = 0 →
          t.dev.get (F.CLU_SRAM_PENDING phys) = m.setting % 2 ^ 4) ∧
        State.sameBut s t ∧ (s.dev.l1Lines phys = [] → State.onlyFields [F.CLU_SRAM_PENDING phys] s t)

/-- CLU_SPILL is written only while the cluster is quiescent; a waiting SRAM setting applies at quiescence; counters clear. (R93, R94, R97,
R153) -/
def Obligations.ClusterSpillSettingAndCounters : Prop :=
  (∀ (s : State) (c : Fin 400) (v : Word), s.powered → s.dev.quiescent c = true → bits v.toNat 37 32 = 0 ∨ s.dev.has ftSpill = true →
    Answers (.cluSpillWrite c v) s fun t =>
      t.dev.get (F.CLU_SPILL_SIZE c) = bits v.toNat 37 32 ∧ t.dev.get (F.CLU_SPILL_BASE c) = bits v.toNat 31 0 ∧
        State.onlyFields [F.CLU_SPILL_SIZE c, F.CLU_SPILL_BASE c] s t) ∧
  (∀ (s : State) (c : Fin 400) (v : Word), s.powered → s.dev.quiescent c = false →
    Answers (.cluSpillWrite c v) s fun t =>
      (∃ e : Event, t.dev.events = e :: s.dev.events ∧ e.cls = evRegister) ∧
        State.onlyFieldsEv [F.RAS_REGACC_VALID, F.RAS_REGACC_OFFSET, F.RAS_REGACC_COUNT] s t) ∧
  (∀ (s : State) (c : Fin 400), s.powered →
    Answers (.cluErrClear c) s fun t =>
      t.dev.get (F.CLU_ERR_REPLAYS c) = 0 ∧ t.dev.get (F.CLU_ERR_CORR c) = 0 ∧
        State.onlyFields [F.CLU_ERR_REPLAYS c, F.CLU_ERR_CORR c] s t) ∧
  (∀ (s : State) (l : Fin 384) (phys : Nat), s.powered → s.dev.physOf l = some phys → phys < 400 →
    s.dev.get (F.CLU_SRAM_PENDING phys) ≠ 0 → s.dev.quiescent phys = true →
    Answers (.settingChange l) s fun t =>
      t.dev.get (F.CLU_SRAM_SETTING phys) = s.dev.get (F.CLU_SRAM_PENDING phys) ∧ t.dev.get (F.CLU_SRAM_PENDING phys) = 0 ∧
        (∀ line : Nat, line < 2 ^ 50 → t.dev.l1 phys line = none) ∧ State.sameBut s t ∧
        (∀ a : Nat, a < min (onChipOf (s.dev.get (F.CLU_SRAM_SETTING phys))) (onChipOf (s.dev.get (F.CLU_SRAM_PENDING phys))) →
          t.dev.sram.byte (sramAt phys a) = s.dev.sram.byte (sramAt phys a)) ∧
        (s.dev.l1Lines phys = [] → Dev.sameRegsBut [F.CLU_SRAM_SETTING phys, F.CLU_SRAM_PENDING phys] s.dev t.dev ∧
          ((∀ p : Nat, s.dev.physPart phys = some p → s.dev.spillBytes p phys = 0) → t.dev.mem = s.dev.mem))) ∧
  ∀ (s : State) (c : Fin 400) (u : Fin 4), s.powered →
    Answers (.histogramClear c u) s fun t =>
      (∀ i : Nat, i < 68 → t.dev.get (histCounter c u i) = 0) ∧ State.onlyFields ((List.range 68).map (histCounter c u)) s t

/-- A spare swap waits, moves the logical number with its setting and spill range, or ends NO_SPARE or REFUSED. (R62, R78, R97, R98) -/
def Obligations.SparesTakeOverClusters : Prop :=
  (∀ (s : State) (l : Fin 384) (phys c : Nat), s.powered → s.dev.get F.CLU_SWAP_STATUS ≠ swPending → s.dev.has ftSpares = true →
    s.dev.physOf l = some phys → s.dev.spareOf phys = some c → s.dev.clus.swaps = [] → s.dev.uncovered s.dev.trcWithSpare = [] →
    Answers (.spareSwap l) s fun t =>
      t.dev.get F.CLU_SWAP_LOGICAL = l ∧ t.dev.get F.CLU_SWAP_STATUS = swPending ∧ t.dev.clus.swaps = [⟨l, false, none, false⟩] ∧
        State.onlyFields [F.CLU_SWAP_LOGICAL, F.CLU_SWAP_STATUS] s t) ∧
  (∀ (s : State) (l : Fin 384) (phys : Nat), s.powered → s.dev.get F.CLU_SWAP_STATUS ≠ swPending → s.dev.has ftSpares = true →
    s.dev.physOf l = some phys → s.dev.spareOf phys = none → s.dev.clus.swaps = [] →
    Answers (.spareSwap l) s fun t =>
      t.dev.get F.CLU_SWAP_STATUS = swNoSpare ∧ t.dev.clus.swaps = [] ∧ Dev.raisedOne s.dev t.dev evRas stOk phys [l, swNoSpare] ∧
        State.onlyFieldsEv [F.CLU_SWAP_LOGICAL, F.CLU_SWAP_STATUS] s t) ∧
  (∀ (s : State) (l : Fin 384) (phys c : Nat), s.powered → s.dev.has ftSpares = true → s.dev.inForceNat 0x230001 = 1 →
    s.dev.physOf l = some phys → s.dev.spareOf phys = some c → s.dev.clus.swaps = [] → s.dev.uncovered s.dev.trcWithSpare = [] →
    Answers (.automaticSwap l) s fun t =>
      t.dev.get F.CLU_SWAP_STATUS = swPending ∧ t.dev.clus.swaps = [⟨l, true, none, false⟩] ∧ State.onlyFields [F.CLU_SWAP_STATUS] s t) ∧
  (∀ (s : State) (w : Swap) (old new : Nat), s.powered → s.dev.clus.swaps = [w] → w.logical < 384 → s.dev.physOf w.logical = some old →
    old < 400 → s.dev.get (F.CLU_ID_STATE old) = 0 → s.dev.spareOf old = some new → s.dev.swapDue w old = true →
    Answers .swapMove s fun t =>
      t.dev.get (F.CLU_LMAP_PHYS w.logical) = new ∧ t.dev.get (F.CLU_ID_STATE old) = 3 ∧ t.dev.get (F.CLU_ID_STATE new) = 0 ∧
        t.dev.get (F.CLU_ID_LOGICAL new) = w.logical ∧ t.dev.get (F.CLU_SRAM_SETTING new) = s.dev.get (F.CLU_SRAM_SETTING old) ∧
        t.dev.get (F.CLU_SPILL_SIZE new) = s.dev.get (F.CLU_SPILL_SIZE old) ∧
        t.dev.get (F.CLU_SPILL_BASE new) = s.dev.get (F.CLU_SPILL_BASE old) ∧ t.dev.get (F.CLU_SPILL_SIZE old) = 0 ∧
        t.dev.get F.SCH_TRC_SPARES = 1 ∧ t.dev.get F.CLU_SWAP_STATUS = swDone ∧ t.dev.clus.swaps = [] ∧
        Dev.sameSramBut [(sramAt new 0, 0x200000)] s.dev t.dev ∧ State.sameBut s t ∧
        (s.dev.l1Lines old = [] → w.targetTn = none →
          Dev.sameRegsBut [F.CLU_SRAM_SETTING new, F.CLU_SPILL_SIZE new, F.CLU_SPILL_BASE new, F.CLU_SPILL_SIZE old, F.CLU_SPILL_BASE old,
            F.CLU_ID_STATE old, F.CLU_ID_LOGICAL old, F.CLU_ID_STATE new, F.CLU_ID_LOGICAL new, F.CLU_LMAP_PHYS w.logical, F.SCH_TRC_SPARES,
            F.CLU_SWAP_STATUS] s.dev t.dev ∧
          Dev.sameMemBut [(scratchBase + 0x10000 * s.dev.get (F.CLU_SPILL_BASE old), 0x10000 * min (s.dev.get (F.CLU_SPILL_SIZE old)) 32)]
            s.dev t.dev)) ∧
  (∀ (s : State) (w : Swap) (phys : Nat), s.powered → s.dev.clus.swaps = [w] → s.dev.physOf w.logical = some phys →
    s.dev.clusterPart w.logical = none → s.dev.quiescent phys = false →
    Answers .swapDrainTimeout s fun t =>
      t.dev.get F.CLU_SWAP_STATUS = swRefused ∧ t.dev.clus.swaps = [] ∧
        Dev.raisedOne s.dev t.dev evRas stOk phys [w.logical, swRefused] ∧ State.onlyFieldsEv [F.CLU_SWAP_STATUS] s t) ∧
  ∀ (s : State) (l : List (Fin 400)), s.powered →
    Answers (.spareSelfTest l) s fun t =>
      (∀ c : Fin 400, t.dev.get (F.CLU_ID_STATE c) =
        if c ∈ l ∧ s.dev.get (F.CLU_ID_STATE c) = 1 then 2 else s.dev.get (F.CLU_ID_STATE c)) ∧
        State.onlyFields (l.map fun c : Fin 400 => F.CLU_ID_STATE c.val) s t

/-- A divergent branch pushes the paths, exiting threads leave the masks, a block barrier releases when every live thread has arrived.
(R104, R110, R111, R115, R117) -/
def Obligations.GroupsBranchExitAndMeet : Prop :=
  (∀ (s : State) (r : GroupRef) (x : Gx) (reconv fall target : Nat) (taken : BitVec 32), s.powered → s.dev.runs r x → x.g.live ≠ 0 →
    x.g.stack.length < 32 → taken.toNat &&& x.g.active ≠ 0 → taken.toNat &&& x.g.active ≠ x.g.active → reconv ≠ fall →
    maskMinus x.g.active (taken.toNat &&& x.g.active) ≠ 0 →
    Answers (.divergentBranch r reconv fall (.direct target taken)) s fun t =>
      (∃ g : Group, t.dev.group x.k = some g ∧ g.pc = fall ∧ g.active = maskMinus x.g.active (taken.toNat &&& x.g.active) ∧
        g.live = x.g.live ∧ g.stack = ⟨reconv, x.g.active, taken.toNat &&& x.g.active, [⟨target, taken.toNat &&& x.g.active, []⟩]⟩ :: x.g.stack) ∧
        State.onlyFields debugFields s t) ∧
  (∀ (s : State) (r : GroupRef) (x : Gx) (reconv fall : Nat) (br : Branch) (h : Group), s.powered → s.dev.runs r x →
    x.g.branch reconv fall br = some h → h.live ≠ 0 → h.active ≠ 0 → (∀ e : Reconv, h.stack.head? = some e → e.addr ≠ h.pc) →
    Answers (.divergentBranch r reconv fall br) s fun t =>
      (∃ g : Group, t.dev.group x.k = some g ∧ g.pc = h.pc ∧ g.active = h.active ∧ g.live = h.live ∧ g.stack = h.stack) ∧
        State.onlyFields debugFields s t) ∧
  (∀ (s : State) (r : GroupRef) (x : Gx) (reconv fall target : Nat) (taken : BitVec 32), s.powered → s.dev.runs r x →
    32 ≤ x.g.stack.length → taken.toNat &&& x.g.active ≠ 0 → taken.toNat &&& x.g.active ≠ x.g.active →
    s.dev.on F.TGD_CTRL_TRAP_STOP = true →
    Answers (.divergentBranch r reconv fall (.direct target taken)) s fun t =>
      (∃ g : Group, t.dev.group x.k = some g ∧ g.state = gsHalted ∧ g.trap = stBounds ∧ g.pc = x.g.pc) ∧
        State.onlyFields debugFields s t) ∧
  (∀ (s : State) (r : GroupRef) (x : Gx) (mask : BitVec 32), s.powered → s.dev.runs r x → x.clearAt (x.g.pc + instrBytes) →
    maskMinus x.g.live (mask.toNat &&& x.g.active) ≠ 0 → maskMinus x.g.active (mask.toNat &&& x.g.active) ≠ 0 →
    Answers (.threadExit r mask) s fun t =>
      (∃ g : Group, t.dev.group x.k = some g ∧ g.live = maskMinus x.g.live (mask.toNat &&& x.g.active) ∧
        g.active = maskMinus x.g.active (mask.toNat &&& x.g.active) ∧ g.pc = x.g.pc + instrBytes) ∧ State.onlyFields debugFields s t) ∧
  (∀ (s : State) (r : GroupRef) (x : Gx) (mask : BitVec 32), s.powered → s.dev.runs r x →
    maskMinus x.g.live (mask.toNat &&& x.g.active) = 0 →
    Answers (.threadExit r mask) s fun t =>
      (∃ g : Group, t.dev.group x.k = some g ∧ g.live = 0 ∧ g.active = 0 ∧ g.state = gsEmpty ∧ g.stack = []) ∧
        State.onlyFields debugFields s t) ∧
  (∀ (s : State) (r : GroupRef) (x : Gx), s.powered → s.dev.runs r x → x.g.stack = [] → x.g.live ≠ 0 → x.g.active = x.g.live →
    (∃ y ∈ s.dev.liveGroups x.b, y.1 ≠ x.k ∧ maskSub y.2.live y.2.arrived = false) →
    Answers (.blockBarrier r) s fun t =>
      (∃ g : Group, t.dev.group x.k = some g ∧ g.arrived = x.g.arrived ||| x.g.active ∧ g.pc = x.g.pc + instrBytes ∧ g.live = x.g.live) ∧
        State.onlyFields debugFields s t) ∧
  ∀ (s : State) (r : GroupRef) (x : Gx), s.powered → s.dev.runs r x → x.g.stack = [] → x.g.live ≠ 0 → x.g.active = x.g.live →
    x.k ∈ x.b.groups → (∀ y ∈ s.dev.liveGroups x.b, y.1 ≠ x.k → maskSub y.2.live y.2.arrived = true) →
    Answers (.blockBarrier r) s fun t =>
      (∀ (k : Nat) (g : Group), k ∈ x.b.groups → t.dev.group k = some g → g.state ≠ gsEmpty → g.arrived = 0) ∧ t.dev.advanced x ∧
        State.onlyFields debugFields s t

/-- Floating and conversion instructions write every active thread's result and set the cluster's flags; NFLAGS_WRITE clears flags. (R120,
R133, R135, R139, R147, R148) -/
def Obligations.GroupArithmetic : Prop :=
  (∀ (s : State) (r : GroupRef) (x : Gx) (op : FloatOp) (fmt : Fmt) (rm : Rm) (dst a b c : Fin 256) (f : FloatFmt), s.powered →
    s.dev.runs r x → x.clearAt (x.g.pc + instrBytes) → x.g.regs ≤ 256 → fmt.float = some f → fmt.ieee = true →
    let cmp : Bool := op == .lt || op == .le || op == .eq
    let n := if cmp then 4 else elemBytes fmt
    let res (th : Nat) : Nat × Nat :=
      floatOp fmt f rm (Config.freeNat (s.dev.fresh + th)) op (s.dev.elem x fmt th a) (s.dev.elem x fmt th b) (s.dev.elem x fmt th c)
    badReg x ([(dst.val, if cmp then 1 else regsOf (elemBytes fmt)), (a.val, regsOf (elemBytes fmt))]
      ++ (if op = .sqrt then [] else [(b.val, regsOf (elemBytes fmt))]) ++ (if op = .fma then [(c.val, regsOf (elemBytes fmt))] else [])) = false →
    Answers (.floatInstruction r op fmt rm dst a b c) s fun t =>
      t.dev.advanced x ∧ (∀ th ∈ threadsOf x.g.active, t.dev.vval x.k x.g th dst n = (res th).1 % 2 ^ (8 * n)) ∧
        Dev.sameVregsBut s.dev t.dev x dst (regsOf n) ∧
        ((∀ th ∈ threadsOf x.g.active, hasNV (res th).2 = false) → State.onlyFields (numFlags x.phys 4 :: debugFields) s t)) ∧
  (∀ (s : State) (r : GroupRef) (x : Gx) (src dst : Fmt) (mode : ConvMode) (rm : Rm) (rd rs : Fin 256), s.powered →
    s.dev.runs r x → x.clearAt (x.g.pc + instrBytes) → x.g.regs ≤ 256 → infRefused dst mode = false → convDefined src dst rm = true →
    badReg x [(rd.val, regsOf (elemBytes dst)), (rs.val, regsOf (elemBytes src))] = false →
    let res (th : Nat) : Nat × Nat := convert src dst mode rm (src.decode (s.dev.elem x src th rs))
    Answers (.conversionInstruction r src dst mode rm rd rs) s fun t =>
      t.dev.advanced x ∧
        (∀ th ∈ threadsOf x.g.active, t.dev.vval x.k x.g th rd (elemBytes dst) = (res th).1 % 2 ^ (8 * elemBytes dst)) ∧
        Dev.sameVregsBut s.dev t.dev x rd (regsOf (elemBytes dst)) ∧
        ((∀ th ∈ threadsOf x.g.active, hasNV (res th).2 = false) → State.onlyFields (numFlags x.phys 4 :: debugFields) s t)) ∧
  (∀ (s : State) (r : GroupRef) (x : Gx) (lf4 : Bool) (src : Fmt) (mode : ConvMode) (rd rs : Fin 256), s.powered →
    s.dev.runs r x → x.clearAt (x.g.pc + instrBytes) → x.g.regs ≤ 256 → infRefused .lf4 mode = false → blockSource src = true →
    let words := if lf4 then 2 else 3
    badReg x [(rd.val, words + 1), (rs.val, 16 * regsOf (elemBytes src))] = false →
    let res (th : Nat) : List Nat × Nat × Nat :=
      blockCodes lf4 src mode ((List.range 16).map fun i => src.decode (s.dev.elem x src th (rs.val + i * regsOf (elemBytes src))))
    Answers (.blockConversion r lf4 src mode rd rs) s fun t =>
      t.dev.advanced x ∧
        (∀ th ∈ threadsOf x.g.active, t.dev.vreg x.k x.g th (rd.val + words) = (res th).2.1 % 2 ^ 32 ∧
          ∀ i : Nat, i < words → t.dev.vreg x.k x.g th (rd.val + i) =
            ((res th).1.zipIdx.foldl (fun a c => a + c.1 * 2 ^ ((if lf4 then 4 else 6) * c.2)) 0) / 2 ^ (32 * i) % 2 ^ 32) ∧
        Dev.sameVregsBut s.dev t.dev x rd (words + 1) ∧
        ((∀ th ∈ threadsOf x.g.active, hasNV (res th).2.2 = false) → State.onlyFields (numFlags x.phys 4 :: debugFields) s t)) ∧
  ∀ (s : State) (r : GroupRef) (x : Gx) (mask : BitVec 4), s.powered → s.dev.runs r x → x.clearAt (x.g.pc + instrBytes) →
    Answers (.nflagsWrite r mask) s fun t =>
      t.dev.get (numFlags x.phys 4) = flagClear (s.dev.get (numFlags x.phys 4)) mask.toNat % 2 ^ 4 ∧ t.dev.advanced x ∧
        State.onlyFields (numFlags x.phys 4 :: debugFields) s t

/-- A local-store access moves its bytes; a thread load fills the L1 from memory; a thread store stays in the L1. (R95, R104, R158, R162) -/
def Obligations.GroupLoadsAndStores : Prop :=
  (∀ (s : State) (r : GroupRef) (x : Gx) (addrs : List Nat) (sz : Fin 4) (dst : Fin 256) (evicted : Bool) (l : List (Nat × Nat)), s.powered →
    s.dev.runs r x → x.clearAt (x.g.pc + instrBytes) → x.g.regs ≤ 256 → badReg x [(dst.val, regsOf (2 ^ sz.val))] = false →
    s.dev.lsAccessAll x addrs (2 ^ sz.val) = .ok l → (l.any fun q => s.dev.lsBad x.phys q.2 (2 ^ sz.val)) = false →
    Answers (.threadLoad r true addrs sz dst evicted false) s fun t =>
      t.dev.advanced x ∧
        (∀ q ∈ l, t.dev.vval x.k x.g q.1 dst (2 ^ sz.val) = leNat (s.dev.lsRead x.phys q.2 (2 ^ sz.val))) ∧
        Dev.sameVregsBut s.dev t.dev x dst (regsOf (2 ^ sz.val)) ∧ State.onlyFields (F.CLU_SPILLCNT_COUNT x.phys :: debugFields) s t) ∧
  (∀ (s : State) (r : GroupRef) (x : Gx) (addrs : List Nat) (sz : Fin 4) (src : Fin 256) (th a : Nat), s.powered →
    s.dev.runs r x → x.clearAt (x.g.pc + instrBytes) → badReg x [(src.val, regsOf (2 ^ sz.val))] = false →
    s.dev.lsAccessAll x addrs (2 ^ sz.val) = .ok [(th, a)] →
    Answers (.threadStore r true addrs sz src) s fun t =>
      t.dev.advanced x ∧ t.dev.lsRead x.phys a (2 ^ sz.val) = leBytes (2 ^ sz.val) (s.dev.vval x.k x.g th src (2 ^ sz.val)) ∧
        State.sameBut s t ∧ Dev.sameRegsBut (F.CLU_SPILLCNT_COUNT x.phys :: debugFields) s.dev t.dev ∧
        Dev.sameSramBut [s.dev.lsChip x.phys a (2 ^ sz.val)] s.dev t.dev ∧ Dev.sameMemBut [s.dev.lsSpilled x.phys a (2 ^ sz.val)] s.dev t.dev) ∧
  (∀ (s : State) (r : GroupRef) (x : Gx) (addrs : List Nat) (sz : Fin 4) (dst : Fin 256) (th pa : Nat), s.powered →
    s.dev.runs r x → x.clearAt (x.g.pc + instrBytes) → x.g.regs ≤ 256 → badReg x [(dst.val, regsOf (2 ^ sz.val))] = false →
    accessAll x addrs (2 ^ sz.val) 1 = .ok [(th, pa)] → pa % 128 + 2 ^ sz.val ≤ 128 → s.dev.l1 x.phys (lineOf pa) = none →
    s.dev.l1Waits x.phys pa (2 ^ sz.val) false = false → (s.dev.readStatus (128 * lineOf pa) 128 false).1 = stOk →
    Answers (.threadLoad r false addrs sz dst false false) s fun t =>
      t.dev.advanced x ∧ t.dev.vval x.k x.g th dst (2 ^ sz.val) = leNat (s.dev.read pa (2 ^ sz.val)) ∧
        t.dev.l1 x.phys (lineOf pa) = some ⟨s.dev.read (128 * lineOf pa) 128, List.replicate 128 false, true⟩ ∧
        Dev.sameVregsBut s.dev t.dev x dst (regsOf (2 ^ sz.val)) ∧ State.onlyFields debugFields s t) ∧
  ∀ (s : State) (r : GroupRef) (x : Gx) (addrs : List Nat) (sz : Fin 4) (src : Fin 256) (th pa : Nat), s.powered →
    s.dev.runs r x → x.clearAt (x.g.pc + instrBytes) → badReg x [(src.val, regsOf (2 ^ sz.val))] = false →
    accessAll x addrs (2 ^ sz.val) 2 = .ok [(th, pa)] → pa % 128 + 2 ^ sz.val ≤ 128 → isHost pa = false →
    s.dev.l1 x.phys (lineOf pa) = none →
    Answers (.threadStore r false addrs sz src) s fun t =>
      t.dev.advanced x ∧
        (∃ y : L1Line, t.dev.l1 x.phys (lineOf pa) = some y ∧
          (y.data.drop (pa % 128)).take (2 ^ sz.val) = leBytes (2 ^ sz.val) (s.dev.vval x.k x.g th src (2 ^ sz.val)) ∧
          ∀ i : Nat, i < 128 → (y.written[i]? = some (decide (pa % 128 ≤ i ∧ i < pa % 128 + 2 ^ sz.val)))) ∧
        State.onlyFields debugFields s t

/-- TMMA, TASTORE, TALOAD and TMOVE run on the block's own local store and open a ticket; a ticket closes; TWAIT waits, passes or traps.
(R89, R112, R113, R114) -/
def Obligations.GroupWideMatrixAndTickets : Prop :=
  (∀ (s : State) (r : GroupRef) (x : Gx) (units : BitVec 4) (ureg : Fin 64) (due : Bool) (tk : List Ticket), s.powered → s.dev.runs r x →
    x.clearAt (x.g.pc + instrBytes) → x.g.active = x.g.live → s.dev.ureg x.k x.g ureg + 64 ≤ x.b.lsBytes →
    let m := matDesc (s.dev.lsRead x.phys (x.b.lsBase + s.dev.ureg x.k x.g ureg) 64)
    let z := s.dev.matRun x.phys x.l.strict units.toNat x.span m ⟨true, x.k % 48⟩ due
    s.dev.matCheck x.phys x.l.strict (unitsOf units.toNat) x.span m = stOk → s.dev.unitsOwned x units.toNat = false →
    openTicket x.g.tickets stOk ≠ none → openTicket x.g.tickets z.1 = some tk →
    Answers (.tmma r units ureg due) s fun t =>
      t.dev.advanced x ∧ (∃ g : Group, t.dev.group x.k = some g ∧ g.tickets = tk) ∧ t.dev.clus.acc = z.2.clus.acc ∧ t.dev.sram = z.2.sram ∧
        t.dev.mem = z.2.mem ∧ t.dev.events = z.2.events ∧ Dev.sameRegsBut debugFields z.2 t.dev ∧ State.sameBut s t) ∧
  (∀ (s : State) (r : GroupRef) (x : Gx) (units : BitVec 4) (ureg : Fin 64) (u : Nat) (tk : List Ticket), s.powered → s.dev.runs r x →
    x.clearAt (x.g.pc + instrBytes) → x.g.active = x.g.live → s.dev.ureg x.k x.g ureg + 64 ≤ x.b.lsBytes →
    let a := accDesc (s.dev.lsRead x.phys (x.b.lsBase + s.dev.ureg x.k x.g ureg) 64)
    let at_ := x.b.lsBase + a.addr + u * a.ustep
    s.dev.accCheck units.toNat x.span a = stOk → s.dev.unitsOwned x units.toNat = false → unitsOf units.toNat = [u] →
    openTicket x.g.tickets stOk = some tk →
    Answers (.tastore r units ureg) s fun t =>
      t.dev.advanced x ∧ (∃ g : Group, t.dev.group x.k = some g ∧ g.tickets = tk) ∧
        t.dev.lsRead x.phys at_ 0x2000 = (s.dev.accs x.phys u).flatMap (fun w => leBytes 8 w) ∧ State.sameBut s t ∧
        Dev.sameRegsBut (F.CLU_SPILLCNT_COUNT x.phys :: debugFields) s.dev t.dev ∧
        Dev.sameSramBut [s.dev.lsChip x.phys at_ 0x2000] s.dev t.dev ∧ Dev.sameMemBut [s.dev.lsSpilled x.phys at_ 0x2000] s.dev t.dev) ∧
  (∀ (s : State) (r : GroupRef) (x : Gx) (units : BitVec 4) (ureg : Fin 64) (u : Nat) (tk : List Ticket), s.powered → s.dev.runs r x →
    x.clearAt (x.g.pc + instrBytes) → x.g.active = x.g.live → s.dev.ureg x.k x.g ureg + 64 ≤ x.b.lsBytes →
    let a := accDesc (s.dev.lsRead x.phys (x.b.lsBase + s.dev.ureg x.k x.g ureg) 64)
    let at_ := x.b.lsBase + a.addr + u * a.ustep
    s.dev.accCheck units.toNat x.span a = stOk → s.dev.unitsOwned x units.toNat = false → unitsOf units.toNat = [u] →
    s.dev.lsBad x.phys at_ 0x2000 = false → openTicket x.g.tickets stOk = some tk →
    Answers (.taload r units ureg) s fun t =>
      t.dev.advanced x ∧ (∃ g : Group, t.dev.group x.k = some g ∧ g.tickets = tk) ∧
        (∀ k : Nat, k < 1024 → (t.dev.accs x.phys u)[k]? = some (leWord ((s.dev.lsRead x.phys at_ 0x2000).drop (8 * k)) 0 % 2 ^ 49)) ∧
        State.onlyFields (F.CLU_SPILLCNT_COUNT x.phys :: debugFields) s t) ∧
  (∀ (s : State) (r : GroupRef) (x : Gx) (mover : Fin 4) (ureg : Fin 64) (due : Bool) (tk : List Ticket), s.powered → s.dev.runs r x →
    x.clearAt (x.g.pc + instrBytes) → x.g.active = x.g.live → s.dev.ureg x.k x.g ureg + 64 ≤ x.b.lsBytes →
    let m := movDesc (s.dev.lsRead x.phys (x.b.lsBase + s.dev.ureg x.k x.g ureg) 64)
    let sg := x.l.segs.getD m.seg ⟨0, 0, 0, []⟩
    let va := sg.base + m.memOffset
    let z := s.dev.movRun x.phys x.span sg.extents va m due
    movReserved true m = true → movEmpty m = false → m.seg ≠ 0xFF ∨ m.dir = 2 → movSegCheck x.span x.l.segs m = stOk →
    s.dev.ownsMover x.l.part (x.k / 48) mover = false → s.dev.runsWait (movAllRuns sg.extents va m) = false →
    openTicket x.g.tickets stOk ≠ none → openTicket x.g.tickets z.1 = some tk →
    Answers (.tmove r mover ureg due) s fun t =>
      t.dev.advanced x ∧ (∃ g : Group, t.dev.group x.k = some g ∧ g.tickets = tk) ∧ t.dev.sram = z.2.sram ∧ t.dev.mem = z.2.mem ∧
        t.dev.events = z.2.events ∧ Dev.sameRegsBut debugFields z.2 t.dev ∧ State.sameBut s t) ∧
  (∀ (s : State) (r : GroupRef) (i : Fin 8) (g : Group) (tk : Ticket), s.powered → s.dev.group (groupKey r.cluster r.slot) = some g →
    g.tickets[i.val]? = some tk → tk.isOpen = true →
    Answers (.ticketClose r i) s fun t =>
      t.dev.group (groupKey r.cluster r.slot) = some { g with tickets := g.tickets.set i { tk with isOpen := false } } ∧
        State.onlyFields [] s t) ∧
  ∀ (s : State) (r : GroupRef) (x : Gx) (i : Fin 8) (tk : Ticket), s.powered → s.dev.runs r x → x.g.tickets[i.val]? = some tk →
    (tk.isOpen = true → Answers (.twait r i) s fun t => t = s) ∧
    (tk.isOpen = false → tk.status = stOk → x.clearAt (x.g.pc + instrBytes) →
      Answers (.twait r i) s fun t => t.dev.advanced x ∧ State.onlyFields debugFields s t) ∧
    (tk.isOpen = false → tk.status ≠ stOk → s.dev.on F.TGD_CTRL_TRAP_STOP = true →
      Answers (.twait r i) s fun t =>
        (∃ g : Group, t.dev.group x.k = some g ∧ g.state = gsHalted ∧ g.trap = tk.status ∧ g.pc = x.g.pc) ∧ State.onlyFields debugFields s t)

/-- A launch entry whose checks pass makes a launch, a block starts with all threads at the entry point, a block that is done frees its
slots. (R101, R103, R106, R108, R109, R111) -/
def Obligations.LaunchesAndBlocks : Prop :=
  (∀ (s : State) (q seq : Nat) (x : Queue) (e : Entry) (ext : List Extent) (bound : List Segment) (d1 d2 d3 : Dev), s.powered →
    s.dev.entryFor q seq tyLaunch = some (x, e) →
    let d := s.dev.mapEntry q seq fun e => { e with started := true }
    let m := launchDesc e.desc
    let runs := extentRuns ext m.segList (32 * m.segCount)
    let ss := parseSegs (d1.readVa ext m.segList (32 * m.segCount)) m.segCount
    let segs := ss.map (·.2)
    let cs := (launchRange m).filterMap d1.physOf
    (d.clus.launches.any fun l => l.queue == some (e.queue, e.seq)) = false → d.launchCheck12 m m.zerosQueued = none → m.segCount ≠ 0 →
    d.obtain ⟨0, holderQueue, x.root, x.part, m.segList, 32 * m.segCount, 1, false, some (e.queue, e.seq)⟩ = (.ok ext, d1) →
    d1.runsWait runs = false → (d1.readRuns runs false).1 = stOk → (ss.any fun r => !r.1) = false → m.segList % 32 = 0 →
    segs.all segOk = true → launchCheck45 m segs = stOk → d1.launchCheck678 x.part m = stOk →
    Dev.bindSegs (e.queue, e.seq) x.root x.part (cs.headD 0) segs d1 = (.ok bound, d2) → d2.holdSegs x.root cs segs = some d3 →
    Answers (.launch q seq) s fun t =>
      (∃ l ∈ t.dev.clus.launches, l.queue = some (e.queue, e.seq) ∧ l.id = d3.clus.nextLaunch ∧ l.entryPc = m.entryPc ∧ l.grid = m.grid ∧
        l.groups = m.groups ∧ l.first = m.first ∧ l.count = m.count ∧ l.segs = bound ∧ l.next = 0 ∧ l.stopped = false) ∧
        t.pending = s.pending ∧ t.vault = s.vault ∧ t.flash = s.flash) ∧
  (∀ (s : State) (id : Nat) (c : Fin 384) (l : Launch) (phys j a : Nat) (slots : List Nat), s.powered → s.dev.launchOf id = some l →
    l.stopped = false → l.next ≠ l.grid → l.first ≤ c → c < l.first + l.count → s.dev.physOf c = some phys → s.dev.settingReady l phys = true →
    l.slot = none → ((natRange l.first (c - l.first)).any fun c' => (s.dev.placeOn l c').isSome) = false →
    s.dev.placeOn l c = some (phys, j, a, slots) → l.argWords = 0 → slots.Nodup →
    Answers (.blockStart id c) s fun t =>
      (∃ b ∈ t.dev.clus.blocks, b.launch = l.id ∧ b.index = l.next ∧ b.phys = phys ∧ b.lsBase = a ∧ b.groups = slots.map (groupKey c)) ∧
        (∀ n ∈ slots, ∃ g : Group, t.dev.group (groupKey c n) = some g ∧ g.state = gsRunning ∧ g.pc = l.entryPc ∧ g.live = 2 ^ 32 - 1 ∧
          g.active = 2 ^ 32 - 1 ∧ g.launch = l.id ∧ g.block = l.next ∧ g.regs = l.regs) ∧
        (∃ l2 : Launch, t.dev.launchOf id = some l2 ∧ l2.next = l.next + 1 ∧ l2.ended = l.ended) ∧ State.sameBut s t ∧
        (s.dev.l1Lines phys = [] → State.onlyFields [] s t)) ∧
  ∀ (s : State) (c : Fin 384) (block id phys : Nat) (b : Block) (l : Launch), s.powered → s.dev.blockOf id block = some b →
    s.dev.physOf c = some phys → b.phys = phys → s.dev.blockDone b = true → s.dev.launchOf id = some l → l.stopped = false →
    l.ended + 1 ≠ l.grid →
    Answers (.blockEnd c block id) s fun t =>
      (∀ k ∈ b.groups, t.dev.group k = none) ∧ t.dev.blockOf id block = none ∧
        (∃ l2 : Launch, t.dev.launchOf id = some l2 ∧ l2.ended = l.ended + 1) ∧ State.onlyFields debugFields s t

/-- A device-scope fence cleans or empties the L1, an atomic replaces its word and returns the old one, a zero-line zeroes 128 bytes.
(R155, R159, R160, R165, R168, R177) -/
def Obligations.FencesAtomicsAndZeroLines : Prop :=
  (∀ (s : State) (r : GroupRef) (x : Gx) (sc : Scope) (k : FenceKind), s.powered → s.dev.runs r x → x.clearAt (x.g.pc + instrBytes) →
    Answers (.fence r sc k) s fun t =>
      t.dev.advanced x ∧
        (wideScope sc = false → t.dev.clus.l1 = s.dev.clus.l1 ∧ State.onlyFields debugFields s t) ∧
        (wideScope sc = true → k ≠ .rel → ∀ line : Nat, line < 2 ^ 50 → t.dev.l1 x.phys line = none) ∧
        (wideScope sc = true → k ≠ .acq → ∀ (line : Nat) (y : L1Line), line < 2 ^ 50 → t.dev.l1 x.phys line = some y →
          ∀ b ∈ y.written, b = false) ∧
        (s.dev.l1Lines x.phys = [] → State.onlyFields debugFields s t)) ∧
  (∀ (s : State) (r : GroupRef) (x : Gx) (op : AtomOp) (ty : AtomType) (addrs : List Nat) (dst a b : Fin 256) (th pa : Nat), s.powered →
    s.dev.runs r x → x.clearAt (x.g.pc + instrBytes) → x.g.regs ≤ 256 → atomOk op ty = true →
    badReg x ([(a.val, regsOf (atomBytes ty))] ++ (if op = .cas then [(b.val, regsOf (atomBytes ty))] else [])
      ++ [(dst.val, regsOf (atomBytes ty))]) = false →
    accessAll x addrs (atomBytes ty) 4 = .ok [(th, pa)] → paKind pa ≠ .ring → isHost pa = false →
    s.dev.runsWait [(pa, atomBytes ty)] = false → s.dev.l1 x.phys (lineOf pa) = none →
    (s.dev.readStatus pa (atomBytes ty) false).1 = stOk → s.dev.writeStatus pa (atomBytes ty) = stOk →
    let old := leNat (s.dev.read pa (atomBytes ty))
    let new := atomNew op ty old (s.dev.vval x.k x.g th a (atomBytes ty)) (s.dev.vval x.k x.g th b (atomBytes ty))
    Answers (.atom r op ty none addrs dst a b false) s fun t =>
      t.dev.advanced x ∧ t.dev.read pa (atomBytes ty) = leBytes (atomBytes ty) new ∧ t.dev.vval x.k x.g th dst (atomBytes ty) = old ∧
        Dev.sameVregsBut s.dev t.dev x dst (regsOf (atomBytes ty)) ∧ State.sameBut s t ∧ Dev.sameRegsBut debugFields s.dev t.dev ∧
        Dev.sameMemBut [(pa, atomBytes ty)] s.dev t.dev ∧ t.dev.sram = s.dev.sram) ∧
  (∀ (s : State) (r : GroupRef) (x : Gx) (op : AtomOp) (ty : AtomType) (addrs : List Nat) (a b : Fin 256) (th pa : Nat), s.powered →
    s.dev.runs r x → x.clearAt (x.g.pc + instrBytes) → atomOk op ty = true →
    badReg x ([(a.val, regsOf (atomBytes ty))] ++ (if op = .cas then [(b.val, regsOf (atomBytes ty))] else [])) = false →
    accessAll x addrs (atomBytes ty) 4 = .ok [(th, pa)] → paKind pa ≠ .ring → isHost pa = false →
    s.dev.runsWait [(pa, atomBytes ty)] = false → s.dev.l1 x.phys (lineOf pa) = none →
    (s.dev.readStatus pa (atomBytes ty) false).1 = stOk → s.dev.writeStatus pa (atomBytes ty) = stOk →
    let old := leNat (s.dev.read pa (atomBytes ty))
    let new := atomNew op ty old (s.dev.vval x.k x.g th a (atomBytes ty)) (s.dev.vval x.k x.g th b (atomBytes ty))
    Answers (.red r op ty none addrs a b false) s fun t =>
      t.dev.advanced x ∧ t.dev.read pa (atomBytes ty) = leBytes (atomBytes ty) new ∧ t.dev.clus.vregs = s.dev.clus.vregs ∧
        State.sameBut s t ∧ Dev.sameRegsBut debugFields s.dev t.dev ∧ Dev.sameMemBut [(pa, atomBytes ty)] s.dev t.dev ∧
        t.dev.sram = s.dev.sram) ∧
  ∀ (s : State) (r : GroupRef) (x : Gx) (addrs : List Nat) (th pa : Nat), s.powered → s.dev.runs r x → x.clearAt (x.g.pc + instrBytes) →
    s.dev.has ftZeroLine = true → accessAll x addrs 128 2 = .ok [(th, pa)] → isHost pa = false → s.dev.runsWait [(pa, 128)] = false →
    s.dev.writeStatus pa 128 = stOk → s.dev.l1 x.phys (lineOf pa) = none → s.dev.plz.mshrs = [] →
    Answers (.zline r addrs) s fun t =>
      t.dev.advanced x ∧ t.dev.read pa 128 = List.replicate 128 0#8 ∧ State.sameBut s t ∧ Dev.sameRegsBut debugFields s.dev t.dev ∧
        Dev.sameMemBut [(pa, 128)] s.dev t.dev ∧ t.dev.sram = s.dev.sram

/-- AMO, LR, SC and CBO.ZERO of a science core on memory; the reservation and what ends it. (R163, R170, R177, R333) -/
def Obligations.ScienceCoresReserveAndSwap : Prop :=
  (∀ (s : State) (core : Fin 96) (pred succ : BitVec 4) (tso : Bool), s.powered → Answers (.scienceFence core pred succ tso) s fun t => t = s) ∧
  (∀ (s : State) (core : Fin 96) (op : AtomOp) (ty : AtomType) (pa v : Nat), s.powered → atomOk op ty = true → op ≠ .cas →
    pa % atomBytes ty = 0 → s.dev.paOk pa (atomBytes ty) = true → s.dev.runsWait [(pa, atomBytes ty)] = false →
    paKind pa ≠ .ring → isHost pa = false →
    ((s.dev.recallCores (lineOf pa)).readStatus pa (atomBytes ty) false).1 = stOk →
    (s.dev.recallCores (lineOf pa)).writeStatus pa (atomBytes ty) = stOk →
    let old := leNat (s.dev.read pa (atomBytes ty))
    Answers (.amo core op ty pa v false) s fun t =>
      t.dev.outs = .science core old :: s.dev.outs ∧ t.dev.read pa (atomBytes ty) = leBytes (atomBytes ty) (atomNew op ty old v 0) ∧
        State.sameBut s t ∧ Dev.sameRegsBut [] s.dev t.dev ∧ Dev.sameMemBut [(pa, atomBytes ty)] s.dev t.dev ∧ t.dev.sram = s.dev.sram) ∧
  (∀ (s : State) (core : Fin 96) (pa : Nat) (w : Bool), s.powered →
    let n := if w then 8 else 4
    pa % n = 0 → s.dev.paOk pa n = true → s.dev.runsWait [(pa, n)] = false → (s.dev.readStatus pa n false).1 = stOk →
    Answers (.lr core pa w false) s fun t =>
      t.dev.outs = .science core (leNat (s.dev.read pa n)) :: s.dev.outs ∧
        Table.get (fun _ => none) t.dev.plz.reservations core = some (lineOf pa) ∧ State.onlyFields [] s t) ∧
  (∀ (s : State) (core : Fin 96) (pa v : Nat) (w due : Bool), s.powered → pa % (if w then 8 else 4) ≠ 0 →
    ∀ c ∈ [Instr.lr core pa w due, .sc core pa w v],
      Answers c s fun t => t.dev.outs = .scienceFault core :: s.dev.outs ∧ State.onlyFields [] s t) ∧
  (∀ (s : State) (core : Fin 96) (pa v : Nat) (w : Bool), s.powered →
    let n := if w then 8 else 4
    pa % n = 0 → s.dev.paOk pa n = true → s.dev.runsWait [(pa, n)] = false →
    (Table.get (fun _ => none) s.dev.plz.reservations core = some (lineOf pa) → s.dev.writeStatus pa n = stOk → isHost pa = false →
      Answers (.sc core pa w v) s fun t =>
        t.dev.outs = .science core 0 :: s.dev.outs ∧ t.dev.read pa n = leBytes n v ∧ State.sameBut s t ∧ Dev.sameRegsBut [] s.dev t.dev ∧
          Dev.sameMemBut [(pa, n)] s.dev t.dev ∧ t.dev.sram = s.dev.sram) ∧
    (Table.get (fun _ => none) s.dev.plz.reservations core ≠ some (lineOf pa) →
      Answers (.sc core pa w v) s fun t =>
        t.dev.outs = .science core 1 :: s.dev.outs ∧ Table.get (fun _ => none) t.dev.plz.reservations core = none ∧ State.onlyFields [] s t)) ∧
  (∀ (s : State) (core : Fin 96), s.powered →
    Answers (.reservationTimeout core) s fun t =>
      Table.get (fun _ => none) t.dev.plz.reservations core = none ∧
        (∀ c : Nat, c ≠ core → Table.get (fun _ => none) t.dev.plz.reservations c = Table.get (fun _ => none) s.dev.plz.reservations c) ∧
        State.onlyFields [] s t) ∧
  (∀ (s : State) (core : Fin 96) (pa : Nat), s.powered →
    let a := 128 * lineOf pa
    s.dev.has ftZeroLine = true → s.dev.paOk a 128 = true → isHost a = false → s.dev.runsWait [(a, 128)] = false →
    s.dev.writeStatus a 128 = stOk → s.dev.plz.mshrs = [] →
    Answers (.cboZero core pa) s fun t =>
      t.dev.read a 128 = List.replicate 128 0#8 ∧ State.sameBut s t ∧ Dev.sameRegsBut [] s.dev t.dev ∧ Dev.sameMemBut [(a, 128)] s.dev t.dev ∧
        t.dev.sram = s.dev.sram) ∧
  ∀ (s : State) (core : Fin 96) (g : Option GroupRef), s.powered →
    (s.dev.on F.HST_LINK_BME = true → Answers (.hostLoadTimeout g core) s fun t => t = s) ∧
    (s.dev.on F.HST_LINK_BME = false → g = none →
      Answers (.hostLoadTimeout g core) s fun t => t.dev.outs = .scienceFault core :: s.dev.outs ∧ State.onlyFields [] s t) ∧
    ∀ (r : GroupRef) (x : Gx), s.dev.on F.HST_LINK_BME = false → g = some r → s.dev.runs r x → s.dev.on F.TGD_CTRL_TRAP_STOP = true →
      Answers (.hostLoadTimeout g core) s fun t =>
        (∃ h : Group, t.dev.group x.k = some h ∧ h.state = gsHalted ∧ h.trap = stUncorrectable ∧ h.pc = x.g.pc) ∧
          State.onlyFields debugFields s t

/-- While unlocked HALT, RESUME, STEP and the block forms move groups between their states; locked, each is a register-access event. (R116,
R117, R118, R119) -/
def Obligations.GroupDebugCommands : Prop :=
  (∀ (s : State) (k : Nat) (g : Group), s.powered → s.dev.tgdGroup = some (k, g) → s.dev.tgdOpen = true →
    (g.state = gsRunning →
      Answers .tgdHalt s fun t =>
        t.dev.group k = some { g with state := gsHaltPending } ∧ State.onlyFields debugFields s t ∧
          (s.dev.keyScheduled k = true → s.dev.tickState ≠ tsOff → t.dev.held hcDebug = true)) ∧
    (g.state = gsHalted → g.trap = 0 →
      Answers .tgdResume s fun t => t.dev.group k = some { g with state := gsRunning }.settled ∧ State.onlyFields debugFields s t) ∧
    (g.state = gsHalted →
      Answers .tgdStep s fun t =>
        t.dev.group k = some { g with state := gsStepping, stepped := false, trap := 0, trapAddr := 0 }.settled ∧
          State.onlyFields debugFields s t)) ∧
  (∀ (s : State) (r : GroupRef) (g : Group), s.powered → s.dev.group (groupKey r.cluster r.slot) = some g → g.atBoundary = true →
    (g.state = gsHaltPending →
      Answers (.groupHalted r) s fun t =>
        t.dev.group (groupKey r.cluster r.slot) = some { g with state := gsHalted } ∧ State.onlyFields debugFields s t) ∧
    (g.state = gsStepping → g.stepped = true →
      Answers (.stepDone r) s fun t =>
        t.dev.group (groupKey r.cluster r.slot) = some { g with state := gsHalted, stepped := false } ∧ State.onlyFields debugFields s t)) ∧
  (∀ (s : State) (k : Nat) (g : Group) (b : Block), s.powered → s.dev.tgdGroup = some (k, g) → s.dev.tgdOpen = true → g.state ≠ gsEmpty →
    s.dev.blockOf g.launch g.block = some b →
    Answers .tgdBlockStop s (fun t =>
      (∀ (j : Nat) (h : Group), j ∈ b.groups → s.dev.group j = some h →
        t.dev.group j = some (if h.state = gsRunning then { h with state := gsHaltPending } else h)) ∧
        (∀ j : Nat, j ∉ b.groups → t.dev.group j = s.dev.group j) ∧ State.onlyFields debugFields s t) ∧
    ((∀ (j : Nat) (h : Group), j ∈ b.groups → s.dev.group j = some h → h.state = gsHalted → h.trap = 0 ∧ h.live ≠ 0) →
      Answers .tgdBlockResume s fun t =>
        (∀ (j : Nat) (h : Group), j ∈ b.groups → s.dev.group j = some h →
          t.dev.group j = some (if h.state = gsHalted then { h with state := gsRunning }.settled else h)) ∧
          (∀ j : Nat, j ∉ b.groups → t.dev.group j = s.dev.group j) ∧ State.onlyFields debugFields s t)) ∧
  (∀ (s : State) (k : Nat) (g : Group) (v : Word), s.powered → s.dev.tgdGroup = some (k, g) → s.dev.tgdOpen = true → g.state = gsHalted →
    Answers (.tgdRdataWrite v) s fun t =>
      (s.dev.get F.TGD_RSEL_SPACE = 0 → s.dev.get F.TGD_RSEL_INDEX < g.regs →
        t.dev.vreg k g (s.dev.get F.TGD_RSEL_THREAD) (s.dev.get F.TGD_RSEL_INDEX) = v.toNat % 2 ^ 32) ∧
        (s.dev.get F.TGD_RSEL_SPACE = 1 → s.dev.get F.TGD_RSEL_INDEX < 64 →
          t.dev.ureg k g (s.dev.get F.TGD_RSEL_INDEX) = v.toNat % 2 ^ 64) ∧ State.onlyFields [] s t) ∧
  ∀ (s : State) (v : Word) (c : Instr), s.powered → s.dev.tgdOpen = false →
    c ∈ [Instr.tgdHalt, .tgdResume, .tgdStep, .tgdBlockStop, .tgdBlockResume, .tgdRdataWrite v] →
    Answers c s fun t =>
      (∃ e : Event, t.dev.events = e :: s.dev.events ∧ e.cls = evRegister) ∧ t.dev.clus = s.dev.clus ∧
        State.onlyFieldsEv [F.RAS_REGACC_VALID, F.RAS_REGACC_OFFSET, F.RAS_REGACC_COUNT] s t

/-- A Plaza slice serves a hit, takes a miss register for a miss, merges a secondary miss, and passes other memory through. (R171, R172,
R174, R175, R176, R179, R180) -/
def Obligations.PlazaServesHitsMissesAndMerges : Prop :=
  (∀ (s : State) (pa len tag : Nat) (kind : PlzKind) (par : ParityOutcome), s.powered → PReq.ok ⟨pa, len, kind, some tag⟩ = true →
    s.dev.paOk pa len = false →
    Answers (.plazaRequest pa len kind tag par .clean) s fun t =>
      t.dev.outs = .response tag stBounds [] :: s.dev.outs ∧ State.onlyFields [] s t) ∧
  (∀ (s : State) (pa len tag w : Nat) (kind : PlzKind), s.powered → PReq.ok ⟨pa, len, kind, some tag⟩ = true → s.dev.paOk pa len = true →
    paKind pa = .hbm →
    let slice := s.dev.homeSlice pa
    let set := plazaSet (128 * lineOf pa)
    let hits := F.PLZ_HIT_COUNT (slice / 8) (slice % 8)
    (s.dev.plz.mshrs.any fun m => m.line == lineOf pa) = false → s.dev.findWay slice (lineOf pa) = some w →
    (kind = .read → ((s.dev.bump hits 1).touchWay slice set w).readStatus pa len false = (stOk, (s.dev.bump hits 1).touchWay slice set w) →
      Answers (.plazaRequest pa len kind tag .clean .clean) s fun t =>
        t.dev.outs = .response tag stOk (s.dev.read pa len) :: s.dev.outs ∧ t.dev.get hits = min (2 ^ 64 - 1) (s.dev.get hits + 1) ∧
          t.dev.plzTree slice set = treeTouch 16 (s.dev.plzTree slice set) w ∧ t.dev.plz.ways = s.dev.plz.ways ∧
          State.onlyFields [hits] s t) ∧
    ∀ d : Dev, d = ((s.dev.setWay slice set w (some ⟨lineOf pa, true⟩)).bump hits 1).touchWay slice set w →
      (∀ data : List Byte, kind = .write data → d.writeStatus pa len = stOk →
        Answers (.plazaRequest pa len kind tag .clean .clean) s fun t =>
          t.dev.outs = .response tag stOk [] :: s.dev.outs ∧ t.dev.read pa len = data ∧ t.dev.way slice set w = some ⟨lineOf pa, true⟩ ∧
            t.dev.get hits = min (2 ^ 64 - 1) (s.dev.get hits + 1) ∧ State.sameBut s t ∧ Dev.sameRegsBut [hits] s.dev t.dev ∧
            Dev.sameMemBut [(pa, len)] s.dev t.dev ∧ t.dev.sram = s.dev.sram) ∧
      ∀ (op : AtomOp) (ty : AtomType) (a b : Nat), kind = .atomic op ty a b → d.writeStatus pa len = stOk →
        d.failed pa len = false → d.bad pa len = false →
        let old := leNat (s.dev.read pa len)
        Answers (.plazaRequest pa len kind tag .clean .clean) s fun t =>
          t.dev.outs = .response tag stOk (leBytes len old) :: s.dev.outs ∧ t.dev.read pa len = leBytes len (atomNew op ty old a b) ∧
            t.dev.way slice set w = some ⟨lineOf pa, true⟩ ∧ State.sameBut s t ∧ Dev.sameRegsBut [hits] s.dev t.dev ∧
            Dev.sameMemBut [(pa, len)] s.dev t.dev ∧ t.dev.sram = s.dev.sram) ∧
  (∀ (s : State) (pa len tag w : Nat) (par : ParityOutcome), s.powered → PReq.ok ⟨pa, len, .read, some tag⟩ = true →
    s.dev.paOk pa len = true → paKind pa = .hbm →
    let slice := s.dev.homeSlice pa
    let inUse := s.dev.plz.mshrs.countP fun m => m.slice == slice
    (s.dev.plz.mshrs.any fun m => m.line == lineOf pa) = false → s.dev.findWay slice (lineOf pa) = none →
    s.dev.pickWay slice (plazaSet (128 * lineOf pa)) = some w → inUse < 256 →
    Answers (.plazaRequest pa len .read tag par .clean) s fun t =>
      t.dev.plz.mshrs = s.dev.plz.mshrs ++ [(⟨slice, lineOf pa, w, [⟨pa, len, .read, some tag⟩], []⟩ : Mshr)] ∧
        t.dev.way slice (plazaSet (128 * lineOf pa)) w = none ∧ t.dev.get (F.PLZ_MSHR_IN_USE (slice / 8) (slice % 8)) = inUse + 1 ∧
        t.dev.get (F.PLZ_MISS_COUNT (slice / 8) (slice % 8)) =
          min (2 ^ 64 - 1) (s.dev.get (F.PLZ_MISS_COUNT (slice / 8) (slice % 8)) + 1) ∧ t.dev.outs = s.dev.outs ∧
        State.onlyFields [F.PLZ_MISS_COUNT (slice / 8) (slice % 8), F.PLZ_MSHR_IN_USE (slice / 8) (slice % 8),
          F.PLZ_MSHR_PEAK (slice / 8) (slice % 8)] s t) ∧
  (∀ (s : State) (pa len tag : Nat) (kind : PlzKind) (par : ParityOutcome), s.powered → PReq.ok ⟨pa, len, kind, some tag⟩ = true →
    s.dev.paOk pa len = true → paKind pa = .hbm → (∃ m ∈ s.dev.plz.mshrs, m.line = lineOf pa) →
    (∀ m ∈ s.dev.plz.mshrs, m.line = lineOf pa → m.reqs.length < 32) →
    let merged := F.PLZ_MSHR_MERGED (s.dev.homeSlice pa / 8) (s.dev.homeSlice pa % 8)
    Answers (.plazaRequest pa len kind tag par .clean) s fun t =>
      t.dev.plz.mshrs = (s.dev.plz.mshrs.map fun m =>
        if m.line = lineOf pa then { m with reqs := m.reqs ++ [⟨pa, len, kind, some tag⟩] } else m) ∧
        t.dev.get merged = min (2 ^ 32 - 1) (s.dev.get merged + 1) ∧ t.dev.outs = s.dev.outs ∧ State.onlyFields [merged] s t) ∧
  (∀ (s : State) (pa len tag : Nat) (par : ParityOutcome), s.powered → PReq.ok ⟨pa, len, .read, some tag⟩ = true →
    s.dev.paOk pa len = true → paKind pa = .ring → s.dev.stallsAt pa = false → s.dev.readStatus pa len false = (stOk, s.dev) →
    Answers (.plazaRequest pa len .read tag par .clean) s fun t =>
      t.dev.outs = .response tag stOk (s.dev.read pa len) :: s.dev.outs ∧ t.dev.plz = s.dev.plz ∧ State.onlyFields [] s t) ∧
  (∀ (s : State) (pa len tag : Nat) (op : AtomOp) (ty : AtomType) (a b : Nat) (par : ParityOutcome), s.powered →
    PReq.ok ⟨pa, len, .atomic op ty a b, some tag⟩ = true → s.dev.paOk pa len = true → paKind pa = .ring ∨ paKind pa = .host →
    s.dev.stallsAt pa = false →
    Answers (.plazaRequest pa len (.atomic op ty a b) tag par .clean) s fun t =>
      t.dev.outs = .response tag stPerm [] :: s.dev.outs ∧ State.onlyFields [] s t) ∧
  ∀ (s : State) (pa len tag w : Nat) (kind : PlzKind), s.powered → PReq.ok ⟨pa, len, kind, some tag⟩ = true → s.dev.paOk pa len = true →
    paKind pa = .hbm → (s.dev.plz.mshrs.any fun m => m.line == lineOf pa) = false →
    s.dev.findWay (s.dev.homeSlice pa) (lineOf pa) = some w →
    s.dev.way (s.dev.homeSlice pa) (plazaSet (128 * lineOf pa)) w = some ⟨lineOf pa, true⟩ →
    let lost := F.PLZ_PERR_UNCORR (s.dev.homeSlice pa / 8) (s.dev.homeSlice pa % 8)
    Answers (.plazaRequest pa len kind tag .failed .clean) s fun t =>
      t.dev.outs.head? = some (.response tag stUncorrectable []) ∧ Dev.raisedOne s.dev t.dev evRas stUncorrectable 0 [pa] ∧
        t.dev.get lost = min (2 ^ 16 - 1) (s.dev.get lost + 1) ∧ State.onlyFieldsEv [lost] s t

/-- A fill frees its miss register and serves what it held in order; a zero-line gives zeros to every merged read; a lost header completes
with an error. (R176, R178, R390) -/
def Obligations.PlazaFillsAndLostHeaders : Prop :=
  (∀ (s : State) (slice : Fin 32) (line : Nat) (m : Mshr) (d : Dev), s.powered →
    (s.dev.plz.mshrs.find? fun m => m.slice == slice.val && m.line == line) = some m → s.dev.stallsAt (128 * line) = false →
    d = ({ s.dev with plz := { s.dev.plz with mshrs := s.dev.plz.mshrs.erase m } } : Dev).noteUse slice →
    d.readStatus (128 * line) 128 false = (stOk, d) → paKind (128 * line) = .hbm → m.waiting = [] →
    (∀ r ∈ s.dev.plz.stalled, d.homeSlice r.pa ≠ slice) →
    let fields := [F.PLZ_MSHR_IN_USE (slice / 8) (slice % 8), F.PLZ_MSHR_PEAK (slice / 8) (slice % 8)]
    (∀ pa len tag : Nat, m.reqs = [⟨pa, len, .read, some tag⟩] → d.readStatus pa len false = (stOk, d) →
      Answers (.fillReturn slice line false) s fun t =>
        t.dev.outs = .response tag stOk (s.dev.read pa len) :: s.dev.outs ∧ t.dev.plz.mshrs = s.dev.plz.mshrs.erase m ∧
          t.dev.way slice (plazaSet (128 * line)) m.way = some ⟨line, false⟩ ∧
          t.dev.plzTree slice (plazaSet (128 * line)) = treeTouch 16 (s.dev.plzTree slice (plazaSet (128 * line))) m.way ∧
          State.onlyFields fields s t) ∧
    ∀ pa len tag tag2 : Nat, m.reqs = [⟨pa, len, .read, some tag⟩, ⟨128 * line, 128, .zero, some tag2⟩] →
      Answers (.fillReturn slice line false) s fun t =>
        t.dev.outs = .response tag2 stOk [] :: .response tag stOk (List.replicate len 0#8) :: s.dev.outs ∧
          t.dev.read (128 * line) 128 = List.replicate 128 0#8 ∧ t.dev.plz.mshrs = s.dev.plz.mshrs.erase m ∧
          t.dev.way slice (plazaSet (128 * line)) m.way = some ⟨line, true⟩ ∧ State.sameBut s t ∧ Dev.sameRegsBut fields s.dev t.dev ∧
          Dev.sameMemBut [(128 * line, 128)] s.dev t.dev ∧ t.dev.sram = s.dev.sram) ∧
  ∀ (s : State) (tag : Nat), s.powered →
    Answers (.parityHeaderTimeout tag) s fun t =>
      t.dev.outs.head? = some (.response tag stUncorrectable []) ∧ Dev.raisedOne s.dev t.dev evRas stUncorrectable 0 [tag] ∧
        t.dev.get F.RAS_PAR_ESCALATED = min (2 ^ F.RAS_PAR_ESCALATED.w - 1) (s.dev.get F.RAS_PAR_ESCALATED + 1) ∧
        State.onlyFieldsEv [F.RAS_PAR_ESCALATED] s t

/-- Way groups are cleaned before they go off and come up empty; PLZ_WAYS and PLZ_SCR take legal values and refuse others with a
register-access event. (R174, R182, R183, R185) -/
def Obligations.WayPowerSequencesAndScratchRanges : Prop :=
  (∀ (s : State) (die : Fin 4) (v : Word), s.powered →
    let v8 := v.toNat % 256
    let old := s.dev.get (F.PLZ_WAYS_POWER die)
    let legal := s.dev.get (F.PLZ_WSTAT_STATE die) = wsIdle ∧ s.dev.waysOk die v8 = true
    (legal →
      Answers (.wayPowerWrite die v) s fun t =>
        t.dev.get (F.PLZ_WAYS_POWER die) = v8 ∧
          t.dev.get (F.PLZ_WSTAT_STATE die) = (if old &&& v8 ≠ old then wsCleaning else if v8 ≠ old then wsPoweringUp else wsIdle) ∧
          t.dev.get (F.PLZ_DCFG_CACHE_WAYS die) = 2 * (List.range 8).countP (fun g => t.dev.groupOn die g) ∧
          State.onlyFields [F.PLZ_WAYS_POWER die, F.PLZ_WSTAT_STATE die, F.PLZ_DCFG_CACHE_WAYS die] s t) ∧
    (¬ legal →
      Answers (.wayPowerWrite die v) s fun t =>
        Dev.raisedOne s.dev t.dev evRegister stOk 0 [(F.PLZ_WAYS_POWER die).off, v.toNat] ∧
          State.onlyFieldsEv [F.RAS_REGACC_VALID, F.RAS_REGACC_OFFSET, F.RAS_REGACC_COUNT] s t)) ∧
  (∀ (s : State) (die : Fin 4), s.powered → s.dev.get (F.PLZ_WSTAT_STATE die) = wsCleaning →
    let cleaned := s.dev.plz.ways.countP fun r => s.dev.cleaningKey die r.1 && (match r.2 with
      | some x => x.written
      | none => false)
    let on := s.dev.get (F.PLZ_WSTAT_PWR_ON die) &&& s.dev.get (F.PLZ_WAYS_POWER die)
    Answers (.wayCleanDone die) s fun t =>
      (∀ e : Nat × Option PLine, e ∈ t.dev.plz.ways ↔ e ∈ s.dev.plz.ways ∧ s.dev.cleaningKey die e.1 = false) ∧
        t.dev.get (F.PLZ_WSTAT_CLEANED die) = min (2 ^ 32 - 1) cleaned ∧ t.dev.get (F.PLZ_WSTAT_PWR_ON die) = on ∧
        (on ≠ s.dev.get (F.PLZ_WAYS_POWER die) → t.dev.get (F.PLZ_WSTAT_STATE die) = wsPoweringUp ∧ t.dev.events = s.dev.events) ∧
        (on = s.dev.get (F.PLZ_WAYS_POWER die) → t.dev.get (F.PLZ_WSTAT_STATE die) = wsIdle ∧
          Dev.raisedOne s.dev t.dev evPlaza stOk die [die.val, min (2 ^ 32 - 1) cleaned, on]) ∧
        State.onlyFieldsEv [F.PLZ_WSTAT_CLEANED die, F.PLZ_WSTAT_PWR_ON die, F.PLZ_WSTAT_STATE die, F.PLZ_DCFG_CACHE_WAYS die] s t) ∧
  (∀ (s : State) (die : Fin 4), s.powered → s.dev.get (F.PLZ_WSTAT_STATE die) = wsPoweringUp →
    Answers (.wayPowerUpDone die) s fun t =>
      t.dev.get (F.PLZ_WSTAT_PWR_ON die) = s.dev.get (F.PLZ_WAYS_POWER die) ∧ t.dev.get (F.PLZ_WSTAT_STATE die) = wsIdle ∧
        t.dev.get (F.PLZ_DCFG_CACHE_WAYS die) = 2 * (List.range 8).countP (fun g => t.dev.groupOn die g) ∧
        Dev.raisedOne s.dev t.dev evPlaza stOk die
          [die.val, s.dev.get (F.PLZ_WSTAT_CLEANED die), s.dev.get (F.PLZ_WAYS_POWER die)] ∧ t.dev.plz.ways = s.dev.plz.ways ∧
        State.onlyFieldsEv [F.PLZ_WSTAT_PWR_ON die, F.PLZ_WSTAT_STATE die, F.PLZ_DCFG_CACHE_WAYS die] s t) ∧
  ∀ (s : State) (die : Fin 4) (p : Fin 8) (v : Word), s.powered →
    let base := bits v.toNat 31 0
    let size := bits v.toNat 47 32
    (s.dev.scrOk die p base size = true →
      Answers (.plzScrWrite die p v) s fun t =>
        t.dev.get (F.PLZ_SCR_BASE die p) = base ∧ t.dev.get (F.PLZ_SCR_SIZE die p) = size ∧
          State.onlyFields [F.PLZ_SCR_BASE die p, F.PLZ_SCR_SIZE die p] s t) ∧
    (s.dev.scrOk die p base size = false →
      Answers (.plzScrWrite die p v) s fun t =>
        Dev.raisedOne s.dev t.dev evRegister stOk 0 [(F.PLZ_SCR_SIZE die p).off, v.toNat] ∧
          State.onlyFieldsEv [F.RAS_REGACC_VALID, F.RAS_REGACC_OFFSET, F.RAS_REGACC_COUNT] s t)

/-- ALLOC hands out zeroed frames that overlap no other, lists them and charges the quota; FREE gives them back; a region's mode changes
only while it is empty. (R193, R196, R197, R198, R199) -/
def Obligations.FramesAreAllocatedAndFreed : Prop :=
  (∀ (s : State) (q seq pa : Nat) (x : Queue) (e : Entry) (d d1 : Dev) (l : List Extent), s.powered → s.dev.entryRuns q seq tyMemory x e d →
    x.part < 8 →
    let m := frameDesc e.desc
    m.op ≠ 1 → m.zeros = true → (m.scratch = true → s.dev.has ftScratch = true) → m.count ≠ 0 → m.list % 8 = 0 →
    ¬ (m.size = 2 ∧ m.mode = 1) →
    d.obtain ⟨0, holderFrames, x.root, x.part, m.list, 8 * m.count, 2, false, some (e.queue, e.seq)⟩ = (.ok l, d1) →
    extentRuns l m.list (8 * m.count) = [(pa, 8 * m.count)] → d1.runsWait [(pa, 8 * m.count)] = false →
    d1.writeStatus pa (8 * m.count) = stOk → isHost pa = false →
    (∀ (hbm : List Frame) (d2 : Dev), d1.chooseFrames x.part m = some (hbm, [], d2) →
      Answers (.alloc q seq) s fun t =>
        t.dev.tier.frames = s.dev.tier.frames ++ hbm ∧ hbm.length = m.count ∧
          (∀ f ∈ hbm, f.size = frameBytes m.size ∧ f.part = x.part ∧ f.scratch = m.scratch ∧
            ∀ g ∈ s.dev.tier.frames, overlaps f.pa f.size g.pa g.size = false) ∧
          (∀ f ∈ hbm, ∀ a : Nat, f.pa ≤ a → a < f.pa + f.size → a < pa ∨ pa + 8 * m.count ≤ a → t.dev.mem.byte a = 0#8) ∧
          t.dev.read pa (8 * m.count) = (byAddress hbm).flatMap (fun f => frameEntry f m.size false) ∧
          t.dev.get (F.ARB_FQ_USED x.part) = s.dev.get (F.ARB_FQ_USED x.part) + m.count * frameUnits m.size ∧
          t.dev.entryEnded q seq stOk 0 ∧ State.sameBut s t ∧
          Dev.sameRegsBut (F.ARB_FQ_USED x.part :: walkFields ++ frameFields) s.dev t.dev ∧
          Dev.sameMemBut ((pa, 8 * m.count) :: hbm.map fun f => (f.pa, f.size)) s.dev t.dev ∧ t.dev.sram = s.dev.sram) ∧
    (∀ (hbm ring : List Frame) (d2 : Dev), d1.chooseFrames x.part m = some (hbm, ring, d2) → ring ≠ [] →
      Answers (.alloc q seq) s fun t =>
        t.dev.tier.frames = s.dev.tier.frames ++ hbm ++ ring ∧ t.dev.entryEnded q seq stOk ring.length ∧
          Dev.raisedOne s.dev t.dev evMemory stOk x.part [x.part, m.size, b2n m.scratch, ring.length]) ∧
    (d1.chooseFrames x.part m = none →
      Answers (.alloc q seq) s fun t =>
        t.dev.entryEnded q seq stBounds 0 ∧ t.dev.tier.frames = s.dev.tier.frames ∧ State.onlyFields walkFields s t)) ∧
  (∀ (s : State) (q seq pa : Nat) (x : Queue) (e : Entry) (d d1 : Dev) (l : List Extent) (fs : List Frame), s.powered →
    s.dev.entryRuns q seq tyMemory x e d → x.part < 8 →
    let m := frameDesc e.desc
    let ws := (List.range m.count).map fun i => leWord (s.dev.read pa (8 * m.count)) i
    m.op = 1 → m.zeros = true → (m.scratch = true → s.dev.has ftScratch = true) → m.count ≠ 0 → m.list % 8 = 0 →
    ¬ (m.size = 2 ∧ m.mode = 1) →
    d.obtain ⟨0, holderFrames, x.root, x.part, m.list, 8 * m.count, 1, false, some (e.queue, e.seq)⟩ = (.ok l, d1) →
    extentRuns l m.list (8 * m.count) = [(pa, 8 * m.count)] → d1.runsWait [(pa, 8 * m.count)] = false →
    d1.readStatus pa (8 * m.count) false = (stOk, d1) →
    (∀ w ∈ ws, bits w 63 56 = 0 ∧ bits w 15 4 = 0 ∧ bits w 3 2 ≠ 3) → d1.freeables x.part m.size ws = some fs →
    Answers (.free q seq) s fun t =>
      (∀ f : Frame, f ∈ t.dev.tier.frames ↔ f ∈ s.dev.tier.frames ∧ f ∉ fs) ∧
        (∀ f ∈ fs, f ∈ s.dev.tier.frames ∧ f.part = x.part ∧ f.image = false) ∧
        t.dev.get (F.ARB_FQ_USED x.part) = s.dev.get (F.ARB_FQ_USED x.part) - m.count * frameUnits m.size ∧
        t.dev.entryEnded q seq stOk 0 ∧ State.sameBut s t ∧
        Dev.sameRegsBut (F.ARB_FQ_USED x.part :: walkFields ++ F.MEM_FREE_HBM_FREE :: F.MEM_FREE_RR_FREE ::
          (List.range 384).map F.MEM_CHAN_LIVE ++ fs.map fun f => F.MEM_REGION_ALLOC (f.pa / (3 * gib))) s.dev t.dev ∧
        t.dev.mem = s.dev.mem ∧ t.dev.sram = s.dev.sram) ∧
  ∀ (s : State) (k : Fin 256) (v : Word), s.powered →
    (k.val < 248 → v.toNat % 4 < 2 → s.dev.get (F.MEM_REGION_ALLOC k) = 0 →
      Answers (.memRegionWrite k v) s fun t =>
        t.dev.get (F.MEM_REGION_MODE k) = v.toNat % 4 ∧
          State.onlyFields [F.MEM_REGION_MODE k, F.MEM_FREE_HBM_FREE, F.MEM_FREE_RR_FREE] s t) ∧
    (248 ≤ k.val ∨ 2 ≤ v.toNat % 4 ∨ s.dev.get (F.MEM_REGION_ALLOC k) ≠ 0 →
      Answers (.memRegionWrite k v) s fun t =>
        Dev.raisedOne s.dev t.dev evRegister stOk 0 [(F.MEM_REGION_MODE k).off, v.toNat] ∧ State.onlyFieldsEv regaccFields s t)

/-- MEM_BWR takes lawful bounds; a window counts its cap and its shortfall and reports a broken guarantee; a patrol pass counts and logs.
(R201, R204, R205, R345, R346) -/
def Obligations.RegulatorsReportAndPatrolCorrects : Prop :=
  (∀ (s : State) (p : Fin 8) (v : Word), s.powered →
    let lo := bits v.toNat 6 0
    let hi := bits v.toNat 14 8
    let others := ((List.range 8).filter (· != p.val)).foldl (fun n q => n + s.dev.get (F.MEM_BWR_MIN q)) 0
    (lo ≤ hi → hi ≠ 0 → hi ≤ 64 → others + lo ≤ 64 →
      Answers (.memBwrWrite p v) s fun t =>
        t.dev.get (F.MEM_BWR_MIN p) = lo ∧ t.dev.get (F.MEM_BWR_MAX p) = hi ∧
          State.onlyFields [F.MEM_BWR_MIN p, F.MEM_BWR_MAX p] s t) ∧
    (hi < lo ∨ hi = 0 ∨ 64 < hi ∨ 64 < others + lo →
      Answers (.memBwrWrite p v) s fun t =>
        Dev.raisedOne s.dev t.dev evRegister stOk 0 [(F.MEM_BWR_MAX p).off, v.toNat] ∧ State.onlyFieldsEv regaccFields s t)) ∧
  (∀ (s : State) (ch : Fin 392) (use : List WindowUse) (p : Fin 8) (u : WindowUse), s.powered →
    (∀ q : Fin 8, s.dev.on (F.ARB_PART_ACTIVE q) = true ↔ q = p) → use[p.val]? = some u →
    let lo := s.dev.get (F.MEM_BWR_MIN p) * windowUnit ch
    let capped := decide (s.dev.get (F.MEM_BWR_MAX p) * windowUnit ch ≤ u.bytes)
    let short := u.raised && decide (u.bytes < lo)
    let acc := Table.get (fun _ => (0, 0)) s.dev.tier.gbAcc (gbKey p ch)
    Answers (.regulatorWindow ch use) s fun t =>
      t.dev.get (F.MEM_BWS_CAPPED p) = min (2 ^ 32 - 1) (s.dev.get (F.MEM_BWS_CAPPED p) + b2n capped) ∧
        t.dev.get (F.MEM_BWS_SHORT p) = min (2 ^ 32 - 1) (s.dev.get (F.MEM_BWS_SHORT p) + b2n short) ∧
        (short = true →
          t.dev.get (F.ARB_GB_WINDOWS p) = min (2 ^ 24 - 1) (s.dev.get (F.ARB_GB_WINDOWS p) + 1) ∧
            t.dev.get (F.ARB_GB_SHORT p) = min (2 ^ 40 - 1) (s.dev.get (F.ARB_GB_SHORT p) + (lo - u.bytes)) ∧
            t.dev.get F.ARB_GBLAST_PART = p ∧ t.dev.get F.ARB_GBLAST_CHANNEL = ch ∧ t.dev.get F.ARB_GBLAST_SHORT = lo - u.bytes ∧
            (acc = (0, 0) → Table.get (fun _ => 0) s.dev.tier.lastGb (gbKey p ch) = 0 →
              Dev.raisedOne s.dev t.dev evArbitration stGuarantee p [p.val, ch.val, 1, lo - u.bytes])) ∧
        (short = false → acc.1 = 0 → t.dev.events = s.dev.events ∧ t.dev.mem = s.dev.mem) ∧
        State.onlyFieldsEv [F.MEM_BWS_CAPPED p, F.MEM_BWS_SHORT p, F.ARB_GB_WINDOWS p, F.ARB_GB_SHORT p, F.ARB_GBLAST_PART,
          F.ARB_GBLAST_CHANNEL, F.ARB_GBLAST_SHORT] s t) ∧
  ∀ s : State, s.powered →
    (∀ a b : List Nat, s.dev.objNat 0x270002 = 0 → Answers (.patrolScrub a b) s fun t => t = s) ∧
    (∀ pa : Nat, s.dev.objNat 0x270002 ≠ 0 → s.dev.keptAt pa = true →
      Answers (.patrolScrub [pa] []) s (fun t =>
        let f := F.MEM_CHAN_CORR (s.dev.servingChannel pa)
        t.dev.get f = min (2 ^ 16 - 1) (s.dev.get f + 1) ∧ State.onlyFields [f] s t) ∧
      (s.dev.tier.badWords = [] →
        Answers (.patrolScrub [] [pa]) s fun t =>
          t.dev.tier.badWords = [pa / 64] ∧ t.dev.get F.MEM_UELOG_VALID = 1 ∧ t.dev.get F.MEM_UELOG_PA = pa / 64 * 64 ∧
            Dev.raisedOne s.dev t.dev evRas stUncorrectable 0 [pa / 64 * 64] ∧
            State.onlyFieldsEv [F.MEM_UELOG_VALID, F.MEM_UELOG_KIND, F.MEM_UELOG_PA, F.MEM_UETN_TN,
              F.MEM_STACK_UNCORR (s.dev.servingChannel (pa / 64 * 64) / 32)] s t))

/-- A planned sequence asks, mirrors, redirects, works and restores; each command moves the channel one state on, and a refusal names its
reason. (R208, R209, R210, R212, R214) -/
def Obligations.PlannedChannelSequences : Prop :=
  (∀ (s : State) (ch : Fin 512) (c : Instr) (op : Nat), s.powered → (c, op) ∈ [(Instr.retrain ch, crRetrain), (.repair ch, crRepair), (.spare ch, crSpare)] →
    (s.dev.get F.MEM_CREQ_STATUS = cqBusy ∨ s.dev.has ftChanRepair = false →
      Answers c s fun t =>
        Dev.raisedOne s.dev t.dev evRegister stOk 0 [F.MEM_CREQ_GO.off, ch.val * 2 ^ 16 + op * 2 + 1] ∧ State.onlyFieldsEv regaccFields s t) ∧
    (s.dev.get F.MEM_CREQ_STATUS ≠ cqBusy → s.dev.has ftChanRepair = true →
      (s.dev.creqReason ch ≠ 0 →
        Answers c s fun t =>
          t.dev.get F.MEM_CREQ_STATUS = cqRefused ∧ t.dev.get F.MEM_CREQ_REASON = s.dev.creqReason ch ∧ t.dev.tier = s.dev.tier ∧
            Dev.raisedOne s.dev t.dev evMemory stOk ch [ch.val, op, cqRefused, s.dev.creqReason ch] ∧ State.onlyFieldsEv creqFields s t) ∧
      (s.dev.creqReason ch = 0 →
        Answers c s fun t =>
          t.dev.get F.MEM_CREQ_STATUS = cqBusy ∧ t.dev.get F.MEM_CREQ_REASON = 0 ∧ t.dev.get F.MEM_CREQ_CHANNEL = ch ∧
            t.dev.get F.MEM_CREQ_OP = op ∧ t.dev.chan ch = csRequested ∧ t.dev.tier.seqs.length = s.dev.tier.seqs.length + 1 ∧
            (∃ y ∈ t.dev.tier.seqs, y.channel = ch ∧ y.stack = ch / 32 ∧ y.op = op) ∧
            State.onlyFieldsEv (creqFields ++ chanFields ch) s t))) ∧
  (∀ (s : State) (st : Fin 12) (y : ChanSeq), s.powered →
    (s.dev.tier.seqs.find? fun y => y.stack == st.val && s.dev.chan y.channel == csRequested) = some y → y.channel < 384 →
    s.dev.get (F.MEM_STACK_RESERVE st) = 0xFF → s.dev.uncovered s.dev.trcAsked = [] →
    Answers (.channelSequenceStart st) s fun t =>
      t.dev.get (F.MEM_STACK_RESERVE st) = localChan y.channel ∧ t.dev.chan y.channel = csMirroring ∧ t.dev.tier.seqs = s.dev.tier.seqs ∧
        Dev.raisedOne s.dev t.dev evMemory stOk y.channel [y.channel, y.op, cqBusy, 0] ∧
        State.onlyFieldsEv (F.MEM_STACK_RESERVE st :: chanFields y.channel) s t) ∧
  (∀ (s : State) (ch : Fin 384) (c : Instr) (a b : Nat), s.powered →
    (c, a, b) ∈ [(Instr.mirrorDone ch, csMirroring, csRedirectWait), (.restoreDone ch, csRestoring, csRestoreWait)] → s.dev.chan ch = a →
    s.dev.copyPaused ch = false →
    Answers c s fun t =>
      t.dev.chan ch = b ∧ (s.dev.switchHolds = true → t.dev.held hcRepair = true) ∧ t.dev.tier.badWords = s.dev.tier.badWords ∧
        State.onlyFieldsEv (chanFields ch ++ holdFields) s t) ∧
  (∀ (s : State) (ch : Fin 384) (y : ChanSeq), s.powered → s.dev.seqOn ch = some y → s.dev.chan ch = csRedirectWait →
    s.dev.switchPoint = true →
    (y.op ≠ crSpare →
      Answers (.redirectSwitch ch) s fun t =>
        t.dev.chan ch = csWorking ∧ t.dev.seqOn ch = some { y with repairAsserted := false } ∧ t.dev.events = s.dev.events ∧
          State.onlyFields (chanFields ch ++ holdFields) s t) ∧
    (y.op = crSpare →
      Answers (.redirectSwitch ch) s fun t =>
        t.dev.chan ch = csSpared ∧ t.dev.seqOn ch = none ∧ t.dev.get F.MEM_CREQ_STATUS = cqDone ∧
          Dev.raisedOne s.dev t.dev evMemory stOk ch [ch.val, crSpare, cqDone, 0] ∧
          State.onlyFieldsEv (F.MEM_CREQ_STATUS :: chanFields ch ++ holdFields) s t)) ∧
  (∀ (s : State) (ch : Fin 384) (y : ChanSeq), s.powered → s.dev.seqOn ch = some y → s.dev.chan ch = csWorking →
    Answers (.channelWorkDone ch true) s (fun t =>
      t.dev.chan ch = csRestoring ∧ t.dev.get (F.MEM_CHAN_RETRAINS ch) = min (2 ^ 16 - 1) (s.dev.get (F.MEM_CHAN_RETRAINS ch) + 1) ∧
        (y.op = crRepair → ∀ r ∈ s.dev.tier.softRepairs, recordChannel r = ch → r ∈ t.dev.tier.applied ∧ r ∉ t.dev.tier.softRepairs) ∧
        (y.op ≠ crRepair → t.dev.tier.softRepairs = s.dev.tier.softRepairs ∧ t.dev.tier.applied = s.dev.tier.applied) ∧
        State.onlyFields (F.MEM_CHAN_RETRAINS ch :: chanFields ch) s t) ∧
    Answers (.channelWorkDone ch false) s fun t =>
      t.dev.chan ch = csSpared ∧ t.dev.seqOn ch = none ∧ (y.op ≠ crRelease → t.dev.get F.MEM_CREQ_STATUS = cqDone) ∧
        (∃ e1 e2 : Event, t.dev.events = e2 :: e1 :: s.dev.events ∧ e1.cls = evRas ∧ e1.detail = [ch.val, csSpared] ∧ e2.cls = evMemory ∧
          e2.detail = [ch.val, y.op, cqDone, 0]) ∧
        State.onlyFieldsEv (F.MEM_CREQ_STATUS :: F.MEM_CHAN_RETRAINS ch :: chanFields ch ++ holdFields) s t) ∧
  ∀ (s : State) (ch : Fin 384) (y : ChanSeq), s.powered → s.dev.seqOn ch = some y → s.dev.chan ch = csRestoreWait → s.dev.switchPoint = true →
    Answers (.restoreSwitch ch) s fun t =>
      t.dev.chan ch = csIdle ∧ t.dev.get (F.MEM_STACK_RESERVE (ch / 32)) = 0xFF ∧ t.dev.seqOn ch = none ∧
        (y.op ≠ crRelease → t.dev.get F.MEM_CREQ_STATUS = cqDone) ∧ Dev.raisedOne s.dev t.dev evMemory stOk ch [ch.val, y.op, cqDone, 0] ∧
        State.onlyFieldsEv (F.MEM_CREQ_STATUS :: F.MEM_STACK_RESERVE (ch / 32) :: chanFields ch ++ holdFields) s t

/-- Drift retrains a channel at once and holds RETRAIN; a retrain ends where it was or fails the channel; repair records and committed
spares. (R213, R214, R215, R216, R360) -/
def Obligations.UnplannedRetrainsAndRepairs : Prop :=
  (∀ (s : State) (ch : Fin 392), s.powered →
    (ch.val < 384 → s.dev.chan ch ≠ csRetraining → s.dev.chan ch ≠ csFailed →
      Answers (.channelDrift ch) s fun t =>
        t.dev.chan ch = csRetraining ∧ Table.get (fun _ => 0) t.dev.tier.before ch = s.dev.chan ch ∧ t.dev.held hcRetrain = true ∧
          t.dev.get (F.MEM_CHAN_RETRAINS ch) = min (2 ^ 16 - 1) (s.dev.get (F.MEM_CHAN_RETRAINS ch) + 1) ∧
          State.onlyFieldsEv (F.MEM_CHAN_RETRAINS ch :: chanFields ch ++ holdFields) s t) ∧
    (ch.val < 384 → s.dev.chan ch = csRetraining ∨ s.dev.chan ch = csFailed → Answers (.channelDrift ch) s fun t => t = s) ∧
    (384 ≤ ch.val → s.dev.get (F.MEM_RR_STATE (ch - 384)) ≠ csRetraining → s.dev.get (F.MEM_RR_STATE (ch - 384)) ≠ csFailed →
      Answers (.channelDrift ch) s fun t =>
        t.dev.get (F.MEM_RR_STATE (ch - 384)) = csRetraining ∧ t.dev.held hcRetrain = true ∧
          State.onlyFieldsEv (F.MEM_RR_STATE (ch - 384) :: F.MEM_RR_RETRAINS (ch - 384) :: holdFields) s t) ∧
    (ch.val < 384 → s.dev.chan ch = csRetraining → s.dev.chanBefore ch < 10 → s.dev.chanBefore ch ≠ csRetraining →
      Answers (.unplannedRetrainEnd ch) s fun t =>
        t.dev.chan ch = s.dev.chanBefore ch ∧ (t.dev.anyRetraining = false → t.dev.held hcRetrain = false) ∧
          t.dev.events = s.dev.events ∧ State.onlyFields (chanFields ch ++ holdFields) s t) ∧
    (384 ≤ ch.val → s.dev.get (F.MEM_RR_STATE (ch - 384)) = csRetraining →
      Answers (.unplannedRetrainEnd ch) s (fun t =>
        t.dev.get (F.MEM_RR_STATE (ch - 384)) = csIdle ∧ (t.dev.anyRetraining = false → t.dev.held hcRetrain = false) ∧
          State.onlyFields (F.MEM_RR_STATE (ch - 384) :: holdFields) s t) ∧
      Answers (.unplannedRetrainTimeout ch) s fun t =>
        t.dev.get (F.MEM_RR_STATE (ch - 384)) = csFailed ∧ Dev.raisedOne s.dev t.dev evRas stOk ch [ch.val, csFailed] ∧
          State.onlyFieldsEv (F.MEM_RR_STATE (ch - 384) :: holdFields) s t) ∧
    (ch.val < 384 → s.dev.chan ch = csRetraining → s.dev.seqOn ch = none →
      (s.dev.chanBefore ch < csWorking →
        Answers (.unplannedRetrainTimeout ch) s fun t =>
          t.dev.chan ch = csFailed ∧ Dev.raisedOne s.dev t.dev evRas stOk ch [ch.val, csFailed] ∧
            (∀ e ∈ t.dev.plz.ways, e ∈ s.dev.plz.ways ∧ ∀ y : PLine, e.2 = some y → s.dev.hbmChannel (128 * y.line) ≠ ch) ∧
            State.onlyFieldsEv (F.MEM_STACK_UNCORR (ch / 32) :: chanFields ch ++ holdFields) s t) ∧
      (csWorking ≤ s.dev.chanBefore ch →
        Answers (.unplannedRetrainTimeout ch) s fun t =>
          t.dev.chan ch = csSpared ∧ Dev.raisedOne s.dev t.dev evRas stOk ch [ch.val, csSpared] ∧ t.dev.plz.ways = s.dev.plz.ways ∧
            State.onlyFieldsEv (chanFields ch ++ holdFields) s t))) ∧
  (∀ (s : State) (source reqId : Nat) (r : List Byte), s.listens source 0x270005 →
    let kind := (r.getD 0 0#8).toNat
    let lawful := s.dev.has ftChanRepair = true ∧ r.length = 16 ∧ (kind = 1 ∨ kind = 2) ∧ (r.drop 8).all (· == 0#8) = true ∧
      (r.getD 1 0#8).toNat < 12 ∧ (r.getD 2 0#8).toNat < 64 ∧ s.dev.sparesLeft s.flash r ≠ 0
    (lawful →
      Answers (.repairRecord source reqId r) s fun t =>
        t.dev.tier.softRepairs = s.dev.tier.softRepairs ++ [r] ∧
          State.plainDone source reqId 0x270005 r stOk s.flash [] s t) ∧
    (¬ lawful →
      Answers (.repairRecord source reqId r) s fun t =>
        t.dev.tier = s.dev.tier ∧ ∃ st ∈ [stFeature, stBounds], State.plainDone source reqId 0x270005 r st s.flash [] s t)) ∧
  (∀ (s : State) (a : Auth), s.authentic a 0x270006 (boolByte true) → s.dev.has ftChanRepair = true →
    Answers (.commitRepairs a true) s fun t =>
      t.dev.tier.applied = [] ∧ State.authDone a 0x270006 (boolByte true) stOk (s.countedVault a)
        { s.flash with repairs := s.flash.repairs ++ s.dev.tier.applied } [] s t) ∧
  (∀ (s : State) (a : Auth) (ch : Fin 384), s.authentic a 0x270007 (leBytes 2 ch) → s.dev.has ftChanRepair = true →
    (s.dev.mayCommit ch = true →
      Answers (.channelSpareCommit a ch) s fun t =>
        t.dev.tier.committed = ch.val :: s.dev.tier.committed ∧ t.dev.get (F.MEM_STACK_RESERVE (ch / 32)) = localChan ch ∧
          t.dev.chan ch = csSpared ∧
          State.authDone a 0x270007 (leBytes 2 ch) stOk (s.countedVault a)
            { s.flash with spared := ch.val :: s.flash.spared.filter (· != ch.val) }
            (F.MEM_STACK_RESERVE (ch / 32) :: chanFields ch) s t) ∧
    (s.dev.mayCommit ch = false →
      Answers (.channelSpareCommit a ch) s fun t =>
        t.dev.tier = s.dev.tier ∧ State.authDone a 0x270007 (leBytes 2 ch) stPerm (s.countedVault a) s.flash [] s t)) ∧
  ∀ (s : State) (a : Auth) (ch : Fin 384), s.authentic a 0x270007 (leBytes 2 (0x8000 + ch)) → s.dev.has ftChanRepair = true →
    (s.dev.tier.committed.contains ch.val = true → s.dev.chan ch = csSpared →
      Answers (.channelSpareRelease a ch) s fun t =>
        ch.val ∉ t.dev.tier.committed ∧ t.dev.chan ch = csRestoring ∧
          (∃ y ∈ t.dev.tier.seqs, y.channel = ch ∧ y.op = crRelease) ∧ (∃ e ∈ t.dev.events, e.cls = evMemory ∧ e.detail = [ch.val, crRelease, cqBusy, 0]) ∧
          State.authDone a 0x270007 (leBytes 2 (0x8000 + ch)) stOk (s.countedVault a)
            { s.flash with spared := s.flash.spared.filter (· != ch.val) } (chanFields ch) s t) ∧
    (s.dev.tier.committed.contains ch.val = false ∨ s.dev.chan ch ≠ csSpared →
      Answers (.channelSpareRelease a ch) s fun t =>
        t.dev.tier = s.dev.tier ∧ State.authDone a 0x270007 (leBytes 2 (0x8000 + ch)) stPerm (s.countedVault a) s.flash [] s t)

/-- A binding takes its extents and its holder record; a walk that faults parks it on its record with one event; a window lookup reads what
is held. (R217, R221, R225, R226, R227, R228) -/
def Obligations.BindingsTranslateHoldAndPark : Prop :=
  (∀ (s : State) (holder : Fin 512) (root : Fin 64) (part : Fin 8) (va len : Nat) (need : BitVec 3) (segment : Bool), s.powered →
    let w : Waiter := ⟨0, holder, root, part, va, len, need.toNat, segment, none⟩
    s.dev.isWaiting w = false →
    (s.dev.invalidating root va len = true →
      Answers (.binding holder root part va len need segment) s fun t =>
        t.dev.rbt.waitingBind = s.dev.rbt.waitingBind ++ [w] ∧ State.onlyFields [] s t) ∧
    (s.dev.invalidating root va len = false →
      (∀ (l : List Extent) (d : Dev), s.dev.translate root part va len need.toNat = (.ok l, d) →
        (segment = true ∧ 16 < l.length →
          Answers (.binding holder root part va len need segment) s fun t =>
            t.dev.rbt.bound.head? = some ⟨holder, root, va, stBounds, []⟩ ∧ t.dev.rbt.holders = s.dev.rbt.holders ∧
              State.onlyFields walkFields s t) ∧
        (¬ (segment = true ∧ 16 < l.length) → (d.hold holder root va len).isSome = true →
          Answers (.binding holder root part va len need segment) s fun t =>
            t.dev.rbt.bound.head? = some ⟨holder, root, va, stOk, l⟩ ∧
              (∃ h ∈ t.dev.rbt.holders, h.root = root ∧ h.va = va ∧ h.len = len ∧ holder.val ∈ h.ids) ∧
              State.onlyFields walkFields s t)) ∧
      (s.dev.on (F.RBT_ROOT_VALID root) = false ∨ s.dev.get (F.RBT_ROOT_PART root) ≠ part →
        Answers (.binding holder root part va len need segment) s fun t =>
          t.dev.rbt.bound.head? = some ⟨holder, root, va, stPerm, []⟩ ∧ State.onlyFields [] s t) ∧
      ∀ (k v i : Nat) (d : Dev), s.dev.translate root part va len need.toNat = (.fault k v, d) →
        (d.faultRecord root v k = some i →
          Answers (.binding holder root part va len need segment) s fun t =>
            t.dev.get (F.RBT_FREC0_WAITERS i) = (s.dev.get (F.RBT_FREC0_WAITERS i) + 1) % 2 ^ 10 ∧
              t.dev.rbt.waiters = s.dev.rbt.waiters ++ [{ w with record := i }] ∧ t.dev.events = s.dev.events ∧
              State.onlyFields (F.RBT_FREC0_WAITERS i :: walkFields) s t) ∧
        (d.faultRecord root v k = none → d.freeRecord = some i →
          Answers (.binding holder root part va len need segment) s fun t =>
            t.dev.on (F.RBT_FREC0_OPEN i) = true ∧ t.dev.get (F.RBT_FREC0_KIND i) = k % 2 ^ 3 ∧
              t.dev.get (F.RBT_FREC0_ACCESS i) = accessCode need.toNat ∧ t.dev.get (F.RBT_FREC0_VA i) = v / 0x10000 % 2 ^ 40 ∧
              t.dev.get (F.RBT_FREC0_ROOT i) = root ∧ t.dev.get (F.RBT_FREC0_WAITERS i) = 1 ∧ t.dev.get (F.RBT_FREC1_FIRST i) = holder ∧
              t.dev.rbt.waiters = s.dev.rbt.waiters ++ [{ w with record := i }] ∧
              Dev.raisedOne s.dev t.dev evTranslation stOk holder [i, root.val, v, accessCode need.toNat, k] ∧
              State.onlyFieldsEv ([F.RBT_FREC0_OPEN i, F.RBT_FREC0_KIND i, F.RBT_FREC0_ACCESS i, F.RBT_FREC0_VA i, F.RBT_FREC0_ROOT i,
                F.RBT_FREC0_WAITERS i, F.RBT_FREC1_FIRST i] ++ walkFields) s t))) ∧
  ∀ (s : State) (holder : Fin 512) (root : Fin 64) (va len : Nat), s.powered →
    (s.dev.holdsRange holder root va len = false → Answers (.extentLookup holder root va len) s fun t => t = s) ∧
    ∀ (l : List Extent) (d : Dev), s.dev.holdsRange holder root va len = true →
      s.dev.isWaiting ⟨0, holder, root, s.dev.get (F.RBT_ROOT_PART root), va, len, 0, false, none⟩ = false →
      s.dev.invalidating root va len = false → s.dev.translate root (s.dev.get (F.RBT_ROOT_PART root)) va len 0 = (.ok l, d) →
      Answers (.extentLookup holder root va len) s fun t =>
        t.dev.rbt.bound.head? = some ⟨holder, root, va, stOk, l⟩ ∧ t.dev.rbt.holders = s.dev.rbt.holders ∧ State.onlyFields walkFields s t

/-- RETRY and a caught-up stale root walk again, REJECT and the timeout complete every waiter with a status; a closed record refuses.
(R220, R228, R229, R230) -/
def Obligations.FaultRecordsAreResolved : Prop :=
  (∀ (s : State) (i : Fin 1024) (w : Waiter) (q n : Nat) (l : List Extent) (d : Dev) (c : Instr), s.powered →
    s.dev.on (F.RBT_FREC0_OPEN i) = true → (s.dev.rbt.waiters.filter (·.record == i.val)) = [w] → s.dev.rbt.waitingBind = [] →
    w.entry = some (q, n) → s.dev.invalidating w.root w.va w.len = false →
    (s.dev.closeRecord i).2.translate w.root w.part w.va w.len w.need = (.ok l, d) →
    c = .retry i ∨ (c = .staleRootRecheck i ∧ s.dev.get (F.RBT_FREC0_KIND i) = fkStale ∧
      genOlder (s.dev.rootGen (s.dev.get (F.RBT_FREC0_ROOT i))) (s.dev.get (F.RBT_GEN_GEN (s.dev.get (F.RBT_FREC0_ROOT i)))) = false) →
    Answers c s fun t =>
      t.dev.on (F.RBT_FREC0_OPEN i) = false ∧ t.dev.get (F.RBT_FREC0_WAITERS i) = 0 ∧
        t.dev.rbt.waiters = s.dev.rbt.waiters.filter (·.record != i.val) ∧ t.dev.rbt.waitingBind = [] ∧
        State.onlyFields (F.RBT_FREC0_OPEN i :: F.RBT_FREC0_WAITERS i :: walkFields) s t) ∧
  (∀ (s : State) (i : Fin 1024), s.powered →
    genOlder (s.dev.rootGen (s.dev.get (F.RBT_FREC0_ROOT i))) (s.dev.get (F.RBT_GEN_GEN (s.dev.get (F.RBT_FREC0_ROOT i)))) = true →
    Answers (.staleRootRecheck i) s fun t => t = s) ∧
  (∀ (s : State) (i : Fin 1024) (w : Waiter) (status : Nat), s.powered → s.dev.on (F.RBT_FREC0_OPEN i) = true →
    (s.dev.rbt.waiters.filter (·.record == i.val)) = [w] → s.dev.rbt.waitingBind = [] → status ∈ [stBounds, stPerm, stUncorrectable] →
    Answers (.reject i status) s fun t =>
      t.dev.on (F.RBT_FREC0_OPEN i) = false ∧ t.dev.get (F.RBT_FREC0_WAITERS i) = 0 ∧
        t.dev.rbt.waiters = s.dev.rbt.waiters.filter (·.record != i.val) ∧
        (∀ (q n : Nat) (e : Entry), w.entry = some (q, n) → s.dev.entry q n = some e → e.finished = none → t.dev.entryEnded q n status 0) ∧
        (w.entry = none → t.dev.rbt.bound.head? = some ⟨w.holder, w.root, w.va, status, []⟩) ∧
        State.onlyFields [F.RBT_FREC0_OPEN i, F.RBT_FREC0_WAITERS i] s t) ∧
  (∀ (s : State) (i : Fin 1024), s.powered → s.dev.inForceNat 0x280001 = 0 → Answers (.faultRecordTimeout i) s fun t => t = s) ∧
  (∀ (s : State) (i : Fin 1024) (w : Waiter), s.powered → s.dev.on (F.RBT_FREC0_OPEN i) = true → s.dev.inForceNat 0x280001 ≠ 0 →
    (s.dev.rbt.waiters.filter (·.record == i.val)) = [w] → s.dev.rbt.waitingBind = [] →
    Answers (.faultRecordTimeout i) s fun t =>
      t.dev.on (F.RBT_FREC0_OPEN i) = false ∧ t.dev.rbt.waiters = s.dev.rbt.waiters.filter (·.record != i.val) ∧
        (∀ (q n : Nat) (e : Entry), w.entry = some (q, n) → s.dev.entry q n = some e → e.finished = none →
          t.dev.entryEnded q n stFaultPending 0) ∧
        Dev.raisedOne s.dev t.dev evTranslation stFaultPending (s.dev.get (F.RBT_FREC1_FIRST i)) (s.dev.recordDetail i) ∧
        State.onlyFieldsEv [F.RBT_FREC0_OPEN i, F.RBT_FREC0_WAITERS i] s t) ∧
  ∀ (s : State) (i : Fin 1024) (status : Nat), s.powered →
    (s.dev.on (F.RBT_FREC0_OPEN i) = false →
      Answers (.retry i) s fun t =>
        Dev.raisedOne s.dev t.dev evRegister stOk 0 [F.RBT_RESOLVE_RECORD.off, 2 ^ 48 + i.val] ∧ State.onlyFieldsEv regaccFields s t) ∧
    (s.dev.on (F.RBT_FREC0_OPEN i) = false ∨ status ∉ [stBounds, stPerm, stUncorrectable] →
      Answers (.reject i status) s fun t =>
        (∃ e : Event, t.dev.events = e :: s.dev.events ∧ e.cls = evRegister) ∧ t.dev.rbt = s.dev.rbt ∧ State.onlyFieldsEv regaccFields s t)

/-- Generations only rise, a root in use cannot change, an invalidate drops cached leaves, recalls every holder and is done when all have
acknowledged. (R219, R231, R232, R233, R234) -/
def Obligations.RootsGenerationsAndInvalidates : Prop :=
  (∀ (s : State) (root : Fin 64) (gen : Nat), s.powered →
    (genOlder (s.dev.get (F.RBT_GEN_GEN root)) (gen % 2 ^ 32) = true →
      Answers (.rbtCommit root gen) s fun t =>
        t.dev.get (F.RBT_GEN_GEN root) = gen % 2 ^ 32 ∧ State.onlyFields [F.RBT_GEN_GEN root] s t) ∧
    (genOlder (s.dev.get (F.RBT_GEN_GEN root)) (gen % 2 ^ 32) = false →
      Answers (.rbtCommit root gen) s fun t =>
        Dev.raisedOne s.dev t.dev evRegister stOk 0 [F.RBT_COMMIT_GEN.off, root.val * 2 ^ 32 + gen % 2 ^ 32] ∧
          State.onlyFieldsEv regaccFields s t)) ∧
  (∀ (s : State) (root : Fin 64) (v : Word), s.powered →
    (s.dev.rootBusy root = false →
      Answers (.rbtRootWrite root v) s fun t =>
        t.dev.get (F.RBT_ROOT_VALID root) = bits v.toNat 63 63 ∧ t.dev.get (F.RBT_ROOT_PART root) = bits v.toNat 58 56 ∧
          t.dev.get (F.RBT_ROOT_REC_PA root) = bits v.toNat 55 6 ∧
          State.onlyFields [F.RBT_ROOT_VALID root, F.RBT_ROOT_PART root, F.RBT_ROOT_REC_PA root] s t) ∧
    (s.dev.rootBusy root = true →
      Answers (.rbtRootWrite root v) s fun t =>
        Dev.raisedOne s.dev t.dev evRegister stOk 0 [(F.RBT_ROOT_VALID root).off, v.toNat] ∧ State.onlyFieldsEv regaccFields s t)) ∧
  (∀ (s : State) (root : Fin 64) (base order : Nat) (all : Bool), s.powered →
    let r := invRange base order all
    let ids := ((s.dev.holdersIn root r.1 r.2).flatMap Holder.ids).eraseDups
    let fields := [F.RBT_INV_ROOT, F.RBT_INV_ORDER, F.RBT_INV_BASE, F.RBT_INV_ALL, F.RBT_INV_STATUS, F.RBT_INV_WAIT_COUNT, F.RBT_INV_WAIT_LOWEST]
    (s.dev.get F.RBT_INV_STATUS = 1 →
      Answers (.invalidate root base order all) s fun t =>
        (∃ e : Event, t.dev.events = e :: s.dev.events ∧ e.cls = evRegister) ∧ t.dev.rbt = s.dev.rbt ∧ State.onlyFieldsEv regaccFields s t) ∧
    (s.dev.get F.RBT_INV_STATUS ≠ 1 →
      (ids = [] → s.dev.rbt.waitingBind = [] →
        Answers (.invalidate root base order all) s fun t =>
          t.dev.get F.RBT_INV_STATUS = 2 ∧ t.dev.get F.RBT_INV_WAIT_COUNT = 0 ∧
            (∀ l : Leaf, l ∈ t.dev.rbt.ranges ↔
              l ∈ s.dev.rbt.ranges ∧ ¬ (l.root = root ∧ overlaps l.va (2 ^ l.z) r.1 r.2 = true)) ∧
            (∀ e ∈ t.dev.rbt.pages, ∀ l : Leaf, e.2 = some l → l.root = root → overlaps l.va (2 ^ l.z) r.1 r.2 = false) ∧
            Dev.raisedOne s.dev t.dev evInvalidate stOk root [root.val, r.1, r.2] ∧ State.onlyFieldsEv fields s t) ∧
      (ids ≠ [] →
        Answers (.invalidate root base order all) s fun t =>
          t.dev.get F.RBT_INV_STATUS = 1 ∧ t.dev.rbt.recalls = ids ∧ t.dev.rbt.recallRange = (root.val, r.1, r.2) ∧
            t.dev.get F.RBT_INV_WAIT_COUNT = ids.length % 2 ^ 10 ∧ (∀ j ∈ ids, t.dev.get F.RBT_INV_WAIT_LOWEST ≤ j) ∧
            (∀ l : Leaf, l ∈ t.dev.rbt.ranges ↔
              l ∈ s.dev.rbt.ranges ∧ ¬ (l.root = root ∧ overlaps l.va (2 ^ l.z) r.1 r.2 = true)) ∧ t.dev.events = s.dev.events ∧
            State.onlyFields fields s t))) ∧
  (∀ (s : State) (h : Fin 512), s.powered →
    (s.dev.rbt.recalls.contains h.val = false → ∀ c ∈ [Instr.recall h, .recallAck h], Answers c s fun t => t = s) ∧
    (s.dev.rbt.recalls.contains h.val = true →
      (416 ≤ h.val → h.val ≤ 423 →
        Answers (.recall h) s fun t =>
          Dev.raisedOne s.dev t.dev evSchedule stOk (h.val - 416) [4, s.dev.rbt.recallRange.1, s.dev.rbt.recallRange.2.1] ∧
            t.dev.rbt = s.dev.rbt ∧ State.onlyFieldsEv [] s t) ∧
      (h.val < 416 ∨ 423 < h.val → s.dev.clus.launches = [] → s.dev.host.copies = [] →
        (∀ g : Nat, (s.dev.sq g).waiting = [] ∧ (s.dev.sq g).running = []) →
        Answers (.recall h) s fun t =>
          (∀ x ∈ t.dev.rbt.holders, x.root = s.dev.rbt.recallRange.1 →
            overlaps x.va x.len s.dev.rbt.recallRange.2.1 s.dev.rbt.recallRange.2.2 = true → h.val ∉ x.ids) ∧
            t.dev.rbt.recalls = s.dev.rbt.recalls ∧ State.onlyFields debugFields s t))) ∧
  ∀ (s : State) (h : Fin 512), s.powered → s.dev.rbt.recalls.contains h.val = true → s.dev.get F.RBT_INV_STATUS = 1 →
    ((s.dev.holdersIn s.dev.rbt.recallRange.1 s.dev.rbt.recallRange.2.1 s.dev.rbt.recallRange.2.2).any fun x => x.ids.contains h.val) = false →
    let left := s.dev.rbt.recalls.filter (· != h.val)
    (left ≠ [] →
      Answers (.recallAck h) s fun t =>
        t.dev.rbt.recalls = left ∧ t.dev.get F.RBT_INV_WAIT_COUNT = left.length % 2 ^ 10 ∧ t.dev.get F.RBT_INV_STATUS = 1 ∧
          t.dev.events = s.dev.events ∧ State.onlyFields [F.RBT_INV_WAIT_COUNT, F.RBT_INV_WAIT_LOWEST] s t) ∧
    (left = [] → s.dev.rbt.waitingBind = [] →
      Answers (.recallAck h) s fun t =>
        t.dev.rbt.recalls = [] ∧ t.dev.get F.RBT_INV_STATUS = 2 ∧
          Dev.raisedOne s.dev t.dev evInvalidate stOk s.dev.rbt.recallRange.1
            [s.dev.rbt.recallRange.1, s.dev.rbt.recallRange.2.1, s.dev.rbt.recallRange.2.2] ∧
          State.onlyFieldsEv [F.RBT_INV_STATUS, F.RBT_INV_WAIT_COUNT, F.RBT_INV_WAIT_LOWEST] s t)

/-- A link takes flits in order, answers a bad one with one NAK, sends again on NAK; retrains, and modules go out, degrade or stay. (R236,
R238, R239, R240, R241, R242, R243) -/
def Obligations.FlitsRetryRetrainAndDegrade : Prop :=
  (∀ (s : State) (l : Fin 13) (b : List Byte), s.powered → s.dev.get (F.DTD_LINK_STATE l) = lkUp →
    let x := s.dev.link l
    let w := flitHead b
    let good := flitOk b && bits w 31 20 == x.rxSeq
    let kept := if bit w 7 then flitsAfter x.retry (bits w 19 8) else x.retry
    (good = true →
      (bit w 6 = false →
        Answers (.flit l b) s fun t =>
          t.dev.link l = { x with rxSeq := (x.rxSeq + 1) % 4096, nakSent := false, retry := kept } ∧ t.dev.outs = s.dev.outs ∧
            State.onlyFields [] s t) ∧
      (bit w 6 = true → x.nakCount = 0 →
        Answers (.flit l b) s fun t =>
          (t.dev.link l).rxSeq = (x.rxSeq + 1) % 4096 ∧ (t.dev.link l).retry = kept ∧
            t.dev.outs = (kept.map fun f => Out.flit l f).reverse ++ s.dev.outs ∧ State.onlyFields [] s t)) ∧
    (good = false → x.nakSent = false →
      Answers (.flit l b) s fun t =>
        t.dev.link l = { x with nakSent := true } ∧ t.dev.outs = .flitNak l ((x.rxSeq + 4095) % 4096) :: s.dev.outs ∧
          t.dev.get (F.DTD_LINK_REPLAYS l) = min (2 ^ 16 - 1) (s.dev.get (F.DTD_LINK_REPLAYS l) + 1) ∧
          t.dev.get (F.DTD_LINK_CRCERR l) = min (2 ^ 16 - 1) (s.dev.get (F.DTD_LINK_CRCERR l) + b2n (!flitOk b)) ∧
          State.onlyFields [F.DTD_LINK_REPLAYS l, F.DTD_LINK_CRCERR l] s t) ∧
    (good = false → x.nakSent = true →
      Answers (.flit l b) s fun t =>
        t.dev.dtd = s.dev.dtd ∧ t.dev.outs = s.dev.outs ∧
          t.dev.get (F.DTD_LINK_CRCERR l) = min (2 ^ 16 - 1) (s.dev.get (F.DTD_LINK_CRCERR l) + b2n (!flitOk b)) ∧
          State.onlyFields [F.DTD_LINK_CRCERR l] s t) ∧
    ∀ trigger : Nat,
      Answers (.boulevardRetrain l trigger) s fun t =>
        t.dev.get (F.DTD_LINK_STATE l) = lkRetraining ∧ (t.dev.link l).trigger = trigger ∧
          t.dev.get (F.DTD_LINK_RETRAINS l) = min (2 ^ 16 - 1) (s.dev.get (F.DTD_LINK_RETRAINS l) + 1) ∧
          Dev.raisedOne s.dev t.dev evDie stOk l [l.val, trigger, s.dev.get (F.DTD_LINK_ACTIVE l)] ∧
          State.onlyFieldsEv [F.DTD_LINK_STATE l, F.DTD_LINK_RETRAINS l] s t) ∧
  (∀ (s : State) (l : Fin 13) (b : List Byte) (trigger : Nat), s.powered → s.dev.get (F.DTD_LINK_STATE l) ≠ lkUp →
    ∀ c ∈ [Instr.flit l b, .boulevardRetrain l trigger], Answers c s fun t => t = s) ∧
  (∀ (s : State) (l : Fin 13) (ok : Bool) (tests : List LaneTest), s.powered → s.dev.get (F.DTD_LINK_STATE l) ≠ lkRetraining →
    Answers (.boulevardRetrainDone l ok tests) s fun t => t = s) ∧
  (∀ (s : State) (l : Fin 13), s.powered → s.dev.get (F.DTD_LINK_STATE l) = lkRetraining → s.dev.dtd.fenced = [] →
    (s.dev.dtd.stale = [] → (∀ m ∈ modulesOf l, s.dev.badLanes m = []) → s.dev.stripedOn l ≠ 0 →
      Answers (.boulevardRetrainDone l true []) s fun t =>
        t.dev.get (F.DTD_LINK_STATE l) = lkUp ∧ t.dev.get (F.DTD_LINK_ACTIVE l) = s.dev.stripedOn l ∧
          (∃ e ∈ t.dev.events, e.cls = evDie ∧ e.source = l ∧ e.detail = [l.val, (s.dev.link l).trigger, s.dev.stripedOn l]) ∧
          State.onlyFieldsEv ([F.DTD_LINK_STATE l, F.DTD_LINK_ACTIVE l, F.SCH_TRC_D2D_X32] ++
            (modulesOf l).flatMap fun m => [F.DTD_MOD_FAILED m, F.DTD_MOD_SPARES_USED m]) s t) ∧
    ∀ tests : List LaneTest,
      Answers (.boulevardRetrainDone l false tests) s fun t =>
        (∀ m ∈ modulesOf l, t.dev.get (F.DTD_MOD_STATE m) = mdOut) ∧
          (l.val ≠ guestLink → t.dev.get (F.DTD_LINK_STATE l) = lkFailed ∧ t.dev.held hcFault = true) ∧
          (l.val = guestLink → t.dev.get (F.DTD_LINK_STATE l) = lkDown ∧ t.dev.guest = guRejected) ∧
          State.onlyFieldsEv ([F.DTD_LINK_STATE l, F.DTD_LINK_ACTIVE l, F.SCH_TRC_D2D_X32, F.DTD_GUEST_STATE, F.DTD_GUEST_REASON] ++ holdFields ++
            (modulesOf l).flatMap fun m => [F.DTD_MOD_STATE m, F.DTD_MOD_WIDTH m]) s t) ∧
  ∀ (s : State) (m : Fin 140), s.powered →
    (s.dev.get (F.DTD_MOD_STATE m) ≠ mdFenced ∨ s.dev.switchPoint = false → Answers (.x32Degrade m) s fun t => t = s) ∧
    (s.dev.get (F.DTD_MOD_STATE m) = mdFenced → s.dev.switchPoint = true →
      let low := (s.dev.badLanes m).any (laneUsed 1)
      let high := (s.dev.badLanes m).any (laneUsed 2)
      (low = false ∨ high = false →
        Answers (.x32Degrade m) s fun t =>
          t.dev.get (F.DTD_MOD_STATE m) = mdDegraded ∧ t.dev.get (F.DTD_MOD_WIDTH m) = (if low = true then 2 else 1) ∧
            t.dev.on F.SCH_TRC_D2D_X32 = true ∧ t.dev.events = s.dev.events ∧
            State.onlyFields ([F.DTD_MOD_STATE m, F.DTD_MOD_WIDTH m, F.DTD_LINK_ACTIVE (linkOfModule m), F.SCH_TRC_D2D_X32] ++ holdFields) s t) ∧
      (low = true → high = true →
        Answers (.x32Degrade m) s fun t =>
          t.dev.get (F.DTD_MOD_STATE m) = mdOut ∧ ∃ e ∈ t.dev.events, e.cls = evRas ∧ e.detail = [m.val]))

/-- The guest site walks from ISOLATED to ADMITTED or REJECTED with a reason and an event; an admitted guest reaches memory through its
windows only. (R244, R245, R246, R247, R248, R249) -/
def Obligations.GuestAdmissionAndWindows : Prop :=
  (∀ (s : State) (blocks : List ProfileBlock) (raw : List Byte) (r : QualIn), s.powered →
    let gf := [F.DTD_GUEST_STATE, F.DTD_GUEST_REASON, F.DTD_LINK_STATE guestLink, F.DTD_LINK_ACTIVE guestLink]
    (∀ p ∈ [(Instr.guestSidebandAnswer, guIsolated), (.capabilityProfile blocks raw, guNegotiating), (.qualificationRecord r, guVerifying),
      (.qualificationTimeout, guVerifying), (.guestRetry, guRejected)], s.dev.guest ≠ p.2 → Answers p.1 s fun t => t = s) ∧
    (∀ p ∈ [(Instr.guestSidebandAnswer, guIsolated, guNegotiating, 0), (.qualificationTimeout, guVerifying, guRejected, 1),
      (.guestRetry, guRejected, guIsolated, 0)], s.dev.guest = p.2.1 →
      Answers p.1 s fun t =>
        t.dev.guest = p.2.2.1 ∧ t.dev.get F.DTD_GUEST_REASON = p.2.2.2 ∧ t.dev.get (F.DTD_LINK_STATE guestLink) = lkDown ∧
          Dev.raisedOne s.dev t.dev evDie stOk guestLink [p.2.2.1, p.2.2.2] ∧ State.onlyFieldsEv gf s t) ∧
    (s.dev.guest = guNegotiating → 4096 < raw.length ∨ negotiationFails blocks = true →
      Answers (.capabilityProfile blocks raw) s fun t =>
        t.dev.guest = guRejected ∧ t.dev.get F.DTD_GUEST_REASON = 9 ∧ t.dev.dtd.profile = raw.take 4096 ∧
          Dev.raisedOne s.dev t.dev evDie stOk guestLink [guRejected, 9] ∧ State.onlyFieldsEv gf s t) ∧
    (s.dev.guest = guNegotiating → raw.length ≤ 4096 → negotiationFails blocks = false →
      let next := if agreedOf 4 blocks = 1 ∧ s.dev.on F.DTD_CFG_THERM_COMPAT = false then guNeedsCompat else guVerifying
      Answers (.capabilityProfile blocks raw) s fun t =>
        t.dev.guest = next ∧ t.dev.get F.DTD_GUEST_PROTO = agreedOf 2 blocks % 2 ^ 8 ∧
          t.dev.get F.DTD_GUEST_THERM = agreedOf 4 blocks % 2 ^ 8 ∧ t.dev.dtd.profile = raw ∧
          Dev.raisedOne s.dev t.dev evDie stOk guestLink [next, 0] ∧
          State.onlyFieldsEv (F.DTD_GUEST_PROTO :: F.DTD_GUEST_THERM :: gf) s t) ∧
    (s.dev.guest = guVerifying → qualReason s.vault.partners r ≠ 0 →
      Answers (.qualificationRecord r) s fun t =>
        t.dev.guest = guRejected ∧ t.dev.get F.DTD_GUEST_REASON = qualReason s.vault.partners r ∧
          Dev.raisedOne s.dev t.dev evDie stOk guestLink [guRejected, qualReason s.vault.partners r] ∧
          State.onlyFieldsEv (F.DTD_GUEST_PARTNER :: gf) s t) ∧
    (s.dev.guest = guVerifying → qualReason s.vault.partners r = 0 → s.dev.dtd.stale = [] → s.dev.stripedOn guestLink ≠ 0 →
      Answers (.qualificationRecord r) s fun t =>
        t.dev.guest = guAdmitted ∧ t.dev.get F.DTD_GUEST_PARTNER = r.partner % 2 ^ 16 ∧
          t.dev.get (F.DTD_LINK_STATE guestLink) = lkUp ∧ t.dev.get (F.DTD_LINK_ACTIVE guestLink) = s.dev.stripedOn guestLink ∧
          Dev.raisedOne s.dev t.dev evDie stOk guestLink [guAdmitted, 0] ∧
          State.onlyFieldsEv (F.DTD_GUEST_PARTNER :: F.SCH_TRC_D2D_X32 :: gf) s t)) ∧
  (∀ (s : State) (write : Bool) (pa len : Nat) (data : List Byte), s.powered →
    let n := if write then data.length else len
    (s.dev.guest ≠ guAdmitted ∨ s.dev.get (F.DTD_LINK_STATE guestLink) ≠ lkUp →
      Answers (.guestRequest write pa len data) s fun t => t = s) ∧
    (s.dev.guest = guAdmitted → s.dev.get (F.DTD_LINK_STATE guestLink) = lkUp →
      ((∀ w < 4, s.dev.guestWindow write pa n w = false) →
        Answers (.guestRequest write pa len data) s fun t =>
          t.dev.outs.head? = some (.guest stPerm []) ∧ Dev.raisedOne s.dev t.dev evRas stPerm guestLink [pa] ∧ State.onlyFieldsEv [] s t) ∧
      ((∃ w < 4, s.dev.guestWindow write pa n w = true) → s.dev.runsWait [(pa, n)] = false →
        (write = false → s.dev.readStatus pa len false = (stOk, s.dev) →
          Answers (.guestRequest write pa len data) s fun t =>
            t.dev.outs = .guest stOk (s.dev.read pa len) :: s.dev.outs ∧ State.onlyFields [] s t) ∧
        (write = true → s.dev.writeStatus pa n = stOk →
          Answers (.guestRequest write pa len data) s fun t =>
            t.dev.outs = .guest stOk [] :: s.dev.outs ∧ t.dev.read pa n = data ∧ State.sameBut s t ∧ Dev.sameRegsBut [] s.dev t.dev ∧
              Dev.sameMemBut [(pa, n)] s.dev t.dev ∧ t.dev.sram = s.dev.sram)))) ∧
  ∀ (s : State) (w : Fin 4) (v : Word), s.powered →
    (s.dev.dtd.guestBusy = false →
      Answers (.guestWindowWrite w v) s fun t =>
        t.dev.get (F.DTD_GUEST_WIN_VALID w) = bits v.toNat 63 63 ∧ t.dev.get (F.DTD_GUEST_WIN_WRITE w) = bits v.toNat 62 62 ∧
          t.dev.get (F.DTD_GUEST_WIN_READ w) = bits v.toNat 61 61 ∧ t.dev.get (F.DTD_GUEST_WIN_SIZE w) = bits v.toNat 60 52 ∧
          t.dev.get (F.DTD_GUEST_WIN_BASE w) = bits v.toNat 51 26 ∧
          State.onlyFields [F.DTD_GUEST_WIN_VALID w, F.DTD_GUEST_WIN_WRITE w, F.DTD_GUEST_WIN_READ w, F.DTD_GUEST_WIN_SIZE w,
            F.DTD_GUEST_WIN_BASE w] s t) ∧
    (s.dev.dtd.guestBusy = true →
      Answers (.guestWindowWrite w v) s fun t =>
        Dev.raisedOne s.dev t.dev evRegister stOk 0 [(F.DTD_GUEST_WIN_VALID w).off, v.toNat] ∧ State.onlyFieldsEv regaccFields s t)

/-- Enabling, cable, signal, training, loss, retry and rejection move a gate port as its state table says, and a port in the mask that
leaves UP holds LINK. (R22, R254, R258, R262, R269, R271) -/
def Obligations.GatePortsChangeState : Prop :=
  (∀ (s : State) (p : Fin 12), s.powered →
    (s.dev.get F.PWR_BOOT_STATE = dsFailed →
      Answers (.portEnable p) s fun t =>
        Dev.raisedOne s.dev t.dev evRegister stOk 0 [(F.GTE_PORT_EN p).off, 1] ∧ State.onlyFieldsEv regaccFields s t) ∧
    (s.dev.get F.PWR_BOOT_STATE ≠ dsFailed →
      (s.dev.portState p = psDisabled →
        Answers (.portEnable p) s fun t =>
          t.dev.get (F.GTE_PORT_EN p) = 1 ∧ t.dev.portState p = psDown ∧ (t.dev.port p).driving = (s.dev.port p).present ∧
            State.onlyFields [F.GTE_PORT_EN p, F.GTE_PORT_STATE p] s t) ∧
      (s.dev.portState p ≠ psDisabled →
        Answers (.portEnable p) s fun t => t.dev.get (F.GTE_PORT_EN p) = 1 ∧ t.dev.gate = s.dev.gate ∧ State.onlyFields [F.GTE_PORT_EN p] s t)) ∧
    Answers (.portDisable p) s (fun t =>
      t.dev.get (F.GTE_PORT_EN p) = 0 ∧ t.dev.portState p = psDisabled ∧ (t.dev.port p).driving = false ∧
        (s.dev.portState p = psUp → bit (s.dev.get F.TCK_CTRL_PORTS) p = true → t.dev.held hcLink = true) ∧
        State.onlyFields ([F.GTE_PORT_EN p, F.GTE_PORT_STATE p] ++ holdFields ++ sentFields) s t) ∧
    (∀ present : Bool,
      Answers (.cablePresenceChange p present) s fun t =>
        (t.dev.port p).present = present ∧
          (t.dev.port p).driving = (present && s.dev.portState p != psDisabled && s.dev.portState p != psRejected) ∧
          (∀ q : Nat, q ≠ p → t.dev.port q = s.dev.port q) ∧ State.onlyFields [] s t) ∧
    (s.dev.portState p = psDown → (s.dev.port p).present = true →
      Answers (.signalDetect p) s fun t => t.dev.portState p = psTraining ∧ State.onlyFields [F.GTE_PORT_STATE p] s t) ∧
    (s.dev.portState p ≠ psDown ∨ (s.dev.port p).present = false → Answers (.signalDetect p) s fun t => t = s) ∧
    (s.dev.portState p ≠ psTraining → Answers (.trainingComplete p) s fun t => t = s) ∧
    (s.dev.portState p = psTraining →
      (s.dev.on F.GTE_ID_RANKED = true →
        Answers (.trainingComplete p) s fun t =>
          t.dev.portState p = psAttesting ∧ (t.dev.port p).nonceOut = fitBytes 48 (Config.random s.dev.fresh) ∧
            t.dev.outs = .mgmt p 0 (t.dev.port p).nonceOut :: s.dev.outs ∧ State.onlyFields [F.GTE_PORT_STATE p] s t) ∧
      (s.dev.on F.GTE_ID_RANKED = false →
        Answers (.trainingComplete p) s fun t =>
          t.dev.portState p = psRejected ∧ t.dev.get (F.GTE_PORT_REASON p) = 11 ∧ t.dev.outs = .mgmt p 2 (leBytes 1 11) :: s.dev.outs ∧
            State.onlyFields [F.GTE_PORT_STATE p, F.GTE_PORT_REASON p] s t))) ∧
  (∀ (s : State) (p : Fin 12) (c : Instr) (old new : Nat), s.powered →
    (c, old, new) ∈ [(Instr.trainingTimeout p, psTraining, psDown), (.lossOfSignal p, psUp, psDown), (.portRetrain p, psUp, psTraining),
      (.rejectRetryExpiry p, psRejected, psDown), (.portRetry p, psRejected, psDown)] →
    (s.dev.portState p ≠ old → Answers c s fun t => t = s) ∧
    (s.dev.portState p = old →
      Answers c s fun t =>
        t.dev.portState p = new ∧ (old ≠ psUp → State.onlyFields [F.GTE_PORT_STATE p] s t ∧ t.dev.gate.waiting = s.dev.gate.waiting) ∧
          (old = psUp → (t.dev.port p).kept = [] ∧ (bit (s.dev.get F.TCK_CTRL_PORTS) p = true → t.dev.held hcLink = true)) ∧
          State.onlyFields (F.GTE_PORT_STATE p :: holdFields ++ sentFields) s t)) ∧
  ∀ (s : State) (p : Fin 12) (c : Instr) (reason : Nat), s.powered → (c, reason) ∈ [(Instr.evidenceTimeout p, 1), (.peerRejection p, 10)] →
    (s.dev.portState p ≠ psAttesting → Answers c s fun t => t = s) ∧
    (s.dev.portState p = psAttesting →
      Answers c s fun t =>
        t.dev.portState p = psRejected ∧ t.dev.get (F.GTE_PORT_REASON p) = reason ∧ (t.dev.port p).driving = false ∧
          t.dev.outs = .mgmt p 2 (leBytes 1 reason) :: s.dev.outs ∧ State.onlyFields [F.GTE_PORT_STATE p, F.GTE_PORT_REASON p] s t)

/-- Evidence that passes every check brings a port UP with its peer and common features; a nonce is answered over one LMS leaf; a rank is
assigned only while quiet. (R261, R262, R269, R270, R271, R272, R273, R383) -/
def Obligations.AttestationAndRank : Prop :=
  (∀ (s : State) (p : Fin 12) (e : EvidenceIn), s.powered →
    (s.dev.portState p ≠ psAttesting → Answers (.evidence p e) s fun t => t = s) ∧
    (s.dev.portState p = psAttesting → s.dev.evidenceReason p e ≠ 0 →
      Answers (.evidence p e) s fun t =>
        t.dev.portState p = psRejected ∧ t.dev.get (F.GTE_PORT_REASON p) = s.dev.evidenceReason p e ∧
          t.dev.outs = .mgmt p 2 (leBytes 1 (s.dev.evidenceReason p e)) :: s.dev.outs ∧
          State.onlyFields [F.GTE_PORT_STATE p, F.GTE_PORT_REASON p] s t) ∧
    (s.dev.portState p = psAttesting → s.dev.evidenceReason p e = 0 → s.dev.gate.waiting = [] →
      let common := s.dev.negotiated &&& e.features.toNat
      let last := (s.dev.port p).lastRank
      let changed := last.isSome && last != some e.rank
      Answers (.evidence p e) s fun t =>
        t.dev.portState p = psUp ∧ t.dev.get (F.GTE_PEER_RANK p) = e.rank % 2 ^ 14 ∧ t.dev.get (F.GTE_PEER_POS p) = e.position % 2 ^ 24 ∧
          t.dev.get (F.GTE_PEER_PORT p) = e.port ∧ t.dev.get (F.GTE_PFEAT_BITS p 0) = common % 2 ^ 64 ∧
          t.dev.get (F.GTE_PFEAT_BITS p 1) = common / 2 ^ 64 % 2 ^ 64 ∧
          t.dev.get (F.GTE_DELAY_DELAY p) = (if last = some e.rank then s.dev.get (F.GTE_DELAY_DELAY p) else e.delayPs % 2 ^ 32) ∧
          (t.dev.port p).lastRank = some e.rank ∧ (t.dev.port p).credits = fullCredits ∧
          (changed = true → t.dev.get (F.GTE_PEER_CHANGED p) = 1 ∧ Dev.raisedOne s.dev t.dev evGate stOk p [last.getD 0, e.rank]) ∧
          (changed = false → t.dev.events = s.dev.events) ∧
          (bit (s.dev.get F.TCK_CTRL_PORTS) p = true → t.dev.maskUp = true → t.dev.held hcLink = false) ∧
          State.onlyFieldsEv ([F.GTE_PORT_STATE p, F.GTE_PEER_RANK p, F.GTE_PEER_POS p, F.GTE_PEER_PORT p, F.GTE_PFEAT_BITS p 0,
            F.GTE_PFEAT_BITS p 1, F.GTE_DELAY_DELAY p, F.GTE_PEER_CHANGED p] ++ holdFields) s t)) ∧
  (∀ (s : State) (p : Fin 12) (bytes : List Byte), s.powered →
    (s.dev.portState p ≠ psAttesting → Answers (.nonce p bytes) s fun t => t = s) ∧
    (s.dev.portState p = psAttesting → bytes.length = 48 → s.vault.leavesUsed < lmsLeaves →
      let body := s.dev.evidenceBody p bytes
      Answers (.nonce p bytes) s fun t =>
        t.vault = { s.vault with leavesUsed := s.vault.leavesUsed + 1 } ∧
          t.dev.outs = .mgmt p 1 (body ++ Config.sign s.vault.leavesUsed body) :: s.dev.outs ∧ (t.dev.port p).nonceIn = bytes ∧
          t.pending = s.pending ∧ t.flash = s.flash ∧ Dev.sameRegsBut [] s.dev t.dev ∧ t.dev.mem = s.dev.mem ∧ t.dev.sram = s.dev.sram)) ∧
  ∀ (s : State) (a : Auth) (rank : Nat), s.authentic a 0x2A0001 (leBytes 2 rank) → s.dev.pwr.flashWp = false →
    rank < 16384 ∨ rank = 0xFFFF →
    let quiet := (s.dev.tickState = tsOff ∨ s.dev.tickState = tsParked) ∧ s.dev.on F.GTE_CTRL_BE_STOP = true ∧ s.dev.on F.GTE_CTRL_BE_IDLE = true
    (quiet →
      Answers (.rankAssignment a rank) s fun t =>
        t.dev.get F.GTE_ID_RANK = rank % 2 ^ 14 ∧ t.dev.get F.GTE_ID_RANKED = b2n (rank != 0xFFFF) ∧
          (∀ p < 12, t.dev.portState p = (if s.dev.portState p = psUp then psAttesting else s.dev.portState p)) ∧
          State.authDone a 0x2A0001 (leBytes 2 rank) stOk (s.countedVault a)
            (s.flash.lay (Table.ins s.flash.storedEntries 0x2A0001 (leBytes 2 rank)))
            ([F.GTE_ID_RANK, F.GTE_ID_RANKED] ++ (List.range 12).map F.GTE_PORT_STATE ++ holdFields ++ sentFields) s t) ∧
    (¬ quiet →
      Answers (.rankAssignment a rank) s fun t =>
        t.dev.gate = s.dev.gate ∧ State.authDone a 0x2A0001 (leBytes 2 rank) stPerm (s.countedVault a) s.flash [] s t)

/-- A packet that passes on is accepted and leaves in its direction, a bad one draws NAK and STOMP; NAK sends again in order, an
acknowledgement frees. (R256, R257, R262, R263, R266, R267, R274) -/
def Obligations.PacketsPassOnAndLinksRetry : Prop :=
  (∀ (s : State) (p : Fin 12) (hdr : Header) (data : List Byte), s.powered → s.dev.portUp p = true →
    s.dev.passesOn (hdrOf hdr.toNat) = true →
    let h := hdrOf hdr.toNat
    let last := ((s.dev.port p).rxSeq + 4095) % 4096
    ((s.dev.port p).nakSent = false →
      Answers (.packetForward p hdr data false) s fun t =>
        t.dev.outs = (match if s.dev.admits p h.src then s.dev.forwardPort h else none with
          | some q => [Out.stomp q hdr.toNat]
          | none => []) ++ .nak p last :: s.dev.outs ∧
          (t.dev.port p).nakSent = true ∧ t.dev.get (F.GTE_PERR_NAKS p) = min (2 ^ 16 - 1) (s.dev.get (F.GTE_PERR_NAKS p) + 1) ∧
          State.onlyFields [F.GTE_PERR_NAKS p] s t) ∧
    (s.dev.admits p h.src = false →
      Answers (.packetForward p hdr data true) s fun t =>
        (t.dev.port p).rxSeq = ((s.dev.port p).rxSeq + 1) % 4096 ∧ t.dev.outs = s.dev.outs ∧
          t.dev.get F.GTE_DROPS_INGRESS = min (2 ^ 16 - 1) (s.dev.get F.GTE_DROPS_INGRESS + 1) ∧
          State.onlyFields [F.GTE_DROPS_INGRESS] s t) ∧
    (s.dev.admits p h.src = true → s.dev.gate.waiting = [] →
      (∀ q : Nat, h.fixed = true → s.dev.outPort (h.ports % 16) none = some q →
        let out := ({ h with ports := h.ports / 16, hopleft := h.hopleft - 1 } : Hdr).code
        s.dev.mayTransmit q out h.len = true →
        Answers (.packetForward p hdr data true) s fun t =>
          t.dev.outs = .packet q out (fitBytes h.len data) :: s.dev.outs ∧
            t.dev.get (F.GTE_PSTAT0_SENT q) = min (2 ^ 64 - 1) (s.dev.get (F.GTE_PSTAT0_SENT q) + h.len) ∧ t.dev.gate.waiting = [] ∧
            State.onlyFields [F.GTE_PSTAT0_SENT q] s t) ∧
      ∀ (q k e : Nat) (cross : Bool), h.fixed = false → s.dev.on (F.GTE_RANK_VALID h.dst) = true →
        s.dev.nextHop (s.dev.get (F.GTE_RANK_POS h.dst)) = some (k, e, cross) → s.dev.outPort (dirCode k e) none = some q →
        let out := ({ h with vc := h.vc / 2 * 2 + b2n ((s.dev.portInDim p k && h.vc % 2 == 1) || cross) } : Hdr).code
        s.dev.mayTransmit q out h.len = true →
        Answers (.packetForward p hdr data true) s fun t =>
          t.dev.outs = .packet q out (fitBytes h.len data) :: s.dev.outs ∧
            t.dev.get (F.GTE_PSTAT0_SENT q) = min (2 ^ 64 - 1) (s.dev.get (F.GTE_PSTAT0_SENT q) + h.len) ∧ t.dev.gate.waiting = [] ∧
            State.onlyFields [F.GTE_PSTAT0_SENT q] s t)) ∧
  (∀ (s : State) (p : Fin 12) (seq : Nat), s.powered → s.dev.portUp p = true → (s.dev.port p).seqKnown (seq % 4096) = true →
    let kept := (s.dev.port p).keptAfter (seq % 4096)
    Answers (.linkNak p seq) s fun t =>
      t.dev.port p = { s.dev.port p with kept := kept } ∧
        t.dev.outs = (kept.map fun k => Out.packet p k.hdr k.data).reverse ++ s.dev.outs ∧ State.onlyFields [] s t) ∧
  (∀ (s : State) (p : Fin 12) (seq : Nat) (credits : List Nat), s.powered → s.dev.portUp p = true → s.dev.gate.waiting = [] →
    Answers (.linkAcknowledgement p seq credits) s fun t =>
      (t.dev.port p).kept = (if (s.dev.port p).seqKnown (seq % 4096) then (s.dev.port p).keptAfter (seq % 4096) else (s.dev.port p).kept) ∧
        (∀ (i c : Nat), i < 5 → (s.dev.port p).credits[i]? = some c →
          (t.dev.port p).credits[i]? = some (min (c + credits.getD i 0) (fullCredits.getD i 0))) ∧
        t.dev.outs = s.dev.outs ∧ State.onlyFields [] s t) ∧
  ∀ (s : State) (p : Fin 12) (hdr : Header) (data : List Byte) (ok : Bool) (seq : Nat) (credits : List Nat), s.powered →
    s.dev.portUp p = false →
    ∀ c ∈ [Instr.packetForward p hdr data ok, .linkNak p seq, .linkAcknowledgement p seq credits], Answers c s fun t => t = s

/-- Remote WRITE, READ, ATOMIC and QMSG act through a window and answer RESP; a window's refusal changes no memory; RESP and its timeout
end what waited. (R260, R274, R275, R276, R319, R320) -/
def Obligations.RemoteRequestsAndResponses : Prop :=
  (∀ (s : State) (p : Fin 12) (hdr : Header) (h : Hdr) (i q out : Nat), s.powered →
    (∀ data : List Byte, s.dev.takesRequest p hdr.toNat ptWrite ftGate h → s.dev.windowFor p h.src 1 [(h.addr, h.len)] = some i →
      s.dev.stalls h.addr h.len = false → s.dev.writeStatus h.addr h.len = stOk → s.dev.respLeaves h stOk 0 q out →
      Answers (.writePacket p hdr data) s fun t =>
        t.dev.read h.addr h.len = fitBytes h.len data ∧ t.dev.outs = .packet q out [] :: s.dev.outs ∧ State.sameBut s t ∧
          Dev.sameRegsBut [F.GTE_PSTAT0_SENT q] s.dev t.dev ∧ Dev.sameMemBut [(h.addr, h.len)] s.dev t.dev ∧ t.dev.sram = s.dev.sram) ∧
    (s.dev.takesRequest p hdr.toNat ptRead ftGate h → s.dev.windowFor p h.src 0 [(h.addr, h.len)] = some i →
      s.dev.stalls h.addr h.len = false → s.dev.readStatus h.addr h.len false = (stOk, s.dev) → s.dev.respLeaves h stOk h.len q out →
      Answers (.readPacket p hdr false) s fun t =>
        t.dev.outs = .packet q out (s.dev.read h.addr h.len) :: s.dev.outs ∧ State.onlyFields [F.GTE_PSTAT0_SENT q] s t) ∧
    (∀ (op : AtomOp) (ty : AtomType) (a b : Nat), s.dev.takesRequest p hdr.toNat ptAtomic ftGateAtomic h →
      let n := atomBytes ty
      atomOk op ty = true → h.addr % n = 0 → s.dev.windowFor p h.src 2 [(h.addr, n)] = some i → s.dev.stalls h.addr n = false →
      paKind h.addr ≠ .ring → isHost h.addr = false → s.dev.readStatus h.addr n false = (stOk, s.dev) → s.dev.writeStatus h.addr n = stOk →
      s.dev.respLeaves h stOk n q out →
      let old := leNat (s.dev.read h.addr n)
      Answers (.atomicPacket p hdr op ty a b) s fun t =>
        t.dev.read h.addr n = leBytes n (atomNew op ty old (a % 2 ^ 64) (b % 2 ^ 64)) ∧
          t.dev.outs = .packet q out (leBytes n old) :: s.dev.outs ∧ State.sameBut s t ∧
          Dev.sameRegsBut [F.GTE_PSTAT0_SENT q] s.dev t.dev ∧ Dev.sameMemBut [(h.addr, n)] s.dev t.dev ∧ t.dev.sram = s.dev.sram) ∧
    (∀ (data : List Byte) (x : Queue) (l : List Extent) (d : Dev) (pa : Nat), s.dev.takesRequest p hdr.toNat ptQmsg ftGateQmsg h →
      s.dev.queue (h.addr % 2 ^ 18) = some x → x.kind ≠ 0 → h.len = 120 → h.addr < 2 ^ 18 →
      s.dev.obtainOnce (queueWaiter x x.ring (128 * 2 ^ x.ringLog2) 2) = (.ok l, d) → extentRuns l (x.slotVa x.pi) 128 = [(pa, 128)] →
      d.runsWait [(pa, 128)] = false → (d.windowFor p h.src 1 (extentAll l)).isSome = true → d.unread h.addr < 2 ^ x.ringLog2 →
      d.writeStatus pa 128 = stOk → isHost pa = false → s.dev.host.contexts.length < 4096 → s.dev.respLeaves h stOk 0 q out →
      Answers (.qmsgPacket p hdr data) s fun t =>
        t.dev.read pa 8 = leBytes 8 (x.pi % 2 ^ 32 * 2 ^ 32 + h.src * 2 ^ 18) ∧ t.dev.read (pa + 8) 120 = fitBytes 120 data ∧
          (∃ y : Queue, t.dev.queue h.addr = some y ∧ y.pi = (x.pi + 1) % 2 ^ 32) ∧ Out.packet q out [] ∈ t.dev.outs ∧ State.sameBut s t ∧
          Dev.sameRegsBut (walkFields ++ holdFields ++ [F.GTE_PSTAT0_SENT q]) s.dev t.dev ∧ Dev.sameMemBut [(pa, 128)] s.dev t.dev ∧
          t.dev.sram = s.dev.sram)) ∧
  (∀ (s : State) (p : Fin 12) (hdr : Header) (h : Hdr) (data : List Byte) (op : AtomOp) (ty : AtomType) (a b : Nat) (c : Instr)
      (pt ft need n : Nat), s.powered →
    (c, pt, ft, need, n) ∈ [(Instr.writePacket p hdr data, ptWrite, ftGate, 1, h.len), (.readPacket p hdr false, ptRead, ftGate, 0, h.len),
      (.atomicPacket p hdr op ty a b, ptAtomic, ftGateAtomic, 2, atomBytes ty)] →
    s.dev.takesRequest p hdr.toNat pt ft h → s.dev.windowFor p h.src need [(h.addr, n)] = none →
    Answers c s fun t =>
      t.dev.get F.GTE_DROPS_WINDOW = min (2 ^ 16 - 1) (s.dev.get F.GTE_DROPS_WINDOW + 1) ∧
        State.onlyFieldsEv (F.GTE_DROPS_WINDOW :: F.GTE_DROPS_UNREACH :: F.GTE_DROPS_MISDELIVER :: sentFields) s t) ∧
  (∀ (s : State) (p : Fin 12) (hdr : Header) (h : Hdr) (data : List Byte), s.powered → s.dev.delivered p hdr.toNat ptResp = some h →
    s.dev.admits p h.src = true → h.dst = s.dev.rank →
    let found := s.dev.gate.outstanding.find? fun o => o.tag == h.tag && o.rank == h.src
    (found = none → Answers (.respPacket p hdr data) s fun t => t.dev.host = s.dev.host ∧ State.onlyFields [] s t) ∧
    ∀ (o : Outstanding) (e : Entry), found = some o → o.kind = 2 ∨ o.kind = 3 → o.runs = [] → s.dev.entry o.queue o.seq = some e →
      e.finished = none →
      Answers (.respPacket p hdr data) s fun t =>
        t.dev.entryEnded o.queue o.seq (h.addr % 256) 0 ∧ t.dev.gate.outstanding = s.dev.gate.outstanding.erase o ∧
          t.dev.get F.GTE_CTRL_BE_IDLE = b2n (s.dev.gate.outstanding.erase o).isEmpty ∧ State.onlyFields [F.GTE_CTRL_BE_IDLE] s t) ∧
  (∀ (s : State) (tag : Nat), s.powered →
    let found := s.dev.gate.outstanding.find? fun o => o.tag == tag
    (found = none → Answers (.responseTimeout tag) s fun t => t = s) ∧
    ∀ (o : Outstanding) (e : Entry), found = some o → o.kind = 2 ∨ o.kind = 3 → s.dev.entry o.queue o.seq = some e → e.finished = none →
      Answers (.responseTimeout tag) s fun t =>
        t.dev.entryEnded o.queue o.seq stFaultPending 0 ∧ t.dev.gate.outstanding = s.dev.gate.outstanding.erase o ∧
          State.onlyFields [F.GTE_CTRL_BE_IDLE] s t) ∧
  ∀ (s : State) (i : Fin 256) (word1 : Bool) (v : Word), s.powered →
    let valid := if word1 then s.dev.on (F.GTE_WIN0_VALID i) else bit v.toNat 63
    let base := if word1 then bits v.toNat 31 0 else s.dev.get (F.GTE_WIN1_BASE i)
    let size := if word1 then bits v.toNat 63 32 else s.dev.get (F.GTE_WIN1_SIZE i)
    let lawful := winRangeOk (0x10000 * base) (0x10000 * size) && !(valid && size == 0)
    (lawful = true →
      Answers (.gteWinWrite i word1 v) s fun t =>
        t.dev.get (F.GTE_WIN1_BASE i) = base ∧ t.dev.get (F.GTE_WIN1_SIZE i) = size ∧ t.dev.on (F.GTE_WIN0_VALID i) = valid ∧
          (word1 = false → t.dev.get (F.GTE_WIN0_RANK_LO i) = bits v.toNat 33 20 ∧ t.dev.get (F.GTE_WIN0_RANK_HI i) = bits v.toNat 47 34 ∧
            t.dev.get (F.GTE_WIN0_PORTS i) = bits v.toNat 59 48 ∧ t.dev.on (F.GTE_WIN0_READ i) = bit v.toNat 60 ∧
            t.dev.on (F.GTE_WIN0_WRITE i) = bit v.toNat 61 ∧ t.dev.on (F.GTE_WIN0_ATOMIC i) = bit v.toNat 62) ∧
          State.onlyFields [F.GTE_WIN0_DRAIN i, F.GTE_WIN1_BASE i, F.GTE_WIN1_SIZE i, F.GTE_WIN0_VALID i, F.GTE_WIN0_RANK_LO i,
            F.GTE_WIN0_RANK_HI i, F.GTE_WIN0_PORTS i, F.GTE_WIN0_READ i, F.GTE_WIN0_WRITE i, F.GTE_WIN0_ATOMIC i] s t) ∧
    (lawful = false →
      Answers (.gteWinWrite i word1 v) s fun t =>
        Dev.raisedOne s.dev t.dev evRegister stOk 0 [(F.GTE_WIN0_VALID i).off + 8 * b2n word1, v.toNat] ∧ State.onlyFieldsEv regaccFields s t)

/-- SEND leaves as a packet with the arrival tick's stamp; an arrival lands in its RECV; RECV ends when all has come; other stamps as R44
says. (R44, R67, R263, R264, R265) -/
def Obligations.ScheduledSendsAndArrivals : Prop :=
  (∀ (s : State) (p : Fin 8) (port : Fin 12) (r : SlotRef) (sl : Slot) (pa q : Nat), s.powered →
    s.dev.slotStarts p engGate port opSend r sl →
    let d := s.dev.startSlot r
    let a := routeOf ((((d.part p).running.map Image.routes).getD []).getD sl.route [])
    let sg := (d.imageSegs p).getD sl.seg ⟨0, 0, 0, []⟩
    let out := (⟨ptSched, 0, true, a.dest, d.rank, (d.get F.TCK_TN_TN + sl.delta) % 2 ^ 16, sl.length, 0, a.hops - 1, a.ports / 16⟩ : Hdr).code
    a.splitN = 0 → d.routeLacks a = false → extentRuns sg.extents (sg.base + sl.offset) sl.length = [(pa, sl.length)] → 0 < sl.length →
    sl.length ≤ 4096 → d.runsWait [(pa, sl.length)] = false → d.readStatus pa sl.length false = (stOk, d) →
    d.outPort (a.ports % 16) none = some q → d.gate.waiting = [] → d.mayTransmit q out sl.length = true →
    Answers (.send p port false) s fun t =>
      t.dev.slotStarted p engGate port r ∧ t.dev.outs = .packet q out (s.dev.read pa sl.length) :: s.dev.outs ∧
        t.dev.get (F.GTE_PSTAT0_SENT q) = min (2 ^ 64 - 1) (s.dev.get (F.GTE_PSTAT0_SENT q) + sl.length) ∧
        State.onlyFields [F.GTE_PSTAT0_SENT q] s t) ∧
  (∀ (s : State) (p : Fin 8) (port : Fin 12) (r : SlotRef) (sl : Slot), s.powered → s.dev.slotStarts p engGate port opRecv r sl →
    let d := s.dev.startSlot r
    let got := gotBytes (d.recvOf p port r.slot (d.get F.TCK_TN_TN)).got
    (∀ ended : Bool, sl.length ≤ got →
      Answers (.recv p port ended) s fun t => t.dev.slotStarted p engGate port r ∧ State.onlyFields [] s t) ∧
    (got < sl.length →
      Answers (.recv p port false) s (fun t => t = s) ∧
      Answers (.recv p port true) s fun t =>
        t.dev.held hcFault = true ∧ (∃ e : Event, t.dev.events = e :: s.dev.events ∧ e.cls = evTickFault ∧ e.status = stBounds) ∧
          State.onlyFieldsEv (faultFields ++ holdFields) s t)) ∧
  ∀ (s : State) (p : Fin 12) (hdr : Header) (data : List Byte) (h : Hdr), s.powered → s.dev.delivered p hdr.toNat ptSched = some h →
    let ahead := (h.tag + 2 ^ 16 - s.dev.get F.TCK_TN_TN % 2 ^ 16) % 2 ^ 16
    let tn := s.dev.get F.TCK_TN_TN + ahead
    let target := (s.dev.recvSlots p h.src tn).find? fun r => !s.dev.recvHas tn h.addr h.len r
    (s.dev.admits p h.src = true → h.dst ≠ s.dev.rank →
      Answers (.schedPacket p hdr data) s fun t =>
        t.dev.held hcFault = true ∧ t.dev.get F.GTE_DROPS_MISDELIVER = min (2 ^ 16 - 1) (s.dev.get F.GTE_DROPS_MISDELIVER + 1) ∧
          State.onlyFieldsEv (F.GTE_DROPS_MISDELIVER :: faultFields ++ holdFields) s t) ∧
    (s.dev.admits p h.src = true → h.dst = s.dev.rank →
      (2 ≤ ahead → ahead < 2 ^ 15 → Answers (.schedPacket p hdr data) s fun t => t = s) ∧
      (2 ^ 15 ≤ ahead →
        Answers (.schedPacket p hdr data) s fun t =>
          (t.dev.port p).rxSeq = ((s.dev.port p).rxSeq + 1) % 4096 ∧ Dev.raisedOne s.dev t.dev evTick stOk p [h.tag, h.src] ∧
            State.onlyFieldsEv [] s t) ∧
      (ahead < 2 → s.dev.tick.quench = false → s.dev.deliverWaits p h.src tn h.addr h.len = false →
        ∀ r : RecvSlot, target = some r →
          (∀ pa : Nat, h.addr + h.len ≤ r.s.length →
            extentRuns r.seg.extents (r.seg.base + r.s.offset + h.addr) h.len = [(pa, h.len)] → s.dev.writeStatus pa h.len = stOk →
            Answers (.schedPacket p hdr data) s fun t =>
              t.dev.read pa h.len = fitBytes h.len data ∧
                (t.dev.recvOf r.part r.port r.slot tn).got = (h.addr, h.len) :: (s.dev.recvOf r.part r.port r.slot tn).got ∧
                State.sameBut s t ∧ Dev.sameRegsBut [] s.dev t.dev ∧ Dev.sameMemBut [(pa, h.len)] s.dev t.dev ∧ t.dev.sram = s.dev.sram) ∧
          (r.s.length < h.addr + h.len →
            Answers (.schedPacket p hdr data) s fun t =>
              t.dev.held hcFault = true ∧ State.onlyFieldsEv (faultFields ++ holdFields) s t)))

/-- A queued collective meets its checks in order and waits; the next one starts while fewer than sixteen run; a round of a scheduled one
sends its frames. (R279, R280, R281, R295, R296, R297, R298, R299) -/
def Obligations.CollectivesAreCheckedQueuedAndStarted : Prop :=
  (∀ (s : State) (q seq op : Nat) (c : Instr), s.powered →
    (c, op) ∈ [(Instr.allreduce q seq, opAllreduce), (.reduceScatter q seq, opReduceScatter), (.broadcast q seq, opBroadcast)] →
    (s.dev.entryFor q seq tyCollective = none → Answers c s fun t => t = s) ∧
    ∀ (x : Queue) (e : Entry) (d1 : Dev), s.dev.entryRuns q seq tyCollective x e d1 →
      let m := collDesc true e.desc
      let g := e.engine % 2
      m.op = op ∨ (op = opAllreduce ∧ m.op ≠ opReduceScatter ∧ m.op ≠ opBroadcast) →
      (d1.hasColl q seq = true → Answers c s fun t => t = { s with dev := d1 }) ∧
      (d1.hasColl q seq = false →
        (d1.collDescOk m = false →
          Answers c s fun t =>
            t.dev.entryEnded q seq stFeature 0 ∧ t.dev.get (F.SQR_LAST_STATUS g) = stFeature ∧ t.dev.get (F.SQR_LAST_DETAIL g) = 1 ∧
              t.dev.square = s.dev.square ∧ State.onlyFields (sqLastFields g) s t) ∧
        (d1.collDescOk m = true → bit (d1.get (F.ARB_PART_SQ_MASK x.part)) g = false →
          Answers c s fun t =>
            t.dev.entryEnded q seq stPerm 0 ∧ t.dev.get (F.SQR_LAST_STATUS g) = stPerm ∧ t.dev.get (F.SQR_LAST_DETAIL g) = 0 ∧
              t.dev.square = s.dev.square ∧ State.onlyFields (sqLastFields g) s t) ∧
        ∀ (pb lb : List Byte) (d2 d3 : Dev), d1.collDescOk m = true → bit (d1.get (F.ARB_PART_SQ_MASK x.part)) g = true →
          d1.sqFetch g x e m.param 128 = (some pb, d2) →
          let p := (List.range 16).map (leWord pb)
          d2.sqFetch g x e (p.getD 7 0 % 2 ^ 56) (listBytes m * listCount m) = (some lb, d3) →
          let list := listWords m lb
          let shape := collShape (d3.on F.GTE_ID_RANKED) m
          let stop (status order : Nat) (t : State) : Prop :=
            t.dev.entryEnded q seq status 0 ∧ t.dev.get (F.SQR_LAST_STATUS g) = status ∧ t.dev.get (F.SQR_LAST_DETAIL g) = order ∧
              t.dev.square = s.dev.square ∧ State.onlyFields (sqLastFields g ++ walkFields) s t
          (d3.collBlockOk true m p list = false → Answers c s (stop stFeature 1)) ∧
          (d3.collBlockOk true m p list = true → collEmpty m p = true → Answers c s (stop stOk 0)) ∧
          (d3.collBlockOk true m p list = true → collEmpty m p = false →
            (shape.1 ≠ stOk → Answers c s (stop shape.1 shape.2)) ∧
            ∀ (ext : List Extent) (d4 : Dev), shape.1 = stOk →
              Dev.obtainAll ((collRegions d3.rank m p list).map (sqWaiter g x e)) d3 = (.ok ext, d4) →
              ((d4.collErr m p ext).1 ≠ stOk → Answers c s (stop (d4.collErr m p ext).1 (d4.collErr m p ext).2)) ∧
              ((d4.collErr m p ext).1 = stOk → (d4.collPlace m list).1 ≠ stOk → Answers c s (stop stBounds 8)) ∧
              ∀ d5 : Dev, (d4.collErr m p ext).1 = stOk → (d4.collPlace m list).1 = stOk →
                Dev.holdAll (holderSquare g) x.root ((collRegions d3.rank m p list).map fun r => (r.1, r.2.1)) d4 = some d5 →
                Answers c s fun t =>
                  (∃ k : Coll, (t.dev.sq g).waiting = (s.dev.sq g).waiting ++ [k] ∧ k.id = m.id ∧ k.queue = some (q, seq) ∧ k.params = p ∧
                    k.list = list ∧ k.begun = false) ∧
                    (t.dev.sq g).running = (s.dev.sq g).running ∧ State.onlyFields (walkFields ++ sqCtxFields g) s t))) ∧
  (∀ (s : State) (g : Fin 2) (due : Bool), s.powered →
    ((s.dev.sq g).waiting = [] → Answers (.collectiveStart g due) s fun t => t = s) ∧
    ∀ (c : Coll) (rest : List Coll), (s.dev.sq g).waiting = c :: rest →
      (16 ≤ (s.dev.sq g).running.length ∨ s.dev.collWaits c = true → Answers (.collectiveStart g due) s fun t => t = s) ∧
      ((s.dev.sq g).running.length < 16 → s.dev.collWaits c = false → c.queue.isSome = true →
        (c.m.op ≠ opBroadcast → c.m.ranks ≠ 1 → s.dev.lacksTo (c.prim (c.m.succ c.slot)) [ftGateSquare] = true →
          Answers (.collectiveStart g due) s fun t =>
            Dev.collEnded s.dev t.dev g c stFeature 0 ∧ Dev.sameRegsBut (sqLastFields g ++ sqCtxFields g) s.dev t.dev ∧ State.sameBut s t) ∧
        ((s.dev.sq g).running.any (Coll.same c) = false → c.fail = none →
          (c.m.op = opBroadcast → s.dev.isRoot c = false → bits (c.p 14) 39 24 = 0 → c.manifest = [] →
            Answers (.collectiveStart g due) s fun t =>
              (t.dev.sq g).waiting = rest ∧
                (∃ k : Coll, (t.dev.sq g).running = (s.dev.sq g).running ++ [k] ∧ k.begun = true ∧ k.id = c.id ∧ k.next = c.next ∧
                  k.parent = bits (c.tree s.dev.rank) 49 36) ∧
                t.dev.get (F.SQR_BCAST_STATE g) = 1 ∧ t.dev.outs = s.dev.outs ∧
                State.onlyFields (sqCtxFields g ++ sqBcastFields g) s t) ∧
          ∀ (q : Nat) (cross : Bool),
            let pre := c.m.pred c.slot
            let blocks := c.m.shard pre
            let frame := frameOf ⟨c.id, c.m.lo pre, fkExponent, 0, c.slot, blocks.length⟩
              (expBody (blocks.map fun b => (b, ⟨[], s.dev.propose c b, 0, false⟩)))
            c.m.fmt = fmBsi → c.m.op ≠ opBroadcast → c.m.ranks ≠ 1 → c.bak (c.m.succ c.slot) = none → c.reducing = false →
            c.ownDone = false → blocks ≠ [] → blocks.length ≤ 4064 →
            s.dev.lacksTo (c.prim (c.m.succ c.slot)) [ftGateSquare] = false → (collIn (List.range c.m.blocks) false (c, s.dev)).1.fail = none →
            (collIn blocks false (c, s.dev)).1.fail = none →
            s.dev.reqLeaves ptSquare (c.prim (c.m.succ c.slot)) frame.length q cross →
            Answers (.collectiveStart g false) s fun t =>
              (t.dev.sq g).waiting = rest ∧ (t.dev.sq g).running = (s.dev.sq g).running ++ [{ c with awaiting := c.own, begun := true }] ∧
                (∃ addr : Nat, t.dev.outs = .packet q (⟨ptSquare, b2n cross, false, c.prim (c.m.succ c.slot), s.dev.rank, s.dev.gate.nextTag,
                  frame.length, addr, 0, 0⟩ : Hdr).code frame :: s.dev.outs) ∧
                State.onlyFields (sqCtxFields g ++ routedFields) s t))) ∧
  ∀ (s : State) (p : Fin 8) (g : Fin 2) (r : SlotRef) (sl : Slot) (im : Image), s.powered → s.dev.slotStarts p engSquare g opCollective r sl →
    (s.dev.part p).running = some im →
    let desc := s.dev.imageDesc p sl.desc
    let m := collDesc false desc
    (m.blocks = 0 ∨ m.op = opBroadcast →
      ∀ due : Bool, Answers (.collective p g due) s fun t => t.dev.slotStarted p engSquare g r ∧ State.onlyFields [] s t) ∧
    ∀ (c : Coll), m.blocks ≠ 0 → m.op ≠ opBroadcast →
      ((s.dev.sq g).running.find? fun k => k.id == m.id && k.queue.isNone) = some c → c.desc = desc →
      let next := routeOf (im.routes.getD m.routeNext [])
      (∀ due : Bool, s.dev.collWaits c = true → Answers (.collective p g due) s fun t => t = s) ∧
      (∀ due : Bool, s.dev.collWaits c = false → m.ranks ≠ 1 → s.dev.sqLacks next = true →
        Answers (.collective p g due) s fun t =>
          t.dev.held hcFault = true ∧ (∃ e : Event, t.dev.events = e :: s.dev.events ∧ e.cls = evTickFault ∧ e.status = stFeature) ∧
            t.dev.square = s.dev.square ∧ State.onlyFieldsEv (faultFields ++ holdFields) s t) ∧
      (∀ q : Nat,
        let blocks := m.chunk (m.pred c.slot)
        let stamp := (s.dev.get F.TCK_TN_TN + sl.delta) % 2 ^ 16
        let frame := frameOf ⟨c.id, blocks.headD 0, fkExponent, 0, c.slot, blocks.length⟩
          (expBody (blocks.map fun b => (b, ⟨[], s.dev.propose c b, 0, false⟩)))
        s.dev.collWaits c = false → m.ranks ≠ 1 → s.dev.sqLacks next = false → c.begun = true → c.resting → m.fmt = fmBsi →
        c.reducing = false → m.phase = 0 → m.step = 0 → m.routeB = 0x3FF → blocks ≠ [] → blocks.length ≤ 4064 →
        (collIn blocks false (c, s.dev)).1.fail = none → s.dev.laterRound p g r.slot m.id = true → s.dev.gate.waiting = [] →
        s.dev.outPort (next.ports % 16) none = some q →
        (∀ addr : Nat, s.dev.mayTransmit q (⟨ptSquare, 0, true, next.dest, s.dev.rank, stamp, frame.length, addr, next.hops - 1,
          next.ports / 16⟩ : Hdr).code frame.length = true) →
        Answers (.collective p g false) s fun t =>
          t.dev.slotStarted p engSquare g r ∧ (t.dev.sq g).running = (s.dev.sq g).running.map (fun k => if k.same c then c else k) ∧
            (∃ addr : Nat, t.dev.outs = .packet q (⟨ptSquare, 0, true, next.dest, s.dev.rank, stamp, frame.length, addr, next.hops - 1,
              next.ports / 16⟩ : Hdr).code frame :: s.dev.outs) ∧
            State.onlyFields [F.GTE_PSTAT0_SENT q] s t) ∧
      (s.dev.collWaits c = false → m.ranks = 1 → c.begun = true → c.fail = none → c.ownDone = true → m.fmt ≠ fmBsi ∨ c.reducing = true →
        s.dev.laterRound p g r.slot m.id = false →
        Answers (.collective p g false) s fun t =>
          t.dev.slotStarted p engSquare g r ∧ (t.dev.sq g).running = (s.dev.sq g).running.filter (fun k => !k.same c) ∧
            t.dev.get (F.SQR_LAST_STATUS g) = c.goodStatus ∧ t.dev.get (F.SQR_LAST_ID_COLL_ID g) = c.id % 2 ^ 64 ∧
            State.onlyFields (sqLastFields g ++ sqCtxFields g) s t)

/-- A frame of no collective is dropped and counted, one with wrong sums ends its collective CHECKSUM, a taken one combines with this
device's own contribution. The premise that a stage's sums agree shuts nothing out: they disagree only where an adder fails.
(R281, R284, R285, R286, R288, R290, R291, R292, R298, R43) -/
def Obligations.SquareFramesAreTaken : Prop :=
  (∀ (s : State) (p : Fin 12) (hdr : Header) (frame : List Byte) (c : Instr) (kind : Nat), s.powered →
    (c, kind) ∈ [(Instr.exponentFrame p hdr frame, fkExponent), (.bsiDenseFrame p hdr frame, fkDense), (.bsiSparseFrame p hdr frame, fkSparse),
      (.flaglistFrame p hdr frame, fkFlaglist), (.fp32Frame p hdr frame, fkFp32), (.onebitFrame p hdr frame, fkOnebit),
      (.finalFrame p hdr frame, fkFinal)] →
    let e := portEngine p
    let dropped (t : State) : Prop :=
      t.dev.get (F.SQR_DROPS_COUNT e) = min (2 ^ 32 - 1) (s.dev.get (F.SQR_DROPS_COUNT e) + 1) ∧ t.dev.square = s.dev.square ∧
        State.onlyFields (F.SQR_DROPS_COUNT e :: routedFields) s t
    (s.dev.delivered p hdr.toNat ptSquare = none → Answers c s fun t => t = s) ∧
    ∀ h : Hdr,
      (s.dev.delivered p hdr.toNat ptSquare = some h → h.fixed = true → s.dev.admits p h.src = true → h.dst = s.dev.rank →
        2 ^ 15 ≤ (h.tag + 2 ^ 16 - s.dev.get F.TCK_TN_TN % 2 ^ 16) % 2 ^ 16 →
        Answers c s fun t => Dev.raisedOne s.dev t.dev evTick stOk p [h.tag, h.src] ∧ t.dev.square = s.dev.square ∧ State.onlyFieldsEv [] s t) ∧
      (s.dev.takesRequest p hdr.toNat ptSquare ftGateSquare h → h.fixed = false → frame.length = h.len →
        (s.dev.findColl (frameHdr frame).id = none → Answers c s dropped) ∧
        ∀ (g : Nat) (k : Coll), s.dev.findColl (frameHdr frame).id = some (g, k) →
          ((frameHdr frame).kind ≠ kind ∨ frameOk k.m.outBytes frame = false ∨ k.expects h.src frame = false → Answers c s dropped) ∧
          (s.dev.takesFrame p hdr.toNat kind frame h g k →
            (frameSumsOk frame = false →
              Answers c s fun t =>
                Dev.collEnded s.dev t.dev g k stChecksum (frameHdr frame).slot ∧
                  t.dev.get (F.SQR_CKERR_COUNT g) = min (2 ^ 16 - 1) (s.dev.get (F.SQR_CKERR_COUNT g) + 1) ∧
                  t.dev.get (F.SQR_CKERR_ARITH g) = 0 ∧ t.dev.get (F.SQR_CKERR_FIRST_BLOCK g) = (frameHdr frame).first ∧ State.sameBut s t ∧
                  Dev.sameRegsBut ([F.SQR_CKERR_COUNT g, F.SQR_CKERR_ARITH g, F.SQR_CKERR_SLOT g, F.SQR_CKERR_FIRST_BLOCK g] ++
                    sqLastFields g ++ sqCtxFields g ++ routedFields) s.dev t.dev) ∧
            (frameSumsOk frame = true → k.seen.contains (frameKey frame) = true →
              (k.either frame = true → Answers c s fun t => t.dev.square = s.dev.square ∧ State.onlyFields routedFields s t) ∧
              (k.either frame = false → Answers c s dropped))))) ∧
  ∀ (s : State) (p : Fin 12) (hdr : Header) (frame : List Byte) (h : Hdr) (g : Nat) (k : Coll), s.powered →
    let f := frameHdr frame
    let bl := frameBlocks frame
    let body := frameBody frame
    let flags := [F.NUM_SQ_FLAGS_FLAGS g, F.SQR_RERUN_CLAMPED g, F.SQR_RERUN_RERUN g] ++ routedFields
    let stays (l : List Fld) (P : Coll → Prop) (s t : State) : Prop :=
      (∃ k' : Coll, t.dev.runningColl g k.id = some k' ∧ k'.id = k.id ∧ k'.inbox = [] ∧ frameKey frame ∈ k'.seen ∧ P k') ∧ State.onlyFields l s t
    (s.dev.stagesFrame p hdr.toNat fkExponent frame h g k → k.m.fmt = fmBsi → k.reducing = false → k.ownDone = false →
      (∃ b : Nat, b < k.m.blocks ∧ b ∉ bl ∧ k.pmax b = none) →
      (k.gathers frame = true →
        Answers (.exponentFrame p hdr frame) s fun t =>
          stays flags (fun k' => ∀ (i b : Nat) (v : Byte), bl[i]? = some b → body[i]? = some v → k'.pmax b = some v.toNat) s t) ∧
      (k.gathers frame = false → k.frameShard frame = k.slot →
        Answers (.exponentFrame p hdr frame) s fun t =>
          stays flags (fun k' => ∀ (i b : Nat) (v : Byte), bl[i]? = some b → body[i]? = some v →
            k'.pmax b = some (max v.toNat (s.dev.propose k b))) s t)) ∧
    (∀ (c : Instr) (kind : Nat), (c, kind) ∈ [(Instr.bsiDenseFrame p hdr frame, fkDense), (.bsiSparseFrame p hdr frame, fkSparse)] →
      s.dev.stagesFrame p hdr.toNat kind frame h g k → k.m.fmt = fmBsi → bl ≠ [] → bl.Nodup → (∃ b : Nat, b ∈ k.awaiting ∧ b ∉ bl) →
      k.ownDone = false →
      let own (b : Nat) : Blk := (bsiContrib k.m.bf16 f.pass (expOf ((k.pmax b).getD 0) k.m.head f.pass) (s.dev.partCodes k b)).1
      (stageOk (bodyBlks body f.count) (bl.map own) = true → k.frameShard frame = k.slot →
        Answers c s fun t =>
          stays flags (fun k' => k'.awaiting = k.awaiting.filter (fun b => !bl.contains b) ∧
            ∀ i b : Nat, bl[i]? = some b → k'.res b = some (bsiAdd f.pass (bodyBlk body f.count i) (own b)).1) s t) ∧
      (stageOk (bodyBlks body f.count) (bl.map own) = true → k.frameShard frame ≠ k.slot →
        Answers c s fun t => stays flags (fun k' => k'.passed = k.passed + (if f.pass = 0 then bl.length else 0) ∧ k'.got = k.got) s t)) ∧
    (s.dev.stagesFrame p hdr.toNat fkFp32 frame h g k → k.m.fmt = fmFp32 → bl ≠ [] → (∃ b : Nat, b ∈ k.awaiting ∧ b ∉ bl) → k.ownDone = false →
      (k.frameShard frame = k.slot →
        Answers (.fp32Frame p hdr frame) s fun t =>
          stays flags (fun k' => ∀ i b : Nat, bl[i]? = some b → ∃ u v : Nat, k'.res b =
            some ⟨(addFps u ((bodyBlk body f.count i).els, 0) ((fpContrib k.m.bf16 v (s.dev.partCodes k b)).1, 0)).1, 0, 0, false⟩) s t) ∧
      (k.frameShard frame ≠ k.slot →
        Answers (.fp32Frame p hdr frame) s fun t => stays flags (fun k' => k'.passed = k.passed + bl.length ∧ k'.got = k.got) s t)) ∧
    (s.dev.stagesFrame p hdr.toNat fkOnebit frame h g k → k.m.fmt = fmOnebit → k.ownDone = false →
      (∃ b : Nat, b ∈ k.awaiting ∧ b < 2 ^ 32) → (∀ b ∈ bl, b < 2 ^ 32) →
      (k.frameShard frame = k.slot → (∃ j : Nat, j < k.m.ranks ∧ j ≠ f.slot ∧ ∀ b ∈ bl, k.res (bitKey j b) = none) →
        Answers (.onebitFrame p hdr frame) s fun t =>
          stays flags (fun k' => ∀ i b : Nat, bl[i]? = some b →
            let w (j : Nat) : Nat := leNat ((body.drop (12 * i + 4 * j)).take 4)
            k'.res (bitKey f.slot b) = some ⟨[w 0, w 1], 0, w 2, false⟩) s t) ∧
      (k.frameShard frame ≠ k.slot →
        Answers (.onebitFrame p hdr frame) s fun t => stays flags (fun k' => k'.passed = k.passed + bl.length ∧ k'.got = k.got) s t)) ∧
    (s.dev.stagesFrame p hdr.toNat fkFlaglist frame h g k → k.m.succ k.slot = f.slot → k.m.pred k.slot ≠ f.slot →
      Answers (.flaglistFrame p hdr frame) s fun t =>
        stays flags (fun k' => k'.flagged = k.flagged ++ bl.map (fun b => (f.pass, b)) ∧ k'.reran = (k.reran || !bl.isEmpty)) s t ∧
          t.dev.get (F.SQR_RERUN_RERUN g) = min (2 ^ 32 - 1) (s.dev.get (F.SQR_RERUN_RERUN g) + bl.length)) ∧
    (s.dev.stagesFrame p hdr.toNat fkFinal frame h g k → k.m.succ k.slot = f.slot →
      let n := k.m.outBytes
      let runs (b : Nat) : List (Nat × Nat) := extentRuns k.ext (k.p 4 + b * n) n
      (∀ b ∈ bl, s.dev.writeRunsStatus (runs b) = stOk) → k.m.op = opAllreduce →
      (∃ b : Nat, b < k.m.blocks ∧ b ∉ bl ∧ Table.get (fun _ => false) k.written b = false) →
      Answers (.finalFrame p hdr frame) s fun t =>
        (∃ k' : Coll, t.dev.runningColl g k.id = some k' ∧ ∀ b ∈ bl, Table.get (fun _ => false) k'.written b = true) ∧
          (∀ b : Nat, bl = [b] → t.dev.mem = (s.dev.writeRuns (runs b) (body.take n)).mem) ∧ State.sameBut s t ∧
          Dev.sameRegsBut routedFields s.dev t.dev ∧ Dev.sameMemBut (bl.flatMap runs) s.dev t.dev ∧ t.dev.sram = s.dev.sram)

/-- A missed deadline switches to the backup, a stall or an abort ends FAULT_PENDING; broadcast segments are gathered, verified, resent,
attached and done. (R293, R294, R298, R299, R300, R301, R302, R303, R304) -/
def Obligations.BackupsBroadcastsAndTimeouts : Prop :=
  (∀ (s : State) (g : Fin 2) (slot first : Nat) (c : Coll), s.powered → s.dev.runningColl g c.id = some c →
    (c.m.deadline = 0 ∨ c.consumes slot = false ∨ c.primCame slot first = true ∨ slot ∈ c.useBackup ∨ c.bak slot = none →
      Answers (.backupDeadline g c.id slot first) s fun t => t = s) ∧
    (c.m.deadline ≠ 0 → c.consumes slot = true → slot ∉ c.useBackup → (c.bak slot).isSome = true → c.resting → c.queue.isSome = true →
      c.logged < bits (c.p 10) 31 0 →
      let runs := extentRuns c.ext (c.p 9 + 8 * c.logged) 8
      s.dev.writeRunsStatus runs = stOk →
      Answers (.backupDeadline g c.id slot first) s fun t =>
        t.dev.runningColl g c.id = some { c with useBackup := slot :: c.useBackup, logged := c.logged + 1 } ∧
          t.dev.mem = (s.dev.writeRuns runs (leBytes 8 (slot * 2 ^ 50 + first))).mem ∧ State.sameBut s t ∧ Dev.sameRegsBut [] s.dev t.dev ∧
          Dev.sameMemBut runs s.dev t.dev ∧ t.dev.sram = s.dev.sram)) ∧
  (∀ (s : State) (g : Fin 2) (slot id : Nat), s.powered → s.dev.runningColl g id = none →
    ∀ i ∈ [Instr.backupDeadline g id slot slot, .frameStallTimeout g id slot, .segmentTimeout g id, .broadcastDoneTimeout g id],
      Answers i s fun t => t = s) ∧
  (∀ (s : State) (g : Fin 2) (slot : Nat) (c : Coll), s.powered → s.dev.runningColl g c.id = some c →
    let regs := sqLastFields g ++ sqCtxFields g ++ sqBcastFields g
    let ends (slot : Nat) (t : State) : Prop :=
      Dev.collEnded s.dev t.dev g c stFaultPending slot ∧ Dev.sameRegsBut regs s.dev t.dev ∧ State.sameBut s t
    (c.queue.isSome = true → s.dev.inForceNat 0x2B0002 ≠ 0 → c.consumes slot = true → c.complete = false →
      Answers (.frameStallTimeout g c.id slot) s (ends slot)) ∧
    (s.dev.inForceNat 0x2B0002 = 0 → Answers (.frameStallTimeout g c.id slot) s fun t => t = s) ∧
    (s.dev.get (F.SQR_SEL_COLL_ID g) = c.id →
      (c.queue.isSome = true → Answers (.sqrAbort g) s (ends 0)) ∧
      (c.queue = none →
        Answers (.sqrAbort g) s fun t =>
          t.dev.held hcFault = true ∧ t.dev.get (F.SQR_LAST_STATUS g) = stFaultPending ∧
            (∃ e : Event, t.dev.events = e :: s.dev.events ∧ e.cls = evTickFault ∧ e.status = stFaultPending ∧ e.source = c.part) ∧
            State.sameBut s t)) ∧
    (c.m.op = opBroadcast → c.queue.isSome = true →
      (s.dev.isRoot c = true → s.dev.inForceNat 0x2B0002 ≠ 0 → Answers (.broadcastDoneTimeout g c.id) s (ends 0)) ∧
      (s.dev.isRoot c = false → c.hasAll = false →
        (c.onAlt = true → Answers (.segmentTimeout g c.id) s (ends 0)) ∧
        (c.onAlt = false →
          let alt := bits (c.tree s.dev.rank) 35 22
          Answers (.segmentTimeout g c.id) s fun t =>
            t.dev.runningColl g c.id = some { c with onAlt := true, parent := alt, buf := [], resent := false } ∧
              t.dev.get (F.SQR_BCAST_ALT g) = 1 ∧ t.dev.get (F.SQR_BCAST_PARENT g) = alt ∧
              (∃ o : Outstanding, t.dev.gate.outstanding = o :: s.dev.gate.outstanding ∧ o.rank = alt ∧ o.kind = 4 ∧ o.seq = c.id) ∧
              State.onlyFields (sqBcastFields g ++ routedFields) s t)))) ∧
  ∀ (s : State) (p : Fin 12) (hdr : Header) (h : Hdr) (id child lost seg count : Nat) (data : List Byte), s.powered →
    (∀ (i : Instr) (ptype : Nat),
      (i, ptype) ∈ [(Instr.segmentPacket p hdr id data, ptSegment), (.attach p hdr id child lost seg, ptControl),
        (.resend p hdr id child seg, ptControl), (.done p hdr id child count, ptControl)] →
      (s.dev.delivered p hdr.toNat ptype = none → Answers i s fun t => t = s) ∧
      (s.dev.takesRequest p hdr.toNat ptype ftGateBcast h → h.fixed = false → s.dev.findColl id = none →
        Answers i s fun t =>
          t.dev.get (F.SQR_DROPS_COUNT (portEngine p)) = min (2 ^ 32 - 1) (s.dev.get (F.SQR_DROPS_COUNT (portEngine p)) + 1) ∧
            t.dev.square = s.dev.square ∧ State.onlyFields (F.SQR_DROPS_COUNT (portEngine p) :: routedFields) s t)) ∧
    ∀ (g : Nat) (c : Coll), s.dev.findColl id = some (g, c) → c.m.op = opBroadcast → c.queue.isSome = true → c.id = id → h.fixed = false →
      let regs := sqBcastFields g ++ routedFields
      (s.dev.takesRequest p hdr.toNat ptSegment ftGateBcast h → s.dev.isRoot c = false →
        let buf := c.buf ++ fitBytes h.len data
        let man := if c.next = 0 then buf else c.manifest
        (h.src ≠ c.parent → Answers (.segmentPacket p hdr id data) s fun t => t.dev.square = s.dev.square) ∧
        (h.src = c.parent → c.hasAll = true ∨ bits h.addr 46 32 ≠ c.next ∨ bits h.addr 19 0 ≠ c.buf.length →
          Answers (.segmentPacket p hdr id data) s fun t => t.dev.square = s.dev.square ∧ State.onlyFields routedFields s t) ∧
        (h.src = c.parent → c.hasAll = false → bits h.addr 46 32 = c.next → bits h.addr 19 0 = c.buf.length →
          (man.length < 16 ∨ buf.length < segLen man c.next →
            Answers (.segmentPacket p hdr id data) s fun t =>
              t.dev.runningColl g id = some { c with buf := buf } ∧ State.onlyFields regs s t) ∧
          (16 ≤ man.length → segLen man c.next ≤ buf.length →
            (({ c with buf := buf } : Coll).segGood c.next buf = true → c.kids = [] → c.fail = none → c.next + 1 ≤ manN man →
              let runs := extentRuns c.ext (s.dev.segVa c c.next) buf.length
              s.dev.writeRunsStatus runs = stOk →
              Answers (.segmentPacket p hdr id data) s fun t =>
                t.dev.runningColl g id = some { c with manifest := man, next := c.next + 1, buf := [], resent := false } ∧
                  t.dev.mem = (s.dev.writeRuns runs buf).mem ∧ Dev.sameMemBut runs s.dev t.dev ∧
                  t.dev.get (F.SQR_BCAST_VERIFIED g) = c.next % 2 ^ 15 ∧ State.sameBut s t ∧ Dev.sameRegsBut regs s.dev t.dev) ∧
            (({ c with buf := buf } : Coll).segGood c.next buf = false → c.resent = false →
              Answers (.segmentPacket p hdr id data) s fun t =>
                t.dev.runningColl g id = some { c with buf := [], resent := true } ∧
                  (∃ o : Outstanding, t.dev.gate.outstanding = o :: s.dev.gate.outstanding ∧ o.rank = c.parent ∧ o.kind = 4 ∧ o.seq = id) ∧
                  State.onlyFields regs s t)))) ∧
      (s.dev.takesRequest p hdr.toNat ptControl ftGateBcast h →
        (h.src = child → child ∈ c.kids →
          (seg < c.next →
            Answers (.resend p hdr id child seg) s fun t =>
              t.dev.gate.outstanding.length = s.dev.gate.outstanding.length +
                ((s.dev.readVa c.ext (s.dev.segVa c seg) (segLen c.manifest seg)).length + 4095) / 4096 ∧
                (∀ o ∈ t.dev.gate.outstanding, o ∈ s.dev.gate.outstanding ∨ (o.rank = child ∧ o.kind = 4 ∧ o.seq = id)) ∧
                t.dev.square = s.dev.square ∧ State.onlyFields routedFields s t) ∧
          (c.next ≤ seg → Answers (.resend p hdr id child seg) s fun t => t.dev.square = s.dev.square ∧ State.onlyFields routedFields s t) ∧
          let dones := (child, count) :: c.dones.filter fun r => r.1 != child
          let total := dones.foldl (fun n r => n + r.2) 0
          (s.dev.isRoot c = true → c.m.ranks - 1 ≤ total →
            Answers (.done p hdr id child count) s fun t =>
              (t.dev.sq g).running = (s.dev.sq g).running.filter (fun y => !y.same c) ∧ t.dev.get (F.SQR_LAST_STATUS g) = stOk ∧
                t.dev.get (F.SQR_BCAST_STATE g) = 2 ∧ t.dev.get (F.SQR_BCAST_DONE g) = total % 2 ^ 14 ∧
                State.onlyFields (regs ++ sqLastFields g ++ sqCtxFields g) s t) ∧
          (s.dev.isRoot c = true → total < c.m.ranks - 1 →
            Answers (.done p hdr id child count) s fun t =>
              t.dev.runningColl g id = some { c with dones := dones } ∧ t.dev.get (F.SQR_BCAST_DONE g) = total % 2 ^ 14 ∧
                State.onlyFields regs s t)) ∧
        (h.src ≠ child ∨ child ∉ c.kids →
          ∀ i ∈ [Instr.resend p hdr id child seg, .done p hdr id child count], Answers i s fun t =>
            t.dev.get (F.SQR_DROPS_COUNT (portEngine p)) = min (2 ^ 32 - 1) (s.dev.get (F.SQR_DROPS_COUNT (portEngine p)) + 1) ∧
              t.dev.square = s.dev.square) ∧
        (s.dev.isRoot c = false → h.src = child → bits (c.tree child) 35 22 = s.dev.rank →
          (c.list.any fun e => bits e 63 50 == child) = true → child ∉ c.kids → (∀ r ∈ c.dones, r.1 ≠ child) → lost ≠ s.dev.rank →
          Answers (.attach p hdr id child lost seg) s fun t =>
            t.dev.runningColl g id = some { c with kids := c.kids ++ [child] } ∧ State.onlyFields regs s t) ∧
        (s.dev.isRoot c = true → h.src ∈ c.kids → h.src ≠ child → lost ≠ s.dev.rank → c.doneCount < c.m.ranks - 1 → c.fail = none →
          c.attached < bits (c.p 14) 15 0 →
          let runs := extentRuns c.ext (c.p 15 + 8 * c.attached) 8
          s.dev.writeRunsStatus runs = stOk →
          Answers (.attach p hdr id child lost seg) s fun t =>
            t.dev.runningColl g id = some { c with attached := c.attached + 1 } ∧
              Dev.raisedOne s.dev t.dev evGate stOk g [id, child, lost, seg] ∧ State.sameBut s t ∧
              Dev.sameRegsBut (regs ++ eventFields) s.dev t.dev ∧ Dev.sameMemButRings runs s.dev t.dev))

/-- Doorbells move PI, CI and the state of a queue; a fetched slot with the right SEQ becomes an entry, a wrong one is read again up to
eight times. (R311, R312, R313, R314, R315, R316, R318, R319) -/
def Obligations.QueuesRingEnableFetchAndStop : Prop :=
  (∀ (s : State) (q : Fin 262144) (pi ci : Nat), s.powered → s.dev.queue q = none →
    (∀ c ∈ [Instr.dbPi q pi, .cqCi q ci, .queueFetch q, .staleDescReread q], Answers c s fun t => t = s) ∧
    ∀ (c : Instr) (v : Nat), (c, v) ∈ [(Instr.queueDisable q, 2), (.queueRestart q, 4)] →
      Answers c s fun t =>
        Dev.raisedOne s.dev t.dev evRegister stOk 0 [doorbell q + 0x10, v] ∧ t.dev.queue q = none ∧ State.onlyFieldsEv regaccFields s t) ∧
  (∀ (s : State) (q : Fin 262144), s.powered →
    let pa := s.dev.queueRecord q
    let valid := s.dev.queueOf (s.dev.read pa 64)
    (s.dev.get F.PWR_BOOT_STATE ≠ dsFailed → s.dev.queue q = none → s.dev.inKept pa 64 = true → s.dev.readStatus pa 64 false = (stOk, s.dev) →
      ∀ x : Queue, valid = some x →
        Answers (.queueEnable q) s fun t =>
          t.dev.queue q = some x ∧ (∀ r : Nat, r ≠ q → t.dev.queue r = s.dev.queue r) ∧ State.onlyFields [] s t) ∧
    (s.dev.get F.PWR_BOOT_STATE = dsFailed ∨ (s.dev.queue q).isSome = true ∨ s.dev.inKept pa 64 = false ∨
        (s.dev.readStatus pa 64 false = (stOk, s.dev) ∧ valid = none) →
      Answers (.queueEnable q) s fun t =>
        Dev.raisedOne s.dev t.dev evRegister stOk 0 [doorbell q + 0x10, 1] ∧ t.dev.queue q = s.dev.queue q ∧
          State.onlyFieldsEv regaccFields s t)) ∧
  ∀ (s : State) (q : Fin 262144) (x : Queue), s.powered → s.dev.queue q = some x →
    let others (t : State) : Prop := ∀ r : Nat, r ≠ q → t.dev.queue r = s.dev.queue r
    (∀ pi : Nat,
      (x.kind = 1 →
        Answers (.dbPi q pi) s fun t =>
          Dev.raisedOne s.dev t.dev evRegister stOk 0 [doorbell q, pi % 2 ^ 32] ∧ t.dev.queue q = some x ∧
            State.onlyFieldsEv regaccFields s t) ∧
      (x.kind ≠ 1 → x.ahead (pi % 2 ^ 32) = 0 → Answers (.dbPi q pi) s fun t => t = s) ∧
      (x.kind ≠ 1 → 0 < x.ahead (pi % 2 ^ 32) → x.ahead (pi % 2 ^ 32) ≤ 2 ^ x.ringLog2 → s.dev.host.contexts.length < 4096 →
        Answers (.dbPi q pi) s fun t =>
          t.dev.queue q = some { x with pi := pi % 2 ^ 32 } ∧ others t ∧ t.dev.host.contexts.head? = some q.val ∧
            t.dev.get F.HST_QCTX_ACTIVE = t.dev.host.contexts.length ∧ State.onlyFields [F.HST_QCTX_ACTIVE] s t) ∧
      (x.kind ≠ 1 → 2 ^ x.ringLog2 < x.ahead (pi % 2 ^ 32) →
        Answers (.dbPi q pi) s fun t =>
          t.dev.queue q = some { x with state := if x.state = qsDraining then qsDraining else qsStopped, stop := stBounds } ∧ others t ∧
            State.onlyFields [] s t)) ∧
    (∀ ci : Nat,
      Answers (.cqCi q ci) s fun t => t.dev.queue q = some { x with ci := ci % 2 ^ 32 } ∧ others t ∧ State.onlyFields [] s t) ∧
    (x.state = qsDraining →
      Answers (.queueDisable q) s fun t =>
        Dev.raisedOne s.dev t.dev evRegister stOk 0 [doorbell q + 0x10, 2] ∧ t.dev.queue q = some x ∧ State.onlyFieldsEv regaccFields s t) ∧
    (x.state ≠ qsDraining → s.dev.idleQueue q = true →
      let at_ := s.dev.queueRecord q + 24
      Answers (.queueDisable q) s fun t =>
        t.dev.queue q = none ∧ others t ∧ t.dev.host.contexts = s.dev.host.contexts.erase q ∧
          t.dev.read at_ 16 = leBytes 8 (x.fetch + x.pi * 2 ^ 32) ++ leBytes 8 (x.ci + x.cqCount * 2 ^ 32) ∧ State.sameBut s t ∧
          Dev.sameRegsBut [F.HST_QCTX_ACTIVE] s.dev t.dev ∧ Dev.sameMemBut [(at_, 40)] s.dev t.dev ∧ t.dev.sram = s.dev.sram) ∧
    (x.state ≠ qsDraining → s.dev.idleQueue q = false →
      Answers (.queueDisable q) s fun t =>
        t.dev.queue q = some { x with state := qsDraining, rereads := 0 } ∧ others t ∧ State.onlyFields [] s t) ∧
    (x.state = qsStopped →
      Answers (.queueRestart q) s fun t =>
        t.dev.queue q = some { x with state := qsRunning, stop := 0, rereads := 0 } ∧ others t ∧ State.onlyFields [] s t) ∧
    (x.state ≠ qsStopped →
      Answers (.queueRestart q) s fun t =>
        Dev.raisedOne s.dev t.dev evRegister stOk 0 [doorbell q + 0x10, 4] ∧ t.dev.queue q = some x ∧ State.onlyFieldsEv regaccFields s t) ∧
    (x.available = false ∨ s.dev.choosesQueue x = false → Answers (.queueFetch q) s fun t => t = s) ∧
    (x.rereads = 0 → Answers (.staleDescReread q) s fun t => t = s) ∧
    ∀ (l : List Extent) (d : Dev), s.dev.obtainOnce (queueWaiter x (x.slotVa x.fetch) 128 1) = (.ok l, d) →
      let runs := extentRuns l (x.slotVa x.fetch) 128
      let b := s.dev.readVa l (x.slotVa x.fetch) 128
      d.runsWait runs = false → d.readRuns runs false = (stOk, d) → s.dev.host.contexts.length < 4096 →
      let accepted (t : State) : Prop :=
        t.dev.queue q = some { x with fetch := (x.fetch + 1) % 2 ^ 32, rereads := 0 } ∧ others t ∧
          (∃ e : Entry, t.dev.host.entries = s.dev.host.entries ++ [e] ∧ e.queue = q ∧ e.seq = x.fetch ∧ e.type = bits (leWord b 0) 31 24 ∧
            e.barrier = bit (leWord b 0) 23 ∧ e.nocq = bit (leWord b 0) 22 ∧ e.engine = bits (leWord b 0) 4 0 ∧ e.tag = leWord b 1 ∧
            e.desc = b.drop 64 ∧ e.started = false ∧
            e.finished = (if entryOk (s.dev.has ftRemote) (leWord b 0) e.type e.engine b then none else some (stFeature, 0))) ∧
          State.onlyFields (F.HST_QCTX_ACTIVE :: walkFields) s t
      (x.available = true → s.dev.choosesQueue x = true → s.dev.entry q x.fetch = none →
        (slotVisible x b = true → Answers (.queueFetch q) s accepted) ∧
        (slotVisible x b = false →
          Answers (.queueFetch q) s fun t =>
            t.dev.queue q = some { x with rereads := 1 } ∧ others t ∧ t.dev.host.entries = s.dev.host.entries ∧
              State.onlyFields walkFields s t)) ∧
      (x.rereads ≠ 0 →
        (slotVisible x b = true → Answers (.staleDescReread q) s accepted) ∧
        (slotVisible x b = false → x.rereads < 8 →
          Answers (.staleDescReread q) s fun t =>
            t.dev.queue q = some { x with rereads := x.rereads + 1 } ∧ others t ∧ t.dev.host.entries = s.dev.host.entries ∧
              State.onlyFields walkFields s t) ∧
        (slotVisible x b = false → 8 ≤ x.rereads →
          Answers (.staleDescReread q) s fun t =>
            t.dev.queue q = some { x with state := qsStopped, stop := stStaleDesc, rereads := 0 } ∧ others t ∧
              (∃ e : Entry, t.dev.host.entries = s.dev.host.entries ++ [e] ∧ e.queue = q ∧ e.seq = x.fetch ∧
                e.finished = some (stStaleDesc, 0)) ∧
              (∃ e : Event, t.dev.events = e :: s.dev.events ∧ e.cls = evQueue ∧ e.status = stStaleDesc ∧ e.detail = [q.val, x.fetch]) ∧
              State.onlyFieldsEv walkFields s t))

/-- A NOP entry ends OK, a copy opens, moves its bytes and ends, a remote message or atomic is sent, and a finished entry's record is
written. (R264, R314, R315, R317, R320, R321, R322, R323, R324, R325, R327) -/
def Obligations.QueueEntriesRunAndComplete : Prop :=
  (∀ (s : State) (q seq : Nat) (due : Bool) (c : Instr) (ty : Nat), s.powered →
    (c, ty) ∈ [(Instr.queueNop q seq, tyNop), (.copy q seq due, tyCopy), (.remoteQmsg q seq, tyRemote), (.remoteAtomic q seq, tyRemote)] →
    s.dev.entryFor q seq ty = none → Answers c s fun t => t = s) ∧
  (∀ (s : State) (q seq : Nat) (x : Queue) (e : Entry) (d1 : Dev), s.powered → s.dev.entryRuns q seq tyNop x e d1 →
    Answers (.queueNop q seq) s fun t => t.dev.entryEnded q seq stOk 0 ∧ t.dev.outs = s.dev.outs ∧ State.onlyFields [] s t) ∧
  (∀ (s : State) (q seq : Nat) (x : Queue) (e : Entry) (d1 : Dev), s.powered → s.dev.entryRuns q seq tyCopy x e d1 →
    let m := copyDesc e.desc
    let regs := [F.HST_CE_OPEN e.engine, F.HST_CE_LAST e.engine]
    let check := d1.copyCheck x e m
    (∀ due : Bool, d1.copyOpen q seq = none → check ≠ stOk ∨ m.total = 0 →
      Answers (.copy q seq due) s fun t =>
        t.dev.entryEnded q seq check 0 ∧ t.dev.get (F.HST_CE_LAST e.engine) = check ∧ State.onlyFields regs s t) ∧
    (∀ (due : Bool) (src dst : List Extent) (d2 d3 d4 : Dev), d1.copyOpen q seq = none → check = stOk → m.total ≠ 0 →
      m.remote = 0 → (d1.copiesOn e.engine).length < 8 → Dev.obtainAll (copyWaiters x e 1 m.srcRows) d1 = (.ok src, d2) →
      Dev.obtainAll (copyWaiters x e 2 m.dstRows) d2 = (.ok dst, d3) →
      (copyHostOk e.engine (extentAll src) (extentAll dst) = false →
        Answers (.copy q seq due) s fun t => t.dev.entryEnded q seq stPerm 0 ∧ State.onlyFields (walkFields ++ regs) s t) ∧
      (copyHostOk e.engine (extentAll src) (extentAll dst) = true →
        Dev.holdAll (holderCopy e.engine) x.root (m.srcRows ++ m.dstRows) d3 = some d4 → s.dev.copySlotBusy e.engine = true →
        Answers (.copy q seq due) s fun t =>
          t.dev.copyOpen q seq = some ⟨e.engine, e.queue, e.seq, 0⟩ ∧
            t.dev.get (F.HST_CE_OPEN e.engine) = (s.dev.copiesOn e.engine).length + 1 ∧
            (∀ r ∈ m.srcRows ++ m.dstRows, t.dev.rbt.holders.any (fun h => h.root == x.root && h.va == r.1 && h.len == r.2) = true) ∧
            State.onlyFields (walkFields ++ regs) s t)) ∧
    (∀ (c : CopyOpen) (sl dl : List Extent) (d2 d3 d4 : Dev),
      let pc := m.piece c.moved 0x10000
      let ask (need va : Nat) : Waiter := ⟨0, holderCopy e.engine, x.root, x.part, va, pc.2.2, need, false, some (e.queue, e.seq)⟩
      let src := extentRuns sl pc.1 pc.2.2
      let dst := extentRuns dl pc.2.1 pc.2.2
      d1.copyOpen q seq = some c → c.engine = e.engine → d1.copyNext e.engine = some c → d1.copySlotBusy e.engine = false → m.remote = 0 →
      c.moved < m.total → pc.2.2 = m.total - c.moved → d1.awaits q seq = false →
      d2 = d1.setCopies (d1.host.copies.filter (fun y => !(y.queue == c.queue && y.seq == c.seq)) ++ [c]) →
      d2.obtain (ask 1 pc.1) = (.ok sl, d3) → d3.obtain (ask 2 pc.2.1) = (.ok dl, d4) → d4.readRuns src false = (stOk, d4) →
      d4.writeRunsStatus dst = stOk →
      Answers (.copy q seq false) s fun t =>
        t.dev.mem = (s.dev.writeRuns dst (src.flatMap fun r => s.dev.read r.1 r.2)).mem ∧ t.dev.entryEnded q seq stOk m.total ∧
          t.dev.copyOpen q seq = none ∧ t.dev.get (F.HST_CE_LAST e.engine) = stOk ∧
          t.dev.get (F.HST_CE_BYTES e.engine) = min (2 ^ 48 - 1) (s.dev.get (F.HST_CE_BYTES e.engine) + (m.total - c.moved)) ∧
          State.sameBut s t ∧ Dev.sameRegsBut (F.HST_CE_BYTES e.engine :: walkFields ++ regs) s.dev t.dev ∧ Dev.sameMemBut dst s.dev t.dev ∧
          t.dev.sram = s.dev.sram)) ∧
  (∀ (s : State) (q seq : Nat) (x : Queue) (e : Entry) (d1 : Dev), s.powered → s.dev.entryRuns q seq tyRemote x e d1 →
    d1.awaits q seq = false →
    let m := remoteDesc e.desc
    let op := atomOps.getD m.aop .add
    let ty := atomTypes.getD m.atype .u32
    let n := atomBytes ty
    (d1.remoteOk m = false → ∀ c ∈ [Instr.remoteQmsg q seq, .remoteAtomic q seq],
      Answers c s fun t => t.dev.entryEnded q seq stFeature 0 ∧ State.onlyFields [] s t) ∧
    (d1.remoteOk m = true → m.op = 2 → atomOk op ty = false →
      Answers (.remoteAtomic q seq) s fun t => t.dev.entryEnded q seq stNotEnabled 0 ∧ State.onlyFields [] s t) ∧
    (d1.remoteOk m = true → m.op = 2 → atomOk op ty = true → 2 ^ 48 < m.target + n →
      Answers (.remoteAtomic q seq) s fun t => t.dev.entryEnded q seq stBounds 0 ∧ State.onlyFields [] s t) ∧
    (∀ (l : List Extent) (d2 : Dev) (p : Nat) (cross : Bool), d1.remoteOk m = true → m.op = 1 →
      d1.obtain (remoteWaiter x e m.lva 128 1) = (.ok l, d2) → d2.lacksTo m.rank [ftGateQmsg] = false →
      d2.runsWait (extentRuns l m.lva 128) = false → d2.on F.GTE_CTRL_BE_STOP = false →
      d2.readRuns (extentRuns l m.lva 128) false = (stOk, d2) → (s.dev.readVa l m.lva 128).length = 128 → d2.reqLeaves ptQmsg m.rank 120 p cross →
      Answers (.remoteQmsg q seq) s fun t =>
        t.dev.outs = .packet p (⟨ptQmsg, b2n cross, false, m.rank, s.dev.rank, s.dev.gate.nextTag, 120, m.queue, 0, 0⟩ : Hdr).code
            ((s.dev.readVa l m.lva 128).drop 8) :: s.dev.outs ∧
          (∃ o : Outstanding, t.dev.gate.outstanding = o :: s.dev.gate.outstanding ∧ o.tag = s.dev.gate.nextTag ∧ o.rank = m.rank ∧
            o.queue = q ∧ o.seq = seq) ∧ State.onlyFields (walkFields ++ routedFields) s t) ∧
    ∀ (p : Nat) (cross : Bool), d1.remoteOk m = true → m.op = 2 → atomOk op ty = true → m.target + n ≤ 2 ^ 48 → m.lva = 0 →
      d1.lacksTo m.rank [ftGateAtomic] = false → d1.on F.GTE_CTRL_BE_STOP = false →
      let data := if op = .cas then atomData op ty m.operand2 m.operand1 else atomData op ty m.operand1 0
      d1.reqLeaves ptAtomic m.rank data.length p cross →
      Answers (.remoteAtomic q seq) s fun t =>
        t.dev.outs = .packet p (⟨ptAtomic, b2n cross, false, m.rank, s.dev.rank, s.dev.gate.nextTag, data.length, m.target, 0, 0⟩ : Hdr).code
            data :: s.dev.outs ∧
          (∃ o : Outstanding, t.dev.gate.outstanding = o :: s.dev.gate.outstanding ∧ o.tag = s.dev.gate.nextTag ∧ o.rank = m.rank ∧
            o.queue = q ∧ o.seq = seq ∧ o.runs = []) ∧ State.onlyFields routedFields s t) ∧
  ∀ (s : State) (q seq : Nat) (x : Queue) (e : Entry), s.powered → s.dev.queue q = some x → s.dev.entry q seq = some e →
    (e.finished = none → Answers (.entryComplete q seq) s fun t => t = s) ∧
    ∀ st res : Nat, e.finished = some (st, res) →
      (e.nocq = true → st = stOk → x.state ≠ qsDraining → x.irq = false →
        Answers (.entryComplete q seq) s fun t => t.dev.entry q seq = none ∧ t.dev.queue q = some x ∧ State.onlyFields [] s t) ∧
      (e.nocq = false ∨ st ≠ stOk →
        (x.cqFull = true → Answers (.entryComplete q seq) s fun t => t = s) ∧
        ∀ (l : List Extent) (d : Dev) (pa : Nat),
          let va := x.cq + 32 * (x.cqCount % 2 ^ x.cqLog2)
          x.cqFull = false → x.state ≠ qsDraining → s.dev.obtainOnce (queueWaiter x va 32 2) = (.ok l, d) → extentPa l va = some pa →
          d.writeStatus pa 32 = stOk → isHost pa = false ∨ s.dev.on F.HST_LINK_BME = true →
          Answers (.entryComplete q seq) s fun t =>
            t.dev.entry q seq = none ∧ t.dev.mem = (s.dev.write pa (completionRecord x e st res)).mem ∧
              (∃ y : Queue, t.dev.queue q = some y ∧ y.cqCount = (x.cqCount + 1) % 2 ^ 32 ∧ y.state = x.state ∧ y.ci = x.ci ∧
                (y.unsignalled = x.unsignalled + 1 ∨ (x.irq = true ∧ y.unsignalled = 0))) ∧
              (x.irq = true → x.coal ≤ 1 → s.dev.host.msix = true → t.dev.outs = .msix x.vector :: s.dev.outs) ∧
              State.sameBut s t ∧ Dev.sameRegsBut walkFields s.dev t.dev ∧ Dev.sameMemBut [(pa, 32)] s.dev t.dev ∧ t.dev.sram = s.dev.sram)

/-- Kiosk reads, writes and atomics reach memory through KSK_WIN_BASE and Kiosk's root; a refusal is counted; a host reset and Bus Master
Enable act as told. (R305, R307, R308, R309, R310, R329, R330, R331, R332) -/
def Obligations.KioskAndHostLink : Prop :=
  (∀ (s : State) (o n : Nat) (due : Bool) (data : List Byte) (op : AtomOp) (a b bytes : Nat), s.powered →
    (inKiosk o n = false → Answers (.kioskRead o n due) s fun t => t = s) ∧
    (inKiosk o data.length = false → Answers (.kioskWrite o data) s fun t => t = s) ∧
    (inKiosk o bytes = false → Answers (.kioskAtomicOp o bytes op a b due) s fun t => t = s) ∧
    let lawful := (bytes == 4 || bytes == 8) && o % bytes == 0 && (op == .add || op == .exch || op == .cas) && s.dev.has ftPcieAtomic
    (inKiosk o bytes = true → lawful = false →
      Answers (.kioskAtomicOp o bytes op a b due) s fun t => t.dev.outs = .hostUnsupported :: s.dev.outs ∧ State.onlyFields [] s t) ∧
    (∀ (runs : List (Nat × Nat)) (d : Dev), inKiosk o n = true → s.dev.kioskRuns o n 1 = (.ok runs, d) → s.dev.runsWait runs = false →
      d.readRuns runs false = (stOk, d) →
      Answers (.kioskRead o n false) s fun t =>
        t.dev.outs = .hostCompletion (runs.flatMap fun r => s.dev.read r.1 r.2) :: s.dev.outs ∧ t.dev.host = s.dev.host ∧
          State.onlyFields walkFields s t) ∧
    (∀ (runs : List (Nat × Nat)) (d : Dev), inKiosk o data.length = true → s.dev.kioskRuns o data.length 2 = (.ok runs, d) →
      s.dev.runsWait runs = false → d.writeRunsStatus runs = stOk →
      Answers (.kioskWrite o data) s fun t =>
        t.dev.mem = (s.dev.writeRuns runs data).mem ∧ t.dev.outs = s.dev.outs ∧ State.sameBut s t ∧ Dev.sameRegsBut walkFields s.dev t.dev ∧
          Dev.sameMemBut runs s.dev t.dev ∧ t.dev.sram = s.dev.sram) ∧
    (∀ (pa : Nat) (d : Dev), inKiosk o bytes = true → lawful = true → s.dev.kioskRuns o bytes 4 = (.ok [(pa, bytes)], d) →
      s.dev.runsWait [(pa, bytes)] = false → paKind pa ≠ .ring → isHost pa = false → d.readStatus pa bytes false = (stOk, d) →
      d.writeStatus pa bytes = stOk →
      let old := leNat (s.dev.read pa bytes)
      Answers (.kioskAtomicOp o bytes op a b false) s fun t =>
        t.dev.outs = .hostCompletion (leBytes bytes old) :: s.dev.outs ∧
          t.dev.read pa bytes = leBytes bytes (atomNew op (if bytes = 4 then .u32 else .u64) old a b) ∧
          t.dev.get F.KSK_STAT_ATOMICS = min (2 ^ 32 - 1) (s.dev.get F.KSK_STAT_ATOMICS + 1) ∧ State.sameBut s t ∧
          Dev.sameRegsBut (F.KSK_STAT_ATOMICS :: walkFields) s.dev t.dev ∧ Dev.sameMemBut [(pa, bytes)] s.dev t.dev ∧
          t.dev.sram = s.dev.sram) ∧
    ∀ (c : Instr) (len need kind st : Nat) (d : Dev),
      (c, len, need, kind) ∈ [(Instr.kioskRead o n due, n, 1, 0), (.kioskWrite o data, data.length, 2, 1),
        (.kioskAtomicOp o bytes op a b due, bytes, 4, 2)] →
      inKiosk o len = true → kind ≠ 2 ∨ lawful = true → s.dev.kioskRuns o len need = (.error st, d) →
      d.events = s.dev.events → d.host = s.dev.host → Dev.sameRegsBut walkFields s.dev d → d.mem = s.dev.mem → d.sram = s.dev.sram →
      Answers c s fun t =>
        t.dev.get F.KSK_STAT_FAULTS = min (2 ^ 32 - 1) (s.dev.get F.KSK_STAT_FAULTS + 1) ∧
          (kind ≠ 1 → t.dev.outs.head? = some .hostAbort) ∧
          (s.dev.host.lastKiosk = none →
            ∃ e : Event, t.dev.events = e :: s.dev.events ∧ e.cls = evKiosk ∧ e.status = st ∧ e.detail = [o, kind, s.dev.host.kioskRefusals + 1]) ∧
          State.onlyFieldsEv (F.KSK_STAT_FAULTS :: walkFields) s t) ∧
  (∀ (s : State) (v : Word), s.powered →
    Answers (.kskWinBaseWrite v) s fun t => t.dev.get F.KSK_WIN_BASE_BASE = bits v.toNat 55 28 ∧ State.onlyFields [F.KSK_WIN_BASE_BASE] s t) ∧
  (∀ s : State, s.powered →
    Answers .linkRecovery s fun t =>
      t.dev.get F.HST_LINK_RECOV = min (2 ^ 16 - 1) (s.dev.get F.HST_LINK_RECOV + 1) ∧ t.dev.host = s.dev.host ∧
        State.onlyFields [F.HST_LINK_RECOV] s t) ∧
  (∀ (s : State) (why : HostReset), s.powered →
    let linkFields := [F.HST_LINK_RESETS, F.HST_LINK_BME, F.HST_LINK_DL_UP, F.HST_LINK_SPEED, F.HST_LINK_WIDTH, F.HST_LOST_LLU]
    let wrote := s.dev.host.entries.filter (·.wroteHost)
    (s.dev.host.cfgReady = false → Answers (.hostFacingReset why) s fun t => t = s) ∧
    (s.dev.host.cfgReady = true → (∀ e ∈ wrote, e.finished.isSome = true) →
      Answers (.hostFacingReset why) s fun t =>
        t.dev.get F.HST_LINK_RESETS = min (2 ^ 16 - 1) (s.dev.get F.HST_LINK_RESETS + 1) ∧ t.dev.get F.HST_LINK_BME = 0 ∧
          t.dev.get F.HST_LINK_DL_UP = (if why = .flr then s.dev.get F.HST_LINK_DL_UP else 0) ∧ t.dev.host.msix = false ∧
          t.dev.host.pendingVectors = [] ∧ t.dev.host.cfgReady = decide (why ≠ .perst) ∧
          t.dev.get F.HST_LOST_LLU = min (2 ^ 32 - 1) (s.dev.get F.HST_LOST_LLU + wrote.length) ∧
          (∀ e ∈ wrote, ∃ r : Nat, t.dev.entryEnded e.queue e.seq stLinkLost r) ∧
          (∀ e ∈ s.dev.host.entries, (∀ w ∈ wrote, e.queue ≠ w.queue ∨ e.seq ≠ w.seq) → e ∈ t.dev.host.entries) ∧
          State.onlyFields linkFields s t)) ∧
  ∀ s : State, s.powered →
    (s.dev.host.cfgReady = false → Answers .busMasterEnable s fun t => t = s) ∧
    (s.dev.host.cfgReady = true → s.dev.on F.HST_LINK_DL_UP = true → s.dev.host.queues = [] →
      let held := (List.range 64).flatMap s.dev.ringHeld
      (held = [] →
        Answers .busMasterEnable s fun t =>
          t.dev.get F.HST_LINK_BME = 1 ∧ t.dev.host.msix = true ∧ t.dev.host.pendingVectors = [] ∧
            t.dev.outs = s.dev.host.pendingVectors.map Out.msix ++ s.dev.outs ∧ State.onlyFields [F.HST_LINK_BME] s t) ∧
      ∀ (pa : Nat) (bytes : List Byte), held = [pa] → Table.get (fun _ => none) s.dev.host.records pa = some (bytes, false) →
        Answers .busMasterEnable s fun t =>
          t.dev.get F.HST_LINK_BME = 1 ∧ t.dev.mem = (s.dev.write pa bytes).mem ∧ State.sameBut s t ∧
            Dev.sameRegsBut [F.HST_LINK_BME] s.dev t.dev ∧ Dev.sameMemBut [(pa, bytes.length)] s.dev t.dev ∧ t.dev.sram = s.dev.sram)

/-- An arbiter grants a request that none precedes; losers of small arbiters back off; partitions, retirement and the cluster map change by
their checks. (R99, R100, R336, R337, R338, R339, R340, R341, R342, R343, R360) -/
def Obligations.ArbitersPartitionsAndTheClusterMap : Prop :=
  (∀ (s : State) (a : Fin 6) (inst : Nat) (held : Option ArbReq) (ready : List ArbReq), s.powered →
    let open' := ready.filter fun r => !s.dev.arbMasked a inst r
    (open' = [] → Answers (.arbiterGrant a inst held ready) s fun t => t = s) ∧
    (open' ≠ [] → held = none →
      Answers (.arbiterGrant a inst held ready) s fun t =>
        ∃ r ∈ open', (∀ x ∈ open', s.dev.arbBefore a inst x r = false) ∧ t.dev.outs = .grant a inst r.requester :: s.dev.outs ∧
          countAt t.dev.arb.losses (arbKey a inst r.requester) = 0 ∧
          (∀ x ∈ open', x ≠ r → arbSmall a = true → x.cls.val ≠ clsSched → arbKey a inst x.requester ∈ t.dev.arb.backing) ∧
          (∀ k ∈ s.dev.arb.backing, k ∈ t.dev.arb.backing) ∧
          (arbSmall a = false → t.dev.arb.backing = s.dev.arb.backing) ∧
          t.dev.p3Used a inst r.part = s.dev.p3Used a inst r.part + b2n (r.cls.val == clsP3) ∧
          State.onlyFields [F.ARB_STAT_MASKED a] s t) ∧
    ∀ h r : ArbReq, held = some h → s.dev.arbPick a inst open' = some r →
      (s.dev.arbPreempts a inst r h = false → Answers (.arbiterGrant a inst held ready) s fun t => t = s) ∧
      (s.dev.arbPreempts a inst r h = true →
        Answers (.arbiterGrant a inst held ready) s fun t =>
          t.dev.outs = .grant a inst r.requester :: s.dev.outs ∧
            t.dev.get (F.ARB_STAT_PREEMPT a) = min (2 ^ (F.ARB_STAT_PREEMPT a).w - 1) (s.dev.get (F.ARB_STAT_PREEMPT a) + 1) ∧
            State.onlyFields [F.ARB_STAT_PREEMPT a, F.ARB_STAT_MASKED a] s t)) ∧
  (∀ (s : State) (a : Fin 6) (inst requester : Nat), s.powered →
    Answers (.backoffExpiry a inst requester) s fun t =>
      (∀ k : Nat, k ∈ t.dev.arb.backing ↔ k ∈ s.dev.arb.backing ∧ k ≠ arbKey a inst requester) ∧ t.dev.arb.losses = s.dev.arb.losses ∧
        State.onlyFields [] s t) ∧
  (∀ (s : State) (a : Fin 6) (inst : Nat), s.powered →
    Answers (.p3QuotaWindow a inst) s fun t =>
      (∀ p : Nat, p < 8 → t.dev.p3Used a inst p = 0) ∧ t.dev.p3Quota a inst = max 1 (s.dev.get (F.ARB_CFG_P3_QUOTA a)) ∧
        (∀ (b j p : Nat), p < 8 → arbKey b j 0 ≠ arbKey a inst 0 → t.dev.p3Used b j p = s.dev.p3Used b j p) ∧
        t.dev.arb.losses = s.dev.arb.losses ∧ t.dev.arb.backing = s.dev.arb.backing ∧ State.onlyFields [] s t) ∧
  (∀ (s : State) (a : Auth) (p : Fin 8) (record : Word), s.authentic a (partKey p) (leBytes 8 record.toNat) → s.dev.pwr.flashWp = false →
    let rec_ := record.toNat
    let value := leBytes 8 rec_
    let kept := s.flash.lay (Table.ins s.flash.storedEntries (partKey p) value)
    let shown (t : State) : Prop := ∀ x ∈ partFields p rec_, t.dev.get x.1 = x.2
    let partsKept (t : State) : Prop := ∀ q : Nat, (t.dev.part q).staged = (s.dev.part q).staged ∧
      (t.dev.part q).running = (s.dev.part q).running ∧ (t.dev.part q).buffers = (s.dev.part q).buffers
    let fresh (buffers : List Nat) (t : State) : Prop := (t.dev.part p).staged = none ∧ (t.dev.part p).running = none ∧
      (t.dev.part p).loading = none ∧ (t.dev.part p).buffers = buffers
    (bit rec_ 63 = true →
      ((s.dev.partCreate p rec_).1 ≠ stOk →
        Answers (.partitionCreate a p record) s fun t =>
          partsKept t ∧ State.authDone a (partKey p) value (s.dev.partCreate p rec_).1 (s.countedVault a) s.flash [] s t) ∧
      (s.dev.get F.PWR_BOOT_STATE ≠ dsFailed → bits rec_ 38 36 = 0 → bits rec_ 17 0 = 0 → s.dev.on (F.ARB_PART_ACTIVE p) = false →
        bits rec_ 26 18 + bits rec_ 35 27 ≤ 384 → (∀ q < 8, s.dev.on (F.ARB_PART_ACTIVE q) = true → s.dev.partClash rec_ q = false) →
        (bit rec_ 62 = false →
          Answers (.partitionCreate a p record) s fun t =>
            shown t ∧ fresh [] t ∧ (∀ q : Nat, q ≠ p → (t.dev.part q).running = (s.dev.part q).running) ∧
              State.authDone a (partKey p) value stOk (s.countedVault a) kept ((partFields p rec_).map Prod.fst) s t) ∧
        ∀ x y : Frame, bit rec_ 62 = true → s.dev.has ftScheduled = true → s.dev.buffersFor p = some [x, y] →
          Answers (.partitionCreate a p record) s fun t =>
            shown t ∧ fresh [x.pa, y.pa] t ∧ t.dev.tier.frames = s.dev.tier.frames ++ [x, y] ∧
              t.pending = s.pending ∧ t.vault = s.countedVault a ∧ t.flash = s.lastKept a (partKey p) value stOk kept ∧
              Dev.sameRegsBut ((partFields p rec_).map Prod.fst ++ frameFields ++ [F.ARB_FQ_USED p] ++ mailboxFields ++ eventFields)
                s.dev t.dev ∧ Dev.sameMemButRings [(x.pa, x.size), (y.pa, y.size)] s.dev t.dev)) ∧
    (bit rec_ 63 = false →
      ((s.dev.partDestroy p rec_).1 ≠ stOk →
        Answers (.partitionDestroy a p record) s fun t =>
          partsKept t ∧ State.authDone a (partKey p) value (s.dev.partDestroy p rec_).1 (s.countedVault a) s.flash [] s t) ∧
      (bits rec_ 38 36 = 0 → bits rec_ 17 0 = 0 → s.dev.on (F.ARB_PART_ACTIVE p) = true → s.dev.partIdle p = false →
        (s.dev.partDestroy p rec_).1 = stPerm) ∧
      (bits rec_ 38 36 = 0 → bits rec_ 17 0 = 0 → s.dev.on (F.ARB_PART_ACTIVE p) = true → s.dev.partIdle p = true →
        Answers (.partitionDestroy a p record) s fun t =>
          shown t ∧ fresh [] t ∧ (∀ f ∈ t.dev.tier.frames, f ∈ s.dev.tier.frames ∧ ¬ (f.part = p ∧ f.image = true)) ∧
            (∀ f ∈ s.dev.tier.frames, f.part ≠ p ∨ f.image = false → f ∈ t.dev.tier.frames) ∧
            t.dev.get (F.MEM_BWR_MAX p) = 64 ∧ t.dev.get (F.MEM_BWR_MIN p) = 0 ∧ t.dev.get (F.SCH_STATUS_RUN p) = 0 ∧
            t.pending = s.pending ∧ t.vault = s.countedVault a ∧ t.flash = s.lastKept a (partKey p) value stOk kept ∧
            Dev.sameRegsBut ((partFields p rec_).map Prod.fst ++ frameFields ++ schFields p ++
              [F.ARB_FQ_USED p, F.MEM_BWR_MAX p, F.MEM_BWR_MIN p, F.PLZ_SCR_SIZE 0 p, F.PLZ_SCR_SIZE 1 p, F.PLZ_SCR_SIZE 2 p,
                F.PLZ_SCR_SIZE 3 p] ++ mailboxFields ++ eventFields) s.dev t.dev ∧ Dev.sameMemButRings [] s.dev t.dev))) ∧
  (∀ (s : State) (a : Auth) (l : Fin 384), s.authentic a 0x230007 (leBytes 2 l) →
    let h := s.dev.get F.IDF_ID_CLUSTERS - 1
    let done := State.authDone a 0x230007 (leBytes 2 l)
    (s.dev.has ftSpares = false → Answers (.retire a l) s (done stFeature (s.countedVault a) s.flash [] s)) ∧
    ∀ old moved : Nat, s.dev.has ftSpares = true → s.dev.physOf l = some old → s.dev.physOf h = some moved → h < 384 →
      let quiet := s.dev.imageNames l = false ∧ s.dev.imageNames h = false ∧ s.dev.quiescent old = true ∧ s.dev.quiescent moved = true
      (¬ quiet → Answers (.retire a l) s (done stPerm (s.countedVault a) s.flash [] s)) ∧
      (quiet → old < 400 → moved < 400 → (old = moved ↔ l.val = h) →
        Answers (.retire a l) s fun t =>
          t.dev.get (F.CLU_LMAP_VALID h) = 0 ∧ t.dev.get (F.CLU_ID_STATE old) = 3 ∧ t.dev.get F.IDF_ID_CLUSTERS = h ∧
            (l.val ≠ h → t.dev.get (F.CLU_LMAP_PHYS l) = moved ∧ t.dev.get (F.CLU_ID_LOGICAL moved) = l) ∧
            done stOk (s.countedVault a) s.flash [F.CLU_LMAP_PHYS l, F.CLU_ID_LOGICAL moved, F.CLU_LMAP_VALID h, F.CLU_ID_STATE old,
              F.CLU_ID_LOGICAL old, F.IDF_ID_CLUSTERS] s t)) ∧
  ∀ (s : State) (a : Auth) (v : Bool), s.authentic a 0x230008 (boolByte v) →
    let outOfUse := (List.range 400).filter fun c => s.dev.get (F.CLU_ID_STATE c) == 3
    Answers (.commitMap a v) s
      (State.authDone a 0x230008 (boolByte v) stOk (s.countedVault a)
        (if v then { s.flash with map := some s.dev.lmap, outs := outOfUse } else s.flash) [] s)

/-- A frame is answered with the object's value or status; segments gather; features, defaults, lockouts and the mailbox act as the rules
say. (R10, R348, R349, R352, R353, R354, R355, R356, R358, R360, R361, R367) -/
def Obligations.ObjectsAreReadAndWritten : Prop :=
  (∀ (s : State) (source : Nat) (raw : List Byte) (c : Instr) (op : Nat), s.powered → s.dev.carries source = true →
    (c, op) ∈ [(Instr.read source raw, 1), (.write source raw, 2), (.readSeg source raw, 3), (.writeSeg source raw, 4)] →
    (readFrame raw = none →
      Answers c s fun t =>
        t.dev.objNat 0x11000B = min (2 ^ 32 - 1) (s.dev.objNat 0x11000B + 1) ∧ t.dev.outs = s.dev.outs ∧ State.onlyFields [] s t) ∧
    ∀ f : LopFrame, readFrame raw = some f →
      (s.dev.serves f.key = false ∨ (f.op ≠ op ∧ 0 < f.op ∧ f.op ≤ 4) → Answers c s fun t => t = s) ∧
      (s.dev.serves f.key = true → f.op = op → f.reserved = true →
        Answers c s (State.replied source (lopFrame (op + 0x80) f.reqId f.key 0 stFeature [] f.offset) s.vault s.flash [] s)) ∧
      (s.dev.serves f.key = true → f.op = op → f.reserved = false → 1400 < f.length →
        Answers c s (State.replied source (lopFrame (op + 0x80) f.reqId f.key 0 stBounds [] f.offset) s.vault s.flash [] s))) ∧
  (∀ (s : State) (source : Nat) (raw : List Byte) (f : LopFrame), s.takesLop source raw f → f.key ≠ 0x500402 →
    let v := s.readObject f.key
    let answer (op flags st : Nat) (data : List Byte) (offset : Nat) : State → Prop :=
      State.replied source (lopFrame op f.reqId f.key flags st data offset) s.vault s.flash [] s
    (f.op = 1 → v.1 = stOk → v.2.length ≤ 1400 → Answers (.read source raw) s (answer 0x81 0 stOk v.2 0)) ∧
    (f.op = 1 → v.1 = stOk → 1400 < v.2.length → Answers (.read source raw) s (answer 0x81 0 stBounds [] 0)) ∧
    (f.op = 1 → v.1 ≠ stOk → Answers (.read source raw) s (answer 0x81 0 v.1 [] 0)) ∧
    (f.op = 3 → v.1 = stOk → f.offset ≤ v.2.length →
      Answers (.readSeg source raw) s
        (answer 0x83 (b2n (decide (v.2.length ≤ f.offset + 1400))) stOk ((v.2.drop f.offset).take 1400) f.offset)) ∧
    (f.op = 3 → v.1 = stOk → v.2.length < f.offset → Answers (.readSeg source raw) s (answer 0x83 0 stBounds [] f.offset)) ∧
    (f.op = 3 → v.1 ≠ stOk → Answers (.readSeg source raw) s (answer 0x83 0 v.1 [] f.offset))) ∧
  (∀ (s : State) (source : Nat) (raw : List Byte) (f : LopFrame) (c : Instr) (op : Nat), s.takesLop source raw f →
    s.dev.ctl.resetDue = 0 → (c, op) ∈ [(Instr.write source raw, 2), (.writeSeg source raw, 4)] → f.op = op →
    let answer (st : Nat) (fl : Flash) : State → Prop :=
      State.replied source (lopFrame (op + 0x80) f.reqId f.key 0 st [] f.offset) s.vault fl [] s
    ((writable f.key).2 = none → Answers c s (answer (writable f.key).1 s.flash)) ∧
    ∀ o : ObjRow, writable f.key = (stOk, some o) → bit f.flags 1 = false → op = 2 ∨ (bit f.flags 0 = true ∧ f.offset = 0 ∧
        (∀ w ∈ s.dev.ctl.open_, w.key ≠ f.key) ∧ s.dev.ctl.open_.length < 4 ∧ f.data.length ≤ o.maxLen) →
      (o.acc = .auth → Answers c s (answer stAuthFail s.flash)) ∧
      (f.key ∈ [0x230002, 0x230003, 0x230006, 0x280001, 0x290002, 0x2B0002] →
        (s.dev.pwr.flashWp = true → Answers c s (answer stPerm s.flash)) ∧
        (s.dev.pwr.flashWp = false → o.valueOk f.data = false → Answers c s (answer stBounds s.flash)) ∧
        (s.dev.pwr.flashWp = false → o.valueOk f.data = true →
          Answers c s fun t =>
            t.dev.obj f.key = f.data ∧ (∀ k : Nat, k ≠ f.key → k ≠ 0x110203 → t.dev.obj k = s.dev.obj k) ∧
              answer stOk (s.flash.lay (Table.ins s.flash.storedEntries f.key f.data)) t))) ∧
  (∀ (s : State) (source : Nat) (raw : List Byte) (f : LopFrame) (o : ObjRow), s.takesLop source raw f → f.op = 4 →
    writable f.key = (stOk, some o) → bit f.flags 1 = false → bit f.flags 0 = false →
    let rest := s.dev.ctl.others f.key source
    let answer (st : Nat) : State → Prop := State.replied source (lopFrame 0x84 f.reqId f.key 0 st [] f.offset) s.vault s.flash [] s
    (f.offset = 0 → (∀ w ∈ rest, w.key ≠ f.key) → rest.length < 4 → f.data.length ≤ o.maxLen →
      Answers (.writeSeg source raw) s fun t => t.dev.ctl.open_ = ⟨f.key, source, f.data⟩ :: rest ∧ answer stOk t) ∧
    (f.offset = 0 → (∃ w ∈ rest, w.key = f.key) → Answers (.writeSeg source raw) s fun t => t.dev.ctl.open_ = s.dev.ctl.open_ ∧ answer stPerm t) ∧
    ∀ w : OpenWrite, f.offset ≠ 0 → (s.dev.ctl.open_.find? fun w => w.key == f.key && w.source == source) = some w →
      (f.offset = w.bytes.length → w.bytes.length + f.data.length ≤ o.maxLen →
        Answers (.writeSeg source raw) s fun t => t.dev.ctl.open_ = ⟨f.key, source, w.bytes ++ f.data⟩ :: rest ∧ answer stOk t) ∧
      (f.offset ≠ w.bytes.length → Answers (.writeSeg source raw) s fun t => t.dev.ctl.open_ = rest ∧ answer stBounds t)) ∧
  (∀ (s : State) (source key : Nat), s.powered →
    Answers (.segmentedWriteTimeout source key) s fun t =>
      (∀ w : OpenWrite, w ∈ t.dev.ctl.open_ ↔ w ∈ s.dev.ctl.open_ ∧ ¬ (w.key = key ∧ w.source = source)) ∧ State.onlyFields [] s t) ∧
  (∀ s : State, s.powered →
    let n := s.dev.get F.MBX_REQ_LEN_LEN
    (s.dev.get F.MBX_STATUS_STATE = 1 →
      Answers .mbxGo s fun t => Dev.raisedOne s.dev t.dev evRegister stOk 0 [F.MBX_CTRL_GO.off, 1] ∧ State.onlyFieldsEv regaccFields s t) ∧
    (s.dev.get F.MBX_STATUS_STATE ≠ 1 → n < 20 ∨ 1452 < n →
      Answers .mbxGo s fun t =>
        t.dev.get F.MBX_STATUS_STATE = 2 ∧ t.dev.get F.MBX_STATUS_RSP_LEN = 0 ∧
          t.dev.objNat 0x11000B = min (2 ^ 32 - 1) (s.dev.objNat 0x11000B + 1) ∧ Dev.raisedOne s.dev t.dev evMailbox stOk 0 [] ∧
          State.onlyFieldsEv mailboxFields s t) ∧
    ∀ f : LopFrame, s.dev.get F.MBX_STATUS_STATE ≠ 1 → 20 ≤ n → n ≤ 1452 → s.takesLop srcMailbox (s.dev.mailbox n) f → f.op = 1 →
      f.key ≠ 0x500402 →
      let v := ({ s with dev := s.dev.put F.MBX_STATUS_STATE 1 } : State).readObject f.key
      v.1 = stOk → v.2.length ≤ 1400 →
      Answers .mbxGo s (State.replied srcMailbox (lopFrame 0x81 f.reqId f.key 0 stOk v.2 0) s.vault s.flash [] s)) ∧
  (∀ (s : State) (source reqId : Nat) (vector : BitVec 128), s.listens source 0x100102 → s.dev.pwr.flashWp = false →
    let v := vector.toNat
    let b := leBytes 16 v
    let lawful := v &&& offeredBits = v ∧ v &&& 3 = 3
    let clears := s.dev.negotiated &&& (s.dev.negotiated ^^^ (v &&& s.dev.negotiated)) ≠ 0
    let still := s.dev.host.queues = [] ∧ (∀ p < 8, (s.dev.part p).staged = none ∧ (s.dev.part p).running = none) ∧ s.dev.posFixed = false
    (lawful → ¬ clears ∨ still →
      Answers (.featureAccept source reqId vector) s fun t =>
        t.dev.get (F.IDF_NEG_BITS 0) = v % 2 ^ 64 ∧ t.dev.get (F.IDF_NEG_BITS 1) = v / 2 ^ 64 ∧ t.dev.obj 0x100102 = b ∧
          State.plainDone source reqId 0x100102 b stOk (s.flash.lay (Table.ins s.flash.storedEntries 0x100102 b))
            [F.IDF_NEG_BITS 0, F.IDF_NEG_BITS 1] s t) ∧
    (¬ lawful → Answers (.featureAccept source reqId vector) s (State.plainDone source reqId 0x100102 b stFeature s.flash [] s)) ∧
    (lawful → clears → ¬ still →
      Answers (.featureAccept source reqId vector) s (State.plainDone source reqId 0x100102 b stPerm s.flash [] s))) ∧
  (∀ (s : State) (source reqId : Nat), s.listens source 0x110204 →
    (s.dev.pwr.flashWp = true →
      Answers (.restoreDefaults source reqId) s (State.plainDone source reqId 0x110204 (boolByte true) stPerm s.flash [] s)) ∧
    (s.dev.pwr.flashWp = false →
      Answers (.restoreDefaults source reqId) s
        (State.plainDone source reqId 0x110204 (boolByte true) stOk (s.flash.lay factoryEntries) [] s))) ∧
  ∀ (s : State) (slot : Fin 8), s.powered →
    ((s.vault.slot slot).locked = true →
      Answers (.lockoutExpiry slot) s fun t =>
        t = { s with vault := s.vault.setSlot slot { s.vault.slot slot with locked := false, failures := 0 } }) ∧
    ((s.vault.slot slot).locked = false → Answers (.lockoutExpiry slot) s fun t => t = s) ∧
    Answers (.lastRequestStoreExpiry slot) s fun t =>
      t.flash = { s.flash with lastRequests := t.flash.lastRequests } ∧ t.dev = s.dev ∧ t.vault = s.vault ∧ t.pending = s.pending ∧
        ∀ r : LastRequest, r ∈ t.flash.lastRequests ↔ r ∈ s.flash.lastRequests ∧ r.slot ≠ slot.val

/-- A BAR0 write reaches the register at its offset: a plain field takes its bits, a doorbell or a command register acts as its command,
all else is refused. (R7, R8, R9, R312, R329, R353) -/
def Obligations.RegisterWritesReachTheirRegisters : Prop :=
  (∀ (s : State) (off size : Nat) (v : Word), s.powered →
    (0x4000000 ≤ off → Answers (.registerWrite off size v) s fun t => t = s) ∧
    (off < 0x2000000 → off ≠ F.MBX_CTRL_GO.off ∨ size ≠ 8 →
      size ≠ 8 ∨ off % 8 ≠ 0 ∨ regAt off = none ∨ (∃ r : RegRow × List Nat, regAt off = some r ∧ reservedValue r.1.base v.toNat = true) →
      Answers (.registerWrite off size v) s fun t =>
        Dev.raisedOne s.dev t.dev evRegister stOk 0 [off, v.toNat % 2 ^ (8 * size)] ∧ State.onlyFieldsEv regaccFields s t) ∧
    (0x2000000 ≤ off → off < 0x4000000 → (size ≠ 4 ∧ size ≠ 8) ∨ off % 128 ∉ [0x00, 0x08, 0x10] →
      Answers (.registerWrite off size v) s fun t =>
        Dev.raisedOne s.dev t.dev evRegister stOk 0 [off, v.toNat % 2 ^ (8 * size)] ∧ State.onlyFieldsEv regaccFields s t)) ∧
  (∀ (s : State) (i : Fin 64) (v : Word), s.powered →
    Answers (.registerWrite (F.HST_EVMAP_RING i).off 8 v) s fun t =>
      t.dev.get (F.HST_EVMAP_RING i) = v.toNat % 64 ∧ t.dev.events = s.dev.events ∧ State.onlyFields [F.HST_EVMAP_RING i] s t) ∧
  (∀ (s : State) (v : Word), s.powered →
    Answers (.registerWrite F.IDF_ID_CLUSTERS.off 8 v) s fun t => t.dev.events = s.dev.events ∧ State.onlyFields [] s t) ∧
  ∀ (s : State) (q : Fin 262144) (v : Word), s.powered →
    exec (.registerWrite (doorbell q) 8 v) s = exec (.dbPi q v.toNat) s ∧
    exec (.registerWrite (doorbell q + 0x08) 8 v) s = exec (.cqCi q v.toNat) s ∧
    exec (.registerWrite (doorbell q + 0x10) 8 1#64) s = exec (.queueEnable q) s ∧
    exec (.registerWrite (doorbell q + 0x10) 8 2#64) s = exec (.queueDisable q) s ∧
    exec (.registerWrite (doorbell q + 0x10) 8 4#64) s = exec (.queueRestart q) s ∧
    exec (.registerWrite F.KSK_WIN_BASE_BASE.off 8 v) s = exec (.kskWinBaseWrite v) s ∧
    exec (.registerWrite F.MBX_CTRL_GO.off 8 1#64) s = exec .mbxGo s ∧
    exec (.registerWrite F.RAS_CTRL_SVC.off 8 1#64) s = exec (.serviceStateWrite true) s

/-- A whole-device reset and a zeroise start boot anew after their response; firmware goes to the copy not in use; the rollback counter
only rises. (R18, R360, R361, R369, R370, R371, R379, R380, R383, R386) -/
def Obligations.ResetsFirmwareAndRollback : Prop :=
  (∀ (s : State) (a : Auth), s.authentic a 0x2E0101 (boolByte true) → (∀ w ∈ s.dev.ctl.open_, w.key ≠ 0x510001) →
    Answers (.wholeDeviceReset a) s fun t =>
      t.vault = (s.countedVault a).abandonLeaves ∧ t.flash = s.lastKept a 0x2E0101 (boolByte true) stOk s.flash ∧ t.pending = s.pending ∧
        t.dev.get F.PWR_BOOT_STATE = dsInit ∧ t.dev.get F.PWR_BOOT_STAGE = Dev.reset.get F.PWR_BOOT_STAGE ∧
        t.dev.get F.PWR_RST_WHOLE = min (2 ^ F.PWR_RST_WHOLE.w - 1) (s.dev.get F.PWR_RST_WHOLE + 1) ∧ t.dev.get F.PWR_RST_CAUSE = 2 ∧
        Out.linkDown ∈ t.dev.outs ∧ t.dev.host.cfgReady = false ∧ t.dev.time = s.dev.time ∧
        (∀ p : Nat, (t.dev.part p).running = none ∧ (t.dev.part p).staged = none) ∧ (∀ p : Nat, (t.dev.port p).driving = false) ∧
        (s.dev.pwr.holdover = true → t.dev.held hcClock = true) ∧
        (∀ f : Fld, (∀ g ∈ rwsFields ++ holdFields, f.key ≠ g.key) → t.dev.get f = Dev.reset.get f)) ∧
  (∀ (s : State) (a : Auth), s.authentic a 0x2E0101 (boolByte true) → (∃ w ∈ s.dev.ctl.open_, w.key = 0x510001) → s.dev.ctl.resetDue = 0 →
    Answers (.wholeDeviceReset a) s (State.authDone a 0x2E0101 (boolByte true) stPerm (s.countedVault a) s.flash [] s)) ∧
  (∀ (s : State) (a : Auth), s.authentic a 0x540001 (boolByte true) →
    Answers (.zeroise a) s fun t =>
      t.vault.slots = List.replicate 7 KeySlot.empty ∧ t.vault.slot0.key = some Config.transportKey ∧ t.vault.slot0.mask = 0xFFFF ∧
        t.vault.slot0.counter = (s.countedVault a).slot0.counter ∧ t.vault.debugFuse = s.vault.debugFuse ∧
        t.vault.guestFuse = s.vault.guestFuse ∧ t.vault.rollback = s.vault.rollback ∧ t.vault.copyA = s.vault.copyA ∧
        t.vault.copyB = s.vault.copyB ∧ t.flash = s.flash.erase ∧ t.pending = s.pending ∧ t.dev.get F.PWR_BOOT_STATE = dsInit ∧
        t.dev.get F.PWR_RST_ZEROISE = min (2 ^ F.PWR_RST_ZEROISE.w - 1) (s.dev.get F.PWR_RST_ZEROISE + 1) ∧ t.dev.get F.PWR_RST_CAUSE = 3 ∧
        (∀ f : Fld, (∀ g ∈ rwsFields ++ holdFields, f.key ≠ g.key) → t.dev.get f = Dev.reset.get f)) ∧
  (∀ (s : State) (a : Auth) (im : FirmwareIn), s.authentic a 0x510001 im.bytes →
    let v := s.countedVault a
    let written : Firmware := ⟨im.version, im.secVersion, sha384 im.bytes, true⟩
    let done := State.authDone a 0x510001 im.bytes
    let signed := im.sigs.ecdsa = true ∧ im.sigs.lms = true
    (s.dev.pwr.flashWp = true → Answers (.firmwareUpdate a im) s (done stPerm v s.flash [] s)) ∧
    (s.dev.pwr.flashWp = false → firmwareMax < im.bytes.length → Answers (.firmwareUpdate a im) s (done stBounds v s.flash [] s)) ∧
    (s.dev.pwr.flashWp = false → im.bytes.length ≤ firmwareMax →
      (¬ signed → Answers (.firmwareUpdate a im) s (done stAuthFail v s.flash [] s)) ∧
      (signed → im.secVersion < s.vault.rollback → Answers (.firmwareUpdate a im) s (done stPerm v s.flash [] s)) ∧
      (signed → s.vault.rollback ≤ im.secVersion → s.dev.get F.PWR_BOOT_STATE ≠ dsRecovery →
        Answers (.firmwareUpdate a im) s
          (done stOk (if s.dev.ctl.runningCopy = 0 then { v with copyB := written } else { v with copyA := written }) s.flash [] s)) ∧
      (signed → s.vault.rollback ≤ im.secVersion → s.dev.get F.PWR_BOOT_STATE = dsRecovery →
        Answers (.firmwareUpdate a im) s fun t =>
          t.dev.get F.PWR_BOOT_STATE = dsInit ∧ t.dev.get F.PWR_BOOT_STAGE = 1 ∧ t.dev.get F.PWR_BOOT_REASON = 0 ∧
            done stOk (if s.vault.bootCopy = 0 then { v with copyA := written } else { v with copyB := written }) s.flash
              [F.PWR_BOOT_STATE, F.PWR_BOOT_STAGE, F.PWR_BOOT_REASON] s t))) ∧
  ∀ (s : State) (a : Auth), s.authentic a 0x510004 (boolByte true) →
    (s.dev.ready = true →
      Answers (.commitRollback a) s fun t =>
        s.vault.rollback ≤ t.vault.rollback ∧ (s.vault.copy s.dev.ctl.runningCopy).secVersion ≤ t.vault.rollback ∧
          (let risen : Vault := { (s.countedVault a) with rollback := max s.vault.rollback (s.vault.copy s.dev.ctl.runningCopy).secVersion }
          State.authDone a 0x510004 (boolByte true) stOk risen s.flash [] s t)) ∧
    (s.dev.ready = false →
      Answers (.commitRollback a) s (State.authDone a 0x510004 (boolByte true) stPerm (s.countedVault a) s.flash [] s))

/-- Keys change within the issuer's permissions, fuses blow for good, lists move only forward, quotes use one leaf, the debug lock opens
and closes. (R116, R360, R381, R382, R383, R384, R385, R389, R395, R397) -/
def Obligations.KeysFusesListsQuotesAndDebugLock : Prop :=
  (∀ (s : State) (a : Auth) (b : List Byte), s.authentic a 0x520001 b →
    let target := (b.getD 0 0#8).toNat
    let mask := leNat ((b.drop 2).take 2)
    let key := b.drop 8
    let v := s.countedVault a
    let done (st : Nat) (w : Vault) : State → Prop := State.authDone a 0x520001 b st w s.flash [] s
    let clean := b.getD 1 0#8 = 0#8 ∧ (∀ x ∈ (b.drop 4).take 4, x = 0#8) ∧ mask < 2 ^ 9
    (b.length ≠ 56 → Answers (.keyChange a b) s (done stBounds v)) ∧
    (b.length = 56 →
      (¬ clean → Answers (.keyChange a b) s (done stFeature v)) ∧
      (clean → 7 < target → Answers (.keyChange a b) s (done stBounds v)) ∧
      (clean → target ≤ 7 → mask &&& (s.vault.slot a.slot).mask ≠ mask → Answers (.keyChange a b) s (done stPerm v)) ∧
      (clean → target ≤ 7 → mask &&& (s.vault.slot a.slot).mask = mask →
        (key.all (· == 0#8) = true → target = 0 → Answers (.keyChange a b) s (done stPerm v)) ∧
        (key.all (· == 0#8) = true → target ≠ 0 →
          Answers (.keyChange a b) s (done stOk (v.setSlot target { v.slot target with key := none, mask := 0, failures := 0 }))) ∧
        (key.all (· == 0#8) = false → target = 0 → bit mask 1 = false → Answers (.keyChange a b) s (done stPerm v)) ∧
        (key.all (· == 0#8) = false → target ≠ 0 ∨ bit mask 1 = true →
          Answers (.keyChange a b) s (done stOk (v.setSlot target ⟨some key, mask, 0, 0, false⟩)))))) ∧
  (∀ (s : State) (a : Auth) (code : Nat), s.authentic a 0x530001 (leBytes 1 code) →
    let done (st : Nat) (w : Vault) : State → Prop := State.authDone a 0x530001 (leBytes 1 code) st w s.flash [] s
    (code = 1 → Answers (.fuseWrite a code) s (done stOk { s.countedVault a with debugFuse := ⟨true, true, true⟩ })) ∧
    (code = 2 → Answers (.fuseWrite a code) s (done stOk { s.countedVault a with guestFuse := ⟨true, true, true⟩ })) ∧
    (code ≠ 1 → code ≠ 2 → Answers (.fuseWrite a code) s (done stBounds (s.countedVault a)))) ∧
  (∀ (s : State) (a : Auth) (sigs : Sigs) (seq : Nat) (list : List Byte) (partners : List PartnerRow),
    let fits (old : Nat) : Prop := s.dev.pwr.flashWp = false ∧ list.length ≤ 65536 ∧ sigs.ecdsa = true ∧ sigs.lms = true ∧ old < seq
    let v := s.countedVault a
    (s.authentic a 0x500201 list →
      (fits s.vault.revocationSeq →
        Answers (.revocationListWrite a sigs seq list) s
          (State.authDone a 0x500201 list stOk { v with revocation := list, revocationSeq := seq } s.flash [] s)) ∧
      (¬ fits s.vault.revocationSeq →
        Answers (.revocationListWrite a sigs seq list) s
          (State.authDone a 0x500201 list (listStatus sigs seq s.vault.revocationSeq list s) v s.flash [] s))) ∧
    (s.authentic a 0x500301 list →
      (fits s.vault.partnerSeq →
        Answers (.partnerKeyListWrite a sigs seq partners list) s
          (State.authDone a 0x500301 list stOk { v with partners := partners, partnerList := list, partnerSeq := seq } s.flash [] s)) ∧
      (¬ fits s.vault.partnerSeq →
        Answers (.partnerKeyListWrite a sigs seq partners list) s
          (State.authDone a 0x500301 list (listStatus sigs seq s.vault.partnerSeq list s) v s.flash [] s)))) ∧
  (∀ (s : State) (source reqId : Nat) (nonce : List Byte), s.listens source 0x500401 →
    (nonce.length = 48 →
      Answers (.quoteNonce source reqId nonce) s fun t =>
        t.dev.ctl.quoteNonce = some nonce ∧ State.plainDone source reqId 0x500401 nonce stOk s.flash [] s t) ∧
    (nonce.length ≠ 48 →
      Answers (.quoteNonce source reqId nonce) s fun t =>
        t.dev.ctl = s.dev.ctl ∧ State.plainDone source reqId 0x500401 nonce stBounds s.flash [] s t)) ∧
  (∀ (s : State) (source reqId : Nat), s.listens source 0x500402 →
    (s.dev.ctl.quoteNonce = none →
      Answers (.quote source reqId) s (State.replied source (lopFrame 0x83 reqId 0x500402 0 stBounds [] 0) s.vault s.flash [] s)) ∧
    ∀ n : List Byte, s.dev.ctl.quoteNonce = some n →
      let body := s.quoteBody n
      let evidence := body ++ Config.sign s.vault.leavesUsed body
      Answers (.quote source reqId) s fun t =>
        t.dev.obj 0x500402 = evidence ∧
          State.replied source (lopFrame 0x83 reqId 0x500402 (b2n (decide (evidence.length ≤ 1400))) stOk (evidence.take 1400) 0)
            { s.vault with leavesUsed := s.vault.leavesUsed + 1 } s.flash [] s t) ∧
  (∀ (s : State) (diagnostic : Bool), s.powered →
    (s.dev.ready = true →
      Answers (.serviceStateWrite diagnostic) s fun t =>
        t.dev.get F.RAS_CTRL_SVC = b2n diagnostic ∧ t.dev.get F.NUM_STATUS_SVC = b2n diagnostic ∧
          State.onlyFields [F.RAS_CTRL_SVC, F.NUM_STATUS_SVC] s t) ∧
    (s.dev.ready = false →
      Answers (.serviceStateWrite diagnostic) s fun t =>
        Dev.raisedOne s.dev t.dev evRegister stOk 0 [F.RAS_CTRL_SVC.off, b2n diagnostic] ∧ State.onlyFieldsEv regaccFields s t)) ∧
  (∀ (s : State) (a : Auth), s.authentic a 0x2F0101 (boolByte true) →
    (s.vault.debugFuse.blown = false →
      Answers (.debugUnlock a) s fun t =>
        t.dev.on F.TGD_CTRL_UNLOCKED = true ∧ (∃ e ∈ t.dev.events, e.cls = evSecurity ∧ e.seq = s.dev.get F.RAS_EVSEQ_NEXT) ∧
          State.authDone a 0x2F0101 (boolByte true) stOk (s.countedVault a) s.flash [F.TGD_CTRL_UNLOCKED] s t) ∧
    (s.vault.debugFuse.blown = true →
      Answers (.debugUnlock a) s (State.authDone a 0x2F0101 (boolByte true) stPerm (s.countedVault a) s.flash [] s))) ∧
  ∀ (s : State) (a : Auth), s.authentic a 0x2F0101 (boolByte false) →
    (∀ (k : Nat) (g : Group), s.dev.group k = some g → g.state ≠ gsHalted) →
    Answers (.debugLock a) s fun t =>
      t.dev.on F.TGD_CTRL_UNLOCKED = false ∧ (∃ e ∈ t.dev.events, e.cls = evSecurity ∧ e.seq = s.dev.get F.RAS_EVSEQ_NEXT) ∧
        State.authDone a 0x2F0101 (boolByte false) stOk (s.countedVault a) s.flash (F.TGD_CTRL_UNLOCKED :: debugFields) s t

/-- A step is the effect of the command at the front of the queue; on an empty queue one TICKREF cycle passes. (R8, R209, R389) -/
def Obligations.StepTakesTheFrontCommand : Prop :=
  (∀ (c : Instr) (rest : List Instr) (s : State), step { s with pending := c :: rest } = exec c { s with pending := rest }) ∧
  (∀ s : State, s.pending = [] → s.powered →
    ∃ t : State, step s = .next t ∧ t.pending = [] ∧ t.vault = s.vault ∧ t.flash = s.flash) ∧
  (∀ s : State, s.pending = [] → s.powered → s.dev.gate.held = [] →
    (∀ g < 2, ∀ c ∈ (s.dev.sq g).running, c.inbox = []) → step s = .next { s with dev := { s.dev with time := s.dev.time + 1 } }) ∧
  ∀ s : State, s.pending = [] → s.dev.pwr.pwrgd = false → step s = .next s

/-- Every command answers a next state and leaves the queue; without PWRGD only the power pins act; few commands reach Sentry's vault and
flash. (R20, R24, R26, R360, R367, R381, R383) -/
def Obligations.EveryCommandCompletesAndFewReachSentry : Prop :=
  (∀ (c : Instr) (s : State), Answers c s fun t => t.pending = s.pending) ∧
  (∀ (c : Instr) (s : State), s.dev.pwr.pwrgd = false → powerCommand c = false → Answers c s fun t => t = s) ∧
  ∀ (c : Instr) (s : State), reachesSentry c = false → Answers c s fun t => t.vault = s.vault ∧ t.flash = s.flash

/-- At reset slot 0 holds a key that may change keys, no fuse is blown, boot is at stage 1, the tick is off, and the memories are in form.
(R57, R116, R370, R381, R382) -/
def Obligations.ResetLeavesSentryAsShipped : Prop :=
  State.reset.pending = [] ∧ State.reset.vault.sound ∧ State.reset.vault.debugFuse.blown = false ∧
    State.reset.vault.guestFuse.blown = false ∧ State.reset.vault.rollback = 0 ∧ State.reset.dev.get F.PWR_BOOT_STATE = dsInit ∧
    State.reset.dev.get F.PWR_BOOT_STAGE = 1 ∧ State.reset.dev.tickState = tsOff ∧ State.reset.dev.get F.TGD_CTRL_UNLOCKED = 0 ∧
    State.reset.powered ∧ State.reset.dev.memWf

/-- Every step keeps a key in slot 0 that may change keys, and never takes back a fuse, the rollback counter, an LMS leaf or a list's
number. (R360, R379, R380, R381, R382, R383, R385, R386) -/
def Obligations.SentrysPromisesHoldInEveryStep : Prop :=
  ∀ s t : State, s.vault.sound → step s = .next t → t.vault.sound ∧ Vault.onward s.vault t.vault

/-- The lifetime counters are never reset by any command; power-up without a cause record reads 0x06; the asset tag obeys FLASH_WP#. (R31) -/
def Obligations.LifetimeCountersAreNeverReset : Prop :=
  (∀ (c : Instr) (s : State), s.flash.hours < 2 ^ 32 → s.flash.cycles < 2 ^ 32 →
    Answers c s fun t =>
      s.flash.hours ≤ t.flash.hours ∧ t.flash.hours < 2 ^ 32 ∧ s.flash.cycles ≤ t.flash.cycles ∧ t.flash.cycles < 2 ^ 32) ∧
  (∀ s : State, s.readObject 0x200008 = (stOk, leBytes 4 s.flash.hours) ∧ s.readObject 0x200009 = (stOk, leBytes 4 s.flash.cycles)) ∧
  (∀ (s : State) (slotId : Fin 64) (tref : Bool), s.dev.pwr.pwrEn = true → s.dev.pwr.ramping = true → s.dev.pwr.pwrgd = false →
    s.flash.everPowered = true → s.flash.shutdown = none →
    Answers (.pwrgd slotId tref) s fun t => t.dev.objNat 0x20000A = 6) ∧
  ∀ (s : State) (source : Nat) (raw : List Byte) (f : LopFrame), s.takesLop source raw f → s.dev.ctl.resetDue = 0 → f.op = 2 →
    f.key = 0x20000B → bit f.flags 1 = false →
    let answer (st : Nat) (fl : Flash) : State → Prop :=
      State.replied source (lopFrame 0x82 f.reqId f.key 0 st [] 0) s.vault fl [] s
    (s.dev.pwr.flashWp = true →
      Answers (.write source raw) s fun t => t.dev.obj 0x20000B = s.dev.obj 0x20000B ∧ answer stPerm s.flash t) ∧
    (s.dev.pwr.flashWp = false → (∀ o : ObjRow, objRow 0x20000B = some o → o.valueOk f.data = true) →
      Answers (.write source raw) s fun t =>
        t.dev.obj 0x20000B = f.data ∧ answer stOk (s.flash.lay (Table.ins s.flash.storedEntries 0x20000B f.data)) t)

/-- An event is written to the ring of its class unless that is full, which is counted; no unconsumed record is overwritten. (R329) -/
def Obligations.EventsGoToTheirRings : Prop :=
  ∀ (d : Dev) (cls status source : Nat) (detail : List Nat), cls < 20 →
    let r := d.get (F.HST_EVMAP_RING cls)
    let size := 2 ^ (d.get (F.HST_EVR_CTL_LOG2 r) + 4)
    let pi := d.get (F.HST_EVR_IDX_PI r)
    let ci := d.get (F.HST_EVR_IDX_CI r)
    let waiting := (pi + 2 ^ 32 - ci) % 2 ^ 32
    let base := d.get (F.HST_EVR_BASE_PA r)
    let slot := base + 64 * (pi % size)
    let record := (⟨cls, status, source, d.get F.RAS_EVSEQ_NEXT, d.tnStamp, d.time, detail⟩ : Event).bytes
    let vector := d.get (F.HST_EVR_CTL_VECTOR r)
    let t := d.raise cls status source detail
    r < 64 ∧
    (d.on (F.HST_EVR_CTL_EN r) = true → waiting < size → (isHost slot = true → d.on F.HST_LINK_BME = true) →
      record.length = 64 ∧ (∀ i < 64, t.mem.byte (slot + i) = record.getD i 0#8) ∧
        (∀ x : Nat, x < slot ∨ slot + 64 ≤ x → t.mem.byte x = d.mem.byte x) ∧
        (∀ k i : Nat, k < waiting → i < 64 → t.mem.byte (base + 64 * ((ci + k) % size) + i) = d.mem.byte (base + 64 * ((ci + k) % size) + i)) ∧
        t.get (F.HST_EVR_IDX_PI r) = (pi + 1) % 2 ^ 32 ∧ t.get (F.HST_EVR_CTL_LOST r) = d.get (F.HST_EVR_CTL_LOST r) ∧
        t.get (F.HST_EVR_CTL_OVF r) = d.get (F.HST_EVR_CTL_OVF r) ∧
        (if d.host.msix then Out.msix vector ∈ t.outs else vector ∈ t.host.pendingVectors)) ∧
    (d.on (F.HST_EVR_CTL_EN r) = true → size ≤ waiting →
      t.get (F.HST_EVR_CTL_LOST r) = min (2 ^ 16 - 1) (d.get (F.HST_EVR_CTL_LOST r) + 1) ∧ t.get (F.HST_EVR_CTL_OVF r) = 1 ∧
        t.get (F.HST_EVR_IDX_PI r) = pi ∧ t.mem = d.mem)
end

