-- ==== Sys2Proof/Decode.lean ====
section
/-! DEFINITION. Commands spelt by words. The table gives no row any bits, so no word spells a command. -/

namespace Sys2Proof

/-- The command a word spells by the table's bits: none, since spec/opcode_table.json gives every row an empty list of
fields. -/
def decodeTableWord (_nbits _w : Nat) : Option Instr := none

end Sys2Proof
end

