-- ==== Sys2Proof/Laws/Tables.lean ====
section
/-! SUPPORT. Laws of tables and of register fields: what a table reads after an entry is written or taken out, and what a field reads
after fields are written. They hold of every table, sorted or not. -/

namespace Sys2Proof.Machine

open Sys2Proof

theorem table_get_ins_same {α : Type} (d : Nat → α) (t : Table α) (k : Nat) (v : α) : Table.get d (Table.ins t k v) k = v := by
  induction t with
  | nil => simp [Table.ins, Table.get]
  | cons x r ih =>
    obtain ⟨j, w⟩ := x
    simp only [Table.ins]
    split
    · simp [Table.get]
    · split
      · simp [Table.get]
      · rename_i h1 h2
        simp only [Table.get, h1, h2, if_false]
        exact ih

theorem table_get_ins_ne {α : Type} (d : Nat → α) (t : Table α) (k k' : Nat) (v : α) (h : k' ≠ k) :
    Table.get d (Table.ins t k v) k' = Table.get d t k' := by
  induction t with
  | nil =>
    simp only [Table.ins, Table.get]
    split
    · rfl
    · split
      · omega
      · rfl
  | cons x r ih =>
    obtain ⟨j, w⟩ := x
    simp only [Table.ins]
    split
    · rename_i h1
      simp only [Table.get]
      split
      · have : k' < j := by omega
        simp [this]
      · split
        · omega
        · rfl
    · split
      · rename_i h1 h2
        subst h2
        simp only [Table.get]
        split
        · rfl
        · split
          · omega
          · rfl
      · rename_i h1 h2
        simp only [Table.get]
        split
        · rfl
        · split
          · rfl
          · exact ih

theorem table_get_dropLe {α : Type} (d : Nat → α) (t : Table α) (k k' : Nat) (h : k < k') :
    Table.get d (Table.dropLe t k) k' = Table.get d t k' := by
  induction t with
  | nil => rfl
  | cons x r ih =>
    obtain ⟨j, w⟩ := x
    simp only [Table.dropLe]
    split
    · rename_i h1
      rw [ih]
      have h2 : ¬ k' < j := by omega
      have h3 : ¬ j = k' := by omega
      simp [Table.get, h2, h3]
    · rfl

theorem table_get_dropLe_low {α : Type} (d : Nat → α) (t : Table α) (k k' : Nat) (h : k' ≤ k) :
    Table.get d (Table.dropLe t k) k' = d k' := by
  induction t with
  | nil => rfl
  | cons x r ih =>
    obtain ⟨j, w⟩ := x
    simp only [Table.dropLe]
    split
    · exact ih
    · rename_i h1
      have h2 : k' < j := by omega
      simp [Table.get, h2]

theorem table_get_del_same {α : Type} (d : Nat → α) (t : Table α) (k : Nat) : Table.get d (Table.del t k) k = d k := by
  induction t with
  | nil => rfl
  | cons x r ih =>
    obtain ⟨j, w⟩ := x
    simp only [Table.del]
    split
    · rename_i h1
      simp [Table.get, h1]
    · split
      · exact table_get_dropLe_low d r k k (Nat.le_refl k)
      · rename_i h1 h2
        simp only [Table.get, h1, h2, if_false]
        exact ih

theorem table_get_del_ne {α : Type} (d : Nat → α) (t : Table α) (k k' : Nat) (h : k' ≠ k) :
    Table.get d (Table.del t k) k' = Table.get d t k' := by
  induction t with
  | nil => rfl
  | cons x r ih =>
    obtain ⟨j, w⟩ := x
    simp only [Table.del]
    split
    · rfl
    · split
      · rename_i h1 h2
        subst h2
        by_cases h3 : k' < j
        · rw [table_get_dropLe_low d r j k' (by omega)]
          simp [Table.get, h3]
        · rw [table_get_dropLe d r j k' (by omega)]
          have h4 : ¬ j = k' := by omega
          simp [Table.get, h3, h4]
      · simp only [Table.get]
        split
        · rfl
        · split
          · rfl
          · exact ih

theorem table_get_set_same {α : Type} [DecidableEq α] (d : Nat → α) (t : Table α) (k : Nat) (v : α) :
    Table.get d (Table.set d t k v) k = v := by
  unfold Table.set
  split
  · rename_i h
    rw [table_get_del_same, h]
  · exact table_get_ins_same d t k v

theorem table_get_set_ne {α : Type} [DecidableEq α] (d : Nat → α) (t : Table α) (k k' : Nat) (v : α) (h : k' ≠ k) :
    Table.get d (Table.set d t k v) k' = Table.get d t k' := by
  unfold Table.set
  split
  · exact table_get_del_ne d t k k' h
  · exact table_get_ins_ne d t k k' v h

/-- The one lemma of a table's write. -/
theorem table_get_set {α : Type} [DecidableEq α] (d : Nat → α) (t : Table α) (k k' : Nat) (v : α) :
    Table.get d (Table.set d t k v) k' = if k' = k then v else Table.get d t k' := by
  split
  · rename_i h
    rw [h]
    exact table_get_set_same d t k v
  · rename_i h
    exact table_get_set_ne d t k k' v h

/-! ### Rising keys -/

theorem rising_mono {α : Type} (t : Table α) : ∀ a b : Nat, a ≤ b → Table.rising b t = true → Table.rising a t = true := by
  cases t with
  | nil => intro a b _ _; rfl
  | cons x r =>
    obtain ⟨j, w⟩ := x
    intro a b hab h
    simp only [Table.rising, Bool.and_eq_true, decide_eq_true_eq] at *
    exact ⟨by omega, h.2⟩

theorem rising_dropLe {α : Type} (t : Table α) (k : Nat) : ∀ a : Nat, Table.rising a t = true → Table.rising a (Table.dropLe t k) = true := by
  induction t with
  | nil => intro a h; exact h
  | cons x r ih =>
    obtain ⟨j, w⟩ := x
    intro a h
    simp only [Table.dropLe]
    split
    · simp only [Table.rising, Bool.and_eq_true, decide_eq_true_eq] at h
      exact ih a (rising_mono r a (j + 1) (by omega) h.2)
    · exact h

theorem rising_del {α : Type} (t : Table α) (k : Nat) : ∀ a : Nat, Table.rising a t = true → Table.rising a (Table.del t k) = true := by
  induction t with
  | nil => intro a h; exact h
  | cons x r ih =>
    obtain ⟨j, w⟩ := x
    intro a h
    simp only [Table.del]
    have h0 := h
    simp only [Table.rising, Bool.and_eq_true, decide_eq_true_eq] at h
    split
    · exact h0
    · split
      · exact rising_mono _ a (j + 1) (by omega) (rising_dropLe r k (j + 1) h.2)
      · simp only [Table.rising, Bool.and_eq_true, decide_eq_true_eq]
        exact ⟨h.1, ih (j + 1) h.2⟩

theorem rising_ins {α : Type} (t : Table α) (k : Nat) (v : α) :
    ∀ a : Nat, a ≤ k → Table.rising a t = true → Table.rising a (Table.ins t k v) = true := by
  induction t with
  | nil => intro a hk _; simp [Table.ins, Table.rising, hk]
  | cons x r ih =>
    obtain ⟨j, w⟩ := x
    intro a hk h
    simp only [Table.rising, Bool.and_eq_true, decide_eq_true_eq] at h
    simp only [Table.ins]
    split
    · rename_i h1
      simp only [Table.rising, Bool.and_eq_true, decide_eq_true_eq]
      exact ⟨hk, by omega, h.2⟩
    · split
      · rename_i h1 h2
        subst h2
        simp only [Table.rising, Bool.and_eq_true, decide_eq_true_eq]
        exact h
      · rename_i h1 h2
        simp only [Table.rising, Bool.and_eq_true, decide_eq_true_eq]
        exact ⟨h.1, ih (j + 1) (by omega) h.2⟩

/-! ### Register fields -/

/-- A field never reads more than its width holds. -/
theorem get_lt (d : Dev) (f : Fld) : d.get f < 2 ^ f.w := Nat.mod_lt _ (Nat.two_pow_pos f.w)

/-- What a field reads after a field was written. -/
theorem get_put (d : Dev) (f g : Fld) (v : Nat) :
    (d.put f v).get g = if g.key = f.key then v % 2 ^ f.w % 2 ^ g.w else d.get g := by
  unfold Dev.put Dev.get
  simp only [table_get_set]
  split
  · rfl
  · rfl

/-- A field reads what was written to it, cut to its width. -/
theorem get_put_same (d : Dev) (f : Fld) (v : Nat) : (d.put f v).get f = v % 2 ^ f.w := by simp [get_put]

/-- Another field reads as before. -/
theorem get_put_ne (d : Dev) (f g : Fld) (v : Nat) (h : g.key ≠ f.key) : (d.put f v).get g = d.get g := by simp [get_put, h]

/-- A field that none of a list of writes names is unchanged. -/
theorem get_puts_ne (l : List (Fld × Nat)) (g : Fld) : ∀ d : Dev, (∀ x ∈ l, g.key ≠ x.1.key) → (d.puts l).get g = d.get g := by
  induction l with
  | nil => intro d _; rfl
  | cons x r ih =>
    intro d h
    obtain ⟨f, v⟩ := x
    simp only [Dev.puts]
    rw [ih (d.put f v) (fun y hy => h y (List.mem_cons_of_mem _ hy))]
    exact get_put_ne d f g v (h (f, v) List.mem_cons_self)

theorem puts_nil (d : Dev) : d.puts [] = d := rfl

theorem puts_cons (d : Dev) (f : Fld) (v : Nat) (r : List (Fld × Nat)) : d.puts ((f, v) :: r) = (d.put f v).puts r := rfl

theorem puts_append (l m : List (Fld × Nat)) : ∀ d : Dev, d.puts (l ++ m) = (d.puts l).puts m := by
  induction l with
  | nil => intro d; rfl
  | cons x r ih => intro d; obtain ⟨f, v⟩ := x; exact ih (d.put f v)

/-- A counter saturates at its width; every other field is unchanged. -/
theorem get_bump (d : Dev) (f g : Fld) (n : Nat) :
    (d.bump f n).get g = if g.key = f.key then min (2 ^ f.w - 1) (d.get f + n) % 2 ^ g.w else d.get g := by
  have hp : 0 < 2 ^ f.w := Nat.two_pow_pos f.w
  unfold Dev.bump
  rw [get_put]
  split
  · unfold satTo
    split
    · rename_i h2
      rw [Nat.mod_eq_of_lt (a := d.get f + n) (by omega), Nat.min_eq_right h2]
    · rename_i h2
      rw [Nat.mod_eq_of_lt (a := 2 ^ f.w - 1) (by omega), Nat.min_eq_left (by omega)]
  · rfl

end Sys2Proof.Machine
end

