-- ==== Sys2Proof/Laws/Memory.lean ====
section
/-! SUPPORT. Laws of memory: what a byte reads after a write or after contents are lost, and that every memory operation keeps the canonical
form. -/

namespace Sys2Proof.Machine

open Sys2Proof

@[simp] theorem write1_fogOf (m : Mem) (a : Nat) (b : Byte) (x : Nat) : (m.write1 a b).fogOf x = m.fogOf x := rfl

@[simp] theorem write1_blank (m : Mem) (a : Nat) (b : Byte) : (m.write1 a b).blank = m.blank := by
  funext x
  simp [Mem.blank]

/-- A byte reads as written; every other byte reads as before. -/
theorem byte_write1 (m : Mem) (a x : Nat) (b : Byte) : (m.write1 a b).byte x = if x = a then b else m.byte x := by
  unfold Mem.byte
  rw [write1_blank]
  unfold Mem.write1
  split
  · rename_i h
    simp only [Bool.and_eq_true, Option.isNone_iff_eq_none, beq_iff_eq] at h
    split
    · rename_i hx
      subst hx
      rw [table_get_del_same, Mem.blank, h.1, h.2]
    · rename_i hx
      exact table_get_del_ne _ _ _ _ hx
  · split
    · rename_i hx
      subst hx
      exact table_get_ins_same _ _ _ _
    · rename_i hx
      exact table_get_ins_ne _ _ _ _ _ hx

/-- The bytes of a write read as written; every other byte reads as before. -/
theorem byte_write (l : List Byte) : ∀ (m : Mem) (a x : Nat),
    (m.write a l).byte x = if a ≤ x ∧ x < a + l.length then l.getD (x - a) 0#8 else m.byte x := by
  induction l with
  | nil =>
    intro m a x
    have h : ¬ (a ≤ x ∧ x < a + ([] : List Byte).length) := by simp
    rw [if_neg h]
    rfl
  | cons b r ih =>
    intro m a x
    simp only [Mem.write]
    rw [ih, byte_write1]
    simp only [List.length_cons]
    by_cases hx : x = a
    · subst hx
      have h1 : ¬ (x + 1 ≤ x ∧ x < x + 1 + r.length) := by omega
      have h2 : x ≤ x ∧ x < x + (r.length + 1) := by omega
      rw [if_neg h1, if_pos h2, if_pos rfl, Nat.sub_self]
      rfl
    · by_cases hin : a + 1 ≤ x ∧ x < a + 1 + r.length
      · have h2 : a ≤ x ∧ x < a + (r.length + 1) := by omega
        rw [if_pos hin, if_pos h2]
        have h3 : x - a = (x - (a + 1)) + 1 := by omega
        rw [h3]
        simp
      · have h2 : ¬ (a ≤ x ∧ x < a + (r.length + 1)) := by omega
        rw [if_neg hin, if_neg h2, if_neg hx]

/-- A write leaves every byte outside it alone. -/
theorem byte_write_outside (m : Mem) (a x : Nat) (l : List Byte) (h : x < a ∨ a + l.length ≤ x) : (m.write a l).byte x = m.byte x := by
  rw [byte_write]
  split
  · omega
  · rfl

/-! ### The canonical form -/

theorem mem_ins {α : Type} (t : Table α) (k : Nat) (v : α) (c : Nat × α) (h : c ∈ Table.ins t k v) : c = (k, v) ∨ c ∈ t := by
  induction t with
  | nil =>
    simp only [Table.ins, List.mem_singleton] at h
    exact Or.inl h
  | cons x r ih =>
    obtain ⟨j, w⟩ := x
    simp only [Table.ins] at h
    split at h
    · simpa using h
    · split at h
      · rename_i h1 h2
        rcases List.mem_cons.mp h with h | h
        · exact Or.inl h
        · exact Or.inr (List.mem_cons_of_mem _ h)
      · rcases List.mem_cons.mp h with h | h
        · exact Or.inr (h ▸ List.mem_cons_self)
        · rcases ih h with h | h
          · exact Or.inl h
          · exact Or.inr (List.mem_cons_of_mem _ h)

theorem mem_dropLe {α : Type} (t : Table α) (k : Nat) (c : Nat × α) (h : c ∈ Table.dropLe t k) : c ∈ t := by
  induction t with
  | nil => exact h
  | cons x r ih =>
    obtain ⟨j, w⟩ := x
    simp only [Table.dropLe] at h
    split at h
    · exact List.mem_cons_of_mem _ (ih h)
    · exact h

theorem mem_del {α : Type} (t : Table α) (k : Nat) (c : Nat × α) (h : c ∈ Table.del t k) : c ∈ t := by
  induction t with
  | nil => exact h
  | cons x r ih =>
    obtain ⟨j, w⟩ := x
    simp only [Table.del] at h
    split at h
    · exact h
    · split at h
      · exact List.mem_cons_of_mem _ (mem_dropLe r k c h)
      · rcases List.mem_cons.mp h with h | h
        · exact h ▸ List.mem_cons_self
        · exact List.mem_cons_of_mem _ (ih h)

/-- Writing a byte keeps the canonical form. -/
theorem write1_wf (m : Mem) (a : Nat) (b : Byte) (h : m.wf = true) : (m.write1 a b).wf = true := by
  simp only [Mem.wf, Bool.and_eq_true] at h ⊢
  obtain ⟨h1, h2⟩ := h
  simp only [Mem.cellsTight, List.all_eq_true, write1_fogOf] at h2 ⊢
  unfold Mem.write1
  split
  · exact ⟨rising_del _ _ _ h1, fun c hc => h2 c (mem_del _ _ c hc)⟩
  · rename_i hb
    refine ⟨rising_ins _ _ _ _ (Nat.zero_le a) h1, fun c hc => ?_⟩
    rcases mem_ins _ _ _ c hc with rfl | hc
    · cases hf : m.fogOf a with
      | some f => simp
      | none =>
        rw [hf] at hb
        simpa using hb
    · exact h2 c hc

/-- Writing bytes keeps the canonical form. -/
theorem write_wf (l : List Byte) : ∀ (m : Mem) (a : Nat), m.wf = true → (m.write a l).wf = true := by
  induction l with
  | nil => intro m a h; exact h
  | cons b r ih => intro m a h; exact ih _ _ (write1_wf m a b h)

theorem rising_filter {α : Type} (p : Nat × α → Bool) (t : Table α) :
    ∀ a : Nat, Table.rising a t = true → Table.rising a (t.filter p : Table α) = true := by
  induction t with
  | nil => intro a h; exact h
  | cons x r ih =>
    obtain ⟨j, w⟩ := x
    intro a h
    simp only [Table.rising, Bool.and_eq_true, decide_eq_true_eq] at h
    cases hp : p (j, w) with
    | true =>
      rw [List.filter_cons_of_pos hp]
      simp only [Table.rising, Bool.and_eq_true, decide_eq_true_eq]
      exact ⟨h.1, ih (j + 1) h.2⟩
    | false =>
      rw [List.filter_cons_of_neg (by simp [hp])]
      exact ih a (rising_mono r a (j + 1) (by omega) h.2) |> fun t => t

/-- Outside the range the first fog that covers an address is the one that covered it before. -/
theorem blur_fogOf (m : Mem) (lo hi stamp x : Nat) (h : x < lo ∨ hi ≤ x) : (m.blur lo hi stamp).fogOf x = m.fogOf x := by
  unfold Mem.blur Mem.fogOf
  simp only
  rw [List.find?_cons_of_neg (by simp; omega)]
  induction m.fogs with
  | nil => rfl
  | cons f r ih =>
    by_cases hf : lo ≤ f.lo ∧ f.hi ≤ hi
    · rw [List.filter_cons_of_neg (by simp [hf]), ih]
      rw [List.find?_cons_of_neg]
      simp
      omega
    · rw [List.filter_cons_of_pos (by simp; omega)]
      simp only [List.find?_cons]
      split
      · rfl
      · exact ih

/-- Losing contents keeps the canonical form. -/
theorem blur_wf (m : Mem) (lo hi stamp : Nat) (h : m.wf = true) : (m.blur lo hi stamp).wf = true := by
  simp only [Mem.wf, Bool.and_eq_true] at h ⊢
  obtain ⟨h1, h2⟩ := h
  refine ⟨rising_filter _ _ _ h1, ?_⟩
  simp only [Mem.cellsTight, List.all_eq_true] at h2 ⊢
  intro c hc
  have hc2 : c ∈ m.cells ∧ (c.1 < lo ∨ hi ≤ c.1) := by
    simpa [Mem.blur, List.mem_filter] using hc
  rw [blur_fogOf m lo hi stamp c.1 hc2.2]
  exact h2 c hc2.1

/-- Memory after reset is in canonical form. -/
theorem reset_mem_wf : Mem.reset.wf = true := by decide

/-- A write of device memory changes the bytes it names and no other. -/
theorem dev_write_byte (d : Dev) (pa x : Nat) (l : List Byte) :
    (d.write pa l).mem.byte x = if pa ≤ x ∧ x < pa + l.length then l.getD (x - pa) 0#8 else d.mem.byte x := by
  exact byte_write l d.mem pa x

/-- It keeps the canonical form. -/
theorem dev_write_wf (d : Dev) (pa : Nat) (l : List Byte) (h : d.mem.wf = true) : (d.write pa l).mem.wf = true :=
  write_wf l d.mem pa h

/-- A read lists the bytes from its address upward. -/
theorem read_getD (m : Mem) (a n i : Nat) (h : i < n) : (m.read a n).getD i 0#8 = m.byte (a + i) := by
  simp [Mem.read, h]

end Sys2Proof.Machine
end

