-- ==== Sys2Proof/Laws/State.lean ====
section
/-! SUPPORT. One law for each field of the device under each named update: what the update leaves alone. -/

namespace Sys2Proof.Machine

open Sys2Proof

/-! ### Dev.put -/

@[simp] theorem put_objs (d : Dev) (f : Fld) (v : Nat) : (d.put f v).objs = d.objs := rfl
@[simp] theorem put_mem (d : Dev) (f : Fld) (v : Nat) : (d.put f v).mem = d.mem := rfl
@[simp] theorem put_sram (d : Dev) (f : Fld) (v : Nat) : (d.put f v).sram = d.sram := rfl
@[simp] theorem put_time (d : Dev) (f : Fld) (v : Nat) : (d.put f v).time = d.time := rfl
@[simp] theorem put_fresh (d : Dev) (f : Fld) (v : Nat) : (d.put f v).fresh = d.fresh := rfl
@[simp] theorem put_events (d : Dev) (f : Fld) (v : Nat) : (d.put f v).events = d.events := rfl
@[simp] theorem put_outs (d : Dev) (f : Fld) (v : Nat) : (d.put f v).outs = d.outs := rfl
@[simp] theorem put_tick (d : Dev) (f : Fld) (v : Nat) : (d.put f v).tick = d.tick := rfl
@[simp] theorem put_parts (d : Dev) (f : Fld) (v : Nat) : (d.put f v).parts = d.parts := rfl
@[simp] theorem put_clus (d : Dev) (f : Fld) (v : Nat) : (d.put f v).clus = d.clus := rfl
@[simp] theorem put_plz (d : Dev) (f : Fld) (v : Nat) : (d.put f v).plz = d.plz := rfl
@[simp] theorem put_tier (d : Dev) (f : Fld) (v : Nat) : (d.put f v).tier = d.tier := rfl
@[simp] theorem put_rbt (d : Dev) (f : Fld) (v : Nat) : (d.put f v).rbt = d.rbt := rfl
@[simp] theorem put_dtd (d : Dev) (f : Fld) (v : Nat) : (d.put f v).dtd = d.dtd := rfl
@[simp] theorem put_gate (d : Dev) (f : Fld) (v : Nat) : (d.put f v).gate = d.gate := rfl
@[simp] theorem put_square (d : Dev) (f : Fld) (v : Nat) : (d.put f v).square = d.square := rfl
@[simp] theorem put_host (d : Dev) (f : Fld) (v : Nat) : (d.put f v).host = d.host := rfl
@[simp] theorem put_arb (d : Dev) (f : Fld) (v : Nat) : (d.put f v).arb = d.arb := rfl
@[simp] theorem put_ctl (d : Dev) (f : Fld) (v : Nat) : (d.put f v).ctl = d.ctl := rfl
@[simp] theorem put_pwr (d : Dev) (f : Fld) (v : Nat) : (d.put f v).pwr = d.pwr := rfl

/-! ### Dev.bump -/

@[simp] theorem bump_objs (d : Dev) (f : Fld) (n : Nat) : (d.bump f n).objs = d.objs := rfl
@[simp] theorem bump_mem (d : Dev) (f : Fld) (n : Nat) : (d.bump f n).mem = d.mem := rfl
@[simp] theorem bump_sram (d : Dev) (f : Fld) (n : Nat) : (d.bump f n).sram = d.sram := rfl
@[simp] theorem bump_time (d : Dev) (f : Fld) (n : Nat) : (d.bump f n).time = d.time := rfl
@[simp] theorem bump_fresh (d : Dev) (f : Fld) (n : Nat) : (d.bump f n).fresh = d.fresh := rfl
@[simp] theorem bump_events (d : Dev) (f : Fld) (n : Nat) : (d.bump f n).events = d.events := rfl
@[simp] theorem bump_outs (d : Dev) (f : Fld) (n : Nat) : (d.bump f n).outs = d.outs := rfl
@[simp] theorem bump_tick (d : Dev) (f : Fld) (n : Nat) : (d.bump f n).tick = d.tick := rfl
@[simp] theorem bump_parts (d : Dev) (f : Fld) (n : Nat) : (d.bump f n).parts = d.parts := rfl
@[simp] theorem bump_clus (d : Dev) (f : Fld) (n : Nat) : (d.bump f n).clus = d.clus := rfl
@[simp] theorem bump_plz (d : Dev) (f : Fld) (n : Nat) : (d.bump f n).plz = d.plz := rfl
@[simp] theorem bump_tier (d : Dev) (f : Fld) (n : Nat) : (d.bump f n).tier = d.tier := rfl
@[simp] theorem bump_rbt (d : Dev) (f : Fld) (n : Nat) : (d.bump f n).rbt = d.rbt := rfl
@[simp] theorem bump_dtd (d : Dev) (f : Fld) (n : Nat) : (d.bump f n).dtd = d.dtd := rfl
@[simp] theorem bump_gate (d : Dev) (f : Fld) (n : Nat) : (d.bump f n).gate = d.gate := rfl
@[simp] theorem bump_square (d : Dev) (f : Fld) (n : Nat) : (d.bump f n).square = d.square := rfl
@[simp] theorem bump_host (d : Dev) (f : Fld) (n : Nat) : (d.bump f n).host = d.host := rfl
@[simp] theorem bump_arb (d : Dev) (f : Fld) (n : Nat) : (d.bump f n).arb = d.arb := rfl
@[simp] theorem bump_ctl (d : Dev) (f : Fld) (n : Nat) : (d.bump f n).ctl = d.ctl := rfl
@[simp] theorem bump_pwr (d : Dev) (f : Fld) (n : Nat) : (d.bump f n).pwr = d.pwr := rfl

/-! ### Dev.emit -/

@[simp] theorem emit_regs (d : Dev) (o : Out) : (d.emit o).regs = d.regs := rfl
@[simp] theorem emit_objs (d : Dev) (o : Out) : (d.emit o).objs = d.objs := rfl
@[simp] theorem emit_mem (d : Dev) (o : Out) : (d.emit o).mem = d.mem := rfl
@[simp] theorem emit_sram (d : Dev) (o : Out) : (d.emit o).sram = d.sram := rfl
@[simp] theorem emit_time (d : Dev) (o : Out) : (d.emit o).time = d.time := rfl
@[simp] theorem emit_fresh (d : Dev) (o : Out) : (d.emit o).fresh = d.fresh := rfl
@[simp] theorem emit_events (d : Dev) (o : Out) : (d.emit o).events = d.events := rfl
@[simp] theorem emit_tick (d : Dev) (o : Out) : (d.emit o).tick = d.tick := rfl
@[simp] theorem emit_parts (d : Dev) (o : Out) : (d.emit o).parts = d.parts := rfl
@[simp] theorem emit_clus (d : Dev) (o : Out) : (d.emit o).clus = d.clus := rfl
@[simp] theorem emit_plz (d : Dev) (o : Out) : (d.emit o).plz = d.plz := rfl
@[simp] theorem emit_tier (d : Dev) (o : Out) : (d.emit o).tier = d.tier := rfl
@[simp] theorem emit_rbt (d : Dev) (o : Out) : (d.emit o).rbt = d.rbt := rfl
@[simp] theorem emit_dtd (d : Dev) (o : Out) : (d.emit o).dtd = d.dtd := rfl
@[simp] theorem emit_gate (d : Dev) (o : Out) : (d.emit o).gate = d.gate := rfl
@[simp] theorem emit_square (d : Dev) (o : Out) : (d.emit o).square = d.square := rfl
@[simp] theorem emit_host (d : Dev) (o : Out) : (d.emit o).host = d.host := rfl
@[simp] theorem emit_arb (d : Dev) (o : Out) : (d.emit o).arb = d.arb := rfl
@[simp] theorem emit_ctl (d : Dev) (o : Out) : (d.emit o).ctl = d.ctl := rfl
@[simp] theorem emit_pwr (d : Dev) (o : Out) : (d.emit o).pwr = d.pwr := rfl
@[simp] theorem emit_get (d : Dev) (o : Out) (z : Fld) : (d.emit o).get z = d.get z := rfl

/-! ### Dev.setPart -/

@[simp] theorem setPart_regs (d : Dev) (p : Nat) (x : PartSt) : (d.setPart p x).regs = d.regs := rfl
@[simp] theorem setPart_objs (d : Dev) (p : Nat) (x : PartSt) : (d.setPart p x).objs = d.objs := rfl
@[simp] theorem setPart_mem (d : Dev) (p : Nat) (x : PartSt) : (d.setPart p x).mem = d.mem := rfl
@[simp] theorem setPart_sram (d : Dev) (p : Nat) (x : PartSt) : (d.setPart p x).sram = d.sram := rfl
@[simp] theorem setPart_time (d : Dev) (p : Nat) (x : PartSt) : (d.setPart p x).time = d.time := rfl
@[simp] theorem setPart_fresh (d : Dev) (p : Nat) (x : PartSt) : (d.setPart p x).fresh = d.fresh := rfl
@[simp] theorem setPart_events (d : Dev) (p : Nat) (x : PartSt) : (d.setPart p x).events = d.events := rfl
@[simp] theorem setPart_outs (d : Dev) (p : Nat) (x : PartSt) : (d.setPart p x).outs = d.outs := rfl
@[simp] theorem setPart_tick (d : Dev) (p : Nat) (x : PartSt) : (d.setPart p x).tick = d.tick := rfl
@[simp] theorem setPart_clus (d : Dev) (p : Nat) (x : PartSt) : (d.setPart p x).clus = d.clus := rfl
@[simp] theorem setPart_plz (d : Dev) (p : Nat) (x : PartSt) : (d.setPart p x).plz = d.plz := rfl
@[simp] theorem setPart_tier (d : Dev) (p : Nat) (x : PartSt) : (d.setPart p x).tier = d.tier := rfl
@[simp] theorem setPart_rbt (d : Dev) (p : Nat) (x : PartSt) : (d.setPart p x).rbt = d.rbt := rfl
@[simp] theorem setPart_dtd (d : Dev) (p : Nat) (x : PartSt) : (d.setPart p x).dtd = d.dtd := rfl
@[simp] theorem setPart_gate (d : Dev) (p : Nat) (x : PartSt) : (d.setPart p x).gate = d.gate := rfl
@[simp] theorem setPart_square (d : Dev) (p : Nat) (x : PartSt) : (d.setPart p x).square = d.square := rfl
@[simp] theorem setPart_host (d : Dev) (p : Nat) (x : PartSt) : (d.setPart p x).host = d.host := rfl
@[simp] theorem setPart_arb (d : Dev) (p : Nat) (x : PartSt) : (d.setPart p x).arb = d.arb := rfl
@[simp] theorem setPart_ctl (d : Dev) (p : Nat) (x : PartSt) : (d.setPart p x).ctl = d.ctl := rfl
@[simp] theorem setPart_pwr (d : Dev) (p : Nat) (x : PartSt) : (d.setPart p x).pwr = d.pwr := rfl
@[simp] theorem setPart_get (d : Dev) (p : Nat) (x : PartSt) (z : Fld) : (d.setPart p x).get z = d.get z := rfl

/-! ### Dev.setObj -/

@[simp] theorem setObj_regs (d : Dev) (k : Nat) (v : List Byte) : (d.setObj k v).regs = d.regs := rfl
@[simp] theorem setObj_mem (d : Dev) (k : Nat) (v : List Byte) : (d.setObj k v).mem = d.mem := rfl
@[simp] theorem setObj_sram (d : Dev) (k : Nat) (v : List Byte) : (d.setObj k v).sram = d.sram := rfl
@[simp] theorem setObj_time (d : Dev) (k : Nat) (v : List Byte) : (d.setObj k v).time = d.time := rfl
@[simp] theorem setObj_fresh (d : Dev) (k : Nat) (v : List Byte) : (d.setObj k v).fresh = d.fresh := rfl
@[simp] theorem setObj_events (d : Dev) (k : Nat) (v : List Byte) : (d.setObj k v).events = d.events := rfl
@[simp] theorem setObj_outs (d : Dev) (k : Nat) (v : List Byte) : (d.setObj k v).outs = d.outs := rfl
@[simp] theorem setObj_tick (d : Dev) (k : Nat) (v : List Byte) : (d.setObj k v).tick = d.tick := rfl
@[simp] theorem setObj_parts (d : Dev) (k : Nat) (v : List Byte) : (d.setObj k v).parts = d.parts := rfl
@[simp] theorem setObj_clus (d : Dev) (k : Nat) (v : List Byte) : (d.setObj k v).clus = d.clus := rfl
@[simp] theorem setObj_plz (d : Dev) (k : Nat) (v : List Byte) : (d.setObj k v).plz = d.plz := rfl
@[simp] theorem setObj_tier (d : Dev) (k : Nat) (v : List Byte) : (d.setObj k v).tier = d.tier := rfl
@[simp] theorem setObj_rbt (d : Dev) (k : Nat) (v : List Byte) : (d.setObj k v).rbt = d.rbt := rfl
@[simp] theorem setObj_dtd (d : Dev) (k : Nat) (v : List Byte) : (d.setObj k v).dtd = d.dtd := rfl
@[simp] theorem setObj_gate (d : Dev) (k : Nat) (v : List Byte) : (d.setObj k v).gate = d.gate := rfl
@[simp] theorem setObj_square (d : Dev) (k : Nat) (v : List Byte) : (d.setObj k v).square = d.square := rfl
@[simp] theorem setObj_host (d : Dev) (k : Nat) (v : List Byte) : (d.setObj k v).host = d.host := rfl
@[simp] theorem setObj_arb (d : Dev) (k : Nat) (v : List Byte) : (d.setObj k v).arb = d.arb := rfl
@[simp] theorem setObj_ctl (d : Dev) (k : Nat) (v : List Byte) : (d.setObj k v).ctl = d.ctl := rfl
@[simp] theorem setObj_pwr (d : Dev) (k : Nat) (v : List Byte) : (d.setObj k v).pwr = d.pwr := rfl
@[simp] theorem setObj_get (d : Dev) (k : Nat) (v : List Byte) (z : Fld) : (d.setObj k v).get z = d.get z := rfl

/-! ### Dev.setPort -/

@[simp] theorem setPort_regs (d : Dev) (p : Nat) (x : PortSt) : (d.setPort p x).regs = d.regs := rfl
@[simp] theorem setPort_objs (d : Dev) (p : Nat) (x : PortSt) : (d.setPort p x).objs = d.objs := rfl
@[simp] theorem setPort_mem (d : Dev) (p : Nat) (x : PortSt) : (d.setPort p x).mem = d.mem := rfl
@[simp] theorem setPort_sram (d : Dev) (p : Nat) (x : PortSt) : (d.setPort p x).sram = d.sram := rfl
@[simp] theorem setPort_time (d : Dev) (p : Nat) (x : PortSt) : (d.setPort p x).time = d.time := rfl
@[simp] theorem setPort_fresh (d : Dev) (p : Nat) (x : PortSt) : (d.setPort p x).fresh = d.fresh := rfl
@[simp] theorem setPort_events (d : Dev) (p : Nat) (x : PortSt) : (d.setPort p x).events = d.events := rfl
@[simp] theorem setPort_outs (d : Dev) (p : Nat) (x : PortSt) : (d.setPort p x).outs = d.outs := rfl
@[simp] theorem setPort_tick (d : Dev) (p : Nat) (x : PortSt) : (d.setPort p x).tick = d.tick := rfl
@[simp] theorem setPort_parts (d : Dev) (p : Nat) (x : PortSt) : (d.setPort p x).parts = d.parts := rfl
@[simp] theorem setPort_clus (d : Dev) (p : Nat) (x : PortSt) : (d.setPort p x).clus = d.clus := rfl
@[simp] theorem setPort_plz (d : Dev) (p : Nat) (x : PortSt) : (d.setPort p x).plz = d.plz := rfl
@[simp] theorem setPort_tier (d : Dev) (p : Nat) (x : PortSt) : (d.setPort p x).tier = d.tier := rfl
@[simp] theorem setPort_rbt (d : Dev) (p : Nat) (x : PortSt) : (d.setPort p x).rbt = d.rbt := rfl
@[simp] theorem setPort_dtd (d : Dev) (p : Nat) (x : PortSt) : (d.setPort p x).dtd = d.dtd := rfl
@[simp] theorem setPort_square (d : Dev) (p : Nat) (x : PortSt) : (d.setPort p x).square = d.square := rfl
@[simp] theorem setPort_host (d : Dev) (p : Nat) (x : PortSt) : (d.setPort p x).host = d.host := rfl
@[simp] theorem setPort_arb (d : Dev) (p : Nat) (x : PortSt) : (d.setPort p x).arb = d.arb := rfl
@[simp] theorem setPort_ctl (d : Dev) (p : Nat) (x : PortSt) : (d.setPort p x).ctl = d.ctl := rfl
@[simp] theorem setPort_pwr (d : Dev) (p : Nat) (x : PortSt) : (d.setPort p x).pwr = d.pwr := rfl
@[simp] theorem setPort_get (d : Dev) (p : Nat) (x : PortSt) (z : Fld) : (d.setPort p x).get z = d.get z := rfl

/-! ### Dev.setLink -/

@[simp] theorem setLink_regs (d : Dev) (l : Nat) (x : LinkSt) : (d.setLink l x).regs = d.regs := rfl
@[simp] theorem setLink_objs (d : Dev) (l : Nat) (x : LinkSt) : (d.setLink l x).objs = d.objs := rfl
@[simp] theorem setLink_mem (d : Dev) (l : Nat) (x : LinkSt) : (d.setLink l x).mem = d.mem := rfl
@[simp] theorem setLink_sram (d : Dev) (l : Nat) (x : LinkSt) : (d.setLink l x).sram = d.sram := rfl
@[simp] theorem setLink_time (d : Dev) (l : Nat) (x : LinkSt) : (d.setLink l x).time = d.time := rfl
@[simp] theorem setLink_fresh (d : Dev) (l : Nat) (x : LinkSt) : (d.setLink l x).fresh = d.fresh := rfl
@[simp] theorem setLink_events (d : Dev) (l : Nat) (x : LinkSt) : (d.setLink l x).events = d.events := rfl
@[simp] theorem setLink_outs (d : Dev) (l : Nat) (x : LinkSt) : (d.setLink l x).outs = d.outs := rfl
@[simp] theorem setLink_tick (d : Dev) (l : Nat) (x : LinkSt) : (d.setLink l x).tick = d.tick := rfl
@[simp] theorem setLink_parts (d : Dev) (l : Nat) (x : LinkSt) : (d.setLink l x).parts = d.parts := rfl
@[simp] theorem setLink_clus (d : Dev) (l : Nat) (x : LinkSt) : (d.setLink l x).clus = d.clus := rfl
@[simp] theorem setLink_plz (d : Dev) (l : Nat) (x : LinkSt) : (d.setLink l x).plz = d.plz := rfl
@[simp] theorem setLink_tier (d : Dev) (l : Nat) (x : LinkSt) : (d.setLink l x).tier = d.tier := rfl
@[simp] theorem setLink_rbt (d : Dev) (l : Nat) (x : LinkSt) : (d.setLink l x).rbt = d.rbt := rfl
@[simp] theorem setLink_gate (d : Dev) (l : Nat) (x : LinkSt) : (d.setLink l x).gate = d.gate := rfl
@[simp] theorem setLink_square (d : Dev) (l : Nat) (x : LinkSt) : (d.setLink l x).square = d.square := rfl
@[simp] theorem setLink_host (d : Dev) (l : Nat) (x : LinkSt) : (d.setLink l x).host = d.host := rfl
@[simp] theorem setLink_arb (d : Dev) (l : Nat) (x : LinkSt) : (d.setLink l x).arb = d.arb := rfl
@[simp] theorem setLink_ctl (d : Dev) (l : Nat) (x : LinkSt) : (d.setLink l x).ctl = d.ctl := rfl
@[simp] theorem setLink_pwr (d : Dev) (l : Nat) (x : LinkSt) : (d.setLink l x).pwr = d.pwr := rfl
@[simp] theorem setLink_get (d : Dev) (l : Nat) (x : LinkSt) (z : Fld) : (d.setLink l x).get z = d.get z := rfl

/-! ### Dev.setQueue -/

@[simp] theorem setQueue_regs (d : Dev) (q : Nat) (x : Option Queue) : (d.setQueue q x).regs = d.regs := rfl
@[simp] theorem setQueue_objs (d : Dev) (q : Nat) (x : Option Queue) : (d.setQueue q x).objs = d.objs := rfl
@[simp] theorem setQueue_mem (d : Dev) (q : Nat) (x : Option Queue) : (d.setQueue q x).mem = d.mem := rfl
@[simp] theorem setQueue_sram (d : Dev) (q : Nat) (x : Option Queue) : (d.setQueue q x).sram = d.sram := rfl
@[simp] theorem setQueue_time (d : Dev) (q : Nat) (x : Option Queue) : (d.setQueue q x).time = d.time := rfl
@[simp] theorem setQueue_fresh (d : Dev) (q : Nat) (x : Option Queue) : (d.setQueue q x).fresh = d.fresh := rfl
@[simp] theorem setQueue_events (d : Dev) (q : Nat) (x : Option Queue) : (d.setQueue q x).events = d.events := rfl
@[simp] theorem setQueue_outs (d : Dev) (q : Nat) (x : Option Queue) : (d.setQueue q x).outs = d.outs := rfl
@[simp] theorem setQueue_tick (d : Dev) (q : Nat) (x : Option Queue) : (d.setQueue q x).tick = d.tick := rfl
@[simp] theorem setQueue_parts (d : Dev) (q : Nat) (x : Option Queue) : (d.setQueue q x).parts = d.parts := rfl
@[simp] theorem setQueue_clus (d : Dev) (q : Nat) (x : Option Queue) : (d.setQueue q x).clus = d.clus := rfl
@[simp] theorem setQueue_plz (d : Dev) (q : Nat) (x : Option Queue) : (d.setQueue q x).plz = d.plz := rfl
@[simp] theorem setQueue_tier (d : Dev) (q : Nat) (x : Option Queue) : (d.setQueue q x).tier = d.tier := rfl
@[simp] theorem setQueue_rbt (d : Dev) (q : Nat) (x : Option Queue) : (d.setQueue q x).rbt = d.rbt := rfl
@[simp] theorem setQueue_dtd (d : Dev) (q : Nat) (x : Option Queue) : (d.setQueue q x).dtd = d.dtd := rfl
@[simp] theorem setQueue_gate (d : Dev) (q : Nat) (x : Option Queue) : (d.setQueue q x).gate = d.gate := rfl
@[simp] theorem setQueue_square (d : Dev) (q : Nat) (x : Option Queue) : (d.setQueue q x).square = d.square := rfl
@[simp] theorem setQueue_arb (d : Dev) (q : Nat) (x : Option Queue) : (d.setQueue q x).arb = d.arb := rfl
@[simp] theorem setQueue_ctl (d : Dev) (q : Nat) (x : Option Queue) : (d.setQueue q x).ctl = d.ctl := rfl
@[simp] theorem setQueue_pwr (d : Dev) (q : Nat) (x : Option Queue) : (d.setQueue q x).pwr = d.pwr := rfl
@[simp] theorem setQueue_get (d : Dev) (q : Nat) (x : Option Queue) (z : Fld) : (d.setQueue q x).get z = d.get z := rfl

/-! ### Dev.setGroup -/

@[simp] theorem setGroup_regs (d : Dev) (k : Nat) (g : Option Group) : (d.setGroup k g).regs = d.regs := rfl
@[simp] theorem setGroup_objs (d : Dev) (k : Nat) (g : Option Group) : (d.setGroup k g).objs = d.objs := rfl
@[simp] theorem setGroup_mem (d : Dev) (k : Nat) (g : Option Group) : (d.setGroup k g).mem = d.mem := rfl
@[simp] theorem setGroup_sram (d : Dev) (k : Nat) (g : Option Group) : (d.setGroup k g).sram = d.sram := rfl
@[simp] theorem setGroup_time (d : Dev) (k : Nat) (g : Option Group) : (d.setGroup k g).time = d.time := rfl
@[simp] theorem setGroup_fresh (d : Dev) (k : Nat) (g : Option Group) : (d.setGroup k g).fresh = d.fresh := rfl
@[simp] theorem setGroup_events (d : Dev) (k : Nat) (g : Option Group) : (d.setGroup k g).events = d.events := rfl
@[simp] theorem setGroup_outs (d : Dev) (k : Nat) (g : Option Group) : (d.setGroup k g).outs = d.outs := rfl
@[simp] theorem setGroup_tick (d : Dev) (k : Nat) (g : Option Group) : (d.setGroup k g).tick = d.tick := rfl
@[simp] theorem setGroup_parts (d : Dev) (k : Nat) (g : Option Group) : (d.setGroup k g).parts = d.parts := rfl
@[simp] theorem setGroup_plz (d : Dev) (k : Nat) (g : Option Group) : (d.setGroup k g).plz = d.plz := rfl
@[simp] theorem setGroup_tier (d : Dev) (k : Nat) (g : Option Group) : (d.setGroup k g).tier = d.tier := rfl
@[simp] theorem setGroup_rbt (d : Dev) (k : Nat) (g : Option Group) : (d.setGroup k g).rbt = d.rbt := rfl
@[simp] theorem setGroup_dtd (d : Dev) (k : Nat) (g : Option Group) : (d.setGroup k g).dtd = d.dtd := rfl
@[simp] theorem setGroup_gate (d : Dev) (k : Nat) (g : Option Group) : (d.setGroup k g).gate = d.gate := rfl
@[simp] theorem setGroup_square (d : Dev) (k : Nat) (g : Option Group) : (d.setGroup k g).square = d.square := rfl
@[simp] theorem setGroup_host (d : Dev) (k : Nat) (g : Option Group) : (d.setGroup k g).host = d.host := rfl
@[simp] theorem setGroup_arb (d : Dev) (k : Nat) (g : Option Group) : (d.setGroup k g).arb = d.arb := rfl
@[simp] theorem setGroup_ctl (d : Dev) (k : Nat) (g : Option Group) : (d.setGroup k g).ctl = d.ctl := rfl
@[simp] theorem setGroup_pwr (d : Dev) (k : Nat) (g : Option Group) : (d.setGroup k g).pwr = d.pwr := rfl
@[simp] theorem setGroup_get (d : Dev) (k : Nat) (g : Option Group) (z : Fld) : (d.setGroup k g).get z = d.get z := rfl

/-! ### Dev.setVreg -/

@[simp] theorem setVreg_regs (d : Dev) (k t r v : Nat) : (d.setVreg k t r v).regs = d.regs := rfl
@[simp] theorem setVreg_objs (d : Dev) (k t r v : Nat) : (d.setVreg k t r v).objs = d.objs := rfl
@[simp] theorem setVreg_mem (d : Dev) (k t r v : Nat) : (d.setVreg k t r v).mem = d.mem := rfl
@[simp] theorem setVreg_sram (d : Dev) (k t r v : Nat) : (d.setVreg k t r v).sram = d.sram := rfl
@[simp] theorem setVreg_time (d : Dev) (k t r v : Nat) : (d.setVreg k t r v).time = d.time := rfl
@[simp] theorem setVreg_fresh (d : Dev) (k t r v : Nat) : (d.setVreg k t r v).fresh = d.fresh := rfl
@[simp] theorem setVreg_events (d : Dev) (k t r v : Nat) : (d.setVreg k t r v).events = d.events := rfl
@[simp] theorem setVreg_outs (d : Dev) (k t r v : Nat) : (d.setVreg k t r v).outs = d.outs := rfl
@[simp] theorem setVreg_tick (d : Dev) (k t r v : Nat) : (d.setVreg k t r v).tick = d.tick := rfl
@[simp] theorem setVreg_parts (d : Dev) (k t r v : Nat) : (d.setVreg k t r v).parts = d.parts := rfl
@[simp] theorem setVreg_plz (d : Dev) (k t r v : Nat) : (d.setVreg k t r v).plz = d.plz := rfl
@[simp] theorem setVreg_tier (d : Dev) (k t r v : Nat) : (d.setVreg k t r v).tier = d.tier := rfl
@[simp] theorem setVreg_rbt (d : Dev) (k t r v : Nat) : (d.setVreg k t r v).rbt = d.rbt := rfl
@[simp] theorem setVreg_dtd (d : Dev) (k t r v : Nat) : (d.setVreg k t r v).dtd = d.dtd := rfl
@[simp] theorem setVreg_gate (d : Dev) (k t r v : Nat) : (d.setVreg k t r v).gate = d.gate := rfl
@[simp] theorem setVreg_square (d : Dev) (k t r v : Nat) : (d.setVreg k t r v).square = d.square := rfl
@[simp] theorem setVreg_host (d : Dev) (k t r v : Nat) : (d.setVreg k t r v).host = d.host := rfl
@[simp] theorem setVreg_arb (d : Dev) (k t r v : Nat) : (d.setVreg k t r v).arb = d.arb := rfl
@[simp] theorem setVreg_ctl (d : Dev) (k t r v : Nat) : (d.setVreg k t r v).ctl = d.ctl := rfl
@[simp] theorem setVreg_pwr (d : Dev) (k t r v : Nat) : (d.setVreg k t r v).pwr = d.pwr := rfl
@[simp] theorem setVreg_get (d : Dev) (k t r v : Nat) (z : Fld) : (d.setVreg k t r v).get z = d.get z := rfl

/-! ### Dev.setUreg -/

@[simp] theorem setUreg_regs (d : Dev) (k r v : Nat) : (d.setUreg k r v).regs = d.regs := rfl
@[simp] theorem setUreg_objs (d : Dev) (k r v : Nat) : (d.setUreg k r v).objs = d.objs := rfl
@[simp] theorem setUreg_mem (d : Dev) (k r v : Nat) : (d.setUreg k r v).mem = d.mem := rfl
@[simp] theorem setUreg_sram (d : Dev) (k r v : Nat) : (d.setUreg k r v).sram = d.sram := rfl
@[simp] theorem setUreg_time (d : Dev) (k r v : Nat) : (d.setUreg k r v).time = d.time := rfl
@[simp] theorem setUreg_fresh (d : Dev) (k r v : Nat) : (d.setUreg k r v).fresh = d.fresh := rfl
@[simp] theorem setUreg_events (d : Dev) (k r v : Nat) : (d.setUreg k r v).events = d.events := rfl
@[simp] theorem setUreg_outs (d : Dev) (k r v : Nat) : (d.setUreg k r v).outs = d.outs := rfl
@[simp] theorem setUreg_tick (d : Dev) (k r v : Nat) : (d.setUreg k r v).tick = d.tick := rfl
@[simp] theorem setUreg_parts (d : Dev) (k r v : Nat) : (d.setUreg k r v).parts = d.parts := rfl
@[simp] theorem setUreg_plz (d : Dev) (k r v : Nat) : (d.setUreg k r v).plz = d.plz := rfl
@[simp] theorem setUreg_tier (d : Dev) (k r v : Nat) : (d.setUreg k r v).tier = d.tier := rfl
@[simp] theorem setUreg_rbt (d : Dev) (k r v : Nat) : (d.setUreg k r v).rbt = d.rbt := rfl
@[simp] theorem setUreg_dtd (d : Dev) (k r v : Nat) : (d.setUreg k r v).dtd = d.dtd := rfl
@[simp] theorem setUreg_gate (d : Dev) (k r v : Nat) : (d.setUreg k r v).gate = d.gate := rfl
@[simp] theorem setUreg_square (d : Dev) (k r v : Nat) : (d.setUreg k r v).square = d.square := rfl
@[simp] theorem setUreg_host (d : Dev) (k r v : Nat) : (d.setUreg k r v).host = d.host := rfl
@[simp] theorem setUreg_arb (d : Dev) (k r v : Nat) : (d.setUreg k r v).arb = d.arb := rfl
@[simp] theorem setUreg_ctl (d : Dev) (k r v : Nat) : (d.setUreg k r v).ctl = d.ctl := rfl
@[simp] theorem setUreg_pwr (d : Dev) (k r v : Nat) : (d.setUreg k r v).pwr = d.pwr := rfl
@[simp] theorem setUreg_get (d : Dev) (k r v : Nat) (z : Fld) : (d.setUreg k r v).get z = d.get z := rfl

/-! ### Dev.puts -/

@[simp] theorem puts_objs (l : List (Fld × Nat)) : ∀ d : Dev, (d.puts l).objs = d.objs := by
  induction l with
  | nil => intro d; rfl
  | cons x r ih => intro d; obtain ⟨f, v⟩ := x; exact ih (d.put f v)

@[simp] theorem puts_mem (l : List (Fld × Nat)) : ∀ d : Dev, (d.puts l).mem = d.mem := by
  induction l with
  | nil => intro d; rfl
  | cons x r ih => intro d; obtain ⟨f, v⟩ := x; exact ih (d.put f v)

@[simp] theorem puts_sram (l : List (Fld × Nat)) : ∀ d : Dev, (d.puts l).sram = d.sram := by
  induction l with
  | nil => intro d; rfl
  | cons x r ih => intro d; obtain ⟨f, v⟩ := x; exact ih (d.put f v)

@[simp] theorem puts_time (l : List (Fld × Nat)) : ∀ d : Dev, (d.puts l).time = d.time := by
  induction l with
  | nil => intro d; rfl
  | cons x r ih => intro d; obtain ⟨f, v⟩ := x; exact ih (d.put f v)

@[simp] theorem puts_fresh (l : List (Fld × Nat)) : ∀ d : Dev, (d.puts l).fresh = d.fresh := by
  induction l with
  | nil => intro d; rfl
  | cons x r ih => intro d; obtain ⟨f, v⟩ := x; exact ih (d.put f v)

@[simp] theorem puts_events (l : List (Fld × Nat)) : ∀ d : Dev, (d.puts l).events = d.events := by
  induction l with
  | nil => intro d; rfl
  | cons x r ih => intro d; obtain ⟨f, v⟩ := x; exact ih (d.put f v)

@[simp] theorem puts_outs (l : List (Fld × Nat)) : ∀ d : Dev, (d.puts l).outs = d.outs := by
  induction l with
  | nil => intro d; rfl
  | cons x r ih => intro d; obtain ⟨f, v⟩ := x; exact ih (d.put f v)

@[simp] theorem puts_tick (l : List (Fld × Nat)) : ∀ d : Dev, (d.puts l).tick = d.tick := by
  induction l with
  | nil => intro d; rfl
  | cons x r ih => intro d; obtain ⟨f, v⟩ := x; exact ih (d.put f v)

@[simp] theorem puts_parts (l : List (Fld × Nat)) : ∀ d : Dev, (d.puts l).parts = d.parts := by
  induction l with
  | nil => intro d; rfl
  | cons x r ih => intro d; obtain ⟨f, v⟩ := x; exact ih (d.put f v)

@[simp] theorem puts_clus (l : List (Fld × Nat)) : ∀ d : Dev, (d.puts l).clus = d.clus := by
  induction l with
  | nil => intro d; rfl
  | cons x r ih => intro d; obtain ⟨f, v⟩ := x; exact ih (d.put f v)

@[simp] theorem puts_plz (l : List (Fld × Nat)) : ∀ d : Dev, (d.puts l).plz = d.plz := by
  induction l with
  | nil => intro d; rfl
  | cons x r ih => intro d; obtain ⟨f, v⟩ := x; exact ih (d.put f v)

@[simp] theorem puts_tier (l : List (Fld × Nat)) : ∀ d : Dev, (d.puts l).tier = d.tier := by
  induction l with
  | nil => intro d; rfl
  | cons x r ih => intro d; obtain ⟨f, v⟩ := x; exact ih (d.put f v)

@[simp] theorem puts_rbt (l : List (Fld × Nat)) : ∀ d : Dev, (d.puts l).rbt = d.rbt := by
  induction l with
  | nil => intro d; rfl
  | cons x r ih => intro d; obtain ⟨f, v⟩ := x; exact ih (d.put f v)

@[simp] theorem puts_dtd (l : List (Fld × Nat)) : ∀ d : Dev, (d.puts l).dtd = d.dtd := by
  induction l with
  | nil => intro d; rfl
  | cons x r ih => intro d; obtain ⟨f, v⟩ := x; exact ih (d.put f v)

@[simp] theorem puts_gate (l : List (Fld × Nat)) : ∀ d : Dev, (d.puts l).gate = d.gate := by
  induction l with
  | nil => intro d; rfl
  | cons x r ih => intro d; obtain ⟨f, v⟩ := x; exact ih (d.put f v)

@[simp] theorem puts_square (l : List (Fld × Nat)) : ∀ d : Dev, (d.puts l).square = d.square := by
  induction l with
  | nil => intro d; rfl
  | cons x r ih => intro d; obtain ⟨f, v⟩ := x; exact ih (d.put f v)

@[simp] theorem puts_host (l : List (Fld × Nat)) : ∀ d : Dev, (d.puts l).host = d.host := by
  induction l with
  | nil => intro d; rfl
  | cons x r ih => intro d; obtain ⟨f, v⟩ := x; exact ih (d.put f v)

@[simp] theorem puts_arb (l : List (Fld × Nat)) : ∀ d : Dev, (d.puts l).arb = d.arb := by
  induction l with
  | nil => intro d; rfl
  | cons x r ih => intro d; obtain ⟨f, v⟩ := x; exact ih (d.put f v)

@[simp] theorem puts_ctl (l : List (Fld × Nat)) : ∀ d : Dev, (d.puts l).ctl = d.ctl := by
  induction l with
  | nil => intro d; rfl
  | cons x r ih => intro d; obtain ⟨f, v⟩ := x; exact ih (d.put f v)

@[simp] theorem puts_pwr (l : List (Fld × Nat)) : ∀ d : Dev, (d.puts l).pwr = d.pwr := by
  induction l with
  | nil => intro d; rfl
  | cons x r ih => intro d; obtain ⟨f, v⟩ := x; exact ih (d.put f v)

/-! ### Dev.draw -/

@[simp] theorem draw_regs (d : Dev) : d.draw.2.regs = d.regs := rfl
@[simp] theorem draw_objs (d : Dev) : d.draw.2.objs = d.objs := rfl
@[simp] theorem draw_mem (d : Dev) : d.draw.2.mem = d.mem := rfl
@[simp] theorem draw_sram (d : Dev) : d.draw.2.sram = d.sram := rfl
@[simp] theorem draw_time (d : Dev) : d.draw.2.time = d.time := rfl
@[simp] theorem draw_events (d : Dev) : d.draw.2.events = d.events := rfl
@[simp] theorem draw_outs (d : Dev) : d.draw.2.outs = d.outs := rfl
@[simp] theorem draw_tick (d : Dev) : d.draw.2.tick = d.tick := rfl
@[simp] theorem draw_parts (d : Dev) : d.draw.2.parts = d.parts := rfl
@[simp] theorem draw_clus (d : Dev) : d.draw.2.clus = d.clus := rfl
@[simp] theorem draw_plz (d : Dev) : d.draw.2.plz = d.plz := rfl
@[simp] theorem draw_tier (d : Dev) : d.draw.2.tier = d.tier := rfl
@[simp] theorem draw_rbt (d : Dev) : d.draw.2.rbt = d.rbt := rfl
@[simp] theorem draw_dtd (d : Dev) : d.draw.2.dtd = d.dtd := rfl
@[simp] theorem draw_gate (d : Dev) : d.draw.2.gate = d.gate := rfl
@[simp] theorem draw_square (d : Dev) : d.draw.2.square = d.square := rfl
@[simp] theorem draw_host (d : Dev) : d.draw.2.host = d.host := rfl
@[simp] theorem draw_arb (d : Dev) : d.draw.2.arb = d.arb := rfl
@[simp] theorem draw_ctl (d : Dev) : d.draw.2.ctl = d.ctl := rfl
@[simp] theorem draw_pwr (d : Dev) : d.draw.2.pwr = d.pwr := rfl
@[simp] theorem draw_fresh (d : Dev) : d.draw.2.fresh = d.fresh + 1 := rfl
@[simp] theorem draw_fst (d : Dev) : d.draw.1 = d.fresh := rfl
@[simp] theorem draw_get (d : Dev) (g : Fld) : d.draw.2.get g = d.get g := rfl

end Sys2Proof.Machine
end

