-- ==== Sys2Proof/Laws/Ops.lean ====
section
/-! SUPPORT. What the shared operations can do, said once: lifting to a command, raising an event, HOLD causes, tick faults. -/

namespace Sys2Proof.Machine

open Sys2Proof

/-! ### Commands on the device -/

/-- With power good a command on the device answers its effect. -/
theorem onDev_powered (f : Dev → Dev) (s : State) (h : s.powered) : onDev f s = .next { s with dev := f s.dev } := by
  unfold onDev
  rw [if_pos (show s.dev.pwr.pwrgd = true from h)]

/-- With power off it changes nothing. -/
theorem onDev_off (f : Dev → Dev) (s : State) (h : s.dev.pwr.pwrgd = false) : onDev f s = .next s := by
  unfold onDev
  rw [h]
  rfl

/-- It leaves the queue, the vault and flash alone. -/
theorem onDev_sameBut (f : Dev → Dev) (s t : State) (h : onDev f s = .next t) : State.sameBut s t := by
  unfold onDev at h
  split at h <;> cases h <;> exact ⟨rfl, rfl, rfl⟩

/-- With power good a command that sees the vault and flash answers its effect. -/
theorem onDevFlash_powered (f : Vault → Flash → Dev → Flash × Dev) (s : State) (h : s.powered) :
    onDevFlash f s = .next { s with flash := (f s.vault s.flash s.dev).1, dev := (f s.vault s.flash s.dev).2 } := by
  unfold onDevFlash
  rw [if_pos (show s.dev.pwr.pwrgd = true from h)]

/-! ### Frames compose -/

theorem sameRegsBut_refl (l : List Fld) (d : Dev) : Dev.sameRegsBut l d d := fun _ _ => rfl

theorem sameRegsBut_trans {l : List Fld} {a b c : Dev} (h : Dev.sameRegsBut l a b) (k : Dev.sameRegsBut l b c) : Dev.sameRegsBut l a c :=
  fun f hf => (k f hf).trans (h f hf)

theorem sameRegsBut_mono {l m : List Fld} {a b : Dev} (h : Dev.sameRegsBut l a b) (hs : ∀ f ∈ l, f ∈ m) : Dev.sameRegsBut m a b :=
  fun f hf => h f fun g hg => hf g (hs g hg)

/-- A field write leaves the other fields alone. -/
theorem sameRegsBut_put (d : Dev) (f : Fld) (v : Nat) : Dev.sameRegsBut [f] d (d.put f v) :=
  fun g hg => get_put_ne d f g v (hg f (by simp))

theorem sameRegsBut_bump (d : Dev) (f : Fld) (n : Nat) : Dev.sameRegsBut [f] d (d.bump f n) :=
  fun g hg => by
    rw [get_bump, if_neg (hg f (by simp))]

theorem sameRegsBut_puts (d : Dev) (l : List (Fld × Nat)) : Dev.sameRegsBut (l.map Prod.fst) d (d.puts l) :=
  fun g hg => get_puts_ne l g d fun x hx => hg x.1 (List.mem_map_of_mem hx)

/-! ### Emitting -/

@[simp] theorem keepRecord_get (d : Dev) (pa : Nat) (rec : List Byte) (b : Bool) (f : Fld) : (d.keepRecord pa rec b).get f = d.get f := by
  unfold Dev.keepRecord
  split <;> rfl
@[simp] theorem keepRecord_mem (d : Dev) (pa : Nat) (rec : List Byte) (b : Bool) : (d.keepRecord pa rec b).mem = d.mem := by
  unfold Dev.keepRecord
  split <;> rfl
@[simp] theorem keepRecord_events (d : Dev) (pa : Nat) (rec : List Byte) (b : Bool) : (d.keepRecord pa rec b).events = d.events := by
  unfold Dev.keepRecord
  split <;> rfl
@[simp] theorem keepRecord_sram (d : Dev) (pa : Nat) (rec : List Byte) (b : Bool) : (d.keepRecord pa rec b).sram = d.sram := by
  unfold Dev.keepRecord
  split <;> rfl
@[simp] theorem sendVector_get (d : Dev) (v : Nat) (f : Fld) : (d.sendVector v).get f = d.get f := by
  unfold Dev.sendVector
  split <;> rfl
@[simp] theorem sendVector_mem (d : Dev) (v : Nat) : (d.sendVector v).mem = d.mem := by
  unfold Dev.sendVector
  split <;> rfl
@[simp] theorem sendVector_events (d : Dev) (v : Nat) : (d.sendVector v).events = d.events := by
  unfold Dev.sendVector
  split <;> rfl
@[simp] theorem sendVector_sram (d : Dev) (v : Nat) : (d.sendVector v).sram = d.sram := by
  unfold Dev.sendVector
  split <;> rfl
@[simp] theorem write_get (d : Dev) (pa : Nat) (l : List Byte) (f : Fld) : (d.write pa l).get f = d.get f := rfl
@[simp] theorem write_events (d : Dev) (pa : Nat) (l : List Byte) : (d.write pa l).events = d.events := rfl
@[simp] theorem write_sram (d : Dev) (pa : Nat) (l : List Byte) : (d.write pa l).sram = d.sram := rfl
@[simp] theorem notify_get (d : Dev) (rec : List Byte) (f : Fld) : (d.notify rec).get f = d.get f := by
  unfold Dev.notify
  split
  · rfl
  · split <;> rfl
@[simp] theorem notify_mem (d : Dev) (rec : List Byte) : (d.notify rec).mem = d.mem := by
  unfold Dev.notify
  split
  · rfl
  · split <;> rfl
@[simp] theorem notify_events (d : Dev) (rec : List Byte) : (d.notify rec).events = d.events := by
  unfold Dev.notify
  split
  · rfl
  · split <;> rfl
@[simp] theorem notify_sram (d : Dev) (rec : List Byte) : (d.notify rec).sram = d.sram := by
  unfold Dev.notify
  split
  · rfl
  · split <;> rfl

/-! ### Event rings -/

/-- An event record is 64 bytes. -/
theorem event_bytes_length (e : Event) : e.bytes.length = 64 := by
  simp [Event.bytes, leBytes, List.range, List.range.loop]

/-- A record goes to a ring's own fields and its own bytes, and to nothing else. -/
theorem ringWrite_get (d : Dev) (r : Nat) (rec : List Byte) (f : Fld) (h1 : f.key ≠ (F.HST_EVR_CTL_LOST r).key)
    (h2 : f.key ≠ (F.HST_EVR_CTL_OVF r).key) (h3 : f.key ≠ (F.HST_EVR_IDX_PI r).key) : (d.ringWrite r rec).get f = d.get f := by
  unfold Dev.ringWrite
  split
  · rfl
  · dsimp only
    split
    · rw [get_put_ne _ _ _ _ h2, get_bump, if_neg h1]
    · rw [sendVector_get, get_put_ne _ _ _ _ h3]
      unfold Dev.writeRecord
      dsimp only
      split <;> simp

@[simp] theorem ringWrite_events (d : Dev) (r : Nat) (rec : List Byte) : (d.ringWrite r rec).events = d.events := by
  unfold Dev.ringWrite
  split
  · rfl
  · dsimp only
    split
    · simp
    · unfold Dev.writeRecord
      dsimp only
      split <;> simp

@[simp] theorem ringWrite_sram (d : Dev) (r : Nat) (rec : List Byte) : (d.ringWrite r rec).sram = d.sram := by
  unfold Dev.ringWrite
  split
  · rfl
  · dsimp only
    split
    · simp
    · unfold Dev.writeRecord
      dsimp only
      split <;> simp

theorem ringWrite_byte (d : Dev) (r : Nat) (rec : List Byte) (x : Nat) (hl : rec.length = 64)
    (h : d.on (F.HST_EVR_CTL_EN r) = true → x < d.get (F.HST_EVR_BASE_PA r) ∨ d.get (F.HST_EVR_BASE_PA r) + 64 * d.ringSize r ≤ x) :
    (d.ringWrite r rec).mem.byte x = d.mem.byte x := by
  unfold Dev.ringWrite
  split
  · rfl
  · rename_i he
    have he : d.on (F.HST_EVR_CTL_EN r) = true := by simpa using he
    have h := h he
    have hs : 0 < d.ringSize r := Nat.two_pow_pos _
    have hm := Nat.mod_lt (d.get (F.HST_EVR_IDX_PI r)) hs
    dsimp only
    split
    · simp
    · simp only [sendVector_mem, put_mem]
      unfold Dev.writeRecord
      dsimp only
      split
      · simp
      · rw [dev_write_byte, if_neg, keepRecord_mem]
        rw [hl]
        omega

/-! ### Raising an event -/

/-- The ring a class is sent to is one of the 64. -/
theorem evmap_lt (d : Dev) (c : Nat) : d.get (F.HST_EVMAP_RING c) < 64 := get_lt d _

theorem eventFields_seq {f : Fld} (h : ∀ g ∈ eventFields, f.key ≠ g.key) : f.key ≠ F.RAS_EVSEQ_NEXT.key := h _ (by simp [eventFields])

theorem eventFields_ring {f : Fld} (h : ∀ g ∈ eventFields, f.key ≠ g.key) (r : Nat) (hr : r < 64) :
    f.key ≠ (F.HST_EVR_CTL_LOST r).key ∧ f.key ≠ (F.HST_EVR_CTL_OVF r).key ∧ f.key ≠ (F.HST_EVR_IDX_PI r).key := by
  refine ⟨h _ ?_, h _ ?_, h _ ?_⟩ <;>
    exact List.mem_cons_of_mem _ (List.mem_flatMap.mpr ⟨r, List.mem_range.mpr hr, by simp⟩)

/-- The record of an event raised in `d`. -/
def Dev.eventOf (d : Dev) (cls status source : Nat) (detail : List Nat) : Event :=
  ⟨cls, status, source, d.get F.RAS_EVSEQ_NEXT, d.tnStamp, d.time, detail⟩

/-- The device with the event numbered and on record, before it goes to its ring. -/
def Dev.logged (d : Dev) (e : Event) : Dev := { d.put F.RAS_EVSEQ_NEXT (e.seq + 1) with events := e :: d.events }

theorem raise_eq (d : Dev) (cls status source : Nat) (detail : List Nat) :
    d.raise cls status source detail =
      ((d.logged (d.eventOf cls status source detail)).ringWrite
        ((d.logged (d.eventOf cls status source detail)).get (F.HST_EVMAP_RING cls)) (d.eventOf cls status source detail).bytes).notify
        (d.eventOf cls status source detail).bytes := rfl

theorem logged_get (d : Dev) (e : Event) (f : Fld) (h : f.key ≠ F.RAS_EVSEQ_NEXT.key) : (d.logged e).get f = d.get f :=
  get_put_ne d _ f _ h

/-- An event changes the registers of `eventFields` only. -/
theorem raise_regs (d : Dev) (cls status source : Nat) (detail : List Nat) :
    Dev.sameRegsBut eventFields d (d.raise cls status source detail) := by
  intro f hf
  rw [raise_eq, notify_get]
  obtain ⟨h1, h2, h3⟩ := eventFields_ring hf _ (evmap_lt (d.logged (d.eventOf cls status source detail)) cls)
  rw [ringWrite_get _ _ _ f h1 h2 h3, logged_get _ _ _ (eventFields_seq hf)]

/-- The events after it. -/
theorem raise_events (d : Dev) (cls status source : Nat) (detail : List Nat) :
    (d.raise cls status source detail).events = d.eventOf cls status source detail :: d.events := by
  rw [raise_eq, notify_events, ringWrite_events]
  rfl

/-- One event is on record afterwards. -/
theorem raise_one (d : Dev) (cls status source : Nat) (detail : List Nat) :
    Dev.raisedOne d (d.raise cls status source detail) cls status source detail :=
  ⟨d.eventOf cls status source detail, raise_events d cls status source detail, rfl, rfl, rfl, rfl, rfl⟩

@[simp] theorem raise_sram (d : Dev) (cls status source : Nat) (detail : List Nat) : (d.raise cls status source detail).sram = d.sram := by
  rw [raise_eq, notify_sram, ringWrite_sram]
  rfl

/-- The next event takes the next number. -/
theorem raise_seq (d : Dev) (cls status source : Nat) (detail : List Nat) :
    (d.raise cls status source detail).get F.RAS_EVSEQ_NEXT = (d.get F.RAS_EVSEQ_NEXT + 1) % 2 ^ 32 := by
  have hr := evmap_lt (d.logged (d.eventOf cls status source detail)) cls
  rw [raise_eq, notify_get, ringWrite_get]
  · exact get_put_same d F.RAS_EVSEQ_NEXT _
  all_goals
    simp only [Fld.key, F.RAS_EVSEQ_NEXT, F.HST_EVR_CTL_LOST, F.HST_EVR_CTL_OVF, F.HST_EVR_IDX_PI]
    omega

/-- The enabled rings lie where three fields of each say. -/
theorem inEventRing_congr {a b : Dev} (h : ∀ r : Nat, r < 64 → b.get (F.HST_EVR_CTL_EN r) = a.get (F.HST_EVR_CTL_EN r) ∧
    b.get (F.HST_EVR_BASE_PA r) = a.get (F.HST_EVR_BASE_PA r) ∧ b.get (F.HST_EVR_CTL_LOG2 r) = a.get (F.HST_EVR_CTL_LOG2 r)) (x : Nat) :
    b.inEventRing x ↔ a.inEventRing x := by
  unfold Dev.inEventRing Dev.on Dev.ringSize
  constructor
  · rintro ⟨r, hr, h1, h2, h3⟩
    obtain ⟨k1, k2, k3⟩ := h r hr
    rw [k1] at h1
    rw [k2] at h2
    rw [k2, k3] at h3
    exact ⟨r, hr, h1, h2, h3⟩
  · rintro ⟨r, hr, h1, h2, h3⟩
    obtain ⟨k1, k2, k3⟩ := h r hr
    rw [← k1] at h1
    rw [← k2] at h2
    rw [← k2, ← k3] at h3
    exact ⟨r, hr, h1, h2, h3⟩

/-- A frame over fields that set up no ring leaves the rings where they are. -/
theorem inEventRing_frame {l : List Fld} {a b : Dev} (h : Dev.sameRegsBut l a b)
    (hl : ∀ r : Nat, r < 64 → ∀ g ∈ l, (F.HST_EVR_CTL_EN r).key ≠ g.key ∧ (F.HST_EVR_BASE_PA r).key ≠ g.key ∧ (F.HST_EVR_CTL_LOG2 r).key ≠ g.key)
    (x : Nat) : b.inEventRing x ↔ a.inEventRing x :=
  inEventRing_congr (fun r hr => ⟨h _ fun g hg => (hl r hr g hg).1, h _ fun g hg => (hl r hr g hg).2.1, h _ fun g hg => (hl r hr g hg).2.2⟩) x

/-- No field an event writes sets up a ring. -/
theorem eventFields_rings (r : Nat) (hr : r < 64) (g : Fld) (hg : g ∈ eventFields) :
    (F.HST_EVR_CTL_EN r).key ≠ g.key ∧ (F.HST_EVR_BASE_PA r).key ≠ g.key ∧ (F.HST_EVR_CTL_LOG2 r).key ≠ g.key := by
  simp only [eventFields, List.mem_cons, List.mem_flatMap, List.mem_range, List.not_mem_nil, or_false] at hg
  rcases hg with rfl | ⟨q, hq, rfl | rfl | rfl⟩ <;>
    simp only [Fld.key, F.HST_EVR_CTL_EN, F.HST_EVR_CTL_LOG2, F.HST_EVR_BASE_PA, F.RAS_EVSEQ_NEXT, F.HST_EVR_CTL_LOST,
      F.HST_EVR_CTL_OVF, F.HST_EVR_IDX_PI] <;> omega

/-- Where the rings lie does not change when an event is raised. -/
theorem raise_inEventRing (d : Dev) (cls status source : Nat) (detail : List Nat) (x : Nat) :
    (d.raise cls status source detail).inEventRing x ↔ d.inEventRing x :=
  inEventRing_frame (raise_regs d cls status source detail) eventFields_rings x

/-- It stores in the enabled rings only. -/
theorem raise_mem (d : Dev) (cls status source : Nat) (detail : List Nat) :
    Dev.sameMemButRings [] d (d.raise cls status source detail) := by
  refine ⟨fun x hx _ => ?_, raise_sram d cls status source detail⟩
  rw [raise_eq, notify_mem, ringWrite_byte _ _ _ _ (event_bytes_length _)]
  · rfl
  · intro he
    have hr := evmap_lt (d.logged (d.eventOf cls status source detail)) cls
    revert he hr
    generalize (d.logged (d.eventOf cls status source detail)).get (F.HST_EVMAP_RING cls) = r
    intro he hr
    have hn : ¬ (d.logged (d.eventOf cls status source detail)).inEventRing x := by
      rw [inEventRing_congr (a := d)]
      · exact hx
      · intro q hq
        refine ⟨logged_get _ _ _ ?_, logged_get _ _ _ ?_, logged_get _ _ _ ?_⟩ <;>
          simp only [Fld.key, F.HST_EVR_CTL_EN, F.HST_EVR_CTL_LOG2, F.HST_EVR_BASE_PA, F.RAS_EVSEQ_NEXT] <;> omega
    by_cases h1 : x < (d.logged (d.eventOf cls status source detail)).get (F.HST_EVR_BASE_PA r)
    · exact .inl h1
    · right
      apply Nat.le_of_not_lt
      intro h2
      exact hn ⟨r, hr, he, Nat.le_of_not_lt h1, h2⟩

/-- Memory frames compose over operations that move no ring. -/
theorem sameMemButRings_trans {l : List (Nat × Nat)} {a b c : Dev} (h : Dev.sameMemButRings l a b) (k : Dev.sameMemButRings l b c)
    (hr : ∀ x : Nat, b.inEventRing x ↔ a.inEventRing x) : Dev.sameMemButRings l a c :=
  ⟨fun x hx hl => (k.1 x (fun q => hx ((hr x).1 q)) hl).trans (h.1 x hx hl), k.2.trans h.2⟩

theorem sameMemButRings_same {l : List (Nat × Nat)} {a b : Dev} (h : b.mem = a.mem) (k : b.sram = a.sram) : Dev.sameMemButRings l a b :=
  ⟨fun x _ _ => by rw [h], k⟩

/-- The whole frame of raising one event. -/
theorem raise_frame (s : State) (cls status source : Nat) (detail : List Nat) :
    State.onlyFieldsEv [] s { s with dev := s.dev.raise cls status source detail } :=
  ⟨⟨rfl, rfl, rfl⟩, raise_regs s.dev cls status source detail, raise_mem s.dev cls status source detail⟩

/-! ### Tick messages and HOLD causes -/

/-- The register fields, memory, local store and events of two devices agree. -/
def Dev.sameCore (a b : Dev) : Prop := b.regs = a.regs ∧ b.mem = a.mem ∧ b.sram = a.sram ∧ b.events = a.events

theorem sendTick_core (w : Nat) (ps : List Nat) : ∀ d : Dev, Dev.sameCore d (d.sendTick ps w) := by
  induction ps with
  | nil => exact fun d => ⟨rfl, rfl, rfl, rfl⟩
  | cons p r ih => exact fun d => ih (d.emit (.tickMsg p w))

theorem flood_core (d : Dev) (kind cause k tick : Nat) : Dev.sameCore d (d.flood kind cause k tick) := by
  unfold Dev.flood
  split
  · exact ⟨rfl, rfl, rfl, rfl⟩
  · exact sendTick_core _ _ d

theorem sameCore_get {a b : Dev} (h : Dev.sameCore a b) (f : Fld) : b.get f = a.get f := by
  unfold Dev.get
  rw [h.1]

/-- Two devices that differ in some fields and in no byte and no event. -/
def Dev.onlyRegs (l : List Fld) (a b : Dev) : Prop :=
  Dev.sameRegsBut l a b ∧ b.mem = a.mem ∧ b.sram = a.sram ∧ b.events = a.events

theorem onlyRegs_refl (l : List Fld) (d : Dev) : Dev.onlyRegs l d d := ⟨fun _ _ => rfl, rfl, rfl, rfl⟩

theorem onlyRegs_trans {l : List Fld} {a b c : Dev} (h : Dev.onlyRegs l a b) (k : Dev.onlyRegs l b c) : Dev.onlyRegs l a c :=
  ⟨sameRegsBut_trans h.1 k.1, k.2.1.trans h.2.1, k.2.2.1.trans h.2.2.1, k.2.2.2.trans h.2.2.2⟩

theorem onlyRegs_core {a b : Dev} (l : List Fld) (h : Dev.sameCore a b) : Dev.onlyRegs l a b :=
  ⟨fun f _ => sameCore_get h f, h.2.1, h.2.2.1, h.2.2.2⟩

theorem onlyRegs_put (l : List Fld) (d : Dev) (f : Fld) (v : Nat) (h : f ∈ l) : Dev.onlyRegs l d (d.put f v) :=
  ⟨fun g hg => get_put_ne d f g v (hg f h), rfl, rfl, rfl⟩

theorem onlyRegs_mono {l m : List Fld} {a b : Dev} (h : Dev.onlyRegs l a b) (hs : ∀ f ∈ l, f ∈ m) : Dev.onlyRegs m a b :=
  ⟨sameRegsBut_mono h.1 hs, h.2⟩

theorem notePark_frame (d : Dev) (r : ParkedRec) : Dev.onlyRegs holdFields d (d.notePark r) := by
  unfold Dev.notePark
  exact ⟨fun g hg => get_put_ne _ _ g _ (hg _ (by simp [holdFields])), rfl, rfl, rfl⟩

theorem sendParked_frame (d : Dev) : Dev.onlyRegs holdFields d d.sendParked := by
  unfold Dev.sendParked
  dsimp only
  split
  · exact onlyRegs_trans (b := { d with tick := { d.tick with parkedSent := true } }) (onlyRegs_core _ ⟨rfl, rfl, rfl, rfl⟩) (notePark_frame _ _)
  · split
    · split
      · exact onlyRegs_trans (b := { d with tick := { d.tick with parkedSent := true } }) (onlyRegs_core _ ⟨rfl, rfl, rfl, rfl⟩)
          (onlyRegs_core _ (sendTick_core _ _ _))
      · exact onlyRegs_core _ ⟨rfl, rfl, rfl, rfl⟩
    · exact onlyRegs_core _ ⟨rfl, rfl, rfl, rfl⟩

theorem addTarget_frame (d : Dev) (t : Nat) : Dev.onlyRegs holdFields d (d.addTarget t) := by
  have key : ∀ x : Dev, Dev.sameCore d x →
      Dev.onlyRegs holdFields d (if x.tickState == tsRunning then x.put F.TCK_STATUS_STATE tsHolding else x) := by
    intro x hx
    split
    · exact onlyRegs_trans (onlyRegs_core _ hx) (onlyRegs_put _ _ _ _ (by simp [holdFields]))
    · exact onlyRegs_core _ hx
  exact key _ ⟨rfl, rfl, rfl, rfl⟩

theorem sendHold_frame (d : Dev) (c : Nat) : Dev.onlyRegs holdFields d (d.sendHold c) := by
  unfold Dev.sendHold
  dsimp only
  split
  · exact addTarget_frame _ _
  · exact onlyRegs_trans (onlyRegs_core _ (flood_core _ _ _ _ _)) (addTarget_frame _ _)

/-- Asserting a HOLD writes its three fields only. -/
theorem assertHold_frame (d : Dev) (c : Nat) : Dev.onlyRegs holdFields d (d.assertHold c) := by
  unfold Dev.assertHold
  split
  · exact onlyRegs_refl _ d
  · have h : Dev.onlyRegs holdFields d (d.setCause c) := onlyRegs_put _ _ _ _ (by simp [holdFields])
    dsimp only
    split
    · exact onlyRegs_trans h (sendHold_frame _ _)
    · split
      · exact onlyRegs_trans h (sendParked_frame _)
      · exact h

/-- Clearing a HOLD writes its three fields only. -/
theorem clearHold_frame (d : Dev) (c : Nat) : Dev.onlyRegs holdFields d (d.clearHold c) := by
  unfold Dev.clearHold
  split
  · exact onlyRegs_refl _ d
  · have h : Dev.onlyRegs holdFields d (d.dropCause c) := by
      unfold Dev.dropCause
      split
      · exact onlyRegs_put _ _ _ _ (by simp [holdFields])
      · exact onlyRegs_refl _ d
    dsimp only
    split
    · split
      · exact onlyRegs_trans h (onlyRegs_put _ _ _ _ (by simp [holdFields]))
      · exact h
    · split
      · exact onlyRegs_trans h (sendParked_frame _)
      · exact h

/-- The cause bitmap after a cause was set. -/
theorem addTarget_causes (d : Dev) (t : Nat) : (d.addTarget t).get F.TCK_STATUS_CAUSES = d.get F.TCK_STATUS_CAUSES := by
  have key : ∀ x : Dev, Dev.sameCore d x →
      (if x.tickState == tsRunning then x.put F.TCK_STATUS_STATE tsHolding else x).get F.TCK_STATUS_CAUSES = d.get F.TCK_STATUS_CAUSES := by
    intro x hx
    split
    · rw [get_put_ne _ _ _ _ (by decide), sameCore_get hx]
    · exact sameCore_get hx _
  exact key _ ⟨rfl, rfl, rfl, rfl⟩

theorem sendHold_causes (d : Dev) (c : Nat) : (d.sendHold c).get F.TCK_STATUS_CAUSES = d.get F.TCK_STATUS_CAUSES := by
  unfold Dev.sendHold
  dsimp only
  split
  · exact addTarget_causes _ _
  · rw [addTarget_causes, sameCore_get (flood_core _ _ _ _ _)]

theorem sendParked_causes (d : Dev) : d.sendParked.get F.TCK_STATUS_CAUSES = d.get F.TCK_STATUS_CAUSES := by
  unfold Dev.sendParked
  dsimp only
  split
  · unfold Dev.notePark
    exact get_put_ne _ _ _ _ (by decide)
  · split
    · split
      · rw [sameCore_get (sendTick_core _ _ _)]
        rfl
      · rfl
    · rfl

/-- Asserting a cause sets its bit and no other. -/
theorem assertHold_causes (d : Dev) (c : Nat) :
    (d.assertHold c).get F.TCK_STATUS_CAUSES = if d.held c then d.get F.TCK_STATUS_CAUSES else (d.get F.TCK_STATUS_CAUSES ||| 2 ^ c) % 2 ^ 16 := by
  unfold Dev.assertHold
  split
  · rfl
  · have h : (d.setCause c).get F.TCK_STATUS_CAUSES = (d.get F.TCK_STATUS_CAUSES ||| 2 ^ c) % 2 ^ 16 := get_put_same _ _ _
    dsimp only
    split
    · rw [sendHold_causes, h]
    · split
      · rw [sendParked_causes, h]
      · exact h

/-- A bit of a word, as the core library names it. -/
theorem bit_eq_testBit (v i : Nat) : bit v i = v.testBit i := by
  simp [bit, Nat.testBit, Nat.shiftRight_eq_div_pow, Nat.one_and_eq_mod_two]

/-- An asserted cause is held. -/
theorem assertHold_held (d : Dev) (c : Nat) (h : c < 16) : (d.assertHold c).held c = true := by
  unfold Dev.held
  rw [assertHold_causes]
  split
  · rename_i hh
    exact hh
  · rw [bit_eq_testBit, Nat.testBit_mod_two_pow, Nat.testBit_or, Nat.testBit_two_pow_self]
    simp [h]

/-! ### Tick faults -/

/-- A tick fault writes the fault record, the fields of its event and of its HOLD, and nothing else. -/
theorem tickFault_regs (d : Dev) (r : SlotRef) (status kind addr : Nat) :
    Dev.sameRegsBut (faultFields ++ eventFields ++ holdFields) d (d.tickFault r status kind addr) := by
  have key : ∀ a b : Dev, Dev.sameRegsBut faultFields d a →
      Dev.sameRegsBut eventFields a b → ∀ q : TickSt, Dev.sameRegsBut (faultFields ++ eventFields ++ holdFields) d
        (({ b with tick := q } : Dev).assertHold hcFault) := by
    intro a b ha hb q
    have h1 : Dev.sameRegsBut (faultFields ++ eventFields ++ holdFields) d a :=
      sameRegsBut_mono ha fun f h => List.mem_append_left _ (List.mem_append_left _ h)
    have h2 : Dev.sameRegsBut (faultFields ++ eventFields ++ holdFields) a b :=
      sameRegsBut_mono hb fun f h => List.mem_append_left _ (List.mem_append_right _ h)
    have h3 : Dev.sameRegsBut (faultFields ++ eventFields ++ holdFields) ({ b with tick := q } : Dev) (({ b with tick := q } : Dev).assertHold hcFault) :=
      sameRegsBut_mono (assertHold_frame _ _).1 fun f h => List.mem_append_right _ h
    exact sameRegsBut_trans (sameRegsBut_trans h1 h2) h3
  unfold Dev.tickFault
  refine key _ _ ?_ (raise_regs _ _ _ _ _) _
  split
  · exact sameRegsBut_mono (sameRegsBut_put _ _ _) (by simp [faultFields])
  · exact sameRegsBut_mono (sameRegsBut_puts _ _) (by simp [faultFields])

/-- It holds FAULT. -/
theorem tickFault_held (d : Dev) (r : SlotRef) (status kind addr : Nat) : (d.tickFault r status kind addr).held hcFault = true := by
  unfold Dev.tickFault
  exact assertHold_held _ _ (by decide)

/-- A refused register write leaves one register-access event. -/
theorem refuse_one (d : Dev) (off v : Nat) : ∃ e : Event, (d.refuse off v).events = e :: d.events ∧ e.cls = evRegister ∧ e.detail = [off, v] :=
  ⟨_, raise_events _ _ _ _ _, rfl, rfl⟩

end Sys2Proof.Machine
end

