-- ==== Sys2Proof/WellFormed.lean ====
section
/-! DEFINITION. Which commands are well formed: operands that a wire, a register or an engine could carry. The meanings are total and
do not ask for it. -/

namespace Sys2Proof

/-- A distribution tree fits the fields of TCK_REACH and TCK_STATUS.DEPTH, and no port is both parent and child (R36, R49). -/
def treeWf (t : Tree) : Bool :=
  t.depth < 256 && t.depthMax < 256 && t.diam < 256 && t.reachNs < 2 ^ 32 &&
    (match t.parent with
     | some p => !t.children.getLsbD p.val
     | none => true)

/-- A trailer holds a 64-bit counter and a 16-byte tag beside the frame's 32-bit REQ_ID (R354, R358). -/
def authWf (a : Auth) : Bool := a.reqId < 2 ^ 32 && a.counter < 2 ^ 64 && a.tag.length == 16

/-- One address for each of the 32 threads of a group, of 56 bits (R101, R154). -/
def threadsWf (l : List Nat) : Bool := l.length == 32 && l.all fun a => a < 2 ^ 56

/-- A branch names one 56-bit target, or one for each of the 32 threads (R110). -/
def branchWf : Branch → Bool
  | .direct t _ => t < 2 ^ 56
  | .indirect l => threadsWf l

/-- A Plaza request lies inside one 128-byte line, and a write carries its bytes (R175). -/
def plazaWf (pa len : Nat) (k : PlzKind) : Bool :=
  1 ≤ len && pa % 128 + len ≤ 128 &&
    (match k with
     | .write data => data.length == len
     | .zero => pa % 128 == 0 && len == 128
     | .read => true
     | .atomic _ _ _ _ => len == 4 || len == 8)

/-- Peer evidence fits its fields: a 48-byte nonce, a 14-bit rank, a 24-bit position, a 32-bit delay (R271, chapter 13). -/
def evidenceWf (e : EvidenceIn) : Bool := e.nonce.length == 48 && e.rank < 2 ^ 14 && e.position < 2 ^ 24 && e.delayPs < 2 ^ 32

/-- Is a command well formed? -/
def Instr.wf : Instr → Bool
  | .pwrgd _ _ => true
  | .inputLow _ => true
  | .cablePresenceChange _ _ => true
  | .pllLockLoss _ => true
  | .bootStage _ => true
  | .tickEnable tree => treeWf tree
  | .tickDisable => true
  | .storedEnable tree => treeWf tree
  | .tckHoldAssert => true
  | .tckHoldClear _ => true
  | .periodBoundary => true
  | .tickComplete => true
  | .epoch _ _ _ => true
  | .epochWatchExpiry tree => treeWf tree
  | .pingInterval _ => true
  | .ping _ _ _ => true
  | .pong _ _ _ => true
  | .hold _ _ => true
  | .stretch _ _ => true
  | .stretchReport _ _ => true
  | .stretchLowering => true
  | .parked _ _ => true
  | .masterResume tree => treeWf tree
  | .resume _ _ => true
  | .load _ => true
  | .loadDone _ _ _ => true
  | .unstage _ => true
  | .abort _ => true
  | .schStopWrite _ _ => true
  | .nop _ _ index => (index < 1024)
  | .matrixOperation _ _ _ => true
  | .storeA48 _ _ => true
  | .loadA48 _ _ _ => true
  | .threadGroupLaunch _ _ => true
  | .dataMoverTransfer _ _ _ => true
  | .send _ _ _ => true
  | .recv _ _ _ => true
  | .collective _ _ _ => true
  | .scheduledCopy _ _ _ => true
  | .bestEffortWindow _ _ => true
  | .slotComplete _ _ index => (index < 1024)
  | .slotOverrun _ _ index excess => (index < 1024) && (excess < 2 ^ 16)
  | .spareSwap _ => true
  | .automaticSwap _ => true
  | .swapMove => true
  | .swapDrainTimeout => true
  | .spareSelfTest _ => true
  | .cluSpillWrite _ _ => true
  | .cluErrClear _ => true
  | .settingChange _ => true
  | .launch q seq => (q < 262144) && (seq < 2 ^ 32)
  | .blockStart _ _ => true
  | .blockEnd _ _ _ => true
  | .threadLoad _ _ addrs _ _ _ _ => threadsWf addrs
  | .threadStore _ _ addrs _ _ => threadsWf addrs
  | .floatInstruction _ _ _ _ _ _ _ _ => true
  | .conversionInstruction _ _ _ _ _ _ _ => true
  | .blockConversion _ _ _ _ _ _ => true
  | .divergentBranch _ reconv fall br => (reconv < 2 ^ 56) && (fall < 2 ^ 56) && branchWf br
  | .threadExit _ _ => true
  | .blockBarrier _ => true
  | .nflagsWrite _ _ => true
  | .tmma _ _ _ _ => true
  | .tastore _ _ _ => true
  | .taload _ _ _ => true
  | .tmove _ _ _ _ => true
  | .ticketClose _ _ => true
  | .twait _ _ => true
  | .fence _ _ _ => true
  | .atom _ _ _ _ addrs _ _ _ _ => threadsWf addrs
  | .red _ _ _ _ addrs _ _ _ => threadsWf addrs
  | .zline _ addrs => threadsWf addrs
  | .scienceFence _ _ _ _ => true
  | .amo _ _ _ pa _ _ => (pa < 2 ^ 56)
  | .lr _ pa _ _ => (pa < 2 ^ 56)
  | .sc _ pa _ _ => (pa < 2 ^ 56)
  | .reservationTimeout _ => true
  | .cboZero _ pa => (pa < 2 ^ 56)
  | .tgdHalt => true
  | .groupHalted _ => true
  | .tgdResume => true
  | .tgdStep => true
  | .stepDone _ => true
  | .tgdBlockStop => true
  | .tgdBlockResume => true
  | .tgdRdataWrite _ => true
  | .histogramClear _ _ => true
  | .plazaRequest pa len kind _ _ _ => plazaWf pa len kind
  | .fillReturn _ _ _ => true
  | .parityHeaderTimeout _ => true
  | .wayPowerWrite _ _ => true
  | .wayCleanDone _ => true
  | .wayPowerUpDone _ => true
  | .plzScrWrite _ _ _ => true
  | .alloc q seq => (q < 262144) && (seq < 2 ^ 32)
  | .free q seq => (q < 262144) && (seq < 2 ^ 32)
  | .memRegionWrite _ _ => true
  | .memBwrWrite _ _ => true
  | .regulatorWindow _ use => use.length == 8
  | .patrolScrub _ _ => true
  | .stackThermalStep _ _ => true
  | .retrain _ => true
  | .repair _ => true
  | .spare _ => true
  | .channelSequenceStart _ => true
  | .mirrorDone _ => true
  | .redirectSwitch _ => true
  | .channelWorkDone _ _ => true
  | .restoreDone _ => true
  | .restoreSwitch _ => true
  | .channelDrift _ => true
  | .unplannedRetrainEnd _ => true
  | .unplannedRetrainTimeout _ => true
  | .repairRecord _ reqId _ => (reqId < 2 ^ 32)
  | .commitRepairs auth _ => authWf auth
  | .channelSpareCommit auth _ => authWf auth
  | .channelSpareRelease auth _ => authWf auth
  | .binding _ _ _ va _ _ _ => (va < 2 ^ 56)
  | .extentLookup _ _ va _ => (va < 2 ^ 56)
  | .staleRootRecheck _ => true
  | .faultRecordTimeout _ => true
  | .rbtCommit _ gen => (gen < 2 ^ 32)
  | .rbtRootWrite _ _ => true
  | .invalidate _ base order _ => (base < 2 ^ 56) && (order < 64)
  | .recall _ => true
  | .recallAck _ => true
  | .retry _ => true
  | .reject _ status => (status < 256)
  | .flit _ bytes => bytes.length == 256
  | .boulevardRetrain _ _ => true
  | .boulevardRetrainDone _ _ _ => true
  | .x32Degrade _ => true
  | .guestSidebandAnswer => true
  | .capabilityProfile blocks _ => (blocks.length ≤ 256)
  | .qualificationRecord _ => true
  | .qualificationTimeout => true
  | .guestRetry => true
  | .guestRequest _ pa _ _ => (pa < 2 ^ 56)
  | .guestWindowWrite _ _ => true
  | .sensorPoll _ stackMax _ => stackMax.length == 12
  | .telemetryTimeout _ => true
  | .portEnable _ => true
  | .portDisable _ => true
  | .signalDetect _ => true
  | .trainingComplete _ => true
  | .trainingTimeout _ => true
  | .evidence _ e => evidenceWf e
  | .evidenceTimeout _ => true
  | .peerRejection _ => true
  | .lossOfSignal _ => true
  | .portRetrain _ => true
  | .rejectRetryExpiry _ => true
  | .portRetry _ => true
  | .linkNak _ lastSeq => (lastSeq < 2 ^ 16)
  | .packetForward _ _ data _ => (data.length ≤ 4096)
  | .writePacket _ _ data => (data.length ≤ 4096)
  | .readPacket _ _ _ => true
  | .atomicPacket _ _ _ _ _ _ => true
  | .qmsgPacket _ _ data => (data.length ≤ 4096)
  | .respPacket _ _ data => (data.length ≤ 4096)
  | .responseTimeout tag => (tag < 2 ^ 16)
  | .schedPacket _ _ data => (data.length ≤ 4096)
  | .gteWinWrite _ _ _ => true
  | .rankAssignment auth rank => authWf auth && (rank < 2 ^ 16)
  | .allreduce q seq => (q < 262144) && (seq < 2 ^ 32)
  | .reduceScatter q seq => (q < 262144) && (seq < 2 ^ 32)
  | .broadcast q seq => (q < 262144) && (seq < 2 ^ 32)
  | .collectiveStart _ _ => true
  | .exponentFrame _ _ frame => (frame.length ≤ 4096)
  | .bsiDenseFrame _ _ frame => (frame.length ≤ 4096)
  | .bsiSparseFrame _ _ frame => (frame.length ≤ 4096)
  | .flaglistFrame _ _ frame => (frame.length ≤ 4096)
  | .fp32Frame _ _ frame => (frame.length ≤ 4096)
  | .onebitFrame _ _ frame => (frame.length ≤ 4096)
  | .finalFrame _ _ frame => (frame.length ≤ 4096)
  | .backupDeadline _ collId _ _ => (collId < 2 ^ 64)
  | .frameStallTimeout _ collId _ => (collId < 2 ^ 64)
  | .sqrAbort _ => true
  | .segmentPacket _ _ collId data => (collId < 2 ^ 64) && (data.length ≤ 4096)
  | .segmentTimeout _ collId => (collId < 2 ^ 64)
  | .attach _ _ collId child lost seg => (collId < 2 ^ 64) && (child < 2 ^ 32) && (lost < 2 ^ 32) && (seg < 2 ^ 32)
  | .resend _ _ collId child seg => (collId < 2 ^ 64) && (child < 2 ^ 32) && (seg < 2 ^ 32)
  | .done _ _ collId child count => (collId < 2 ^ 64) && (child < 2 ^ 32) && (count < 2 ^ 32)
  | .broadcastDoneTimeout _ collId => (collId < 2 ^ 64)
  | .dbPi _ pi => (pi < 2 ^ 32)
  | .cqCi _ ci => (ci < 2 ^ 32)
  | .queueEnable _ => true
  | .queueDisable _ => true
  | .queueRestart _ => true
  | .queueFetch _ => true
  | .staleDescReread _ => true
  | .queueNop q seq => (q < 262144) && (seq < 2 ^ 32)
  | .copy q seq _ => (q < 262144) && (seq < 2 ^ 32)
  | .remoteQmsg q seq => (q < 262144) && (seq < 2 ^ 32)
  | .remoteAtomic q seq => (q < 262144) && (seq < 2 ^ 32)
  | .entryComplete q seq => (q < 262144) && (seq < 2 ^ 32)
  | .kioskRead _ _ _ => true
  | .kioskWrite _ _ => true
  | .kioskAtomicOp _ _ _ _ _ _ => true
  | .kskWinBaseWrite _ => true
  | .hostFacingReset _ => true
  | .linkRecovery => true
  | .busMasterEnable => true
  | .hostLoadTimeout _ _ => true
  | .arbiterGrant _ _ _ ready => (ready.all fun x => x.served < 2 ^ 32)
  | .backoffExpiry _ _ _ => true
  | .p3QuotaWindow _ _ => true
  | .partitionCreate auth _ _ => authWf auth
  | .partitionDestroy auth _ _ => authWf auth
  | .retire auth _ => authWf auth
  | .commitMap auth _ => authWf auth
  | .read _ _ => true
  | .write _ _ => true
  | .readSeg _ _ => true
  | .writeSeg _ _ => true
  | .segmentedWriteTimeout _ _ => true
  | .lockoutExpiry _ => true
  | .mbxGo => true
  | .featureAccept _ reqId _ => (reqId < 2 ^ 32)
  | .restoreDefaults _ reqId => (reqId < 2 ^ 32)
  | .governor m => m.dies.length == 4
  | .sciCapStep _ _ => true
  | .wholeDeviceReset auth => authWf auth
  | .zeroise auth => authWf auth
  | .firmwareUpdate auth _ => authWf auth
  | .commitRollback auth => authWf auth
  | .keyChange auth _ => authWf auth
  | .fuseWrite auth code => authWf auth && (code < 2 ^ 32)
  | .revocationListWrite auth _ _ _ => authWf auth
  | .partnerKeyListWrite auth _ _ _ _ => authWf auth
  | .quoteNonce _ reqId value => (reqId < 2 ^ 32) && value.length == 48
  | .quote _ reqId => (reqId < 2 ^ 32)
  | .serviceStateWrite _ => true
  | .debugUnlock auth => authWf auth
  | .debugLock auth => authWf auth
  | .registerWrite offset size _ => (offset < 0x4000000) && [1, 2, 4, 8].contains size
  | .nonce _ bytes => bytes.length == 48
  | .linkAcknowledgement _ lastSeq credits => (lastSeq < 2 ^ 16) && credits.length == 5
  | .inputInSpecification => true
  | .lastRequestStoreExpiry _ => true
  | .poweredHours => true
  | .pwrEnRise => true
  | .pwrEnHoldoffExpiry => true
  | .pwrEnFall => true
  | .railOutOfRegulation => true
  | .undervoltage => true
  | .overvoltage => true
  | .thermtrip => true
  | .perstDeassert => true
  | .configurationReady => true
  | .trefOutOfTolerance => true
  | .trefRelock => true
  | .bootStageTimeout => true

end Sys2Proof
end

