-- ==== Sys2Proof/Tests/Slice0.lean ====
section
/-! SUPPORT. The model's own tests: ill-formed commands that `Instr.wf` refuses, the worked examples of spec/, single steps on small
devices, and, for every statement of Certificates/Slice0/Obligations.lean that has hypotheses, a state and operands that meet all of
those of each of its clauses together: `witness_<name of the statement>`. -/

namespace Sys2Proof.Tests

open Sys2Proof Sys2Proof.Machine

set_option Elab.async false

/-! ### Well-formedness: each check refuses an ill-formed command -/

/-- Does `Instr.wf` refuse every command of a list? -/
def refusesAll (l : List Instr) : Bool := l.all fun c => !c.wf

/-- A tree that is well formed. -/
def tree0 : Tree := { parent := some 3, children := 0x010#12, depth := 1, depthMax := 3, diam := 5, reachNs := 7, tooDeep := [] }

/-- A trailer that is well formed. -/
def auth0 : Auth := ⟨0, 1, 0, 1, List.replicate 16 0⟩

/-- Evidence that is well formed. -/
def evidence0 : EvidenceIn := ⟨true, true, ⟨true, true⟩, List.replicate 48 0, 2, 1, 3, 0#128, false, 5000⟩

/-- A thread group, its 32 addresses, a register. -/
def g0 : GroupRef := ⟨0, 0⟩
def addrs0 : List Nat := List.replicate 32 0

/-- More bytes than a packet carries. -/
def long : List Byte := List.replicate 4097 0

theorem test_wf_accepts : [Instr.tickEnable tree0, .zeroise auth0, .evidence 5 evidence0, .threadLoad g0 false addrs0 3 0 false false,
    .plazaRequest 64 64 .read 0 .clean .clean, .registerWrite 0x3FFFFF8 8 0#64, .quoteNonce 0 1 (List.replicate 48 0),
    .flit 12 (List.replicate 256 0)].all Instr.wf = true := by decide +kernel

theorem test_wf_refuses_trees : refusesAll [.tickEnable { tree0 with depth := 256 }, .storedEnable { tree0 with depthMax := 256 },
    .masterResume { tree0 with diam := 256 }, .epochWatchExpiry { tree0 with reachNs := 2 ^ 32 },
    .tickEnable { tree0 with parent := some 4 }] = true := by decide +kernel

theorem test_wf_refuses_trailers : refusesAll [.zeroise { auth0 with reqId := 2 ^ 32 }, .wholeDeviceReset { auth0 with counter := 2 ^ 64 },
    .debugLock { auth0 with tag := [] }, .rankAssignment auth0 65536, .fuseWrite auth0 (2 ^ 32), .keyChange { auth0 with tag := [] } [],
    .partitionCreate { auth0 with tag := [] } 0 0#64, .retire { auth0 with tag := [] } 0, .commitMap { auth0 with tag := [] } true,
    .firmwareUpdate { auth0 with tag := [] } ⟨[], 0, 0, ⟨true, true⟩⟩, .commitRollback { auth0 with tag := [] },
    .revocationListWrite { auth0 with tag := [] } ⟨true, true⟩ 0 [], .partnerKeyListWrite { auth0 with tag := [] } ⟨true, true⟩ 0 [] [],
    .debugUnlock { auth0 with tag := [] }, .commitRepairs { auth0 with tag := [] } true, .channelSpareCommit { auth0 with tag := [] } 0,
    .channelSpareRelease { auth0 with tag := [] } 0, .partitionDestroy { auth0 with tag := [] } 0 0#64] = true := by decide +kernel

theorem test_wf_refuses_threads : refusesAll [.threadLoad g0 false [0] 3 0 false false, .threadStore g0 false (List.replicate 32 (2 ^ 56)) 3 0,
    .atom g0 .add .u32 none [] 0 0 0 false, .red g0 .add .u32 none [] 0 0 false, .zline g0 [],
    .divergentBranch g0 (2 ^ 56) 0 (.direct 0 0#32), .divergentBranch g0 0 (2 ^ 56) (.direct 0 0#32),
    .divergentBranch g0 0 0 (.direct (2 ^ 56) 0#32), .divergentBranch g0 0 0 (.indirect [0])] = true := by decide +kernel

theorem test_wf_refuses_addresses : refusesAll [.amo 0 .add .u32 (2 ^ 56) 0 false, .lr 0 (2 ^ 56) true false, .sc 0 (2 ^ 56) true 0,
    .cboZero 0 (2 ^ 56), .binding 0 0 0 (2 ^ 56) 1 1#3 false, .extentLookup 0 0 (2 ^ 56) 1, .rbtCommit 0 (2 ^ 32), .invalidate 0 (2 ^ 56) 0 false,
    .invalidate 0 0 64 false, .reject 0 256, .guestRequest false (2 ^ 56) 1 [], .registerWrite 0x4000000 8 0#64, .registerWrite 0 3 0#64] = true := by
  decide +kernel

theorem test_wf_refuses_plaza : refusesAll [.plazaRequest 0 0 .read 0 .clean .clean, .plazaRequest 65 64 .read 0 .clean .clean,
    .plazaRequest 0 2 (.write [1]) 0 .clean .clean, .plazaRequest 0 64 .zero 0 .clean .clean, .plazaRequest 1 128 .zero 0 .clean .clean,
    .plazaRequest 0 5 (.atomic .add .u32 1 0) 0 .clean .clean] = true := by decide +kernel

theorem test_wf_refuses_evidence : refusesAll [.evidence 5 { evidence0 with nonce := [] }, .evidence 5 { evidence0 with rank := 2 ^ 14 },
    .evidence 5 { evidence0 with position := 2 ^ 24 }, .evidence 5 { evidence0 with delayPs := 2 ^ 32 }, .nonce 5 []] = true := by decide +kernel

theorem test_wf_refuses_slots : refusesAll [.nop 0 0 1024, .slotComplete 0 0 1024, .slotOverrun 0 0 1024 0, .slotOverrun 0 0 0 65536] = true := by
  decide +kernel

theorem test_wf_refuses_entries : refusesAll [.launch 262144 0, .alloc 0 (2 ^ 32), .free 262144 0, .allreduce 262144 0, .reduceScatter 0 (2 ^ 32),
    .broadcast 262144 0, .queueNop 262144 0, .copy 0 (2 ^ 32) false, .remoteQmsg 262144 0, .remoteAtomic 0 (2 ^ 32), .entryComplete 262144 0,
    .dbPi 0 (2 ^ 32), .cqCi 0 (2 ^ 32)] = true := by decide +kernel

theorem test_wf_refuses_lists : refusesAll [.regulatorWindow 0 [], .flit 0 [], .sensorPoll 0 [] [], .linkAcknowledgement 0 0 [],
    .linkAcknowledgement 0 65536 fullCredits, .linkNak 0 65536, .responseTimeout 65536, .governor ⟨0, 0, 0, 0, 0, 0, 0, [], 0, false⟩,
    .capabilityProfile (List.replicate 257 ⟨1, 1, 1, true⟩) [], .arbiterGrant 0 0 none [⟨0, 0, 0, 2 ^ 32⟩]] = true := by decide +kernel

theorem test_wf_refuses_packets : refusesAll [.packetForward 0 0 long true, .writePacket 0 0 long, .qmsgPacket 0 0 long, .respPacket 0 0 long,
    .schedPacket 0 0 long, .exponentFrame 0 0 long, .bsiDenseFrame 0 0 long, .bsiSparseFrame 0 0 long, .flaglistFrame 0 0 long,
    .fp32Frame 0 0 long, .onebitFrame 0 0 long, .finalFrame 0 0 long, .segmentPacket 0 0 0 long] = true := by decide +kernel

theorem test_wf_refuses_collectives : refusesAll [.backupDeadline 0 (2 ^ 64) 0 0, .frameStallTimeout 0 (2 ^ 64) 0, .segmentPacket 0 0 (2 ^ 64) [],
    .segmentTimeout 0 (2 ^ 64), .attach 0 0 (2 ^ 64) 0 0 0, .attach 0 0 0 (2 ^ 32) 0 0, .attach 0 0 0 0 (2 ^ 32) 0, .attach 0 0 0 0 0 (2 ^ 32),
    .resend 0 0 (2 ^ 64) 0 0, .resend 0 0 0 (2 ^ 32) 0, .resend 0 0 0 0 (2 ^ 32), .done 0 0 (2 ^ 64) 0 0, .done 0 0 0 (2 ^ 32) 0,
    .done 0 0 0 0 (2 ^ 32), .broadcastDoneTimeout 0 (2 ^ 64)] = true := by decide +kernel

theorem test_wf_refuses_objects : refusesAll [.repairRecord 0 (2 ^ 32) [], .featureAccept 0 (2 ^ 32) 0, .restoreDefaults 0 (2 ^ 32),
    .quoteNonce 0 (2 ^ 32) (List.replicate 48 0), .quoteNonce 0 0 [], .quote 0 (2 ^ 32)] = true := by decide +kernel

/-! ### Numbers: the worked examples of spec/06, spec/07 and spec/14, and the check values of the public algorithms -/

/-- FP32 to LF8a, spec/06 "Example: FP32 to LF8a". -/
theorem test_lf8a_rows : ([0x3E99999A, 0xC3960000, 0x43F50000, 0x43F80000, 0xBA800000, 0x80000000, 0x7F800000, 0x7FC00000].map fun c =>
    convert .fp32 .lf8a .sat .tiesEven (ffp32.decode c)) =
    [(0x2A, fNX), (0xF9, fNX), (0x7F, fNX), (0x7F, fOF + fNX), (0x00, fUF + fNX), (0x00, 0), (0x7F, fNV), (0x80, 0)] := by decide +kernel

/-- The row of mode NAN. -/
theorem test_lf8a_nan_mode : convert .fp32 .lf8a .nan .tiesEven (ffp32.decode 0x43F80000) = (0x80, fOF + fNX) := by decide +kernel

/-- 0.75, -2.5, 11.0 and 0.1 share the scale 0x80, spec/06 "Example: an LF4 block"; the flags are the union. -/
theorem test_lf4_block : let xs := [0x3F400000, 0xC0200000, 0x41300000, 0x3DCCCCCD].map ffp32.decode
    let r := xs.map fun x => convert .fp32 .lf4 .sat .tiesEven (unscale 0x80 x)
    blockScale true xs = 0x80 ∧ r.map (·.1) = [0x1, 0xA, 0x7, 0x0] ∧ r.foldl (fun f x => flagOr f x.2) 0 = fUF + fNX := by decide +kernel

/-- The A48 code 1 + 2^-24 and its neighbour as FP32, spec/06 "Example: A48 rounded to FP32". -/
theorem test_a48_to_fp32 : ([0x3FF000001000, 0x3FF000001001].map fun c => convert .a48 .fp32 .sat .tiesEven (fa48.decode c)) =
    [(0x3F800000, fNX), (0x3F800001, fNX)] := by decide +kernel

/-- The step with and without its fourth pair, spec/07 "Example: the sticky bit decides a tie". -/
theorem test_sticky_bit : let p (a b : Nat) := (ffp64.decode a, ffp64.decode b)
    let l := [p 0x4130000000000000 0x4130000000000000, p 0xC130000000000000 0x4130000000000000, p 0x3D40000000008000 0x3FF0000000000000]
    fastStep (l ++ [p 0x3D20000000000000 0x3D20000000000000]) (some (.fin false 0 0)) = (0x3D4000000001, fNX, none) ∧
      fastStep l (some (.fin false 0 0)) = (0x3D4000000000, fNX, none) := by decide +kernel

/-- Element 5 and element 9 at their exponents, spec/14 "Example: a partial sum overflows". -/
theorem test_bsi_quantise : ([(128, 0x3FC00000), (128, 0x3FA00000), (128, 0xBF800000), (132, 0x3FE00000), (132, 0x32000000)].map fun r =>
    quantise false r.1 r.2) = [(0x30000000, 0), (0x28000000, 0), (0xE0000000, 0), (0x03800000, 0), (0, fUF + fNX)] := by decide +kernel

/-- At slot 2 the sum of pass 0 leaves the block flagged and zeroed. -/
theorem test_bsi_overflow : let b (v : Nat) : Blk := ⟨List.replicate 5 0 ++ [v] ++ List.replicate 26 0, 128, 0, false⟩
    bsiAdd 0 (b 0x58000000) (b 0x38000000) = (⟨List.replicate 32 0, 128, 0, true⟩, 0, false) := by decide +kernel

/-- SHA-384 of "abc" (FIPS 180-4). -/
theorem test_sha384_abc : leNat ((sha384 [0x61, 0x62, 0x63]).take 8).reverse = 0xCB00753F45A35E8B := by decide +kernel

/-- CRC-32 of IEEE 802.3 and CRC-32C of the digits 1 to 9. -/
theorem test_crc32_digits : let l := (List.range 9).map fun i => BitVec.ofNat 8 (0x31 + i)
    crc32 l = 0xCBF43926 ∧ crc32c l = 0xE3069283 := by decide +kernel

/-! ### The table gives no words -/

theorem test_no_word_spells_a_command : decodeTableWord 64 0 = none ∧ State.reset.withFetchWord 64 0 = State.reset := ⟨rfl, rfl⟩


/-! ### Witnesses: power, boot, tick -/

/-- The state after reset with this device. -/
def base (d : Dev) : State := { State.reset with dev := d }

/-- The device after reset with register fields written. -/
def regs (l : List (Fld × Nat)) : Dev := Dev.reset.puts l

/-- A tick control message of domain 0 from rank 5. -/
def tword (kind cause k tick : Nat) : TickWord := BitVec.ofNat 128 (tickWord kind 0 5 cause k 0 0 0 tick)

/-- A device of a role with domain port 0 and a parent there, in a tick state, at tick 7. -/
def inDomain (role state : Nat) (l : List (Fld × Nat)) : Dev :=
  { regs ([(F.TCK_CTRL_ROLE, role), (F.TCK_CTRL_PORTS, 1), (F.GTE_PORT_STATE 0, 4), (F.TCK_STATUS_STATE, state), (F.TCK_TN_TN, 7)] ++ l) with
    tick := { TickSt.reset with tree := { Tree.none with parent := some 0 } } }

/-- An image of one stream with one slot. -/
def oneSlot (engine index op w2 : Nat) (descs : List (List Byte)) (segs : List Segment) : Image :=
  { root := 0, programId := 0, baseTn := 0, passes := 0, ticks := 1, deviceCount := 1, rank := 0, domain := 0, len := 0, clustersReq := 0,
    trClass := 0, streams := [⟨engine, index, 0, [⟨100, op * 2 ^ 56 + 0xFFFF * 2 ^ 40, w2, 0⟩]⟩], steps := [], segs := segs, descs := descs,
    routes := [] }

/-- Partition 2 runs an image whose stream stands at its first slot. -/
def running (l : List (Fld × Nat)) (im : Image) (engine index : Nat) (started : Bool) : Dev :=
  { regs ([(F.TCK_STATUS_STATE, 2), (F.ARB_PART_ACTIVE 2, 1), (F.ARB_PART_MODE 2, 1)] ++ l) with
    tick := { TickSt.reset with tickDone := false },
    parts := [(2, { PartSt.reset with running := some im, positions := [⟨engine, index, 0, started⟩] })] }
/-- A boot stage's result. -/
def stageOf (pass a b : Bool) : StageResult := ⟨pass, a, b, false, [], [], [], false, 0⟩

theorem witness_PowerUpSequence :
    (∃ s : State, (s.dev.pwr.holdoff = false) ∧ (s.dev.pwr.ramping = false) ∧ (s.dev.pwr.pwrgd = false)) ∧
    (∃ s : State, (s.dev.pwr.holdoff = true)) ∧
    (∃ s : State, (s.dev.pwr.pwrEn = true) ∧ (s.dev.pwr.ramping = false) ∧ (s.dev.pwr.pwrgd = false)) ∧
    (∃ s : State, (s.dev.pwr.pwrEn = true) ∧ (s.dev.pwr.ramping = true) ∧ (s.dev.pwr.pwrgd = false)) :=
  ⟨⟨base { Dev.reset with pwr := { PowerSt.reset with pwrgd := false } }, by decide +kernel, by decide +kernel, by decide +kernel⟩,
    ⟨base { Dev.reset with pwr := { PowerSt.reset with pwrgd := false, holdoff := true } }, by decide +kernel⟩,
    ⟨base { Dev.reset with pwr := { PowerSt.reset with pwrgd := false } }, by decide +kernel, by decide +kernel, by decide +kernel⟩,
    ⟨base { Dev.reset with pwr := { PowerSt.reset with pwrgd := false, ramping := true } }, by decide +kernel, by decide +kernel, by decide +kernel⟩⟩

theorem witness_PowerDownRecordsItsCause :
    (∃ (s : State) (c : Instr) (cause : Nat), (s.powered) ∧ ((c, cause) ∈ [(Instr.pwrEnFall, 1), (.railOutOfRegulation, 4), (.undervoltage, 2), (.overvoltage, 3), (.thermtrip, 5)])) :=
  ⟨(base Dev.reset), .thermtrip, 5, by unfold State.powered; decide +kernel, by simp⟩

theorem witness_ClocksAndHoldover :
    (∃ s : State, (s.powered) ∧ (s.dev.pwr.trefSelected = true) ∧ (s.dev.pwr.holdover = false)) ∧
    (∃ s : State, (s.powered)) ∧
    (∃ s : State, (s.powered) ∧ (s.dev.pwr.holdover = true)) :=
  ⟨⟨base { Dev.reset with pwr := { PowerSt.reset with trefSelected := true } }, by unfold State.powered; decide +kernel, by decide +kernel, by decide +kernel⟩,
    ⟨(base Dev.reset), by unfold State.powered; decide +kernel⟩,
    ⟨base { Dev.reset with pwr := { PowerSt.reset with holdover := true } }, by unfold State.powered; decide +kernel, by decide +kernel⟩⟩

theorem witness_InputPinsAndCounters :
    (∃ (s : State) (vin : Nat), (s.powered) ∧ (3800 ≤ vin) ∧ (vin < 4000) ∧ (s.dev.get F.PWR_GOV_INPUT_LOW = 0)) ∧
    (∃ s : State, (s.powered) ∧ (s.dev.host.perst = false)) ∧
    (∃ (s : State) (die : Fin 21), (s.powered) ∧ (die.val ∉ s.dev.dtd.silent)) ∧
    (∃ s : State, (s.powered) ∧ (1200 ≤ s.dev.get F.PWR_SCI_CAP) ∧ (s.dev.get F.PWR_SCI_CAP ≤ 3200)) :=
  ⟨⟨(base Dev.reset), 3999, by unfold State.powered; decide +kernel, by decide +kernel, by decide +kernel, by decide +kernel⟩,
    ⟨base { Dev.reset with host := { HostSt.reset with perst := false } }, by unfold State.powered; decide +kernel, by decide +kernel⟩,
    ⟨(base Dev.reset), 20, by unfold State.powered; decide +kernel, by decide +kernel⟩,
    ⟨base (regs [(F.PWR_SCI_CAP, 1200)]), by unfold State.powered; decide +kernel, by decide +kernel, by decide +kernel⟩⟩

theorem witness_BootStagesRun :
    (∃ (s : State) (r : StageResult), (s.powered) ∧ (s.dev.get F.PWR_BOOT_STATE = dsInit) ∧ (s.dev.get F.PWR_BOOT_STAGE = 1) ∧ (s.vault.zeroiseBegun = false) ∧ (s.vault.bootCopy = 0) ∧ (s.vault.rollback ≤ s.vault.copyA.secVersion) ∧ (r.pass = true) ∧ (r.copyA = true)) ∧
    (∃ (s : State) (r : StageResult), (s.powered) ∧ (s.dev.get F.PWR_BOOT_STATE = dsInit) ∧ (s.dev.get F.PWR_BOOT_STAGE = 1) ∧ (r.copyA = false) ∧ (r.copyB = false)) ∧
    (∃ s : State, (s.powered) ∧ (s.dev.get F.PWR_BOOT_STATE = dsInit) ∧ (s.dev.get F.PWR_BOOT_STAGE = 7)) ∧
    (∃ s : State, (s.powered) ∧ (s.dev.get F.PWR_BOOT_STATE = dsInit)) ∧
    (∃ s : State, (s.powered) ∧ (s.dev.get F.PWR_BOOT_STATE ≠ dsInit)) :=
  ⟨⟨(base Dev.reset), stageOf true true true, by unfold State.powered; decide +kernel, by decide +kernel, by decide +kernel, by decide +kernel, by decide +kernel, by decide +kernel, by decide +kernel, by decide +kernel⟩,
    ⟨(base Dev.reset), stageOf false false false, by unfold State.powered; decide +kernel, by decide +kernel, by decide +kernel, by decide +kernel, by decide +kernel⟩,
    ⟨base (regs [(F.PWR_BOOT_STAGE, 7)]), by unfold State.powered; decide +kernel, by decide +kernel, by decide +kernel⟩,
    ⟨(base Dev.reset), by unfold State.powered; decide +kernel, by decide +kernel⟩,
    ⟨base (regs [(F.PWR_BOOT_STATE, 1)]), by unfold State.powered; decide +kernel, by decide +kernel⟩⟩

theorem witness_GovernorTakesTheLeastStretchThatFits :
    (∃ s : State, (s.powered)) :=
  ⟨(base Dev.reset), by unfold State.powered; decide +kernel⟩

theorem witness_StackThermalSteps :
    (∃ s : State, (s.powered)) ∧
    (∃ s : State, (s.powered) ∧ (s.dev.compat = true) ∧ (s.dev.dtd.silent = []) ∧ (s.dev.guest ≠ guAdmitted)) :=
  ⟨⟨(base Dev.reset), by unfold State.powered; decide +kernel⟩,
    ⟨base (regs [(F.DTD_CFG_THERM_COMPAT, 1)]), by unfold State.powered; decide +kernel, by decide +kernel, by decide +kernel, by decide +kernel⟩⟩

theorem witness_TickEnableAndDisable :
    (∃ s : State, (s.powered) ∧ (s.dev.on F.TCK_CTRL_ENABLE = false) ∧ (s.dev.tickState = tsOff) ∧ (s.dev.master = false)) ∧
    (∃ s : State, (s.powered) ∧ (s.dev.on F.TCK_CTRL_ENABLE = false) ∧ (s.dev.tickState = tsOff) ∧ (s.dev.solo = false) ∧ (s.dev.master = false) ∧ (s.dev.ready = true) ∧ (s.dev.tick.storedDue = true) ∧ (leNat (s.flash.configured 0x210008) = 1) ∧ (s.dev.maskUp = true)) ∧
    (∃ s : State, (s.powered) ∧ (s.dev.tick.storedDue = false)) ∧
    (∃ s : State, (s.powered) ∧ (s.dev.tickState = tsLocking ∨ s.dev.tickState = tsParked)) ∧
    (∃ s : State, (s.powered) ∧ (s.dev.tickState = tsRunning ∨ s.dev.tickState = tsHolding)) :=
  ⟨⟨(base Dev.reset), by unfold State.powered; decide +kernel, by decide +kernel, by decide +kernel, by decide +kernel⟩,
    ⟨{ base { regs [(F.PWR_BOOT_STATE, 1), (F.TCK_CTRL_ROLE, 1)] with tick := TickSt.reset } with flash := { Flash.reset with newest := some ⟨1, 1, true, true, [(0x210008, [1#8])]⟩ } }, by unfold State.powered; decide +kernel, by decide +kernel, by decide +kernel, by decide +kernel, by decide +kernel, by decide +kernel, by decide +kernel, by decide +kernel, by decide +kernel⟩,
    ⟨base { Dev.reset with tick := { TickSt.reset with storedDue := false } }, by unfold State.powered; decide +kernel, by decide +kernel⟩,
    ⟨base (regs [(F.TCK_STATUS_STATE, tsParked)]), by unfold State.powered; decide +kernel, by decide +kernel⟩,
    ⟨base (regs [(F.TCK_STATUS_STATE, tsHolding)]), by unfold State.powered; decide +kernel, by decide +kernel⟩⟩

theorem witness_HoldCausesAreAssertedAndCleared :
    (∃ s : State, (s.powered)) ∧
    (∃ s : State, (s.powered) ∧ (s.dev.held hcSoftware = false)) ∧
    (∃ (s : State) (p : Fin 12) (w : TickWord), (s.powered) ∧ (s.dev.takesTick p w tkHold) ∧ (s.dev.fresh? (tmsgOf w.toNat) = true) ∧ (s.dev.tick.tickDone = false) ∧ (s.dev.ticking = true) ∧ (s.dev.get F.TCK_TN_TN < (tmsgOf w.toNat).tick)) ∧
    (∃ (s : State) (p : Fin 12) (w : TickWord), (s.powered) ∧ (s.dev.takesTick p w tkHold) ∧ (s.dev.fresh? (tmsgOf w.toNat) = false)) :=
  ⟨⟨(base Dev.reset), by unfold State.powered; decide +kernel⟩,
    ⟨(base Dev.reset), by unfold State.powered; decide +kernel, by decide +kernel⟩,
    ⟨base { inDomain 1 2 [] with tick := { TickSt.reset with tickDone := false } }, 0, tword tkHold hcFault 0 8, by unfold State.powered; decide +kernel, by unfold Dev.takesTick; decide +kernel, by decide +kernel, by decide +kernel, by decide +kernel, by decide +kernel⟩,
    ⟨base { inDomain 1 2 [] with tick := { TickSt.reset with seen := [(5, hcFault, 0, 8)] } }, 0, tword tkHold hcFault 0 8, by unfold State.powered; decide +kernel, by unfold Dev.takesTick; decide +kernel, by decide +kernel⟩⟩

theorem witness_PeriodsTicksAndSlip :
    (∃ s : State, (s.powered) ∧ (s.dev.tickState = tsOff)) ∧
    (∃ s : State, (s.powered) ∧ (s.dev.ticking = true) ∧ (s.dev.tickFinished = false)) ∧
    (∃ s : State, (s.powered) ∧ (s.dev.ticking = true) ∧ (s.dev.tickFinished = true) ∧ (s.dev.solo = false) ∧ (s.dev.get F.TCK_TN_TN ≤ s.dev.tick.due) ∧ (s.dev.get F.TCK_TN_TN < 2 ^ 64 - 1) ∧ (s.dev.tick.targets = []) ∧ ((∀ p : Nat, p < 8 → s.dev.scheduled p = false)) ∧ ((∀ p : Nat, p < 8 → s.dev.crossAt p (s.dev.get F.TCK_TN_TN + 1) = none)) ∧ (s.dev.clus.swaps = []) ∧ (s.dev.clus.ficArmed = [])) ∧
    (∃ (s : State) (p : Nat) (im : Image), (s.powered) ∧ (p < 8) ∧ (s.dev.ticking = true) ∧ (s.dev.tickFinished = true) ∧ (s.dev.solo = false) ∧ (s.dev.get F.TCK_TN_TN ≤ s.dev.tick.due) ∧ (s.dev.get F.TCK_TN_TN < 2 ^ 64 - 1) ∧ (s.dev.tick.targets = []) ∧ ((∀ q : Nat, q < 8 → q ≠ p → s.dev.scheduled q = false)) ∧ ((∀ q : Nat, q < 8 → s.dev.crossAt q (s.dev.get F.TCK_TN_TN + 1) = none)) ∧ (s.dev.scheduled p = true) ∧ ((s.dev.part p).running = some im) ∧ ((s.dev.part p).staged = none) ∧ (s.dev.endedBy p im (s.dev.get F.TCK_TN_TN + 1) = false)) ∧
    (∃ s : State, (s.powered) ∧ (s.dev.ticking = true) ∧ (s.dev.tick.tickDone = false) ∧ (s.dev.slotsDone = true) ∧ (s.dev.solo = false) ∧ (s.dev.on F.TCK_CTRL_ENABLE = true) ∧ (s.dev.get F.TCK_TN_TN < 2 ^ 64 - 1) ∧ ((s.dev.get F.TCK_TN_TN + 1) ∈ s.dev.tick.targets)) ∧
    (∃ s : State, (s.powered) ∧ (s.dev.ticking = true) ∧ (s.dev.tick.tickDone = false) ∧ (s.dev.slotsDone = true) ∧ (s.dev.tick.due ≤ s.dev.get F.TCK_TN_TN) ∧ (s.dev.stopsBefore (s.dev.get F.TCK_TN_TN + 1) = false)) :=
  ⟨⟨(base Dev.reset), by unfold State.powered; decide +kernel, by decide +kernel⟩,
    ⟨base (running [] (oneSlot engTensor 3 opMatrix 0x11 [] []) engTensor 3 false), by unfold State.powered; decide +kernel, by decide +kernel, by decide +kernel⟩,
    ⟨base (inDomain 1 2 [(F.TCK_TN_TN, 0)]), by unfold State.powered; decide +kernel, by decide +kernel, by decide +kernel, by decide +kernel, by decide +kernel, by decide +kernel, by decide +kernel, by decide +kernel, by decide +kernel, by decide +kernel, by decide +kernel⟩,
    ⟨base { running [(F.TCK_CTRL_ROLE, 1)] (oneSlot engTensor 3 opMatrix 0x11 [] []) engTensor 3 false with tick := TickSt.reset }, 2, oneSlot engTensor 3 opMatrix 0x11 [] [], by unfold State.powered; decide +kernel, by decide +kernel, by decide +kernel, by decide +kernel, by decide +kernel, by decide +kernel, by decide +kernel, by decide +kernel, by decide +kernel, by decide +kernel, by decide +kernel, by decide +kernel, by decide +kernel, by decide +kernel⟩,
    ⟨base { inDomain 1 2 [(F.TCK_CTRL_ENABLE, 1)] with tick := { TickSt.reset with tickDone := false, targets := [8] } }, by unfold State.powered; decide +kernel, by decide +kernel, by decide +kernel, by decide +kernel, by decide +kernel, by decide +kernel, by decide +kernel, by decide +kernel⟩,
    ⟨base { inDomain 1 2 [] with tick := { TickSt.reset with tickDone := false } }, by unfold State.powered; decide +kernel, by decide +kernel, by decide +kernel, by decide +kernel, by decide +kernel, by decide +kernel⟩⟩

theorem witness_EpochsAndLinkDelay :
    (∃ (s : State) (p : Fin 12) (w : TickWord), (s.powered) ∧ (s.dev.takesTick p w tkEpoch) ∧ (s.dev.member = true) ∧ (s.dev.tick.tree.parent = some p)) ∧
    (∃ s : State, (s.powered) ∧ (s.dev.member = true) ∧ (s.dev.tickState ≠ tsOff) ∧ (s.dev.tick.watching = true) ∧ (64 ≤ s.dev.tick.sinceEpoch) ∧ (s.dev.held hcMasterLost = false) ∧ (s.dev.inForceNat 0x210004 ≠ s.dev.rank)) ∧
    (∃ s : State, (s.powered) ∧ (s.dev.member = true) ∧ (s.dev.tickState ≠ tsOff) ∧ (s.dev.tick.watching = true) ∧ (64 ≤ s.dev.tick.sinceEpoch) ∧ (s.dev.held hcMasterLost = false) ∧ (s.dev.inForceNat 0x210004 = s.dev.rank) ∧ (s.dev.on F.GTE_ID_RANKED = true)) ∧
    (∃ (s : State) (p : Fin 12), (s.powered) ∧ (s.dev.member = true) ∧ (s.dev.tickState ≠ tsOff) ∧ (s.dev.tick.tree.parent = some p)) ∧
    (∃ (s : State) (p : Fin 12) (w : TickWord), (s.powered) ∧ (s.dev.takesTick p w tkPing)) ∧
    (∃ (s : State) (p : Fin 12) (w : TickWord) (ts : Nat), (s.powered) ∧ (s.dev.takesTick p w tkPong) ∧ (s.dev.tick.tree.parent = some p) ∧ (s.dev.tick.pingOut = some ts)) ∧
    (∃ (s : State) (p : Fin 12) (w : TickWord) (kind : Nat), (s.powered) ∧ (s.dev.domainPort p = false ∨ (tmsgOf w.toNat).domain ≠ s.dev.get F.TCK_CTRL_DOMAIN ∨ (tmsgOf w.toNat).fieldsOk = false ∨ (tmsgOf w.toNat).kind ≠ kind) ∧ ∃ c : Instr, ((c, kind) ∈ [(Instr.epoch p w 0, tkEpoch), (.ping p w 0, tkPing), (.pong p w 0, tkPong), (.hold p w, tkHold), (.stretch p w, tkStretch), (.stretchReport p w, tkStretch), (.parked p w, tkParked), (.resume p w, tkResume)])) :=
  ⟨⟨base (inDomain 1 2 []), 0, tword tkEpoch 0 0 9, by unfold State.powered; decide +kernel, by unfold Dev.takesTick; decide +kernel, by decide +kernel, by decide +kernel⟩,
    ⟨base { inDomain 1 2 [] with tick := { TickSt.reset with watching := true, sinceEpoch := 64 }, objs := [(0x210004, [9#8, 0#8])] }, by unfold State.powered; decide +kernel, by decide +kernel, by decide +kernel, by decide +kernel, by decide +kernel, by decide +kernel, by decide +kernel⟩,
    ⟨base { inDomain 1 2 [(F.GTE_ID_RANKED, 1), (F.GTE_ID_RANK, 9)] with tick := { TickSt.reset with watching := true, sinceEpoch := 64 }, objs := [(0x210004, [9#8, 0#8])] }, by unfold State.powered; decide +kernel, by decide +kernel, by decide +kernel, by decide +kernel, by decide +kernel, by decide +kernel, by decide +kernel, by decide +kernel⟩,
    ⟨base (inDomain 1 2 []), 0, by unfold State.powered; decide +kernel, by decide +kernel, by decide +kernel, by decide +kernel⟩,
    ⟨base (inDomain 1 2 []), 0, tword tkPing 0 0 9, by unfold State.powered; decide +kernel, by unfold Dev.takesTick; decide +kernel⟩,
    ⟨base { inDomain 1 2 [] with tick := { TickSt.reset with tree := { Tree.none with parent := some 0 }, pingOut := some 3 } }, 0, tword tkPong 0 0 9, 3, by unfold State.powered; decide +kernel, by unfold Dev.takesTick; decide +kernel, by decide +kernel, by decide +kernel⟩,
    ⟨(base Dev.reset), 0, tword tkHold hcFault 0 8, tkHold, by unfold State.powered; decide +kernel, by decide +kernel, .hold 0 (tword tkHold hcFault 0 8), by simp⟩⟩

theorem witness_StretchParkAndResume :
    (∃ (s : State) (p : Fin 12) (w : TickWord), (s.powered) ∧ (s.dev.takesTick p w tkStretch) ∧ ((tmsgOf w.toNat).tick ≠ 0) ∧ (s.dev.fresh? (tmsgOf w.toNat) = true)) ∧
    (∃ (s : State) (p : Fin 12) (w : TickWord), (s.powered) ∧ (s.dev.takesTick p w tkStretch) ∧ ((tmsgOf w.toNat).tick = 0) ∧ ∃ c ∈ [Instr.stretch p w, .stretchReport p w], True) ∧
    (∃ s : State, (s.powered) ∧ (s.dev.master = true) ∧ (s.dev.ticking = true) ∧ (1024 ≤ s.dev.tick.belowFor) ∧ (s.dev.tick.stretches = [])) ∧
    (∃ (s : State) (p : Fin 12) (w : TickWord), (s.powered) ∧ (s.dev.takesTick p w tkParked)) ∧
    (∃ (s : State) (tree : Tree), (s.powered) ∧ (s.dev.master = true) ∧ (s.dev.tickState = tsParked) ∧ (s.dev.get F.TCK_STATUS_CAUSES = 0) ∧ (tree.tooDeep = []) ∧ (reachOk tree.reachNs (s.dev.get F.TCK_CTRL_LEN_PEND) = true) ∧ (s.dev.tick.members ≠ []) ∧ (s.dev.runningParts = []) ∧ ((∀ r ∈ s.dev.tick.members, ∃ x ∈ s.dev.tick.parked, x.rank = r ∧ x.rank ≠ s.dev.rank)) ∧ ((∀ x ∈ s.dev.tick.parked, x.causes = 0 ∧ x.tn = s.dev.get F.TCK_TN_TN ∧ x.runImg = false))) ∧
    (∃ (s : State) (p : Fin 12) (w : TickWord), (s.powered) ∧ (s.dev.takesTick p w tkResume) ∧ (s.dev.member = true) ∧ (s.dev.tick.tree.parent = some p) ∧ (s.dev.tickState = tsParked)) :=
  ⟨⟨base (inDomain 1 2 []), 0, tword tkStretch hcStretch 3 9, by unfold State.powered; decide +kernel, by unfold Dev.takesTick; decide +kernel, by decide +kernel, by decide +kernel⟩,
    ⟨base (inDomain 1 2 []), 0, tword tkStretch hcStretch 3 0, by unfold State.powered; decide +kernel, by unfold Dev.takesTick; decide +kernel, by decide +kernel, .stretchReport 0 (tword tkStretch hcStretch 3 0), by simp, trivial⟩,
    ⟨base { inDomain 2 2 [] with tick := { TickSt.reset with belowFor := 1024 } }, by unfold State.powered; decide +kernel, by decide +kernel, by decide +kernel, by decide +kernel, by decide +kernel⟩,
    ⟨base (inDomain 1 2 []), 0, tword tkParked 0 0 9, by unfold State.powered; decide +kernel, by unfold Dev.takesTick; decide +kernel⟩,
    ⟨base { inDomain 2 4 [] with tick := { TickSt.reset with members := [5], parked := [⟨5, 0, 7, 0, false, 0⟩] } }, Tree.none, by unfold State.powered; decide +kernel, by decide +kernel, by decide +kernel, by decide +kernel, by decide +kernel, by decide +kernel, by decide +kernel, by decide +kernel, by decide +kernel, by decide +kernel⟩,
    ⟨base (inDomain 1 4 []), 0, tword tkResume 0 0 9, by unfold State.powered; decide +kernel, by unfold Dev.takesTick; decide +kernel, by decide +kernel, by decide +kernel, by decide +kernel⟩⟩

/-! ### Witnesses: slots, clusters, thread groups -/

/-- All features negotiated. -/
def allFeatures : List (Fld × Nat) := [(F.IDF_NEG_BITS 0, 2 ^ 64 - 1), (F.IDF_NEG_BITS 1, 2 ^ 64 - 1)]

/-- A descriptor or record by its 64-bit words. -/
def words (l : List Nat) : List Byte := l.flatMap fun w => leBytes 8 w

/-- The only slot of `oneSlot`. -/
def slotOf (op w2 : Nat) : Slot := ⟨100, op * 2 ^ 56 + 0xFFFF * 2 ^ 40, w2, 0⟩

/-- Logical cluster 3 on physical cluster 3. -/
def mapped : List (Fld × Nat) := [(F.CLU_LMAP_VALID 3, 1), (F.CLU_LMAP_PHYS 3, 3), (F.CLU_ID_LOGICAL 3, 3)] ++ allFeatures

/-- A descriptor's slot of partition 2, cluster or engine 3, ready to start. -/
def ready (engine op w2 : Nat) (d : List Nat) (segs : List Segment) : State :=
  base (running mapped (oneSlot engine 3 op w2 [words d] segs) engine 3 false)

/-- A segment of 64 KiB, bound with every right. -/
def segment : Segment := ⟨0x10000, 0x10000, 7, [⟨0x10000, 0x10000, 0x1000000, 7⟩]⟩

/-- A launch of one block of one group. -/
def launch : Launch :=
  { id := 0, queue := none, part := 1, root := 3, entryPc := 0x10000, codeSeg := 0, argSeg := 0, argAddr := 0, argWords := 0, grid := 2, groups := 1,
    regs := 64, lsBase := 0, lsUnits := 0, setting := 0, strict := false, first := 0, count := 1, segs := [segment], next := 1, ended := 0,
    stopped := false, recalled := false, trapped := [], slot := none }

/-- Its block. -/
def block : Block := ⟨0, 0, 0, 0, [0], 0, 0x4000⟩

/-- Its group, with one live thread. -/
def group : Group := { newGroup launch 0 0 0 5 with live := 1, active := 1 }

/-- A device that runs it on cluster 0. -/
def resident (l : List (Fld × Nat)) (g : Group) : Dev :=
  { regs ([(F.CLU_LMAP_VALID 0, 1), (F.ARB_PART_ACTIVE 0, 0), (F.ARB_PART_ACTIVE 1, 1), (F.ARB_PART_CLUSTER_COUNT 1, 4), (F.IDF_ID_CLUSTERS, 384)] ++ allFeatures ++ l) with
    clus := { ClusSt.reset with groups := [(0, some g)], blocks := [block], launches := [launch], uregs := [(0, 0)] } }

/-- The same with a descriptor at the start of local store. -/
def wide (d : List Nat) (g : Group) : Dev := { resident [] g with sram := (⟨[], []⟩ : Mem).write 0 (words d) }

/-- What the group's instructions see. -/
def gxOf (g : Group) : Gx := ⟨0, 0, g, launch, block⟩

/-- Does a check give this result? -/
def okIs {ε α : Type} [DecidableEq α] (x : Except ε α) (a : α) : Bool :=
  match x with
  | .ok b => b == a
  | .error _ => false

theorem ok_of {ε α : Type} [DecidableEq α] {x : Except ε α} {a : α} (h : okIs x a = true) : x = .ok a := by
  cases x with
  | ok b => simp [okIs] at h; rw [h]
  | error e => simp [okIs] at h

theorem clearAt_of {x : Gx} {pc : Nat} (h : x.g.live ≠ 0) (e : x.g.stack = []) : x.clearAt pc := by
  refine ⟨h, fun r hr => ?_⟩
  rw [e] at hr
  cases hr

/-- A queue of partition 1 and root 3. -/
def queue0 : Queue := ⟨1, 1, 1, 3, 0, false, 0, 4, 0, 4, 0, qsRunning, 0, 0, 0, 0, 0, 0, 0⟩

/-- An entry of it with a descriptor. -/
def entry0 (type : Nat) (d : List Nat) (started : Bool) : Entry := ⟨5, 9, type, false, false, 3, 7, words d, started, none, false⟩

/-- A device that holds the entry; root 3 maps virtual addresses onto themselves. -/
def holding (l : List (Fld × Nat)) (m : Mem) (e : Entry) : Dev :=
  { regs ([(F.RBT_ROOT_VALID 3, 1), (F.RBT_ROOT_PART 3, 1), (F.ARB_PART_ACTIVE 0, 0), (F.ARB_PART_ACTIVE 1, 1), (F.ARB_PART_CLUSTER_COUNT 1, 4), (F.IDF_ID_CLUSTERS, 384),
      (F.CLU_LMAP_VALID 0, 1), (F.ARB_PART_CE_MASK 1, 0xFFFF)] ++ allFeatures ++ l) with
    mem := m,
    rbt := { RbtSt.reset with ranges := [⟨3, 0, 36, 0, 7⟩] },
    host := { HostSt.reset with queues := [(5, some queue0)], entries := [e] } }

theorem witness_ImagesLoadStageStopAndAbort :
    (∃ (s : State) (p : Fin 8), (s.powered) ∧ (s.dev.has ftScheduled = true) ∧ (s.dev.scheduled p = true) ∧ ((s.dev.part p).loading = none)) ∧
    (∃ (s : State) (p : Fin 8), (s.powered) ∧ (s.dev.has ftScheduled = true) ∧ (s.dev.scheduled p = true) ∧ ((s.dev.part p).loading ≠ none)) ∧
    (∃ (s : State) (p : Fin 8), (s.powered) ∧ (s.dev.has ftScheduled = true) ∧ (s.dev.scheduled p = false)) ∧
    (∃ (s : State) (p : Fin 8) (l : Load), (s.powered) ∧ ((s.dev.part p).loading = some l) ∧ (l.image = none) ∧ (l.size < 256 ∨ 2 ^ 26 < l.size)) ∧
    (∃ (s : State) (p : Fin 8) (l : Load) (im : Image), (s.powered) ∧ ((s.dev.part p).loading = some l) ∧ (l.image = some im) ∧ (im.segs = []) ∧ (s.dev.boundWaits im = false) ∧ (s.dev.imageBoundFail p im l.descOff = none) ∧ (s.dev.baseOk p im = true)) ∧
    (∃ (s : State) (p : Fin 8), (s.powered) ∧ (s.dev.scheduled p = true)) ∧
    (∃ (s : State) (p : Fin 8), (s.powered) ∧ (s.dev.get (F.SCH_STATUS_RUN p) = rnRunning)) ∧
    (∃ (s : State) (p : Fin 8) (v : Word), (s.powered) ∧ (s.dev.scheduled p = true) ∧ (s.dev.on (F.SCH_STOP_VALID p) = false) ∧ ((s.dev.part p).running = none ∨ s.dev.get (F.SCH_PASS_PASS p) < bits v.toNat 31 0)) :=
  ⟨⟨base (regs ([(F.ARB_PART_ACTIVE 2, 1), (F.ARB_PART_MODE 2, 1)] ++ allFeatures)), 2, by unfold State.powered; decide +kernel, by decide +kernel, by decide +kernel, by decide +kernel⟩,
    ⟨base { regs ([(F.ARB_PART_ACTIVE 2, 1), (F.ARB_PART_MODE 2, 1)] ++ allFeatures) with parts := [(2, { PartSt.reset with loading := some ⟨0, 0, none, none, 0, 0, 0⟩ })] }, 2, by unfold State.powered; decide +kernel, by decide +kernel, by decide +kernel, by decide +kernel⟩,
    ⟨base (regs allFeatures), 2, by unfold State.powered; decide +kernel, by decide +kernel, by decide +kernel⟩,
    ⟨base { Dev.reset with parts := [(2, { PartSt.reset with loading := some ⟨0, 255, none, none, 0, 0, 0⟩ })] }, 2, ⟨0, 255, none, none, 0, 0, 0⟩, by unfold State.powered; decide +kernel, by decide +kernel, by decide +kernel, by decide +kernel⟩,
    ⟨base { Dev.reset with parts := [(2, { PartSt.reset with loading := some ⟨0, 256, some 0, some { (oneSlot engTensor 3 opMatrix 0x11 [] []) with baseTn := 1 }, 0, 0, 0⟩ })] }, 2, ⟨0, 256, some 0, some { (oneSlot engTensor 3 opMatrix 0x11 [] []) with baseTn := 1 }, 0, 0, 0⟩, { (oneSlot engTensor 3 opMatrix 0x11 [] []) with baseTn := 1 }, by unfold State.powered; decide +kernel, by decide +kernel, by decide +kernel, by decide +kernel, by decide +kernel, by decide +kernel, by decide +kernel⟩,
    ⟨base (running [] (oneSlot engTensor 3 opMatrix 0x11 [] []) engTensor 3 false), 2, by unfold State.powered; decide +kernel, by decide +kernel⟩,
    ⟨base (regs [(F.SCH_STATUS_RUN 2, rnRunning)]), 2, by unfold State.powered; decide +kernel, by decide +kernel⟩,
    ⟨base (running [] (oneSlot engTensor 3 opMatrix 0x11 [] []) engTensor 3 false), 2, 1#64, by unfold State.powered; decide +kernel, by decide +kernel, by decide +kernel, by decide +kernel⟩⟩

theorem witness_SlotsWaitStartCompleteAndOverrun :
    (∃ (s : State) (p : Fin 8) (cl : Fin 384) (port : Fin 12) (sq : Fin 2) (ce : Fin 16) (eng : Fin 7) (idx : Nat) (b : Bool) (c : Instr) (e i op : Nat), (s.powered) ∧ ((c, e, i, op) ∈ [(Instr.nop p eng idx, eng.val, idx, opNop), (.matrixOperation p cl b, engTensor, cl.val, opMatrix), (.storeA48 p cl, engTensor, cl.val, opAccStore), (.loadA48 p cl b, engTensor, cl.val, opAccLoad), (.threadGroupLaunch p cl, engLaunch, cl.val, opLaunch), (.dataMoverTransfer p cl b, engMover, cl.val, opMover), (.send p port b, engGate, port.val, opSend), (.recv p port b, engGate, port.val, opRecv), (.collective p sq b, engSquare, sq.val, opCollective), (.scheduledCopy p ce b, engCopy, ce.val, opCopy), (.bestEffortWindow p ce, engCopy, ce.val, opWindow)]) ∧ (s.dev.slotReady p e i op = none)) ∧
    (∃ (s : State) (p : Fin 8) (cl : Fin 384) (port : Fin 12) (sq : Fin 2) (ce : Fin 16) (eng : Fin 7) (idx : Nat) (b : Bool) (c : Instr) (e i op : Nat), (s.powered) ∧ ((c, e, i, op) ∈ [(Instr.nop p eng idx, eng.val, idx, opNop), (.matrixOperation p cl b, engTensor, cl.val, opMatrix), (.storeA48 p cl, engTensor, cl.val, opAccStore), (.loadA48 p cl b, engTensor, cl.val, opAccLoad), (.threadGroupLaunch p cl, engLaunch, cl.val, opLaunch), (.dataMoverTransfer p cl b, engMover, cl.val, opMover), (.send p port b, engGate, port.val, opSend), (.recv p port b, engGate, port.val, opRecv), (.collective p sq b, engSquare, sq.val, opCollective), (.scheduledCopy p ce b, engCopy, ce.val, opCopy), (.bestEffortWindow p ce, engCopy, ce.val, opWindow)]) ∧ ∃ (r : SlotRef) (sl : Slot), (s.dev.slotReady p e i op = some (r, sl)) ∧ (s.dev.tick.quench = true)) ∧
    (∃ (s : State) (p : Fin 8) (eng : Fin 7) (idx : Nat) (r : SlotRef) (sl : Slot), (s.powered) ∧ (s.dev.slotStarts p eng idx opNop r sl)) ∧
    (∃ (s : State) (p : Fin 8) (ce : Fin 16) (r : SlotRef) (sl : Slot), (s.powered) ∧ (s.dev.slotStarts p engCopy ce opWindow r sl)) ∧
    (∃ (s : State) (p : Fin 8) (eng : Fin 7) (idx : Nat) (q : StreamPos) (sl : Slot), (s.powered) ∧ (s.dev.openSlot p eng idx = some (q, sl)) ∧ (s.dev.slotEnded p idx q sl = true)) ∧
    (∃ (s : State) (p : Fin 8) (eng : Fin 7) (idx excess : Nat) (q : StreamPos) (sl : Slot), (s.powered) ∧ (s.dev.openSlot p eng idx = some (q, sl)) ∧ (0 < excess) ∧ (sl.op ≠ opNop) ∧ (s.dev.tick.quench = false) ∧ (s.dev.overran p = false) ∧ (s.dev.held hcDebug = false)) :=
  ⟨⟨base Dev.reset, 2, 3, 0, 0, 0, 0, 3, true, .matrixOperation 2 3 true, engTensor, 3, opMatrix, by unfold State.powered; decide +kernel, by decide +kernel, by decide +kernel⟩,
    ⟨base { (running [] (oneSlot engTensor 3 opMatrix 0x11 [] []) engTensor 3 false) with tick := { TickSt.reset with tickDone := false, quench := true } }, 2, 3, 0, 0, 0, 0, 3, true, .matrixOperation 2 3 true, engTensor, 3, opMatrix, by unfold State.powered; decide +kernel, by decide +kernel, ⟨2, engTensor, 3, 0⟩, slotOf opMatrix 0x11, by decide +kernel, by decide +kernel⟩,
    ⟨base (running [] (oneSlot engGate 3 opNop 0 [] []) engGate 3 false), 2, 4, 3, ⟨2, engGate, 3, 0⟩, slotOf opNop 0, by unfold State.powered; decide +kernel, by unfold Dev.slotStarts; decide +kernel⟩,
    ⟨base (running [] (oneSlot engCopy 3 opWindow 0 [] []) engCopy 3 false), 2, 3, ⟨2, engCopy, 3, 0⟩, slotOf opWindow 0, by unfold State.powered; decide +kernel, by unfold Dev.slotStarts; decide +kernel⟩,
    ⟨base (running [] (oneSlot engGate 3 opNop 0 [] []) engGate 3 true), 2, 4, 3, ⟨engGate, 3, 0, true⟩, slotOf opNop 0, by unfold State.powered; decide +kernel, by decide +kernel, by decide +kernel⟩,
    ⟨base (running [] (oneSlot engCopy 3 opWindow 0 [] []) engCopy 3 true), 2, 6, 3, 1, ⟨engCopy, 3, 0, true⟩, slotOf opWindow 0, by unfold State.powered; decide +kernel, by decide +kernel, by decide +kernel, by decide +kernel, by decide +kernel, by decide +kernel, by decide +kernel⟩⟩

theorem witness_TensorSlotsMoveAndMultiply :
    (∃ (s : State) (p : Fin 8) (cl : Fin 384) (phys : Nat) (r : SlotRef) (sl : Slot), (s.powered) ∧ (s.dev.slotStarts p engTensor cl opMatrix r sl) ∧ (s.dev.physOf cl = some phys) ∧ let d := s.dev.startSlot r; let m := matDesc (d.imageDesc p sl.desc); let sp := d.windowSpan p phys; (d.matCheck phys sl.strict (unitsOf sl.units) sp m = stOk) ∧ (m.kSteps = 1) ∧ (m.acc = false) ∧ (sl.strict = false) ∧ (codeFloat m.fmtA = false) ∧ (((matReads sp m (unitsOf sl.units)).any fun x => d.lsBad phys x.1 x.2) = false)) ∧
    (∃ (s : State) (p : Fin 8) (cl : Fin 384) (phys u : Nat) (r : SlotRef) (sl : Slot), (s.powered) ∧ (s.dev.slotStarts p engTensor cl opAccStore r sl) ∧ (s.dev.physOf cl = some phys) ∧ (unitsOf sl.units = [u]) ∧ let d := s.dev.startSlot r; let a := accDesc (d.imageDesc p sl.desc); (d.accCheck sl.units (d.windowSpan p phys) a = stOk)) ∧
    (∃ (s : State) (p : Fin 8) (cl : Fin 384) (phys u : Nat) (r : SlotRef) (sl : Slot), (s.powered) ∧ (s.dev.slotStarts p engTensor cl opAccLoad r sl) ∧ (s.dev.physOf cl = some phys) ∧ (unitsOf sl.units = [u]) ∧ let d := s.dev.startSlot r; let a := accDesc (d.imageDesc p sl.desc); let at_ := (d.windowSpan p phys).base + a.addr + u * a.ustep; (d.accCheck sl.units (d.windowSpan p phys) a = stOk) ∧ (d.lsBad phys at_ 0x2000 = false)) ∧
    (∃ (s : State) (p : Fin 8) (cl : Fin 384) (phys : Nat) (r : SlotRef) (sl : Slot), (s.powered) ∧ (s.dev.slotStarts p engTensor cl opMatrix r sl) ∧ (s.dev.physOf cl = some phys) ∧ let d := s.dev.startSlot r; let st := d.matCheck phys sl.strict (unitsOf sl.units) (d.windowSpan p phys) (matDesc (d.imageDesc p sl.desc)); (st ≠ stOk)) :=
  ⟨⟨ready engTensor opMatrix 0x10 ([0, 0, 0, 0, 0, 0, 0x10880, 0]) [], 2, 3, 3, ⟨2, engTensor, 3, 0⟩, slotOf opMatrix 0x10, by unfold State.powered; decide +kernel, by unfold Dev.slotStarts; decide +kernel, by decide +kernel, by decide +kernel, by decide +kernel, by decide +kernel, by decide +kernel, by decide +kernel, by decide +kernel⟩,
    ⟨ready engTensor opAccStore 0x10 [64] [], 2, 3, 3, 0, ⟨2, engTensor, 3, 0⟩, slotOf opAccStore 0x10, by unfold State.powered; decide +kernel, by unfold Dev.slotStarts; decide +kernel, by decide +kernel, by decide +kernel, by decide +kernel⟩,
    ⟨ready engTensor opAccLoad 0x80 [0, 64] [], 2, 3, 3, 3, ⟨2, engTensor, 3, 0⟩, slotOf opAccLoad 0x80, by unfold State.powered; decide +kernel, by unfold Dev.slotStarts; decide +kernel, by decide +kernel, by decide +kernel, by decide +kernel, by decide +kernel⟩,
    ⟨ready engTensor opMatrix 0x10 [8, 0, 0, 0, 0, 0, 0x10888, 1] [], 2, 3, 3, ⟨2, engTensor, 3, 0⟩, slotOf opMatrix 0x10, by unfold State.powered; decide +kernel, by unfold Dev.slotStarts; decide +kernel, by decide +kernel, by decide +kernel⟩⟩

theorem witness_MoverCopyAndLaunchSlots :
    (∃ (s : State) (p : Fin 8) (cl : Fin 384) (phys : Nat) (r : SlotRef) (sl : Slot), (s.powered) ∧ (s.dev.slotStarts p engMover cl opMover r sl) ∧ (s.dev.physOf cl = some phys) ∧ let d := s.dev.startSlot r; let m := movDesc (d.imageDesc p sl.desc); let sp := d.windowSpan p phys; let sg := (d.imageSegs p).getD m.seg ⟨0, 0, 0, []⟩; let va := sg.base + m.memOffset; (movReserved false m = true) ∧ (movEmpty m = false) ∧ (movSegCheck sp (d.imageSegs p) m = stOk) ∧ (d.runsWait (movAllRuns sg.extents va m) = false) ∧ ((d.movRun phys sp sg.extents va m false).1 = stOk)) ∧
    (∃ (s : State) (p : Fin 8) (ce : Fin 16) (r : SlotRef) (sl : Slot) (a b : Nat), (s.powered) ∧ (s.dev.slotStarts p engCopy ce opCopy r sl) ∧ let d := s.dev.startSlot r; let m := copyDesc (d.imageDesc p sl.desc); let segs := d.imageSegs p; (m.total ≠ 0) ∧ (m.piece 0 4096 = (m.src, m.dst, m.total)) ∧ (segRuns segs m.src m.total = [(a, m.total)]) ∧ (segRuns segs m.dst m.total = [(b, m.total)]) ∧ ((hostRuns (copySegRuns segs m.dst m.dstStride m) && !d.on F.HST_LINK_BME) = false) ∧ (d.runsWait (copySegRuns segs m.src m.srcStride m) = false) ∧ (d.runsWait (copySegRuns segs m.dst m.dstStride m) = false) ∧ ((d.readStatus a m.total false).1 = stOk) ∧ (d.writeStatus b m.total = stOk)) ∧
    (∃ (s : State) (p : Fin 8) (cl : Fin 384) (phys : Nat) (r : SlotRef) (sl : Slot), (s.powered) ∧ (s.dev.slotStarts p engLaunch cl opLaunch r sl) ∧ (s.dev.physOf cl = some phys) ∧ let d := s.dev.startSlot r; let m := launchDesc (d.imageDesc p sl.desc); ((d.l1Invalidate phys).launchCheck12 m m.zerosSched = none)) :=
  ⟨⟨ready engMover opMover 0 [0, 0, 0, 0x1000040, 0] [segment], 2, 3, 3, ⟨2, engMover, 3, 0⟩, slotOf opMover 0, by unfold State.powered; decide +kernel, by unfold Dev.slotStarts; decide +kernel, by decide +kernel, by decide +kernel, by decide +kernel, by decide +kernel, by decide +kernel, by decide +kernel⟩,
    ⟨ready engCopy opCopy 0 [0, 0x800, 0, 0, 0x100000040, 0, 0, 0] [segment], 2, 3, ⟨2, engCopy, 3, 0⟩, slotOf opCopy 0, 0x1000000, 0x1000800, by unfold State.powered; decide +kernel, by unfold Dev.slotStarts; decide +kernel, by decide +kernel, by decide +kernel, by decide +kernel, by decide +kernel, by decide +kernel, by decide +kernel, by decide +kernel, by decide +kernel, by decide +kernel⟩,
    ⟨ready engLaunch opLaunch 0 [0x10000, 0, 0x100001001, 0, 0, 0, 1, 0] [segment], 2, 3, 3, ⟨2, engLaunch, 3, 0⟩, slotOf opLaunch 0, by unfold State.powered; decide +kernel, by unfold Dev.slotStarts; decide +kernel, by decide +kernel, by decide +kernel⟩⟩

theorem witness_ClusterSpillSettingAndCounters :
    (∃ s : State, (s.powered)) ∧
    (∃ s : State, (s.powered)) ∧
    (∃ (s : State) (c : Fin 400) (v : Word), (s.powered) ∧ (s.dev.quiescent c = true) ∧ (bits v.toNat 37 32 = 0 ∨ s.dev.has ftSpill = true)) ∧
    (∃ (s : State) (c : Fin 400), (s.powered) ∧ (s.dev.quiescent c = false)) ∧
    (∃ (s : State) (l : Fin 384) (phys : Nat), (s.powered) ∧ (s.dev.physOf l = some phys) ∧ (phys < 400) ∧ (s.dev.get (F.CLU_SRAM_PENDING phys) ≠ 0) ∧ (s.dev.quiescent phys = true)) :=
  ⟨⟨base (regs mapped), by unfold State.powered; decide +kernel⟩,
    ⟨base (regs mapped), by unfold State.powered; decide +kernel⟩,
    ⟨base (regs [(F.CLU_ID_LOGICAL 7, 7)]), 7, 5#64, by unfold State.powered; decide +kernel, by decide +kernel, by decide +kernel⟩,
    ⟨base (resident [] group), 0, by unfold State.powered; decide +kernel, by decide +kernel⟩,
    ⟨base (regs (mapped ++ [(F.CLU_SRAM_PENDING 3, 2)])), 3, 3, by unfold State.powered; decide +kernel, by decide +kernel, by decide +kernel, by decide +kernel, by decide +kernel⟩⟩

theorem witness_SparesTakeOverClusters :
    (∃ s : State, (s.powered)) ∧
    (∃ (s : State) (l : Fin 384) (phys c : Nat), (s.powered) ∧ (s.dev.get F.CLU_SWAP_STATUS ≠ swPending) ∧ (s.dev.has ftSpares = true) ∧ (s.dev.physOf l = some phys) ∧ (s.dev.spareOf phys = some c) ∧ (s.dev.clus.swaps = []) ∧ (s.dev.uncovered s.dev.trcWithSpare = [])) ∧
    (∃ (s : State) (l : Fin 384) (phys : Nat), (s.powered) ∧ (s.dev.get F.CLU_SWAP_STATUS ≠ swPending) ∧ (s.dev.has ftSpares = true) ∧ (s.dev.physOf l = some phys) ∧ (s.dev.spareOf phys = none) ∧ (s.dev.clus.swaps = [])) ∧
    (∃ (s : State) (l : Fin 384) (phys c : Nat), (s.powered) ∧ (s.dev.has ftSpares = true) ∧ (s.dev.inForceNat 0x230001 = 1) ∧ (s.dev.physOf l = some phys) ∧ (s.dev.spareOf phys = some c) ∧ (s.dev.clus.swaps = []) ∧ (s.dev.uncovered s.dev.trcWithSpare = [])) ∧
    (∃ (s : State) (w : Swap) (old new : Nat), (s.powered) ∧ (s.dev.clus.swaps = [w]) ∧ (w.logical < 384) ∧ (s.dev.physOf w.logical = some old) ∧ (old < 400) ∧ (s.dev.get (F.CLU_ID_STATE old) = 0) ∧ (s.dev.spareOf old = some new) ∧ (s.dev.swapDue w old = true)) ∧
    (∃ (s : State) (w : Swap) (phys : Nat), (s.powered) ∧ (s.dev.clus.swaps = [w]) ∧ (s.dev.physOf w.logical = some phys) ∧ (s.dev.clusterPart w.logical = none) ∧ (s.dev.quiescent phys = false)) :=
  ⟨⟨base (regs mapped), by unfold State.powered; decide +kernel⟩,
    ⟨base (regs (mapped ++ [(F.CLU_ID_STATE 96, 1)])), 3, 3, 96, by unfold State.powered; decide +kernel, by decide +kernel, by decide +kernel, by decide +kernel, by decide +kernel, by decide +kernel, by decide +kernel⟩,
    ⟨base (regs (mapped ++ [(F.CLU_ID_STATE 96, 3), (F.CLU_ID_STATE 97, 3), (F.CLU_ID_STATE 98, 3), (F.CLU_ID_STATE 99, 2)])), 3, 3, by unfold State.powered; decide +kernel, by decide +kernel, by decide +kernel, by decide +kernel, by decide +kernel, by decide +kernel⟩,
    ⟨base { regs (mapped ++ [(F.CLU_ID_STATE 96, 1)]) with objs := [(0x230001, [1#8])] }, 3, 3, 96, by unfold State.powered; decide +kernel, by decide +kernel, by decide +kernel, by decide +kernel, by decide +kernel, by decide +kernel, by decide +kernel⟩,
    ⟨base { regs (mapped ++ [(F.CLU_ID_STATE 96, 1)]) with clus := { ClusSt.reset with swaps := [⟨3, false, none, false⟩] } }, ⟨3, false, none, false⟩, 3, 96, by unfold State.powered; decide +kernel, by decide +kernel, by decide +kernel, by decide +kernel, by decide +kernel, by decide +kernel, by decide +kernel, by decide +kernel⟩,
    ⟨base { resident [(F.ARB_PART_ACTIVE 1, 0)] group with clus := { (resident [] group).clus with swaps := [⟨0, false, none, false⟩] } }, ⟨0, false, none, false⟩, 0, by unfold State.powered; decide +kernel, by decide +kernel, by decide +kernel, by decide +kernel, by decide +kernel⟩⟩

theorem witness_GroupsBranchExitAndMeet :
    (∃ (s : State) (r : GroupRef) (x : Gx) (reconv fall : Nat) (taken : BitVec 32), (s.powered) ∧ (s.dev.runs r x) ∧ (x.g.live ≠ 0) ∧ (x.g.stack.length < 32) ∧ (taken.toNat &&& x.g.active ≠ 0) ∧ (taken.toNat &&& x.g.active ≠ x.g.active) ∧ (reconv ≠ fall) ∧ (maskMinus x.g.active (taken.toNat &&& x.g.active) ≠ 0)) ∧
    (∃ (s : State) (r : GroupRef) (x : Gx) (reconv fall : Nat) (br : Branch) (h : Group), (s.powered) ∧ (s.dev.runs r x) ∧ (x.g.branch reconv fall br = some h) ∧ (h.live ≠ 0) ∧ (h.active ≠ 0) ∧ ((∀ e : Reconv, h.stack.head? = some e → e.addr ≠ h.pc))) ∧
    (∃ (s : State) (r : GroupRef) (x : Gx) (taken : BitVec 32), (s.powered) ∧ (s.dev.runs r x) ∧ (32 ≤ x.g.stack.length) ∧ (taken.toNat &&& x.g.active ≠ 0) ∧ (taken.toNat &&& x.g.active ≠ x.g.active) ∧ (s.dev.on F.TGD_CTRL_TRAP_STOP = true)) ∧
    (∃ (s : State) (r : GroupRef) (x : Gx) (mask : BitVec 32), (s.powered) ∧ (s.dev.runs r x) ∧ (x.clearAt (x.g.pc + instrBytes)) ∧ (maskMinus x.g.live (mask.toNat &&& x.g.active) ≠ 0) ∧ (maskMinus x.g.active (mask.toNat &&& x.g.active) ≠ 0)) ∧
    (∃ (s : State) (r : GroupRef) (x : Gx) (mask : BitVec 32), (s.powered) ∧ (s.dev.runs r x) ∧ (maskMinus x.g.live (mask.toNat &&& x.g.active) = 0)) ∧
    (∃ (s : State) (r : GroupRef) (x : Gx), (s.powered) ∧ (s.dev.runs r x) ∧ (x.g.stack = []) ∧ (x.g.live ≠ 0) ∧ (x.g.active = x.g.live) ∧ ((∃ y ∈ s.dev.liveGroups x.b, y.1 ≠ x.k ∧ maskSub y.2.live y.2.arrived = false))) ∧
    (∃ (s : State) (r : GroupRef) (x : Gx), (s.powered) ∧ (s.dev.runs r x) ∧ (x.g.stack = []) ∧ (x.g.live ≠ 0) ∧ (x.g.active = x.g.live) ∧ (x.k ∈ x.b.groups) ∧ ((∀ y ∈ s.dev.liveGroups x.b, y.1 ≠ x.k → maskSub y.2.live y.2.arrived = true))) :=
  ⟨⟨base (resident [] ({ group with live := 3, active := 3 })), (⟨0, 0⟩), gxOf ({ group with live := 3, active := 3 }), 0x10040, 0x10010, 1#32, by unfold State.powered; decide +kernel, by unfold Dev.runs; decide +kernel, by decide +kernel, by decide +kernel, by decide +kernel, by decide +kernel, by decide +kernel, by decide +kernel⟩,
    ⟨base (resident [] ({ group with live := 3, active := 3 })), (⟨0, 0⟩), gxOf ({ group with live := 3, active := 3 }), 0x10040, 0x10010, .direct 0x10020 3#32, { ({ group with live := 3, active := 3 }) with pc := 0x10020 }, by unfold State.powered; decide +kernel, by unfold Dev.runs; decide +kernel, by decide +kernel, by decide +kernel, by decide +kernel, by intro e h; cases h⟩,
    ⟨base (resident [(F.TGD_CTRL_TRAP_STOP, 1)] ({ group with live := 3, active := 3, stack := List.replicate 32 ⟨0x10040, 3, 1, []⟩ })), (⟨0, 0⟩), gxOf ({ group with live := 3, active := 3, stack := List.replicate 32 ⟨0x10040, 3, 1, []⟩ }), 1#32, by unfold State.powered; decide +kernel, by unfold Dev.runs; decide +kernel, by decide +kernel, by decide +kernel, by decide +kernel, by decide +kernel⟩,
    ⟨base (resident [] ({ group with live := 3, active := 3 })), (⟨0, 0⟩), gxOf ({ group with live := 3, active := 3 }), 1#32, by unfold State.powered; decide +kernel, by unfold Dev.runs; decide +kernel, (by apply clearAt_of <;> decide +kernel), by decide +kernel, by decide +kernel⟩,
    ⟨base (resident [] group), (⟨0, 0⟩), gxOf group, 1#32, by unfold State.powered; decide +kernel, by unfold Dev.runs; decide +kernel, by decide +kernel⟩,
    ⟨base { resident [] group with clus := { (resident [] group).clus with groups := [(0, some group), (1, some group)], blocks := [{ block with groups := [0, 1] }] } }, (⟨0, 0⟩), ⟨0, 0, group, launch, { block with groups := [0, 1] }⟩, by unfold State.powered; decide +kernel, by unfold Dev.runs; decide +kernel, by decide +kernel, by decide +kernel, by decide +kernel, by decide +kernel⟩,
    ⟨base (resident [] group), (⟨0, 0⟩), gxOf group, by unfold State.powered; decide +kernel, by unfold Dev.runs; decide +kernel, by decide +kernel, by decide +kernel, by decide +kernel, by decide +kernel, by decide +kernel⟩⟩

theorem witness_GroupArithmetic :
    (∃ (s : State) (r : GroupRef) (x : Gx) (op : FloatOp) (fmt : Fmt) (dst a b c : Fin 256) (f : FloatFmt), (s.powered) ∧ (s.dev.runs r x) ∧ (x.clearAt (x.g.pc + instrBytes)) ∧ (x.g.regs ≤ 256) ∧ (fmt.float = some f) ∧ (fmt.ieee = true) ∧ let cmp : Bool := op == .lt || op == .le || op == .eq; (badReg x ([(dst.val, if cmp then 1 else regsOf (elemBytes fmt)), (a.val, regsOf (elemBytes fmt))] ++ (if op = .sqrt then [] else [(b.val, regsOf (elemBytes fmt))]) ++ (if op = .fma then [(c.val, regsOf (elemBytes fmt))] else [])) = false)) ∧
    (∃ (s : State) (r : GroupRef) (x : Gx) (src dst : Fmt) (mode : ConvMode) (rm : Rm) (rd rs : Fin 256), (s.powered) ∧ (s.dev.runs r x) ∧ (x.clearAt (x.g.pc + instrBytes)) ∧ (x.g.regs ≤ 256) ∧ (infRefused dst mode = false) ∧ (convDefined src dst rm = true) ∧ (badReg x [(rd.val, regsOf (elemBytes dst)), (rs.val, regsOf (elemBytes src))] = false)) ∧
    (∃ (s : State) (r : GroupRef) (x : Gx) (lf4 : Bool) (src : Fmt) (mode : ConvMode) (rd rs : Fin 256), (s.powered) ∧ (s.dev.runs r x) ∧ (x.clearAt (x.g.pc + instrBytes)) ∧ (x.g.regs ≤ 256) ∧ (infRefused .lf4 mode = false) ∧ (blockSource src = true) ∧ let words := if lf4 then 2 else 3; (badReg x [(rd.val, words + 1), (rs.val, 16 * regsOf (elemBytes src))] = false)) ∧
    (∃ (s : State) (r : GroupRef) (x : Gx), (s.powered) ∧ (s.dev.runs r x) ∧ (x.clearAt (x.g.pc + instrBytes))) :=
  ⟨⟨base (resident [] group), (⟨0, 0⟩), gxOf group, .fma, .fp32, 61, 60, 2, 63, ffp32, by unfold State.powered; decide +kernel, by unfold Dev.runs; decide +kernel, (by apply clearAt_of <;> decide +kernel), by decide +kernel, by decide +kernel, by decide +kernel, by decide +kernel⟩,
    ⟨base (resident [] group), (⟨0, 0⟩), gxOf group, .fp32, .lf8a, .sat, .tiesEven, 63, 0, by unfold State.powered; decide +kernel, by unfold Dev.runs; decide +kernel, (by apply clearAt_of <;> decide +kernel), by decide +kernel, by decide +kernel, by decide +kernel, by decide +kernel⟩,
    ⟨base (resident [] group), (⟨0, 0⟩), gxOf group, true, .fp32, .sat, 61, 48, by unfold State.powered; decide +kernel, by unfold Dev.runs; decide +kernel, (by apply clearAt_of <;> decide +kernel), by decide +kernel, by decide +kernel, by decide +kernel, by decide +kernel⟩,
    ⟨base (resident [] group), (⟨0, 0⟩), gxOf group, by unfold State.powered; decide +kernel, by unfold Dev.runs; decide +kernel, (by apply clearAt_of <;> decide +kernel)⟩⟩

theorem witness_GroupLoadsAndStores :
    (∃ (s : State) (r : GroupRef) (x : Gx) (addrs : List Nat) (sz : Fin 4) (dst : Fin 256) (l : List (Nat × Nat)), (s.powered) ∧ (s.dev.runs r x) ∧ (x.clearAt (x.g.pc + instrBytes)) ∧ (x.g.regs ≤ 256) ∧ (badReg x [(dst.val, regsOf (2 ^ sz.val))] = false) ∧ (s.dev.lsAccessAll x addrs (2 ^ sz.val) = .ok l) ∧ ((l.any fun q => s.dev.lsBad x.phys q.2 (2 ^ sz.val)) = false)) ∧
    (∃ (s : State) (r : GroupRef) (x : Gx) (addrs : List Nat) (sz : Fin 4) (src : Fin 256) (th a : Nat), (s.powered) ∧ (s.dev.runs r x) ∧ (x.clearAt (x.g.pc + instrBytes)) ∧ (badReg x [(src.val, regsOf (2 ^ sz.val))] = false) ∧ (s.dev.lsAccessAll x addrs (2 ^ sz.val) = .ok [(th, a)])) ∧
    (∃ (s : State) (r : GroupRef) (x : Gx) (addrs : List Nat) (sz : Fin 4) (dst : Fin 256) (th pa : Nat), (s.powered) ∧ (s.dev.runs r x) ∧ (x.clearAt (x.g.pc + instrBytes)) ∧ (x.g.regs ≤ 256) ∧ (badReg x [(dst.val, regsOf (2 ^ sz.val))] = false) ∧ (accessAll x addrs (2 ^ sz.val) 1 = .ok [(th, pa)]) ∧ (pa % 128 + 2 ^ sz.val ≤ 128) ∧ (s.dev.l1 x.phys (lineOf pa) = none) ∧ (s.dev.l1Waits x.phys pa (2 ^ sz.val) false = false) ∧ ((s.dev.readStatus (128 * lineOf pa) 128 false).1 = stOk)) ∧
    (∃ (s : State) (r : GroupRef) (x : Gx) (addrs : List Nat) (sz : Fin 4) (src : Fin 256) (th pa : Nat), (s.powered) ∧ (s.dev.runs r x) ∧ (x.clearAt (x.g.pc + instrBytes)) ∧ (badReg x [(src.val, regsOf (2 ^ sz.val))] = false) ∧ (accessAll x addrs (2 ^ sz.val) 2 = .ok [(th, pa)]) ∧ (pa % 128 + 2 ^ sz.val ≤ 128) ∧ (isHost pa = false) ∧ (s.dev.l1 x.phys (lineOf pa) = none)) :=
  ⟨⟨base (resident [] group), (⟨0, 0⟩), gxOf group, [64], 3, 62, [(0, 64)], by unfold State.powered; decide +kernel, by unfold Dev.runs; decide +kernel, (by apply clearAt_of <;> decide +kernel), by decide +kernel, by decide +kernel, (ok_of (by decide +kernel)), by decide +kernel⟩,
    ⟨base (resident [] group), (⟨0, 0⟩), gxOf group, [64], 3, 62, 0, 64, by unfold State.powered; decide +kernel, by unfold Dev.runs; decide +kernel, (by apply clearAt_of <;> decide +kernel), by decide +kernel, (ok_of (by decide +kernel))⟩,
    ⟨base (resident [] group), (⟨0, 0⟩), gxOf group, [0x10040], 2, 63, 0, 0x1000040, by unfold State.powered; decide +kernel, by unfold Dev.runs; decide +kernel, (by apply clearAt_of <;> decide +kernel), by decide +kernel, by decide +kernel, (ok_of (by decide +kernel)), by decide +kernel, by decide +kernel, by decide +kernel, by decide +kernel⟩,
    ⟨base (resident [] group), (⟨0, 0⟩), gxOf group, [0x10078], 3, 62, 0, 0x1000078, by unfold State.powered; decide +kernel, by unfold Dev.runs; decide +kernel, (by apply clearAt_of <;> decide +kernel), by decide +kernel, (ok_of (by decide +kernel)), by decide +kernel, by decide +kernel, by decide +kernel⟩⟩

theorem witness_GroupWideMatrixAndTickets :
    (∃ (s : State) (r : GroupRef) (x : Gx) (units : BitVec 4) (ureg : Fin 64) (due : Bool) (tk : List Ticket), (s.powered) ∧ (s.dev.runs r x) ∧ (x.clearAt (x.g.pc + instrBytes)) ∧ (x.g.active = x.g.live) ∧ (s.dev.ureg x.k x.g ureg + 64 ≤ x.b.lsBytes) ∧ let m := matDesc (s.dev.lsRead x.phys (x.b.lsBase + s.dev.ureg x.k x.g ureg) 64); let z := s.dev.matRun x.phys x.l.strict units.toNat x.span m ⟨true, x.k % 48⟩ due; (s.dev.matCheck x.phys x.l.strict (unitsOf units.toNat) x.span m = stOk) ∧ (s.dev.unitsOwned x units.toNat = false) ∧ (openTicket x.g.tickets stOk ≠ none) ∧ (openTicket x.g.tickets z.1 = some tk)) ∧
    (∃ (s : State) (r : GroupRef) (x : Gx) (units : BitVec 4) (ureg : Fin 64) (u : Nat) (tk : List Ticket), (s.powered) ∧ (s.dev.runs r x) ∧ (x.clearAt (x.g.pc + instrBytes)) ∧ (x.g.active = x.g.live) ∧ (s.dev.ureg x.k x.g ureg + 64 ≤ x.b.lsBytes) ∧ let a := accDesc (s.dev.lsRead x.phys (x.b.lsBase + s.dev.ureg x.k x.g ureg) 64); (s.dev.accCheck units.toNat x.span a = stOk) ∧ (s.dev.unitsOwned x units.toNat = false) ∧ (unitsOf units.toNat = [u]) ∧ (openTicket x.g.tickets stOk = some tk)) ∧
    (∃ (s : State) (r : GroupRef) (x : Gx) (units : BitVec 4) (ureg : Fin 64) (u : Nat) (tk : List Ticket), (s.powered) ∧ (s.dev.runs r x) ∧ (x.clearAt (x.g.pc + instrBytes)) ∧ (x.g.active = x.g.live) ∧ (s.dev.ureg x.k x.g ureg + 64 ≤ x.b.lsBytes) ∧ let a := accDesc (s.dev.lsRead x.phys (x.b.lsBase + s.dev.ureg x.k x.g ureg) 64); let at_ := x.b.lsBase + a.addr + u * a.ustep; (s.dev.accCheck units.toNat x.span a = stOk) ∧ (s.dev.unitsOwned x units.toNat = false) ∧ (unitsOf units.toNat = [u]) ∧ (s.dev.lsBad x.phys at_ 0x2000 = false) ∧ (openTicket x.g.tickets stOk = some tk)) ∧
    (∃ (s : State) (r : GroupRef) (x : Gx) (mover : Fin 4) (ureg : Fin 64) (due : Bool) (tk : List Ticket), (s.powered) ∧ (s.dev.runs r x) ∧ (x.clearAt (x.g.pc + instrBytes)) ∧ (x.g.active = x.g.live) ∧ (s.dev.ureg x.k x.g ureg + 64 ≤ x.b.lsBytes) ∧ let m := movDesc (s.dev.lsRead x.phys (x.b.lsBase + s.dev.ureg x.k x.g ureg) 64); let sg := x.l.segs.getD m.seg ⟨0, 0, 0, []⟩; let va := sg.base + m.memOffset; let z := s.dev.movRun x.phys x.span sg.extents va m due; (movReserved true m = true) ∧ (movEmpty m = false) ∧ (m.seg ≠ 0xFF ∨ m.dir = 2) ∧ (movSegCheck x.span x.l.segs m = stOk) ∧ (s.dev.ownsMover x.l.part (x.k / 48) mover = false) ∧ (s.dev.runsWait (movAllRuns sg.extents va m) = false) ∧ (openTicket x.g.tickets stOk ≠ none) ∧ (openTicket x.g.tickets z.1 = some tk)) ∧
    (∃ (s : State) (r : GroupRef) (i : Fin 8) (g : Group) (tk : Ticket), (s.powered) ∧ (s.dev.group (groupKey r.cluster r.slot) = some g) ∧ (g.tickets[i.val]? = some tk) ∧ (tk.isOpen = true)) ∧
    (∃ (s : State) (r : GroupRef) (x : Gx) (i : Fin 8) (tk : Ticket), (s.powered) ∧ (s.dev.runs r x) ∧ (x.g.tickets[i.val]? = some tk) ∧ (tk.isOpen = true)) ∧
    (∃ (s : State) (r : GroupRef) (x : Gx) (i : Fin 8) (tk : Ticket), (s.powered) ∧ (s.dev.runs r x) ∧ (x.g.tickets[i.val]? = some tk) ∧ (tk.isOpen = false) ∧ (tk.status = stOk) ∧ (x.clearAt (x.g.pc + instrBytes))) ∧
    (∃ (s : State) (r : GroupRef) (x : Gx) (i : Fin 8) (tk : Ticket), (s.powered) ∧ (s.dev.runs r x) ∧ (x.g.tickets[i.val]? = some tk) ∧ (tk.isOpen = false) ∧ (tk.status ≠ stOk) ∧ (s.dev.on F.TGD_CTRL_TRAP_STOP = true)) :=
  ⟨⟨base (wide ([0, 0, 0, 0, 0, 0, 0x10880, 0]) group), (⟨0, 0⟩), gxOf group, 1#4, 0, false, ([⟨true, 0⟩]), by unfold State.powered; decide +kernel, by unfold Dev.runs; decide +kernel, (by apply clearAt_of <;> decide +kernel), by decide +kernel, by decide +kernel, by decide +kernel, by decide +kernel, by decide +kernel, by decide +kernel⟩,
    ⟨base (wide [64] group), (⟨0, 0⟩), gxOf group, 8#4, 0, 3, ([⟨true, 0⟩]), by unfold State.powered; decide +kernel, by unfold Dev.runs; decide +kernel, (by apply clearAt_of <;> decide +kernel), by decide +kernel, by decide +kernel, by decide +kernel, by decide +kernel, by decide +kernel, by decide +kernel⟩,
    ⟨base (wide [64] group), (⟨0, 0⟩), gxOf group, 8#4, 0, 3, ([⟨true, 0⟩]), by unfold State.powered; decide +kernel, by unfold Dev.runs; decide +kernel, (by apply clearAt_of <;> decide +kernel), by decide +kernel, by decide +kernel, by decide +kernel, by decide +kernel, by decide +kernel, by decide +kernel, by decide +kernel⟩,
    ⟨base (wide [0, 0, 0, 0x1000040, 2] group), (⟨0, 0⟩), gxOf group, 3, 0, true, ([⟨true, 0⟩]), by unfold State.powered; decide +kernel, by unfold Dev.runs; decide +kernel, (by apply clearAt_of <;> decide +kernel), by decide +kernel, by decide +kernel, by decide +kernel, by decide +kernel, by decide +kernel, by decide +kernel, by decide +kernel, by decide +kernel, by decide +kernel, by decide +kernel⟩,
    ⟨base (resident [] { group with tickets := ([⟨true, 0⟩]) }), (⟨0, 0⟩), 0, { group with tickets := ([⟨true, 0⟩]) }, ⟨true, 0⟩, by unfold State.powered; decide +kernel, by decide +kernel, by decide +kernel, by decide +kernel⟩,
    ⟨base (resident [] { group with tickets := ([⟨true, 0⟩]) }), (⟨0, 0⟩), gxOf { group with tickets := ([⟨true, 0⟩]) }, 0, ⟨true, 0⟩, by unfold State.powered; decide +kernel, by unfold Dev.runs; decide +kernel, by decide +kernel, by decide +kernel⟩,
    ⟨base (resident [] { group with tickets := [⟨false, 0⟩] }), (⟨0, 0⟩), gxOf { group with tickets := [⟨false, 0⟩] }, 0, ⟨false, 0⟩, by unfold State.powered; decide +kernel, by unfold Dev.runs; decide +kernel, by decide +kernel, by decide +kernel, by decide +kernel, (by apply clearAt_of <;> decide +kernel)⟩,
    ⟨base (resident [(F.TGD_CTRL_TRAP_STOP, 1)] { group with tickets := [⟨false, 10⟩] }), (⟨0, 0⟩), gxOf { group with tickets := [⟨false, 10⟩] }, 0, ⟨false, 10⟩, by unfold State.powered; decide +kernel, by unfold Dev.runs; decide +kernel, by decide +kernel, by decide +kernel, by decide +kernel, by decide +kernel⟩⟩

theorem witness_LaunchesAndBlocks :
    (∃ (s : State) (q seq : Nat) (x : Queue) (e : Entry) (ext : List Extent) (bound : List Segment) (d1 d2 d3 : Dev), (s.powered) ∧ (s.dev.entryFor q seq tyLaunch = some (x, e)) ∧ let d := s.dev.mapEntry q seq fun e => { e with started := true }; let m := launchDesc e.desc; let runs := extentRuns ext m.segList (32 * m.segCount); let ss := parseSegs (d1.readVa ext m.segList (32 * m.segCount)) m.segCount; let segs := ss.map (·.2); let cs := (launchRange m).filterMap d1.physOf; ((d.clus.launches.any fun l => l.queue == some (e.queue, e.seq)) = false) ∧ (d.launchCheck12 m m.zerosQueued = none) ∧ (m.segCount ≠ 0) ∧ (d.obtain ⟨0, holderQueue, x.root, x.part, m.segList, 32 * m.segCount, 1, false, some (e.queue, e.seq)⟩ = (.ok ext, d1)) ∧ (d1.runsWait runs = false) ∧ ((d1.readRuns runs false).1 = stOk) ∧ ((ss.any fun r => !r.1) = false) ∧ (m.segList % 32 = 0) ∧ (segs.all segOk = true) ∧ (launchCheck45 m segs = stOk) ∧ (d1.launchCheck678 x.part m = stOk) ∧ (Dev.bindSegs (e.queue, e.seq) x.root x.part (cs.headD 0) segs d1 = (.ok bound, d2)) ∧ (d2.holdSegs x.root cs segs = some d3)) ∧
    (∃ (s : State) (id : Nat) (c : Fin 384) (l : Launch) (phys j a : Nat) (slots : List Nat), (s.powered) ∧ (s.dev.launchOf id = some l) ∧ (l.stopped = false) ∧ (l.next ≠ l.grid) ∧ (l.first ≤ c) ∧ (c < l.first + l.count) ∧ (s.dev.physOf c = some phys) ∧ (s.dev.settingReady l phys = true) ∧ (l.slot = none) ∧ (((natRange l.first (c - l.first)).any fun c' => (s.dev.placeOn l c').isSome) = false) ∧ (s.dev.placeOn l c = some (phys, j, a, slots)) ∧ (l.argWords = 0) ∧ (slots.Nodup)) ∧
    (∃ (s : State) (c : Fin 384) (block id phys : Nat) (b : Block) (l : Launch), (s.powered) ∧ (s.dev.blockOf id block = some b) ∧ (s.dev.physOf c = some phys) ∧ (b.phys = phys) ∧ (s.dev.blockDone b = true) ∧ (s.dev.launchOf id = some l) ∧ (l.stopped = false) ∧ (l.ended + 1 ≠ l.grid)) :=
  ⟨⟨base (holding [] (Mem.reset.write 0x20000 (words [0x10000, 0x10000, 7, 0])) (entry0 tyLaunch ([0x10000, 0, 0x100001001, 0, 0x20000, 0, 0x1000000000001, 0]) false)), 5, 9, queue0, entry0 tyLaunch ([0x10000, 0, 0x100001001, 0, 0x20000, 0, 0x1000000000001, 0]) false, [⟨0x20000, 32, 0x20000, 7⟩], [⟨0x10000, 0x10000, 7, [⟨0x10000, 0x10000, 0x10000, 7⟩]⟩], ((((((holding [] (Mem.reset.write 0x20000 (words [0x10000, 0x10000, 7, 0])) (entry0 tyLaunch ([0x10000, 0, 0x100001001, 0, 0x20000, 0, 0x1000000000001, 0]) false))).mapEntry 5 9 fun e => { e with started := true })).obtain (⟨0, holderQueue, 3, 1, 0x20000, 32, 1, false, some (5, 9)⟩)).2), ((Dev.bindSegs (5, 9) 3 1 0 [⟨0x10000, 0x10000, 7, []⟩] ((((((holding [] (Mem.reset.write 0x20000 (words [0x10000, 0x10000, 7, 0])) (entry0 tyLaunch ([0x10000, 0, 0x100001001, 0, 0x20000, 0, 0x1000000000001, 0]) false))).mapEntry 5 9 fun e => { e with started := true })).obtain (⟨0, holderQueue, 3, 1, 0x20000, 32, 1, false, some (5, 9)⟩)).2)).2), ((((Dev.bindSegs (5, 9) 3 1 0 [⟨0x10000, 0x10000, 7, []⟩] ((((((holding [] (Mem.reset.write 0x20000 (words [0x10000, 0x10000, 7, 0])) (entry0 tyLaunch ([0x10000, 0, 0x100001001, 0, 0x20000, 0, 0x1000000000001, 0]) false))).mapEntry 5 9 fun e => { e with started := true })).obtain (⟨0, holderQueue, 3, 1, 0x20000, 32, 1, false, some (5, 9)⟩)).2)).2)).holdSegs 3 [0] [⟨0x10000, 0x10000, 7, []⟩]).getD Dev.reset, by unfold State.powered; decide +kernel, by decide +kernel, by decide +kernel, by decide +kernel, by decide +kernel, by decide +kernel, by decide +kernel, by decide +kernel, by decide +kernel, by decide +kernel, by decide +kernel, by decide +kernel, by decide +kernel, Prod.ext (ok_of (by decide +kernel)) rfl, by decide +kernel⟩,
    ⟨base { resident [] group with clus := { ClusSt.reset with launches := [launch] } }, 0, 0, launch, 0, 0, 0, [0], by unfold State.powered; decide +kernel, by decide +kernel, by decide +kernel, by decide +kernel, by decide +kernel, by decide +kernel, by decide +kernel, by decide +kernel, by decide +kernel, by decide +kernel, by decide +kernel, by decide +kernel, by decide +kernel⟩,
    ⟨base { resident [] group with clus := { (resident [] group).clus with groups := [(0, some { group with state := gsEmpty })], launches := [{ launch with grid := 2, ended := 0 }] } }, 0, 0, 0, 0, block, launch, by unfold State.powered; decide +kernel, by decide +kernel, by decide +kernel, by decide +kernel, by decide +kernel, by decide +kernel, by decide +kernel, by decide +kernel⟩⟩

/-! ### Witnesses: memory model, Plaza, tiers, Roundabout, Boulevard -/

/-- A write of an AUTH object with slot 0's key, from the mailbox. -/
def authFor (key : Nat) (value : List Byte) : Auth :=
  let a : Auth := ⟨srcMailbox, 1, 0, 1, []⟩
  { a with tag := requestTag Config.transportKey (authReq a key value) a }

theorem authentic_of (d : Dev) (key : Nat) (value : List Byte) (hp : d.pwr.pwrgd = true) (hs : d.serves key = true)
    (hm : maskAllows 0xFFFF key = true) : (base d).authentic (authFor key value) key value :=
  ⟨⟨hp, hs, rfl⟩, rfl, rfl, (by decide : 0 < 1), (by decide : 1 < 2 ^ 64), hm, Config.transportKey, rfl, rfl⟩

/-- A READY device with every feature. -/
def readyDev (l : List (Fld × Nat)) : Dev := regs ([(F.PWR_BOOT_STATE, 1)] ++ allFeatures ++ l)

/-- A flit with a head and a right CRC. -/
def flitOf (head : Nat) : List Byte := let b := leBytes 4 head ++ List.replicate 248 0#8; b ++ leBytes 4 (crc32 b)
theorem halted_of (j : Nat) (h : Group) (hj : j ∈ block.groups)
    (hg : (base (resident [(F.TGD_CTRL_UNLOCKED, 1)] group)).dev.group j = some h) (hs : h.state = gsHalted) : h.trap = 0 ∧ h.live ≠ 0 := by
  have e : j = 0 := by simpa [block] using hj
  subst e
  have e : (base (resident [(F.TGD_CTRL_UNLOCKED, 1)] group)).dev.group 0 = some group := by decide +kernel
  have e := Option.some.inj (e.symm.trans hg)
  subst e
  exact absurd hs (by decide +kernel)

theorem witness_FencesAtomicsAndZeroLines :
    (∃ (s : State) (r : GroupRef) (x : Gx), (s.powered) ∧ (s.dev.runs r x) ∧ (x.clearAt (x.g.pc + instrBytes))) ∧
    (∃ (s : State) (r : GroupRef) (x : Gx) (op : AtomOp) (ty : AtomType) (addrs : List Nat) (dst a b : Fin 256) (th pa : Nat), (s.powered) ∧ (s.dev.runs r x) ∧ (x.clearAt (x.g.pc + instrBytes)) ∧ (x.g.regs ≤ 256) ∧ (atomOk op ty = true) ∧ (badReg x ([(a.val, regsOf (atomBytes ty))] ++ (if op = .cas then [(b.val, regsOf (atomBytes ty))] else []) ++ [(dst.val, regsOf (atomBytes ty))]) = false) ∧ (accessAll x addrs (atomBytes ty) 4 = .ok [(th, pa)]) ∧ (paKind pa ≠ .ring) ∧ (isHost pa = false) ∧ (s.dev.runsWait [(pa, atomBytes ty)] = false) ∧ (s.dev.l1 x.phys (lineOf pa) = none) ∧ ((s.dev.readStatus pa (atomBytes ty) false).1 = stOk) ∧ (s.dev.writeStatus pa (atomBytes ty) = stOk)) ∧
    (∃ (s : State) (r : GroupRef) (x : Gx) (op : AtomOp) (ty : AtomType) (addrs : List Nat) (a b : Fin 256) (th pa : Nat), (s.powered) ∧ (s.dev.runs r x) ∧ (x.clearAt (x.g.pc + instrBytes)) ∧ (atomOk op ty = true) ∧ (badReg x ([(a.val, regsOf (atomBytes ty))] ++ (if op = .cas then [(b.val, regsOf (atomBytes ty))] else [])) = false) ∧ (accessAll x addrs (atomBytes ty) 4 = .ok [(th, pa)]) ∧ (paKind pa ≠ .ring) ∧ (isHost pa = false) ∧ (s.dev.runsWait [(pa, atomBytes ty)] = false) ∧ (s.dev.l1 x.phys (lineOf pa) = none) ∧ ((s.dev.readStatus pa (atomBytes ty) false).1 = stOk) ∧ (s.dev.writeStatus pa (atomBytes ty) = stOk)) ∧
    (∃ (s : State) (r : GroupRef) (x : Gx) (addrs : List Nat) (th pa : Nat), (s.powered) ∧ (s.dev.runs r x) ∧ (x.clearAt (x.g.pc + instrBytes)) ∧ (s.dev.has ftZeroLine = true) ∧ (accessAll x addrs 128 2 = .ok [(th, pa)]) ∧ (isHost pa = false) ∧ (s.dev.runsWait [(pa, 128)] = false) ∧ (s.dev.writeStatus pa 128 = stOk) ∧ (s.dev.l1 x.phys (lineOf pa) = none) ∧ (s.dev.plz.mshrs = [])) :=
  ⟨⟨(base (resident [] group)), (⟨0, 0⟩), gxOf group, by unfold State.powered; decide +kernel, by unfold Dev.runs; decide +kernel, (by apply clearAt_of <;> decide +kernel)⟩,
    ⟨(base (resident [] group)), (⟨0, 0⟩), gxOf group, .cas, .u32, [0x10040], 63, 62, 0, 0, 0x1000040, by unfold State.powered; decide +kernel, by unfold Dev.runs; decide +kernel, (by apply clearAt_of <;> decide +kernel), by decide +kernel, by decide +kernel, by decide +kernel, (ok_of (by decide +kernel)), by decide +kernel, by decide +kernel, by decide +kernel, by decide +kernel, by decide +kernel, by decide +kernel⟩,
    ⟨(base (resident [] group)), (⟨0, 0⟩), gxOf group, .add, .u64, [0x10078], 62, 0, 0, 0x1000078, by unfold State.powered; decide +kernel, by unfold Dev.runs; decide +kernel, (by apply clearAt_of <;> decide +kernel), by decide +kernel, by decide +kernel, (ok_of (by decide +kernel)), by decide +kernel, by decide +kernel, by decide +kernel, by decide +kernel, by decide +kernel, by decide +kernel⟩,
    ⟨(base (resident [] group)), (⟨0, 0⟩), gxOf group, [0x10080], 0, 0x1000080, by unfold State.powered; decide +kernel, by unfold Dev.runs; decide +kernel, (by apply clearAt_of <;> decide +kernel), by decide +kernel, (ok_of (by decide +kernel)), by decide +kernel, by decide +kernel, by decide +kernel, by decide +kernel, by decide +kernel⟩⟩

theorem witness_ScienceCoresReserveAndSwap :
    (∃ s : State, (s.powered)) ∧
    (∃ s : State, (s.powered)) ∧
    (∃ (s : State) (op : AtomOp) (ty : AtomType) (pa : Nat), (s.powered) ∧ (atomOk op ty = true) ∧ (op ≠ .cas) ∧ (pa % atomBytes ty = 0) ∧ (s.dev.paOk pa (atomBytes ty) = true) ∧ (s.dev.runsWait [(pa, atomBytes ty)] = false) ∧ (paKind pa ≠ .ring) ∧ (isHost pa = false) ∧ (((s.dev.recallCores (lineOf pa)).readStatus pa (atomBytes ty) false).1 = stOk) ∧ ((s.dev.recallCores (lineOf pa)).writeStatus pa (atomBytes ty) = stOk)) ∧
    (∃ (s : State) (pa : Nat) (w : Bool), (s.powered) ∧ let n := if w then 8 else 4; (pa % n = 0) ∧ (s.dev.paOk pa n = true) ∧ (s.dev.runsWait [(pa, n)] = false) ∧ ((s.dev.readStatus pa n false).1 = stOk)) ∧
    (∃ (s : State) (core : Fin 96) (pa v : Nat) (w due : Bool), (s.powered) ∧ (pa % (if w then 8 else 4) ≠ 0) ∧ ∃ c ∈ [Instr.lr core pa w due, .sc core pa w v], True) ∧
    (∃ (s : State) (core : Fin 96) (pa : Nat) (w : Bool), (s.powered) ∧ let n := if w then 8 else 4; (pa % n = 0) ∧ (s.dev.paOk pa n = true) ∧ (s.dev.runsWait [(pa, n)] = false) ∧ (Table.get (fun _ => none) s.dev.plz.reservations core = some (lineOf pa)) ∧ (s.dev.writeStatus pa n = stOk) ∧ (isHost pa = false)) ∧
    (∃ (s : State) (core : Fin 96) (pa : Nat) (w : Bool), (s.powered) ∧ let n := if w then 8 else 4; (pa % n = 0) ∧ (s.dev.paOk pa n = true) ∧ (s.dev.runsWait [(pa, n)] = false) ∧ (Table.get (fun _ => none) s.dev.plz.reservations core ≠ some (lineOf pa))) ∧
    (∃ (s : State) (pa : Nat), (s.powered) ∧ let a := 128 * lineOf pa; (s.dev.has ftZeroLine = true) ∧ (s.dev.paOk a 128 = true) ∧ (isHost a = false) ∧ (s.dev.runsWait [(a, 128)] = false) ∧ (s.dev.writeStatus a 128 = stOk) ∧ (s.dev.plz.mshrs = [])) ∧
    (∃ s : State, (s.powered) ∧ (s.dev.on F.HST_LINK_BME = true)) ∧
    (∃ (s : State) (g : Option GroupRef), (s.powered) ∧ (s.dev.on F.HST_LINK_BME = false) ∧ (g = none)) ∧
    (∃ (s : State) (g : Option GroupRef), (s.powered) ∧ ∃ (r : GroupRef) (x : Gx), (s.dev.on F.HST_LINK_BME = false) ∧ (g = some r) ∧ (s.dev.runs r x) ∧ (s.dev.on F.TGD_CTRL_TRAP_STOP = true)) :=
  ⟨⟨base Dev.reset, by unfold State.powered; decide +kernel⟩,
    ⟨base Dev.reset, by unfold State.powered; decide +kernel⟩,
    ⟨(base Dev.reset), .add, .u64, 0x1000078, by unfold State.powered; decide +kernel, by decide +kernel, by decide +kernel, by decide +kernel, by decide +kernel, by decide +kernel, by decide +kernel, by decide +kernel, by decide +kernel, by decide +kernel⟩,
    ⟨(base Dev.reset), 0x1000078, true, by unfold State.powered; decide +kernel, by decide +kernel, by decide +kernel, by decide +kernel, by decide +kernel⟩,
    ⟨(base Dev.reset), 95, 0x1000074, 5, true, false, by unfold State.powered; decide +kernel, by decide +kernel, .lr 95 0x1000074 true false, by simp, trivial⟩,
    ⟨base { Dev.reset with plz := { PlzSt.reset with reservations := [(95, some 131072)] } }, 95, 0x1000078, false, by unfold State.powered; decide +kernel, by decide +kernel, by decide +kernel, by decide +kernel, by decide +kernel, by decide +kernel, by decide +kernel⟩,
    ⟨base { Dev.reset with plz := { PlzSt.reset with reservations := [(95, some 131073)] } }, 95, 0x1000078, false, by unfold State.powered; decide +kernel, by decide +kernel, by decide +kernel, by decide +kernel, by decide +kernel⟩,
    ⟨base (regs allFeatures), 0x1000085, by unfold State.powered; decide +kernel, by decide +kernel, by decide +kernel, by decide +kernel, by decide +kernel, by decide +kernel, by decide +kernel⟩,
    ⟨base (regs [(F.HST_LINK_BME, 1)]), by unfold State.powered; decide +kernel, by decide +kernel⟩,
    ⟨(base Dev.reset), none, by unfold State.powered; decide +kernel, by decide +kernel, by decide +kernel⟩,
    ⟨base (resident [(F.TGD_CTRL_TRAP_STOP, 1)] group), some (⟨0, 0⟩), by unfold State.powered; decide +kernel, (⟨0, 0⟩), gxOf group, by decide +kernel, by decide +kernel, by unfold Dev.runs; decide +kernel, by decide +kernel⟩⟩

theorem witness_GroupDebugCommands :
    (∃ (s : State) (k : Nat) (g : Group), (s.powered) ∧ (s.dev.tgdGroup = some (k, g)) ∧ (s.dev.tgdOpen = true) ∧ (g.state = gsRunning)) ∧
    (∃ (s : State) (k : Nat) (g : Group), (s.powered) ∧ (s.dev.tgdGroup = some (k, g)) ∧ (s.dev.tgdOpen = true) ∧ (g.state = gsHalted) ∧ (g.trap = 0)) ∧
    (∃ (s : State) (k : Nat) (g : Group), (s.powered) ∧ (s.dev.tgdGroup = some (k, g)) ∧ (s.dev.tgdOpen = true) ∧ (g.state = gsHalted)) ∧
    (∃ (s : State) (r : GroupRef) (g : Group), (s.powered) ∧ (s.dev.group (groupKey r.cluster r.slot) = some g) ∧ (g.atBoundary = true) ∧ (g.state = gsHaltPending)) ∧
    (∃ (s : State) (r : GroupRef) (g : Group), (s.powered) ∧ (s.dev.group (groupKey r.cluster r.slot) = some g) ∧ (g.atBoundary = true) ∧ (g.state = gsStepping) ∧ (g.stepped = true)) ∧
    (∃ (s : State) (k : Nat) (g : Group) (b : Block), (s.powered) ∧ (s.dev.tgdGroup = some (k, g)) ∧ (s.dev.tgdOpen = true) ∧ (g.state ≠ gsEmpty) ∧ (s.dev.blockOf g.launch g.block = some b) ∧ ((∀ (j : Nat) (h : Group), j ∈ b.groups → s.dev.group j = some h → h.state = gsHalted → h.trap = 0 ∧ h.live ≠ 0))) ∧
    (∃ (s : State) (k : Nat) (g : Group), (s.powered) ∧ (s.dev.tgdGroup = some (k, g)) ∧ (s.dev.tgdOpen = true) ∧ (g.state = gsHalted)) ∧
    (∃ (s : State) (v : Word) (c : Instr), (s.powered) ∧ (s.dev.tgdOpen = false) ∧ (c ∈ [Instr.tgdHalt, .tgdResume, .tgdStep, .tgdBlockStop, .tgdBlockResume, .tgdRdataWrite v])) :=
  ⟨⟨base (resident ([(F.TGD_CTRL_UNLOCKED, 1)]) group), 0, group, by unfold State.powered; decide +kernel, by decide +kernel, by decide +kernel, by decide +kernel⟩,
    ⟨base (resident ([(F.TGD_CTRL_UNLOCKED, 1)]) ({ group with state := gsHalted })), 0, ({ group with state := gsHalted }), by unfold State.powered; decide +kernel, by decide +kernel, by decide +kernel, by decide +kernel, by decide +kernel⟩,
    ⟨base (resident ([(F.TGD_CTRL_UNLOCKED, 1)]) { ({ group with state := gsHalted }) with trap := 1 }), 0, { ({ group with state := gsHalted }) with trap := 1 }, by unfold State.powered; decide +kernel, by decide +kernel, by decide +kernel, by decide +kernel⟩,
    ⟨base (resident [] { group with state := gsHaltPending }), (⟨0, 0⟩), { group with state := gsHaltPending }, by unfold State.powered; decide +kernel, by decide +kernel, by decide +kernel, by decide +kernel⟩,
    ⟨base (resident [] { group with state := gsStepping, stepped := true }), (⟨0, 0⟩), { group with state := gsStepping, stepped := true }, by unfold State.powered; decide +kernel, by decide +kernel, by decide +kernel, by decide +kernel, by decide +kernel⟩,
    ⟨base (resident ([(F.TGD_CTRL_UNLOCKED, 1)]) group), 0, group, block, by unfold State.powered; decide +kernel, by decide +kernel, by decide +kernel, by decide +kernel, by decide +kernel, halted_of⟩,
    ⟨base (resident ([(F.TGD_CTRL_UNLOCKED, 1)]) ({ group with state := gsHalted })), 0, ({ group with state := gsHalted }), by unfold State.powered; decide +kernel, by decide +kernel, by decide +kernel, by decide +kernel⟩,
    ⟨(base (resident [] group)), 7#64, .tgdHalt, by unfold State.powered; decide +kernel, by decide +kernel, by decide +kernel⟩⟩

theorem witness_PlazaServesHitsMissesAndMerges :
    (∃ (s : State) (pa len tag : Nat) (kind : PlzKind), (s.powered) ∧ (PReq.ok ⟨pa, len, kind, some tag⟩ = true) ∧ (s.dev.paOk pa len = false)) ∧
    (∃ (s : State) (pa len tag w : Nat) (kind : PlzKind), (s.powered) ∧ (PReq.ok ⟨pa, len, kind, some tag⟩ = true) ∧ (s.dev.paOk pa len = true) ∧ (paKind pa = .hbm) ∧ let slice := s.dev.homeSlice pa; let set := plazaSet (128 * lineOf pa); let hits := F.PLZ_HIT_COUNT (slice / 8) (slice % 8); ((s.dev.plz.mshrs.any fun m => m.line == lineOf pa) = false) ∧ (s.dev.findWay slice (lineOf pa) = some w) ∧ (kind = .read) ∧ (((s.dev.bump hits 1).touchWay slice set w).readStatus pa len false = (stOk, (s.dev.bump hits 1).touchWay slice set w))) ∧
    (∃ (s : State) (pa len tag w : Nat) (kind : PlzKind), (s.powered) ∧ (PReq.ok ⟨pa, len, kind, some tag⟩ = true) ∧ (s.dev.paOk pa len = true) ∧ (paKind pa = .hbm) ∧ let slice := s.dev.homeSlice pa; let set := plazaSet (128 * lineOf pa); let hits := F.PLZ_HIT_COUNT (slice / 8) (slice % 8); ((s.dev.plz.mshrs.any fun m => m.line == lineOf pa) = false) ∧ (s.dev.findWay slice (lineOf pa) = some w) ∧ ∃ d : Dev, (d = ((s.dev.setWay slice set w (some ⟨lineOf pa, true⟩)).bump hits 1).touchWay slice set w) ∧ ∃ data : List Byte, (kind = .write data) ∧ (d.writeStatus pa len = stOk)) ∧
    (∃ (s : State) (pa len tag w : Nat) (kind : PlzKind), (s.powered) ∧ (PReq.ok ⟨pa, len, kind, some tag⟩ = true) ∧ (s.dev.paOk pa len = true) ∧ (paKind pa = .hbm) ∧ let slice := s.dev.homeSlice pa; let set := plazaSet (128 * lineOf pa); let hits := F.PLZ_HIT_COUNT (slice / 8) (slice % 8); ((s.dev.plz.mshrs.any fun m => m.line == lineOf pa) = false) ∧ (s.dev.findWay slice (lineOf pa) = some w) ∧ ∃ d : Dev, (d = ((s.dev.setWay slice set w (some ⟨lineOf pa, true⟩)).bump hits 1).touchWay slice set w) ∧ ∃ (op : AtomOp) (ty : AtomType) (a b : Nat), (kind = .atomic op ty a b) ∧ (d.writeStatus pa len = stOk) ∧ (d.failed pa len = false) ∧ (d.bad pa len = false)) ∧
    (∃ (s : State) (pa len tag w : Nat), (s.powered) ∧ (PReq.ok ⟨pa, len, .read, some tag⟩ = true) ∧ (s.dev.paOk pa len = true) ∧ (paKind pa = .hbm) ∧ let slice := s.dev.homeSlice pa; let inUse := s.dev.plz.mshrs.countP fun m => m.slice == slice; ((s.dev.plz.mshrs.any fun m => m.line == lineOf pa) = false) ∧ (s.dev.findWay slice (lineOf pa) = none) ∧ (s.dev.pickWay slice (plazaSet (128 * lineOf pa)) = some w) ∧ (inUse < 256)) ∧
    (∃ (s : State) (pa len tag : Nat) (kind : PlzKind), (s.powered) ∧ (PReq.ok ⟨pa, len, kind, some tag⟩ = true) ∧ (s.dev.paOk pa len = true) ∧ (paKind pa = .hbm) ∧ ((∃ m ∈ s.dev.plz.mshrs, m.line = lineOf pa)) ∧ ((∀ m ∈ s.dev.plz.mshrs, m.line = lineOf pa → m.reqs.length < 32))) ∧
    (∃ (s : State) (pa len tag : Nat), (s.powered) ∧ (PReq.ok ⟨pa, len, .read, some tag⟩ = true) ∧ (s.dev.paOk pa len = true) ∧ (paKind pa = .ring) ∧ (s.dev.stallsAt pa = false) ∧ (s.dev.readStatus pa len false = (stOk, s.dev))) ∧
    (∃ (s : State) (pa len tag : Nat) (op : AtomOp) (ty : AtomType) (a b : Nat), (s.powered) ∧ (PReq.ok ⟨pa, len, .atomic op ty a b, some tag⟩ = true) ∧ (s.dev.paOk pa len = true) ∧ (paKind pa = .ring ∨ paKind pa = .host) ∧ (s.dev.stallsAt pa = false)) ∧
    (∃ (s : State) (pa len tag w : Nat) (kind : PlzKind), (s.powered) ∧ (PReq.ok ⟨pa, len, kind, some tag⟩ = true) ∧ (s.dev.paOk pa len = true) ∧ (paKind pa = .hbm) ∧ ((s.dev.plz.mshrs.any fun m => m.line == lineOf pa) = false) ∧ (s.dev.findWay (s.dev.homeSlice pa) (lineOf pa) = some w) ∧ (s.dev.way (s.dev.homeSlice pa) (plazaSet (128 * lineOf pa)) w = some ⟨lineOf pa, true⟩)) :=
  ⟨⟨(base Dev.reset), 0xBA00000000, 4, 0, .read, by unfold State.powered; decide +kernel, by decide +kernel, by decide +kernel⟩,
    ⟨base ((Dev.reset).setWay (Dev.reset.homeSlice (0x1000040)) (plazaSet (128 * lineOf (0x1000040))) 5 (some ⟨lineOf (0x1000040), true⟩)), (0x1000040), 64, 0, 5, .read, by unfold State.powered; decide +kernel, by decide +kernel, by decide +kernel, by decide +kernel, by decide +kernel, by decide +kernel, by decide +kernel, by decide +kernel⟩,
    ⟨base ((Dev.reset).setWay (Dev.reset.homeSlice (0x1000040)) (plazaSet (128 * lineOf (0x1000040))) 5 (some ⟨lineOf (0x1000040), true⟩)), (0x1000040), 4, 0, 5, .write [1, 2, 3, 4], by unfold State.powered; decide +kernel, by decide +kernel, by decide +kernel, by decide +kernel, by decide +kernel, by decide +kernel, ((((base ((Dev.reset).setWay (Dev.reset.homeSlice (0x1000040)) (plazaSet (128 * lineOf (0x1000040))) 5 (some ⟨lineOf (0x1000040), true⟩))).dev.setWay (Dev.reset.homeSlice (0x1000040)) (plazaSet (128 * lineOf (0x1000040))) 5 (some ⟨lineOf (0x1000040), true⟩)).bump (F.PLZ_HIT_COUNT ((base ((Dev.reset).setWay (Dev.reset.homeSlice (0x1000040)) (plazaSet (128 * lineOf (0x1000040))) 5 (some ⟨lineOf (0x1000040), true⟩))).dev.homeSlice (0x1000040) / 8) ((base ((Dev.reset).setWay (Dev.reset.homeSlice (0x1000040)) (plazaSet (128 * lineOf (0x1000040))) 5 (some ⟨lineOf (0x1000040), true⟩))).dev.homeSlice (0x1000040) % 8)) 1).touchWay ((base ((Dev.reset).setWay (Dev.reset.homeSlice (0x1000040)) (plazaSet (128 * lineOf (0x1000040))) 5 (some ⟨lineOf (0x1000040), true⟩))).dev.homeSlice (0x1000040)) (plazaSet (128 * lineOf (0x1000040))) 5), by decide +kernel, [1, 2, 3, 4], by decide +kernel, by decide +kernel⟩,
    ⟨base ((Dev.reset).setWay (Dev.reset.homeSlice (0x1000040)) (plazaSet (128 * lineOf (0x1000040))) 5 (some ⟨lineOf (0x1000040), true⟩)), (0x1000040), 4, 0, 5, .atomic .add .u32 1 0, by unfold State.powered; decide +kernel, by decide +kernel, by decide +kernel, by decide +kernel, by decide +kernel, by decide +kernel, ((((base ((Dev.reset).setWay (Dev.reset.homeSlice (0x1000040)) (plazaSet (128 * lineOf (0x1000040))) 5 (some ⟨lineOf (0x1000040), true⟩))).dev.setWay (Dev.reset.homeSlice (0x1000040)) (plazaSet (128 * lineOf (0x1000040))) 5 (some ⟨lineOf (0x1000040), true⟩)).bump (F.PLZ_HIT_COUNT ((base ((Dev.reset).setWay (Dev.reset.homeSlice (0x1000040)) (plazaSet (128 * lineOf (0x1000040))) 5 (some ⟨lineOf (0x1000040), true⟩))).dev.homeSlice (0x1000040) / 8) ((base ((Dev.reset).setWay (Dev.reset.homeSlice (0x1000040)) (plazaSet (128 * lineOf (0x1000040))) 5 (some ⟨lineOf (0x1000040), true⟩))).dev.homeSlice (0x1000040) % 8)) 1).touchWay ((base ((Dev.reset).setWay (Dev.reset.homeSlice (0x1000040)) (plazaSet (128 * lineOf (0x1000040))) 5 (some ⟨lineOf (0x1000040), true⟩))).dev.homeSlice (0x1000040)) (plazaSet (128 * lineOf (0x1000040))) 5), by decide +kernel, .add, .u32, 1, 0, by decide +kernel, by decide +kernel, by decide +kernel, by decide +kernel⟩,
    ⟨(base Dev.reset), (0x1000040), 64, 0, 0, by unfold State.powered; decide +kernel, by decide +kernel, by decide +kernel, by decide +kernel, by decide +kernel, by decide +kernel, by decide +kernel, by decide +kernel⟩,
    ⟨base { Dev.reset with plz := { PlzSt.reset with mshrs := [(⟨0, 131072, 0, [], []⟩)] } }, (0x1000040), 64, 0, .read, by unfold State.powered; decide +kernel, by decide +kernel, by decide +kernel, by decide +kernel, by decide +kernel, by decide +kernel⟩,
    ⟨(base Dev.reset), 0x10000000000, 128, 0, by unfold State.powered; decide +kernel, by decide +kernel, by decide +kernel, by decide +kernel, by decide +kernel, by decide +kernel⟩,
    ⟨(base Dev.reset), 0x10000000000, 4, 0, .add, .u32, 1, 0, by unfold State.powered; decide +kernel, by decide +kernel, by decide +kernel, by decide +kernel, by decide +kernel⟩,
    ⟨base ((Dev.reset).setWay (Dev.reset.homeSlice (0x1000040)) (plazaSet (128 * lineOf (0x1000040))) 5 (some ⟨lineOf (0x1000040), true⟩)), (0x1000040), 64, 0, 5, .read, by unfold State.powered; decide +kernel, by decide +kernel, by decide +kernel, by decide +kernel, by decide +kernel, by decide +kernel, by decide +kernel⟩⟩

theorem witness_PlazaFillsAndLostHeaders :
    (∃ s : State, (s.powered)) ∧
    (∃ (s : State) (slice : Fin 32) (line : Nat) (m : Mshr) (d : Dev), (s.powered) ∧ ((s.dev.plz.mshrs.find? fun m => m.slice == slice.val && m.line == line) = some m) ∧ (s.dev.stallsAt (128 * line) = false) ∧ (d = ({ s.dev with plz := { s.dev.plz with mshrs := s.dev.plz.mshrs.erase m } } : Dev).noteUse slice) ∧ (d.readStatus (128 * line) 128 false = (stOk, d)) ∧ (paKind (128 * line) = .hbm) ∧ (m.waiting = []) ∧ ((∀ r ∈ s.dev.plz.stalled, d.homeSlice r.pa ≠ slice)) ∧ ∃ pa len tag : Nat, (m.reqs = [⟨pa, len, .read, some tag⟩]) ∧ (d.readStatus pa len false = (stOk, d))) ∧
    (∃ (s : State) (slice : Fin 32) (line : Nat) (m : Mshr) (d : Dev), (s.powered) ∧ ((s.dev.plz.mshrs.find? fun m => m.slice == slice.val && m.line == line) = some m) ∧ (s.dev.stallsAt (128 * line) = false) ∧ (d = ({ s.dev with plz := { s.dev.plz with mshrs := s.dev.plz.mshrs.erase m } } : Dev).noteUse slice) ∧ (d.readStatus (128 * line) 128 false = (stOk, d)) ∧ (paKind (128 * line) = .hbm) ∧ (m.waiting = []) ∧ ((∀ r ∈ s.dev.plz.stalled, d.homeSlice r.pa ≠ slice)) ∧ ∃ pa len tag tag2 : Nat, (m.reqs = [⟨pa, len, .read, some tag⟩, ⟨128 * line, 128, .zero, some tag2⟩])) :=
  ⟨⟨base Dev.reset, by unfold State.powered; decide +kernel⟩,
    ⟨base ({ Dev.reset with plz := { PlzSt.reset with mshrs := [(⟨3, 131072, 5, [⟨(0x1000040), 64, .read, some 0⟩], []⟩)] } }), 3, 131072, (⟨3, 131072, 5, [⟨(0x1000040), 64, .read, some 0⟩], []⟩), ({ Dev.reset with plz := PlzSt.reset } : Dev).noteUse 3, by unfold State.powered; decide +kernel, by decide +kernel, by decide +kernel, by decide +kernel, by decide +kernel, by decide +kernel, by decide +kernel, by decide +kernel, (0x1000040), 64, 0, by decide +kernel, by decide +kernel⟩,
    ⟨base ({ Dev.reset with plz := { PlzSt.reset with mshrs := [(⟨3, 131072, 5, [⟨(0x1000040), 64, .read, some 0⟩, ⟨0x1000000, 128, .zero, some 1⟩], []⟩)] } }), 3, 131072, (⟨3, 131072, 5, [⟨(0x1000040), 64, .read, some 0⟩, ⟨0x1000000, 128, .zero, some 1⟩], []⟩), ({ Dev.reset with plz := PlzSt.reset } : Dev).noteUse 3, by unfold State.powered; decide +kernel, by decide +kernel, by decide +kernel, by decide +kernel, by decide +kernel, by decide +kernel, by decide +kernel, by decide +kernel, (0x1000040), 64, 0, 1, by decide +kernel⟩⟩

theorem witness_WayPowerSequencesAndScratchRanges :
    (∃ (s : State) (die : Fin 4) (v : Word), (s.powered) ∧ let v8 := v.toNat % 256; let legal := s.dev.get (F.PLZ_WSTAT_STATE die) = wsIdle ∧ s.dev.waysOk die v8 = true; (legal)) ∧
    (∃ (s : State) (die : Fin 4) (v : Word), (s.powered) ∧ let v8 := v.toNat % 256; let legal := s.dev.get (F.PLZ_WSTAT_STATE die) = wsIdle ∧ s.dev.waysOk die v8 = true; (¬ legal)) ∧
    (∃ (s : State) (die : Fin 4), (s.powered) ∧ (s.dev.get (F.PLZ_WSTAT_STATE die) = wsCleaning)) ∧
    (∃ (s : State) (die : Fin 4), (s.powered) ∧ (s.dev.get (F.PLZ_WSTAT_STATE die) = wsPoweringUp)) ∧
    (∃ (s : State) (die : Fin 4) (p : Fin 8) (v : Word), (s.powered) ∧ let base := bits v.toNat 31 0; let size := bits v.toNat 47 32; (s.dev.scrOk die p base size = true)) ∧
    (∃ (s : State) (die : Fin 4) (p : Fin 8) (v : Word), (s.powered) ∧ let base := bits v.toNat 31 0; let size := bits v.toNat 47 32; (s.dev.scrOk die p base size = false)) :=
  ⟨⟨base (regs allFeatures), 3, 1#64, by unfold State.powered; decide +kernel, by decide +kernel⟩,
    ⟨base (regs allFeatures), 3, 0xFE#64, by unfold State.powered; decide +kernel, by decide +kernel⟩,
    ⟨base (regs [(F.PLZ_WSTAT_STATE 3, wsCleaning)]), 3, by unfold State.powered; decide +kernel, by decide +kernel⟩,
    ⟨base (regs [(F.PLZ_WSTAT_STATE 3, wsPoweringUp)]), 3, by unfold State.powered; decide +kernel, by decide +kernel⟩,
    ⟨base (regs [(F.PLZ_DCFG_SCR_GROUPS 3, 1)]), 3, 7, 0x18000003000#64, by unfold State.powered; decide +kernel, by decide +kernel⟩,
    ⟨base (regs [(F.PLZ_DCFG_SCR_GROUPS 3, 1)]), 3, 7, 0x18100003000#64, by unfold State.powered; decide +kernel, by decide +kernel⟩⟩

theorem witness_FramesAreAllocatedAndFreed :
    (∃ (s : State) (q seq pa : Nat) (x : Queue) (e : Entry) (d d1 : Dev) (l : List Extent), (s.powered) ∧ (s.dev.entryRuns q seq tyMemory x e d) ∧ (x.part < 8) ∧ let m := frameDesc e.desc; (m.op ≠ 1) ∧ (m.zeros = true) ∧ ((m.scratch = true → s.dev.has ftScratch = true)) ∧ (m.count ≠ 0) ∧ (m.list % 8 = 0) ∧ (¬ (m.size = 2 ∧ m.mode = 1)) ∧ (d.obtain ⟨0, holderFrames, x.root, x.part, m.list, 8 * m.count, 2, false, some (e.queue, e.seq)⟩ = (.ok l, d1)) ∧ (extentRuns l m.list (8 * m.count) = [(pa, 8 * m.count)]) ∧ (d1.runsWait [(pa, 8 * m.count)] = false) ∧ (d1.writeStatus pa (8 * m.count) = stOk) ∧ (isHost pa = false) ∧ ∃ (hbm : List Frame) (d2 : Dev), (d1.chooseFrames x.part m = some (hbm, [], d2))) ∧
    (∃ (s : State) (q seq pa : Nat) (x : Queue) (e : Entry) (d d1 : Dev) (l : List Extent), (s.powered) ∧ (s.dev.entryRuns q seq tyMemory x e d) ∧ (x.part < 8) ∧ let m := frameDesc e.desc; (m.op ≠ 1) ∧ (m.zeros = true) ∧ ((m.scratch = true → s.dev.has ftScratch = true)) ∧ (m.count ≠ 0) ∧ (m.list % 8 = 0) ∧ (¬ (m.size = 2 ∧ m.mode = 1)) ∧ (d.obtain ⟨0, holderFrames, x.root, x.part, m.list, 8 * m.count, 2, false, some (e.queue, e.seq)⟩ = (.ok l, d1)) ∧ (extentRuns l m.list (8 * m.count) = [(pa, 8 * m.count)]) ∧ (d1.runsWait [(pa, 8 * m.count)] = false) ∧ (d1.writeStatus pa (8 * m.count) = stOk) ∧ (isHost pa = false) ∧ ∃ (hbm ring : List Frame) (d2 : Dev), (d1.chooseFrames x.part m = some (hbm, ring, d2)) ∧ (ring ≠ [])) ∧
    (∃ (s : State) (q seq pa : Nat) (x : Queue) (e : Entry) (d d1 : Dev) (l : List Extent), (s.powered) ∧ (s.dev.entryRuns q seq tyMemory x e d) ∧ (x.part < 8) ∧ let m := frameDesc e.desc; (m.op ≠ 1) ∧ (m.zeros = true) ∧ ((m.scratch = true → s.dev.has ftScratch = true)) ∧ (m.count ≠ 0) ∧ (m.list % 8 = 0) ∧ (¬ (m.size = 2 ∧ m.mode = 1)) ∧ (d.obtain ⟨0, holderFrames, x.root, x.part, m.list, 8 * m.count, 2, false, some (e.queue, e.seq)⟩ = (.ok l, d1)) ∧ (extentRuns l m.list (8 * m.count) = [(pa, 8 * m.count)]) ∧ (d1.runsWait [(pa, 8 * m.count)] = false) ∧ (d1.writeStatus pa (8 * m.count) = stOk) ∧ (isHost pa = false) ∧ (d1.chooseFrames x.part m = none)) ∧
    (∃ (s : State) (q seq pa : Nat) (x : Queue) (e : Entry) (d d1 : Dev) (l : List Extent) (fs : List Frame), (s.powered) ∧ (s.dev.entryRuns q seq tyMemory x e d) ∧ (x.part < 8) ∧ let m := frameDesc e.desc; let ws := (List.range m.count).map fun i => leWord (s.dev.read pa (8 * m.count)) i; (m.op = 1) ∧ (m.zeros = true) ∧ ((m.scratch = true → s.dev.has ftScratch = true)) ∧ (m.count ≠ 0) ∧ (m.list % 8 = 0) ∧ (¬ (m.size = 2 ∧ m.mode = 1)) ∧ (d.obtain ⟨0, holderFrames, x.root, x.part, m.list, 8 * m.count, 1, false, some (e.queue, e.seq)⟩ = (.ok l, d1)) ∧ (extentRuns l m.list (8 * m.count) = [(pa, 8 * m.count)]) ∧ (d1.runsWait [(pa, 8 * m.count)] = false) ∧ (d1.readStatus pa (8 * m.count) false = (stOk, d1)) ∧ ((∀ w ∈ ws, bits w 63 56 = 0 ∧ bits w 15 4 = 0 ∧ bits w 3 2 ≠ 3)) ∧ (d1.freeables x.part m.size ws = some fs)) ∧
    (∃ (s : State) (k : Fin 256) (v : Word), (s.powered) ∧ (k.val < 248) ∧ (v.toNat % 4 < 2) ∧ (s.dev.get (F.MEM_REGION_ALLOC k) = 0)) ∧
    (∃ (s : State) (k : Fin 256) (v : Word), (s.powered) ∧ (248 ≤ k.val ∨ 2 ≤ v.toNat % 4 ∨ s.dev.get (F.MEM_REGION_ALLOC k) ≠ 0)) :=
  ⟨⟨base (holding [(F.ARB_FQ_QUOTA 1, 1)] Mem.reset ((entry0 tyMemory [0x40000, 1, 0x200]) false)), 5, 9, 0x40000, queue0, (entry0 tyMemory [0x40000, 1, 0x200]) false, (((holding [(F.ARB_FQ_QUOTA 1, 1)] Mem.reset ((entry0 tyMemory [0x40000, 1, 0x200]) false)).mapEntry 5 9 fun e => { e with started := true })), ((((((holding [(F.ARB_FQ_QUOTA 1, 1)] Mem.reset ((entry0 tyMemory [0x40000, 1, 0x200]) false)).mapEntry 5 9 fun e => { e with started := true }))).obtain (⟨0, holderFrames, 3, 1, 0x40000, 8, 2, false, some (5, 9)⟩)).2), ([⟨0x40000, 8, 0x40000, 7⟩]), by unfold State.powered; decide +kernel, by unfold Dev.entryRuns; decide +kernel, by decide +kernel, by decide +kernel, by decide +kernel, by decide +kernel, by decide +kernel, by decide +kernel, by decide +kernel, by decide +kernel, by decide +kernel, by decide +kernel, by decide +kernel, by decide +kernel, [⟨0, 0x10000, 1, false, false⟩], ((((((((((holding [(F.ARB_FQ_QUOTA 1, 1)] Mem.reset ((entry0 tyMemory [0x40000, 1, 0x200]) false)).mapEntry 5 9 fun e => { e with started := true }))).obtain (⟨0, holderFrames, 3, 1, 0x40000, 8, 2, false, some (5, 9)⟩)).2)).chooseFrames 1 (frameDesc (words [0x40000, 1, 0x200])))).map (·.2.2)).getD Dev.reset, by decide +kernel⟩,
    ⟨base (({ holding [(F.ARB_FQ_QUOTA 1, 0x4000)] Mem.reset ((entry0 tyMemory [0x40000, 1, 0xA00]) false) with tier := { TierSt.reset with frames := [⟨0, 0xBA00000000, 1, false, false⟩] } } : Dev)), 5, 9, 0x40000, queue0, (entry0 tyMemory [0x40000, 1, 0xA00]) false, ((((({ holding [(F.ARB_FQ_QUOTA 1, 0x4000)] Mem.reset ((entry0 tyMemory [0x40000, 1, 0xA00]) false) with tier := { TierSt.reset with frames := [⟨0, 0xBA00000000, 1, false, false⟩] } } : Dev))).mapEntry 5 9 fun e => { e with started := true })), (((((((({ holding [(F.ARB_FQ_QUOTA 1, 0x4000)] Mem.reset ((entry0 tyMemory [0x40000, 1, 0xA00]) false) with tier := { TierSt.reset with frames := [⟨0, 0xBA00000000, 1, false, false⟩] } } : Dev))).mapEntry 5 9 fun e => { e with started := true }))).obtain (⟨0, holderFrames, 3, 1, 0x40000, 8, 2, false, some (5, 9)⟩)).2), ([⟨0x40000, 8, 0x40000, 7⟩]), by unfold State.powered; decide +kernel, by unfold Dev.entryRuns; decide +kernel, by decide +kernel, by decide +kernel, by decide +kernel, by decide +kernel, by decide +kernel, by decide +kernel, by decide +kernel, by decide +kernel, by decide +kernel, by decide +kernel, by decide +kernel, by decide +kernel, [], [⟨0x10000000000, 0x40000000, 1, false, false⟩], (((((((((((({ holding [(F.ARB_FQ_QUOTA 1, 0x4000)] Mem.reset ((entry0 tyMemory [0x40000, 1, 0xA00]) false) with tier := { TierSt.reset with frames := [⟨0, 0xBA00000000, 1, false, false⟩] } } : Dev))).mapEntry 5 9 fun e => { e with started := true }))).obtain (⟨0, holderFrames, 3, 1, 0x40000, 8, 2, false, some (5, 9)⟩)).2)).chooseFrames 1 (frameDesc (words [0x40000, 1, 0xA00])))).map (·.2.2)).getD Dev.reset, by decide +kernel, by decide +kernel⟩,
    ⟨base (({ holding [(F.ARB_FQ_QUOTA 1, 0x4000)] Mem.reset ((entry0 tyMemory [0x40000, 1, 0xA20]) false) with tier := { TierSt.reset with frames := [⟨0, 0xBA00000000, 1, false, false⟩] } } : Dev)), 5, 9, 0x40000, queue0, (entry0 tyMemory [0x40000, 1, 0xA20]) false, ((((({ holding [(F.ARB_FQ_QUOTA 1, 0x4000)] Mem.reset ((entry0 tyMemory [0x40000, 1, 0xA20]) false) with tier := { TierSt.reset with frames := [⟨0, 0xBA00000000, 1, false, false⟩] } } : Dev))).mapEntry 5 9 fun e => { e with started := true })), (((((((({ holding [(F.ARB_FQ_QUOTA 1, 0x4000)] Mem.reset ((entry0 tyMemory [0x40000, 1, 0xA20]) false) with tier := { TierSt.reset with frames := [⟨0, 0xBA00000000, 1, false, false⟩] } } : Dev))).mapEntry 5 9 fun e => { e with started := true }))).obtain (⟨0, holderFrames, 3, 1, 0x40000, 8, 2, false, some (5, 9)⟩)).2), ([⟨0x40000, 8, 0x40000, 7⟩]), by unfold State.powered; decide +kernel, by unfold Dev.entryRuns; decide +kernel, by decide +kernel, by decide +kernel, by decide +kernel, by decide +kernel, by decide +kernel, by decide +kernel, by decide +kernel, by decide +kernel, by decide +kernel, by decide +kernel, by decide +kernel, by decide +kernel, by decide +kernel⟩,
    ⟨base ({ holding [] (Mem.reset.write 0x40000 (words [0x200000])) ((entry0 tyMemory [0x40000, 1, 1]) false) with tier := { TierSt.reset with frames := [⟨0x200000, 0x10000, 1, false, false⟩] } }), 5, 9, 0x40000, queue0, (entry0 tyMemory [0x40000, 1, 1]) false, ((({ holding [] (Mem.reset.write 0x40000 (words [0x200000])) ((entry0 tyMemory [0x40000, 1, 1]) false) with tier := { TierSt.reset with frames := [⟨0x200000, 0x10000, 1, false, false⟩] } })).mapEntry 5 9 fun e => { e with started := true }), (((((({ holding [] (Mem.reset.write 0x40000 (words [0x200000])) ((entry0 tyMemory [0x40000, 1, 1]) false) with tier := { TierSt.reset with frames := [⟨0x200000, 0x10000, 1, false, false⟩] } })).mapEntry 5 9 fun e => { e with started := true })).obtain ⟨0, holderFrames, 3, 1, 0x40000, 8, 1, false, some (5, 9)⟩).2), ([⟨0x40000, 8, 0x40000, 7⟩]), [⟨0x200000, 0x10000, 1, false, false⟩], by unfold State.powered; decide +kernel, by unfold Dev.entryRuns; decide +kernel, by decide +kernel, by decide +kernel, by decide +kernel, by decide +kernel, by decide +kernel, by decide +kernel, by decide +kernel, by decide +kernel, by decide +kernel, by decide +kernel, by decide +kernel, by decide +kernel, by decide +kernel⟩,
    ⟨(base Dev.reset), 247, 1#64, by unfold State.powered; decide +kernel, by decide +kernel, by decide +kernel, by decide +kernel⟩,
    ⟨(base Dev.reset), 248, 1#64, by unfold State.powered; decide +kernel, by decide +kernel⟩⟩

theorem witness_RegulatorsReportAndPatrolCorrects :
    (∃ (s : State) (p : Fin 8) (v : Word), (s.powered) ∧ let lo := bits v.toNat 6 0; let hi := bits v.toNat 14 8; let others := ((List.range 8).filter (· != p.val)).foldl (fun n q => n + s.dev.get (F.MEM_BWR_MIN q)) 0; (lo ≤ hi) ∧ (hi ≠ 0) ∧ (hi ≤ 64) ∧ (others + lo ≤ 64)) ∧
    (∃ (s : State) (p : Fin 8) (v : Word), (s.powered) ∧ let lo := bits v.toNat 6 0; let hi := bits v.toNat 14 8; let others := ((List.range 8).filter (· != p.val)).foldl (fun n q => n + s.dev.get (F.MEM_BWR_MIN q)) 0; (hi < lo ∨ hi = 0 ∨ 64 < hi ∨ 64 < others + lo)) ∧
    (∃ (s : State) (use : List WindowUse) (p : Fin 8) (u : WindowUse), (s.powered) ∧ ((∀ q : Fin 8, s.dev.on (F.ARB_PART_ACTIVE q) = true ↔ q = p)) ∧ (use[p.val]? = some u)) ∧
    (∃ s : State, (s.powered) ∧ (s.dev.objNat 0x270002 = 0)) ∧
    (∃ s : State, (s.powered) ∧ ∃ pa : Nat, (s.dev.objNat 0x270002 ≠ 0) ∧ (s.dev.keptAt pa = true) ∧ (s.dev.tier.badWords = [])) :=
  ⟨⟨(base Dev.reset), 7, 0x4040#64, by unfold State.powered; decide +kernel, by decide +kernel, by decide +kernel, by decide +kernel, by decide +kernel⟩,
    ⟨(base Dev.reset), 7, 0x4041#64, by unfold State.powered; decide +kernel, by decide +kernel⟩,
    ⟨(base Dev.reset), [⟨5000, true⟩], 0, ⟨5000, true⟩, by unfold State.powered; decide +kernel, by decide +kernel, by decide +kernel⟩,
    ⟨base { Dev.reset with objs := [(0x270002, [0#8, 0#8])] }, by unfold State.powered; decide +kernel, by decide +kernel⟩,
    ⟨base { Dev.reset with tier := { TierSt.reset with frames := [⟨0x200000, 0x10000, 1, false, false⟩] } }, by unfold State.powered; decide +kernel, 0x20FFFF, by decide +kernel, by decide +kernel, by decide +kernel⟩⟩

theorem witness_PlannedChannelSequences :
    (∃ (s : State) (ch : Fin 512) (c : Instr) (op : Nat), (s.powered) ∧ ((c, op) ∈ [(Instr.retrain ch, crRetrain), (.repair ch, crRepair), (.spare ch, crSpare)]) ∧ (s.dev.get F.MEM_CREQ_STATUS = cqBusy ∨ s.dev.has ftChanRepair = false)) ∧
    (∃ (s : State) (ch : Fin 512) (c : Instr) (op : Nat), (s.powered) ∧ ((c, op) ∈ [(Instr.retrain ch, crRetrain), (.repair ch, crRepair), (.spare ch, crSpare)]) ∧ (s.dev.get F.MEM_CREQ_STATUS ≠ cqBusy) ∧ (s.dev.has ftChanRepair = true) ∧ (s.dev.creqReason ch ≠ 0)) ∧
    (∃ (s : State) (ch : Fin 512) (c : Instr) (op : Nat), (s.powered) ∧ ((c, op) ∈ [(Instr.retrain ch, crRetrain), (.repair ch, crRepair), (.spare ch, crSpare)]) ∧ (s.dev.get F.MEM_CREQ_STATUS ≠ cqBusy) ∧ (s.dev.has ftChanRepair = true) ∧ (s.dev.creqReason ch = 0)) ∧
    (∃ (s : State) (st : Fin 12) (y : ChanSeq), (s.powered) ∧ ((s.dev.tier.seqs.find? fun y => y.stack == st.val && s.dev.chan y.channel == csRequested) = some y) ∧ (y.channel < 384) ∧ (s.dev.get (F.MEM_STACK_RESERVE st) = 0xFF) ∧ (s.dev.uncovered s.dev.trcAsked = [])) ∧
    (∃ (s : State) (ch : Fin 384) (c : Instr) (a b : Nat), (s.powered) ∧ ((c, a, b) ∈ [(Instr.mirrorDone ch, csMirroring, csRedirectWait), (.restoreDone ch, csRestoring, csRestoreWait)]) ∧ (s.dev.chan ch = a) ∧ (s.dev.copyPaused ch = false)) ∧
    (∃ (s : State) (ch : Fin 384) (y : ChanSeq), (s.powered) ∧ (s.dev.seqOn ch = some y) ∧ (s.dev.chan ch = csRedirectWait) ∧ (s.dev.switchPoint = true) ∧ (y.op ≠ crSpare)) ∧
    (∃ (s : State) (ch : Fin 384) (y : ChanSeq), (s.powered) ∧ (s.dev.seqOn ch = some y) ∧ (s.dev.chan ch = csRedirectWait) ∧ (s.dev.switchPoint = true) ∧ (y.op = crSpare)) ∧
    (∃ (s : State) (ch : Fin 384) (y : ChanSeq), (s.powered) ∧ (s.dev.seqOn ch = some y) ∧ (s.dev.chan ch = csWorking)) ∧
    (∃ (s : State) (ch : Fin 384) (y : ChanSeq), (s.powered) ∧ (s.dev.seqOn ch = some y) ∧ (s.dev.chan ch = csRestoreWait) ∧ (s.dev.switchPoint = true)) :=
  ⟨⟨(base Dev.reset), 511, .retrain 511, crRetrain, by unfold State.powered; decide +kernel, by decide +kernel, by decide +kernel⟩,
    ⟨base (regs allFeatures), 384, .repair 384, crRepair, by unfold State.powered; decide +kernel, by decide +kernel, by decide +kernel, by decide +kernel, by decide +kernel⟩,
    ⟨base (regs allFeatures), 383, .spare 383, crSpare, by unfold State.powered; decide +kernel, by decide +kernel, by decide +kernel, by decide +kernel, by decide +kernel⟩,
    ⟨base { regs [(F.MEM_CHAN_STATE 32, csRequested)] with tier := (fun op => ({ TierSt.reset with seqs := [⟨1, 32, op, false, false⟩] } : TierSt)) crRetrain }, 1, ⟨1, 32, crRetrain, false, false⟩, by unfold State.powered; decide +kernel, by decide +kernel, by decide +kernel, by decide +kernel, by decide +kernel⟩,
    ⟨base (regs [(F.MEM_CHAN_STATE 383, csRestoring)]), 383, .restoreDone 383, csRestoring, csRestoreWait, by unfold State.powered; decide +kernel, by decide +kernel, by decide +kernel, by decide +kernel⟩,
    ⟨base { regs [(F.MEM_CHAN_STATE 32, csRedirectWait)] with tier := (fun op => ({ TierSt.reset with seqs := [⟨1, 32, op, false, false⟩] } : TierSt)) crRetrain }, 32, ⟨1, 32, crRetrain, false, false⟩, by unfold State.powered; decide +kernel, by decide +kernel, by decide +kernel, by decide +kernel, by decide +kernel⟩,
    ⟨base { regs [(F.MEM_CHAN_STATE 32, csRedirectWait)] with tier := (fun op => ({ TierSt.reset with seqs := [⟨1, 32, op, false, false⟩] } : TierSt)) crSpare }, 32, ⟨1, 32, crSpare, false, false⟩, by unfold State.powered; decide +kernel, by decide +kernel, by decide +kernel, by decide +kernel, by decide +kernel⟩,
    ⟨base { regs [(F.MEM_CHAN_STATE 32, csWorking)] with tier := (fun op => ({ TierSt.reset with seqs := [⟨1, 32, op, false, false⟩] } : TierSt)) crRetrain }, 32, ⟨1, 32, crRetrain, false, false⟩, by unfold State.powered; decide +kernel, by decide +kernel, by decide +kernel⟩,
    ⟨base { regs [(F.MEM_CHAN_STATE 32, csRestoreWait)] with tier := (fun op => ({ TierSt.reset with seqs := [⟨1, 32, op, false, false⟩] } : TierSt)) crRetrain }, 32, ⟨1, 32, crRetrain, false, false⟩, by unfold State.powered; decide +kernel, by decide +kernel, by decide +kernel, by decide +kernel⟩⟩

theorem witness_UnplannedRetrainsAndRepairs :
    (∃ (s : State) (ch : Fin 392), (s.powered) ∧ (ch.val < 384) ∧ (s.dev.chan ch ≠ csRetraining) ∧ (s.dev.chan ch ≠ csFailed)) ∧
    (∃ (s : State) (ch : Fin 392), (s.powered) ∧ (ch.val < 384) ∧ (s.dev.chan ch = csRetraining ∨ s.dev.chan ch = csFailed)) ∧
    (∃ (s : State) (ch : Fin 392), (s.powered) ∧ (384 ≤ ch.val) ∧ (s.dev.get (F.MEM_RR_STATE (ch - 384)) ≠ csRetraining) ∧ (s.dev.get (F.MEM_RR_STATE (ch - 384)) ≠ csFailed)) ∧
    (∃ (s : State) (ch : Fin 392), (s.powered) ∧ (ch.val < 384) ∧ (s.dev.chan ch = csRetraining) ∧ (s.dev.chanBefore ch < 10) ∧ (s.dev.chanBefore ch ≠ csRetraining)) ∧
    (∃ (s : State) (ch : Fin 392), (s.powered) ∧ (384 ≤ ch.val) ∧ (s.dev.get (F.MEM_RR_STATE (ch - 384)) = csRetraining)) ∧
    (∃ (s : State) (ch : Fin 392), (s.powered) ∧ (ch.val < 384) ∧ (s.dev.chan ch = csRetraining) ∧ (s.dev.seqOn ch = none) ∧ (s.dev.chanBefore ch < csWorking)) ∧
    (∃ (s : State) (ch : Fin 392), (s.powered) ∧ (ch.val < 384) ∧ (s.dev.chan ch = csRetraining) ∧ (s.dev.seqOn ch = none) ∧ (csWorking ≤ s.dev.chanBefore ch)) ∧
    (∃ (s : State) (source : Nat) (r : List Byte), (s.listens source 0x270005) ∧ let kind := (r.getD 0 0#8).toNat; let lawful := s.dev.has ftChanRepair = true ∧ r.length = 16 ∧ (kind = 1 ∨ kind = 2) ∧ (r.drop 8).all (· == 0#8) = true ∧ (r.getD 1 0#8).toNat < 12 ∧ (r.getD 2 0#8).toNat < 64 ∧ s.dev.sparesLeft s.flash r ≠ 0; (¬ lawful)) ∧
    (∃ (s : State) (a : Auth), (s.authentic a 0x270006 (boolByte true)) ∧ (s.dev.has ftChanRepair = true)) ∧
    (∃ (s : State) (a : Auth) (ch : Fin 384), (s.authentic a 0x270007 (leBytes 2 ch)) ∧ (s.dev.has ftChanRepair = true) ∧ (s.dev.mayCommit ch = true)) ∧
    (∃ (s : State) (a : Auth) (ch : Fin 384), (s.authentic a 0x270007 (leBytes 2 ch)) ∧ (s.dev.has ftChanRepair = true) ∧ (s.dev.mayCommit ch = false)) ∧
    (∃ (s : State) (a : Auth) (ch : Fin 384), (s.authentic a 0x270007 (leBytes 2 (0x8000 + ch))) ∧ (s.dev.has ftChanRepair = true) ∧ (s.dev.tier.committed.contains ch.val = true) ∧ (s.dev.chan ch = csSpared)) ∧
    (∃ (s : State) (a : Auth) (ch : Fin 384), (s.authentic a 0x270007 (leBytes 2 (0x8000 + ch))) ∧ (s.dev.has ftChanRepair = true) ∧ (s.dev.tier.committed.contains ch.val = false ∨ s.dev.chan ch ≠ csSpared)) :=
  ⟨⟨(base Dev.reset), 383, by unfold State.powered; decide +kernel, by decide +kernel, by decide +kernel, by decide +kernel⟩,
    ⟨base (regs [(F.MEM_CHAN_STATE 383, csFailed)]), 383, by unfold State.powered; decide +kernel, by decide +kernel, by decide +kernel⟩,
    ⟨(base Dev.reset), 384, by unfold State.powered; decide +kernel, by decide +kernel, by decide +kernel, by decide +kernel⟩,
    ⟨base (regs [(F.MEM_CHAN_STATE 383, csRetraining)]), 383, by unfold State.powered; decide +kernel, by decide +kernel, by decide +kernel, by decide +kernel, by decide +kernel⟩,
    ⟨base (regs [(F.MEM_RR_STATE 7, csRetraining)]), 391, by unfold State.powered; decide +kernel, by decide +kernel, by decide +kernel⟩,
    ⟨base (regs [(F.MEM_CHAN_STATE 383, csRetraining)]), 383, by unfold State.powered; decide +kernel, by decide +kernel, by decide +kernel, by decide +kernel, by decide +kernel⟩,
    ⟨base { regs [(F.MEM_CHAN_STATE 383, csRetraining)] with tier := { TierSt.reset with before := [(383, csWorking)] } }, 383, by unfold State.powered; decide +kernel, by decide +kernel, by decide +kernel, by decide +kernel, by decide +kernel⟩,
    ⟨base (readyDev []), 0, [], by unfold State.listens State.powered; decide +kernel, by decide +kernel⟩,
    ⟨base (readyDev []), authFor 0x270006 (boolByte true), (authentic_of _ _ _ (by decide +kernel) (by decide +kernel) (by decide +kernel)), by decide +kernel⟩,
    ⟨base (readyDev [(F.MEM_CHAN_STATE 383, csSpared)]), authFor 0x270007 (leBytes 2 383), 383, (authentic_of _ _ _ (by decide +kernel) (by decide +kernel) (by decide +kernel)), by decide +kernel, by decide +kernel⟩,
    ⟨base (readyDev []), authFor 0x270007 (leBytes 2 383), 383, (authentic_of _ _ _ (by decide +kernel) (by decide +kernel) (by decide +kernel)), by decide +kernel, by decide +kernel⟩,
    ⟨base { readyDev [(F.MEM_CHAN_STATE 383, csSpared)] with tier := { TierSt.reset with committed := [383] } }, authFor 0x270007 (leBytes 2 (0x8000 + 383)), 383, (authentic_of _ _ _ (by decide +kernel) (by decide +kernel) (by decide +kernel)), by decide +kernel, by decide +kernel, by decide +kernel⟩,
    ⟨base (readyDev []), authFor 0x270007 (leBytes 2 (0x8000 + 383)), 383, (authentic_of _ _ _ (by decide +kernel) (by decide +kernel) (by decide +kernel)), by decide +kernel, by decide +kernel⟩⟩

theorem witness_BindingsTranslateHoldAndPark :
    (∃ (s : State) (holder : Fin 512) (root : Fin 64) (part : Fin 8) (va len : Nat) (need : BitVec 3) (segment : Bool), (s.powered) ∧ let w : Waiter := ⟨0, holder, root, part, va, len, need.toNat, segment, none⟩; (s.dev.isWaiting w = false) ∧ (s.dev.invalidating root va len = true)) ∧
    (∃ (s : State) (holder : Fin 512) (root : Fin 64) (part : Fin 8) (va len : Nat) (need : BitVec 3) (segment : Bool), (s.powered) ∧ let w : Waiter := ⟨0, holder, root, part, va, len, need.toNat, segment, none⟩; (s.dev.isWaiting w = false) ∧ (s.dev.invalidating root va len = false) ∧ ∃ (l : List Extent) (d : Dev), (s.dev.translate root part va len need.toNat = (.ok l, d)) ∧ (segment = true ∧ 16 < l.length)) ∧
    (∃ (s : State) (holder : Fin 512) (root : Fin 64) (part : Fin 8) (va len : Nat) (need : BitVec 3) (segment : Bool), (s.powered) ∧ let w : Waiter := ⟨0, holder, root, part, va, len, need.toNat, segment, none⟩; (s.dev.isWaiting w = false) ∧ (s.dev.invalidating root va len = false) ∧ ∃ (l : List Extent) (d : Dev), (s.dev.translate root part va len need.toNat = (.ok l, d)) ∧ (¬ (segment = true ∧ 16 < l.length)) ∧ ((d.hold holder root va len).isSome = true)) ∧
    (∃ (s : State) (holder : Fin 512) (root : Fin 64) (part : Fin 8) (va len : Nat) (need : BitVec 3) (segment : Bool), (s.powered) ∧ let w : Waiter := ⟨0, holder, root, part, va, len, need.toNat, segment, none⟩; (s.dev.isWaiting w = false) ∧ (s.dev.invalidating root va len = false) ∧ (s.dev.on (F.RBT_ROOT_VALID root) = false ∨ s.dev.get (F.RBT_ROOT_PART root) ≠ part)) ∧
    (∃ (s : State) (holder : Fin 512) (root : Fin 64) (part : Fin 8) (va len : Nat) (need : BitVec 3) (segment : Bool), (s.powered) ∧ let w : Waiter := ⟨0, holder, root, part, va, len, need.toNat, segment, none⟩; (s.dev.isWaiting w = false) ∧ (s.dev.invalidating root va len = false) ∧ ∃ (k v i : Nat) (d : Dev), (s.dev.translate root part va len need.toNat = (.fault k v, d)) ∧ (d.faultRecord root v k = some i)) ∧
    (∃ (s : State) (holder : Fin 512) (root : Fin 64) (part : Fin 8) (va len : Nat) (need : BitVec 3) (segment : Bool), (s.powered) ∧ let w : Waiter := ⟨0, holder, root, part, va, len, need.toNat, segment, none⟩; (s.dev.isWaiting w = false) ∧ (s.dev.invalidating root va len = false) ∧ ∃ (k v i : Nat) (d : Dev), (s.dev.translate root part va len need.toNat = (.fault k v, d)) ∧ (d.faultRecord root v k = none) ∧ (d.freeRecord = some i)) ∧
    (∃ (s : State) (holder : Fin 512) (root : Fin 64) (va len : Nat), (s.powered) ∧ (s.dev.holdsRange holder root va len = false)) ∧
    (∃ (s : State) (holder : Fin 512) (root : Fin 64) (va len : Nat), (s.powered) ∧ ∃ (l : List Extent) (d : Dev), (s.dev.holdsRange holder root va len = true) ∧ (s.dev.isWaiting ⟨0, holder, root, s.dev.get (F.RBT_ROOT_PART root), va, len, 0, false, none⟩ = false) ∧ (s.dev.invalidating root va len = false) ∧ (s.dev.translate root (s.dev.get (F.RBT_ROOT_PART root)) va len 0 = (.ok l, d))) :=
  ⟨⟨base ({ holding [(F.RBT_INV_STATUS, 1)] Mem.reset (entry0 tyCopy [] false) with rbt := { RbtSt.reset with recallRange := (3, 0, 2 ^ 56) } }), 5, 3, 1, 0x20000, 64, 1#3, true, by unfold State.powered; decide +kernel, by decide +kernel, by decide +kernel⟩,
    ⟨base ({ (holding [] Mem.reset (entry0 tyCopy [] false)) with rbt := { RbtSt.reset with ranges := (List.range 17).map fun i => ⟨3, 0x10000 * i, 16, 0x20000 * i, 7⟩ } }), 5, 3, 1, 0, 0x110000, 1#3, true, by unfold State.powered; decide +kernel, by decide +kernel, by decide +kernel, (List.range 17).map fun i => ⟨0x10000 * i, 0x10000, 0x20000 * i, 7⟩, ((({ (holding [] Mem.reset (entry0 tyCopy [] false)) with rbt := { RbtSt.reset with ranges := (List.range 17).map fun i => ⟨3, 0x10000 * i, 16, 0x20000 * i, 7⟩ } })).translate 3 1 0 0x110000 1).2, by decide +kernel, by decide +kernel⟩,
    ⟨base (holding [] Mem.reset (entry0 tyCopy [] false)), 5, 3, 1, 0x20000, 64, 1#3, true, by unfold State.powered; decide +kernel, by decide +kernel, by decide +kernel, [⟨0x20000, 64, 0x20000, 7⟩], (((holding [] Mem.reset (entry0 tyCopy [] false))).translate 3 1 0x20000 64 1).2, by decide +kernel, by decide +kernel, by decide +kernel⟩,
    ⟨base (holding [] Mem.reset (entry0 tyCopy [] false)), 5, 3, 2, 0x20000, 64, 1#3, true, by unfold State.powered; decide +kernel, by decide +kernel, by decide +kernel, by decide +kernel⟩,
    ⟨base ({ holding [(F.RBT_FREC0_OPEN 7, 1), (F.RBT_FREC0_ROOT 7, 3), (F.RBT_FREC0_KIND 7, 3), (F.RBT_FREC0_VA 7, 0)] Mem.reset (entry0 tyCopy [] false) with rbt := RbtSt.reset }), 5, 3, 1, 0, 64, 1#3, true, by unfold State.powered; decide +kernel, by decide +kernel, by decide +kernel, fkMalformed, 0, 7, ((({ holding [(F.RBT_FREC0_OPEN 7, 1), (F.RBT_FREC0_ROOT 7, 3), (F.RBT_FREC0_KIND 7, 3), (F.RBT_FREC0_VA 7, 0)] Mem.reset (entry0 tyCopy [] false) with rbt := RbtSt.reset })).translate 3 1 0 64 1).2, by decide +kernel, by decide +kernel⟩,
    ⟨base ({ (holding [] Mem.reset (entry0 tyCopy [] false)) with rbt := RbtSt.reset }), 5, 3, 1, 0, 64, 1#3, true, by unfold State.powered; decide +kernel, by decide +kernel, by decide +kernel, fkMalformed, 0, 0, ((({ (holding [] Mem.reset (entry0 tyCopy [] false)) with rbt := RbtSt.reset })).translate 3 1 0 64 1).2, by decide +kernel, by decide +kernel, by decide +kernel⟩,
    ⟨(base Dev.reset), 5, 3, 0, 64, by unfold State.powered; decide +kernel, by decide +kernel⟩,
    ⟨base { (holding [] Mem.reset (entry0 tyCopy [] false)) with rbt := { RbtSt.reset with ranges := [⟨3, 0, 36, 0, 7⟩], holders := [⟨3, 0x20000, 64, [5]⟩] } }, 5, 3, 0x20000, 64, by unfold State.powered; decide +kernel, [⟨0x20000, 64, 0x20000, 7⟩], ({ (holding [] Mem.reset (entry0 tyCopy [] false)) with rbt := { RbtSt.reset with ranges := [⟨3, 0, 36, 0, 7⟩], holders := [⟨3, 0x20000, 64, [5]⟩] } }.translate 3 1 0x20000 64 0).2, by decide +kernel, by decide +kernel, by decide +kernel, by decide +kernel⟩⟩

theorem witness_FaultRecordsAreResolved :
    (∃ (s : State) (i : Fin 1024) (w : Waiter) (q n : Nat) (l : List Extent) (d : Dev) (c : Instr), (s.powered) ∧ (s.dev.on (F.RBT_FREC0_OPEN i) = true) ∧ ((s.dev.rbt.waiters.filter (·.record == i.val)) = [w]) ∧ (s.dev.rbt.waitingBind = []) ∧ (w.entry = some (q, n)) ∧ (s.dev.invalidating w.root w.va w.len = false) ∧ ((s.dev.closeRecord i).2.translate w.root w.part w.va w.len w.need = (.ok l, d)) ∧ (c = .retry i ∨ (c = .staleRootRecheck i ∧ s.dev.get (F.RBT_FREC0_KIND i) = fkStale ∧ genOlder (s.dev.rootGen (s.dev.get (F.RBT_FREC0_ROOT i))) (s.dev.get (F.RBT_GEN_GEN (s.dev.get (F.RBT_FREC0_ROOT i)))) = false))) ∧
    (∃ (s : State) (i : Fin 1024), (s.powered) ∧ (genOlder (s.dev.rootGen (s.dev.get (F.RBT_FREC0_ROOT i))) (s.dev.get (F.RBT_GEN_GEN (s.dev.get (F.RBT_FREC0_ROOT i)))) = true)) ∧
    (∃ (s : State) (i : Fin 1024) (w : Waiter) (status : Nat), (s.powered) ∧ (s.dev.on (F.RBT_FREC0_OPEN i) = true) ∧ ((s.dev.rbt.waiters.filter (·.record == i.val)) = [w]) ∧ (s.dev.rbt.waitingBind = []) ∧ (status ∈ [stBounds, stPerm, stUncorrectable])) ∧
    (∃ s : State, (s.powered) ∧ (s.dev.inForceNat 0x280001 = 0)) ∧
    (∃ (s : State) (i : Fin 1024) (w : Waiter), (s.powered) ∧ (s.dev.on (F.RBT_FREC0_OPEN i) = true) ∧ (s.dev.inForceNat 0x280001 ≠ 0) ∧ ((s.dev.rbt.waiters.filter (·.record == i.val)) = [w]) ∧ (s.dev.rbt.waitingBind = [])) ∧
    (∃ (s : State) (i : Fin 1024), (s.powered) ∧ (s.dev.on (F.RBT_FREC0_OPEN i) = false)) ∧
    (∃ (s : State) (i : Fin 1024) (status : Nat), (s.powered) ∧ (s.dev.on (F.RBT_FREC0_OPEN i) = false ∨ status ∉ [stBounds, stPerm, stUncorrectable])) :=
  ⟨⟨base ({ holding [(F.RBT_FREC0_OPEN 7, 1)] Mem.reset (entry0 tyCopy [] false) with rbt := { RbtSt.reset with ranges := [⟨3, 0, 36, 0, 7⟩], waiters := [(⟨7, 5, 3, 1, 0x20000, 64, 1, false, some (5, 9)⟩)] } }), 7, (⟨7, 5, 3, 1, 0x20000, 64, 1, false, some (5, 9)⟩), 5, 9, [⟨0x20000, 64, 0x20000, 7⟩], (((({ holding [(F.RBT_FREC0_OPEN 7, 1)] Mem.reset (entry0 tyCopy [] false) with rbt := { RbtSt.reset with ranges := [⟨3, 0, 36, 0, 7⟩], waiters := [(⟨7, 5, 3, 1, 0x20000, 64, 1, false, some (5, 9)⟩)] } })).closeRecord 7).2.translate 3 1 0x20000 64 1).2, .retry 7, by unfold State.powered; decide +kernel, by decide +kernel, by decide +kernel, by decide +kernel, by decide +kernel, by decide +kernel, by decide +kernel, by decide +kernel⟩,
    ⟨base (regs [(F.RBT_GEN_GEN 0, 1)]), 1023, by unfold State.powered; decide +kernel, by decide +kernel⟩,
    ⟨base ({ holding [(F.RBT_FREC0_OPEN 7, 1)] Mem.reset (entry0 tyCopy [] false) with rbt := { RbtSt.reset with ranges := [⟨3, 0, 36, 0, 7⟩], waiters := [(⟨7, 5, 3, 1, 0x20000, 64, 1, false, some (5, 9)⟩)] } }), 7, (⟨7, 5, 3, 1, 0x20000, 64, 1, false, some (5, 9)⟩), stBounds, by unfold State.powered; decide +kernel, by decide +kernel, by decide +kernel, by decide +kernel, by decide +kernel⟩,
    ⟨base { Dev.reset with objs := [(0x280001, [0#8, 0#8, 0#8, 0#8])] }, by unfold State.powered; decide +kernel, by decide +kernel⟩,
    ⟨base { ({ holding [(F.RBT_FREC0_OPEN 7, 1)] Mem.reset (entry0 tyCopy [] false) with rbt := { RbtSt.reset with ranges := [⟨3, 0, 36, 0, 7⟩], waiters := [(⟨7, 5, 3, 1, 0x20000, 64, 1, false, some (5, 9)⟩)] } }) with objs := [(0x280001, [1#8, 0#8, 0#8, 0#8])] }, 7, (⟨7, 5, 3, 1, 0x20000, 64, 1, false, some (5, 9)⟩), by unfold State.powered; decide +kernel, by decide +kernel, by decide +kernel, by decide +kernel, by decide +kernel⟩,
    ⟨(base Dev.reset), 1023, by unfold State.powered; decide +kernel, by decide +kernel⟩,
    ⟨base ({ holding [(F.RBT_FREC0_OPEN 7, 1)] Mem.reset (entry0 tyCopy [] false) with rbt := { RbtSt.reset with ranges := [⟨3, 0, 36, 0, 7⟩], waiters := [(⟨7, 5, 3, 1, 0x20000, 64, 1, false, some (5, 9)⟩)] } }), 7, 0, by unfold State.powered; decide +kernel, by decide +kernel⟩⟩

theorem witness_RootsGenerationsAndInvalidates :
    (∃ (s : State) (root : Fin 64) (gen : Nat), (s.powered) ∧ (genOlder (s.dev.get (F.RBT_GEN_GEN root)) (gen % 2 ^ 32) = true)) ∧
    (∃ (s : State) (root : Fin 64) (gen : Nat), (s.powered) ∧ (genOlder (s.dev.get (F.RBT_GEN_GEN root)) (gen % 2 ^ 32) = false)) ∧
    (∃ (s : State) (root : Fin 64), (s.powered) ∧ (s.dev.rootBusy root = false)) ∧
    (∃ (s : State) (root : Fin 64), (s.powered) ∧ (s.dev.rootBusy root = true)) ∧
    (∃ s : State, (s.powered) ∧ (s.dev.get F.RBT_INV_STATUS = 1)) ∧
    (∃ (s : State) (root : Fin 64) (base order : Nat) (all : Bool), (s.powered) ∧ let r := invRange base order all; let ids := ((s.dev.holdersIn root r.1 r.2).flatMap Holder.ids).eraseDups; (s.dev.get F.RBT_INV_STATUS ≠ 1) ∧ (ids = []) ∧ (s.dev.rbt.waitingBind = [])) ∧
    (∃ (s : State) (root : Fin 64) (base order : Nat) (all : Bool), (s.powered) ∧ let r := invRange base order all; let ids := ((s.dev.holdersIn root r.1 r.2).flatMap Holder.ids).eraseDups; (s.dev.get F.RBT_INV_STATUS ≠ 1) ∧ (ids ≠ [])) ∧
    (∃ (s : State) (h : Fin 512), (s.powered) ∧ (s.dev.rbt.recalls.contains h.val = false) ∧ ∃ c ∈ [Instr.recall h, .recallAck h], True) ∧
    (∃ (s : State) (h : Fin 512), (s.powered) ∧ (s.dev.rbt.recalls.contains h.val = true) ∧ (416 ≤ h.val) ∧ (h.val ≤ 423)) ∧
    (∃ (s : State) (h : Fin 512), (s.powered) ∧ (s.dev.rbt.recalls.contains h.val = true) ∧ (h.val < 416 ∨ 423 < h.val) ∧ (s.dev.clus.launches = []) ∧ (s.dev.host.copies = []) ∧ ((∀ g : Nat, (s.dev.sq g).waiting = [] ∧ (s.dev.sq g).running = []))) ∧
    (∃ (s : State) (h : Fin 512), (s.powered) ∧ (s.dev.rbt.recalls.contains h.val = true) ∧ (s.dev.get F.RBT_INV_STATUS = 1) ∧ (((s.dev.holdersIn s.dev.rbt.recallRange.1 s.dev.rbt.recallRange.2.1 s.dev.rbt.recallRange.2.2).any fun x => x.ids.contains h.val) = false) ∧ let left := s.dev.rbt.recalls.filter (· != h.val); (left ≠ [])) ∧
    (∃ (s : State) (h : Fin 512), (s.powered) ∧ (s.dev.rbt.recalls.contains h.val = true) ∧ (s.dev.get F.RBT_INV_STATUS = 1) ∧ (((s.dev.holdersIn s.dev.rbt.recallRange.1 s.dev.rbt.recallRange.2.1 s.dev.rbt.recallRange.2.2).any fun x => x.ids.contains h.val) = false) ∧ let left := s.dev.rbt.recalls.filter (· != h.val); (left = []) ∧ (s.dev.rbt.waitingBind = [])) :=
  ⟨⟨(base Dev.reset), 63, 1, by unfold State.powered; decide +kernel, by decide +kernel⟩,
    ⟨(base Dev.reset), 63, 0, by unfold State.powered; decide +kernel, by decide +kernel⟩,
    ⟨(base Dev.reset), 63, by unfold State.powered; decide +kernel, by decide +kernel⟩,
    ⟨base (holding [] Mem.reset (entry0 tyCopy [] false)), 3, by unfold State.powered; decide +kernel, by decide +kernel⟩,
    ⟨base ({ holding [(F.RBT_INV_STATUS, 1)] Mem.reset (entry0 tyCopy [] false) with rbt := { RbtSt.reset with recallRange := (3, 0, 2 ^ 56) } }), by unfold State.powered; decide +kernel, by decide +kernel⟩,
    ⟨(base Dev.reset), 3, 0, 16, false, by unfold State.powered; decide +kernel, by decide +kernel, by decide +kernel, by decide +kernel⟩,
    ⟨base { Dev.reset with rbt := { RbtSt.reset with holders := [⟨3, 0x20000, 64, [5]⟩] } }, 3, 0x20000, 16, false, by unfold State.powered; decide +kernel, by decide +kernel, by decide +kernel⟩,
    ⟨(base Dev.reset), 511, by unfold State.powered; decide +kernel, by decide +kernel, .recall 511, by simp, trivial⟩,
    ⟨base { Dev.reset with rbt := { RbtSt.reset with recalls := [416] } }, 416, by unfold State.powered; decide +kernel, by decide +kernel, by decide +kernel, by decide +kernel⟩,
    ⟨base { Dev.reset with rbt := { RbtSt.reset with recalls := [424] } }, 424, by unfold State.powered; decide +kernel, by decide +kernel, by decide +kernel, by decide +kernel, by decide +kernel, by intro g; exact ⟨rfl, rfl⟩⟩,
    ⟨base { regs [(F.RBT_INV_STATUS, 1)] with rbt := { RbtSt.reset with recalls := [5, 6] } }, 5, by unfold State.powered; decide +kernel, by decide +kernel, by decide +kernel, by decide +kernel, by decide +kernel⟩,
    ⟨base { regs [(F.RBT_INV_STATUS, 1)] with rbt := { RbtSt.reset with recalls := [5] } }, 5, by unfold State.powered; decide +kernel, by decide +kernel, by decide +kernel, by decide +kernel, by decide +kernel, by decide +kernel⟩⟩

theorem witness_FlitsRetryRetrainAndDegrade :
    (∃ (s : State) (l : Fin 13) (b : List Byte), (s.powered) ∧ (s.dev.get (F.DTD_LINK_STATE l) = lkUp) ∧ let x := s.dev.link l; let w := flitHead b; let good := flitOk b && bits w 31 20 == x.rxSeq; (good = true) ∧ (bit w 6 = false)) ∧
    (∃ (s : State) (l : Fin 13) (b : List Byte), (s.powered) ∧ (s.dev.get (F.DTD_LINK_STATE l) = lkUp) ∧ let x := s.dev.link l; let w := flitHead b; let good := flitOk b && bits w 31 20 == x.rxSeq; (good = true) ∧ (bit w 6 = true) ∧ (x.nakCount = 0)) ∧
    (∃ (s : State) (l : Fin 13) (b : List Byte), (s.powered) ∧ (s.dev.get (F.DTD_LINK_STATE l) = lkUp) ∧ let x := s.dev.link l; let w := flitHead b; let good := flitOk b && bits w 31 20 == x.rxSeq; (good = false) ∧ (x.nakSent = false)) ∧
    (∃ (s : State) (l : Fin 13) (b : List Byte), (s.powered) ∧ (s.dev.get (F.DTD_LINK_STATE l) = lkUp) ∧ let x := s.dev.link l; let w := flitHead b; let good := flitOk b && bits w 31 20 == x.rxSeq; (good = false) ∧ (x.nakSent = true)) ∧
    (∃ (s : State) (l : Fin 13), (s.powered) ∧ (s.dev.get (F.DTD_LINK_STATE l) = lkUp) ∧ True) ∧
    (∃ (s : State) (l : Fin 13) (b : List Byte) (trigger : Nat), (s.powered) ∧ (s.dev.get (F.DTD_LINK_STATE l) ≠ lkUp) ∧ ∃ c ∈ [Instr.flit l b, .boulevardRetrain l trigger], True) ∧
    (∃ (s : State) (l : Fin 13), (s.powered) ∧ (s.dev.get (F.DTD_LINK_STATE l) ≠ lkRetraining)) ∧
    (∃ (s : State) (l : Fin 13), (s.powered) ∧ (s.dev.get (F.DTD_LINK_STATE l) = lkRetraining) ∧ (s.dev.dtd.fenced = []) ∧ (s.dev.dtd.stale = []) ∧ ((∀ m ∈ modulesOf l, s.dev.badLanes m = [])) ∧ (s.dev.stripedOn l ≠ 0)) ∧
    (∃ (s : State) (l : Fin 13), (s.powered) ∧ (s.dev.get (F.DTD_LINK_STATE l) = lkRetraining) ∧ (s.dev.dtd.fenced = []) ∧ True) ∧
    (∃ (s : State) (m : Fin 140), (s.powered) ∧ (s.dev.get (F.DTD_MOD_STATE m) ≠ mdFenced ∨ s.dev.switchPoint = false)) ∧
    (∃ (s : State) (m : Fin 140), (s.powered) ∧ (s.dev.get (F.DTD_MOD_STATE m) = mdFenced) ∧ (s.dev.switchPoint = true) ∧ let low := (s.dev.badLanes m).any (laneUsed 1); let high := (s.dev.badLanes m).any (laneUsed 2); (low = false ∨ high = false)) ∧
    (∃ (s : State) (m : Fin 140), (s.powered) ∧ (s.dev.get (F.DTD_MOD_STATE m) = mdFenced) ∧ (s.dev.switchPoint = true) ∧ let low := (s.dev.badLanes m).any (laneUsed 1); let high := (s.dev.badLanes m).any (laneUsed 2); (low = true) ∧ (high = true)) :=
  ⟨⟨base (regs [(F.DTD_LINK_STATE 12, lkUp)]), 12, flitOf 0, by unfold State.powered; decide +kernel, by decide +kernel, by decide +kernel, by decide +kernel⟩,
    ⟨base (regs [(F.DTD_LINK_STATE 12, lkUp)]), 12, flitOf 0x40, by unfold State.powered; decide +kernel, by decide +kernel, by decide +kernel, by decide +kernel, by decide +kernel⟩,
    ⟨base (regs [(F.DTD_LINK_STATE 12, lkUp)]), 12, [], by unfold State.powered; decide +kernel, by decide +kernel, by decide +kernel, by decide +kernel⟩,
    ⟨base { (regs [(F.DTD_LINK_STATE 12, lkUp)]) with dtd := { DtdSt.reset with links := [(12, { LinkSt.reset with nakSent := true })] } }, 12, [], by unfold State.powered; decide +kernel, by decide +kernel, by decide +kernel, by decide +kernel⟩,
    ⟨base (regs [(F.DTD_LINK_STATE 12, lkUp)]), 12, by unfold State.powered; decide +kernel, by decide +kernel, trivial⟩,
    ⟨base (regs [(F.DTD_LINK_STATE 12, lkRetraining)]), 12, [], 0, by unfold State.powered; decide +kernel, by decide +kernel, .flit 12 [], by simp, trivial⟩,
    ⟨base (regs [(F.DTD_LINK_STATE 12, lkUp)]), 12, by unfold State.powered; decide +kernel, by decide +kernel⟩,
    ⟨base (regs [(F.DTD_LINK_STATE 0, lkRetraining)]), 0, by unfold State.powered; decide +kernel, by decide +kernel, by decide +kernel, by decide +kernel, by decide +kernel, by decide +kernel⟩,
    ⟨base (regs [(F.DTD_LINK_STATE 0, lkRetraining)]), 0, by unfold State.powered; decide +kernel, by decide +kernel, by decide +kernel, trivial⟩,
    ⟨(base Dev.reset), 139, by unfold State.powered; decide +kernel, by decide +kernel⟩,
    ⟨base { regs [(F.DTD_MOD_STATE 139, mdFenced)] with dtd := { DtdSt.reset with lanes := [(139, [63])] } }, 139, by unfold State.powered; decide +kernel, by decide +kernel, by decide +kernel, by decide +kernel⟩,
    ⟨base { regs [(F.DTD_MOD_STATE 139, mdFenced)] with dtd := { DtdSt.reset with lanes := [(139, [0, 63])] } }, 139, by unfold State.powered; decide +kernel, by decide +kernel, by decide +kernel, by decide +kernel, by decide +kernel⟩⟩

/-- The clause on a lawful repair record rests on the spares that a module was shipped with, an opaque constant: it is met where any are left. -/
theorem witness_UnplannedRetrainsAndRepairs_spares
    (h : (base (readyDev [])).dev.sparesLeft (base (readyDev [])).flash (1#8 :: List.replicate 15 0#8) ≠ 0) :
    ∃ (s : State) (source : Nat) (r : List Byte), s.listens source 0x270005 ∧
      let kind := (r.getD 0 0#8).toNat
      s.dev.has ftChanRepair = true ∧ r.length = 16 ∧ (kind = 1 ∨ kind = 2) ∧ (r.drop 8).all (· == 0#8) = true ∧ (r.getD 1 0#8).toNat < 12 ∧
        (r.getD 2 0#8).toNat < 64 ∧ s.dev.sparesLeft s.flash r ≠ 0 :=
  ⟨base (readyDev []), 0, 1#8 :: List.replicate 15 0#8, ⟨rfl, by decide +kernel, rfl⟩, by decide +kernel, by decide, Or.inl (by decide), by decide,
    by decide, by decide, h⟩

/-! ### Witnesses: the guest site and the gates -/

/-- Rank 1 at position 0 of a ring of four; rank 2 at position 1 behind port 5, which is UP. -/
def ringFields : List (Fld × Nat) :=
  [(F.GTE_ID_RANKED, 1), (F.GTE_ID_RANK, 1), (F.GTE_TOPO_SIZE, 3), (F.GTE_PMAP_PRI, 0xFFFFFFF5), (F.GTE_PMAP_ALT, 0xFFFFFFFF),
    (F.GTE_PORT_STATE 5, 4), (F.GTE_PEER_RANK 5, 2), (F.GTE_RANK_VALID 1, 1), (F.GTE_RANK_VALID 2, 1), (F.GTE_RANK_POS 2, 1),
    (F.GTE_PFEAT_BITS 5 0, 2 ^ 64 - 1), (F.GTE_PFEAT_BITS 5 1, 2 ^ 64 - 1)]

/-- The gates with full credit on port 5. -/
def openGate : GateSt := { GateSt.reset with ports := [(5, { PortSt.reset with credits := fullCredits })] }

/-- A device of that ring. -/
def ringDev (l : List (Fld × Nat)) : Dev := { regs (ringFields ++ allFeatures ++ l) with gate := openGate }

/-- A window for rank 2 on the first 64 MiB, with every right. -/
def window0 : List (Fld × Nat) :=
  [(F.GTE_WIN0_VALID 0, 1), (F.GTE_WIN0_RANK_HI 0, 7), (F.GTE_WIN0_PORTS 0, 0xFFF), (F.GTE_WIN0_READ 0, 1), (F.GTE_WIN0_WRITE 0, 1),
    (F.GTE_WIN0_ATOMIC 0, 1), (F.GTE_WIN1_SIZE 0, 0x400)]

/-- A packet from rank 2 to this device. -/
def fromTwo (ptype tag len addr : Nat) : Hdr := ⟨ptype, 0, false, 1, 2, tag, len, addr, 0, 0⟩

/-- Its HEADER block. -/
def hdrBits (h : Hdr) : Header := BitVec.ofNat 256 h.code

/-- A response to it. -/
def toTwo (tag len status : Nat) : Nat := (⟨ptResp, 2, false, 2, 1, tag, len, status, 0, 0⟩ : Hdr).code

/-- Evidence of rank 2. -/
def evidenceOf (rank : Nat) : EvidenceIn := ⟨true, true, ⟨true, true⟩, [], rank, 1, 3, BitVec.ofNat 128 (2 ^ 128 - 1), false, 5000⟩

/-- A qualification record. -/
def qualOf (partner : Nat) : QualIn := ⟨true, partner, ⟨true, true⟩, ⟨true, true⟩, true, 5, []⟩

/-- A device with gates that runs a slot of port 5. -/
def gateSlot (op w2 w3 : Nat) : State :=
  let im := oneSlot engGate 5 op w2 [] [segment]
  let im := { im with streams := [⟨engGate, 5, 0, [⟨100, op * 2 ^ 56 + 0xFFFF * 2 ^ 40, w2, w3⟩]⟩], routes := [words [0x4000000000002, 5, 0, 0]] }
  base { running (ringFields ++ allFeatures) im engGate 5 false with gate := openGate }

theorem witness_GuestAdmissionAndWindows :
    (∃ (s : State) (blocks : List ProfileBlock) (raw : List Byte) (r : QualIn), (s.powered) ∧ ∃ p ∈ [(Instr.guestSidebandAnswer, guIsolated), (.capabilityProfile blocks raw, guNegotiating), (.qualificationRecord r, guVerifying), (.qualificationTimeout, guVerifying), (.guestRetry, guRejected)], (s.dev.guest ≠ p.2)) ∧
    (∃ s : State, (s.powered) ∧ ∃ p ∈ [(Instr.guestSidebandAnswer, guIsolated, guNegotiating, 0), (.qualificationTimeout, guVerifying, guRejected, 1), (.guestRetry, guRejected, guIsolated, 0)], (s.dev.guest = p.2.1)) ∧
    (∃ (s : State) (blocks : List ProfileBlock) (raw : List Byte), (s.powered) ∧ (s.dev.guest = guNegotiating) ∧ (4096 < raw.length ∨ negotiationFails blocks = true)) ∧
    (∃ (s : State) (blocks : List ProfileBlock) (raw : List Byte), (s.powered) ∧ (s.dev.guest = guNegotiating) ∧ (raw.length ≤ 4096) ∧ (negotiationFails blocks = false)) ∧
    (∃ (s : State) (r : QualIn), (s.powered) ∧ (s.dev.guest = guVerifying) ∧ (qualReason s.vault.partners r ≠ 0)) ∧
    (∃ (s : State) (r : QualIn), (s.powered) ∧ (s.dev.guest = guVerifying) ∧ (qualReason s.vault.partners r = 0) ∧ (s.dev.dtd.stale = []) ∧ (s.dev.stripedOn guestLink ≠ 0)) ∧
    (∃ s : State, (s.powered) ∧ (s.dev.guest ≠ guAdmitted ∨ s.dev.get (F.DTD_LINK_STATE guestLink) ≠ lkUp)) ∧
    (∃ (s : State) (write : Bool) (pa len : Nat) (data : List Byte), (s.powered) ∧ let n := if write then data.length else len; (s.dev.guest = guAdmitted) ∧ (s.dev.get (F.DTD_LINK_STATE guestLink) = lkUp) ∧ ((∀ w < 4, s.dev.guestWindow write pa n w = false))) ∧
    (∃ (s : State) (write : Bool) (pa len : Nat) (data : List Byte), (s.powered) ∧ let n := if write then data.length else len; (s.dev.guest = guAdmitted) ∧ (s.dev.get (F.DTD_LINK_STATE guestLink) = lkUp) ∧ ((∃ w < 4, s.dev.guestWindow write pa n w = true)) ∧ (s.dev.runsWait [(pa, n)] = false) ∧ (write = false) ∧ (s.dev.readStatus pa len false = (stOk, s.dev))) ∧
    (∃ (s : State) (write : Bool) (pa len : Nat) (data : List Byte), (s.powered) ∧ let n := if write then data.length else len; (s.dev.guest = guAdmitted) ∧ (s.dev.get (F.DTD_LINK_STATE guestLink) = lkUp) ∧ ((∃ w < 4, s.dev.guestWindow write pa n w = true)) ∧ (s.dev.runsWait [(pa, n)] = false) ∧ (write = true) ∧ (s.dev.writeStatus pa n = stOk)) ∧
    (∃ s : State, (s.powered) ∧ (s.dev.dtd.guestBusy = false)) ∧
    (∃ s : State, (s.powered) ∧ (s.dev.dtd.guestBusy = true)) :=
  ⟨⟨base ((fun st => (regs [(F.DTD_GUEST_STATE, st), (F.DTD_LINK_STATE guestLink, lkUp), (F.DTD_GUEST_WIN_VALID 3, 1), (F.DTD_GUEST_WIN_READ 3, 1), (F.DTD_GUEST_WIN_WRITE 3, 1), (F.DTD_GUEST_WIN_SIZE 3, 1)] : Dev)) guAdmitted), [], [], qualOf 1, by unfold State.powered; decide +kernel, (.guestRetry, guRejected), by simp, by decide +kernel⟩,
    ⟨base ((fun st => (regs [(F.DTD_GUEST_STATE, st), (F.DTD_LINK_STATE guestLink, lkUp), (F.DTD_GUEST_WIN_VALID 3, 1), (F.DTD_GUEST_WIN_READ 3, 1), (F.DTD_GUEST_WIN_WRITE 3, 1), (F.DTD_GUEST_WIN_SIZE 3, 1)] : Dev)) guRejected), by unfold State.powered; decide +kernel, (.guestRetry, guRejected, guIsolated, 0), by simp, by decide +kernel⟩,
    ⟨base ((fun st => (regs [(F.DTD_GUEST_STATE, st), (F.DTD_LINK_STATE guestLink, lkUp), (F.DTD_GUEST_WIN_VALID 3, 1), (F.DTD_GUEST_WIN_READ 3, 1), (F.DTD_GUEST_WIN_WRITE 3, 1), (F.DTD_GUEST_WIN_SIZE 3, 1)] : Dev)) guNegotiating), [], List.replicate 4097 0, by unfold State.powered; decide +kernel, by decide +kernel, by decide +kernel⟩,
    ⟨base ((fun st => (regs [(F.DTD_GUEST_STATE, st), (F.DTD_LINK_STATE guestLink, lkUp), (F.DTD_GUEST_WIN_VALID 3, 1), (F.DTD_GUEST_WIN_READ 3, 1), (F.DTD_GUEST_WIN_WRITE 3, 1), (F.DTD_GUEST_WIN_SIZE 3, 1)] : Dev)) guNegotiating), [⟨1, 1, 1, true⟩, ⟨2, 1, 1, true⟩, ⟨3, 1, 1, true⟩, ⟨4, 2, 1, true⟩, ⟨5, 1, 1, true⟩, ⟨6, 1, 1, true⟩], [], by unfold State.powered; decide +kernel, by decide +kernel, by decide +kernel, by decide +kernel⟩,
    ⟨base ((fun st => (regs [(F.DTD_GUEST_STATE, st), (F.DTD_LINK_STATE guestLink, lkUp), (F.DTD_GUEST_WIN_VALID 3, 1), (F.DTD_GUEST_WIN_READ 3, 1), (F.DTD_GUEST_WIN_WRITE 3, 1), (F.DTD_GUEST_WIN_SIZE 3, 1)] : Dev)) guVerifying), qualOf 1, by unfold State.powered; decide +kernel, by decide +kernel, by decide +kernel⟩,
    ⟨{ base ((fun st => (regs [(F.DTD_GUEST_STATE, st), (F.DTD_LINK_STATE guestLink, lkUp), (F.DTD_GUEST_WIN_VALID 3, 1), (F.DTD_GUEST_WIN_READ 3, 1), (F.DTD_GUEST_WIN_WRITE 3, 1), (F.DTD_GUEST_WIN_SIZE 3, 1)] : Dev)) guVerifying) with vault := { Vault.reset with partners := [⟨1, 5⟩] } }, qualOf 1, by unfold State.powered; decide +kernel, by decide +kernel, by decide +kernel, by decide +kernel, by decide +kernel⟩,
    ⟨(base Dev.reset), by unfold State.powered; decide +kernel, by decide +kernel⟩,
    ⟨(base ((fun st => (regs [(F.DTD_GUEST_STATE, st), (F.DTD_LINK_STATE guestLink, lkUp), (F.DTD_GUEST_WIN_VALID 3, 1), (F.DTD_GUEST_WIN_READ 3, 1), (F.DTD_GUEST_WIN_WRITE 3, 1), (F.DTD_GUEST_WIN_SIZE 3, 1)] : Dev)) guAdmitted)), true, 0x3FFFFFFF, 0, [1, 2], by unfold State.powered; decide +kernel, by decide +kernel, by decide +kernel, by decide +kernel⟩,
    ⟨(base ((fun st => (regs [(F.DTD_GUEST_STATE, st), (F.DTD_LINK_STATE guestLink, lkUp), (F.DTD_GUEST_WIN_VALID 3, 1), (F.DTD_GUEST_WIN_READ 3, 1), (F.DTD_GUEST_WIN_WRITE 3, 1), (F.DTD_GUEST_WIN_SIZE 3, 1)] : Dev)) guAdmitted)), false, 0x3FFFFFFE, 2, [], by unfold State.powered; decide +kernel, by decide +kernel, by decide +kernel, by decide +kernel, by decide +kernel, by decide +kernel, by decide +kernel⟩,
    ⟨(base ((fun st => (regs [(F.DTD_GUEST_STATE, st), (F.DTD_LINK_STATE guestLink, lkUp), (F.DTD_GUEST_WIN_VALID 3, 1), (F.DTD_GUEST_WIN_READ 3, 1), (F.DTD_GUEST_WIN_WRITE 3, 1), (F.DTD_GUEST_WIN_SIZE 3, 1)] : Dev)) guAdmitted)), true, 0x3FFFFFFE, 0, [1, 2], by unfold State.powered; decide +kernel, by decide +kernel, by decide +kernel, by decide +kernel, by decide +kernel, by decide +kernel, by decide +kernel⟩,
    ⟨(base Dev.reset), by unfold State.powered; decide +kernel, by decide +kernel⟩,
    ⟨base { Dev.reset with dtd := { DtdSt.reset with guestBusy := true } }, by unfold State.powered; decide +kernel, by decide +kernel⟩⟩

theorem witness_GatePortsChangeState :
    (∃ s : State, (s.powered) ∧ True) ∧
    (∃ s : State, (s.powered) ∧ (s.dev.get F.PWR_BOOT_STATE = dsFailed)) ∧
    (∃ (s : State) (p : Fin 12), (s.powered) ∧ (s.dev.get F.PWR_BOOT_STATE ≠ dsFailed) ∧ (s.dev.portState p = psDisabled)) ∧
    (∃ (s : State) (p : Fin 12), (s.powered) ∧ (s.dev.get F.PWR_BOOT_STATE ≠ dsFailed) ∧ (s.dev.portState p ≠ psDisabled)) ∧
    (∃ (s : State) (p : Fin 12), (s.powered) ∧ (s.dev.portState p = psDown) ∧ ((s.dev.port p).present = true)) ∧
    (∃ (s : State) (p : Fin 12), (s.powered) ∧ (s.dev.portState p ≠ psDown ∨ (s.dev.port p).present = false)) ∧
    (∃ (s : State) (p : Fin 12), (s.powered) ∧ (s.dev.portState p ≠ psTraining)) ∧
    (∃ (s : State) (p : Fin 12), (s.powered) ∧ (s.dev.portState p = psTraining) ∧ (s.dev.on F.GTE_ID_RANKED = true)) ∧
    (∃ (s : State) (p : Fin 12), (s.powered) ∧ (s.dev.portState p = psTraining) ∧ (s.dev.on F.GTE_ID_RANKED = false)) ∧
    (∃ (s : State) (p : Fin 12) (c : Instr) (old new : Nat), (s.powered) ∧ ((c, old, new) ∈ [(Instr.trainingTimeout p, psTraining, psDown), (.lossOfSignal p, psUp, psDown), (.portRetrain p, psUp, psTraining), (.rejectRetryExpiry p, psRejected, psDown), (.portRetry p, psRejected, psDown)]) ∧ (s.dev.portState p ≠ old)) ∧
    (∃ (s : State) (p : Fin 12) (c : Instr) (old new : Nat), (s.powered) ∧ ((c, old, new) ∈ [(Instr.trainingTimeout p, psTraining, psDown), (.lossOfSignal p, psUp, psDown), (.portRetrain p, psUp, psTraining), (.rejectRetryExpiry p, psRejected, psDown), (.portRetry p, psRejected, psDown)]) ∧ (s.dev.portState p = old)) ∧
    (∃ (s : State) (p : Fin 12) (c : Instr) (reason : Nat), (s.powered) ∧ ((c, reason) ∈ [(Instr.evidenceTimeout p, 1), (.peerRejection p, 10)]) ∧ (s.dev.portState p ≠ psAttesting)) ∧
    (∃ (s : State) (p : Fin 12) (c : Instr) (reason : Nat), (s.powered) ∧ ((c, reason) ∈ [(Instr.evidenceTimeout p, 1), (.peerRejection p, 10)]) ∧ (s.dev.portState p = psAttesting)) :=
  ⟨⟨base Dev.reset, by unfold State.powered; decide +kernel, trivial⟩,
    ⟨base (regs [(F.PWR_BOOT_STATE, dsFailed)]), by unfold State.powered; decide +kernel, by decide +kernel⟩,
    ⟨(base Dev.reset), 11, by unfold State.powered; decide +kernel, by decide +kernel, by decide +kernel⟩,
    ⟨base (regs [(F.GTE_PORT_STATE 11, psUp)]), 11, by unfold State.powered; decide +kernel, by decide +kernel, by decide +kernel⟩,
    ⟨base { regs [(F.GTE_PORT_STATE 11, psDown)] with gate := { GateSt.reset with ports := [(11, { PortSt.reset with present := true })] } }, 11, by unfold State.powered; decide +kernel, by decide +kernel, by decide +kernel⟩,
    ⟨(base Dev.reset), 11, by unfold State.powered; decide +kernel, by decide +kernel⟩,
    ⟨(base Dev.reset), 11, by unfold State.powered; decide +kernel, by decide +kernel⟩,
    ⟨base (regs [(F.GTE_PORT_STATE 11, psTraining), (F.GTE_ID_RANKED, 1)]), 11, by unfold State.powered; decide +kernel, by decide +kernel, by decide +kernel⟩,
    ⟨base (regs [(F.GTE_PORT_STATE 11, psTraining)]), 11, by unfold State.powered; decide +kernel, by decide +kernel, by decide +kernel⟩,
    ⟨(base Dev.reset), 11, .lossOfSignal 11, psUp, psDown, by unfold State.powered; decide +kernel, by decide +kernel, by decide +kernel⟩,
    ⟨base (regs [(F.GTE_PORT_STATE 11, psUp)]), 11, .lossOfSignal 11, psUp, psDown, by unfold State.powered; decide +kernel, by decide +kernel, by decide +kernel⟩,
    ⟨(base Dev.reset), 11, .peerRejection 11, 10, by unfold State.powered; decide +kernel, by decide +kernel, by decide +kernel⟩,
    ⟨base (regs [(F.GTE_PORT_STATE 11, psAttesting)]), 11, .peerRejection 11, 10, by unfold State.powered; decide +kernel, by decide +kernel, by decide +kernel⟩⟩

theorem witness_AttestationAndRank :
    (∃ (s : State) (p : Fin 12), (s.powered) ∧ (s.dev.portState p ≠ psAttesting)) ∧
    (∃ (s : State) (p : Fin 12) (e : EvidenceIn), (s.powered) ∧ (s.dev.portState p = psAttesting) ∧ (s.dev.evidenceReason p e ≠ 0)) ∧
    (∃ (s : State) (p : Fin 12) (e : EvidenceIn), (s.powered) ∧ (s.dev.portState p = psAttesting) ∧ (s.dev.evidenceReason p e = 0) ∧ (s.dev.gate.waiting = [])) ∧
    (∃ (s : State) (p : Fin 12), (s.powered) ∧ (s.dev.portState p ≠ psAttesting)) ∧
    (∃ (s : State) (p : Fin 12) (bytes : List Byte), (s.powered) ∧ (s.dev.portState p = psAttesting) ∧ (bytes.length = 48) ∧ (s.vault.leavesUsed < lmsLeaves)) ∧
    (∃ (s : State) (a : Auth) (rank : Nat), (s.authentic a 0x2A0001 (leBytes 2 rank)) ∧ (s.dev.pwr.flashWp = false) ∧ (rank < 16384 ∨ rank = 0xFFFF) ∧ let quiet := (s.dev.tickState = tsOff ∨ s.dev.tickState = tsParked) ∧ s.dev.on F.GTE_CTRL_BE_STOP = true ∧ s.dev.on F.GTE_CTRL_BE_IDLE = true; (quiet)) ∧
    (∃ (s : State) (a : Auth) (rank : Nat), (s.authentic a 0x2A0001 (leBytes 2 rank)) ∧ (s.dev.pwr.flashWp = false) ∧ (rank < 16384 ∨ rank = 0xFFFF) ∧ let quiet := (s.dev.tickState = tsOff ∨ s.dev.tickState = tsParked) ∧ s.dev.on F.GTE_CTRL_BE_STOP = true ∧ s.dev.on F.GTE_CTRL_BE_IDLE = true; (¬ quiet)) :=
  ⟨⟨(base Dev.reset), 5, by unfold State.powered; decide +kernel, by decide +kernel⟩,
    ⟨base (ringDev [(F.GTE_PORT_STATE 5, psAttesting)]), 5, evidenceOf 1, by unfold State.powered; decide +kernel, by decide +kernel, by decide +kernel⟩,
    ⟨base (ringDev [(F.GTE_PORT_STATE 5, psAttesting)]), 5, evidenceOf 2, by unfold State.powered; decide +kernel, by decide +kernel, by decide +kernel, by decide +kernel⟩,
    ⟨(base Dev.reset), 5, by unfold State.powered; decide +kernel, by decide +kernel⟩,
    ⟨base (ringDev [(F.GTE_PORT_STATE 5, psAttesting)]), 5, List.replicate 48 7, by unfold State.powered; decide +kernel, by decide +kernel, by decide +kernel, by decide +kernel⟩,
    ⟨base (regs ([(F.PWR_BOOT_STATE, 1), (F.GTE_CTRL_BE_STOP, 1), (F.GTE_CTRL_BE_IDLE, 1)])), authFor 0x2A0001 (leBytes 2 16383), 16383, (authentic_of _ _ _ (by decide +kernel) (by decide +kernel) (by decide +kernel)), by decide +kernel, by decide +kernel, by decide +kernel⟩,
    ⟨base (regs [(F.PWR_BOOT_STATE, 1), (F.GTE_CTRL_BE_STOP, 1), (F.GTE_CTRL_BE_IDLE, 0)]), authFor 0x2A0001 (leBytes 2 0xFFFF), 0xFFFF, (authentic_of _ _ _ (by decide +kernel) (by decide +kernel) (by decide +kernel)), by decide +kernel, by decide +kernel, by decide +kernel⟩⟩

theorem witness_PacketsPassOnAndLinksRetry :
    (∃ (s : State) (p : Fin 12) (hdr : Header), (s.powered) ∧ (s.dev.portUp p = true) ∧ (s.dev.passesOn (hdrOf hdr.toNat) = true) ∧ ((s.dev.port p).nakSent = false)) ∧
    (∃ (s : State) (p : Fin 12) (hdr : Header), (s.powered) ∧ (s.dev.portUp p = true) ∧ (s.dev.passesOn (hdrOf hdr.toNat) = true) ∧ let h := hdrOf hdr.toNat; (s.dev.admits p h.src = false)) ∧
    (∃ (s : State) (p : Fin 12) (hdr : Header), (s.powered) ∧ (s.dev.portUp p = true) ∧ (s.dev.passesOn (hdrOf hdr.toNat) = true) ∧ let h := hdrOf hdr.toNat; (s.dev.admits p h.src = true) ∧ (s.dev.gate.waiting = []) ∧ ∃ q : Nat, (h.fixed = true) ∧ (s.dev.outPort (h.ports % 16) none = some q) ∧ let out := ({ h with ports := h.ports / 16, hopleft := h.hopleft - 1 } : Hdr).code; (s.dev.mayTransmit q out h.len = true)) ∧
    (∃ (s : State) (p : Fin 12) (hdr : Header), (s.powered) ∧ (s.dev.portUp p = true) ∧ (s.dev.passesOn (hdrOf hdr.toNat) = true) ∧ let h := hdrOf hdr.toNat; (s.dev.admits p h.src = true) ∧ (s.dev.gate.waiting = []) ∧ ∃ (q k e : Nat) (cross : Bool), (h.fixed = false) ∧ (s.dev.on (F.GTE_RANK_VALID h.dst) = true) ∧ (s.dev.nextHop (s.dev.get (F.GTE_RANK_POS h.dst)) = some (k, e, cross)) ∧ (s.dev.outPort (dirCode k e) none = some q) ∧ let out := ({ h with vc := h.vc / 2 * 2 + b2n ((s.dev.portInDim p k && h.vc % 2 == 1) || cross) } : Hdr).code; (s.dev.mayTransmit q out h.len = true)) ∧
    (∃ (s : State) (p : Fin 12) (seq : Nat), (s.powered) ∧ (s.dev.portUp p = true) ∧ ((s.dev.port p).seqKnown (seq % 4096) = true)) ∧
    (∃ (s : State) (p : Fin 12), (s.powered) ∧ (s.dev.portUp p = true) ∧ (s.dev.gate.waiting = [])) ∧
    (∃ (s : State) (p : Fin 12) (hdr : Header) (data : List Byte) (ok : Bool) (seq : Nat) (credits : List Nat), (s.powered) ∧ (s.dev.portUp p = false) ∧ ∃ c ∈ [Instr.packetForward p hdr data ok, .linkNak p seq, .linkAcknowledgement p seq credits], True) :=
  ⟨⟨base (ringDev []), 5, (hdrBits { fromTwo ptWrite 7 64 0 with dst := 3 }), by unfold State.powered; decide +kernel, by decide +kernel, by decide +kernel, by decide +kernel⟩,
    ⟨base (ringDev [(F.GTE_PEER_RANK 5, 9)]), 5, (hdrBits { fromTwo ptWrite 7 64 0 with dst := 3 }), by unfold State.powered; decide +kernel, by decide +kernel, by decide +kernel, by decide +kernel⟩,
    ⟨base (ringDev []), 5, (hdrBits { fromTwo ptSched 7 64 0 with dst := 3, fixed := true, hopleft := 1, ports := 5 }), by unfold State.powered; decide +kernel, by decide +kernel, by decide +kernel, by decide +kernel, by decide +kernel, 5, by decide +kernel, by decide +kernel, by decide +kernel⟩,
    ⟨base (ringDev []), 5, (hdrBits { fromTwo ptWrite 7 64 0 with dst := 2 }), by unfold State.powered; decide +kernel, by decide +kernel, by decide +kernel, by decide +kernel, by decide +kernel, 5, 0, 0, false, by decide +kernel, by decide +kernel, by decide +kernel, by decide +kernel, by decide +kernel⟩,
    ⟨base { ringDev [] with gate := { openGate with ports := [(5, { PortSt.reset with kept := [⟨4095, 0, []⟩] })] } }, 5, 4095, by unfold State.powered; decide +kernel, by decide +kernel, by decide +kernel⟩,
    ⟨base (ringDev []), 5, by unfold State.powered; decide +kernel, by decide +kernel, by decide +kernel⟩,
    ⟨(base Dev.reset), 5, (hdrBits { fromTwo ptWrite 7 64 0 with dst := 3 }), [], true, 0, [], by unfold State.powered; decide +kernel, by decide +kernel, .linkNak 5 0, by simp, trivial⟩⟩

theorem witness_RemoteRequestsAndResponses :
    (∃ (s : State) (p : Fin 12) (hdr : Header) (h : Hdr) (i q out : Nat), (s.powered) ∧ (s.dev.takesRequest p hdr.toNat ptWrite ftGate h) ∧ (s.dev.windowFor p h.src 1 [(h.addr, h.len)] = some i) ∧ (s.dev.stalls h.addr h.len = false) ∧ (s.dev.writeStatus h.addr h.len = stOk) ∧ (s.dev.respLeaves h stOk 0 q out)) ∧
    (∃ (s : State) (p : Fin 12) (hdr : Header) (h : Hdr) (i q out : Nat), (s.powered) ∧ (s.dev.takesRequest p hdr.toNat ptRead ftGate h) ∧ (s.dev.windowFor p h.src 0 [(h.addr, h.len)] = some i) ∧ (s.dev.stalls h.addr h.len = false) ∧ (s.dev.readStatus h.addr h.len false = (stOk, s.dev)) ∧ (s.dev.respLeaves h stOk h.len q out)) ∧
    (∃ (s : State) (p : Fin 12) (hdr : Header) (h : Hdr) (i q out : Nat), (s.powered) ∧ ∃ (op : AtomOp) (ty : AtomType), (s.dev.takesRequest p hdr.toNat ptAtomic ftGateAtomic h) ∧ let n := atomBytes ty; (atomOk op ty = true) ∧ (h.addr % n = 0) ∧ (s.dev.windowFor p h.src 2 [(h.addr, n)] = some i) ∧ (s.dev.stalls h.addr n = false) ∧ (paKind h.addr ≠ .ring) ∧ (isHost h.addr = false) ∧ (s.dev.readStatus h.addr n false = (stOk, s.dev)) ∧ (s.dev.writeStatus h.addr n = stOk) ∧ (s.dev.respLeaves h stOk n q out)) ∧
    (∃ (s : State) (p : Fin 12) (hdr : Header) (h : Hdr) (q out : Nat), (s.powered) ∧ ∃ (x : Queue) (l : List Extent) (d : Dev) (pa : Nat), (s.dev.takesRequest p hdr.toNat ptQmsg ftGateQmsg h) ∧ (s.dev.queue (h.addr % 2 ^ 18) = some x) ∧ (x.kind ≠ 0) ∧ (h.len = 120) ∧ (h.addr < 2 ^ 18) ∧ (s.dev.obtainOnce (queueWaiter x x.ring (128 * 2 ^ x.ringLog2) 2) = (.ok l, d)) ∧ (extentRuns l (x.slotVa x.pi) 128 = [(pa, 128)]) ∧ (d.runsWait [(pa, 128)] = false) ∧ ((d.windowFor p h.src 1 (extentAll l)).isSome = true) ∧ (d.unread h.addr < 2 ^ x.ringLog2) ∧ (d.writeStatus pa 128 = stOk) ∧ (isHost pa = false) ∧ (s.dev.host.contexts.length < 4096) ∧ (s.dev.respLeaves h stOk 0 q out)) ∧
    (∃ (s : State) (p : Fin 12) (hdr : Header) (h : Hdr) (data : List Byte) (op : AtomOp) (ty : AtomType) (a b : Nat) (c : Instr) (pt ft need n : Nat), (s.powered) ∧ ((c, pt, ft, need, n) ∈ [(Instr.writePacket p hdr data, ptWrite, ftGate, 1, h.len), (.readPacket p hdr false, ptRead, ftGate, 0, h.len), (.atomicPacket p hdr op ty a b, ptAtomic, ftGateAtomic, 2, atomBytes ty)]) ∧ (s.dev.takesRequest p hdr.toNat pt ft h) ∧ (s.dev.windowFor p h.src need [(h.addr, n)] = none)) ∧
    (∃ (s : State) (p : Fin 12) (hdr : Header) (h : Hdr), (s.powered) ∧ (s.dev.delivered p hdr.toNat ptResp = some h) ∧ (s.dev.admits p h.src = true) ∧ (h.dst = s.dev.rank) ∧ let found := s.dev.gate.outstanding.find? fun o => o.tag == h.tag && o.rank == h.src; (found = none)) ∧
    (∃ (s : State) (p : Fin 12) (hdr : Header) (h : Hdr), (s.powered) ∧ (s.dev.delivered p hdr.toNat ptResp = some h) ∧ (s.dev.admits p h.src = true) ∧ (h.dst = s.dev.rank) ∧ let found := s.dev.gate.outstanding.find? fun o => o.tag == h.tag && o.rank == h.src; ∃ (o : Outstanding) (e : Entry), (found = some o) ∧ (o.kind = 2 ∨ o.kind = 3) ∧ (o.runs = []) ∧ (s.dev.entry o.queue o.seq = some e) ∧ (e.finished = none)) ∧
    (∃ (s : State) (tag : Nat), (s.powered) ∧ let found := s.dev.gate.outstanding.find? fun o => o.tag == tag; (found = none)) ∧
    (∃ (s : State) (tag : Nat), (s.powered) ∧ let found := s.dev.gate.outstanding.find? fun o => o.tag == tag; ∃ (o : Outstanding) (e : Entry), (found = some o) ∧ (o.kind = 2 ∨ o.kind = 3) ∧ (s.dev.entry o.queue o.seq = some e) ∧ (e.finished = none)) ∧
    (∃ (s : State) (i : Fin 256) (word1 : Bool) (v : Word), (s.powered) ∧ let valid := if word1 then s.dev.on (F.GTE_WIN0_VALID i) else bit v.toNat 63; let base := if word1 then bits v.toNat 31 0 else s.dev.get (F.GTE_WIN1_BASE i); let size := if word1 then bits v.toNat 63 32 else s.dev.get (F.GTE_WIN1_SIZE i); let lawful := winRangeOk (0x10000 * base) (0x10000 * size) && !(valid && size == 0); (lawful = true)) ∧
    (∃ (s : State) (i : Fin 256) (word1 : Bool) (v : Word), (s.powered) ∧ let valid := if word1 then s.dev.on (F.GTE_WIN0_VALID i) else bit v.toNat 63; let base := if word1 then bits v.toNat 31 0 else s.dev.get (F.GTE_WIN1_BASE i); let size := if word1 then bits v.toNat 63 32 else s.dev.get (F.GTE_WIN1_SIZE i); let lawful := winRangeOk (0x10000 * base) (0x10000 * size) && !(valid && size == 0); (lawful = false)) :=
  ⟨⟨(base (ringDev window0)), 5, hdrBits (fromTwo ptWrite 7 64 0x3FFFFC0), (fromTwo ptWrite 7 64 0x3FFFFC0), 0, 5, toTwo 7 0 0, by unfold State.powered; decide +kernel, by unfold Dev.takesRequest; decide +kernel, by decide +kernel, by decide +kernel, by decide +kernel, (⟨by decide +kernel, by decide +kernel, by decide +kernel, 0, 0, false, by decide +kernel, by decide +kernel, by decide +kernel⟩)⟩,
    ⟨(base (ringDev window0)), 5, hdrBits (fromTwo ptRead 7 64 0x3FFFFC0), (fromTwo ptRead 7 64 0x3FFFFC0), 0, 5, toTwo 7 64 0, by unfold State.powered; decide +kernel, by unfold Dev.takesRequest; decide +kernel, by decide +kernel, by decide +kernel, by decide +kernel, (⟨by decide +kernel, by decide +kernel, by decide +kernel, 0, 0, false, by decide +kernel, by decide +kernel, by decide +kernel⟩)⟩,
    ⟨(base (ringDev window0)), 5, hdrBits (fromTwo ptAtomic 7 24 0x3FFFFFC), (fromTwo ptAtomic 7 24 0x3FFFFFC), 0, 5, toTwo 7 4 0, by unfold State.powered; decide +kernel, .add, .u32, by unfold Dev.takesRequest; decide +kernel, by decide +kernel, by decide +kernel, by decide +kernel, by decide +kernel, by decide +kernel, by decide +kernel, by decide +kernel, by decide +kernel, (⟨by decide +kernel, by decide +kernel, by decide +kernel, 0, 0, false, by decide +kernel, by decide +kernel, by decide +kernel⟩)⟩,
    ⟨base ({ holding (ringFields ++ window0) Mem.reset (entry0 tyRemote [] false) with gate := openGate }), 5, hdrBits (fromTwo ptQmsg 7 120 5), (fromTwo ptQmsg 7 120 5), 5, toTwo 7 0 0, by unfold State.powered; decide +kernel, queue0, [⟨0, 2048, 0, 7⟩], ((({ holding (ringFields ++ window0) Mem.reset (entry0 tyRemote [] false) with gate := openGate }) : Dev).obtainOnce (queueWaiter queue0 0 2048 2)).2, 0, by unfold Dev.takesRequest; decide +kernel, by decide +kernel, by decide +kernel, by decide +kernel, by decide +kernel, by decide +kernel, by decide +kernel, by decide +kernel, by decide +kernel, by decide +kernel, by decide +kernel, by decide +kernel, by decide +kernel, (⟨by decide +kernel, by decide +kernel, by decide +kernel, 0, 0, false, by decide +kernel, by decide +kernel, by decide +kernel⟩)⟩,
    ⟨base (ringDev []), 5, hdrBits (fromTwo ptWrite 7 64 0x3FFFFC0), (fromTwo ptWrite 7 64 0x3FFFFC0), [], .add, .u32, 0, 0, .writePacket 5 (hdrBits (fromTwo ptWrite 7 64 0x3FFFFC0)) [], ptWrite, ftGate, 1, 64, by unfold State.powered; decide +kernel, by decide +kernel, by unfold Dev.takesRequest; decide +kernel, by decide +kernel⟩,
    ⟨base (ringDev []), 5, hdrBits (fromTwo ptResp 7 0 0), (fromTwo ptResp 7 0 0), by unfold State.powered; decide +kernel, by decide +kernel, by decide +kernel, by decide +kernel, by decide +kernel⟩,
    ⟨base ({ holding ringFields Mem.reset (entry0 tyRemote [] true) with gate := { openGate with outstanding := [(⟨7, 2, 5, 9, 2, 0, []⟩)] } }), 5, hdrBits (fromTwo ptResp 7 0 0), (fromTwo ptResp 7 0 0), by unfold State.powered; decide +kernel, by decide +kernel, by decide +kernel, by decide +kernel, (⟨7, 2, 5, 9, 2, 0, []⟩), entry0 tyRemote [] true, by decide +kernel, by decide +kernel, by decide +kernel, by decide +kernel, by decide +kernel⟩,
    ⟨(base Dev.reset), 0, by unfold State.powered; decide +kernel, by decide +kernel⟩,
    ⟨base ({ holding ringFields Mem.reset (entry0 tyRemote [] true) with gate := { openGate with outstanding := [(⟨7, 2, 5, 9, 2, 0, []⟩)] } }), 7, by unfold State.powered; decide +kernel, (⟨7, 2, 5, 9, 2, 0, []⟩), entry0 tyRemote [] true, by decide +kernel, by decide +kernel, by decide +kernel, by decide +kernel⟩,
    ⟨(base Dev.reset), 255, true, 0x100000000#64, by unfold State.powered; decide +kernel, by decide +kernel⟩,
    ⟨(base Dev.reset), 255, false, 0x8000000000000000#64, by unfold State.powered; decide +kernel, by decide +kernel⟩⟩

theorem witness_ScheduledSendsAndArrivals :
    (∃ (s : State) (p : Fin 8) (port : Fin 12) (r : SlotRef) (sl : Slot) (pa q : Nat), (s.powered) ∧ (s.dev.slotStarts p engGate port opSend r sl) ∧ let d := s.dev.startSlot r; let a := routeOf ((((d.part p).running.map Image.routes).getD []).getD sl.route []); let sg := (d.imageSegs p).getD sl.seg ⟨0, 0, 0, []⟩; let out := (⟨ptSched, 0, true, a.dest, d.rank, (d.get F.TCK_TN_TN + sl.delta) % 2 ^ 16, sl.length, 0, a.hops - 1, a.ports / 16⟩ : Hdr).code; (a.splitN = 0) ∧ (d.routeLacks a = false) ∧ (extentRuns sg.extents (sg.base + sl.offset) sl.length = [(pa, sl.length)]) ∧ (0 < sl.length) ∧ (sl.length ≤ 4096) ∧ (d.runsWait [(pa, sl.length)] = false) ∧ (d.readStatus pa sl.length false = (stOk, d)) ∧ (d.outPort (a.ports % 16) none = some q) ∧ (d.gate.waiting = []) ∧ (d.mayTransmit q out sl.length = true)) ∧
    (∃ (s : State) (p : Fin 8) (port : Fin 12) (r : SlotRef) (sl : Slot), (s.powered) ∧ (s.dev.slotStarts p engGate port opRecv r sl) ∧ let d := s.dev.startSlot r; let got := gotBytes (d.recvOf p port r.slot (d.get F.TCK_TN_TN)).got; (sl.length ≤ got)) ∧
    (∃ (s : State) (p : Fin 8) (port : Fin 12) (r : SlotRef) (sl : Slot), (s.powered) ∧ (s.dev.slotStarts p engGate port opRecv r sl) ∧ let d := s.dev.startSlot r; let got := gotBytes (d.recvOf p port r.slot (d.get F.TCK_TN_TN)).got; (got < sl.length)) ∧
    (∃ (s : State) (p : Fin 12) (hdr : Header) (h : Hdr), (s.powered) ∧ (s.dev.delivered p hdr.toNat ptSched = some h) ∧ (s.dev.admits p h.src = true) ∧ (h.dst ≠ s.dev.rank)) ∧
    (∃ (s : State) (p : Fin 12) (hdr : Header) (h : Hdr), (s.powered) ∧ (s.dev.delivered p hdr.toNat ptSched = some h) ∧ let ahead := (h.tag + 2 ^ 16 - s.dev.get F.TCK_TN_TN % 2 ^ 16) % 2 ^ 16; (s.dev.admits p h.src = true) ∧ (h.dst = s.dev.rank) ∧ (2 ≤ ahead) ∧ (ahead < 2 ^ 15)) ∧
    (∃ (s : State) (p : Fin 12) (hdr : Header) (h : Hdr), (s.powered) ∧ (s.dev.delivered p hdr.toNat ptSched = some h) ∧ let ahead := (h.tag + 2 ^ 16 - s.dev.get F.TCK_TN_TN % 2 ^ 16) % 2 ^ 16; (s.dev.admits p h.src = true) ∧ (h.dst = s.dev.rank) ∧ (2 ^ 15 ≤ ahead)) ∧
    (∃ (s : State) (p : Fin 12) (hdr : Header) (h : Hdr), (s.powered) ∧ (s.dev.delivered p hdr.toNat ptSched = some h) ∧ let ahead := (h.tag + 2 ^ 16 - s.dev.get F.TCK_TN_TN % 2 ^ 16) % 2 ^ 16; let tn := s.dev.get F.TCK_TN_TN + ahead; let target := (s.dev.recvSlots p h.src tn).find? fun r => !s.dev.recvHas tn h.addr h.len r; (s.dev.admits p h.src = true) ∧ (h.dst = s.dev.rank) ∧ (ahead < 2) ∧ (s.dev.tick.quench = false) ∧ (s.dev.deliverWaits p h.src tn h.addr h.len = false) ∧ ∃ r : RecvSlot, (target = some r) ∧ ∃ pa : Nat, (h.addr + h.len ≤ r.s.length) ∧ (extentRuns r.seg.extents (r.seg.base + r.s.offset + h.addr) h.len = [(pa, h.len)]) ∧ (s.dev.writeStatus pa h.len = stOk)) ∧
    (∃ (s : State) (p : Fin 12) (hdr : Header) (h : Hdr), (s.powered) ∧ (s.dev.delivered p hdr.toNat ptSched = some h) ∧ let ahead := (h.tag + 2 ^ 16 - s.dev.get F.TCK_TN_TN % 2 ^ 16) % 2 ^ 16; let tn := s.dev.get F.TCK_TN_TN + ahead; let target := (s.dev.recvSlots p h.src tn).find? fun r => !s.dev.recvHas tn h.addr h.len r; (s.dev.admits p h.src = true) ∧ (h.dst = s.dev.rank) ∧ (ahead < 2) ∧ (s.dev.tick.quench = false) ∧ (s.dev.deliverWaits p h.src tn h.addr h.len = false) ∧ ∃ r : RecvSlot, (target = some r) ∧ (r.s.length < h.addr + h.len)) :=
  ⟨⟨(gateSlot opSend (2 * 2 ^ 50 + 4096) 0), 2, 5, ⟨2, engGate, 5, 0⟩, (fun op => (⟨100, op * 2 ^ 56 + 0xFFFF * 2 ^ 40, 2 * 2 ^ 50 + 4096, 0⟩ : Slot)) opSend, 0x1000000, 5, by unfold State.powered; decide +kernel, by unfold Dev.slotStarts; decide +kernel, by decide +kernel, by decide +kernel, by decide +kernel, by decide +kernel, by decide +kernel, by decide +kernel, by decide +kernel, by decide +kernel, by decide +kernel, by decide +kernel⟩,
    ⟨gateSlot opRecv (2 * 2 ^ 50) 0, 2, 5, ⟨2, engGate, 5, 0⟩, ⟨100, opRecv * 2 ^ 56 + 0xFFFF * 2 ^ 40, 2 * 2 ^ 50, 0⟩, by unfold State.powered; decide +kernel, by unfold Dev.slotStarts; decide +kernel, by decide +kernel⟩,
    ⟨(gateSlot opRecv (2 * 2 ^ 50 + 4096) 0), 2, 5, ⟨2, engGate, 5, 0⟩, (fun op => (⟨100, op * 2 ^ 56 + 0xFFFF * 2 ^ 40, 2 * 2 ^ 50 + 4096, 0⟩ : Slot)) opRecv, by unfold State.powered; decide +kernel, by unfold Dev.slotStarts; decide +kernel, by decide +kernel⟩,
    ⟨base (ringDev [(F.GTE_ID_RANK, 3)]), 5, (fun tag len addr => hdrBits ({ fromTwo ptSched tag len addr with fixed := true } : Hdr)) 0 64 0, (fun tag len addr => ({ fromTwo ptSched tag len addr with fixed := true } : Hdr)) 0 64 0, by unfold State.powered; decide +kernel, by decide +kernel, by decide +kernel, by decide +kernel⟩,
    ⟨base (ringDev []), 5, (fun tag len addr => hdrBits ({ fromTwo ptSched tag len addr with fixed := true } : Hdr)) 2 64 0, (fun tag len addr => ({ fromTwo ptSched tag len addr with fixed := true } : Hdr)) 2 64 0, by unfold State.powered; decide +kernel, by decide +kernel, by decide +kernel, by decide +kernel, by decide +kernel, by decide +kernel⟩,
    ⟨base (ringDev []), 5, (fun tag len addr => hdrBits ({ fromTwo ptSched tag len addr with fixed := true } : Hdr)) 32768 64 0, (fun tag len addr => ({ fromTwo ptSched tag len addr with fixed := true } : Hdr)) 32768 64 0, by unfold State.powered; decide +kernel, by decide +kernel, by decide +kernel, by decide +kernel, by decide +kernel⟩,
    ⟨(gateSlot opRecv (2 * 2 ^ 50 + 4096) 0), 5, (fun tag len addr => hdrBits ({ fromTwo ptSched tag len addr with fixed := true } : Hdr)) 0 64 4032, (fun tag len addr => ({ fromTwo ptSched tag len addr with fixed := true } : Hdr)) 0 64 4032, by unfold State.powered; decide +kernel, by decide +kernel, by decide +kernel, by decide +kernel, by decide +kernel, by decide +kernel, by decide +kernel, ⟨2, 5, 0, (fun op => (⟨100, op * 2 ^ 56 + 0xFFFF * 2 ^ 40, 2 * 2 ^ 50 + 4096, 0⟩ : Slot)) opRecv, segment⟩, by decide +kernel, 0x1000FC0, by decide +kernel, by decide +kernel, by decide +kernel⟩,
    ⟨(gateSlot opRecv (2 * 2 ^ 50 + 4096) 0), 5, (fun tag len addr => hdrBits ({ fromTwo ptSched tag len addr with fixed := true } : Hdr)) 0 64 4033, (fun tag len addr => ({ fromTwo ptSched tag len addr with fixed := true } : Hdr)) 0 64 4033, by unfold State.powered; decide +kernel, by decide +kernel, by decide +kernel, by decide +kernel, by decide +kernel, by decide +kernel, by decide +kernel, ⟨2, 5, 0, (fun op => (⟨100, op * 2 ^ 56 + 0xFFFF * 2 ^ 40, 2 * 2 ^ 50 + 4096, 0⟩ : Slot)) opRecv, segment⟩, by decide +kernel, by decide +kernel⟩⟩

/-! ### Witnesses: the Kiosk, arbiters, the control plane, security, the block as a whole -/

theorem pair_ok {ε α β : Type} [DecidableEq α] {x : Except ε α × β} {a : α} (h : okIs x.1 a = true) : x = (.ok a, x.2) := Prod.ext (ok_of h) rfl

/-- Does a check give this refusal? -/
def errIs {ε α : Type} [DecidableEq ε] (x : Except ε α) (a : ε) : Bool :=
  match x with
  | .ok _ => false
  | .error b => b == a

theorem pair_error {α β : Type} {x : Except Nat α × β} {a : Nat} (h : errIs x.1 a = true) : x = (.error a, x.2) := by
  obtain ⟨x, y⟩ := x
  cases x with
  | ok b => simp [errIs] at h
  | error e => simp [errIs] at h; rw [h]

theorem same_of {a b : Dev} (h : b = a) (l : List Fld) : Dev.sameRegsBut l a b := by
  subst h
  intro f _
  rfl

/-- A device whose Kiosk is enabled on root 3. -/
def kiosk (l : List (Fld × Nat)) : Dev := holding ([(F.KSK_CTRL_EN, 1), (F.KSK_CTRL_ROOT, 3)] ++ l) Mem.reset (entry0 tyCopy [] false)

theorem authentic_at (s : State) (key : Nat) (value : List Byte) (hp : s.dev.pwr.pwrgd = true) (hs : s.dev.serves key = true)
    (hr : s.resent (authFor key value) (authReq (authFor key value) key value) = none) (hv : s.vault.slot0.locked = false ∧ s.vault.slot0.counter = 0)
    (hm : maskAllows s.vault.slot0.mask key = true) (hk : s.vault.slot0.key = some Config.transportKey) :
    s.authentic (authFor key value) key value :=
  ⟨⟨hp, hs, rfl⟩, hr, hv.1, (hv.2 ▸ (by decide : 0 < 1) : s.vault.slot0.counter < 1), (by decide : 1 < 2 ^ 64), hm, Config.transportKey, hk, rfl⟩

/-- The fields of a frame. -/
def fieldsOf (raw : List Byte) : LopFrame := (readFrame raw).getD ⟨0, 0, 0, 0, 0, 0, 0, 0, [], []⟩

theorem takesLop_of (s : State) (source : Nat) (raw : List Byte) (f : LopFrame) (h1 : readFrame raw = some f) (h2 : s.dev.pwr.pwrgd = true)
    (h3 : s.dev.serves f.key = true ∧ s.dev.carries source = true) (h4 : f.reserved = false ∧ f.length ≤ 1400) : s.takesLop source raw f :=
  ⟨h1, ⟨h2, h3.1, h3.2⟩, h4.1, h4.2⟩

/-- A frame without a trailer. -/
def request (op key flags : Nat) (data : List Byte) (offset : Nat) : List Byte := lopFrame op 7 key flags 0 data offset

/-- The row of an object that exists. -/
def rowOf (key : Nat) : ObjRow := (objRow key).getD ⟨0, .u8, .ro, .any, false, []⟩

theorem writable_some {k : Nat} (h : ((objRow k).map fun o => o.acc == .ro) = some false) : writable k = (stOk, some (rowOf k)) := by
  unfold writable rowOf
  cases e : objRow k with
  | none => simp [e] at h
  | some o => simp [e] at h; simp [h]

theorem writable_none {k : Nat} (h : ((objRow k).map fun o => o.acc == .ro) = some true) : (writable k).2 = none := by
  unfold writable
  cases e : objRow k with
  | none => simp [e] at h
  | some o => simp [e] at h; simp [h]

theorem row_value {k : Nat} {v : List Byte} {x : Bool} (h : ((objRow k).map fun o => o.valueOk v) = some x) :
    ∀ o : ObjRow, objRow k = some o → o.valueOk v = x := by
  intro o e
  simpa [e] using h

/-- A READY device whose flash is write-protected or not. -/
def guarded (wp : Bool) (l : List (Fld × Nat)) : Dev := { regs ([(F.PWR_BOOT_STATE, 1)] ++ l) with pwr := { Dev.reset.pwr with flashWp := wp } }

/-- Bytes in the mailbox's request registers. -/
def posted (b : List Byte) : List (Fld × Nat) :=
  (F.MBX_REQ_LEN_LEN, b.length) :: (List.range 3).map fun i => (F.MBX_REQ_DATA i, leNat ((b.drop (8 * i)).take 8))

/-- A value of the key object. -/
def keyValue (target res mask : Nat) (key : Byte) : List Byte :=
  [BitVec.ofNat 8 target, BitVec.ofNat 8 res] ++ leBytes 2 mask ++ List.replicate 4 0#8 ++ List.replicate 48 key

/-- The next state of an outcome. -/
def nextOf (s : State) : State :=
  match step s with
  | .next t => t
  | _ => s

theorem step_next {s : State} (h : (match step s with | .next _ => true | _ => false) = true) : step s = .next (nextOf s) := by
  unfold nextOf
  split at h
  · rename_i t e
    rw [e]
  · cases h

/-- Event ring 0 of 16 records. -/
def ring0 (pi : Nat) : Dev := regs [(F.HST_EVR_CTL_EN 0, 1), (F.HST_EVR_BASE_PA 0, 0x40000), (F.HST_EVR_IDX_PI 0, pi)]

theorem witness_KioskAndHostLink :
    (∃ (s : State) (o n : Nat), (s.powered) ∧ (inKiosk o n = false)) ∧
    (∃ (s : State) (o : Nat) (data : List Byte), (s.powered) ∧ (inKiosk o data.length = false)) ∧
    (∃ (s : State) (o : Nat) (bytes : Nat), (s.powered) ∧ (inKiosk o bytes = false)) ∧
    (∃ (s : State) (o : Nat) (op : AtomOp) (bytes : Nat), (s.powered) ∧ let lawful := (bytes == 4 || bytes == 8) && o % bytes == 0 && (op == .add || op == .exch || op == .cas) && s.dev.has ftPcieAtomic; (inKiosk o bytes = true) ∧ (lawful = false)) ∧
    (∃ (s : State) (o n : Nat), (s.powered) ∧ ∃ (runs : List (Nat × Nat)) (d : Dev), (inKiosk o n = true) ∧ (s.dev.kioskRuns o n 1 = (.ok runs, d)) ∧ (s.dev.runsWait runs = false) ∧ (d.readRuns runs false = (stOk, d))) ∧
    (∃ (s : State) (o : Nat) (data : List Byte), (s.powered) ∧ ∃ (runs : List (Nat × Nat)) (d : Dev), (inKiosk o data.length = true) ∧ (s.dev.kioskRuns o data.length 2 = (.ok runs, d)) ∧ (s.dev.runsWait runs = false) ∧ (d.writeRunsStatus runs = stOk)) ∧
    (∃ (s : State) (o : Nat) (op : AtomOp) (bytes : Nat), (s.powered) ∧ let lawful := (bytes == 4 || bytes == 8) && o % bytes == 0 && (op == .add || op == .exch || op == .cas) && s.dev.has ftPcieAtomic; ∃ (pa : Nat) (d : Dev), (inKiosk o bytes = true) ∧ (lawful = true) ∧ (s.dev.kioskRuns o bytes 4 = (.ok [(pa, bytes)], d)) ∧ (s.dev.runsWait [(pa, bytes)] = false) ∧ (paKind pa ≠ .ring) ∧ (isHost pa = false) ∧ (d.readStatus pa bytes false = (stOk, d)) ∧ (d.writeStatus pa bytes = stOk)) ∧
    (∃ (s : State) (o n : Nat) (due : Bool) (data : List Byte) (op : AtomOp) (a b bytes : Nat), (s.powered) ∧ let lawful := (bytes == 4 || bytes == 8) && o % bytes == 0 && (op == .add || op == .exch || op == .cas) && s.dev.has ftPcieAtomic; ∃ (c : Instr) (len need kind st : Nat) (d : Dev), ((c, len, need, kind) ∈ [(Instr.kioskRead o n due, n, 1, 0), (.kioskWrite o data, data.length, 2, 1), (.kioskAtomicOp o bytes op a b due, bytes, 4, 2)]) ∧ (inKiosk o len = true) ∧ (kind ≠ 2 ∨ lawful = true) ∧ (s.dev.kioskRuns o len need = (.error st, d)) ∧ (d.events = s.dev.events) ∧ (d.host = s.dev.host) ∧ (Dev.sameRegsBut walkFields s.dev d) ∧ (d.mem = s.dev.mem) ∧ (d.sram = s.dev.sram)) ∧
    (∃ s : State, (s.powered)) ∧
    (∃ s : State, (s.powered)) ∧
    (∃ s : State, (s.powered) ∧ (s.dev.host.cfgReady = false)) ∧
    (∃ s : State, (s.powered) ∧ let wrote := s.dev.host.entries.filter (·.wroteHost); (s.dev.host.cfgReady = true) ∧ ((∀ e ∈ wrote, e.finished.isSome = true))) ∧
    (∃ s : State, (s.powered) ∧ (s.dev.host.cfgReady = false)) ∧
    (∃ s : State, (s.powered) ∧ (s.dev.host.cfgReady = true) ∧ (s.dev.on F.HST_LINK_DL_UP = true) ∧ (s.dev.host.queues = []) ∧ let held := (List.range 64).flatMap s.dev.ringHeld; (held = [])) ∧
    (∃ s : State, (s.powered) ∧ (s.dev.host.cfgReady = true) ∧ (s.dev.on F.HST_LINK_DL_UP = true) ∧ (s.dev.host.queues = []) ∧ let held := (List.range 64).flatMap s.dev.ringHeld; ∃ (pa : Nat) (bytes : List Byte), (held = [pa]) ∧ (Table.get (fun _ => none) s.dev.host.records pa = some (bytes, false))) :=
  ⟨⟨(base Dev.reset), 0, 0, by unfold State.powered; decide +kernel, by decide +kernel⟩,
    ⟨(base Dev.reset), 0, [], by unfold State.powered; decide +kernel, by decide +kernel⟩,
    ⟨(base Dev.reset), 0xFFFFFFE, 4, by unfold State.powered; decide +kernel, by decide +kernel⟩,
    ⟨(base Dev.reset), 2, .add, 4, by unfold State.powered; decide +kernel, by decide +kernel, by decide +kernel⟩,
    ⟨(base (kiosk [])), 0x4FFC0, 128, by unfold State.powered; decide +kernel, [(0x4FFC0, 128)], ((kiosk []).kioskRuns 0x4FFC0 128 1).2, by decide +kernel, (pair_ok (by decide +kernel)), by decide +kernel, by decide +kernel⟩,
    ⟨(base (kiosk [])), 0x40000, [1, 2], by unfold State.powered; decide +kernel, [(0x40000, 2)], ((kiosk []).kioskRuns 0x40000 2 2).2, by decide +kernel, (pair_ok (by decide +kernel)), by decide +kernel, by decide +kernel⟩,
    ⟨(base (kiosk [])), 0x40000, .add, 8, by unfold State.powered; decide +kernel, 0x40000, ((kiosk []).kioskRuns 0x40000 8 4).2, by decide +kernel, by decide +kernel, (pair_ok (by decide +kernel)), by decide +kernel, by decide +kernel, by decide +kernel, by decide +kernel, by decide +kernel⟩,
    ⟨(base Dev.reset), 0x40000, 64, false, [], .add, 1, 0, 8, by unfold State.powered; decide +kernel, .kioskRead 0x40000 64 false, 64, 1, 0, stPerm, ((Dev.reset).kioskRuns 0x40000 64 1).2, by decide +kernel, by decide +kernel, by decide +kernel, (pair_error (by decide +kernel)), by decide +kernel, by decide +kernel, same_of (by decide +kernel) _, by decide +kernel, by decide +kernel⟩,
    ⟨(base Dev.reset), by unfold State.powered; decide +kernel⟩,
    ⟨(base Dev.reset), by unfold State.powered; decide +kernel⟩,
    ⟨base { Dev.reset with host := { HostSt.reset with cfgReady := false } }, by unfold State.powered; decide +kernel, by decide +kernel⟩,
    ⟨base { Dev.reset with host := { HostSt.reset with cfgReady := true } }, by unfold State.powered; decide +kernel, by decide +kernel, by decide +kernel⟩,
    ⟨base { Dev.reset with host := { HostSt.reset with cfgReady := false } }, by unfold State.powered; decide +kernel, by decide +kernel⟩,
    ⟨base { regs [(F.HST_LINK_DL_UP, 1)] with host := { HostSt.reset with cfgReady := true } }, by unfold State.powered; decide +kernel, by decide +kernel, by decide +kernel, by decide +kernel, by decide +kernel⟩,
    ⟨base { ring0 1 with regs := (regs [(F.HST_LINK_DL_UP, 1), (F.HST_EVR_CTL_EN 0, 1), (F.HST_EVR_BASE_PA 0, 0x40000), (F.HST_EVR_IDX_PI 0, 1)]).regs, host := { HostSt.reset with cfgReady := true, records := [(0x40000, some ([1, 2], false))] } }, by unfold State.powered; decide +kernel, by decide +kernel, by decide +kernel, by decide +kernel, 0x40000, [1, 2], by decide +kernel, by decide +kernel⟩⟩

theorem witness_ArbitersPartitionsAndTheClusterMap :
    (∃ (s : State) (a : Fin 6) (inst : Nat) (ready : List ArbReq), (s.powered) ∧ let open' := ready.filter fun r => !s.dev.arbMasked a inst r; (open' = [])) ∧
    (∃ (s : State) (a : Fin 6) (inst : Nat) (held : Option ArbReq) (ready : List ArbReq), (s.powered) ∧ let open' := ready.filter fun r => !s.dev.arbMasked a inst r; (open' ≠ []) ∧ (held = none)) ∧
    (∃ (s : State) (a : Fin 6) (inst : Nat) (held : Option ArbReq) (ready : List ArbReq), (s.powered) ∧ let open' := ready.filter fun r => !s.dev.arbMasked a inst r; ∃ h r : ArbReq, (held = some h) ∧ (s.dev.arbPick a inst open' = some r) ∧ (s.dev.arbPreempts a inst r h = false)) ∧
    (∃ (s : State) (a : Fin 6) (inst : Nat) (held : Option ArbReq) (ready : List ArbReq), (s.powered) ∧ let open' := ready.filter fun r => !s.dev.arbMasked a inst r; ∃ h r : ArbReq, (held = some h) ∧ (s.dev.arbPick a inst open' = some r) ∧ (s.dev.arbPreempts a inst r h = true)) ∧
    (∃ s : State, (s.powered)) ∧
    (∃ s : State, (s.powered)) ∧
    (∃ (s : State) (a : Auth) (p : Fin 8) (record : Word), (s.authentic a (partKey p) (leBytes 8 record.toNat)) ∧ (s.dev.pwr.flashWp = false) ∧ let rec_ := record.toNat; (bit rec_ 63 = true) ∧ ((s.dev.partCreate p rec_).1 ≠ stOk)) ∧
    (∃ (s : State) (a : Auth) (p : Fin 8) (record : Word), (s.authentic a (partKey p) (leBytes 8 record.toNat)) ∧ (s.dev.pwr.flashWp = false) ∧ let rec_ := record.toNat; (bit rec_ 63 = true) ∧ (s.dev.get F.PWR_BOOT_STATE ≠ dsFailed) ∧ (bits rec_ 38 36 = 0) ∧ (bits rec_ 17 0 = 0) ∧ (s.dev.on (F.ARB_PART_ACTIVE p) = false) ∧ (bits rec_ 26 18 + bits rec_ 35 27 ≤ 384) ∧ ((∀ q < 8, s.dev.on (F.ARB_PART_ACTIVE q) = true → s.dev.partClash rec_ q = false)) ∧ (bit rec_ 62 = false)) ∧
    (∃ (s : State) (a : Auth) (p : Fin 8) (record : Word), (s.authentic a (partKey p) (leBytes 8 record.toNat)) ∧ (s.dev.pwr.flashWp = false) ∧ let rec_ := record.toNat; (bit rec_ 63 = true) ∧ (s.dev.get F.PWR_BOOT_STATE ≠ dsFailed) ∧ (bits rec_ 38 36 = 0) ∧ (bits rec_ 17 0 = 0) ∧ (s.dev.on (F.ARB_PART_ACTIVE p) = false) ∧ (bits rec_ 26 18 + bits rec_ 35 27 ≤ 384) ∧ ((∀ q < 8, s.dev.on (F.ARB_PART_ACTIVE q) = true → s.dev.partClash rec_ q = false)) ∧ ∃ x y : Frame, (bit rec_ 62 = true) ∧ (s.dev.has ftScheduled = true) ∧ (s.dev.buffersFor p = some [x, y])) ∧
    (∃ (s : State) (a : Auth) (p : Fin 8) (record : Word), (s.authentic a (partKey p) (leBytes 8 record.toNat)) ∧ (s.dev.pwr.flashWp = false) ∧ let rec_ := record.toNat; (bit rec_ 63 = false) ∧ ((s.dev.partDestroy p rec_).1 ≠ stOk)) ∧
    (∃ (s : State) (a : Auth) (p : Fin 8) (record : Word), (s.authentic a (partKey p) (leBytes 8 record.toNat)) ∧ (s.dev.pwr.flashWp = false) ∧ let rec_ := record.toNat; (bit rec_ 63 = false) ∧ (bits rec_ 38 36 = 0) ∧ (bits rec_ 17 0 = 0) ∧ (s.dev.on (F.ARB_PART_ACTIVE p) = true) ∧ (s.dev.partIdle p = false)) ∧
    (∃ (s : State) (a : Auth) (p : Fin 8) (record : Word), (s.authentic a (partKey p) (leBytes 8 record.toNat)) ∧ (s.dev.pwr.flashWp = false) ∧ let rec_ := record.toNat; (bit rec_ 63 = false) ∧ (bits rec_ 38 36 = 0) ∧ (bits rec_ 17 0 = 0) ∧ (s.dev.on (F.ARB_PART_ACTIVE p) = true) ∧ (s.dev.partIdle p = true)) ∧
    (∃ (s : State) (a : Auth) (l : Fin 384), (s.authentic a 0x230007 (leBytes 2 l)) ∧ (s.dev.has ftSpares = false)) ∧
    (∃ (s : State) (a : Auth) (l : Fin 384), (s.authentic a 0x230007 (leBytes 2 l)) ∧ let h := s.dev.get F.IDF_ID_CLUSTERS - 1; ∃ old moved : Nat, (s.dev.has ftSpares = true) ∧ (s.dev.physOf l = some old) ∧ (s.dev.physOf h = some moved) ∧ (h < 384) ∧ let quiet := s.dev.imageNames l = false ∧ s.dev.imageNames h = false ∧ s.dev.quiescent old = true ∧ s.dev.quiescent moved = true; (¬ quiet)) ∧
    (∃ (s : State) (a : Auth) (l : Fin 384), (s.authentic a 0x230007 (leBytes 2 l)) ∧ let h := s.dev.get F.IDF_ID_CLUSTERS - 1; ∃ old moved : Nat, (s.dev.has ftSpares = true) ∧ (s.dev.physOf l = some old) ∧ (s.dev.physOf h = some moved) ∧ (h < 384) ∧ let quiet := s.dev.imageNames l = false ∧ s.dev.imageNames h = false ∧ s.dev.quiescent old = true ∧ s.dev.quiescent moved = true; (quiet) ∧ (old < 400) ∧ (moved < 400) ∧ ((old = moved ↔ l.val = h))) ∧
    (∃ (s : State) (a : Auth) (v : Bool), (s.authentic a 0x230008 (boolByte v))) :=
  ⟨⟨(base Dev.reset), 0, 0, [], by unfold State.powered; decide +kernel, by decide +kernel⟩,
    ⟨(base Dev.reset), 2, 0, none, [(⟨1, 2, 0, 0⟩)], by unfold State.powered; decide +kernel, by decide +kernel, by decide +kernel⟩,
    ⟨(base Dev.reset), 2, 0, some ⟨1, 3, 0, 0⟩, [(⟨1, 2, 0, 0⟩)], by unfold State.powered; decide +kernel, ⟨1, 3, 0, 0⟩, (⟨1, 2, 0, 0⟩), by decide +kernel, by decide +kernel, by decide +kernel⟩,
    ⟨(base Dev.reset), 2, 0, some (⟨1, 2, 0, 0⟩), [⟨1, 5, 0, 0⟩], by unfold State.powered; decide +kernel, (⟨1, 2, 0, 0⟩), ⟨1, 5, 0, 0⟩, by decide +kernel, by decide +kernel, by decide +kernel⟩,
    ⟨(base Dev.reset), by unfold State.powered; decide +kernel⟩,
    ⟨(base Dev.reset), by unfold State.powered; decide +kernel⟩,
    ⟨(base (readyDev [(F.ARB_PART_ACTIVE 0, 0), (F.ARB_FQ_QUOTA 1, 0x4000)])), (fun rec => authFor (partKey 1) (leBytes 8 (BitVec.ofNat 64 rec).toNat)) 0x8000000000000001, 1, 0x8000000000000001#64, (authentic_of _ _ _ (by decide +kernel) (by decide +kernel) (by decide +kernel)), by decide +kernel, by decide +kernel, by decide +kernel⟩,
    ⟨(base (readyDev [(F.ARB_PART_ACTIVE 0, 0), (F.ARB_FQ_QUOTA 1, 0x4000)])), (fun rec => authFor (partKey 1) (leBytes 8 (BitVec.ofNat 64 rec).toNat)) 0x8000000000000000, 1, 0x8000000000000000#64, (authentic_of _ _ _ (by decide +kernel) (by decide +kernel) (by decide +kernel)), by decide +kernel, by decide +kernel, by decide +kernel, by decide +kernel, by decide +kernel, by decide +kernel, by decide +kernel, by decide +kernel, by decide +kernel⟩,
    ⟨(base (readyDev [(F.ARB_PART_ACTIVE 0, 0), (F.ARB_FQ_QUOTA 1, 0x4000)])), (fun rec => authFor (partKey 1) (leBytes 8 (BitVec.ofNat 64 rec).toNat)) 0xC000000000000000, 1, 0xC000000000000000#64, (authentic_of _ _ _ (by decide +kernel) (by decide +kernel) (by decide +kernel)), by decide +kernel, by decide +kernel, by decide +kernel, by decide +kernel, by decide +kernel, by decide +kernel, by decide +kernel, by decide +kernel, (((base (readyDev [(F.ARB_PART_ACTIVE 0, 0), (F.ARB_FQ_QUOTA 1, 0x4000)]))).dev.buffersFor 1 |>.getD []).getD 0 ⟨0, 0, 0, false, false⟩, (((base (readyDev [(F.ARB_PART_ACTIVE 0, 0), (F.ARB_FQ_QUOTA 1, 0x4000)]))).dev.buffersFor 1 |>.getD []).getD 1 ⟨0, 0, 0, false, false⟩, by decide +kernel, by decide +kernel, by decide +kernel⟩,
    ⟨(base (readyDev [(F.ARB_PART_ACTIVE 0, 0), (F.ARB_FQ_QUOTA 1, 0x4000)])), (fun rec => authFor (partKey 1) (leBytes 8 (BitVec.ofNat 64 rec).toNat)) 1, 1, 1#64, (authentic_of _ _ _ (by decide +kernel) (by decide +kernel) (by decide +kernel)), by decide +kernel, by decide +kernel, by decide +kernel⟩,
    ⟨base { readyDev [(F.ARB_PART_ACTIVE 1, 1), (F.ARB_PART_CLUSTER_COUNT 1, 0)] with host := { HostSt.reset with queues := [(5, some queue0)] } }, (fun rec => authFor (partKey 1) (leBytes 8 (BitVec.ofNat 64 rec).toNat)) 0, 1, 0#64, (authentic_of _ _ _ (by decide +kernel) (by decide +kernel) (by decide +kernel)), by decide +kernel, by decide +kernel, by decide +kernel, by decide +kernel, by decide +kernel, by decide +kernel⟩,
    ⟨(base (readyDev [(F.ARB_PART_ACTIVE 1, 1), (F.ARB_PART_CLUSTER_COUNT 1, 0)])), (fun rec => authFor (partKey 1) (leBytes 8 (BitVec.ofNat 64 rec).toNat)) 0, 1, 0#64, (authentic_of _ _ _ (by decide +kernel) (by decide +kernel) (by decide +kernel)), by decide +kernel, by decide +kernel, by decide +kernel, by decide +kernel, by decide +kernel, by decide +kernel⟩,
    ⟨base (regs [(F.PWR_BOOT_STATE, 1)]), authFor 0x230007 (leBytes 2 3), 3, (authentic_of _ _ _ (by decide +kernel) (by decide +kernel) (by decide +kernel)), by decide +kernel⟩,
    ⟨base { (readyDev [(F.IDF_ID_CLUSTERS, 384), (F.CLU_LMAP_VALID 3, 1), (F.CLU_LMAP_PHYS 3, 3), (F.CLU_LMAP_VALID 383, 1), (F.CLU_LMAP_PHYS 383, 395)]) with parts := [(2, { PartSt.reset with running := some (oneSlot engTensor 3 opMatrix 0x11 [] []) })] }, authFor 0x230007 (leBytes 2 3), 3, (authentic_of _ _ _ (by decide +kernel) (by decide +kernel) (by decide +kernel)), 3, 395, by decide +kernel, by decide +kernel, by decide +kernel, by decide +kernel, by decide +kernel⟩,
    ⟨base (readyDev [(F.IDF_ID_CLUSTERS, 384), (F.CLU_LMAP_VALID 3, 1), (F.CLU_LMAP_PHYS 3, 3), (F.CLU_LMAP_VALID 383, 1), (F.CLU_LMAP_PHYS 383, 395)]), authFor 0x230007 (leBytes 2 3), 3, (authentic_of _ _ _ (by decide +kernel) (by decide +kernel) (by decide +kernel)), 3, 395, by decide +kernel, by decide +kernel, by decide +kernel, by decide +kernel, by decide +kernel, by decide +kernel, by decide +kernel, by decide +kernel⟩,
    ⟨(base (readyDev [(F.ARB_PART_ACTIVE 0, 0), (F.ARB_FQ_QUOTA 1, 0x4000)])), authFor 0x230008 (boolByte true), true, (authentic_of _ _ _ (by decide +kernel) (by decide +kernel) (by decide +kernel))⟩⟩

theorem witness_ObjectsAreReadAndWritten :
    (∃ (s : State) (source : Nat) (raw : List Byte) (c : Instr) (op : Nat), (s.powered) ∧ (s.dev.carries source = true) ∧ ((c, op) ∈ [(Instr.read source raw, 1), (.write source raw, 2), (.readSeg source raw, 3), (.writeSeg source raw, 4)]) ∧ (readFrame raw = none)) ∧
    (∃ (s : State) (source : Nat) (raw : List Byte) (c : Instr) (op : Nat), (s.powered) ∧ (s.dev.carries source = true) ∧ ((c, op) ∈ [(Instr.read source raw, 1), (.write source raw, 2), (.readSeg source raw, 3), (.writeSeg source raw, 4)]) ∧ ∃ f : LopFrame, (readFrame raw = some f) ∧ (s.dev.serves f.key = false ∨ (f.op ≠ op ∧ 0 < f.op ∧ f.op ≤ 4))) ∧
    (∃ (s : State) (source : Nat) (raw : List Byte) (c : Instr) (op : Nat), (s.powered) ∧ (s.dev.carries source = true) ∧ ((c, op) ∈ [(Instr.read source raw, 1), (.write source raw, 2), (.readSeg source raw, 3), (.writeSeg source raw, 4)]) ∧ ∃ f : LopFrame, (readFrame raw = some f) ∧ (s.dev.serves f.key = true) ∧ (f.op = op) ∧ (f.reserved = true)) ∧
    (∃ (s : State) (source : Nat) (raw : List Byte) (c : Instr) (op : Nat), (s.powered) ∧ (s.dev.carries source = true) ∧ ((c, op) ∈ [(Instr.read source raw, 1), (.write source raw, 2), (.readSeg source raw, 3), (.writeSeg source raw, 4)]) ∧ ∃ f : LopFrame, (readFrame raw = some f) ∧ (s.dev.serves f.key = true) ∧ (f.op = op) ∧ (f.reserved = false) ∧ (1400 < f.length)) ∧
    (∃ (s : State) (source : Nat) (raw : List Byte) (f : LopFrame), (s.takesLop source raw f) ∧ (f.key ≠ 0x500402) ∧ let v := s.readObject f.key; (f.op = 1) ∧ (v.1 = stOk) ∧ (v.2.length ≤ 1400)) ∧
    (∃ (s : State) (source : Nat) (raw : List Byte) (f : LopFrame), (s.takesLop source raw f) ∧ (f.key ≠ 0x500402) ∧ let v := s.readObject f.key; (f.op = 1) ∧ (v.1 = stOk) ∧ (1400 < v.2.length)) ∧
    (∃ (s : State) (source : Nat) (raw : List Byte) (f : LopFrame), (s.takesLop source raw f) ∧ (f.key ≠ 0x500402) ∧ let v := s.readObject f.key; (f.op = 1) ∧ (v.1 ≠ stOk)) ∧
    (∃ (s : State) (source : Nat) (raw : List Byte) (f : LopFrame), (s.takesLop source raw f) ∧ (f.key ≠ 0x500402) ∧ let v := s.readObject f.key; (f.op = 3) ∧ (v.1 = stOk) ∧ (f.offset ≤ v.2.length)) ∧
    (∃ (s : State) (source : Nat) (raw : List Byte) (f : LopFrame), (s.takesLop source raw f) ∧ (f.key ≠ 0x500402) ∧ let v := s.readObject f.key; (f.op = 3) ∧ (v.1 = stOk) ∧ (v.2.length < f.offset)) ∧
    (∃ (s : State) (source : Nat) (raw : List Byte) (f : LopFrame), (s.takesLop source raw f) ∧ (f.key ≠ 0x500402) ∧ let v := s.readObject f.key; (f.op = 3) ∧ (v.1 ≠ stOk)) ∧
    (∃ (s : State) (source : Nat) (raw : List Byte) (f : LopFrame) (c : Instr) (op : Nat), (s.takesLop source raw f) ∧ (s.dev.ctl.resetDue = 0) ∧ ((c, op) ∈ [(Instr.write source raw, 2), (.writeSeg source raw, 4)]) ∧ (f.op = op) ∧ ((writable f.key).2 = none)) ∧
    (∃ (s : State) (source : Nat) (raw : List Byte) (f : LopFrame) (c : Instr) (op : Nat), (s.takesLop source raw f) ∧ (s.dev.ctl.resetDue = 0) ∧ ((c, op) ∈ [(Instr.write source raw, 2), (.writeSeg source raw, 4)]) ∧ (f.op = op) ∧ ∃ o : ObjRow, (writable f.key = (stOk, some o)) ∧ (bit f.flags 1 = false) ∧ (op = 2 ∨ (bit f.flags 0 = true ∧ f.offset = 0 ∧ (∀ w ∈ s.dev.ctl.open_, w.key ≠ f.key) ∧ s.dev.ctl.open_.length < 4 ∧ f.data.length ≤ o.maxLen)) ∧ (o.acc = .auth)) ∧
    (∃ (s : State) (source : Nat) (raw : List Byte) (f : LopFrame) (c : Instr) (op : Nat), (s.takesLop source raw f) ∧ (s.dev.ctl.resetDue = 0) ∧ ((c, op) ∈ [(Instr.write source raw, 2), (.writeSeg source raw, 4)]) ∧ (f.op = op) ∧ ∃ o : ObjRow, (writable f.key = (stOk, some o)) ∧ (bit f.flags 1 = false) ∧ (op = 2 ∨ (bit f.flags 0 = true ∧ f.offset = 0 ∧ (∀ w ∈ s.dev.ctl.open_, w.key ≠ f.key) ∧ s.dev.ctl.open_.length < 4 ∧ f.data.length ≤ o.maxLen)) ∧ (f.key ∈ [0x230002, 0x230003, 0x230006, 0x280001, 0x290002, 0x2B0002]) ∧ (s.dev.pwr.flashWp = true)) ∧
    (∃ (s : State) (source : Nat) (raw : List Byte) (f : LopFrame) (c : Instr) (op : Nat), (s.takesLop source raw f) ∧ (s.dev.ctl.resetDue = 0) ∧ ((c, op) ∈ [(Instr.write source raw, 2), (.writeSeg source raw, 4)]) ∧ (f.op = op) ∧ ∃ o : ObjRow, (writable f.key = (stOk, some o)) ∧ (bit f.flags 1 = false) ∧ (op = 2 ∨ (bit f.flags 0 = true ∧ f.offset = 0 ∧ (∀ w ∈ s.dev.ctl.open_, w.key ≠ f.key) ∧ s.dev.ctl.open_.length < 4 ∧ f.data.length ≤ o.maxLen)) ∧ (f.key ∈ [0x230002, 0x230003, 0x230006, 0x280001, 0x290002, 0x2B0002]) ∧ (s.dev.pwr.flashWp = false) ∧ (o.valueOk f.data = false)) ∧
    (∃ (s : State) (source : Nat) (raw : List Byte) (f : LopFrame) (c : Instr) (op : Nat), (s.takesLop source raw f) ∧ (s.dev.ctl.resetDue = 0) ∧ ((c, op) ∈ [(Instr.write source raw, 2), (.writeSeg source raw, 4)]) ∧ (f.op = op) ∧ ∃ o : ObjRow, (writable f.key = (stOk, some o)) ∧ (bit f.flags 1 = false) ∧ (op = 2 ∨ (bit f.flags 0 = true ∧ f.offset = 0 ∧ (∀ w ∈ s.dev.ctl.open_, w.key ≠ f.key) ∧ s.dev.ctl.open_.length < 4 ∧ f.data.length ≤ o.maxLen)) ∧ (f.key ∈ [0x230002, 0x230003, 0x230006, 0x280001, 0x290002, 0x2B0002]) ∧ (s.dev.pwr.flashWp = false) ∧ (o.valueOk f.data = true)) ∧
    (∃ (s : State) (source : Nat) (raw : List Byte) (f : LopFrame) (o : ObjRow), (s.takesLop source raw f) ∧ (f.op = 4) ∧ (writable f.key = (stOk, some o)) ∧ (bit f.flags 1 = false) ∧ (bit f.flags 0 = false) ∧ let rest := s.dev.ctl.others f.key source; (f.offset = 0) ∧ ((∀ w ∈ rest, w.key ≠ f.key)) ∧ (rest.length < 4) ∧ (f.data.length ≤ o.maxLen)) ∧
    (∃ (s : State) (source : Nat) (raw : List Byte) (f : LopFrame) (o : ObjRow), (s.takesLop source raw f) ∧ (f.op = 4) ∧ (writable f.key = (stOk, some o)) ∧ (bit f.flags 1 = false) ∧ (bit f.flags 0 = false) ∧ let rest := s.dev.ctl.others f.key source; (f.offset = 0) ∧ ((∃ w ∈ rest, w.key = f.key))) ∧
    (∃ (s : State) (source : Nat) (raw : List Byte) (f : LopFrame) (o : ObjRow), (s.takesLop source raw f) ∧ (f.op = 4) ∧ (writable f.key = (stOk, some o)) ∧ (bit f.flags 1 = false) ∧ (bit f.flags 0 = false) ∧ ∃ w : OpenWrite, (f.offset ≠ 0) ∧ ((s.dev.ctl.open_.find? fun w => w.key == f.key && w.source == source) = some w) ∧ (f.offset = w.bytes.length) ∧ (w.bytes.length + f.data.length ≤ o.maxLen)) ∧
    (∃ (s : State) (source : Nat) (raw : List Byte) (f : LopFrame) (o : ObjRow), (s.takesLop source raw f) ∧ (f.op = 4) ∧ (writable f.key = (stOk, some o)) ∧ (bit f.flags 1 = false) ∧ (bit f.flags 0 = false) ∧ ∃ w : OpenWrite, (f.offset ≠ 0) ∧ ((s.dev.ctl.open_.find? fun w => w.key == f.key && w.source == source) = some w) ∧ (f.offset ≠ w.bytes.length)) ∧
    (∃ s : State, (s.powered)) ∧
    (∃ s : State, (s.powered) ∧ (s.dev.get F.MBX_STATUS_STATE = 1)) ∧
    (∃ s : State, (s.powered) ∧ let n := s.dev.get F.MBX_REQ_LEN_LEN; (s.dev.get F.MBX_STATUS_STATE ≠ 1) ∧ (n < 20 ∨ 1452 < n)) ∧
    (∃ s : State, (s.powered) ∧ let n := s.dev.get F.MBX_REQ_LEN_LEN; ∃ f : LopFrame, (s.dev.get F.MBX_STATUS_STATE ≠ 1) ∧ (20 ≤ n) ∧ (n ≤ 1452) ∧ (s.takesLop srcMailbox (s.dev.mailbox n) f) ∧ (f.op = 1) ∧ (f.key ≠ 0x500402) ∧ let v := ({ s with dev := s.dev.put F.MBX_STATUS_STATE 1 } : State).readObject f.key; (v.1 = stOk) ∧ (v.2.length ≤ 1400)) ∧
    (∃ (s : State) (source : Nat) (vector : BitVec 128), (s.listens source 0x100102) ∧ (s.dev.pwr.flashWp = false) ∧ let v := vector.toNat; let lawful := v &&& offeredBits = v ∧ v &&& 3 = 3; let clears := s.dev.negotiated &&& (s.dev.negotiated ^^^ (v &&& s.dev.negotiated)) ≠ 0; let still := s.dev.host.queues = [] ∧ (∀ p < 8, (s.dev.part p).staged = none ∧ (s.dev.part p).running = none) ∧ s.dev.posFixed = false; (lawful) ∧ (¬ clears ∨ still)) ∧
    (∃ (s : State) (source : Nat) (vector : BitVec 128), (s.listens source 0x100102) ∧ (s.dev.pwr.flashWp = false) ∧ let v := vector.toNat; let lawful := v &&& offeredBits = v ∧ v &&& 3 = 3; (¬ lawful)) ∧
    (∃ (s : State) (source : Nat) (vector : BitVec 128), (s.listens source 0x100102) ∧ (s.dev.pwr.flashWp = false) ∧ let v := vector.toNat; let lawful := v &&& offeredBits = v ∧ v &&& 3 = 3; let clears := s.dev.negotiated &&& (s.dev.negotiated ^^^ (v &&& s.dev.negotiated)) ≠ 0; let still := s.dev.host.queues = [] ∧ (∀ p < 8, (s.dev.part p).staged = none ∧ (s.dev.part p).running = none) ∧ s.dev.posFixed = false; (lawful) ∧ (clears) ∧ (¬ still)) ∧
    (∃ (s : State) (source : Nat), (s.listens source 0x110204) ∧ (s.dev.pwr.flashWp = true)) ∧
    (∃ (s : State) (source : Nat), (s.listens source 0x110204) ∧ (s.dev.pwr.flashWp = false)) ∧
    (∃ (s : State) (slot : Fin 8), (s.powered) ∧ ((s.vault.slot slot).locked = true)) ∧
    (∃ (s : State) (slot : Fin 8), (s.powered) ∧ ((s.vault.slot slot).locked = false)) :=
  ⟨⟨(base Dev.reset), 0, [], .read 0 [], 1, by unfold State.powered; decide +kernel, by decide +kernel, by decide +kernel, by decide +kernel⟩,
    ⟨(base Dev.reset), 0, (request 1 0x100003 0 [] 0), .read 0 (request 1 0x100003 0 [] 0), 1, by unfold State.powered; decide +kernel, by decide +kernel, by decide +kernel, fieldsOf (request 1 0x100003 0 [] 0), by decide +kernel, by decide +kernel⟩,
    ⟨(base (guarded false [])), 0, lopFrame 1 7 0x100003 0 1 [] 0, .read 0 (lopFrame 1 7 0x100003 0 1 [] 0), 1, by unfold State.powered; decide +kernel, by decide +kernel, by decide +kernel, fieldsOf (lopFrame 1 7 0x100003 0 1 [] 0), by decide +kernel, by decide +kernel, by decide +kernel, by decide +kernel⟩,
    ⟨(base (guarded false [])), 0, request 2 0x20000B 0 (List.replicate 1401 0x41) 0, .write 0 (request 2 0x20000B 0 (List.replicate 1401 0x41) 0), 2, by unfold State.powered; decide +kernel, by decide +kernel, by decide +kernel, fieldsOf (request 2 0x20000B 0 (List.replicate 1401 0x41) 0), by decide +kernel, by decide +kernel, by decide +kernel, by decide +kernel, by decide +kernel⟩,
    ⟨(base (guarded false [])), 0, (request 1 0x100003 0 [] 0), fieldsOf (request 1 0x100003 0 [] 0), (takesLop_of _ _ _ _ (by decide +kernel) (by decide +kernel) (by decide +kernel) (by decide +kernel)), by decide +kernel, by decide +kernel, by decide +kernel, by decide +kernel⟩,
    ⟨base ((guarded false []).setObj 0x20000B (List.replicate 1401 0x41)), 0, request 1 0x20000B 0 [] 0, fieldsOf (request 1 0x20000B 0 [] 0), (takesLop_of _ _ _ _ (by decide +kernel) (by decide +kernel) (by decide +kernel) (by decide +kernel)), by decide +kernel, by decide +kernel, by decide +kernel, by decide +kernel⟩,
    ⟨(base (guarded false [])), 0, request 1 0x500401 0 [] 0, fieldsOf (request 1 0x500401 0 [] 0), (takesLop_of _ _ _ _ (by decide +kernel) (by decide +kernel) (by decide +kernel) (by decide +kernel)), by decide +kernel, by decide +kernel, by decide +kernel⟩,
    ⟨(base (guarded false [])), 0, request 3 0x100003 0 [] 1, fieldsOf (request 3 0x100003 0 [] 1), (takesLop_of _ _ _ _ (by decide +kernel) (by decide +kernel) (by decide +kernel) (by decide +kernel)), by decide +kernel, by decide +kernel, by decide +kernel, by decide +kernel⟩,
    ⟨(base (guarded false [])), 0, request 3 0x100003 0 [] 2, fieldsOf (request 3 0x100003 0 [] 2), (takesLop_of _ _ _ _ (by decide +kernel) (by decide +kernel) (by decide +kernel) (by decide +kernel)), by decide +kernel, by decide +kernel, by decide +kernel, by decide +kernel⟩,
    ⟨(base (guarded false [])), 0, request 3 0x500401 0 [] 0, fieldsOf (request 3 0x500401 0 [] 0), (takesLop_of _ _ _ _ (by decide +kernel) (by decide +kernel) (by decide +kernel) (by decide +kernel)), by decide +kernel, by decide +kernel, by decide +kernel⟩,
    ⟨(base (guarded false [])), 0, request 2 0x100003 0 [1] 0, fieldsOf (request 2 0x100003 0 [1] 0), .write 0 (request 2 0x100003 0 [1] 0), 2, (takesLop_of _ _ _ _ (by decide +kernel) (by decide +kernel) (by decide +kernel) (by decide +kernel)), by decide +kernel, by decide +kernel, by decide +kernel, writable_none (by decide +kernel)⟩,
    ⟨(base (guarded false [])), 0, request 4 0x2E0101 1 [1] 0, fieldsOf (request 4 0x2E0101 1 [1] 0), .writeSeg 0 (request 4 0x2E0101 1 [1] 0), 4, (takesLop_of _ _ _ _ (by decide +kernel) (by decide +kernel) (by decide +kernel) (by decide +kernel)), by decide +kernel, by decide +kernel, by decide +kernel, rowOf 0x2E0101, (writable_some (by decide +kernel)), by decide +kernel, by decide +kernel, by decide +kernel⟩,
    ⟨base (guarded true []), 0, (request 2 0x230002 0 [5, 0] 0), fieldsOf (request 2 0x230002 0 [5, 0] 0), .write 0 (request 2 0x230002 0 [5, 0] 0), 2, (takesLop_of _ _ _ _ (by decide +kernel) (by decide +kernel) (by decide +kernel) (by decide +kernel)), by decide +kernel, by decide +kernel, by decide +kernel, rowOf 0x230002, (writable_some (by decide +kernel)), by decide +kernel, by decide +kernel, by decide +kernel, by decide +kernel⟩,
    ⟨(base (guarded false [])), 0, (request 2 0x230002 0 [0, 0] 0), fieldsOf (request 2 0x230002 0 [0, 0] 0), .write 0 (request 2 0x230002 0 [0, 0] 0), 2, (takesLop_of _ _ _ _ (by decide +kernel) (by decide +kernel) (by decide +kernel) (by decide +kernel)), by decide +kernel, by decide +kernel, by decide +kernel, rowOf 0x230002, (writable_some (by decide +kernel)), by decide +kernel, by decide +kernel, by decide +kernel, by decide +kernel, by decide +kernel⟩,
    ⟨(base (guarded false [])), 0, (request 2 0x230002 0 [5, 0] 0), fieldsOf (request 2 0x230002 0 [5, 0] 0), .write 0 (request 2 0x230002 0 [5, 0] 0), 2, (takesLop_of _ _ _ _ (by decide +kernel) (by decide +kernel) (by decide +kernel) (by decide +kernel)), by decide +kernel, by decide +kernel, by decide +kernel, rowOf 0x230002, (writable_some (by decide +kernel)), by decide +kernel, by decide +kernel, by decide +kernel, by decide +kernel, by decide +kernel⟩,
    ⟨(base (guarded false [])), 0, (request 4 0x20000B 0 [0x41] 0), fieldsOf (request 4 0x20000B 0 [0x41] 0), rowOf 0x20000B, (takesLop_of _ _ _ _ (by decide +kernel) (by decide +kernel) (by decide +kernel) (by decide +kernel)), by decide +kernel, (writable_some (by decide +kernel)), by decide +kernel, by decide +kernel, by decide +kernel, by decide +kernel, by decide +kernel, by decide +kernel⟩,
    ⟨base { guarded false [] with ctl := { CtlSt.reset with open_ := [⟨0x20000B, 5, []⟩] } }, 0, (request 4 0x20000B 0 [0x41] 0), fieldsOf (request 4 0x20000B 0 [0x41] 0), rowOf 0x20000B, (takesLop_of _ _ _ _ (by decide +kernel) (by decide +kernel) (by decide +kernel) (by decide +kernel)), by decide +kernel, (writable_some (by decide +kernel)), by decide +kernel, by decide +kernel, by decide +kernel, by decide +kernel⟩,
    ⟨base { guarded false [] with ctl := { CtlSt.reset with open_ := ([⟨0x20000B, 0, [0x41, 0x42]⟩]) } }, 0, (request 4 0x20000B 0 [0x41] 2), fieldsOf (request 4 0x20000B 0 [0x41] 2), rowOf 0x20000B, (takesLop_of _ _ _ _ (by decide +kernel) (by decide +kernel) (by decide +kernel) (by decide +kernel)), by decide +kernel, (writable_some (by decide +kernel)), by decide +kernel, by decide +kernel, ⟨0x20000B, 0, [0x41, 0x42]⟩, by decide +kernel, by decide +kernel, by decide +kernel, by decide +kernel⟩,
    ⟨base { guarded false [] with ctl := { CtlSt.reset with open_ := ([⟨0x20000B, 0, [0x41]⟩]) } }, 0, (request 4 0x20000B 0 [0x41] 2), fieldsOf (request 4 0x20000B 0 [0x41] 2), rowOf 0x20000B, (takesLop_of _ _ _ _ (by decide +kernel) (by decide +kernel) (by decide +kernel) (by decide +kernel)), by decide +kernel, (writable_some (by decide +kernel)), by decide +kernel, by decide +kernel, ⟨0x20000B, 0, [0x41]⟩, by decide +kernel, by decide +kernel, by decide +kernel⟩,
    ⟨(base Dev.reset), by unfold State.powered; decide +kernel⟩,
    ⟨base (regs [(F.MBX_STATUS_STATE, 1)]), by unfold State.powered; decide +kernel, by decide +kernel⟩,
    ⟨(base Dev.reset), by unfold State.powered; decide +kernel, by decide +kernel, by decide +kernel⟩,
    ⟨base (guarded false (posted (request 1 0x100003 0 [] 0))), by unfold State.powered; decide +kernel, fieldsOf (request 1 0x100003 0 [] 0), by decide +kernel, by decide +kernel, by decide +kernel, (takesLop_of _ _ _ _ (by decide +kernel) (by decide +kernel) (by decide +kernel) (by decide +kernel)), by decide +kernel, by decide +kernel, by decide +kernel, by decide +kernel⟩,
    ⟨base (guarded false allFeatures), 0, 3#128, by unfold State.listens State.powered; decide +kernel, by decide +kernel, by decide +kernel, Or.inr (by decide +kernel)⟩,
    ⟨(base (guarded false [])), 0, 0#128, by unfold State.listens State.powered; decide +kernel, by decide +kernel, by decide +kernel⟩,
    ⟨base (guarded false ([(F.GTE_PORT_STATE 5, 4)] ++ allFeatures)), 0, 3#128, by unfold State.listens State.powered; decide +kernel, by decide +kernel, by decide +kernel, by decide +kernel, by decide +kernel⟩,
    ⟨base (guarded true []), 0, by unfold State.listens State.powered; decide +kernel, by decide +kernel⟩,
    ⟨(base (guarded false [])), 0, by unfold State.listens State.powered; decide +kernel, by decide +kernel⟩,
    ⟨{ (base Dev.reset) with vault := { Vault.reset with slot0 := { Vault.reset.slot0 with locked := true } } }, 0, by unfold State.powered; decide +kernel, by decide +kernel⟩,
    ⟨(base Dev.reset), 7, by unfold State.powered; decide +kernel, by decide +kernel⟩⟩

theorem witness_RegisterWritesReachTheirRegisters :
    (∃ (s : State) (off : Nat), (s.powered) ∧ (0x4000000 ≤ off)) ∧
    (∃ (s : State) (off size : Nat) (v : Word), (s.powered) ∧ (off < 0x2000000) ∧ (off ≠ F.MBX_CTRL_GO.off ∨ size ≠ 8) ∧ (size ≠ 8 ∨ off % 8 ≠ 0 ∨ regAt off = none ∨ (∃ r : RegRow × List Nat, regAt off = some r ∧ reservedValue r.1.base v.toNat = true))) ∧
    (∃ (s : State) (off size : Nat), (s.powered) ∧ (0x2000000 ≤ off) ∧ (off < 0x4000000) ∧ ((size ≠ 4 ∧ size ≠ 8) ∨ off % 128 ∉ [0x00, 0x08, 0x10])) ∧
    (∃ s : State, (s.powered)) ∧
    (∃ s : State, (s.powered)) ∧
    (∃ s : State, (s.powered)) :=
  ⟨⟨(base Dev.reset), 0x4000000, by unfold State.powered; decide +kernel, by decide +kernel⟩,
    ⟨(base Dev.reset), 8, 4, 0#64, by unfold State.powered; decide +kernel, by decide +kernel, by decide +kernel, Or.inl (by decide)⟩,
    ⟨(base Dev.reset), 0x2000004, 4, by unfold State.powered; decide +kernel, by decide +kernel, by decide +kernel, by decide +kernel⟩,
    ⟨(base Dev.reset), by unfold State.powered; decide +kernel⟩,
    ⟨(base Dev.reset), by unfold State.powered; decide +kernel⟩,
    ⟨(base Dev.reset), by unfold State.powered; decide +kernel⟩⟩

theorem witness_ResetsFirmwareAndRollback :
    (∃ (s : State) (a : Auth), (s.authentic a 0x2E0101 (boolByte true)) ∧ ((∀ w ∈ s.dev.ctl.open_, w.key ≠ 0x510001))) ∧
    (∃ (s : State) (a : Auth), (s.authentic a 0x2E0101 (boolByte true)) ∧ ((∃ w ∈ s.dev.ctl.open_, w.key = 0x510001)) ∧ (s.dev.ctl.resetDue = 0)) ∧
    (∃ (s : State) (a : Auth), (s.authentic a 0x540001 (boolByte true))) ∧
    (∃ (s : State) (a : Auth) (im : FirmwareIn), (s.authentic a 0x510001 im.bytes) ∧ (s.dev.pwr.flashWp = true)) ∧
    (∃ (s : State) (a : Auth) (im : FirmwareIn), (s.authentic a 0x510001 im.bytes) ∧ (s.dev.pwr.flashWp = false) ∧ (firmwareMax < im.bytes.length)) ∧
    (∃ (s : State) (a : Auth) (im : FirmwareIn), (s.authentic a 0x510001 im.bytes) ∧ let signed := im.sigs.ecdsa = true ∧ im.sigs.lms = true; (s.dev.pwr.flashWp = false) ∧ (im.bytes.length ≤ firmwareMax) ∧ (¬ signed)) ∧
    (∃ (s : State) (a : Auth) (im : FirmwareIn), (s.authentic a 0x510001 im.bytes) ∧ let signed := im.sigs.ecdsa = true ∧ im.sigs.lms = true; (s.dev.pwr.flashWp = false) ∧ (im.bytes.length ≤ firmwareMax) ∧ (signed) ∧ (im.secVersion < s.vault.rollback)) ∧
    (∃ (s : State) (a : Auth) (im : FirmwareIn), (s.authentic a 0x510001 im.bytes) ∧ let signed := im.sigs.ecdsa = true ∧ im.sigs.lms = true; (s.dev.pwr.flashWp = false) ∧ (im.bytes.length ≤ firmwareMax) ∧ (signed) ∧ (s.vault.rollback ≤ im.secVersion) ∧ (s.dev.get F.PWR_BOOT_STATE ≠ dsRecovery)) ∧
    (∃ (s : State) (a : Auth) (im : FirmwareIn), (s.authentic a 0x510001 im.bytes) ∧ let signed := im.sigs.ecdsa = true ∧ im.sigs.lms = true; (s.dev.pwr.flashWp = false) ∧ (im.bytes.length ≤ firmwareMax) ∧ (signed) ∧ (s.vault.rollback ≤ im.secVersion) ∧ (s.dev.get F.PWR_BOOT_STATE = dsRecovery)) ∧
    (∃ (s : State) (a : Auth), (s.authentic a 0x510004 (boolByte true)) ∧ (s.dev.ready = true)) ∧
    (∃ (s : State) (a : Auth), (s.authentic a 0x510004 (boolByte true)) ∧ (s.dev.ready = false)) :=
  ⟨⟨base (readyDev []), authFor 0x2E0101 (boolByte true), (authentic_of _ _ _ (by decide +kernel) (by decide +kernel) (by decide +kernel)), by decide +kernel⟩,
    ⟨base { readyDev [] with ctl := { CtlSt.reset with open_ := [⟨0x510001, 0, []⟩] } }, authFor 0x2E0101 (boolByte true), (authentic_of _ _ _ (by decide +kernel) (by decide +kernel) (by decide +kernel)), by decide +kernel, by decide +kernel⟩,
    ⟨base (readyDev []), authFor 0x540001 (boolByte true), (authentic_of _ _ _ (by decide +kernel) (by decide +kernel) (by decide +kernel))⟩,
    ⟨base (guarded true []), (fun n => authFor 0x510001 (List.replicate n 0)) 4, (fun n sig sec => (⟨List.replicate n 0, 3, sec, ⟨sig, sig⟩⟩ : FirmwareIn)) 4 true 0, (authentic_of _ _ _ (by decide +kernel) (by decide +kernel) (by decide +kernel)), by decide +kernel⟩,
    ⟨base (readyDev []), (fun n => authFor 0x510001 (List.replicate n 0)) (firmwareMax + 1), (fun n sig sec => (⟨List.replicate n 0, 3, sec, ⟨sig, sig⟩⟩ : FirmwareIn)) (firmwareMax + 1) true 0, (authentic_of _ _ _ (by decide +kernel) (by decide +kernel) (by decide +kernel)), by decide +kernel, by simp⟩,
    ⟨base (readyDev []), (fun n => authFor 0x510001 (List.replicate n 0)) 4, (fun n sig sec => (⟨List.replicate n 0, 3, sec, ⟨sig, sig⟩⟩ : FirmwareIn)) 4 false 0, (authentic_of _ _ _ (by decide +kernel) (by decide +kernel) (by decide +kernel)), by decide +kernel, by decide +kernel, by decide +kernel⟩,
    ⟨({ base (readyDev []) with vault := { Vault.reset with rollback := 5 } }), (fun n => authFor 0x510001 (List.replicate n 0)) 4, (fun n sig sec => (⟨List.replicate n 0, 3, sec, ⟨sig, sig⟩⟩ : FirmwareIn)) 4 true 4, authentic_at _ _ _ (by decide +kernel) (by decide +kernel) rfl (by decide +kernel) (by decide +kernel) rfl, by decide +kernel, by decide +kernel, by decide +kernel, by decide +kernel⟩,
    ⟨({ base (readyDev []) with vault := { Vault.reset with rollback := 5 } }), (fun n => authFor 0x510001 (List.replicate n 0)) 4, (fun n sig sec => (⟨List.replicate n 0, 3, sec, ⟨sig, sig⟩⟩ : FirmwareIn)) 4 true 5, authentic_at _ _ _ (by decide +kernel) (by decide +kernel) rfl (by decide +kernel) (by decide +kernel) rfl, by decide +kernel, by decide +kernel, by decide +kernel, by decide +kernel, by decide +kernel⟩,
    ⟨base (regs [(F.PWR_BOOT_STATE, dsRecovery)]), (fun n => authFor 0x510001 (List.replicate n 0)) 4, (fun n sig sec => (⟨List.replicate n 0, 3, sec, ⟨sig, sig⟩⟩ : FirmwareIn)) 4 true 0, (authentic_of _ _ _ (by decide +kernel) (by decide +kernel) (by decide +kernel)), by decide +kernel, by decide +kernel, by decide +kernel, by decide +kernel, by decide +kernel⟩,
    ⟨base (readyDev []), authFor 0x510004 (boolByte true), (authentic_of _ _ _ (by decide +kernel) (by decide +kernel) (by decide +kernel)), by decide +kernel⟩,
    ⟨base (regs [(F.PWR_BOOT_STATE, dsRecovery)]), authFor 0x510004 (boolByte true), (authentic_of _ _ _ (by decide +kernel) (by decide +kernel) (by decide +kernel)), by decide +kernel⟩⟩

theorem witness_KeysFusesListsQuotesAndDebugLock :
    (∃ (s : State) (a : Auth) (b : List Byte), (s.authentic a 0x520001 b) ∧ (b.length ≠ 56)) ∧
    (∃ (s : State) (a : Auth) (b : List Byte), (s.authentic a 0x520001 b) ∧ let mask := leNat ((b.drop 2).take 2); let clean := b.getD 1 0#8 = 0#8 ∧ (∀ x ∈ (b.drop 4).take 4, x = 0#8) ∧ mask < 2 ^ 9; (b.length = 56) ∧ (¬ clean)) ∧
    (∃ (s : State) (a : Auth) (b : List Byte), (s.authentic a 0x520001 b) ∧ let target := (b.getD 0 0#8).toNat; let mask := leNat ((b.drop 2).take 2); let clean := b.getD 1 0#8 = 0#8 ∧ (∀ x ∈ (b.drop 4).take 4, x = 0#8) ∧ mask < 2 ^ 9; (b.length = 56) ∧ (clean) ∧ (7 < target)) ∧
    (∃ (s : State) (a : Auth) (b : List Byte), (s.authentic a 0x520001 b) ∧ let target := (b.getD 0 0#8).toNat; let mask := leNat ((b.drop 2).take 2); let clean := b.getD 1 0#8 = 0#8 ∧ (∀ x ∈ (b.drop 4).take 4, x = 0#8) ∧ mask < 2 ^ 9; (b.length = 56) ∧ (clean) ∧ (target ≤ 7) ∧ (mask &&& (s.vault.slot a.slot).mask ≠ mask)) ∧
    (∃ (s : State) (a : Auth) (b : List Byte), (s.authentic a 0x520001 b) ∧ let target := (b.getD 0 0#8).toNat; let mask := leNat ((b.drop 2).take 2); let key := b.drop 8; let clean := b.getD 1 0#8 = 0#8 ∧ (∀ x ∈ (b.drop 4).take 4, x = 0#8) ∧ mask < 2 ^ 9; (b.length = 56) ∧ (clean) ∧ (target ≤ 7) ∧ (mask &&& (s.vault.slot a.slot).mask = mask) ∧ (key.all (· == 0#8) = true) ∧ (target = 0)) ∧
    (∃ (s : State) (a : Auth) (b : List Byte), (s.authentic a 0x520001 b) ∧ let target := (b.getD 0 0#8).toNat; let mask := leNat ((b.drop 2).take 2); let key := b.drop 8; let clean := b.getD 1 0#8 = 0#8 ∧ (∀ x ∈ (b.drop 4).take 4, x = 0#8) ∧ mask < 2 ^ 9; (b.length = 56) ∧ (clean) ∧ (target ≤ 7) ∧ (mask &&& (s.vault.slot a.slot).mask = mask) ∧ (key.all (· == 0#8) = true) ∧ (target ≠ 0)) ∧
    (∃ (s : State) (a : Auth) (b : List Byte), (s.authentic a 0x520001 b) ∧ let target := (b.getD 0 0#8).toNat; let mask := leNat ((b.drop 2).take 2); let key := b.drop 8; let clean := b.getD 1 0#8 = 0#8 ∧ (∀ x ∈ (b.drop 4).take 4, x = 0#8) ∧ mask < 2 ^ 9; (b.length = 56) ∧ (clean) ∧ (target ≤ 7) ∧ (mask &&& (s.vault.slot a.slot).mask = mask) ∧ (key.all (· == 0#8) = false) ∧ (target = 0) ∧ (bit mask 1 = false)) ∧
    (∃ (s : State) (a : Auth) (b : List Byte), (s.authentic a 0x520001 b) ∧ let target := (b.getD 0 0#8).toNat; let mask := leNat ((b.drop 2).take 2); let key := b.drop 8; let clean := b.getD 1 0#8 = 0#8 ∧ (∀ x ∈ (b.drop 4).take 4, x = 0#8) ∧ mask < 2 ^ 9; (b.length = 56) ∧ (clean) ∧ (target ≤ 7) ∧ (mask &&& (s.vault.slot a.slot).mask = mask) ∧ (key.all (· == 0#8) = false) ∧ (target ≠ 0 ∨ bit mask 1 = true)) ∧
    (∃ (s : State) (a : Auth) (code : Nat), (s.authentic a 0x530001 (leBytes 1 code)) ∧ (code = 1)) ∧
    (∃ (s : State) (a : Auth) (code : Nat), (s.authentic a 0x530001 (leBytes 1 code)) ∧ (code = 2)) ∧
    (∃ (s : State) (a : Auth) (code : Nat), (s.authentic a 0x530001 (leBytes 1 code)) ∧ (code ≠ 1) ∧ (code ≠ 2)) ∧
    (∃ (s : State) (a : Auth) (sigs : Sigs) (seq : Nat) (list : List Byte), let fits (old : Nat) : Prop := s.dev.pwr.flashWp = false ∧ list.length ≤ 65536 ∧ sigs.ecdsa = true ∧ sigs.lms = true ∧ old < seq; (s.authentic a 0x500201 list) ∧ (fits s.vault.revocationSeq)) ∧
    (∃ (s : State) (a : Auth) (sigs : Sigs) (seq : Nat) (list : List Byte), let fits (old : Nat) : Prop := s.dev.pwr.flashWp = false ∧ list.length ≤ 65536 ∧ sigs.ecdsa = true ∧ sigs.lms = true ∧ old < seq; (s.authentic a 0x500201 list) ∧ (¬ fits s.vault.revocationSeq)) ∧
    (∃ (s : State) (a : Auth) (sigs : Sigs) (seq : Nat) (list : List Byte), let fits (old : Nat) : Prop := s.dev.pwr.flashWp = false ∧ list.length ≤ 65536 ∧ sigs.ecdsa = true ∧ sigs.lms = true ∧ old < seq; (s.authentic a 0x500301 list) ∧ (fits s.vault.partnerSeq)) ∧
    (∃ (s : State) (a : Auth) (sigs : Sigs) (seq : Nat) (list : List Byte), let fits (old : Nat) : Prop := s.dev.pwr.flashWp = false ∧ list.length ≤ 65536 ∧ sigs.ecdsa = true ∧ sigs.lms = true ∧ old < seq; (s.authentic a 0x500301 list) ∧ (¬ fits s.vault.partnerSeq)) ∧
    (∃ (s : State) (source : Nat) (nonce : List Byte), (s.listens source 0x500401) ∧ (nonce.length = 48)) ∧
    (∃ (s : State) (source : Nat) (nonce : List Byte), (s.listens source 0x500401) ∧ (nonce.length ≠ 48)) ∧
    (∃ (s : State) (source : Nat), (s.listens source 0x500402) ∧ (s.dev.ctl.quoteNonce = none)) ∧
    (∃ (s : State) (source : Nat), (s.listens source 0x500402) ∧ ∃ n : List Byte, (s.dev.ctl.quoteNonce = some n)) ∧
    (∃ s : State, (s.powered) ∧ (s.dev.ready = true)) ∧
    (∃ s : State, (s.powered) ∧ (s.dev.ready = false)) ∧
    (∃ (s : State) (a : Auth), (s.authentic a 0x2F0101 (boolByte true)) ∧ (s.vault.debugFuse.blown = false)) ∧
    (∃ (s : State) (a : Auth), (s.authentic a 0x2F0101 (boolByte true)) ∧ (s.vault.debugFuse.blown = true)) ∧
    (∃ (s : State) (a : Auth), (s.authentic a 0x2F0101 (boolByte false)) ∧ ((∀ (k : Nat) (g : Group), s.dev.group k = some g → g.state ≠ gsHalted))) :=
  ⟨⟨(base (readyDev [])), authFor 0x520001 [], [], (authentic_of _ _ _ (by decide +kernel) (by decide +kernel) (by decide +kernel)), by decide +kernel⟩,
    ⟨(base (readyDev [])), (fun t r m k => (authFor 0x520001 (keyValue t r m k))) 1 1 2 7, keyValue 1 1 2 7, (authentic_of _ _ _ (by decide +kernel) (by decide +kernel) (by decide +kernel)), by decide +kernel, by decide +kernel⟩,
    ⟨(base (readyDev [])), (fun t r m k => (authFor 0x520001 (keyValue t r m k))) 8 0 2 7, keyValue 8 0 2 7, (authentic_of _ _ _ (by decide +kernel) (by decide +kernel) (by decide +kernel)), by decide +kernel, by decide +kernel, by decide +kernel⟩,
    ⟨({ (base (readyDev [])) with vault := { Vault.reset with slot0 := { Vault.reset.slot0 with mask := 2 } } }), (fun t r m k => (authFor 0x520001 (keyValue t r m k))) 7 0 3 7, keyValue 7 0 3 7, (authentic_at _ _ _ (by decide +kernel) (by decide +kernel) rfl (by decide +kernel) (by decide +kernel) rfl), by decide +kernel, by decide +kernel, by decide +kernel, by decide +kernel⟩,
    ⟨(base (readyDev [])), (fun t r m k => (authFor 0x520001 (keyValue t r m k))) 0 0 511 0, keyValue 0 0 511 0, (authentic_of _ _ _ (by decide +kernel) (by decide +kernel) (by decide +kernel)), by decide +kernel, by decide +kernel, by decide +kernel, by decide +kernel, by decide +kernel, by decide +kernel⟩,
    ⟨(base (readyDev [])), (fun t r m k => (authFor 0x520001 (keyValue t r m k))) 7 0 511 0, keyValue 7 0 511 0, (authentic_of _ _ _ (by decide +kernel) (by decide +kernel) (by decide +kernel)), by decide +kernel, by decide +kernel, by decide +kernel, by decide +kernel, by decide +kernel, by decide +kernel⟩,
    ⟨(base (readyDev [])), (fun t r m k => (authFor 0x520001 (keyValue t r m k))) 0 0 1 7, keyValue 0 0 1 7, (authentic_of _ _ _ (by decide +kernel) (by decide +kernel) (by decide +kernel)), by decide +kernel, by decide +kernel, by decide +kernel, by decide +kernel, by decide +kernel, by decide +kernel, by decide +kernel⟩,
    ⟨(base (readyDev [])), (fun t r m k => (authFor 0x520001 (keyValue t r m k))) 0 0 3 7, keyValue 0 0 3 7, (authentic_of _ _ _ (by decide +kernel) (by decide +kernel) (by decide +kernel)), by decide +kernel, by decide +kernel, by decide +kernel, by decide +kernel, by decide +kernel, by decide +kernel⟩,
    ⟨(base (readyDev [])), authFor 0x530001 (leBytes 1 1), 1, (authentic_of _ _ _ (by decide +kernel) (by decide +kernel) (by decide +kernel)), by decide +kernel⟩,
    ⟨(base (readyDev [])), authFor 0x530001 (leBytes 1 2), 2, (authentic_of _ _ _ (by decide +kernel) (by decide +kernel) (by decide +kernel)), by decide +kernel⟩,
    ⟨(base (readyDev [])), authFor 0x530001 (leBytes 1 3), 3, (authentic_of _ _ _ (by decide +kernel) (by decide +kernel) (by decide +kernel)), by decide +kernel, by decide +kernel⟩,
    ⟨(base (guarded false [])), authFor 0x500201 [1], ⟨true, true⟩, 1, [1], (authentic_of _ _ _ (by decide +kernel) (by decide +kernel) (by decide +kernel)), by decide +kernel⟩,
    ⟨(base (guarded false [])), authFor 0x500201 [1], ⟨true, true⟩, 0, [1], (authentic_of _ _ _ (by decide +kernel) (by decide +kernel) (by decide +kernel)), by decide +kernel⟩,
    ⟨(base (guarded false [])), authFor 0x500301 [1], ⟨true, true⟩, 1, [1], (authentic_of _ _ _ (by decide +kernel) (by decide +kernel) (by decide +kernel)), by decide +kernel⟩,
    ⟨(base (guarded false [])), authFor 0x500301 [1], ⟨true, false⟩, 1, [1], (authentic_of _ _ _ (by decide +kernel) (by decide +kernel) (by decide +kernel)), by decide +kernel⟩,
    ⟨(base (guarded false [])), 0, List.replicate 48 1, by unfold State.listens State.powered; decide +kernel, by decide +kernel⟩,
    ⟨(base (guarded false [])), 0, List.replicate 47 1, by unfold State.listens State.powered; decide +kernel, by decide +kernel⟩,
    ⟨(base (guarded false [])), 0, by unfold State.listens State.powered; decide +kernel, by decide +kernel⟩,
    ⟨base { guarded false [] with ctl := { CtlSt.reset with quoteNonce := some [1] } }, 0, by unfold State.listens State.powered; decide +kernel, [1], by decide +kernel⟩,
    ⟨(base (guarded false [])), by unfold State.powered; decide +kernel, by decide +kernel⟩,
    ⟨(base Dev.reset), by unfold State.powered; decide +kernel, by decide +kernel⟩,
    ⟨(base (readyDev [])), authFor 0x2F0101 (boolByte true), (authentic_of _ _ _ (by decide +kernel) (by decide +kernel) (by decide +kernel)), by decide +kernel⟩,
    ⟨{ (base (readyDev [])) with vault := { Vault.reset with debugFuse := ⟨true, false, true⟩ } }, authFor 0x2F0101 (boolByte true), (authentic_at _ _ _ (by decide +kernel) (by decide +kernel) rfl (by decide +kernel) (by decide +kernel) rfl), by decide +kernel⟩,
    ⟨(base (readyDev [])), authFor 0x2F0101 (boolByte false), (authentic_of _ _ _ (by decide +kernel) (by decide +kernel) (by decide +kernel)), fun k g h => by cases h⟩⟩

theorem witness_StepTakesTheFrontCommand :
    (∃ s : State, (s.pending = []) ∧ (s.powered)) ∧
    (∃ s : State, (s.pending = []) ∧ (s.powered) ∧ (s.dev.gate.held = []) ∧ ((∀ g < 2, ∀ c ∈ (s.dev.sq g).running, c.inbox = []))) ∧
    (∃ s : State, (s.pending = []) ∧ (s.dev.pwr.pwrgd = false)) :=
  ⟨⟨(base Dev.reset), by decide +kernel, by unfold State.powered; decide +kernel⟩,
    ⟨(base Dev.reset), by decide +kernel, by unfold State.powered; decide +kernel, by decide +kernel, by decide +kernel⟩,
    ⟨(base { Dev.reset with pwr := { Dev.reset.pwr with pwrgd := false } }), by decide +kernel, by decide +kernel⟩⟩

theorem witness_EveryCommandCompletesAndFewReachSentry :
    (∃ (c : Instr) (s : State), (s.dev.pwr.pwrgd = false) ∧ (powerCommand c = false)) ∧
    (∃ c : Instr, (reachesSentry c = false)) :=
  ⟨⟨.queueNop 0 0, (base { Dev.reset with pwr := { Dev.reset.pwr with pwrgd := false } }), by decide +kernel, by decide +kernel⟩,
    ⟨.queueNop 0 0, by decide +kernel⟩⟩

theorem witness_SentrysPromisesHoldInEveryStep :
    (∃ s t : State, (s.vault.sound) ∧ (step s = .next t)) :=
  ⟨{ (base { Dev.reset with pwr := { Dev.reset.pwr with pwrgd := false } }) with pending := [.queueNop 0 0] }, nextOf { (base { Dev.reset with pwr := { Dev.reset.pwr with pwrgd := false } }) with pending := [.queueNop 0 0] }, by unfold Vault.sound; decide +kernel, step_next (by decide +kernel)⟩

theorem witness_LifetimeCountersAreNeverReset :
    (∃ s : State, (s.flash.hours < 2 ^ 32) ∧ (s.flash.cycles < 2 ^ 32)) ∧
    (∃ s : State, (s.dev.pwr.pwrEn = true) ∧ (s.dev.pwr.ramping = true) ∧ (s.dev.pwr.pwrgd = false) ∧ (s.flash.everPowered = true) ∧ (s.flash.shutdown = none)) ∧
    (∃ (s : State) (source : Nat) (raw : List Byte) (f : LopFrame), (s.takesLop source raw f) ∧ (s.dev.ctl.resetDue = 0) ∧ (f.op = 2) ∧ (f.key = 0x20000B) ∧ (bit f.flags 1 = false) ∧ (s.dev.pwr.flashWp = true)) ∧
    (∃ (s : State) (source : Nat) (raw : List Byte) (f : LopFrame), (s.takesLop source raw f) ∧ (s.dev.ctl.resetDue = 0) ∧ (f.op = 2) ∧ (f.key = 0x20000B) ∧ (bit f.flags 1 = false) ∧ (s.dev.pwr.flashWp = false) ∧ ((∀ o : ObjRow, objRow 0x20000B = some o → o.valueOk f.data = true))) :=
  ⟨⟨(base Dev.reset), by decide +kernel, by decide +kernel⟩,
    ⟨{ base { Dev.reset with pwr := { Dev.reset.pwr with pwrEn := true, ramping := true, pwrgd := false } } with flash := { Flash.reset with everPowered := true, shutdown := none } }, by decide +kernel, by decide +kernel, by decide +kernel, by decide +kernel, by decide +kernel⟩,
    ⟨base (guarded true []), 0, request 2 0x20000B 0 [0x41] 0, fieldsOf (request 2 0x20000B 0 [0x41] 0), (takesLop_of _ _ _ _ (by decide +kernel) (by decide +kernel) (by decide +kernel) (by decide +kernel)), by decide +kernel, by decide +kernel, by decide +kernel, by decide +kernel, by decide +kernel⟩,
    ⟨(base (guarded false [])), 0, request 2 0x20000B 0 [0x41] 0, fieldsOf (request 2 0x20000B 0 [0x41] 0), (takesLop_of _ _ _ _ (by decide +kernel) (by decide +kernel) (by decide +kernel) (by decide +kernel)), by decide +kernel, by decide +kernel, by decide +kernel, by decide +kernel, by decide +kernel, row_value (by decide +kernel)⟩⟩

theorem witness_EventsGoToTheirRings :
    (∃ (d : Dev) (cls : Nat), (cls < 20) ∧ let r := d.get (F.HST_EVMAP_RING cls); let size := 2 ^ (d.get (F.HST_EVR_CTL_LOG2 r) + 4); let pi := d.get (F.HST_EVR_IDX_PI r); let ci := d.get (F.HST_EVR_IDX_CI r); let waiting := (pi + 2 ^ 32 - ci) % 2 ^ 32; let base := d.get (F.HST_EVR_BASE_PA r); let slot := base + 64 * (pi % size); (d.on (F.HST_EVR_CTL_EN r) = true) ∧ (waiting < size) ∧ ((isHost slot = true → d.on F.HST_LINK_BME = true)) ∧ ∃ i < 64, True) ∧
    (∃ (d : Dev) (cls : Nat), (cls < 20) ∧ let r := d.get (F.HST_EVMAP_RING cls); let size := 2 ^ (d.get (F.HST_EVR_CTL_LOG2 r) + 4); let pi := d.get (F.HST_EVR_IDX_PI r); let ci := d.get (F.HST_EVR_IDX_CI r); let waiting := (pi + 2 ^ 32 - ci) % 2 ^ 32; let base := d.get (F.HST_EVR_BASE_PA r); let slot := base + 64 * (pi % size); (d.on (F.HST_EVR_CTL_EN r) = true) ∧ (waiting < size) ∧ ((isHost slot = true → d.on F.HST_LINK_BME = true)) ∧ ∃ x : Nat, (x < slot ∨ slot + 64 ≤ x)) ∧
    (∃ (d : Dev) (cls : Nat), (cls < 20) ∧ let r := d.get (F.HST_EVMAP_RING cls); let size := 2 ^ (d.get (F.HST_EVR_CTL_LOG2 r) + 4); let pi := d.get (F.HST_EVR_IDX_PI r); let ci := d.get (F.HST_EVR_IDX_CI r); let waiting := (pi + 2 ^ 32 - ci) % 2 ^ 32; let base := d.get (F.HST_EVR_BASE_PA r); let slot := base + 64 * (pi % size); (d.on (F.HST_EVR_CTL_EN r) = true) ∧ (waiting < size) ∧ ((isHost slot = true → d.on F.HST_LINK_BME = true)) ∧ ∃ k i : Nat, (k < waiting) ∧ (i < 64)) ∧
    (∃ (d : Dev) (cls : Nat), (cls < 20) ∧ let r := d.get (F.HST_EVMAP_RING cls); let size := 2 ^ (d.get (F.HST_EVR_CTL_LOG2 r) + 4); let pi := d.get (F.HST_EVR_IDX_PI r); let ci := d.get (F.HST_EVR_IDX_CI r); let waiting := (pi + 2 ^ 32 - ci) % 2 ^ 32; (d.on (F.HST_EVR_CTL_EN r) = true) ∧ (size ≤ waiting)) :=
  ⟨⟨ring0 15, 19, by decide +kernel, by decide +kernel, by decide +kernel, by decide +kernel, 63, by decide, trivial⟩,
    ⟨ring0 0, 0, by decide +kernel, by decide +kernel, by decide +kernel, by decide +kernel, 0x40040, by decide +kernel⟩,
    ⟨ring0 1, 0, by decide +kernel, by decide +kernel, by decide +kernel, by decide +kernel, 0, 63, by decide +kernel, by decide +kernel⟩,
    ⟨ring0 0x80000000, 0, by decide +kernel, by decide +kernel, by decide +kernel⟩⟩

/-! ### Witnesses: queues and their entries -/

/-- Credits that suffice for every class suffice for any header. -/
theorem mayTransmit_of (d : Dev) (p hdr n : Nat) (h : ∀ c < 5, pktBytes n ≤ (d.port p).credits.getD c 0) (k : (d.port p).keptBytes + pktBytes n ≤ 0x40000) :
    d.mayTransmit p hdr n = true := by
  have hc : creditClass (hdrOf hdr) < 5 := by
    have hv : (hdrOf hdr).vc < 4 := Nat.mod_lt _ (by decide)
    unfold creditClass
    split
    · decide
    · omega
  unfold Dev.mayTransmit
  simp only [Bool.and_eq_true, decide_eq_true_eq]
  exact ⟨h _ hc, k⟩

/-- A command queue of partition 1 and root 3 with one slot to fetch. -/
def cmdQueue : Queue := { queue0 with kind := 0, ring := 0x40000, cq := 0x50000, pi := 1 }

/-- A device with queue 5 and its entries. -/
def withQueue (l : List (Fld × Nat)) (m : Mem) (x : Queue) (es : List Entry) : Dev :=
  { holding l m (entry0 tyCopy [] false) with host := { HostSt.reset with queues := [(5, some x)], entries := es } }

/-- The extents a translation gave. -/
def extentsOf (g : Got × Dev) : List Extent :=
  match g.1 with
  | .ok l => l
  | _ => []

/-- An entry as its command finds it. -/
def started (d : Dev) : Dev := d.mapEntry 5 9 fun e => { e with started := true }

/-- A queue record. -/
def record5 : List Byte := words [2 ^ 63 + 4, 0x40000, 4 * 2 ^ 56 + 0x50000]

/-- A ring device that holds a REMOTE entry. -/
def sending (d : List Nat) : Dev := { holding ringFields Mem.reset (entry0 tyRemote d false) with gate := openGate }

/-- A copy of 4 KiB from host memory's or device memory's side. -/
def copying (l : List (Fld × Nat)) (d : List Nat) : Dev :=
  { holding l Mem.reset (entry0 tyCopy d false) with rbt := { RbtSt.reset with ranges := [⟨3, 0, 36, 0, 7⟩, ⟨3, 0x10000000000, 20, hostBase, 7⟩] } }

theorem witness_QueuesRingEnableFetchAndStop :
    (∃ (s : State) (q : Fin 262144) (pi ci : Nat), (s.powered) ∧ (s.dev.queue q = none) ∧ ∃ c ∈ [Instr.dbPi q pi, .cqCi q ci, .queueFetch q, .staleDescReread q], True) ∧
    (∃ (s : State) (q : Fin 262144), (s.powered) ∧ (s.dev.queue q = none) ∧ ∃ (c : Instr) (v : Nat), ((c, v) ∈ [(Instr.queueDisable q, 2), (.queueRestart q, 4)])) ∧
    (∃ (s : State) (q : Fin 262144), (s.powered) ∧ let pa := s.dev.queueRecord q; let valid := s.dev.queueOf (s.dev.read pa 64); (s.dev.get F.PWR_BOOT_STATE ≠ dsFailed) ∧ (s.dev.queue q = none) ∧ (s.dev.inKept pa 64 = true) ∧ (s.dev.readStatus pa 64 false = (stOk, s.dev)) ∧ ∃ x : Queue, (valid = some x)) ∧
    (∃ (s : State) (q : Fin 262144), (s.powered) ∧ let pa := s.dev.queueRecord q; let valid := s.dev.queueOf (s.dev.read pa 64); (s.dev.get F.PWR_BOOT_STATE = dsFailed ∨ (s.dev.queue q).isSome = true ∨ s.dev.inKept pa 64 = false ∨ (s.dev.readStatus pa 64 false = (stOk, s.dev) ∧ valid = none))) ∧
    (∃ (s : State) (q : Fin 262144) (x : Queue), (s.powered) ∧ (s.dev.queue q = some x) ∧ (x.kind = 1)) ∧
    (∃ (s : State) (q : Fin 262144) (x : Queue), (s.powered) ∧ (s.dev.queue q = some x) ∧ ∃ pi : Nat, (x.kind ≠ 1) ∧ (x.ahead (pi % 2 ^ 32) = 0)) ∧
    (∃ (s : State) (q : Fin 262144) (x : Queue), (s.powered) ∧ (s.dev.queue q = some x) ∧ ∃ pi : Nat, (x.kind ≠ 1) ∧ (0 < x.ahead (pi % 2 ^ 32)) ∧ (x.ahead (pi % 2 ^ 32) ≤ 2 ^ x.ringLog2) ∧ (s.dev.host.contexts.length < 4096)) ∧
    (∃ (s : State) (q : Fin 262144) (x : Queue), (s.powered) ∧ (s.dev.queue q = some x) ∧ ∃ pi : Nat, (x.kind ≠ 1) ∧ (2 ^ x.ringLog2 < x.ahead (pi % 2 ^ 32))) ∧
    (∃ (s : State) (q : Fin 262144) (x : Queue), (s.powered) ∧ (s.dev.queue q = some x) ∧ True) ∧
    (∃ (s : State) (q : Fin 262144) (x : Queue), (s.powered) ∧ (s.dev.queue q = some x) ∧ (x.state = qsDraining)) ∧
    (∃ (s : State) (q : Fin 262144) (x : Queue), (s.powered) ∧ (s.dev.queue q = some x) ∧ (x.state ≠ qsDraining) ∧ (s.dev.idleQueue q = true)) ∧
    (∃ (s : State) (q : Fin 262144) (x : Queue), (s.powered) ∧ (s.dev.queue q = some x) ∧ (x.state ≠ qsDraining) ∧ (s.dev.idleQueue q = false)) ∧
    (∃ (s : State) (q : Fin 262144) (x : Queue), (s.powered) ∧ (s.dev.queue q = some x) ∧ (x.state = qsStopped)) ∧
    (∃ (s : State) (q : Fin 262144) (x : Queue), (s.powered) ∧ (s.dev.queue q = some x) ∧ (x.state ≠ qsStopped)) ∧
    (∃ (s : State) (q : Fin 262144) (x : Queue), (s.powered) ∧ (s.dev.queue q = some x) ∧ (x.available = false ∨ s.dev.choosesQueue x = false)) ∧
    (∃ (s : State) (q : Fin 262144) (x : Queue), (s.powered) ∧ (s.dev.queue q = some x) ∧ (x.rereads = 0)) ∧
    (∃ (s : State) (q : Fin 262144) (x : Queue), (s.powered) ∧ (s.dev.queue q = some x) ∧ ∃ (l : List Extent) (d : Dev), (s.dev.obtainOnce (queueWaiter x (x.slotVa x.fetch) 128 1) = (.ok l, d)) ∧ let runs := extentRuns l (x.slotVa x.fetch) 128; let b := s.dev.readVa l (x.slotVa x.fetch) 128; (d.runsWait runs = false) ∧ (d.readRuns runs false = (stOk, d)) ∧ (s.dev.host.contexts.length < 4096) ∧ (x.available = true) ∧ (s.dev.choosesQueue x = true) ∧ (s.dev.entry q x.fetch = none) ∧ (slotVisible x b = true)) ∧
    (∃ (s : State) (q : Fin 262144) (x : Queue), (s.powered) ∧ (s.dev.queue q = some x) ∧ ∃ (l : List Extent) (d : Dev), (s.dev.obtainOnce (queueWaiter x (x.slotVa x.fetch) 128 1) = (.ok l, d)) ∧ let runs := extentRuns l (x.slotVa x.fetch) 128; let b := s.dev.readVa l (x.slotVa x.fetch) 128; (d.runsWait runs = false) ∧ (d.readRuns runs false = (stOk, d)) ∧ (s.dev.host.contexts.length < 4096) ∧ (x.available = true) ∧ (s.dev.choosesQueue x = true) ∧ (s.dev.entry q x.fetch = none) ∧ (slotVisible x b = false)) ∧
    (∃ (s : State) (q : Fin 262144) (x : Queue), (s.powered) ∧ (s.dev.queue q = some x) ∧ ∃ (l : List Extent) (d : Dev), (s.dev.obtainOnce (queueWaiter x (x.slotVa x.fetch) 128 1) = (.ok l, d)) ∧ let runs := extentRuns l (x.slotVa x.fetch) 128; let b := s.dev.readVa l (x.slotVa x.fetch) 128; (d.runsWait runs = false) ∧ (d.readRuns runs false = (stOk, d)) ∧ (s.dev.host.contexts.length < 4096) ∧ (x.rereads ≠ 0) ∧ (slotVisible x b = true)) ∧
    (∃ (s : State) (q : Fin 262144) (x : Queue), (s.powered) ∧ (s.dev.queue q = some x) ∧ ∃ (l : List Extent) (d : Dev), (s.dev.obtainOnce (queueWaiter x (x.slotVa x.fetch) 128 1) = (.ok l, d)) ∧ let runs := extentRuns l (x.slotVa x.fetch) 128; let b := s.dev.readVa l (x.slotVa x.fetch) 128; (d.runsWait runs = false) ∧ (d.readRuns runs false = (stOk, d)) ∧ (s.dev.host.contexts.length < 4096) ∧ (x.rereads ≠ 0) ∧ (slotVisible x b = false) ∧ (x.rereads < 8)) ∧
    (∃ (s : State) (q : Fin 262144) (x : Queue), (s.powered) ∧ (s.dev.queue q = some x) ∧ ∃ (l : List Extent) (d : Dev), (s.dev.obtainOnce (queueWaiter x (x.slotVa x.fetch) 128 1) = (.ok l, d)) ∧ let runs := extentRuns l (x.slotVa x.fetch) 128; let b := s.dev.readVa l (x.slotVa x.fetch) 128; (d.runsWait runs = false) ∧ (d.readRuns runs false = (stOk, d)) ∧ (s.dev.host.contexts.length < 4096) ∧ (x.rereads ≠ 0) ∧ (slotVisible x b = false) ∧ (8 ≤ x.rereads)) :=
  ⟨⟨(base Dev.reset), 262143, 0, 0, by unfold State.powered; decide +kernel, by decide +kernel, .dbPi 262143 0, by simp, trivial⟩,
    ⟨(base Dev.reset), 262143, by unfold State.powered; decide +kernel, by decide +kernel, .queueRestart 262143, 4, by decide +kernel⟩,
    ⟨base ({ withQueue [(F.HST_QTBL_PA, 1)] (Mem.reset.write 0x1000140 record5) cmdQueue [] with host := HostSt.reset, tier := { TierSt.reset with frames := [⟨0x1000000, 0x10000, 1, false, false⟩] } }), 5, by unfold State.powered; decide +kernel, by decide +kernel, by decide +kernel, by decide +kernel, by decide +kernel, ((base ({ withQueue [(F.HST_QTBL_PA, 1)] (Mem.reset.write 0x1000140 record5) cmdQueue [] with host := HostSt.reset, tier := { TierSt.reset with frames := [⟨0x1000000, 0x10000, 1, false, false⟩] } })).dev.queueOf record5).getD queue0, by decide +kernel⟩,
    ⟨base (regs [(F.PWR_BOOT_STATE, dsFailed)]), 5, by unfold State.powered; decide +kernel, by decide +kernel⟩,
    ⟨base (withQueue [] Mem.reset queue0 []), 5, queue0, by unfold State.powered; decide +kernel, by decide +kernel, by decide +kernel⟩,
    ⟨(base (withQueue [] Mem.reset cmdQueue [])), 5, cmdQueue, by unfold State.powered; decide +kernel, by decide +kernel, 0x100000000, by decide +kernel, by decide +kernel⟩,
    ⟨(base (withQueue [] Mem.reset cmdQueue [])), 5, cmdQueue, by unfold State.powered; decide +kernel, by decide +kernel, 16, by decide +kernel, by decide +kernel, by decide +kernel, by decide +kernel⟩,
    ⟨(base (withQueue [] Mem.reset cmdQueue [])), 5, cmdQueue, by unfold State.powered; decide +kernel, by decide +kernel, 17, by decide +kernel, by decide +kernel⟩,
    ⟨(base (withQueue [] Mem.reset cmdQueue [])), 5, cmdQueue, by unfold State.powered; decide +kernel, by decide +kernel, trivial⟩,
    ⟨base ((fun x => (withQueue [] Mem.reset x [])) { cmdQueue with state := qsDraining }), 5, { cmdQueue with state := qsDraining }, by unfold State.powered; decide +kernel, by decide +kernel, by decide +kernel⟩,
    ⟨(base (withQueue [] Mem.reset cmdQueue [])), 5, cmdQueue, by unfold State.powered; decide +kernel, by decide +kernel, by decide +kernel, by decide +kernel⟩,
    ⟨base (withQueue [] Mem.reset cmdQueue [entry0 tyNop [] true]), 5, cmdQueue, by unfold State.powered; decide +kernel, by decide +kernel, by decide +kernel, by decide +kernel⟩,
    ⟨base ((fun x => (withQueue [] Mem.reset x [])) { cmdQueue with state := qsStopped }), 5, { cmdQueue with state := qsStopped }, by unfold State.powered; decide +kernel, by decide +kernel, by decide +kernel⟩,
    ⟨(base (withQueue [] Mem.reset cmdQueue [])), 5, cmdQueue, by unfold State.powered; decide +kernel, by decide +kernel, by decide +kernel⟩,
    ⟨base ((fun x => (withQueue [] Mem.reset x [])) { cmdQueue with pi := 0 }), 5, { cmdQueue with pi := 0 }, by unfold State.powered; decide +kernel, by decide +kernel, by decide +kernel⟩,
    ⟨(base (withQueue [] Mem.reset cmdQueue [])), 5, cmdQueue, by unfold State.powered; decide +kernel, by decide +kernel, by decide +kernel⟩,
    ⟨(base (withQueue [] Mem.reset cmdQueue [])), 5, cmdQueue, by unfold State.powered; decide +kernel, by decide +kernel, extentsOf ((fun x => (Dev.obtainOnce (withQueue [] Mem.reset x []) (queueWaiter x (x.slotVa x.fetch) 128 1))) cmdQueue), ((fun x => (Dev.obtainOnce (withQueue [] Mem.reset x []) (queueWaiter x (x.slotVa x.fetch) 128 1))) cmdQueue).2, by decide +kernel, by decide +kernel, by decide +kernel, by decide +kernel, by decide +kernel, by decide +kernel, by decide +kernel, by decide +kernel⟩,
    ⟨base ((fun x => (withQueue [] Mem.reset x [])) ({ cmdQueue with fetch := 1, pi := 2 })), 5, ({ cmdQueue with fetch := 1, pi := 2 }), by unfold State.powered; decide +kernel, by decide +kernel, extentsOf ((fun x => (Dev.obtainOnce (withQueue [] Mem.reset x []) (queueWaiter x (x.slotVa x.fetch) 128 1))) ({ cmdQueue with fetch := 1, pi := 2 })), ((fun x => (Dev.obtainOnce (withQueue [] Mem.reset x []) (queueWaiter x (x.slotVa x.fetch) 128 1))) ({ cmdQueue with fetch := 1, pi := 2 })).2, by decide +kernel, by decide +kernel, by decide +kernel, by decide +kernel, by decide +kernel, by decide +kernel, by decide +kernel, by decide +kernel⟩,
    ⟨base ((fun x => (withQueue [] Mem.reset x [])) ({ cmdQueue with rereads := 1 })), 5, ({ cmdQueue with rereads := 1 }), by unfold State.powered; decide +kernel, by decide +kernel, extentsOf ((fun x => (Dev.obtainOnce (withQueue [] Mem.reset x []) (queueWaiter x (x.slotVa x.fetch) 128 1))) ({ cmdQueue with rereads := 1 })), ((fun x => (Dev.obtainOnce (withQueue [] Mem.reset x []) (queueWaiter x (x.slotVa x.fetch) 128 1))) ({ cmdQueue with rereads := 1 })).2, by decide +kernel, by decide +kernel, by decide +kernel, by decide +kernel, by decide +kernel, by decide +kernel⟩,
    ⟨base ((fun x => (withQueue [] Mem.reset x [])) ({ cmdQueue with fetch := 1, pi := 2, rereads := 7 })), 5, ({ cmdQueue with fetch := 1, pi := 2, rereads := 7 }), by unfold State.powered; decide +kernel, by decide +kernel, extentsOf ((fun x => (Dev.obtainOnce (withQueue [] Mem.reset x []) (queueWaiter x (x.slotVa x.fetch) 128 1))) ({ cmdQueue with fetch := 1, pi := 2, rereads := 7 })), ((fun x => (Dev.obtainOnce (withQueue [] Mem.reset x []) (queueWaiter x (x.slotVa x.fetch) 128 1))) ({ cmdQueue with fetch := 1, pi := 2, rereads := 7 })).2, by decide +kernel, by decide +kernel, by decide +kernel, by decide +kernel, by decide +kernel, by decide +kernel, by decide +kernel⟩,
    ⟨base ((fun x => (withQueue [] Mem.reset x [])) ({ cmdQueue with fetch := 1, pi := 2, rereads := 8 })), 5, ({ cmdQueue with fetch := 1, pi := 2, rereads := 8 }), by unfold State.powered; decide +kernel, by decide +kernel, extentsOf ((fun x => (Dev.obtainOnce (withQueue [] Mem.reset x []) (queueWaiter x (x.slotVa x.fetch) 128 1))) ({ cmdQueue with fetch := 1, pi := 2, rereads := 8 })), ((fun x => (Dev.obtainOnce (withQueue [] Mem.reset x []) (queueWaiter x (x.slotVa x.fetch) 128 1))) ({ cmdQueue with fetch := 1, pi := 2, rereads := 8 })).2, by decide +kernel, by decide +kernel, by decide +kernel, by decide +kernel, by decide +kernel, by decide +kernel, by decide +kernel⟩⟩

theorem witness_QueueEntriesRunAndComplete :
    (∃ (s : State) (q seq : Nat) (due : Bool) (c : Instr) (ty : Nat), (s.powered) ∧ ((c, ty) ∈ [(Instr.queueNop q seq, tyNop), (.copy q seq due, tyCopy), (.remoteQmsg q seq, tyRemote), (.remoteAtomic q seq, tyRemote)]) ∧ (s.dev.entryFor q seq ty = none)) ∧
    (∃ (s : State) (q seq : Nat) (x : Queue) (e : Entry) (d1 : Dev), (s.powered) ∧ (s.dev.entryRuns q seq tyNop x e d1)) ∧
    (∃ (s : State) (q seq : Nat) (x : Queue) (e : Entry) (d1 : Dev), (s.powered) ∧ (s.dev.entryRuns q seq tyCopy x e d1) ∧ let m := copyDesc e.desc; let check := d1.copyCheck x e m; (d1.copyOpen q seq = none) ∧ (check ≠ stOk ∨ m.total = 0)) ∧
    (∃ (s : State) (q seq : Nat) (x : Queue) (e : Entry) (d1 : Dev), (s.powered) ∧ (s.dev.entryRuns q seq tyCopy x e d1) ∧ let m := copyDesc e.desc; let check := d1.copyCheck x e m; ∃ (src dst : List Extent) (d2 d3 : Dev), (d1.copyOpen q seq = none) ∧ (check = stOk) ∧ (m.total ≠ 0) ∧ (m.remote = 0) ∧ ((d1.copiesOn e.engine).length < 8) ∧ (Dev.obtainAll (copyWaiters x e 1 m.srcRows) d1 = (.ok src, d2)) ∧ (Dev.obtainAll (copyWaiters x e 2 m.dstRows) d2 = (.ok dst, d3)) ∧ (copyHostOk e.engine (extentAll src) (extentAll dst) = false)) ∧
    (∃ (s : State) (q seq : Nat) (x : Queue) (e : Entry) (d1 : Dev), (s.powered) ∧ (s.dev.entryRuns q seq tyCopy x e d1) ∧ let m := copyDesc e.desc; let check := d1.copyCheck x e m; ∃ (src dst : List Extent) (d2 d3 d4 : Dev), (d1.copyOpen q seq = none) ∧ (check = stOk) ∧ (m.total ≠ 0) ∧ (m.remote = 0) ∧ ((d1.copiesOn e.engine).length < 8) ∧ (Dev.obtainAll (copyWaiters x e 1 m.srcRows) d1 = (.ok src, d2)) ∧ (Dev.obtainAll (copyWaiters x e 2 m.dstRows) d2 = (.ok dst, d3)) ∧ (copyHostOk e.engine (extentAll src) (extentAll dst) = true) ∧ (Dev.holdAll (holderCopy e.engine) x.root (m.srcRows ++ m.dstRows) d3 = some d4) ∧ (s.dev.copySlotBusy e.engine = true)) ∧
    (∃ (s : State) (q seq : Nat) (x : Queue) (e : Entry) (d1 : Dev), (s.powered) ∧ (s.dev.entryRuns q seq tyCopy x e d1) ∧ let m := copyDesc e.desc; ∃ (c : CopyOpen) (sl dl : List Extent) (d2 d3 d4 : Dev), let pc := m.piece c.moved 0x10000; let ask (need va : Nat) : Waiter := ⟨0, holderCopy e.engine, x.root, x.part, va, pc.2.2, need, false, some (e.queue, e.seq)⟩; let src := extentRuns sl pc.1 pc.2.2; let dst := extentRuns dl pc.2.1 pc.2.2; (d1.copyOpen q seq = some c) ∧ (c.engine = e.engine) ∧ (d1.copyNext e.engine = some c) ∧ (d1.copySlotBusy e.engine = false) ∧ (m.remote = 0) ∧ (c.moved < m.total) ∧ (pc.2.2 = m.total - c.moved) ∧ (d1.awaits q seq = false) ∧ (d2 = d1.setCopies (d1.host.copies.filter (fun y => !(y.queue == c.queue && y.seq == c.seq)) ++ [c])) ∧ (d2.obtain (ask 1 pc.1) = (.ok sl, d3)) ∧ (d3.obtain (ask 2 pc.2.1) = (.ok dl, d4)) ∧ (d4.readRuns src false = (stOk, d4)) ∧ (d4.writeRunsStatus dst = stOk)) ∧
    (∃ (s : State) (q seq : Nat) (x : Queue) (e : Entry) (d1 : Dev), (s.powered) ∧ (s.dev.entryRuns q seq tyRemote x e d1) ∧ (d1.awaits q seq = false) ∧ let m := remoteDesc e.desc; (d1.remoteOk m = false) ∧ ∃ c ∈ [Instr.remoteQmsg q seq, .remoteAtomic q seq], True) ∧
    (∃ (s : State) (q seq : Nat) (x : Queue) (e : Entry) (d1 : Dev), (s.powered) ∧ (s.dev.entryRuns q seq tyRemote x e d1) ∧ (d1.awaits q seq = false) ∧ let m := remoteDesc e.desc; let op := atomOps.getD m.aop .add; let ty := atomTypes.getD m.atype .u32; (d1.remoteOk m = true) ∧ (m.op = 2) ∧ (atomOk op ty = false)) ∧
    (∃ (s : State) (q seq : Nat) (x : Queue) (e : Entry) (d1 : Dev), (s.powered) ∧ (s.dev.entryRuns q seq tyRemote x e d1) ∧ (d1.awaits q seq = false) ∧ let m := remoteDesc e.desc; let op := atomOps.getD m.aop .add; let ty := atomTypes.getD m.atype .u32; let n := atomBytes ty; (d1.remoteOk m = true) ∧ (m.op = 2) ∧ (atomOk op ty = true) ∧ (2 ^ 48 < m.target + n)) ∧
    (∃ (s : State) (q seq : Nat) (x : Queue) (e : Entry) (d1 : Dev), (s.powered) ∧ (s.dev.entryRuns q seq tyRemote x e d1) ∧ (d1.awaits q seq = false) ∧ let m := remoteDesc e.desc; ∃ (l : List Extent) (d2 : Dev) (p : Nat) (cross : Bool), (d1.remoteOk m = true) ∧ (m.op = 1) ∧ (d1.obtain (remoteWaiter x e m.lva 128 1) = (.ok l, d2)) ∧ (d2.lacksTo m.rank [ftGateQmsg] = false) ∧ (d2.runsWait (extentRuns l m.lva 128) = false) ∧ (d2.on F.GTE_CTRL_BE_STOP = false) ∧ (d2.readRuns (extentRuns l m.lva 128) false = (stOk, d2)) ∧ ((s.dev.readVa l m.lva 128).length = 128) ∧ (d2.reqLeaves ptQmsg m.rank 120 p cross)) ∧
    (∃ (s : State) (q seq : Nat) (x : Queue) (e : Entry) (d1 : Dev), (s.powered) ∧ (s.dev.entryRuns q seq tyRemote x e d1) ∧ (d1.awaits q seq = false) ∧ let m := remoteDesc e.desc; let op := atomOps.getD m.aop .add; let ty := atomTypes.getD m.atype .u32; let n := atomBytes ty; ∃ (p : Nat) (cross : Bool), (d1.remoteOk m = true) ∧ (m.op = 2) ∧ (atomOk op ty = true) ∧ (m.target + n ≤ 2 ^ 48) ∧ (m.lva = 0) ∧ (d1.lacksTo m.rank [ftGateAtomic] = false) ∧ (d1.on F.GTE_CTRL_BE_STOP = false) ∧ let data := if op = .cas then atomData op ty m.operand2 m.operand1 else atomData op ty m.operand1 0; (d1.reqLeaves ptAtomic m.rank data.length p cross)) ∧
    (∃ (s : State) (q seq : Nat) (x : Queue) (e : Entry), (s.powered) ∧ (s.dev.queue q = some x) ∧ (s.dev.entry q seq = some e) ∧ (e.finished = none)) ∧
    (∃ (s : State) (q seq : Nat) (x : Queue) (e : Entry), (s.powered) ∧ (s.dev.queue q = some x) ∧ (s.dev.entry q seq = some e) ∧ ∃ st res : Nat, (e.finished = some (st, res)) ∧ (e.nocq = true) ∧ (st = stOk) ∧ (x.state ≠ qsDraining) ∧ (x.irq = false)) ∧
    (∃ (s : State) (q seq : Nat) (x : Queue) (e : Entry), (s.powered) ∧ (s.dev.queue q = some x) ∧ (s.dev.entry q seq = some e) ∧ ∃ st res : Nat, (e.finished = some (st, res)) ∧ (e.nocq = false ∨ st ≠ stOk) ∧ (x.cqFull = true)) ∧
    (∃ (s : State) (q seq : Nat) (x : Queue) (e : Entry), (s.powered) ∧ (s.dev.queue q = some x) ∧ (s.dev.entry q seq = some e) ∧ ∃ st res : Nat, (e.finished = some (st, res)) ∧ (e.nocq = false ∨ st ≠ stOk) ∧ ∃ (l : List Extent) (d : Dev) (pa : Nat), let va := x.cq + 32 * (x.cqCount % 2 ^ x.cqLog2); (x.cqFull = false) ∧ (x.state ≠ qsDraining) ∧ (s.dev.obtainOnce (queueWaiter x va 32 2) = (.ok l, d)) ∧ (extentPa l va = some pa) ∧ (d.writeStatus pa 32 = stOk) ∧ (isHost pa = false ∨ s.dev.on F.HST_LINK_BME = true)) :=
  ⟨⟨(base Dev.reset), 5, 9, false, .copy 5 9 false, tyCopy, by unfold State.powered; decide +kernel, by decide +kernel, by decide +kernel⟩,
    ⟨base (holding [] Mem.reset (entry0 tyNop [] false)), 5, 9, queue0, entry0 tyNop [] false, started (holding [] Mem.reset (entry0 tyNop [] false)), by unfold State.powered; decide +kernel, by unfold Dev.entryRuns; decide +kernel⟩,
    ⟨base ((fun l s t n => (copying l [s, t, 0, 0, 2 ^ 32 + n, 0])) [] 0x40000 0x50000 0), 5, 9, queue0, (fun s t n => (entry0 tyCopy [s, t, 0, 0, 2 ^ 32 + n, 0] false)) 0x40000 0x50000 0, started ((fun l s t n => (copying l [s, t, 0, 0, 2 ^ 32 + n, 0])) [] 0x40000 0x50000 0), by unfold State.powered; decide +kernel, by unfold Dev.entryRuns; decide +kernel, by decide +kernel, by decide +kernel⟩,
    ⟨base ((fun l s t n => (copying l [s, t, 0, 0, 2 ^ 32 + n, 0])) [] 0x40000 0x10000000000 64), 5, 9, queue0, (fun s t n => (entry0 tyCopy [s, t, 0, 0, 2 ^ 32 + n, 0] false)) 0x40000 0x10000000000 64, started ((fun l s t n => (copying l [s, t, 0, 0, 2 ^ 32 + n, 0])) [] 0x40000 0x10000000000 64), by unfold State.powered; decide +kernel, by unfold Dev.entryRuns; decide +kernel, extentsOf ((fun d s n => (Dev.obtainAll [⟨0, holderCopy 3, 3, 1, s, n, 1, false, some (5, 9)⟩] (started d))) ((fun l s t n => (copying l [s, t, 0, 0, 2 ^ 32 + n, 0])) [] 0x40000 0x10000000000 64) 0x40000 64), extentsOf ((fun d s t n => (Dev.obtainAll [⟨0, holderCopy 3, 3, 1, t, n, 2, false, some (5, 9)⟩] ((fun d s n => (Dev.obtainAll [⟨0, holderCopy 3, 3, 1, s, n, 1, false, some (5, 9)⟩] (started d))) d s n).2)) ((fun l s t n => (copying l [s, t, 0, 0, 2 ^ 32 + n, 0])) [] 0x40000 0x10000000000 64) 0x40000 0x10000000000 64), ((fun d s n => (Dev.obtainAll [⟨0, holderCopy 3, 3, 1, s, n, 1, false, some (5, 9)⟩] (started d))) ((fun l s t n => (copying l [s, t, 0, 0, 2 ^ 32 + n, 0])) [] 0x40000 0x10000000000 64) 0x40000 64).2, ((fun d s t n => (Dev.obtainAll [⟨0, holderCopy 3, 3, 1, t, n, 2, false, some (5, 9)⟩] ((fun d s n => (Dev.obtainAll [⟨0, holderCopy 3, 3, 1, s, n, 1, false, some (5, 9)⟩] (started d))) d s n).2)) ((fun l s t n => (copying l [s, t, 0, 0, 2 ^ 32 + n, 0])) [] 0x40000 0x10000000000 64) 0x40000 0x10000000000 64).2, by decide +kernel, by decide +kernel, by decide +kernel, by decide +kernel, by decide +kernel, by decide +kernel, by decide +kernel, by decide +kernel⟩,
    ⟨base ({ ((fun l s t n => (copying l [s, t, 0, 0, 2 ^ 32 + n, 0])) [] 0x40000 0x50000 4096) with regs := (regs ([(F.TCK_STATUS_STATE, 2), (F.ARB_PART_ACTIVE 2, 1), (F.ARB_PART_MODE 2, 1), (F.RBT_ROOT_VALID 3, 1), (F.RBT_ROOT_PART 3, 1), (F.ARB_PART_ACTIVE 1, 1), (F.ARB_PART_CE_MASK 1, 0xFFFF)] ++ allFeatures)).regs, tick := { TickSt.reset with tickDone := false }, parts := (running [] (oneSlot engCopy 3 opCopy 0 [] []) engCopy 3 true).parts }), 5, 9, queue0, (fun s t n => (entry0 tyCopy [s, t, 0, 0, 2 ^ 32 + n, 0] false)) 0x40000 0x50000 4096, started ({ ((fun l s t n => (copying l [s, t, 0, 0, 2 ^ 32 + n, 0])) [] 0x40000 0x50000 4096) with regs := (regs ([(F.TCK_STATUS_STATE, 2), (F.ARB_PART_ACTIVE 2, 1), (F.ARB_PART_MODE 2, 1), (F.RBT_ROOT_VALID 3, 1), (F.RBT_ROOT_PART 3, 1), (F.ARB_PART_ACTIVE 1, 1), (F.ARB_PART_CE_MASK 1, 0xFFFF)] ++ allFeatures)).regs, tick := { TickSt.reset with tickDone := false }, parts := (running [] (oneSlot engCopy 3 opCopy 0 [] []) engCopy 3 true).parts }), by unfold State.powered; decide +kernel, by unfold Dev.entryRuns; decide +kernel, extentsOf ((fun d s n => (Dev.obtainAll [⟨0, holderCopy 3, 3, 1, s, n, 1, false, some (5, 9)⟩] (started d))) ({ ((fun l s t n => (copying l [s, t, 0, 0, 2 ^ 32 + n, 0])) [] 0x40000 0x50000 4096) with regs := (regs ([(F.TCK_STATUS_STATE, 2), (F.ARB_PART_ACTIVE 2, 1), (F.ARB_PART_MODE 2, 1), (F.RBT_ROOT_VALID 3, 1), (F.RBT_ROOT_PART 3, 1), (F.ARB_PART_ACTIVE 1, 1), (F.ARB_PART_CE_MASK 1, 0xFFFF)] ++ allFeatures)).regs, tick := { TickSt.reset with tickDone := false }, parts := (running [] (oneSlot engCopy 3 opCopy 0 [] []) engCopy 3 true).parts }) 0x40000 4096), extentsOf ((fun d s t n => (Dev.obtainAll [⟨0, holderCopy 3, 3, 1, t, n, 2, false, some (5, 9)⟩] ((fun d s n => (Dev.obtainAll [⟨0, holderCopy 3, 3, 1, s, n, 1, false, some (5, 9)⟩] (started d))) d s n).2)) ({ ((fun l s t n => (copying l [s, t, 0, 0, 2 ^ 32 + n, 0])) [] 0x40000 0x50000 4096) with regs := (regs ([(F.TCK_STATUS_STATE, 2), (F.ARB_PART_ACTIVE 2, 1), (F.ARB_PART_MODE 2, 1), (F.RBT_ROOT_VALID 3, 1), (F.RBT_ROOT_PART 3, 1), (F.ARB_PART_ACTIVE 1, 1), (F.ARB_PART_CE_MASK 1, 0xFFFF)] ++ allFeatures)).regs, tick := { TickSt.reset with tickDone := false }, parts := (running [] (oneSlot engCopy 3 opCopy 0 [] []) engCopy 3 true).parts }) 0x40000 0x50000 4096), ((fun d s n => (Dev.obtainAll [⟨0, holderCopy 3, 3, 1, s, n, 1, false, some (5, 9)⟩] (started d))) ({ ((fun l s t n => (copying l [s, t, 0, 0, 2 ^ 32 + n, 0])) [] 0x40000 0x50000 4096) with regs := (regs ([(F.TCK_STATUS_STATE, 2), (F.ARB_PART_ACTIVE 2, 1), (F.ARB_PART_MODE 2, 1), (F.RBT_ROOT_VALID 3, 1), (F.RBT_ROOT_PART 3, 1), (F.ARB_PART_ACTIVE 1, 1), (F.ARB_PART_CE_MASK 1, 0xFFFF)] ++ allFeatures)).regs, tick := { TickSt.reset with tickDone := false }, parts := (running [] (oneSlot engCopy 3 opCopy 0 [] []) engCopy 3 true).parts }) 0x40000 4096).2, ((fun d s t n => (Dev.obtainAll [⟨0, holderCopy 3, 3, 1, t, n, 2, false, some (5, 9)⟩] ((fun d s n => (Dev.obtainAll [⟨0, holderCopy 3, 3, 1, s, n, 1, false, some (5, 9)⟩] (started d))) d s n).2)) ({ ((fun l s t n => (copying l [s, t, 0, 0, 2 ^ 32 + n, 0])) [] 0x40000 0x50000 4096) with regs := (regs ([(F.TCK_STATUS_STATE, 2), (F.ARB_PART_ACTIVE 2, 1), (F.ARB_PART_MODE 2, 1), (F.RBT_ROOT_VALID 3, 1), (F.RBT_ROOT_PART 3, 1), (F.ARB_PART_ACTIVE 1, 1), (F.ARB_PART_CE_MASK 1, 0xFFFF)] ++ allFeatures)).regs, tick := { TickSt.reset with tickDone := false }, parts := (running [] (oneSlot engCopy 3 opCopy 0 [] []) engCopy 3 true).parts }) 0x40000 0x50000 4096).2, (fun d => ((Dev.holdAll (holderCopy 3) 3 [(0x40000, 4096), (0x50000, 4096)] ((fun d s t n => (Dev.obtainAll [⟨0, holderCopy 3, 3, 1, t, n, 2, false, some (5, 9)⟩] ((fun d s n => (Dev.obtainAll [⟨0, holderCopy 3, 3, 1, s, n, 1, false, some (5, 9)⟩] (started d))) d s n).2)) d 0x40000 0x50000 4096).2).getD Dev.reset)) ({ ((fun l s t n => (copying l [s, t, 0, 0, 2 ^ 32 + n, 0])) [] 0x40000 0x50000 4096) with regs := (regs ([(F.TCK_STATUS_STATE, 2), (F.ARB_PART_ACTIVE 2, 1), (F.ARB_PART_MODE 2, 1), (F.RBT_ROOT_VALID 3, 1), (F.RBT_ROOT_PART 3, 1), (F.ARB_PART_ACTIVE 1, 1), (F.ARB_PART_CE_MASK 1, 0xFFFF)] ++ allFeatures)).regs, tick := { TickSt.reset with tickDone := false }, parts := (running [] (oneSlot engCopy 3 opCopy 0 [] []) engCopy 3 true).parts }), by decide +kernel, by decide +kernel, by decide +kernel, by decide +kernel, by decide +kernel, by decide +kernel, by decide +kernel, by decide +kernel, by decide +kernel, by decide +kernel⟩,
    ⟨base ({ ((fun l s t n => (copying l [s, t, 0, 0, 2 ^ 32 + n, 0])) [] 0x40000 0x50000 4096) with host := { (((fun l s t n => (copying l [s, t, 0, 0, 2 ^ 32 + n, 0])) [] 0x40000 0x50000 4096)).host with copies := [⟨3, 5, 9, 0⟩] } }), 5, 9, queue0, (fun s t n => (entry0 tyCopy [s, t, 0, 0, 2 ^ 32 + n, 0] false)) 0x40000 0x50000 4096, started ({ ((fun l s t n => (copying l [s, t, 0, 0, 2 ^ 32 + n, 0])) [] 0x40000 0x50000 4096) with host := { (((fun l s t n => (copying l [s, t, 0, 0, 2 ^ 32 + n, 0])) [] 0x40000 0x50000 4096)).host with copies := [⟨3, 5, 9, 0⟩] } }), by unfold State.powered; decide +kernel, by unfold Dev.entryRuns; decide +kernel, ⟨3, 5, 9, 0⟩, extentsOf (Dev.obtain ((started ({ ((fun l s t n => (copying l [s, t, 0, 0, 2 ^ 32 + n, 0])) [] 0x40000 0x50000 4096) with host := { (((fun l s t n => (copying l [s, t, 0, 0, 2 ^ 32 + n, 0])) [] 0x40000 0x50000 4096)).host with copies := [⟨3, 5, 9, 0⟩] } })).setCopies [⟨3, 5, 9, 0⟩]) ⟨0, holderCopy 3, 3, 1, 0x40000, 4096, 1, false, some (5, 9)⟩), extentsOf (Dev.obtain ((Dev.obtain ((started ({ ((fun l s t n => (copying l [s, t, 0, 0, 2 ^ 32 + n, 0])) [] 0x40000 0x50000 4096) with host := { (((fun l s t n => (copying l [s, t, 0, 0, 2 ^ 32 + n, 0])) [] 0x40000 0x50000 4096)).host with copies := [⟨3, 5, 9, 0⟩] } })).setCopies [⟨3, 5, 9, 0⟩]) ⟨0, holderCopy 3, 3, 1, 0x40000, 4096, 1, false, some (5, 9)⟩)).2 ⟨0, holderCopy 3, 3, 1, 0x50000, 4096, 2, false, some (5, 9)⟩), ((started ({ ((fun l s t n => (copying l [s, t, 0, 0, 2 ^ 32 + n, 0])) [] 0x40000 0x50000 4096) with host := { (((fun l s t n => (copying l [s, t, 0, 0, 2 ^ 32 + n, 0])) [] 0x40000 0x50000 4096)).host with copies := [⟨3, 5, 9, 0⟩] } })).setCopies [⟨3, 5, 9, 0⟩]), ((Dev.obtain ((started ({ ((fun l s t n => (copying l [s, t, 0, 0, 2 ^ 32 + n, 0])) [] 0x40000 0x50000 4096) with host := { (((fun l s t n => (copying l [s, t, 0, 0, 2 ^ 32 + n, 0])) [] 0x40000 0x50000 4096)).host with copies := [⟨3, 5, 9, 0⟩] } })).setCopies [⟨3, 5, 9, 0⟩]) ⟨0, holderCopy 3, 3, 1, 0x40000, 4096, 1, false, some (5, 9)⟩)).2, ((Dev.obtain ((Dev.obtain ((started ({ ((fun l s t n => (copying l [s, t, 0, 0, 2 ^ 32 + n, 0])) [] 0x40000 0x50000 4096) with host := { (((fun l s t n => (copying l [s, t, 0, 0, 2 ^ 32 + n, 0])) [] 0x40000 0x50000 4096)).host with copies := [⟨3, 5, 9, 0⟩] } })).setCopies [⟨3, 5, 9, 0⟩]) ⟨0, holderCopy 3, 3, 1, 0x40000, 4096, 1, false, some (5, 9)⟩)).2 ⟨0, holderCopy 3, 3, 1, 0x50000, 4096, 2, false, some (5, 9)⟩)).2, by decide +kernel, by decide +kernel, by decide +kernel, by decide +kernel, by decide +kernel, by decide +kernel, by decide +kernel, by decide +kernel, by decide +kernel, by decide +kernel, by decide +kernel, by decide +kernel, by decide +kernel⟩,
    ⟨base (sending [1]), 5, 9, queue0, entry0 tyRemote [1] false, started (sending [1]), by unfold State.powered; decide +kernel, by unfold Dev.entryRuns; decide +kernel, by decide +kernel, by decide +kernel, .remoteAtomic 5 9, by simp, trivial⟩,
    ⟨base (sending ((fun ty t => [2 * 2 ^ 56 + 2 * 2 ^ 42 + ty * 2 ^ 35, t, 0, 1]) 28 0x40000)), 5, 9, queue0, entry0 tyRemote ((fun ty t => [2 * 2 ^ 56 + 2 * 2 ^ 42 + ty * 2 ^ 35, t, 0, 1]) 28 0x40000) false, started (sending ((fun ty t => [2 * 2 ^ 56 + 2 * 2 ^ 42 + ty * 2 ^ 35, t, 0, 1]) 28 0x40000)), by unfold State.powered; decide +kernel, by unfold Dev.entryRuns; decide +kernel, by decide +kernel, by decide +kernel, by decide +kernel, by decide +kernel⟩,
    ⟨base (sending ((fun ty t => [2 * 2 ^ 56 + 2 * 2 ^ 42 + ty * 2 ^ 35, t, 0, 1]) 0 0xFFFFFFFFFFFD)), 5, 9, queue0, entry0 tyRemote ((fun ty t => [2 * 2 ^ 56 + 2 * 2 ^ 42 + ty * 2 ^ 35, t, 0, 1]) 0 0xFFFFFFFFFFFD) false, started (sending ((fun ty t => [2 * 2 ^ 56 + 2 * 2 ^ 42 + ty * 2 ^ 35, t, 0, 1]) 0 0xFFFFFFFFFFFD)), by unfold State.powered; decide +kernel, by unfold Dev.entryRuns; decide +kernel, by decide +kernel, by decide +kernel, by decide +kernel, by decide +kernel, by decide +kernel⟩,
    ⟨base (sending ([2 ^ 56 + 2 * 2 ^ 42 + 5, 0, 0x40000])), 5, 9, queue0, entry0 tyRemote ([2 ^ 56 + 2 * 2 ^ 42 + 5, 0, 0x40000]) false, started (sending ([2 ^ 56 + 2 * 2 ^ 42 + 5, 0, 0x40000])), by unfold State.powered; decide +kernel, by unfold Dev.entryRuns; decide +kernel, by decide +kernel, extentsOf (Dev.obtain (started (sending ([2 ^ 56 + 2 * 2 ^ 42 + 5, 0, 0x40000]))) ⟨0, holderQueue, 3, 1, 0x40000, 128, 1, false, some (5, 9)⟩), ((Dev.obtain (started (sending ([2 ^ 56 + 2 * 2 ^ 42 + 5, 0, 0x40000]))) ⟨0, holderQueue, 3, 1, 0x40000, 128, 1, false, some (5, 9)⟩)).2, 5, false, by decide +kernel, by decide +kernel, by decide +kernel, by decide +kernel, by decide +kernel, by decide +kernel, by decide +kernel, by decide +kernel, (⟨by decide +kernel, by decide +kernel, by decide +kernel, ⟨0, 0, by decide +kernel, by decide +kernel⟩, fun _ => mayTransmit_of _ _ _ _ (by decide +kernel) (by decide +kernel)⟩)⟩,
    ⟨base (sending ((fun ty t => [2 * 2 ^ 56 + 2 * 2 ^ 42 + ty * 2 ^ 35, t, 0, 1]) 0 0xFFFFFFFFFFFC)), 5, 9, queue0, entry0 tyRemote ((fun ty t => [2 * 2 ^ 56 + 2 * 2 ^ 42 + ty * 2 ^ 35, t, 0, 1]) 0 0xFFFFFFFFFFFC) false, started (sending ((fun ty t => [2 * 2 ^ 56 + 2 * 2 ^ 42 + ty * 2 ^ 35, t, 0, 1]) 0 0xFFFFFFFFFFFC)), by unfold State.powered; decide +kernel, by unfold Dev.entryRuns; decide +kernel, by decide +kernel, 5, false, by decide +kernel, by decide +kernel, by decide +kernel, by decide +kernel, by decide +kernel, by decide +kernel, by decide +kernel, (⟨by decide +kernel, by decide +kernel, by decide +kernel, ⟨0, 0, by decide +kernel, by decide +kernel⟩, fun _ => mayTransmit_of _ _ _ _ (by decide +kernel) (by decide +kernel)⟩)⟩,
    ⟨base (holding [] Mem.reset (entry0 tyNop [] false)), 5, 9, queue0, entry0 tyNop [] false, by unfold State.powered; decide +kernel, by decide +kernel, by decide +kernel, by decide +kernel⟩,
    ⟨base (withQueue [] Mem.reset cmdQueue [{ (fun f => { entry0 tyNop [] true with finished := f }) (some (0, 0)) with nocq := true }]), 5, 9, cmdQueue, { (fun f => { entry0 tyNop [] true with finished := f }) (some (0, 0)) with nocq := true }, by unfold State.powered; decide +kernel, by decide +kernel, by decide +kernel, 0, 0, by decide +kernel, by decide +kernel, by decide +kernel, by decide +kernel, by decide +kernel⟩,
    ⟨base ((fun f x => withQueue [] Mem.reset x [{ entry0 tyNop [] true with finished := f }]) (some (5, 7)) { cmdQueue with cqCount := 16 }), 5, 9, { cmdQueue with cqCount := 16 }, (fun f => { entry0 tyNop [] true with finished := f }) (some (5, 7)), by unfold State.powered; decide +kernel, by decide +kernel, by decide +kernel, 5, 7, by decide +kernel, by decide +kernel, by decide +kernel⟩,
    ⟨base ((fun f x => withQueue [] Mem.reset x [{ entry0 tyNop [] true with finished := f }]) (some (0, 0)) cmdQueue), 5, 9, cmdQueue, (fun f => { entry0 tyNop [] true with finished := f }) (some (0, 0)), by unfold State.powered; decide +kernel, by decide +kernel, by decide +kernel, 0, 0, by decide +kernel, by decide +kernel, extentsOf ((fun x => (Dev.obtainOnce (withQueue [] Mem.reset x [{ entry0 tyNop [] true with finished := some (0, 0) }]) (queueWaiter x x.cq 32 2))) cmdQueue), ((fun x => (Dev.obtainOnce (withQueue [] Mem.reset x [{ entry0 tyNop [] true with finished := some (0, 0) }]) (queueWaiter x x.cq 32 2))) cmdQueue).2, 0x50000, by decide +kernel, by decide +kernel, by decide +kernel, by decide +kernel, by decide +kernel, by decide +kernel⟩⟩

/-! ### Witnesses: collectives -/

/-- A running collective of two ranks, this device's slot 0 and rank 2's slot 1; formats 0 BSI, 1 one-bit, 2 FP32. -/
def collective (op fmt ranks blocks deadline : Nat) : Coll :=
  { id := 77, queue := some (5, 9), part := 1, root := 3,
    desc := words [op * 2 ^ 56 + fmt * 2 ^ 54, blocks * 2 ^ 32 + ranks * 2 ^ 16 + deadline, 77, 0x40000, 0, 0, 0, 0],
    params := [0x44000, 0, 0, 0, 0x48000, 0, 0, 0x42000, 0, 0x49000, 4, 0, 0, 0, 0, 0], list := [1, 2], ext := [⟨0x40000, 0x10000, 0x40000, 7⟩],
    ranges := [], logIn := [], begun := true, slot := 0, exps := [], got := [], awaiting := [0, 1], pass := 0, reducing := true, ownDone := false,
    seen := [], inbox := [], useBackup := [], logged := 0, passed := 0, written := [], flagged := [], maxPass := 0, reran := false, fail := none,
    next := 0, buf := [], manifest := [], parent := 0, onAlt := false, resent := false, kids := [], dones := [], attached := 0 }

/-- A ring device whose Square engine of a gate die has these waiting and running. -/
def squareDev (l : List (Fld × Nat)) (g : Nat) (waiting running : List Coll) : Dev := { ringDev l with square := [(g, ⟨waiting, running⟩)] }

/-- A frame of it. -/
def frame77 (first kind slot count : Nat) (body : List Byte) : List Byte := frameOf ⟨77, first, kind, 0, slot, count⟩ body

/-- The packet that brings a frame from rank 2. -/
def packetOf (frame : List Byte) : Hdr := fromTwo ptSquare 7 frame.length 0

/-- Its HEADER block. -/
def bitsOf (frame : List Byte) : Header := hdrBits (packetOf frame)

/-- A descriptor of a collective on four blocks. -/
def collWords (op fmt out ranks blocks : Nat) : List Nat := [op * 2 ^ 56 + fmt * 2 ^ 54 + out * 2 ^ 51, blocks * 2 ^ 32 + ranks * 2 ^ 16, 77, 0x40000]

/-- A device with a COLLECTIVE entry, its parameter block and its LIST. -/
def collDev (l : List (Fld × Nat)) (desc p list : List Nat) : Dev :=
  { holding (ringFields ++ [(F.ARB_PART_SQ_MASK 1, 3)] ++ l) ((Mem.reset.write 0x40000 (words p)).write 0x42000 (list.flatMap (leBytes 4)))
      (entry0 tyCollective desc false) with gate := openGate }

/-- What fetching the parameter block gives, and then the LIST. -/
def fetched (d : Dev) (desc : List Nat) : Option (List Byte) × Dev := (started d).sqFetch 1 queue0 (entry0 tyCollective desc false) 0x40000 128

/-- The LIST. -/
def fetched2 (d : Dev) (desc : List Nat) : Option (List Byte) × Dev := (fetched d desc).2.sqFetch 1 queue0 (entry0 tyCollective desc false) 0x42000 8

/-- The bindings of its regions. -/
def bindings (d : Dev) (desc p list : List Nat) : Got × Dev :=
  Dev.obtainAll ((collRegions 1 (collDesc true (words desc)) p list).map (sqWaiter 1 queue0 (entry0 tyCollective desc false))) (fetched2 d desc).2

/-- The device that holds them. -/
def heldAll (d : Dev) (desc p list : List Nat) : Dev :=
  (Dev.holdAll (holderSquare 1) 3 ((collRegions 1 (collDesc true (words desc)) p list).map fun r => (r.1, r.2.1)) (bindings d desc p list).2).getD Dev.reset

/-- A device of the ring whose partition 2 runs SQUARE slots of a collective. -/
def roundDev (l : List (Fld × Nat)) (desc : List Nat) (slots : Nat) (c : List Coll) : Dev :=
  let sl : Slot := ⟨100, opCollective * 2 ^ 56 + 0xFFFF * 2 ^ 40, 0, 0⟩
  let im := { oneSlot engSquare 0 opCollective 0 [words desc] [] with
    streams := [⟨engSquare, 0, 0, List.replicate slots sl⟩], routes := [words [0x4000000000002, 5, 0, 0]] }
  { running (ringFields ++ allFeatures ++ l) im engSquare 0 false with gate := openGate, square := [(0, ⟨[], c⟩)] }

/-- The image it runs. -/
def roundImage (desc : List Nat) (slots : Nat) : Image := ((roundDev [] desc slots []).part 2).running.getD (oneSlot 0 0 0 0 [] [])

theorem witness_CollectivesAreCheckedQueuedAndStarted :
    (∃ (s : State) (q seq op : Nat) (c : Instr), (s.powered) ∧ ((c, op) ∈ [(Instr.allreduce q seq, opAllreduce), (.reduceScatter q seq, opReduceScatter), (.broadcast q seq, opBroadcast)]) ∧ (s.dev.entryFor q seq tyCollective = none)) ∧
    (∃ (s : State) (q seq op : Nat) (c : Instr), (s.powered) ∧ ((c, op) ∈ [(Instr.allreduce q seq, opAllreduce), (.reduceScatter q seq, opReduceScatter), (.broadcast q seq, opBroadcast)]) ∧ ∃ (x : Queue) (e : Entry) (d1 : Dev), (s.dev.entryRuns q seq tyCollective x e d1) ∧ let m := collDesc true e.desc; (m.op = op ∨ (op = opAllreduce ∧ m.op ≠ opReduceScatter ∧ m.op ≠ opBroadcast)) ∧ (d1.hasColl q seq = true)) ∧
    (∃ (s : State) (q seq op : Nat) (c : Instr), (s.powered) ∧ ((c, op) ∈ [(Instr.allreduce q seq, opAllreduce), (.reduceScatter q seq, opReduceScatter), (.broadcast q seq, opBroadcast)]) ∧ ∃ (x : Queue) (e : Entry) (d1 : Dev), (s.dev.entryRuns q seq tyCollective x e d1) ∧ let m := collDesc true e.desc; (m.op = op ∨ (op = opAllreduce ∧ m.op ≠ opReduceScatter ∧ m.op ≠ opBroadcast)) ∧ (d1.hasColl q seq = false) ∧ (d1.collDescOk m = false)) ∧
    (∃ (s : State) (q seq op : Nat) (c : Instr), (s.powered) ∧ ((c, op) ∈ [(Instr.allreduce q seq, opAllreduce), (.reduceScatter q seq, opReduceScatter), (.broadcast q seq, opBroadcast)]) ∧ ∃ (x : Queue) (e : Entry) (d1 : Dev), (s.dev.entryRuns q seq tyCollective x e d1) ∧ let m := collDesc true e.desc; let g := e.engine % 2; (m.op = op ∨ (op = opAllreduce ∧ m.op ≠ opReduceScatter ∧ m.op ≠ opBroadcast)) ∧ (d1.hasColl q seq = false) ∧ (d1.collDescOk m = true) ∧ (bit (d1.get (F.ARB_PART_SQ_MASK x.part)) g = false)) ∧
    (∃ (s : State) (q seq op : Nat) (c : Instr), (s.powered) ∧ ((c, op) ∈ [(Instr.allreduce q seq, opAllreduce), (.reduceScatter q seq, opReduceScatter), (.broadcast q seq, opBroadcast)]) ∧ ∃ (x : Queue) (e : Entry) (d1 : Dev), (s.dev.entryRuns q seq tyCollective x e d1) ∧ let m := collDesc true e.desc; let g := e.engine % 2; (m.op = op ∨ (op = opAllreduce ∧ m.op ≠ opReduceScatter ∧ m.op ≠ opBroadcast)) ∧ (d1.hasColl q seq = false) ∧ ∃ (pb lb : List Byte) (d2 d3 : Dev), (d1.collDescOk m = true) ∧ (bit (d1.get (F.ARB_PART_SQ_MASK x.part)) g = true) ∧ (d1.sqFetch g x e m.param 128 = (some pb, d2)) ∧ let p := (List.range 16).map (leWord pb); (d2.sqFetch g x e (p.getD 7 0 % 2 ^ 56) (listBytes m * listCount m) = (some lb, d3)) ∧ let list := listWords m lb; (d3.collBlockOk true m p list = false)) ∧
    (∃ (s : State) (q seq op : Nat) (c : Instr), (s.powered) ∧ ((c, op) ∈ [(Instr.allreduce q seq, opAllreduce), (.reduceScatter q seq, opReduceScatter), (.broadcast q seq, opBroadcast)]) ∧ ∃ (x : Queue) (e : Entry) (d1 : Dev), (s.dev.entryRuns q seq tyCollective x e d1) ∧ let m := collDesc true e.desc; let g := e.engine % 2; (m.op = op ∨ (op = opAllreduce ∧ m.op ≠ opReduceScatter ∧ m.op ≠ opBroadcast)) ∧ (d1.hasColl q seq = false) ∧ ∃ (pb lb : List Byte) (d2 d3 : Dev), (d1.collDescOk m = true) ∧ (bit (d1.get (F.ARB_PART_SQ_MASK x.part)) g = true) ∧ (d1.sqFetch g x e m.param 128 = (some pb, d2)) ∧ let p := (List.range 16).map (leWord pb); (d2.sqFetch g x e (p.getD 7 0 % 2 ^ 56) (listBytes m * listCount m) = (some lb, d3)) ∧ let list := listWords m lb; (d3.collBlockOk true m p list = true) ∧ (collEmpty m p = true)) ∧
    (∃ (s : State) (q seq op : Nat) (c : Instr), (s.powered) ∧ ((c, op) ∈ [(Instr.allreduce q seq, opAllreduce), (.reduceScatter q seq, opReduceScatter), (.broadcast q seq, opBroadcast)]) ∧ ∃ (x : Queue) (e : Entry) (d1 : Dev), (s.dev.entryRuns q seq tyCollective x e d1) ∧ let m := collDesc true e.desc; let g := e.engine % 2; (m.op = op ∨ (op = opAllreduce ∧ m.op ≠ opReduceScatter ∧ m.op ≠ opBroadcast)) ∧ (d1.hasColl q seq = false) ∧ ∃ (pb lb : List Byte) (d2 d3 : Dev), (d1.collDescOk m = true) ∧ (bit (d1.get (F.ARB_PART_SQ_MASK x.part)) g = true) ∧ (d1.sqFetch g x e m.param 128 = (some pb, d2)) ∧ let p := (List.range 16).map (leWord pb); (d2.sqFetch g x e (p.getD 7 0 % 2 ^ 56) (listBytes m * listCount m) = (some lb, d3)) ∧ let list := listWords m lb; let shape := collShape (d3.on F.GTE_ID_RANKED) m; (d3.collBlockOk true m p list = true) ∧ (collEmpty m p = false) ∧ (shape.1 ≠ stOk)) :=
  ⟨⟨(base Dev.reset), 5, 9, opBroadcast, .broadcast 5 9, by unfold State.powered; decide +kernel, by decide +kernel, by decide +kernel⟩,
    ⟨base { collDev [] (collWords 1 2 0 2 4) ([0x44000, 0, 0, 0, 0x48000, 0, 0, 0x42000, 0, 0, 0, 0, 0, 0, 0, 0]) [1, 2] with square := [(1, ⟨[], [collective 1 2 2 4 0]⟩)] }, 5, 9, opAllreduce, .allreduce 5 9, by unfold State.powered; decide +kernel, by decide +kernel, queue0, (fun d => entry0 tyCollective d false) (collWords 1 2 0 2 4), started { collDev [] (collWords 1 2 0 2 4) ([0x44000, 0, 0, 0, 0x48000, 0, 0, 0x42000, 0, 0, 0, 0, 0, 0, 0, 0]) [1, 2] with square := [(1, ⟨[], [collective 1 2 2 4 0]⟩)] }, by unfold Dev.entryRuns; decide +kernel, by decide +kernel, by decide +kernel⟩,
    ⟨base (collDev [] ([2 ^ 56 + 2 * 2 ^ 54, 0, 77, 0x40000, 0, 0, 1]) ([0x44000, 0, 0, 0, 0x48000, 0, 0, 0x42000, 0, 0, 0, 0, 0, 0, 0, 0]) [1, 2]), 5, 9, opAllreduce, .allreduce 5 9, by unfold State.powered; decide +kernel, by decide +kernel, queue0, (fun d => entry0 tyCollective d false) ([2 ^ 56 + 2 * 2 ^ 54, 0, 77, 0x40000, 0, 0, 1]), started (collDev [] ([2 ^ 56 + 2 * 2 ^ 54, 0, 77, 0x40000, 0, 0, 1]) ([0x44000, 0, 0, 0, 0x48000, 0, 0, 0x42000, 0, 0, 0, 0, 0, 0, 0, 0]) [1, 2]), by unfold Dev.entryRuns; decide +kernel, by decide +kernel, by decide +kernel, by decide +kernel⟩,
    ⟨base (collDev [(F.ARB_PART_SQ_MASK 1, 1)] (collWords 1 2 0 2 4) ([0x44000, 0, 0, 0, 0x48000, 0, 0, 0x42000, 0, 0, 0, 0, 0, 0, 0, 0]) [1, 2]), 5, 9, opAllreduce, .allreduce 5 9, by unfold State.powered; decide +kernel, by decide +kernel, queue0, (fun d => entry0 tyCollective d false) (collWords 1 2 0 2 4), started (collDev [(F.ARB_PART_SQ_MASK 1, 1)] (collWords 1 2 0 2 4) ([0x44000, 0, 0, 0, 0x48000, 0, 0, 0x42000, 0, 0, 0, 0, 0, 0, 0, 0]) [1, 2]), by unfold Dev.entryRuns; decide +kernel, by decide +kernel, by decide +kernel, by decide +kernel, by decide +kernel⟩,
    ⟨base (collDev [] (collWords 1 2 0 2 4) ([0x44000, 0, 0, 0, 0x48000, 0, 0, 0x42000, 0, 0, 0, 1, 0, 0, 0, 0]) [1, 2]), 5, 9, opAllreduce, .allreduce 5 9, by unfold State.powered; decide +kernel, by decide +kernel, queue0, (fun d => entry0 tyCollective d false) (collWords 1 2 0 2 4), started (collDev [] (collWords 1 2 0 2 4) ([0x44000, 0, 0, 0, 0x48000, 0, 0, 0x42000, 0, 0, 0, 1, 0, 0, 0, 0]) [1, 2]), by unfold Dev.entryRuns; decide +kernel, by decide +kernel, by decide +kernel, (fetched (collDev [] (collWords 1 2 0 2 4) ([0x44000, 0, 0, 0, 0x48000, 0, 0, 0x42000, 0, 0, 0, 1, 0, 0, 0, 0]) [1, 2]) (collWords 1 2 0 2 4)).1.getD [], (fetched2 (collDev [] (collWords 1 2 0 2 4) ([0x44000, 0, 0, 0, 0x48000, 0, 0, 0x42000, 0, 0, 0, 1, 0, 0, 0, 0]) [1, 2]) (collWords 1 2 0 2 4)).1.getD [], (fetched (collDev [] (collWords 1 2 0 2 4) ([0x44000, 0, 0, 0, 0x48000, 0, 0, 0x42000, 0, 0, 0, 1, 0, 0, 0, 0]) [1, 2]) (collWords 1 2 0 2 4)).2, (fetched2 (collDev [] (collWords 1 2 0 2 4) ([0x44000, 0, 0, 0, 0x48000, 0, 0, 0x42000, 0, 0, 0, 1, 0, 0, 0, 0]) [1, 2]) (collWords 1 2 0 2 4)).2, by decide +kernel, by decide +kernel, by decide +kernel, by decide +kernel, by decide +kernel⟩,
    ⟨base (collDev [] (collWords 1 2 0 2 0) ([0x44000, 0, 0, 0, 0x48000, 0, 0, 0x42000, 0, 0, 0, 0, 0, 0, 0, 0]) [1, 2]), 5, 9, opAllreduce, .allreduce 5 9, by unfold State.powered; decide +kernel, by decide +kernel, queue0, (fun d => entry0 tyCollective d false) (collWords 1 2 0 2 0), started (collDev [] (collWords 1 2 0 2 0) ([0x44000, 0, 0, 0, 0x48000, 0, 0, 0x42000, 0, 0, 0, 0, 0, 0, 0, 0]) [1, 2]), by unfold Dev.entryRuns; decide +kernel, by decide +kernel, by decide +kernel, (fetched (collDev [] (collWords 1 2 0 2 0) ([0x44000, 0, 0, 0, 0x48000, 0, 0, 0x42000, 0, 0, 0, 0, 0, 0, 0, 0]) [1, 2]) (collWords 1 2 0 2 0)).1.getD [], (fetched2 (collDev [] (collWords 1 2 0 2 0) ([0x44000, 0, 0, 0, 0x48000, 0, 0, 0x42000, 0, 0, 0, 0, 0, 0, 0, 0]) [1, 2]) (collWords 1 2 0 2 0)).1.getD [], (fetched (collDev [] (collWords 1 2 0 2 0) ([0x44000, 0, 0, 0, 0x48000, 0, 0, 0x42000, 0, 0, 0, 0, 0, 0, 0, 0]) [1, 2]) (collWords 1 2 0 2 0)).2, (fetched2 (collDev [] (collWords 1 2 0 2 0) ([0x44000, 0, 0, 0, 0x48000, 0, 0, 0x42000, 0, 0, 0, 0, 0, 0, 0, 0]) [1, 2]) (collWords 1 2 0 2 0)).2, by decide +kernel, by decide +kernel, by decide +kernel, by decide +kernel, by decide +kernel, by decide +kernel⟩,
    ⟨base (collDev [] (collWords 1 2 2 2 4) ([0x44000, 0, 0, 0, 0x48000, 0, 0, 0x42000, 0, 0, 0, 0, 0, 0, 0, 0]) [1, 2]), 5, 9, opAllreduce, .allreduce 5 9, by unfold State.powered; decide +kernel, by decide +kernel, queue0, (fun d => entry0 tyCollective d false) (collWords 1 2 2 2 4), started (collDev [] (collWords 1 2 2 2 4) ([0x44000, 0, 0, 0, 0x48000, 0, 0, 0x42000, 0, 0, 0, 0, 0, 0, 0, 0]) [1, 2]), by unfold Dev.entryRuns; decide +kernel, by decide +kernel, by decide +kernel, (fetched (collDev [] (collWords 1 2 2 2 4) ([0x44000, 0, 0, 0, 0x48000, 0, 0, 0x42000, 0, 0, 0, 0, 0, 0, 0, 0]) [1, 2]) (collWords 1 2 2 2 4)).1.getD [], (fetched2 (collDev [] (collWords 1 2 2 2 4) ([0x44000, 0, 0, 0, 0x48000, 0, 0, 0x42000, 0, 0, 0, 0, 0, 0, 0, 0]) [1, 2]) (collWords 1 2 2 2 4)).1.getD [], (fetched (collDev [] (collWords 1 2 2 2 4) ([0x44000, 0, 0, 0, 0x48000, 0, 0, 0x42000, 0, 0, 0, 0, 0, 0, 0, 0]) [1, 2]) (collWords 1 2 2 2 4)).2, (fetched2 (collDev [] (collWords 1 2 2 2 4) ([0x44000, 0, 0, 0, 0x48000, 0, 0, 0x42000, 0, 0, 0, 0, 0, 0, 0, 0]) [1, 2]) (collWords 1 2 2 2 4)).2, by decide +kernel, by decide +kernel, by decide +kernel, by decide +kernel, by decide +kernel, by decide +kernel, by decide +kernel⟩⟩

theorem witness_CollectivesAreCheckedQueuedAndStarted_2 :
    (∃ (s : State) (q seq op : Nat) (c : Instr), (s.powered) ∧ ((c, op) ∈ [(Instr.allreduce q seq, opAllreduce), (.reduceScatter q seq, opReduceScatter), (.broadcast q seq, opBroadcast)]) ∧ ∃ (x : Queue) (e : Entry) (d1 : Dev), (s.dev.entryRuns q seq tyCollective x e d1) ∧ let m := collDesc true e.desc; let g := e.engine % 2; (m.op = op ∨ (op = opAllreduce ∧ m.op ≠ opReduceScatter ∧ m.op ≠ opBroadcast)) ∧ (d1.hasColl q seq = false) ∧ ∃ (pb lb : List Byte) (d2 d3 : Dev), (d1.collDescOk m = true) ∧ (bit (d1.get (F.ARB_PART_SQ_MASK x.part)) g = true) ∧ (d1.sqFetch g x e m.param 128 = (some pb, d2)) ∧ let p := (List.range 16).map (leWord pb); (d2.sqFetch g x e (p.getD 7 0 % 2 ^ 56) (listBytes m * listCount m) = (some lb, d3)) ∧ let list := listWords m lb; let shape := collShape (d3.on F.GTE_ID_RANKED) m; (d3.collBlockOk true m p list = true) ∧ (collEmpty m p = false) ∧ ∃ (ext : List Extent) (d4 : Dev), (shape.1 = stOk) ∧ (Dev.obtainAll ((collRegions d3.rank m p list).map (sqWaiter g x e)) d3 = (.ok ext, d4)) ∧ ((d4.collErr m p ext).1 ≠ stOk)) ∧
    (∃ (s : State) (q seq op : Nat) (c : Instr), (s.powered) ∧ ((c, op) ∈ [(Instr.allreduce q seq, opAllreduce), (.reduceScatter q seq, opReduceScatter), (.broadcast q seq, opBroadcast)]) ∧ ∃ (x : Queue) (e : Entry) (d1 : Dev), (s.dev.entryRuns q seq tyCollective x e d1) ∧ let m := collDesc true e.desc; let g := e.engine % 2; (m.op = op ∨ (op = opAllreduce ∧ m.op ≠ opReduceScatter ∧ m.op ≠ opBroadcast)) ∧ (d1.hasColl q seq = false) ∧ ∃ (pb lb : List Byte) (d2 d3 : Dev), (d1.collDescOk m = true) ∧ (bit (d1.get (F.ARB_PART_SQ_MASK x.part)) g = true) ∧ (d1.sqFetch g x e m.param 128 = (some pb, d2)) ∧ let p := (List.range 16).map (leWord pb); (d2.sqFetch g x e (p.getD 7 0 % 2 ^ 56) (listBytes m * listCount m) = (some lb, d3)) ∧ let list := listWords m lb; let shape := collShape (d3.on F.GTE_ID_RANKED) m; (d3.collBlockOk true m p list = true) ∧ (collEmpty m p = false) ∧ ∃ (ext : List Extent) (d4 : Dev), (shape.1 = stOk) ∧ (Dev.obtainAll ((collRegions d3.rank m p list).map (sqWaiter g x e)) d3 = (.ok ext, d4)) ∧ ((d4.collErr m p ext).1 = stOk) ∧ ((d4.collPlace m list).1 ≠ stOk)) ∧
    (∃ (s : State) (q seq op : Nat) (c : Instr), (s.powered) ∧ ((c, op) ∈ [(Instr.allreduce q seq, opAllreduce), (.reduceScatter q seq, opReduceScatter), (.broadcast q seq, opBroadcast)]) ∧ ∃ (x : Queue) (e : Entry) (d1 : Dev), (s.dev.entryRuns q seq tyCollective x e d1) ∧ let m := collDesc true e.desc; let g := e.engine % 2; (m.op = op ∨ (op = opAllreduce ∧ m.op ≠ opReduceScatter ∧ m.op ≠ opBroadcast)) ∧ (d1.hasColl q seq = false) ∧ ∃ (pb lb : List Byte) (d2 d3 : Dev), (d1.collDescOk m = true) ∧ (bit (d1.get (F.ARB_PART_SQ_MASK x.part)) g = true) ∧ (d1.sqFetch g x e m.param 128 = (some pb, d2)) ∧ let p := (List.range 16).map (leWord pb); (d2.sqFetch g x e (p.getD 7 0 % 2 ^ 56) (listBytes m * listCount m) = (some lb, d3)) ∧ let list := listWords m lb; let shape := collShape (d3.on F.GTE_ID_RANKED) m; (d3.collBlockOk true m p list = true) ∧ (collEmpty m p = false) ∧ ∃ (ext : List Extent) (d4 : Dev), (shape.1 = stOk) ∧ (Dev.obtainAll ((collRegions d3.rank m p list).map (sqWaiter g x e)) d3 = (.ok ext, d4)) ∧ ∃ d5 : Dev, ((d4.collErr m p ext).1 = stOk) ∧ ((d4.collPlace m list).1 = stOk) ∧ (Dev.holdAll (holderSquare g) x.root ((collRegions d3.rank m p list).map fun r => (r.1, r.2.1)) d4 = some d5)) ∧
    (∃ (s : State) (g : Fin 2), (s.powered) ∧ ((s.dev.sq g).waiting = [])) ∧
    (∃ (s : State) (g : Fin 2), (s.powered) ∧ ∃ (c : Coll) (rest : List Coll), ((s.dev.sq g).waiting = c :: rest) ∧ (16 ≤ (s.dev.sq g).running.length ∨ s.dev.collWaits c = true)) ∧
    (∃ (s : State) (g : Fin 2), (s.powered) ∧ ∃ (c : Coll) (rest : List Coll), ((s.dev.sq g).waiting = c :: rest) ∧ ((s.dev.sq g).running.length < 16) ∧ (s.dev.collWaits c = false) ∧ (c.queue.isSome = true) ∧ (c.m.op ≠ opBroadcast) ∧ (c.m.ranks ≠ 1) ∧ (s.dev.lacksTo (c.prim (c.m.succ c.slot)) [ftGateSquare] = true)) ∧
    (∃ (s : State) (g : Fin 2), (s.powered) ∧ ∃ (c : Coll) (rest : List Coll), ((s.dev.sq g).waiting = c :: rest) ∧ ((s.dev.sq g).running.length < 16) ∧ (s.dev.collWaits c = false) ∧ (c.queue.isSome = true) ∧ ((s.dev.sq g).running.any (Coll.same c) = false) ∧ (c.fail = none) ∧ (c.m.op = opBroadcast) ∧ (s.dev.isRoot c = false) ∧ (bits (c.p 14) 39 24 = 0) ∧ (c.manifest = [])) :=
  ⟨⟨base (collDev [] (collWords 1 1 0 2 4) ([0x44000, 0, 0, 0, 0x48000, 0x49001, 0x4A000, 0x42000, 0, 0, 0, 0, 0, 0, 0, 0]) [1, 2]), 5, 9, opAllreduce, .allreduce 5 9, by unfold State.powered; decide +kernel, by decide +kernel, queue0, (fun d => entry0 tyCollective d false) (collWords 1 1 0 2 4), started (collDev [] (collWords 1 1 0 2 4) ([0x44000, 0, 0, 0, 0x48000, 0x49001, 0x4A000, 0x42000, 0, 0, 0, 0, 0, 0, 0, 0]) [1, 2]), by unfold Dev.entryRuns; decide +kernel, by decide +kernel, by decide +kernel, (fetched (collDev [] (collWords 1 1 0 2 4) ([0x44000, 0, 0, 0, 0x48000, 0x49001, 0x4A000, 0x42000, 0, 0, 0, 0, 0, 0, 0, 0]) [1, 2]) (collWords 1 1 0 2 4)).1.getD [], (fetched2 (collDev [] (collWords 1 1 0 2 4) ([0x44000, 0, 0, 0, 0x48000, 0x49001, 0x4A000, 0x42000, 0, 0, 0, 0, 0, 0, 0, 0]) [1, 2]) (collWords 1 1 0 2 4)).1.getD [], (fetched (collDev [] (collWords 1 1 0 2 4) ([0x44000, 0, 0, 0, 0x48000, 0x49001, 0x4A000, 0x42000, 0, 0, 0, 0, 0, 0, 0, 0]) [1, 2]) (collWords 1 1 0 2 4)).2, (fetched2 (collDev [] (collWords 1 1 0 2 4) ([0x44000, 0, 0, 0, 0x48000, 0x49001, 0x4A000, 0x42000, 0, 0, 0, 0, 0, 0, 0, 0]) [1, 2]) (collWords 1 1 0 2 4)).2, by decide +kernel, by decide +kernel, by decide +kernel, by decide +kernel, by decide +kernel, by decide +kernel, extentsOf (bindings (collDev [] (collWords 1 1 0 2 4) ([0x44000, 0, 0, 0, 0x48000, 0x49001, 0x4A000, 0x42000, 0, 0, 0, 0, 0, 0, 0, 0]) [1, 2]) (collWords 1 1 0 2 4) ([0x44000, 0, 0, 0, 0x48000, 0x49001, 0x4A000, 0x42000, 0, 0, 0, 0, 0, 0, 0, 0]) [1, 2]), (bindings (collDev [] (collWords 1 1 0 2 4) ([0x44000, 0, 0, 0, 0x48000, 0x49001, 0x4A000, 0x42000, 0, 0, 0, 0, 0, 0, 0, 0]) [1, 2]) (collWords 1 1 0 2 4) ([0x44000, 0, 0, 0, 0x48000, 0x49001, 0x4A000, 0x42000, 0, 0, 0, 0, 0, 0, 0, 0]) [1, 2]).2, by decide +kernel, by decide +kernel, by decide +kernel⟩,
    ⟨base (collDev [] (collWords 1 2 0 2 4) ([0x44000, 0, 0, 0, 0x48000, 0, 0, 0x42000, 0, 0, 0, 0, 0, 0, 0, 0]) [3, 2]), 5, 9, opAllreduce, .allreduce 5 9, by unfold State.powered; decide +kernel, by decide +kernel, queue0, (fun d => entry0 tyCollective d false) (collWords 1 2 0 2 4), started (collDev [] (collWords 1 2 0 2 4) ([0x44000, 0, 0, 0, 0x48000, 0, 0, 0x42000, 0, 0, 0, 0, 0, 0, 0, 0]) [3, 2]), by unfold Dev.entryRuns; decide +kernel, by decide +kernel, by decide +kernel, (fetched (collDev [] (collWords 1 2 0 2 4) ([0x44000, 0, 0, 0, 0x48000, 0, 0, 0x42000, 0, 0, 0, 0, 0, 0, 0, 0]) [3, 2]) (collWords 1 2 0 2 4)).1.getD [], (fetched2 (collDev [] (collWords 1 2 0 2 4) ([0x44000, 0, 0, 0, 0x48000, 0, 0, 0x42000, 0, 0, 0, 0, 0, 0, 0, 0]) [3, 2]) (collWords 1 2 0 2 4)).1.getD [], (fetched (collDev [] (collWords 1 2 0 2 4) ([0x44000, 0, 0, 0, 0x48000, 0, 0, 0x42000, 0, 0, 0, 0, 0, 0, 0, 0]) [3, 2]) (collWords 1 2 0 2 4)).2, (fetched2 (collDev [] (collWords 1 2 0 2 4) ([0x44000, 0, 0, 0, 0x48000, 0, 0, 0x42000, 0, 0, 0, 0, 0, 0, 0, 0]) [3, 2]) (collWords 1 2 0 2 4)).2, by decide +kernel, by decide +kernel, by decide +kernel, by decide +kernel, by decide +kernel, by decide +kernel, extentsOf (bindings (collDev [] (collWords 1 2 0 2 4) ([0x44000, 0, 0, 0, 0x48000, 0, 0, 0x42000, 0, 0, 0, 0, 0, 0, 0, 0]) [3, 2]) (collWords 1 2 0 2 4) ([0x44000, 0, 0, 0, 0x48000, 0, 0, 0x42000, 0, 0, 0, 0, 0, 0, 0, 0]) [3, 2]), (bindings (collDev [] (collWords 1 2 0 2 4) ([0x44000, 0, 0, 0, 0x48000, 0, 0, 0x42000, 0, 0, 0, 0, 0, 0, 0, 0]) [3, 2]) (collWords 1 2 0 2 4) ([0x44000, 0, 0, 0, 0x48000, 0, 0, 0x42000, 0, 0, 0, 0, 0, 0, 0, 0]) [3, 2]).2, by decide +kernel, by decide +kernel, by decide +kernel, by decide +kernel⟩,
    ⟨base (collDev [] (collWords 1 2 0 2 4) ([0x44000, 0, 0, 0, 0x48000, 0, 0, 0x42000, 0, 0, 0, 0, 0, 0, 0, 0]) [1, 2]), 5, 9, opAllreduce, .allreduce 5 9, by unfold State.powered; decide +kernel, by decide +kernel, queue0, (fun d => entry0 tyCollective d false) (collWords 1 2 0 2 4), started (collDev [] (collWords 1 2 0 2 4) ([0x44000, 0, 0, 0, 0x48000, 0, 0, 0x42000, 0, 0, 0, 0, 0, 0, 0, 0]) [1, 2]), by unfold Dev.entryRuns; decide +kernel, by decide +kernel, by decide +kernel, (fetched (collDev [] (collWords 1 2 0 2 4) ([0x44000, 0, 0, 0, 0x48000, 0, 0, 0x42000, 0, 0, 0, 0, 0, 0, 0, 0]) [1, 2]) (collWords 1 2 0 2 4)).1.getD [], (fetched2 (collDev [] (collWords 1 2 0 2 4) ([0x44000, 0, 0, 0, 0x48000, 0, 0, 0x42000, 0, 0, 0, 0, 0, 0, 0, 0]) [1, 2]) (collWords 1 2 0 2 4)).1.getD [], (fetched (collDev [] (collWords 1 2 0 2 4) ([0x44000, 0, 0, 0, 0x48000, 0, 0, 0x42000, 0, 0, 0, 0, 0, 0, 0, 0]) [1, 2]) (collWords 1 2 0 2 4)).2, (fetched2 (collDev [] (collWords 1 2 0 2 4) ([0x44000, 0, 0, 0, 0x48000, 0, 0, 0x42000, 0, 0, 0, 0, 0, 0, 0, 0]) [1, 2]) (collWords 1 2 0 2 4)).2, by decide +kernel, by decide +kernel, by decide +kernel, by decide +kernel, by decide +kernel, by decide +kernel, extentsOf (bindings (collDev [] (collWords 1 2 0 2 4) ([0x44000, 0, 0, 0, 0x48000, 0, 0, 0x42000, 0, 0, 0, 0, 0, 0, 0, 0]) [1, 2]) (collWords 1 2 0 2 4) ([0x44000, 0, 0, 0, 0x48000, 0, 0, 0x42000, 0, 0, 0, 0, 0, 0, 0, 0]) [1, 2]), (bindings (collDev [] (collWords 1 2 0 2 4) ([0x44000, 0, 0, 0, 0x48000, 0, 0, 0x42000, 0, 0, 0, 0, 0, 0, 0, 0]) [1, 2]) (collWords 1 2 0 2 4) ([0x44000, 0, 0, 0, 0x48000, 0, 0, 0x42000, 0, 0, 0, 0, 0, 0, 0, 0]) [1, 2]).2, by decide +kernel, by decide +kernel, heldAll (collDev [] (collWords 1 2 0 2 4) ([0x44000, 0, 0, 0, 0x48000, 0, 0, 0x42000, 0, 0, 0, 0, 0, 0, 0, 0]) [1, 2]) (collWords 1 2 0 2 4) ([0x44000, 0, 0, 0, 0x48000, 0, 0, 0x42000, 0, 0, 0, 0, 0, 0, 0, 0]) [1, 2], by decide +kernel, by decide +kernel, by decide +kernel⟩,
    ⟨(base Dev.reset), 1, by unfold State.powered; decide +kernel, by decide +kernel⟩,
    ⟨base (squareDev [] 1 [collective 1 2 2 4 0] (List.replicate 16 (collective 1 2 1 4 0))), 1, by unfold State.powered; decide +kernel, collective 1 2 2 4 0, [], by decide +kernel, by decide +kernel⟩,
    ⟨base (squareDev [(F.GTE_PFEAT_BITS 5 0, 0), (F.GTE_PFEAT_BITS 5 1, 0)] 1 [collective 1 2 2 4 0] []), 1, by unfold State.powered; decide +kernel, collective 1 2 2 4 0, [], by decide +kernel, by decide +kernel, by decide +kernel, by decide +kernel, by decide +kernel, by decide +kernel, by decide +kernel⟩,
    ⟨base (squareDev [] 1 [({ collective 3 0 2 0 0 with list := [2 ^ 50 + 2 * 2 ^ 36 + 3 * 2 ^ 22, 2 * 2 ^ 50 + 2 ^ 21] })] []), 1, by unfold State.powered; decide +kernel, ({ collective 3 0 2 0 0 with list := [2 ^ 50 + 2 * 2 ^ 36 + 3 * 2 ^ 22, 2 * 2 ^ 50 + 2 ^ 21] }), [], by decide +kernel, by decide +kernel, by decide +kernel, by decide +kernel, by decide +kernel, by decide +kernel, by decide +kernel, by decide +kernel, by decide +kernel, by decide +kernel⟩⟩

theorem witness_CollectivesAreCheckedQueuedAndStarted_3 :
    (∃ (s : State) (g : Fin 2), (s.powered) ∧ ∃ (c : Coll) (rest : List Coll), ((s.dev.sq g).waiting = c :: rest) ∧ ((s.dev.sq g).running.length < 16) ∧ (s.dev.collWaits c = false) ∧ (c.queue.isSome = true) ∧ ((s.dev.sq g).running.any (Coll.same c) = false) ∧ (c.fail = none) ∧ ∃ (q : Nat) (cross : Bool), let pre := c.m.pred c.slot; let blocks := c.m.shard pre; let frame := frameOf ⟨c.id, c.m.lo pre, fkExponent, 0, c.slot, blocks.length⟩ (expBody (blocks.map fun b => (b, ⟨[], s.dev.propose c b, 0, false⟩))); (c.m.fmt = fmBsi) ∧ (c.m.op ≠ opBroadcast) ∧ (c.m.ranks ≠ 1) ∧ (c.bak (c.m.succ c.slot) = none) ∧ (c.reducing = false) ∧ (c.ownDone = false) ∧ (blocks ≠ []) ∧ (blocks.length ≤ 4064) ∧ (s.dev.lacksTo (c.prim (c.m.succ c.slot)) [ftGateSquare] = false) ∧ ((collIn (List.range c.m.blocks) false (c, s.dev)).1.fail = none) ∧ ((collIn blocks false (c, s.dev)).1.fail = none) ∧ (s.dev.reqLeaves ptSquare (c.prim (c.m.succ c.slot)) frame.length q cross)) ∧
    (∃ (s : State) (p : Fin 8) (g : Fin 2) (r : SlotRef) (sl : Slot) (im : Image), (s.powered) ∧ (s.dev.slotStarts p engSquare g opCollective r sl) ∧ ((s.dev.part p).running = some im) ∧ let desc := s.dev.imageDesc p sl.desc; let m := collDesc false desc; (m.blocks = 0 ∨ m.op = opBroadcast) ∧ True) ∧
    (∃ (s : State) (p : Fin 8) (g : Fin 2) (r : SlotRef) (sl : Slot) (im : Image), (s.powered) ∧ (s.dev.slotStarts p engSquare g opCollective r sl) ∧ ((s.dev.part p).running = some im) ∧ let desc := s.dev.imageDesc p sl.desc; let m := collDesc false desc; ∃ c : Coll, (m.blocks ≠ 0) ∧ (m.op ≠ opBroadcast) ∧ (((s.dev.sq g).running.find? fun k => k.id == m.id && k.queue.isNone) = some c) ∧ (c.desc = desc) ∧ (s.dev.collWaits c = true)) ∧
    (∃ (s : State) (p : Fin 8) (g : Fin 2) (r : SlotRef) (sl : Slot) (im : Image), (s.powered) ∧ (s.dev.slotStarts p engSquare g opCollective r sl) ∧ ((s.dev.part p).running = some im) ∧ let desc := s.dev.imageDesc p sl.desc; let m := collDesc false desc; ∃ c : Coll, (m.blocks ≠ 0) ∧ (m.op ≠ opBroadcast) ∧ (((s.dev.sq g).running.find? fun k => k.id == m.id && k.queue.isNone) = some c) ∧ (c.desc = desc) ∧ let next := routeOf (im.routes.getD m.routeNext []); (s.dev.collWaits c = false) ∧ (m.ranks ≠ 1) ∧ (s.dev.sqLacks next = true)) ∧
    (∃ (s : State) (p : Fin 8) (g : Fin 2) (r : SlotRef) (sl : Slot) (im : Image), (s.powered) ∧ (s.dev.slotStarts p engSquare g opCollective r sl) ∧ ((s.dev.part p).running = some im) ∧ let desc := s.dev.imageDesc p sl.desc; let m := collDesc false desc; ∃ c : Coll, (m.blocks ≠ 0) ∧ (m.op ≠ opBroadcast) ∧ (((s.dev.sq g).running.find? fun k => k.id == m.id && k.queue.isNone) = some c) ∧ (c.desc = desc) ∧ let next := routeOf (im.routes.getD m.routeNext []); ∃ q : Nat, let blocks := m.chunk (m.pred c.slot); let stamp := (s.dev.get F.TCK_TN_TN + sl.delta) % 2 ^ 16; let frame := frameOf ⟨c.id, blocks.headD 0, fkExponent, 0, c.slot, blocks.length⟩ (expBody (blocks.map fun b => (b, ⟨[], s.dev.propose c b, 0, false⟩))); (s.dev.collWaits c = false) ∧ (m.ranks ≠ 1) ∧ (s.dev.sqLacks next = false) ∧ (c.begun = true) ∧ (c.resting) ∧ (m.fmt = fmBsi) ∧ (c.reducing = false) ∧ (m.phase = 0) ∧ (m.step = 0) ∧ (m.routeB = 0x3FF) ∧ (blocks ≠ []) ∧ (blocks.length ≤ 4064) ∧ ((collIn blocks false (c, s.dev)).1.fail = none) ∧ (s.dev.laterRound p g r.slot m.id = true) ∧ (s.dev.gate.waiting = []) ∧ (s.dev.outPort (next.ports % 16) none = some q) ∧ ((∀ addr : Nat, s.dev.mayTransmit q (⟨ptSquare, 0, true, next.dest, s.dev.rank, stamp, frame.length, addr, next.hops - 1, next.ports / 16⟩ : Hdr).code frame.length = true))) ∧
    (∃ (s : State) (p : Fin 8) (g : Fin 2) (r : SlotRef) (sl : Slot) (im : Image), (s.powered) ∧ (s.dev.slotStarts p engSquare g opCollective r sl) ∧ ((s.dev.part p).running = some im) ∧ let desc := s.dev.imageDesc p sl.desc; let m := collDesc false desc; ∃ c : Coll, (m.blocks ≠ 0) ∧ (m.op ≠ opBroadcast) ∧ (((s.dev.sq g).running.find? fun k => k.id == m.id && k.queue.isNone) = some c) ∧ (c.desc = desc) ∧ (s.dev.collWaits c = false) ∧ (m.ranks = 1) ∧ (c.begun = true) ∧ (c.fail = none) ∧ (c.ownDone = true) ∧ (m.fmt ≠ fmBsi ∨ c.reducing = true) ∧ (s.dev.laterRound p g r.slot m.id = false)) :=
  ⟨⟨base (squareDev [] 1 [({ collective 1 0 2 4 0 with reducing := false })] []), 1, by unfold State.powered; decide +kernel, ({ collective 1 0 2 4 0 with reducing := false }), [], by decide +kernel, by decide +kernel, by decide +kernel, by decide +kernel, by decide +kernel, by decide +kernel, 5, false, by decide +kernel, by decide +kernel, by decide +kernel, by decide +kernel, by decide +kernel, by decide +kernel, by decide +kernel, by decide +kernel, by decide +kernel, by decide +kernel, by decide +kernel, (⟨by decide +kernel, by decide +kernel, by decide +kernel, ⟨0, 0, by decide +kernel, by decide +kernel⟩, fun _ => mayTransmit_of _ _ _ _ (by decide +kernel) (by decide +kernel)⟩)⟩,
    ⟨base (roundDev [] ([2 ^ 56, 2 * 2 ^ 16, 77, 0, 0x3FF * 2 ^ 44, 0]) 1 []), 2, 0, ⟨2, engSquare, 0, 0⟩, (⟨100, opCollective * 2 ^ 56 + 0xFFFF * 2 ^ 40, 0, 0⟩), roundImage ([2 ^ 56, 2 * 2 ^ 16, 77, 0, 0x3FF * 2 ^ 44, 0]) 1, by unfold State.powered; decide +kernel, by unfold Dev.slotStarts; decide +kernel, by decide +kernel, by decide +kernel, trivial⟩,
    ⟨base (roundDev [] ([2 ^ 56, 4 * 2 ^ 32 + 2 * 2 ^ 16, 77, 0, 0x3FF * 2 ^ 44, 2 * 2 ^ 32]) 1 [({ collective 1 0 2 4 0 with queue := none, part := 2, desc := words ([2 ^ 56, 4 * 2 ^ 32 + 2 * 2 ^ 16, 77, 0, 0x3FF * 2 ^ 44, 2 * 2 ^ 32]), ranges := [(0x40000, 64)], ext := [⟨0x40000, 64, hostBase, 7⟩] })]), 2, 0, ⟨2, engSquare, 0, 0⟩, (⟨100, opCollective * 2 ^ 56 + 0xFFFF * 2 ^ 40, 0, 0⟩), roundImage ([2 ^ 56, 4 * 2 ^ 32 + 2 * 2 ^ 16, 77, 0, 0x3FF * 2 ^ 44, 2 * 2 ^ 32]) 1, by unfold State.powered; decide +kernel, by unfold Dev.slotStarts; decide +kernel, by decide +kernel, ({ collective 1 0 2 4 0 with queue := none, part := 2, desc := words ([2 ^ 56, 4 * 2 ^ 32 + 2 * 2 ^ 16, 77, 0, 0x3FF * 2 ^ 44, 2 * 2 ^ 32]), ranges := [(0x40000, 64)], ext := [⟨0x40000, 64, hostBase, 7⟩] }), by decide +kernel, by decide +kernel, by decide +kernel, by decide +kernel, by decide +kernel⟩,
    ⟨base (roundDev [(F.GTE_PFEAT_BITS 5 0, 0), (F.GTE_PFEAT_BITS 5 1, 0)] ([2 ^ 56, 4 * 2 ^ 32 + 2 * 2 ^ 16, 77, 0, 0x3FF * 2 ^ 44, 2 * 2 ^ 32]) 1 [(fun d => { collective 1 0 2 4 0 with queue := none, part := 2, desc := words d, reducing := false }) ([2 ^ 56, 4 * 2 ^ 32 + 2 * 2 ^ 16, 77, 0, 0x3FF * 2 ^ 44, 2 * 2 ^ 32])]), 2, 0, ⟨2, engSquare, 0, 0⟩, (⟨100, opCollective * 2 ^ 56 + 0xFFFF * 2 ^ 40, 0, 0⟩), roundImage ([2 ^ 56, 4 * 2 ^ 32 + 2 * 2 ^ 16, 77, 0, 0x3FF * 2 ^ 44, 2 * 2 ^ 32]) 1, by unfold State.powered; decide +kernel, by unfold Dev.slotStarts; decide +kernel, by decide +kernel, (fun d => { collective 1 0 2 4 0 with queue := none, part := 2, desc := words d, reducing := false }) ([2 ^ 56, 4 * 2 ^ 32 + 2 * 2 ^ 16, 77, 0, 0x3FF * 2 ^ 44, 2 * 2 ^ 32]), by decide +kernel, by decide +kernel, by decide +kernel, by decide +kernel, by decide +kernel, by decide +kernel, by decide +kernel⟩,
    ⟨base (roundDev [] ([2 ^ 56, 4 * 2 ^ 32 + 2 * 2 ^ 16, 77, 0, 0x3FF * 2 ^ 44, 2 * 2 ^ 32]) 2 [(fun d => { collective 1 0 2 4 0 with queue := none, part := 2, desc := words d, reducing := false }) ([2 ^ 56, 4 * 2 ^ 32 + 2 * 2 ^ 16, 77, 0, 0x3FF * 2 ^ 44, 2 * 2 ^ 32])]), 2, 0, ⟨2, engSquare, 0, 0⟩, (⟨100, opCollective * 2 ^ 56 + 0xFFFF * 2 ^ 40, 0, 0⟩), roundImage ([2 ^ 56, 4 * 2 ^ 32 + 2 * 2 ^ 16, 77, 0, 0x3FF * 2 ^ 44, 2 * 2 ^ 32]) 2, by unfold State.powered; decide +kernel, by unfold Dev.slotStarts; decide +kernel, by decide +kernel, (fun d => { collective 1 0 2 4 0 with queue := none, part := 2, desc := words d, reducing := false }) ([2 ^ 56, 4 * 2 ^ 32 + 2 * 2 ^ 16, 77, 0, 0x3FF * 2 ^ 44, 2 * 2 ^ 32]), by decide +kernel, by decide +kernel, by decide +kernel, by decide +kernel, 5, by decide +kernel, by decide +kernel, by decide +kernel, by decide +kernel, (⟨by decide +kernel, by decide +kernel, by decide +kernel, Or.inl (by decide +kernel), Or.inr (Or.inr ⟨0, by decide +kernel⟩)⟩), by decide +kernel, by decide +kernel, by decide +kernel, by decide +kernel, by decide +kernel, by decide +kernel, by decide +kernel, by decide +kernel, by decide +kernel, by decide +kernel, by decide +kernel, fun _ => mayTransmit_of _ _ _ _ (by decide +kernel) (by decide +kernel)⟩,
    ⟨base (roundDev [] ([2 ^ 56, 4 * 2 ^ 32 + 1 * 2 ^ 16, 77, 0, 0x3FF * 2 ^ 44, 2 * 2 ^ 32]) 1 [{ (fun d => { collective 1 0 2 4 0 with queue := none, part := 2, desc := words d, reducing := false }) ([2 ^ 56, 4 * 2 ^ 32 + 1 * 2 ^ 16, 77, 0, 0x3FF * 2 ^ 44, 2 * 2 ^ 32]) with ownDone := true, reducing := true }]), 2, 0, ⟨2, engSquare, 0, 0⟩, (⟨100, opCollective * 2 ^ 56 + 0xFFFF * 2 ^ 40, 0, 0⟩), roundImage ([2 ^ 56, 4 * 2 ^ 32 + 1 * 2 ^ 16, 77, 0, 0x3FF * 2 ^ 44, 2 * 2 ^ 32]) 1, by unfold State.powered; decide +kernel, by unfold Dev.slotStarts; decide +kernel, by decide +kernel, { (fun d => { collective 1 0 2 4 0 with queue := none, part := 2, desc := words d, reducing := false }) ([2 ^ 56, 4 * 2 ^ 32 + 1 * 2 ^ 16, 77, 0, 0x3FF * 2 ^ 44, 2 * 2 ^ 32]) with ownDone := true, reducing := true }, by decide +kernel, by decide +kernel, by decide +kernel, by decide +kernel, by decide +kernel, by decide +kernel, by decide +kernel, by decide +kernel, by decide +kernel, by decide +kernel, by decide +kernel⟩⟩

/-! ### Witnesses: Square frames and broadcasts -/

/-- An EXPONENT, DENSE, FP32, ONEBIT frame of one block. -/
def expFrame (first slot : Nat) : List Byte := frame77 first fkExponent slot 1 [5]
def denseFrame (first : Nat) : List Byte := frame77 first fkDense 1 1 (List.replicate 136 0)
def floatFrame (first : Nat) : List Byte := frame77 first fkFp32 1 1 (List.replicate 128 0)
def bitFrame (first : Nat) : List Byte := frame77 first fkOnebit 1 1 (List.replicate 12 0)

/-- A frame whose last byte is wrong. -/
def spoilt (f : List Byte) : List Byte := f.dropLast ++ [1]

/-- The collective of four blocks in a format, with or without agreed exponents. -/
def ofFormat (fmt : Nat) (reducing : Bool) : Coll := { collective 1 fmt 2 4 0 with reducing := reducing }

/-- A device that runs it. -/
def runs1 (c : Coll) : State := base (squareDev [] 0 [] [c])

/-- A tree table: rank 1 under rank 2 with alternate 3; rank 2 the root. -/
def leafList : List Nat := [2 ^ 50 + 2 * 2 ^ 36 + 3 * 2 ^ 22, 2 * 2 ^ 50 + 2 ^ 21]

/-- A tree table whose root is rank 1, with child rank 2. -/
def rootList : List Nat := [2 ^ 50 + 2 ^ 21, 2 * 2 ^ 50 + 2 ^ 36 + 2 ^ 22]

/-- A running broadcast. -/
def broadcastOf (list : List Nat) : Coll := { collective 3 0 2 0 0 with list := list, parent := 2 }

/-- A tree packet from a rank. -/
def treePacket (ptype src len addr : Nat) : Hdr := { fromTwo ptype 7 len addr with src := src }

/-- A manifest of one segment. -/
def manifest1 : List Byte := leBytes 4 0x4C534D46 ++ leBytes 4 1 ++ leBytes 8 100 ++ List.replicate 48 0

/-- A broadcast whose parameter block names the manifest's digest. -/
def verified : Coll :=
  { broadcastOf leafList with params := [0, 0, 0, 0, 0x48000, 0, 0, 0] ++ ((List.range 6).map fun k => leNat (((sha384 manifest1).drop (8 * k)).take 8)) ++ [0, 0] }

theorem witness_SquareFramesAreTaken :
    (∃ (s : State) (p : Fin 12) (hdr : Header) (frame : List Byte) (c : Instr) (kind : Nat), (s.powered) ∧ ((c, kind) ∈ [(Instr.exponentFrame p hdr frame, fkExponent), (.bsiDenseFrame p hdr frame, fkDense), (.bsiSparseFrame p hdr frame, fkSparse), (.flaglistFrame p hdr frame, fkFlaglist), (.fp32Frame p hdr frame, fkFp32), (.onebitFrame p hdr frame, fkOnebit), (.finalFrame p hdr frame, fkFinal)]) ∧ (s.dev.delivered p hdr.toNat ptSquare = none)) ∧
    (∃ (s : State) (p : Fin 12) (hdr : Header) (frame : List Byte) (c : Instr) (kind : Nat), (s.powered) ∧ ((c, kind) ∈ [(Instr.exponentFrame p hdr frame, fkExponent), (.bsiDenseFrame p hdr frame, fkDense), (.bsiSparseFrame p hdr frame, fkSparse), (.flaglistFrame p hdr frame, fkFlaglist), (.fp32Frame p hdr frame, fkFp32), (.onebitFrame p hdr frame, fkOnebit), (.finalFrame p hdr frame, fkFinal)]) ∧ ∃ h : Hdr, (s.dev.delivered p hdr.toNat ptSquare = some h) ∧ (h.fixed = true) ∧ (s.dev.admits p h.src = true) ∧ (h.dst = s.dev.rank) ∧ (2 ^ 15 ≤ (h.tag + 2 ^ 16 - s.dev.get F.TCK_TN_TN % 2 ^ 16) % 2 ^ 16)) ∧
    (∃ (s : State) (p : Fin 12) (hdr : Header) (frame : List Byte) (c : Instr) (kind : Nat), (s.powered) ∧ ((c, kind) ∈ [(Instr.exponentFrame p hdr frame, fkExponent), (.bsiDenseFrame p hdr frame, fkDense), (.bsiSparseFrame p hdr frame, fkSparse), (.flaglistFrame p hdr frame, fkFlaglist), (.fp32Frame p hdr frame, fkFp32), (.onebitFrame p hdr frame, fkOnebit), (.finalFrame p hdr frame, fkFinal)]) ∧ ∃ h : Hdr, (s.dev.takesRequest p hdr.toNat ptSquare ftGateSquare h) ∧ (h.fixed = false) ∧ (frame.length = h.len) ∧ (s.dev.findColl (frameHdr frame).id = none)) ∧
    (∃ (s : State) (p : Fin 12) (hdr : Header) (frame : List Byte) (c : Instr) (kind : Nat), (s.powered) ∧ ((c, kind) ∈ [(Instr.exponentFrame p hdr frame, fkExponent), (.bsiDenseFrame p hdr frame, fkDense), (.bsiSparseFrame p hdr frame, fkSparse), (.flaglistFrame p hdr frame, fkFlaglist), (.fp32Frame p hdr frame, fkFp32), (.onebitFrame p hdr frame, fkOnebit), (.finalFrame p hdr frame, fkFinal)]) ∧ ∃ h : Hdr, (s.dev.takesRequest p hdr.toNat ptSquare ftGateSquare h) ∧ (h.fixed = false) ∧ (frame.length = h.len) ∧ ∃ (g : Nat) (k : Coll), (s.dev.findColl (frameHdr frame).id = some (g, k)) ∧ ((frameHdr frame).kind ≠ kind ∨ frameOk k.m.outBytes frame = false ∨ k.expects h.src frame = false)) ∧
    (∃ (s : State) (p : Fin 12) (hdr : Header) (frame : List Byte) (c : Instr) (kind : Nat), (s.powered) ∧ ((c, kind) ∈ [(Instr.exponentFrame p hdr frame, fkExponent), (.bsiDenseFrame p hdr frame, fkDense), (.bsiSparseFrame p hdr frame, fkSparse), (.flaglistFrame p hdr frame, fkFlaglist), (.fp32Frame p hdr frame, fkFp32), (.onebitFrame p hdr frame, fkOnebit), (.finalFrame p hdr frame, fkFinal)]) ∧ ∃ h : Hdr, (s.dev.takesRequest p hdr.toNat ptSquare ftGateSquare h) ∧ (h.fixed = false) ∧ (frame.length = h.len) ∧ ∃ (g : Nat) (k : Coll), (s.dev.findColl (frameHdr frame).id = some (g, k)) ∧ (s.dev.takesFrame p hdr.toNat kind frame h g k) ∧ (frameSumsOk frame = false)) ∧
    (∃ (s : State) (p : Fin 12) (hdr : Header) (frame : List Byte) (c : Instr) (kind : Nat), (s.powered) ∧ ((c, kind) ∈ [(Instr.exponentFrame p hdr frame, fkExponent), (.bsiDenseFrame p hdr frame, fkDense), (.bsiSparseFrame p hdr frame, fkSparse), (.flaglistFrame p hdr frame, fkFlaglist), (.fp32Frame p hdr frame, fkFp32), (.onebitFrame p hdr frame, fkOnebit), (.finalFrame p hdr frame, fkFinal)]) ∧ ∃ h : Hdr, (s.dev.takesRequest p hdr.toNat ptSquare ftGateSquare h) ∧ (h.fixed = false) ∧ (frame.length = h.len) ∧ ∃ (g : Nat) (k : Coll), (s.dev.findColl (frameHdr frame).id = some (g, k)) ∧ (s.dev.takesFrame p hdr.toNat kind frame h g k) ∧ (frameSumsOk frame = true) ∧ (k.seen.contains (frameKey frame) = true) ∧ (k.either frame = true)) :=
  ⟨⟨(base Dev.reset), 5, bitsOf (expFrame 0 1), (expFrame 0 1), .exponentFrame 5 (bitsOf (expFrame 0 1)) (expFrame 0 1), fkExponent, by unfold State.powered; decide +kernel, by decide +kernel, by decide +kernel⟩,
    ⟨base (ringDev []), 5, hdrBits ((fun tag => ({ fromTwo ptSquare tag 64 0 with fixed := true } : Hdr)) 32768), [], .finalFrame 5 (hdrBits ((fun tag => ({ fromTwo ptSquare tag 64 0 with fixed := true } : Hdr)) 32768)) [], fkFinal, by unfold State.powered; decide +kernel, by decide +kernel, (fun tag => ({ fromTwo ptSquare tag 64 0 with fixed := true } : Hdr)) 32768, by decide +kernel, by decide +kernel, by decide +kernel, by decide +kernel, by decide +kernel⟩,
    ⟨base (ringDev []), 5, bitsOf (expFrame 0 1), (expFrame 0 1), .exponentFrame 5 (bitsOf (expFrame 0 1)) (expFrame 0 1), fkExponent, by unfold State.powered; decide +kernel, by decide +kernel, packetOf (expFrame 0 1), by unfold Dev.takesRequest; decide +kernel, by decide +kernel, by decide +kernel, by decide +kernel⟩,
    ⟨runs1 (ofFormat 0 false), 5, bitsOf (expFrame 0 1), (expFrame 0 1), .bsiDenseFrame 5 (bitsOf (expFrame 0 1)) (expFrame 0 1), fkDense, by unfold State.powered; decide +kernel, by decide +kernel, packetOf (expFrame 0 1), by unfold Dev.takesRequest; decide +kernel, by decide +kernel, by decide +kernel, 0, (ofFormat 0 false), by decide +kernel, by decide +kernel⟩,
    ⟨runs1 (ofFormat 0 false), 5, bitsOf (spoilt (expFrame 0 1)), spoilt (expFrame 0 1), .exponentFrame 5 (bitsOf (spoilt (expFrame 0 1))) (spoilt (expFrame 0 1)), fkExponent, by unfold State.powered; decide +kernel, by decide +kernel, packetOf (spoilt (expFrame 0 1)), by unfold Dev.takesRequest; decide +kernel, by decide +kernel, by decide +kernel, 0, (ofFormat 0 false), by decide +kernel, (by unfold Dev.takesFrame Dev.takesRequest; decide +kernel), by decide +kernel⟩,
    ⟨runs1 { (ofFormat 0 false) with seen := [frameKey (expFrame 2 1)] }, 5, bitsOf (expFrame 2 1), (expFrame 2 1), .exponentFrame 5 (bitsOf (expFrame 2 1)) (expFrame 2 1), fkExponent, by unfold State.powered; decide +kernel, by decide +kernel, packetOf (expFrame 2 1), by unfold Dev.takesRequest; decide +kernel, by decide +kernel, by decide +kernel, 0, { (ofFormat 0 false) with seen := [frameKey (expFrame 2 1)] }, by decide +kernel, (by unfold Dev.takesFrame Dev.takesRequest; decide +kernel), by decide +kernel, by decide +kernel, by decide +kernel⟩⟩

theorem witness_SquareFramesAreTaken_2 :
    (∃ (s : State) (p : Fin 12) (hdr : Header) (frame : List Byte) (c : Instr) (kind : Nat), (s.powered) ∧ ((c, kind) ∈ [(Instr.exponentFrame p hdr frame, fkExponent), (.bsiDenseFrame p hdr frame, fkDense), (.bsiSparseFrame p hdr frame, fkSparse), (.flaglistFrame p hdr frame, fkFlaglist), (.fp32Frame p hdr frame, fkFp32), (.onebitFrame p hdr frame, fkOnebit), (.finalFrame p hdr frame, fkFinal)]) ∧ ∃ h : Hdr, (s.dev.takesRequest p hdr.toNat ptSquare ftGateSquare h) ∧ (h.fixed = false) ∧ (frame.length = h.len) ∧ ∃ (g : Nat) (k : Coll), (s.dev.findColl (frameHdr frame).id = some (g, k)) ∧ (s.dev.takesFrame p hdr.toNat kind frame h g k) ∧ (frameSumsOk frame = true) ∧ (k.seen.contains (frameKey frame) = true) ∧ (k.either frame = false)) ∧
    (∃ (s : State) (p : Fin 12) (hdr : Header) (frame : List Byte) (h : Hdr) (g : Nat) (k : Coll), (s.powered) ∧ let bl := frameBlocks frame; (s.dev.stagesFrame p hdr.toNat fkExponent frame h g k) ∧ (k.m.fmt = fmBsi) ∧ (k.reducing = false) ∧ (k.ownDone = false) ∧ ((∃ b : Nat, b < k.m.blocks ∧ b ∉ bl ∧ k.pmax b = none)) ∧ (k.gathers frame = true)) ∧
    (∃ (s : State) (p : Fin 12) (hdr : Header) (frame : List Byte) (h : Hdr) (g : Nat) (k : Coll), (s.powered) ∧ let bl := frameBlocks frame; (s.dev.stagesFrame p hdr.toNat fkExponent frame h g k) ∧ (k.m.fmt = fmBsi) ∧ (k.reducing = false) ∧ (k.ownDone = false) ∧ ((∃ b : Nat, b < k.m.blocks ∧ b ∉ bl ∧ k.pmax b = none)) ∧ (k.gathers frame = false) ∧ (k.frameShard frame = k.slot)) ∧
    (∃ (s : State) (p : Fin 12) (hdr : Header) (frame : List Byte) (h : Hdr) (g : Nat) (k : Coll), (s.powered) ∧ let f := frameHdr frame; let bl := frameBlocks frame; let body := frameBody frame; ∃ (c : Instr) (kind : Nat), ((c, kind) ∈ [(Instr.bsiDenseFrame p hdr frame, fkDense), (.bsiSparseFrame p hdr frame, fkSparse)]) ∧ (s.dev.stagesFrame p hdr.toNat kind frame h g k) ∧ (k.m.fmt = fmBsi) ∧ (bl ≠ []) ∧ (bl.Nodup) ∧ ((∃ b : Nat, b ∈ k.awaiting ∧ b ∉ bl)) ∧ (k.ownDone = false) ∧ let own (b : Nat) : Blk := (bsiContrib k.m.bf16 f.pass (expOf ((k.pmax b).getD 0) k.m.head f.pass) (s.dev.partCodes k b)).1; (stageOk (bodyBlks body f.count) (bl.map own) = true) ∧ (k.frameShard frame = k.slot)) ∧
    (∃ (s : State) (p : Fin 12) (hdr : Header) (frame : List Byte) (h : Hdr) (g : Nat) (k : Coll), (s.powered) ∧ let f := frameHdr frame; let bl := frameBlocks frame; let body := frameBody frame; ∃ (c : Instr) (kind : Nat), ((c, kind) ∈ [(Instr.bsiDenseFrame p hdr frame, fkDense), (.bsiSparseFrame p hdr frame, fkSparse)]) ∧ (s.dev.stagesFrame p hdr.toNat kind frame h g k) ∧ (k.m.fmt = fmBsi) ∧ (bl ≠ []) ∧ (bl.Nodup) ∧ ((∃ b : Nat, b ∈ k.awaiting ∧ b ∉ bl)) ∧ (k.ownDone = false) ∧ let own (b : Nat) : Blk := (bsiContrib k.m.bf16 f.pass (expOf ((k.pmax b).getD 0) k.m.head f.pass) (s.dev.partCodes k b)).1; (stageOk (bodyBlks body f.count) (bl.map own) = true) ∧ (k.frameShard frame ≠ k.slot)) ∧
    (∃ (s : State) (p : Fin 12) (hdr : Header) (frame : List Byte) (h : Hdr) (g : Nat) (k : Coll), (s.powered) ∧ let bl := frameBlocks frame; (s.dev.stagesFrame p hdr.toNat fkFp32 frame h g k) ∧ (k.m.fmt = fmFp32) ∧ (bl ≠ []) ∧ ((∃ b : Nat, b ∈ k.awaiting ∧ b ∉ bl)) ∧ (k.ownDone = false) ∧ (k.frameShard frame = k.slot)) :=
  ⟨⟨runs1 { (ofFormat 0 false) with seen := [frameKey (expFrame 0 1)] }, 5, bitsOf (expFrame 0 1), (expFrame 0 1), .exponentFrame 5 (bitsOf (expFrame 0 1)) (expFrame 0 1), fkExponent, by unfold State.powered; decide +kernel, by decide +kernel, packetOf (expFrame 0 1), by unfold Dev.takesRequest; decide +kernel, by decide +kernel, by decide +kernel, 0, { (ofFormat 0 false) with seen := [frameKey (expFrame 0 1)] }, by decide +kernel, (by unfold Dev.takesFrame Dev.takesRequest; decide +kernel), by decide +kernel, by decide +kernel, by decide +kernel⟩,
    ⟨runs1 (ofFormat 0 false), 5, bitsOf (expFrame 2 1), (expFrame 2 1), packetOf (expFrame 2 1), 0, (ofFormat 0 false), by unfold State.powered; decide +kernel, (⟨(by unfold Dev.takesFrame Dev.takesRequest; decide +kernel), by decide +kernel, by decide +kernel, by decide +kernel, (⟨by decide +kernel, by decide +kernel, by decide +kernel, Or.inl (by decide +kernel), Or.inr (Or.inr ⟨0, by decide +kernel⟩)⟩), by decide +kernel, by decide +kernel, by decide +kernel⟩), by decide +kernel, by decide +kernel, by decide +kernel, ⟨0, by decide +kernel⟩, by decide +kernel⟩,
    ⟨runs1 (ofFormat 0 false), 5, bitsOf (expFrame 0 1), (expFrame 0 1), packetOf (expFrame 0 1), 0, (ofFormat 0 false), by unfold State.powered; decide +kernel, (⟨(by unfold Dev.takesFrame Dev.takesRequest; decide +kernel), by decide +kernel, by decide +kernel, by decide +kernel, (⟨by decide +kernel, by decide +kernel, by decide +kernel, Or.inl (by decide +kernel), Or.inr (Or.inr ⟨0, by decide +kernel⟩)⟩), by decide +kernel, by decide +kernel, by decide +kernel⟩), by decide +kernel, by decide +kernel, by decide +kernel, ⟨3, by decide +kernel⟩, by decide +kernel, by decide +kernel⟩,
    ⟨runs1 (ofFormat 0 true), 5, bitsOf (denseFrame 0), denseFrame 0, packetOf (denseFrame 0), 0, (ofFormat 0 true), by unfold State.powered; decide +kernel, .bsiDenseFrame 5 (bitsOf (denseFrame 0)) (denseFrame 0), fkDense, by decide +kernel, (⟨(by unfold Dev.takesFrame Dev.takesRequest; decide +kernel), by decide +kernel, by decide +kernel, by decide +kernel, (⟨by decide +kernel, by decide +kernel, by decide +kernel, Or.inl (by decide +kernel), Or.inr (Or.inl (by decide +kernel))⟩), by decide +kernel, by decide +kernel, by decide +kernel⟩), by decide +kernel, by decide +kernel, by decide +kernel, ⟨1, by decide +kernel⟩, by decide +kernel, by decide +kernel, by decide +kernel⟩,
    ⟨runs1 (ofFormat 0 true), 5, bitsOf (denseFrame 2), denseFrame 2, packetOf (denseFrame 2), 0, (ofFormat 0 true), by unfold State.powered; decide +kernel, .bsiDenseFrame 5 (bitsOf (denseFrame 2)) (denseFrame 2), fkDense, by decide +kernel, (⟨(by unfold Dev.takesFrame Dev.takesRequest; decide +kernel), by decide +kernel, by decide +kernel, by decide +kernel, (⟨by decide +kernel, by decide +kernel, by decide +kernel, Or.inl (by decide +kernel), Or.inr (Or.inl (by decide +kernel))⟩), by decide +kernel, by decide +kernel, by decide +kernel⟩), by decide +kernel, by decide +kernel, by decide +kernel, ⟨1, by decide +kernel⟩, by decide +kernel, by decide +kernel, by decide +kernel⟩,
    ⟨runs1 (ofFormat 2 true), 5, bitsOf (floatFrame 0), floatFrame 0, packetOf (floatFrame 0), 0, (ofFormat 2 true), by unfold State.powered; decide +kernel, (⟨(by unfold Dev.takesFrame Dev.takesRequest; decide +kernel), by decide +kernel, by decide +kernel, by decide +kernel, (⟨by decide +kernel, by decide +kernel, by decide +kernel, Or.inl (by decide +kernel), Or.inr (Or.inl (by decide +kernel))⟩), by decide +kernel, by decide +kernel, by decide +kernel⟩), by decide +kernel, by decide +kernel, ⟨1, by decide +kernel⟩, by decide +kernel, by decide +kernel⟩⟩

theorem witness_SquareFramesAreTaken_3 :
    (∃ (s : State) (p : Fin 12) (hdr : Header) (frame : List Byte) (h : Hdr) (g : Nat) (k : Coll), (s.powered) ∧ let bl := frameBlocks frame; (s.dev.stagesFrame p hdr.toNat fkFp32 frame h g k) ∧ (k.m.fmt = fmFp32) ∧ (bl ≠ []) ∧ ((∃ b : Nat, b ∈ k.awaiting ∧ b ∉ bl)) ∧ (k.ownDone = false) ∧ (k.frameShard frame ≠ k.slot)) ∧
    (∃ (s : State) (p : Fin 12) (hdr : Header) (frame : List Byte) (h : Hdr) (g : Nat) (k : Coll), (s.powered) ∧ let f := frameHdr frame; let bl := frameBlocks frame; (s.dev.stagesFrame p hdr.toNat fkOnebit frame h g k) ∧ (k.m.fmt = fmOnebit) ∧ (k.ownDone = false) ∧ ((∃ b : Nat, b ∈ k.awaiting ∧ b < 2 ^ 32)) ∧ ((∀ b ∈ bl, b < 2 ^ 32)) ∧ (k.frameShard frame = k.slot) ∧ ((∃ j : Nat, j < k.m.ranks ∧ j ≠ f.slot ∧ ∀ b ∈ bl, k.res (bitKey j b) = none))) ∧
    (∃ (s : State) (p : Fin 12) (hdr : Header) (frame : List Byte) (h : Hdr) (g : Nat) (k : Coll), (s.powered) ∧ let bl := frameBlocks frame; (s.dev.stagesFrame p hdr.toNat fkOnebit frame h g k) ∧ (k.m.fmt = fmOnebit) ∧ (k.ownDone = false) ∧ ((∃ b : Nat, b ∈ k.awaiting ∧ b < 2 ^ 32)) ∧ ((∀ b ∈ bl, b < 2 ^ 32)) ∧ (k.frameShard frame ≠ k.slot)) ∧
    (∃ (s : State) (p : Fin 12) (hdr : Header) (frame : List Byte) (h : Hdr) (g : Nat) (k : Coll), (s.powered) ∧ let f := frameHdr frame; (s.dev.stagesFrame p hdr.toNat fkFlaglist frame h g k) ∧ (k.m.succ k.slot = f.slot) ∧ (k.m.pred k.slot ≠ f.slot)) ∧
    (∃ (s : State) (p : Fin 12) (hdr : Header) (frame : List Byte) (h : Hdr) (g : Nat) (k : Coll), (s.powered) ∧ let f := frameHdr frame; let bl := frameBlocks frame; (s.dev.stagesFrame p hdr.toNat fkFinal frame h g k) ∧ (k.m.succ k.slot = f.slot) ∧ let n := k.m.outBytes; let runs (b : Nat) : List (Nat × Nat) := extentRuns k.ext (k.p 4 + b * n) n; ((∀ b ∈ bl, s.dev.writeRunsStatus (runs b) = stOk)) ∧ (k.m.op = opAllreduce) ∧ ((∃ b : Nat, b < k.m.blocks ∧ b ∉ bl ∧ Table.get (fun _ => false) k.written b = false))) :=
  ⟨⟨runs1 (ofFormat 2 true), 5, bitsOf (floatFrame 2), floatFrame 2, packetOf (floatFrame 2), 0, (ofFormat 2 true), by unfold State.powered; decide +kernel, (⟨(by unfold Dev.takesFrame Dev.takesRequest; decide +kernel), by decide +kernel, by decide +kernel, by decide +kernel, (⟨by decide +kernel, by decide +kernel, by decide +kernel, Or.inl (by decide +kernel), Or.inr (Or.inl (by decide +kernel))⟩), by decide +kernel, by decide +kernel, by decide +kernel⟩), by decide +kernel, by decide +kernel, ⟨1, by decide +kernel⟩, by decide +kernel, by decide +kernel⟩,
    ⟨runs1 (ofFormat 1 true), 5, bitsOf (bitFrame 0), bitFrame 0, packetOf (bitFrame 0), 0, (ofFormat 1 true), by unfold State.powered; decide +kernel, (⟨(by unfold Dev.takesFrame Dev.takesRequest; decide +kernel), by decide +kernel, by decide +kernel, by decide +kernel, (⟨by decide +kernel, by decide +kernel, by decide +kernel, Or.inl (by decide +kernel), Or.inr (Or.inl (by decide +kernel))⟩), by decide +kernel, by decide +kernel, by decide +kernel⟩), by decide +kernel, by decide +kernel, ⟨1, by decide +kernel⟩, by decide +kernel, by decide +kernel, ⟨0, by decide +kernel⟩⟩,
    ⟨runs1 (ofFormat 1 true), 5, bitsOf (bitFrame 2), bitFrame 2, packetOf (bitFrame 2), 0, (ofFormat 1 true), by unfold State.powered; decide +kernel, (⟨(by unfold Dev.takesFrame Dev.takesRequest; decide +kernel), by decide +kernel, by decide +kernel, by decide +kernel, (⟨by decide +kernel, by decide +kernel, by decide +kernel, Or.inl (by decide +kernel), Or.inr (Or.inl (by decide +kernel))⟩), by decide +kernel, by decide +kernel, by decide +kernel⟩), by decide +kernel, by decide +kernel, ⟨1, by decide +kernel⟩, by decide +kernel, by decide +kernel⟩,
    ⟨runs1 ({ collective 1 0 3 6 0 with list := [1, 3, 2] }), 5, bitsOf (frame77 0 fkFlaglist 1 1 [0]), (frame77 0 fkFlaglist 1 1 [0]), packetOf (frame77 0 fkFlaglist 1 1 [0]), 0, ({ collective 1 0 3 6 0 with list := [1, 3, 2] }), by unfold State.powered; decide +kernel, (⟨(by unfold Dev.takesFrame Dev.takesRequest; decide +kernel), by decide +kernel, by decide +kernel, by decide +kernel, (⟨by decide +kernel, by decide +kernel, by decide +kernel, Or.inl (by decide +kernel), Or.inr (Or.inl (by decide +kernel))⟩), by decide +kernel, by decide +kernel, by decide +kernel⟩), by decide +kernel, by decide +kernel⟩,
    ⟨runs1 (ofFormat 2 true), 5, bitsOf (frame77 2 fkFinal 1 1 (List.replicate 128 0)), (frame77 2 fkFinal 1 1 (List.replicate 128 0)), packetOf (frame77 2 fkFinal 1 1 (List.replicate 128 0)), 0, (ofFormat 2 true), by unfold State.powered; decide +kernel, (⟨(by unfold Dev.takesFrame Dev.takesRequest; decide +kernel), by decide +kernel, by decide +kernel, by decide +kernel, (⟨by decide +kernel, by decide +kernel, by decide +kernel, Or.inl (by decide +kernel), Or.inr (Or.inl (by decide +kernel))⟩), by decide +kernel, by decide +kernel, by decide +kernel⟩), by decide +kernel, by decide +kernel, by decide +kernel, ⟨0, by decide +kernel⟩⟩⟩

theorem witness_BackupsBroadcastsAndTimeouts :
    (∃ (s : State) (g : Fin 2) (slot first : Nat) (c : Coll), (s.powered) ∧ (s.dev.runningColl g c.id = some c) ∧ (c.m.deadline = 0 ∨ c.consumes slot = false ∨ c.primCame slot first = true ∨ slot ∈ c.useBackup ∨ c.bak slot = none)) ∧
    (∃ (s : State) (g : Fin 2) (slot : Nat) (c : Coll), (s.powered) ∧ (s.dev.runningColl g c.id = some c) ∧ (c.m.deadline ≠ 0) ∧ (c.consumes slot = true) ∧ (slot ∉ c.useBackup) ∧ ((c.bak slot).isSome = true) ∧ (c.resting) ∧ (c.queue.isSome = true) ∧ (c.logged < bits (c.p 10) 31 0) ∧ let runs := extentRuns c.ext (c.p 9 + 8 * c.logged) 8; (s.dev.writeRunsStatus runs = stOk)) ∧
    (∃ (s : State) (g : Fin 2) (slot id : Nat), (s.powered) ∧ (s.dev.runningColl g id = none) ∧ ∃ i ∈ [Instr.backupDeadline g id slot slot, .frameStallTimeout g id slot, .segmentTimeout g id, .broadcastDoneTimeout g id], True) ∧
    (∃ (s : State) (g : Fin 2) (slot : Nat) (c : Coll), (s.powered) ∧ (s.dev.runningColl g c.id = some c) ∧ (c.queue.isSome = true) ∧ (s.dev.inForceNat 0x2B0002 ≠ 0) ∧ (c.consumes slot = true) ∧ (c.complete = false)) ∧
    (∃ (s : State) (g : Fin 2) (c : Coll), (s.powered) ∧ (s.dev.runningColl g c.id = some c) ∧ (s.dev.inForceNat 0x2B0002 = 0)) ∧
    (∃ (s : State) (g : Fin 2) (c : Coll), (s.powered) ∧ (s.dev.runningColl g c.id = some c) ∧ (s.dev.get (F.SQR_SEL_COLL_ID g) = c.id) ∧ (c.queue.isSome = true)) ∧
    (∃ (s : State) (g : Fin 2) (c : Coll), (s.powered) ∧ (s.dev.runningColl g c.id = some c) ∧ (s.dev.get (F.SQR_SEL_COLL_ID g) = c.id) ∧ (c.queue = none)) ∧
    (∃ (s : State) (g : Fin 2) (c : Coll), (s.powered) ∧ (s.dev.runningColl g c.id = some c) ∧ (c.m.op = opBroadcast) ∧ (c.queue.isSome = true) ∧ (s.dev.isRoot c = true) ∧ (s.dev.inForceNat 0x2B0002 ≠ 0)) :=
  ⟨⟨runs1 (collective 1 2 2 4 0), 0, 1, 2, (collective 1 2 2 4 0), by unfold State.powered; decide +kernel, by decide +kernel, by decide +kernel⟩,
    ⟨runs1 ({ collective 1 0 2 4 9 with list := [1, 2 + 2 ^ 31 + 3 * 2 ^ 16] }), 0, 1, ({ collective 1 0 2 4 9 with list := [1, 2 + 2 ^ 31 + 3 * 2 ^ 16] }), by unfold State.powered; decide +kernel, by decide +kernel, by decide +kernel, by decide +kernel, by decide +kernel, by decide +kernel, (⟨by decide +kernel, by decide +kernel, by decide +kernel, Or.inl (by decide +kernel), Or.inr (Or.inl (by decide +kernel))⟩), by decide +kernel, by decide +kernel, by decide +kernel⟩,
    ⟨(base Dev.reset), 1, 0, 77, by unfold State.powered; decide +kernel, by decide +kernel, .backupDeadline 1 77 0 0, by simp, trivial⟩,
    ⟨runs1 (collective 1 2 2 4 0), 0, 1, (collective 1 2 2 4 0), by unfold State.powered; decide +kernel, by decide +kernel, by decide +kernel, by decide +kernel, by decide +kernel, by decide +kernel⟩,
    ⟨base ((squareDev [] 0 [] [(collective 1 2 2 4 0)]).setObj 0x2B0002 [0, 0, 0, 0]), 0, (collective 1 2 2 4 0), by unfold State.powered; decide +kernel, by decide +kernel, by decide +kernel⟩,
    ⟨base (squareDev [(F.SQR_SEL_COLL_ID 0, 77)] 0 [] [(collective 1 2 2 4 0)]), 0, (collective 1 2 2 4 0), by unfold State.powered; decide +kernel, by decide +kernel, by decide +kernel, by decide +kernel⟩,
    ⟨base (squareDev [(F.SQR_SEL_COLL_ID 0, 77)] 0 [] [{ (collective 1 2 2 4 0) with queue := none }]), 0, { (collective 1 2 2 4 0) with queue := none }, by unfold State.powered; decide +kernel, by decide +kernel, by decide +kernel, by decide +kernel⟩,
    ⟨runs1 ({ broadcastOf rootList with kids := [2] }), 0, ({ broadcastOf rootList with kids := [2] }), by unfold State.powered; decide +kernel, by decide +kernel, by decide +kernel, by decide +kernel, by decide +kernel, by decide +kernel⟩⟩

theorem witness_BackupsBroadcastsAndTimeouts_2 :
    (∃ (s : State) (g : Fin 2) (c : Coll), (s.powered) ∧ (s.dev.runningColl g c.id = some c) ∧ (c.m.op = opBroadcast) ∧ (c.queue.isSome = true) ∧ (s.dev.isRoot c = false) ∧ (c.hasAll = false) ∧ (c.onAlt = true)) ∧
    (∃ (s : State) (g : Fin 2) (c : Coll), (s.powered) ∧ (s.dev.runningColl g c.id = some c) ∧ (c.m.op = opBroadcast) ∧ (c.queue.isSome = true) ∧ (s.dev.isRoot c = false) ∧ (c.hasAll = false) ∧ (c.onAlt = false)) ∧
    (∃ (s : State) (p : Fin 12) (hdr : Header) (id child lost seg count : Nat) (data : List Byte), (s.powered) ∧ ∃ (i : Instr) (ptype : Nat), ((i, ptype) ∈ [(Instr.segmentPacket p hdr id data, ptSegment), (.attach p hdr id child lost seg, ptControl), (.resend p hdr id child seg, ptControl), (.done p hdr id child count, ptControl)]) ∧ (s.dev.delivered p hdr.toNat ptype = none)) ∧
    (∃ (s : State) (p : Fin 12) (hdr : Header) (h : Hdr) (id child lost seg count : Nat) (data : List Byte), (s.powered) ∧ ∃ (i : Instr) (ptype : Nat), ((i, ptype) ∈ [(Instr.segmentPacket p hdr id data, ptSegment), (.attach p hdr id child lost seg, ptControl), (.resend p hdr id child seg, ptControl), (.done p hdr id child count, ptControl)]) ∧ (s.dev.takesRequest p hdr.toNat ptype ftGateBcast h) ∧ (h.fixed = false) ∧ (s.dev.findColl id = none)) ∧
    (∃ (s : State) (p : Fin 12) (hdr : Header) (h : Hdr) (id : Nat), (s.powered) ∧ ∃ (g : Nat) (c : Coll), (s.dev.findColl id = some (g, c)) ∧ (c.m.op = opBroadcast) ∧ (c.queue.isSome = true) ∧ (c.id = id) ∧ (h.fixed = false) ∧ (s.dev.takesRequest p hdr.toNat ptSegment ftGateBcast h) ∧ (s.dev.isRoot c = false) ∧ (h.src ≠ c.parent)) ∧
    (∃ (s : State) (p : Fin 12) (hdr : Header) (h : Hdr) (id : Nat), (s.powered) ∧ ∃ (g : Nat) (c : Coll), (s.dev.findColl id = some (g, c)) ∧ (c.m.op = opBroadcast) ∧ (c.queue.isSome = true) ∧ (c.id = id) ∧ (h.fixed = false) ∧ (s.dev.takesRequest p hdr.toNat ptSegment ftGateBcast h) ∧ (s.dev.isRoot c = false) ∧ (h.src = c.parent) ∧ (c.hasAll = true ∨ bits h.addr 46 32 ≠ c.next ∨ bits h.addr 19 0 ≠ c.buf.length)) ∧
    (∃ (s : State) (p : Fin 12) (hdr : Header) (h : Hdr) (id : Nat) (data : List Byte), (s.powered) ∧ ∃ (g : Nat) (c : Coll), (s.dev.findColl id = some (g, c)) ∧ (c.m.op = opBroadcast) ∧ (c.queue.isSome = true) ∧ (c.id = id) ∧ (h.fixed = false) ∧ (s.dev.takesRequest p hdr.toNat ptSegment ftGateBcast h) ∧ (s.dev.isRoot c = false) ∧ let buf := c.buf ++ fitBytes h.len data; let man := if c.next = 0 then buf else c.manifest; (h.src = c.parent) ∧ (c.hasAll = false) ∧ (bits h.addr 46 32 = c.next) ∧ (bits h.addr 19 0 = c.buf.length) ∧ (man.length < 16 ∨ buf.length < segLen man c.next)) ∧
    (∃ (s : State) (p : Fin 12) (hdr : Header) (h : Hdr) (id : Nat) (data : List Byte), (s.powered) ∧ ∃ (g : Nat) (c : Coll), (s.dev.findColl id = some (g, c)) ∧ (c.m.op = opBroadcast) ∧ (c.queue.isSome = true) ∧ (c.id = id) ∧ (h.fixed = false) ∧ (s.dev.takesRequest p hdr.toNat ptSegment ftGateBcast h) ∧ (s.dev.isRoot c = false) ∧ let buf := c.buf ++ fitBytes h.len data; let man := if c.next = 0 then buf else c.manifest; (h.src = c.parent) ∧ (c.hasAll = false) ∧ (bits h.addr 46 32 = c.next) ∧ (bits h.addr 19 0 = c.buf.length) ∧ (16 ≤ man.length) ∧ (segLen man c.next ≤ buf.length) ∧ (({ c with buf := buf } : Coll).segGood c.next buf = true) ∧ (c.kids = []) ∧ (c.fail = none) ∧ (c.next + 1 ≤ manN man) ∧ let runs := extentRuns c.ext (s.dev.segVa c c.next) buf.length; (s.dev.writeRunsStatus runs = stOk)) :=
  ⟨⟨runs1 { (broadcastOf leafList) with onAlt := true }, 0, { (broadcastOf leafList) with onAlt := true }, by unfold State.powered; decide +kernel, by decide +kernel, by decide +kernel, by decide +kernel, by decide +kernel, by decide +kernel, by decide +kernel⟩,
    ⟨runs1 (broadcastOf leafList), 0, (broadcastOf leafList), by unfold State.powered; decide +kernel, by decide +kernel, by decide +kernel, by decide +kernel, by decide +kernel, by decide +kernel, by decide +kernel⟩,
    ⟨(base Dev.reset), 5, (fun pt src len addr => hdrBits (treePacket pt src len addr)) ptSegment 2 16 0, 77, 0, 0, 0, 0, [], by unfold State.powered; decide +kernel, .segmentPacket 5 ((fun pt src len addr => hdrBits (treePacket pt src len addr)) ptSegment 2 16 0) 77 [], ptSegment, by decide +kernel, by decide +kernel⟩,
    ⟨base (ringDev []), 5, (fun pt src len addr => hdrBits (treePacket pt src len addr)) ptSegment 2 16 0, (treePacket ptSegment 2 16 0), 77, 0, 0, 0, 0, [], by unfold State.powered; decide +kernel, .segmentPacket 5 ((fun pt src len addr => hdrBits (treePacket pt src len addr)) ptSegment 2 16 0) 77 [], ptSegment, by decide +kernel, (by unfold Dev.takesRequest; decide +kernel), by decide +kernel, by decide +kernel⟩,
    ⟨runs1 { (broadcastOf leafList) with parent := 3 }, 5, (fun pt src len addr => hdrBits (treePacket pt src len addr)) ptSegment 2 16 0, (treePacket ptSegment 2 16 0), 77, by unfold State.powered; decide +kernel, 0, { (broadcastOf leafList) with parent := 3 }, by decide +kernel, by decide +kernel, by decide +kernel, by decide +kernel, by decide +kernel, (by unfold Dev.takesRequest; decide +kernel), by decide +kernel, by decide +kernel⟩,
    ⟨runs1 (broadcastOf leafList), 5, (fun pt src len addr => hdrBits (treePacket pt src len addr)) ptSegment 2 16 1, treePacket ptSegment 2 16 1, 77, by unfold State.powered; decide +kernel, 0, (broadcastOf leafList), by decide +kernel, by decide +kernel, by decide +kernel, by decide +kernel, by decide +kernel, (by unfold Dev.takesRequest; decide +kernel), by decide +kernel, by decide +kernel, by decide +kernel⟩,
    ⟨runs1 (broadcastOf leafList), 5, (fun pt src len addr => hdrBits (treePacket pt src len addr)) ptSegment 2 8 0, treePacket ptSegment 2 8 0, 77, [1], by unfold State.powered; decide +kernel, 0, (broadcastOf leafList), by decide +kernel, by decide +kernel, by decide +kernel, by decide +kernel, by decide +kernel, (by unfold Dev.takesRequest; decide +kernel), by decide +kernel, by decide +kernel, by decide +kernel, by decide +kernel, by decide +kernel, by decide +kernel⟩,
    ⟨runs1 verified, 5, (fun pt src len addr => hdrBits (treePacket pt src len addr)) ptSegment 2 64 0, treePacket ptSegment 2 64 0, 77, manifest1, by unfold State.powered; decide +kernel, 0, verified, by decide +kernel, by decide +kernel, by decide +kernel, by decide +kernel, by decide +kernel, (by unfold Dev.takesRequest; decide +kernel), by decide +kernel, by decide +kernel, by decide +kernel, by decide +kernel, by decide +kernel, by decide +kernel, by decide +kernel, by decide +kernel, by decide +kernel, by decide +kernel, by decide +kernel, by decide +kernel⟩⟩

theorem witness_BackupsBroadcastsAndTimeouts_3 :
    (∃ (s : State) (p : Fin 12) (hdr : Header) (h : Hdr) (id : Nat) (data : List Byte), (s.powered) ∧ ∃ (g : Nat) (c : Coll), (s.dev.findColl id = some (g, c)) ∧ (c.m.op = opBroadcast) ∧ (c.queue.isSome = true) ∧ (c.id = id) ∧ (h.fixed = false) ∧ (s.dev.takesRequest p hdr.toNat ptSegment ftGateBcast h) ∧ (s.dev.isRoot c = false) ∧ let buf := c.buf ++ fitBytes h.len data; let man := if c.next = 0 then buf else c.manifest; (h.src = c.parent) ∧ (c.hasAll = false) ∧ (bits h.addr 46 32 = c.next) ∧ (bits h.addr 19 0 = c.buf.length) ∧ (16 ≤ man.length) ∧ (segLen man c.next ≤ buf.length) ∧ (({ c with buf := buf } : Coll).segGood c.next buf = false) ∧ (c.resent = false)) ∧
    (∃ (s : State) (p : Fin 12) (hdr : Header) (h : Hdr) (id child seg : Nat), (s.powered) ∧ ∃ (g : Nat) (c : Coll), (s.dev.findColl id = some (g, c)) ∧ (c.m.op = opBroadcast) ∧ (c.queue.isSome = true) ∧ (c.id = id) ∧ (h.fixed = false) ∧ (s.dev.takesRequest p hdr.toNat ptControl ftGateBcast h) ∧ (h.src = child) ∧ (child ∈ c.kids) ∧ (seg < c.next)) ∧
    (∃ (s : State) (p : Fin 12) (hdr : Header) (h : Hdr) (id child seg : Nat), (s.powered) ∧ ∃ (g : Nat) (c : Coll), (s.dev.findColl id = some (g, c)) ∧ (c.m.op = opBroadcast) ∧ (c.queue.isSome = true) ∧ (c.id = id) ∧ (h.fixed = false) ∧ (s.dev.takesRequest p hdr.toNat ptControl ftGateBcast h) ∧ (h.src = child) ∧ (child ∈ c.kids) ∧ (c.next ≤ seg)) ∧
    (∃ (s : State) (p : Fin 12) (hdr : Header) (h : Hdr) (id child count : Nat), (s.powered) ∧ ∃ (g : Nat) (c : Coll), (s.dev.findColl id = some (g, c)) ∧ (c.m.op = opBroadcast) ∧ (c.queue.isSome = true) ∧ (c.id = id) ∧ (h.fixed = false) ∧ (s.dev.takesRequest p hdr.toNat ptControl ftGateBcast h) ∧ (h.src = child) ∧ (child ∈ c.kids) ∧ let dones := (child, count) :: c.dones.filter fun r => r.1 != child; let total := dones.foldl (fun n r => n + r.2) 0; (s.dev.isRoot c = true) ∧ (c.m.ranks - 1 ≤ total)) ∧
    (∃ (s : State) (p : Fin 12) (hdr : Header) (h : Hdr) (id child count : Nat), (s.powered) ∧ ∃ (g : Nat) (c : Coll), (s.dev.findColl id = some (g, c)) ∧ (c.m.op = opBroadcast) ∧ (c.queue.isSome = true) ∧ (c.id = id) ∧ (h.fixed = false) ∧ (s.dev.takesRequest p hdr.toNat ptControl ftGateBcast h) ∧ (h.src = child) ∧ (child ∈ c.kids) ∧ let dones := (child, count) :: c.dones.filter fun r => r.1 != child; let total := dones.foldl (fun n r => n + r.2) 0; (s.dev.isRoot c = true) ∧ (total < c.m.ranks - 1)) ∧
    (∃ (s : State) (p : Fin 12) (hdr : Header) (h : Hdr) (id child seg count : Nat), (s.powered) ∧ ∃ (g : Nat) (c : Coll), (s.dev.findColl id = some (g, c)) ∧ (c.m.op = opBroadcast) ∧ (c.queue.isSome = true) ∧ (c.id = id) ∧ (h.fixed = false) ∧ (s.dev.takesRequest p hdr.toNat ptControl ftGateBcast h) ∧ (h.src ≠ child ∨ child ∉ c.kids) ∧ ∃ i ∈ [Instr.resend p hdr id child seg, .done p hdr id child count], True) ∧
    (∃ (s : State) (p : Fin 12) (hdr : Header) (h : Hdr) (id child lost : Nat), (s.powered) ∧ ∃ (g : Nat) (c : Coll), (s.dev.findColl id = some (g, c)) ∧ (c.m.op = opBroadcast) ∧ (c.queue.isSome = true) ∧ (c.id = id) ∧ (h.fixed = false) ∧ (s.dev.takesRequest p hdr.toNat ptControl ftGateBcast h) ∧ (s.dev.isRoot c = false) ∧ (h.src = child) ∧ (bits (c.tree child) 35 22 = s.dev.rank) ∧ ((c.list.any fun e => bits e 63 50 == child) = true) ∧ (child ∉ c.kids) ∧ ((∀ r ∈ c.dones, r.1 ≠ child)) ∧ (lost ≠ s.dev.rank)) ∧
    (∃ (s : State) (p : Fin 12) (hdr : Header) (h : Hdr) (id child lost : Nat), (s.powered) ∧ ∃ (g : Nat) (c : Coll), (s.dev.findColl id = some (g, c)) ∧ (c.m.op = opBroadcast) ∧ (c.queue.isSome = true) ∧ (c.id = id) ∧ (h.fixed = false) ∧ (s.dev.takesRequest p hdr.toNat ptControl ftGateBcast h) ∧ (s.dev.isRoot c = true) ∧ (h.src ∈ c.kids) ∧ (h.src ≠ child) ∧ (lost ≠ s.dev.rank) ∧ (c.doneCount < c.m.ranks - 1) ∧ (c.fail = none) ∧ (c.attached < bits (c.p 14) 15 0) ∧ let runs := extentRuns c.ext (c.p 15 + 8 * c.attached) 8; (s.dev.writeRunsStatus runs = stOk)) :=
  ⟨⟨runs1 (broadcastOf leafList), 5, (fun pt src len addr => hdrBits (treePacket pt src len addr)) ptSegment 2 64 0, treePacket ptSegment 2 64 0, 77, manifest1, by unfold State.powered; decide +kernel, 0, (broadcastOf leafList), by decide +kernel, by decide +kernel, by decide +kernel, by decide +kernel, by decide +kernel, (by unfold Dev.takesRequest; decide +kernel), by decide +kernel, by decide +kernel, by decide +kernel, by decide +kernel, by decide +kernel, by decide +kernel, by decide +kernel, by decide +kernel, by decide +kernel⟩,
    ⟨runs1 { ({ broadcastOf rootList with kids := [2] }) with next := 1 }, 5, (fun pt src len addr => hdrBits (treePacket pt src len addr)) ptControl 2 40 0, treePacket ptControl 2 40 0, 77, 2, 0, by unfold State.powered; decide +kernel, 0, { ({ broadcastOf rootList with kids := [2] }) with next := 1 }, by decide +kernel, by decide +kernel, by decide +kernel, by decide +kernel, by decide +kernel, (by unfold Dev.takesRequest; decide +kernel), by decide +kernel, by decide +kernel, by decide +kernel⟩,
    ⟨runs1 ({ broadcastOf rootList with kids := [2] }), 5, (fun pt src len addr => hdrBits (treePacket pt src len addr)) ptControl 2 40 0, treePacket ptControl 2 40 0, 77, 2, 0, by unfold State.powered; decide +kernel, 0, ({ broadcastOf rootList with kids := [2] }), by decide +kernel, by decide +kernel, by decide +kernel, by decide +kernel, by decide +kernel, (by unfold Dev.takesRequest; decide +kernel), by decide +kernel, by decide +kernel, by decide +kernel⟩,
    ⟨runs1 ({ broadcastOf rootList with kids := [2] }), 5, (fun pt src len addr => hdrBits (treePacket pt src len addr)) ptControl 2 40 0, treePacket ptControl 2 40 0, 77, 2, 1, by unfold State.powered; decide +kernel, 0, ({ broadcastOf rootList with kids := [2] }), by decide +kernel, by decide +kernel, by decide +kernel, by decide +kernel, by decide +kernel, (by unfold Dev.takesRequest; decide +kernel), by decide +kernel, by decide +kernel, by decide +kernel, by decide +kernel⟩,
    ⟨runs1 ({ broadcastOf rootList with kids := [2] }), 5, (fun pt src len addr => hdrBits (treePacket pt src len addr)) ptControl 2 40 0, treePacket ptControl 2 40 0, 77, 2, 0, by unfold State.powered; decide +kernel, 0, ({ broadcastOf rootList with kids := [2] }), by decide +kernel, by decide +kernel, by decide +kernel, by decide +kernel, by decide +kernel, (by unfold Dev.takesRequest; decide +kernel), by decide +kernel, by decide +kernel, by decide +kernel, by decide +kernel⟩,
    ⟨runs1 (broadcastOf leafList), 5, (fun pt src len addr => hdrBits (treePacket pt src len addr)) ptControl 2 40 0, treePacket ptControl 2 40 0, 77, 2, 0, 0, by unfold State.powered; decide +kernel, 0, (broadcastOf leafList), by decide +kernel, by decide +kernel, by decide +kernel, by decide +kernel, by decide +kernel, (by unfold Dev.takesRequest; decide +kernel), by decide +kernel, .resend 5 ((fun pt src len addr => hdrBits (treePacket pt src len addr)) ptControl 2 40 0) 77 2 0, by simp, trivial⟩,
    ⟨runs1 (broadcastOf [2 ^ 50 + 3 * 2 ^ 36 + 2 ^ 21 * 0, 2 * 2 ^ 50 + 9 * 2 ^ 36 + 2 ^ 22]), 5, (fun pt src len addr => hdrBits (treePacket pt src len addr)) ptControl 2 40 0, treePacket ptControl 2 40 0, 77, 2, 9, by unfold State.powered; decide +kernel, 0, (broadcastOf [2 ^ 50 + 3 * 2 ^ 36 + 2 ^ 21 * 0, 2 * 2 ^ 50 + 9 * 2 ^ 36 + 2 ^ 22]), by decide +kernel, by decide +kernel, by decide +kernel, by decide +kernel, by decide +kernel, (by unfold Dev.takesRequest; decide +kernel), by decide +kernel, by decide +kernel, by decide +kernel, by decide +kernel, by decide +kernel, by decide +kernel, by decide +kernel⟩,
    ⟨runs1 ({ ({ broadcastOf rootList with kids := [2] }) with params := [0x44000, 0, 0, 0, 0x48000, 0, 0, 0x42000, 0, 0, 0, 0, 0, 0, 2, 0x49000] }), 5, (fun pt src len addr => hdrBits (treePacket pt src len addr)) ptControl 2 40 0, treePacket ptControl 2 40 0, 77, 4, 9, by unfold State.powered; decide +kernel, 0, ({ ({ broadcastOf rootList with kids := [2] }) with params := [0x44000, 0, 0, 0, 0x48000, 0, 0, 0x42000, 0, 0, 0, 0, 0, 0, 2, 0x49000] }), by decide +kernel, by decide +kernel, by decide +kernel, by decide +kernel, by decide +kernel, (by unfold Dev.takesRequest; decide +kernel), by decide +kernel, by decide +kernel, by decide +kernel, by decide +kernel, by decide +kernel, by decide +kernel, by decide +kernel, by decide +kernel⟩⟩

/-! ### Single steps -/

/-- Something about the next state of one command on a device. -/
def after (c : Instr) (d : Dev) (f : State → Bool) : Bool :=
  match step { base d with pending := [c] } with
  | .next t => t.pending == [] && f t
  | _ => false

/-- The lines PWR_EN and PWRGD after PWR_EN falls (R20). -/
theorem test_pwr_en_fall : after .pwrEnFall Dev.reset (fun t => !t.dev.pwr.pwrEn && !t.dev.pwr.pwrgd) = true := by decide +kernel

/-- TCK_HOLD.ASSERT of a running device asserts the software cause, bit 1 (R46, R47). -/
theorem test_hold_assert : after .tckHoldAssert (running [] (oneSlot engTensor 3 opMatrix 0x11 [] []) engTensor 3 false)
    (fun t => t.dev.get F.TCK_STATUS_CAUSES == 2) = true := by decide +kernel

/-- A NOP entry ends OK with result 0 (R314). -/
theorem test_queue_nop : after (.queueNop 5 9) (holding [] Mem.reset (entry0 tyNop [] false))
    (fun t => (t.dev.entry 5 9).bind Entry.finished == some (0, 0)) = true := by decide +kernel

/-- A copy of one row moves its bytes (R321). -/
theorem test_copy_moves : after (.copy 5 9 false) (holding [] (Mem.reset.write 0x40000 [1, 2, 3, 4]) (entry0 tyCopy [0x40000, 0x50000, 0, 0, 2 ^ 32 + 4, 0] false))
    (fun t => t.dev.read 0x50000 4 == [1, 2, 3, 4] && (t.dev.entry 5 9).bind Entry.finished == some (0, 4)) = true := by decide +kernel

/-- An add returns the old value and leaves the sum, wrapped (R165). -/
theorem test_amo_add_wraps : after (.amo 3 .add .u32 0x40000 2 false) { Dev.reset with mem := Mem.reset.write 0x40000 [0xFF, 0xFF, 0xFF, 0xFF] }
    (fun t => t.dev.read 0x40000 4 == [1, 0, 0, 0]) = true := by decide +kernel

/-- A doorbell past the ring's size stops the queue with BOUNDS (R313). -/
theorem test_doorbell_too_far : after (.dbPi 5 17) (withQueue [] Mem.reset cmdQueue [])
    (fun t => (t.dev.queue 5).map (fun x => (x.state, x.stop)) == some (qsStopped, stBounds)) = true := by decide +kernel

/-- A READ of an object that does not exist answers BOUNDS to the mailbox (R10, R353). -/
theorem test_read_no_object : after (.read 0 (request 1 0x100099 0 [] 0)) (guarded false [])
    (fun t => t.dev.get F.MBX_STATUS_STATE == 2 && t.dev.get F.MBX_STATUS_RSP_LEN == 20) = true := by decide +kernel

/-- A scheduled frame of no collective is dropped and counted (R298). -/
theorem test_square_frame_dropped :
    after (.exponentFrame 5 (hdrBits { packetOf (expFrame 0 1) with fixed := true, tag := 0 }) (expFrame 0 1)) (ringDev [])
      (fun t => t.dev.get (F.SQR_DROPS_COUNT 0) == 1) = true := by decide +kernel

/-- A window write that names a range beyond memory is refused and counted as a register access (R7, R276). -/
theorem test_window_refused : after (.gteWinWrite 255 true 0xFFFFFFFFFFFFFFFF#64) Dev.reset
    (fun t => t.dev.get (F.GTE_WIN1_SIZE 255) == 0) = true := by decide +kernel

/-- A register write of a size that BAR0 does not take changes no field but the register-access ones (R7). -/
theorem test_narrow_write_refused : after (.registerWrite 8 4 0xFF#64) Dev.reset (fun t => t.dev.on F.RAS_REGACC_VALID) = true := by decide +kernel

/-- The blown debug fuse: two of three cells (R381). -/
theorem test_fuse_majority : (Fuse.blown ⟨true, false, true⟩, Fuse.blown ⟨true, false, false⟩) = (true, false) := by decide

/-- Writing the value that unlisted memory reads as removes the entry, so memory stays canonical. -/
theorem test_memory_canonical : (Mem.reset.write 0x40000 [1, 2]).write 0x40000 [0, 0] = Mem.reset := by decide +kernel

end Sys2Proof.Tests
end

section
/-! PROOF. One step of the block: the front of the queue, or one TICKREF cycle (notes/assumptions/1.md, 2.md). -/

namespace Sys2Proof.Machine

open Sys2Proof

/-! ### One step -/

/-- Collectives that hold no frame to take leave the device alone. -/
theorem serveSquares_of_empty (d : Dev) (h : ∀ g < 2, ∀ c ∈ (d.sq g).running, c.inbox = []) : d.serveSquares = d := by
  have one : ∀ (g : Nat) (l : List Coll), (∀ c ∈ l, c.inbox = []) →
      l.foldl (fun d c => if c.inbox.isEmpty then d else d.collTurn g c) d = d := by
    intro g l
    induction l with
    | nil => intro _; rfl
    | cons c r ih =>
      intro hl
      rw [List.foldl_cons, hl c List.mem_cons_self]
      exact ih fun x hx => hl x (List.mem_cons_of_mem _ hx)
  have h0 := one 0 _ (h 0 (by decide))
  have h1 := one 1 _ (h 1 (by decide))
  simp only [Dev.serveSquares, List.foldl_cons, List.foldl_nil, h0, h1]

/-- A cycle in which nothing waits for memory counts TIME and does nothing else. -/
theorem cycle_of_nothing_waiting (d : Dev) (h : d.gate.held = []) (hc : ∀ g < 2, ∀ c ∈ (d.sq g).running, c.inbox = []) :
    d.cycle = { d with time := d.time + 1 } := by
  have hh : ({ d with time := d.time + 1 } : Dev).serveHeld = { d with time := d.time + 1 } := by
    simp [Dev.serveHeld, h]
  rw [Dev.cycle, hh]
  exact serveSquares_of_empty _ hc

theorem step_of_empty (s : State) (h : s.pending = []) : step s = .next s.idle := by
  simp [step, h]

theorem idle_powered (s : State) (h : s.powered) : s.idle = { s with dev := s.dev.cycle } := if_pos h

theorem idle_off (s : State) (h : s.dev.pwr.pwrgd = false) : s.idle = s := by simp [State.idle, h]

/-- Settles O55: the step's two cases, and the cycle of an empty queue by whether anything waits for memory. -/
theorem stepTakesTheFrontCommand : Obligations.StepTakesTheFrontCommand := by
  refine ⟨fun c rest s => rfl, fun s hp hw => ?_, fun s hp hw hg hc => ?_, fun s hp hw => ?_⟩
  · exact ⟨s.idle, step_of_empty s hp, by rw [idle_powered s hw]; exact ⟨hp, rfl, rfl⟩⟩
  · rw [step_of_empty s hp, idle_powered s hw, cycle_of_nothing_waiting s.dev hg hc]
  · rw [step_of_empty s hp, idle_off s hw]

end Sys2Proof.Machine
end

section
/-! SUPPORT. The frame of an event that is raised after other register writes, and of a refused register write (R7, R389). -/

namespace Sys2Proof.Machine

open Sys2Proof

/-! ### Events after other register writes -/

/-- None of the fields of `l` sets up an event ring or numbers an event. -/
def RingFree (l : List Fld) : Prop :=
  ∀ g ∈ l, F.RAS_EVSEQ_NEXT.key ≠ g.key ∧ ∀ r < 64,
    (F.HST_EVR_CTL_EN r).key ≠ g.key ∧ (F.HST_EVR_BASE_PA r).key ≠ g.key ∧ (F.HST_EVR_CTL_LOG2 r).key ≠ g.key

theorem RingFree.inEventRing {l : List Fld} {a b : Dev} (hl : RingFree l) (h : Dev.sameRegsBut l a b) (x : Nat) :
    b.inEventRing x ↔ a.inEventRing x :=
  inEventRing_frame h (fun r hr g hg => (hl g hg).2 r hr) x

theorem ringFree_nil : RingFree [] := fun _ h => nomatch h

/-- The fields of a register-access event stand in another block than the rings. -/
theorem ringFree_regacc : RingFree regaccFields := by
  intro g hg
  simp only [regaccFields, List.mem_cons, List.not_mem_nil, or_false] at hg
  rcases hg with rfl | rfl | rfl <;>
  · refine ⟨by decide, fun r hr => ?_⟩
    simp only [Fld.key, F.HST_EVR_CTL_EN, F.HST_EVR_BASE_PA, F.HST_EVR_CTL_LOG2, F.RAS_REGACC_VALID, F.RAS_REGACC_OFFSET, F.RAS_REGACC_COUNT]
    omega

theorem onlyRegs_puts (d : Dev) (w : List (Fld × Nat)) : Dev.onlyRegs (w.map Prod.fst) d (d.puts w) :=
  ⟨sameRegsBut_puts d w, puts_mem w d, puts_sram w d, puts_events w d⟩

theorem onlyRegs_bump (d : Dev) (f : Fld) (n : Nat) : Dev.onlyRegs [f] d (d.bump f n) := ⟨sameRegsBut_bump d f n, rfl, rfl, rfl⟩

/-- The one event of a command that wrote some registers first. -/
theorem raise_one_after {l : List Fld} {a b : Dev} (h : Dev.onlyRegs l a b) (hl : RingFree l) (cls status source : Nat) (detail : List Nat) :
    Dev.raisedOne a (b.raise cls status source detail) cls status source detail :=
  ⟨b.eventOf cls status source detail, by rw [raise_events, h.2.2.2], rfl, rfl, rfl, rfl, h.1 _ fun g hg => (hl g hg).1⟩

/-- Its registers: those written first, and an event's. -/
theorem raise_regs_after {l : List Fld} {a b : Dev} (h : Dev.sameRegsBut l a b) (cls status source : Nat) (detail : List Nat) :
    Dev.sameRegsBut (l ++ eventFields) a (b.raise cls status source detail) :=
  sameRegsBut_trans (sameRegsBut_mono h fun _ => List.mem_append_left _)
    (sameRegsBut_mono (raise_regs b cls status source detail) fun _ => List.mem_append_right _)

/-- Its memory: the enabled event rings. -/
theorem raise_mem_after {l : List Fld} {a b : Dev} (h : Dev.onlyRegs l a b) (hl : RingFree l) (cls status source : Nat) (detail : List Nat) :
    Dev.sameMemButRings [] a (b.raise cls status source detail) :=
  sameMemButRings_trans (sameMemButRings_same h.2.1 h.2.2.1) (raise_mem b cls status source detail) (hl.inEventRing h.1)

/-- The frame of a command on the device that raises events, from the registers and the memory it leaves. -/
theorem onlyFieldsEv_of_dev {l : List Fld} {s : State} {d : Dev} (hr : Dev.sameRegsBut (l ++ eventFields) s.dev d)
    (hm : Dev.sameMemButRings [] s.dev d) : State.onlyFieldsEv l s { s with dev := d } :=
  ⟨⟨rfl, rfl, rfl⟩, hr, hm⟩

/-- A command on the device that raises one event, from the registers and the memory it leaves. -/
theorem answers_raisedOne {c : Instr} {s : State} {d : Dev} {l : List Fld} {cls status source : Nat} {detail : List Nat}
    (h : exec c s = .next { s with dev := d }) (he : Dev.raisedOne s.dev d cls status source detail)
    (hr : Dev.sameRegsBut (l ++ eventFields) s.dev d) (hm : Dev.sameMemButRings [] s.dev d) :
    Answers c s fun t => Dev.raisedOne s.dev t.dev cls status source detail ∧ State.onlyFieldsEv l s t :=
  ⟨_, h, he, onlyFieldsEv_of_dev hr hm⟩

theorem onlyFields_of_dev {l : List Fld} {s : State} {d : Dev} (h : Dev.onlyRegs l s.dev d) : State.onlyFields l s { s with dev := d } :=
  ⟨⟨rfl, rfl, rfl⟩, h.1, h.2.1, h.2.2.1⟩

/-! ### Refused register writes -/

/-- RAS_REGACC as a refused write leaves it, before its event. -/
def Dev.regaccNoted (d : Dev) (off : Nat) : Dev :=
  (d.puts [(F.RAS_REGACC_VALID, 1), (F.RAS_REGACC_OFFSET, off)]).bump F.RAS_REGACC_COUNT 1

theorem refuse_eq (d : Dev) (off v : Nat) : d.refuse off v = (d.regaccNoted off).raise evRegister stOk 0 [off, v] := rfl

theorem regaccNoted_frame (d : Dev) (off : Nat) : Dev.onlyRegs regaccFields d (d.regaccNoted off) := by
  have h1 := onlyRegs_puts d [(F.RAS_REGACC_VALID, 1), (F.RAS_REGACC_OFFSET, off)]
  have h2 := onlyRegs_bump (d.puts [(F.RAS_REGACC_VALID, 1), (F.RAS_REGACC_OFFSET, off)]) F.RAS_REGACC_COUNT 1
  exact onlyRegs_trans (onlyRegs_mono h1 (by simp [regaccFields])) (onlyRegs_mono h2 (by simp [regaccFields]))

/-- A refused write is one register-access event with its offset and value (R7). -/
theorem refuse_raised (d : Dev) (off v : Nat) : Dev.raisedOne d (d.refuse off v) evRegister stOk 0 [off, v] := by
  rw [refuse_eq]
  exact raise_one_after (regaccNoted_frame d off) ringFree_regacc _ _ _ _

/-- The registers of a refused write. -/
theorem refuse_regs (d : Dev) (off v : Nat) : Dev.sameRegsBut (regaccFields ++ eventFields) d (d.refuse off v) :=
  raise_regs_after (regaccNoted_frame d off).1 evRegister stOk 0 [off, v]

/-- Its memory. -/
theorem refuse_mem (d : Dev) (off v : Nat) : Dev.sameMemButRings [] d (d.refuse off v) :=
  raise_mem_after (regaccNoted_frame d off) ringFree_regacc evRegister stOk 0 [off, v]

/-- A command whose effect is a refused write: one register-access event, RAS_REGACC, and nothing else (R7). -/
theorem refuse_answers {c : Instr} {s : State} {off v : Nat} (h : exec c s = .next { s with dev := s.dev.refuse off v }) :
    Answers c s fun t => Dev.raisedOne s.dev t.dev evRegister stOk 0 [off, v] ∧ State.onlyFieldsEv regaccFields s t :=
  answers_raisedOne h (refuse_raised s.dev off v) (refuse_regs s.dev off v) (refuse_mem s.dev off v)

end Sys2Proof.Machine
end

section
/-! PROOF. REGISTER_WRITE by offset: the register blocks, the doorbell slots, the registers that act as commands (R7 to R9, R312). -/

namespace Sys2Proof.Machine

open Sys2Proof

/-! ### A register write by its offset -/

theorem exec_registerWrite (s : State) (off size : Nat) (v : Word) (h : s.powered) :
    exec (.registerWrite off size v) s = .next (s.barWrite off size (v.toNat % 2 ^ (8 * size))) := if_pos h

/-- A 64-bit write carries its value as it is. -/
theorem word_mod (v : Word) : v.toNat % 2 ^ (8 * 8) = v.toNat := Nat.mod_eq_of_lt v.isLt

theorem barWrite_block (s : State) (off size v : Nat) (h : off < 0x2000000) (hm : off ≠ F.MBX_CTRL_GO.off ∨ size ≠ 8) :
    s.barWrite off size v = { s with dev := s.dev.blockWrite off size v } := by
  have h1 : ¬ 0x4000000 ≤ off := by omega
  have h2 : ¬ (off = F.MBX_CTRL_GO.off ∧ size = 8) := by omega
  simp only [State.barWrite, h1, h2, h, if_true, if_false]

theorem barWrite_doorbell (s : State) (off size v : Nat) (h : 0x2000000 ≤ off) (h' : off < 0x4000000) :
    s.barWrite off size v = { s with dev := s.dev.doorbellWrite off size v } := by
  have h1 : ¬ 0x4000000 ≤ off := by omega
  have h2 : ¬ (off = F.MBX_CTRL_GO.off ∧ size = 8) := by simp only [F.MBX_CTRL_GO]; omega
  have h3 : ¬ off < 0x2000000 := by omega
  simp only [State.barWrite, h1, h2, h3, if_false]

/-- An aligned 64-bit write of a listed register writes that register. -/
theorem exec_registerWrite_at (s : State) (off : Nat) (v : Word) (r : RegRow) (ix : List Nat) (h : s.powered) (ho : off < 0x2000000)
    (hm : off ≠ F.MBX_CTRL_GO.off) (ha : off % 8 = 0) (hr : regAt off = some (r, ix)) :
    exec (.registerWrite off 8 v) s = .next { s with dev := s.dev.regWrite r (ix.headD 0) (ix.getD 1 0) off v.toNat } := by
  rw [exec_registerWrite s off 8 v h, word_mod, barWrite_block s off 8 _ ho (.inl hm)]
  simp [Dev.blockWrite, ha, hr]

/-- A write below the doorbells that is no aligned 64-bit write of a listed register without a reserved value is refused (R7, R8, R9). -/
theorem blockWrite_refused (d : Dev) (off size v : Nat)
    (h : size ≠ 8 ∨ off % 8 ≠ 0 ∨ regAt off = none ∨ ∃ r : RegRow × List Nat, regAt off = some r ∧ reservedValue r.1.base v = true) :
    d.blockWrite off size v = d.refuse off v := by
  unfold Dev.blockWrite
  split
  · rfl
  · rename_i h0
    rcases h with h | h | h | ⟨⟨r, ix⟩, h, hv⟩
    · exact absurd (.inl h) h0
    · exact absurd (.inr h) h0
    · rw [h]
    · rw [h]
      exact if_pos hv

/-- A write to a doorbell slot of another size or elsewhere in the slot is refused (R312). -/
theorem doorbellWrite_refused (d : Dev) (off size v : Nat) (h0 : 0x2000000 ≤ off)
    (h : (size ≠ 4 ∧ size ≠ 8) ∨ off % 128 ∉ [0x00, 0x08, 0x10]) : d.doorbellWrite off size v = d.refuse off v := by
  have hmod : (off - 0x2000000) % 128 = off % 128 := by omega
  unfold Dev.doorbellWrite
  simp only [hmod]
  split
  · rfl
  · rename_i hs
    have hs' : off % 128 ∉ [0x00, 0x08, 0x10] := by
      rcases h with h | h
      · simp [h] at hs
      · exact h
    simp only [List.mem_cons, List.not_mem_nil, or_false, not_or] at hs'
    split
    · exact absurd ‹_› hs'.1
    · exact absurd ‹_› hs'.2.1
    · exact absurd ‹_› hs'.2.2
    · rfl

/-- A 64-bit write into the slot of queue `q`, `k` bytes above its start. -/
theorem exec_registerWrite_doorbell (s : State) (q : Fin 262144) (k : Nat) (v : Word) (hk : k < 128) (h : s.powered) :
    exec (.registerWrite (doorbell q + k) 8 v) s = .next { s with dev := s.dev.doorbellWrite (doorbell q + k) 8 v.toNat } := by
  have hq := q.isLt
  rw [exec_registerWrite _ _ _ _ h, word_mod, barWrite_doorbell] <;> unfold doorbell <;> omega

/-- The queue of a byte of its doorbell slot. -/
theorem doorbell_queue (q : Fin 262144) (k : Nat) (hk : k < 128) : (doorbell q + k - 0x2000000) / 128 = q := by unfold doorbell; omega

/-- The place of that byte in the slot. -/
theorem doorbell_place (q : Fin 262144) (k : Nat) (hk : k < 128) : (doorbell q + k - 0x2000000) % 128 = k := by unfold doorbell; omega

theorem doorbellWrite_dbPi (d : Dev) (q : Fin 262144) (v : Nat) : d.doorbellWrite (doorbell q + 0x00) 8 v = d.dbPi q v := by
  simp only [Dev.doorbellWrite, doorbell_queue q 0x00 (by decide), doorbell_place q 0x00 (by decide)]
  rfl

theorem doorbellWrite_cqCi (d : Dev) (q : Fin 262144) (v : Nat) : d.doorbellWrite (doorbell q + 0x08) 8 v = d.cqCi q v := by
  simp only [Dev.doorbellWrite, doorbell_queue q 0x08 (by decide), doorbell_place q 0x08 (by decide)]
  rfl

theorem doorbellWrite_qctrl (d : Dev) (q : Fin 262144) (v : Nat) :
    d.doorbellWrite (doorbell q + 0x10) 8 v = d.qctrl q (doorbell q + 0x10) v := by
  simp only [Dev.doorbellWrite, doorbell_queue q 0x10 (by decide), doorbell_place q 0x10 (by decide)]
  rfl

/-! ### The registers of the statement -/

theorem regAt_evmap : ∀ i : Fin 64, regAt (F.HST_EVMAP_RING i).off = some (rowHstEvmap, [i.val]) := by decide

theorem regAt_idfId : regAt F.IDF_ID_CLUSTERS.off = some (rowIdfId, []) := by decide

theorem regAt_kskWinBase : regAt F.KSK_WIN_BASE_BASE.off = some (rowKskWinBase, []) := by decide

theorem regAt_rasCtrl : regAt F.RAS_CTRL_SVC.off = some (rowRasCtrl, []) := by decide

/-- HST_EVMAP is a plain register of one field. -/
theorem regWrite_evmap (d : Dev) (i : Fin 64) (j k v : Nat) :
    d.regWrite rowHstEvmap j k (F.HST_EVMAP_RING i).off v = d.put (F.HST_EVMAP_RING i) (bits v 5 0) := rfl

/-- Every field of IDF_ID is read-only. -/
theorem regWrite_idfId (d : Dev) (j k off v : Nat) : d.regWrite rowIdfId j k off v = d := rfl

theorem regWrite_kskWinBase (d : Dev) (j k off v : Nat) : d.regWrite rowKskWinBase j k off v = d.winBase v := rfl

theorem regWrite_rasCtrl (d : Dev) (j k off v : Nat) : d.regWrite rowRasCtrl j k off v = d.serviceWrite (bits v 0 0) := rfl

theorem barWrite_past (s : State) (off size v : Nat) (h : 0x4000000 ≤ off) : s.barWrite off size v = s := if_pos h

/-- A register write that the device refuses. -/
theorem registerWrite_refused (s : State) (off size : Nat) (v : Word) (h : s.powered)
    (hb : s.barWrite off size (v.toNat % 2 ^ (8 * size)) = { s with dev := s.dev.refuse off (v.toNat % 2 ^ (8 * size)) }) :
    Answers (.registerWrite off size v) s fun t =>
      Dev.raisedOne s.dev t.dev evRegister stOk 0 [off, v.toNat % 2 ^ (8 * size)] ∧ State.onlyFieldsEv regaccFields s t :=
  refuse_answers ((exec_registerWrite s off size v h).trans (congrArg _ hb))

/-- HST_EVMAP takes its six bits. -/
theorem registerWrite_evmap (s : State) (i : Fin 64) (v : Word) (hs : s.powered) :
    Answers (.registerWrite (F.HST_EVMAP_RING i).off 8 v) s fun t =>
      t.dev.get (F.HST_EVMAP_RING i) = v.toNat % 64 ∧ t.dev.events = s.dev.events ∧ State.onlyFields [F.HST_EVMAP_RING i] s t := by
  have hoff : (F.HST_EVMAP_RING i).off = 0x1401800 + 0x8 * i.val := rfl
  have hexec := exec_registerWrite_at s _ v _ _ hs (by omega) (by simp only [hoff, F.MBX_CTRL_GO]; omega) (by omega) (regAt_evmap i)
  rw [regWrite_evmap] at hexec
  refine ⟨_, hexec, ?_, rfl, onlyFields_of_dev (onlyRegs_put _ _ _ _ (by simp))⟩
  rw [get_put_same]
  simp [bits, F.HST_EVMAP_RING]

/-- A register of read-only fields keeps its value. -/
theorem registerWrite_idfId (s : State) (v : Word) (hs : s.powered) :
    Answers (.registerWrite F.IDF_ID_CLUSTERS.off 8 v) s fun t => t.dev.events = s.dev.events ∧ State.onlyFields [] s t := by
  have hexec := exec_registerWrite_at s _ v _ _ hs (by decide) (by decide) (by decide) regAt_idfId
  rw [regWrite_idfId] at hexec
  exact ⟨_, hexec, rfl, onlyFields_of_dev (onlyRegs_refl _ _)⟩

theorem exec_registerWrite_kskWinBase (s : State) (v : Word) (hs : s.powered) :
    exec (.registerWrite F.KSK_WIN_BASE_BASE.off 8 v) s = exec (.kskWinBaseWrite v) s := by
  rw [exec_registerWrite_at s _ v _ _ hs (by decide) (by decide) (by decide) regAt_kskWinBase, regWrite_kskWinBase]
  exact (onDev_powered (fun d => d.winBase v.toNat) s hs).symm

theorem exec_registerWrite_service (s : State) (hs : s.powered) :
    exec (.registerWrite F.RAS_CTRL_SVC.off 8 1#64) s = exec (.serviceStateWrite true) s := by
  rw [exec_registerWrite_at s _ _ _ _ hs (by decide) (by decide) (by decide) regAt_rasCtrl, regWrite_rasCtrl]
  exact (onDev_powered (fun d => d.serviceWrite (b2n true)) s hs).symm

theorem exec_registerWrite_mbxGo (s : State) (hs : s.powered) : exec (.registerWrite F.MBX_CTRL_GO.off 8 1#64) s = exec .mbxGo s := by
  rw [exec_registerWrite _ _ _ _ hs]
  exact (if_pos hs : exec .mbxGo s = .next s.mailboxGo).symm

theorem exec_registerWrite_dbPi (s : State) (q : Fin 262144) (v : Word) (hs : s.powered) :
    exec (.registerWrite (doorbell q) 8 v) s = exec (.dbPi q v.toNat) s := by
  refine (exec_registerWrite_doorbell s q 0x00 v (by decide) hs).trans ?_
  rw [doorbellWrite_dbPi]
  exact (onDev_powered (fun d => d.dbPi q v.toNat) s hs).symm

theorem exec_registerWrite_cqCi (s : State) (q : Fin 262144) (v : Word) (hs : s.powered) :
    exec (.registerWrite (doorbell q + 0x08) 8 v) s = exec (.cqCi q v.toNat) s := by
  rw [exec_registerWrite_doorbell s q 0x08 v (by decide) hs, doorbellWrite_cqCi]
  exact (onDev_powered (fun d => d.cqCi q v.toNat) s hs).symm

/-- QCTRL with one command bit acts as `f`, the command of that bit. -/
theorem exec_registerWrite_qctrl (s : State) (q : Fin 262144) (v : Word) (hs : s.powered) (f : Dev → Dev)
    (h : s.dev.qctrl q (doorbell q + 0x10) v.toNat = f s.dev) :
    exec (.registerWrite (doorbell q + 0x10) 8 v) s = onDev f s := by
  rw [exec_registerWrite_doorbell s q 0x10 v (by decide) hs, doorbellWrite_qctrl, onDev_powered f s hs, h]

/-- Settles O52: by the place of the write, and for each command register by the command it stands for. -/
theorem registerWritesReachTheirRegisters : Obligations.RegisterWritesReachTheirRegisters := by
  refine ⟨fun s off size v hs => ⟨fun h => ?_, fun h hm hbad => ?_, fun h h' hbad => ?_⟩, registerWrite_evmap, registerWrite_idfId,
    fun s q v hs => ?_⟩
  · exact ⟨s, (exec_registerWrite s off size v hs).trans (congrArg _ (barWrite_past s off size _ h)), rfl⟩
  · refine registerWrite_refused s off size v hs ?_
    rw [barWrite_block s off size _ h hm, blockWrite_refused]
    by_cases h8 : size = 8
    · subst h8
      rwa [word_mod]
    · exact .inl h8
  · refine registerWrite_refused s off size v hs ?_
    rw [barWrite_doorbell s off size _ h h', doorbellWrite_refused _ _ _ _ h hbad]
  · exact ⟨exec_registerWrite_dbPi s q v hs, exec_registerWrite_cqCi s q v hs,
      exec_registerWrite_qctrl s q 1#64 hs (fun d => d.queueEnable q) rfl,
      exec_registerWrite_qctrl s q 2#64 hs (fun d => d.queueDisable q) rfl,
      exec_registerWrite_qctrl s q 4#64 hs (fun d => d.queueRestart q) rfl,
      exec_registerWrite_kskWinBase s v hs, exec_registerWrite_mbxGo s hs, exec_registerWrite_service s hs⟩

end Sys2Proof.Machine
end

section
/-! SUPPORT. What an event leaves of the objects and the control plane, and the bytes of a response (R353, R359, R389). -/

namespace Sys2Proof.Machine

open Sys2Proof

/-! ### Objects and the control plane -/

/-- The objects and the control plane's hidden state agree. -/
def Dev.sameControl (a b : Dev) : Prop := b.objs = a.objs ∧ b.ctl = a.ctl

theorem sameControl_trans {a b c : Dev} (h : Dev.sameControl a b) (k : Dev.sameControl b c) : Dev.sameControl a c :=
  ⟨k.1.trans h.1, k.2.trans h.2⟩

theorem sendVector_control (d : Dev) (v : Nat) : Dev.sameControl d (d.sendVector v) := by
  unfold Dev.sendVector
  split <;> exact ⟨rfl, rfl⟩

theorem keepRecord_control (d : Dev) (pa : Nat) (rec : List Byte) (llu : Bool) : Dev.sameControl d (d.keepRecord pa rec llu) := by
  unfold Dev.keepRecord
  split <;> exact ⟨rfl, rfl⟩

theorem writeRecord_control (d : Dev) (pa : Nat) (rec : List Byte) (llu : Bool) : Dev.sameControl d (d.writeRecord pa rec llu) := by
  have h := keepRecord_control d pa rec llu
  unfold Dev.writeRecord
  dsimp only
  split
  · exact h
  · exact sameControl_trans h ⟨rfl, rfl⟩

theorem ringWrite_control (d : Dev) (r : Nat) (rec : List Byte) : Dev.sameControl d (d.ringWrite r rec) := by
  unfold Dev.ringWrite
  split
  · exact ⟨rfl, rfl⟩
  · dsimp only
    split
    · exact ⟨rfl, rfl⟩
    · exact sameControl_trans (writeRecord_control d _ rec false) (sendVector_control _ _)

theorem notify_control (d : Dev) (rec : List Byte) : Dev.sameControl d (d.notify rec) := by
  unfold Dev.notify
  split
  · exact ⟨rfl, rfl⟩
  · split <;> exact ⟨rfl, rfl⟩

/-- An event writes no object and leaves the control plane alone. -/
theorem raise_control (d : Dev) (cls status source : Nat) (detail : List Nat) : Dev.sameControl d (d.raise cls status source detail) := by
  rw [raise_eq]
  exact sameControl_trans (b := d.logged _) ⟨rfl, rfl⟩ (sameControl_trans (ringWrite_control _ _ _) (notify_control _ _))

theorem puts_control (d : Dev) (w : List (Fld × Nat)) : Dev.sameControl d (d.puts w) := ⟨puts_objs w d, puts_ctl w d⟩

theorem sameControl_obj {a b : Dev} (h : Dev.sameControl a b) (k : Nat) : b.obj k = a.obj k := by
  unfold Dev.obj
  rw [h.1]

/-- An object reads what was written to it; every other object reads as before. -/
theorem obj_setObj (d : Dev) (k j : Nat) (v : List Byte) : (d.setObj k v).obj j = if j = k then v else d.obj j :=
  table_get_set objDefault d.objs k j v

theorem setObj_core (d : Dev) (k : Nat) (v : List Byte) : Dev.sameCore d (d.setObj k v) := ⟨rfl, rfl, rfl, rfl⟩

/-- A little-endian encoding reads back the number, cut to its bytes. -/
theorem leNat_leBytes (n : Nat) : ∀ x : Nat, leNat (leBytes n x) = x % 256 ^ n := by
  induction n with
  | zero => intro x; simp [leBytes, leNat, Nat.mod_one]
  | succ n ih =>
    intro x
    rw [leBytes, leNat, ih, BitVec.toNat_ofNat, pow_succ' 256 n]
    exact Nat.mod_mul.symm

theorem length_leBytes (n : Nat) : ∀ x : Nat, (leBytes n x).length = n := by
  induction n with
  | zero => intro x; rfl
  | succ n ih => intro x; simp [leBytes, ih]

/-! ### Responses (R353) -/

/-- The register writes that show a response in the mailbox. -/
def responseWrites (frame : List Byte) : List (Fld × Nat) :=
  ((List.range 182).map fun i => (F.MBX_RSP_DATA i, leNat ((frame.drop (8 * i)).take 8))) ++
    [(F.MBX_STATUS_RSP_LEN, frame.length), (F.MBX_STATUS_STATE, 2)]

theorem foldl_put_eq_puts (f : Nat → Fld) (v : Nat → Nat) (l : List Nat) :
    ∀ d : Dev, l.foldl (fun d i => d.put (f i) (v i)) d = d.puts (l.map fun i => (f i, v i)) := by
  induction l with
  | nil => intro d; rfl
  | cons i r ih => intro d; exact ih _

theorem reply_mailbox (d : Dev) (frame : List Byte) :
    d.reply srcMailbox frame = (d.puts (responseWrites frame)).raise evMailbox stOk 0 [] := by
  unfold Dev.reply responseWrites Dev.putRsp
  rw [if_pos rfl, foldl_put_eq_puts, puts_append]

theorem reply_other (d : Dev) (source : Nat) (frame : List Byte) (h : source ≠ srcMailbox) : d.reply source frame = d.emit (.lop source frame) :=
  if_neg h

theorem responseWrites_fields (frame : List Byte) : ∀ f ∈ (responseWrites frame).map Prod.fst, f ∈ mailboxFields := by
  intro f hf
  simp only [responseWrites, List.map_append, List.map_map, List.mem_append, List.mem_map, List.mem_range, Function.comp_apply, List.map_cons,
    List.map_nil, List.mem_cons, List.not_mem_nil, or_false] at hf
  simp only [mailboxFields, List.mem_cons, List.mem_map, List.mem_range]
  tauto

theorem responseWrites_frame (d : Dev) (frame : List Byte) : Dev.onlyRegs mailboxFields d (d.puts (responseWrites frame)) :=
  onlyRegs_mono (onlyRegs_puts d _) (responseWrites_fields frame)

/-- The mailbox's registers stand in another block than the rings. -/
theorem ringFree_mailbox : RingFree mailboxFields := by
  have key : ∀ g : Fld, 0x1E00000 ≤ g.off → F.RAS_EVSEQ_NEXT.key ≠ g.key ∧ ∀ r < 64,
      (F.HST_EVR_CTL_EN r).key ≠ g.key ∧ (F.HST_EVR_BASE_PA r).key ≠ g.key ∧ (F.HST_EVR_CTL_LOG2 r).key ≠ g.key := by
    intro g hg
    simp only [Fld.key, F.RAS_EVSEQ_NEXT, F.HST_EVR_CTL_EN, F.HST_EVR_BASE_PA, F.HST_EVR_CTL_LOG2]
    exact ⟨by omega, fun r hr => by omega⟩
  intro g hg
  refine key g ?_
  simp only [mailboxFields, List.mem_cons, List.mem_map] at hg
  rcases hg with rfl | rfl | ⟨i, -, rfl⟩ <;> simp [F.MBX_STATUS_RSP_LEN, F.MBX_STATUS_STATE, F.MBX_RSP_DATA]
  omega

/-- An event's fields are none of the mailbox's status. -/
theorem raise_mailboxStatus (d : Dev) (cls status source : Nat) (detail : List Nat) (f : Fld) (h : f.off = F.MBX_STATUS_STATE.off) (hlo : f.lo < 64) :
    (d.raise cls status source detail).get f = d.get f := by
  refine raise_regs d cls status source detail f fun g hg => ?_
  simp only [eventFields, List.mem_cons, List.mem_flatMap, List.mem_range, List.not_mem_nil, or_false] at hg
  simp only [F.MBX_STATUS_STATE] at h
  rcases hg with rfl | ⟨q, hq, rfl | rfl | rfl⟩ <;>
    simp only [Fld.key, h, F.RAS_EVSEQ_NEXT, F.HST_EVR_CTL_LOST, F.HST_EVR_CTL_OVF, F.HST_EVR_IDX_PI] <;> omega

/-- The mailbox's status after the writes that show a response. -/
theorem responseWrites_status (d : Dev) (frame : List Byte) :
    (d.puts (responseWrites frame)).get F.MBX_STATUS_STATE = 2 ∧
      (d.puts (responseWrites frame)).get F.MBX_STATUS_RSP_LEN = frame.length % 2 ^ F.MBX_STATUS_RSP_LEN.w := by
  rw [responseWrites, puts_append, puts_cons, puts_cons, puts_nil]
  exact ⟨get_put_same _ _ _, by rw [get_put_ne _ _ _ _ (by decide), get_put_same]⟩

/-- A response reaches its source. -/
theorem reply_respondedTo (d : Dev) (source : Nat) (frame : List Byte) : (d.reply source frame).respondedTo source frame := by
  unfold Dev.respondedTo
  split
  · rename_i h
    rw [h, reply_mailbox, raise_mailboxStatus _ _ _ _ _ F.MBX_STATUS_STATE rfl (by decide),
      raise_mailboxStatus _ _ _ _ _ F.MBX_STATUS_RSP_LEN rfl (by decide)]
    exact responseWrites_status d frame
  · rename_i h
    rw [reply_other d source frame h]
    rfl

/-- Its registers: the mailbox's and an event's. -/
theorem reply_regs (d : Dev) (source : Nat) (frame : List Byte) : Dev.sameRegsBut (mailboxFields ++ eventFields) d (d.reply source frame) := by
  by_cases h : source = srcMailbox
  · rw [h, reply_mailbox]
    exact raise_regs_after (responseWrites_frame d frame).1 _ _ _ _
  · rw [reply_other d source frame h]
    exact fun f _ => emit_get d _ f

/-- Its memory: the enabled event rings. -/
theorem reply_mem (d : Dev) (source : Nat) (frame : List Byte) : Dev.sameMemButRings [] d (d.reply source frame) := by
  by_cases h : source = srcMailbox
  · rw [h, reply_mailbox]
    exact raise_mem_after (responseWrites_frame d frame) ringFree_mailbox _ _ _ _
  · rw [reply_other d source frame h]
    exact sameMemButRings_same rfl rfl

/-- It writes no object and opens or ends no segmented write. -/
theorem reply_control (d : Dev) (source : Nat) (frame : List Byte) : Dev.sameControl d (d.reply source frame) := by
  by_cases h : source = srcMailbox
  · rw [h, reply_mailbox]
    exact sameControl_trans (puts_control d _) (raise_control _ _ _ _ _)
  · rw [reply_other d source frame h]
    exact ⟨rfl, rfl⟩

/-- A response that leaves a device whose registers but those of `l`, and whose memory, are as in `s`. -/
theorem replied_of_reply {s : State} {d : Dev} {l : List Fld} (source : Nat) (frame : List Byte) (p : List Instr) (v : Vault) (fl : Flash)
    (hp : p = s.pending) (h : Dev.onlyRegs l s.dev d) (hl : RingFree l) :
    State.replied source frame v fl l s ⟨p, v, fl, d.reply source frame⟩ := by
  refine ⟨hp, rfl, rfl, reply_respondedTo d source frame, ?_, ?_⟩
  · refine sameRegsBut_trans (sameRegsBut_mono h.1 ?_) (sameRegsBut_mono (reply_regs d source frame) ?_)
    · intro f hf
      simp [hf]
    · intro f hf
      rw [List.append_assoc]
      exact List.mem_append_right _ hf
  · exact sameMemButRings_trans (sameMemButRings_same h.2.1 h.2.2.1) (reply_mem d source frame) (hl.inEventRing h.1)

end Sys2Proof.Machine
end

section
/-! PROOF. Frames of the control plane: discarded, unserved, answered; READ and READ_SEG (R354, R355). -/

namespace Sys2Proof.Machine

open Sys2Proof

/-! ### A frame arrives (R354) -/

theorem onFrame_powered (source : Nat) (raw : List Byte) (mine : Nat → Bool) (s : State) (h : s.powered) (hc : s.dev.carries source = true) :
    onFrame source raw mine s = .next (s.frameIn source raw mine) :=
  if_pos (by rw [show s.dev.pwr.pwrgd = true from h, hc]; rfl)

/-- The four commands of a frame, each with its operation. -/
def frameCommands (source : Nat) (raw : List Byte) : List (Instr × Nat) :=
  [(.read source raw, 1), (.write source raw, 2), (.readSeg source raw, 3), (.writeSeg source raw, 4)]

/-- Each of the four frame commands takes the frames of its own operation, and of the other three none. -/
theorem exec_frameCommand (s : State) (source : Nat) (raw : List Byte) (c : Instr) (op : Nat) (h : s.powered)
    (hc : s.dev.carries source = true) (hm : (c, op) ∈ frameCommands source raw) :
    ∃ mine : Nat → Bool, exec c s = .next (s.frameIn source raw mine) ∧ mine op = true ∧
      ∀ o : Nat, o ≠ op → 0 < o → o ≤ 4 → mine o = false := by
  simp only [frameCommands, List.mem_cons, Prod.mk.injEq, List.not_mem_nil, or_false] at hm
  rcases hm with ⟨rfl, rfl⟩ | ⟨rfl, rfl⟩ | ⟨rfl, rfl⟩ | ⟨rfl, rfl⟩
  · exact ⟨fun op => op == 1 || op == 0 || 4 < op, onFrame_powered _ _ _ s h hc, rfl, fun o h1 h2 h3 => by simp; omega⟩
  · exact ⟨(· == 2), onFrame_powered _ _ _ s h hc, rfl, fun o h1 _ _ => by simp [h1]⟩
  · exact ⟨(· == 3), onFrame_powered _ _ _ s h hc, rfl, fun o h1 _ _ => by simp [h1]⟩
  · exact ⟨(· == 4), onFrame_powered _ _ _ s h hc, rfl, fun o h1 _ _ => by simp [h1]⟩

/-- The device with one more discarded frame counted in object 0x1100.0B. -/
def Dev.discarded (d : Dev) : Dev := d.setObj 0x11000B (leBytes 4 (satTo (2 ^ 32 - 1) (d.objNat 0x11000B + 1)))

theorem frameIn_none (s : State) (source : Nat) (raw : List Byte) (mine : Nat → Bool) (h : readFrame raw = none) :
    s.frameIn source raw mine = { s with dev := s.dev.discarded } := by
  unfold State.frameIn
  rw [h]
  rfl

theorem frameIn_some (s : State) (source : Nat) (raw : List Byte) (mine : Nat → Bool) (f : LopFrame) (h : readFrame raw = some f) :
    s.frameIn source raw mine = if mine f.op && s.dev.serves f.key then s.serveFrame source raw f else s := by
  unfold State.frameIn
  rw [h]

/-- The count of discarded frames saturates at 32 bits. -/
theorem discarded_count (d : Dev) : d.discarded.objNat 0x11000B = min (2 ^ 32 - 1) (d.objNat 0x11000B + 1) := by
  rw [Dev.discarded, Dev.objNat, obj_setObj, if_pos rfl, leNat_leBytes]
  unfold satTo
  split <;> omega

/-- With its operation and its object served, a frame is served by its command. -/
theorem exec_served (s : State) (source : Nat) (raw : List Byte) (c : Instr) (op : Nat) (f : LopFrame) (h : s.powered)
    (hc : s.dev.carries source = true) (hm : (c, op) ∈ frameCommands source raw)
    (hf : readFrame raw = some f) (hs : s.dev.serves f.key = true) (ho : f.op = op) :
    exec c s = .next (s.serveFrame source raw f) := by
  obtain ⟨mine, hexec, hmine, -⟩ := exec_frameCommand s source raw c op h hc hm
  rw [hexec, frameIn_some s source raw mine f hf, ho, hmine, hs]
  rfl

/-! ### Its header -/

/-- Only a segment has an OFFSET. -/
theorem offset_of_not_reserved {f : LopFrame} (h : f.reserved = false) (ho : f.op < 3) : f.offset = 0 := by
  simp only [LopFrame.reserved, Bool.or_eq_false_iff] at h
  obtain ⟨⟨-, hoff⟩, -⟩ := h
  simpa [ho] using hoff

theorem auth_none {f : LopFrame} (source : Nat) (h : bit f.flags 1 = false) : f.auth source = none := by
  simp [LopFrame.auth, h]

/-! ### Responses without data -/

/-- The request that a frame of source `source` stands for before its value is known. -/
def frameReq (source : Nat) (f : LopFrame) (raw : List Byte) : LopReq := ⟨source, f.reqId, f.op, f.key, [], none, f.offset, some raw⟩

/-- A response without a trailer (R359). -/
theorem responseFrame_plain (k : Option (List Byte)) (r : LopReq) (status : Nat) (data : List Byte) (flags offset : Nat) (h : r.auth = none) :
    responseFrame k r status data flags offset = lopFrame (r.op + 0x80) r.reqId r.key flags status data offset := by
  unfold responseFrame
  rw [h]

/-- A request without a trailer is answered with a status alone, by a device whose registers but those of `l` are as in `s`. -/
theorem answer_replied {s t : State} {l : List Fld} (k : Option (List Byte)) (r : LopReq) (status : Nat) (ha : r.auth = none)
    (hp : t.pending = s.pending) (h : Dev.onlyRegs l s.dev t.dev) (hl : RingFree l) :
    State.replied r.source (lopFrame (r.op + 0x80) r.reqId r.key 0 status [] r.offset) t.vault t.flash l s (t.answer k r status) := by
  unfold State.answer
  rw [responseFrame_plain _ _ _ _ _ _ ha]
  exact replied_of_reply r.source _ t.pending t.vault t.flash hp h hl

/-- The same of a frame that reaches no rule. -/
theorem respond_replied {s t : State} (source : Nat) (f : LopFrame) (raw : List Byte) (status : Nat) (hp : t.pending = s.pending)
    (h : Dev.sameCore s.dev t.dev) :
    State.replied source (lopFrame (f.op + 0x80) f.reqId f.key 0 status [] f.offset) t.vault t.flash [] s
      (t.respond (frameReq source f raw) status) :=
  answer_replied none (frameReq source f raw) status rfl hp (onlyRegs_core [] h) ringFree_nil

theorem answer_control (s : State) (k : Option (List Byte)) (r : LopReq) (status : Nat) : Dev.sameControl s.dev (s.answer k r status).dev :=
  reply_control s.dev r.source _

theorem respond_control (s : State) (r : LopReq) (status : Nat) : Dev.sameControl s.dev (s.respond r status).dev :=
  reply_control s.dev r.source _

/-! ### Serving a frame, by its fields -/

theorem serveFrame_reserved (s : State) (source : Nat) (raw : List Byte) (f : LopFrame) (h : f.reserved = true) :
    s.serveFrame source raw f = s.respond (frameReq source f raw) stFeature := if_pos h

theorem serveFrame_tooLong (s : State) (source : Nat) (raw : List Byte) (f : LopFrame) (h : f.reserved = false) (hl : 1400 < f.length) :
    s.serveFrame source raw f = s.respond (frameReq source f raw) stBounds := by
  simp [State.serveFrame, frameReq, h, hl]

theorem serveFrame_read (s : State) (source : Nat) (raw : List Byte) (f : LopFrame) (h : f.reserved = false) (hl : f.length ≤ 1400)
    (ho : f.op = 1) : s.serveFrame source raw f = s.serveRead (frameReq source f raw) false := by
  simp [State.serveFrame, frameReq, h, Nat.not_lt.mpr hl, ho]

theorem serveFrame_readSeg (s : State) (source : Nat) (raw : List Byte) (f : LopFrame) (h : f.reserved = false) (hl : f.length ≤ 1400)
    (ho : f.op = 3) : s.serveFrame source raw f = s.serveRead (frameReq source f raw) true := by
  simp [State.serveFrame, frameReq, h, Nat.not_lt.mpr hl, ho]

theorem serveFrame_unwritable (s : State) (source : Nat) (raw : List Byte) (f : LopFrame) (h : f.reserved = false) (hl : f.length ≤ 1400)
    (ho : f.op = 2 ∨ f.op = 4) (hw : (writable f.key).2 = none) :
    s.serveFrame source raw f = s.respond (frameReq source f raw) (writable f.key).1 := by
  obtain ⟨st, hst⟩ : ∃ st : Nat, writable f.key = (st, none) := ⟨_, Prod.ext rfl hw⟩
  have h1 : f.op ≠ 1 ∧ f.op ≠ 3 := by omega
  simp [State.serveFrame, frameReq, h, Nat.not_lt.mpr hl, h1, hst]

theorem serveFrame_write (s : State) (source : Nat) (raw : List Byte) (f : LopFrame) (o : ObjRow) (h : f.reserved = false)
    (hl : f.length ≤ 1400) (ho : f.op = 2) (hw : writable f.key = (stOk, some o)) :
    s.serveFrame source raw f = s.writeValue o f source 0 raw f.data := by
  simp [State.serveFrame, h, Nat.not_lt.mpr hl, ho, hw]

theorem serveFrame_writeSeg (s : State) (source : Nat) (raw : List Byte) (f : LopFrame) (o : ObjRow) (h : f.reserved = false)
    (hl : f.length ≤ 1400) (ho : f.op = 4) (hw : writable f.key = (stOk, some o)) :
    s.serveFrame source raw f = s.writeSegment o f source raw := by
  simp [State.serveFrame, h, Nat.not_lt.mpr hl, ho, hw]

/-! ### Frames that reach no object -/

/-- A frame that is none is discarded and counted. -/
theorem frame_discarded (s : State) (source : Nat) (raw : List Byte) (c : Instr) (op : Nat) (h : s.powered) (hc : s.dev.carries source = true) (hm : (c, op) ∈ frameCommands source raw)
    (hf : readFrame raw = none) :
    Answers c s fun t =>
      t.dev.objNat 0x11000B = min (2 ^ 32 - 1) (s.dev.objNat 0x11000B + 1) ∧ t.dev.outs = s.dev.outs ∧ State.onlyFields [] s t := by
  obtain ⟨mine, hexec, -, -⟩ := exec_frameCommand s source raw c op h hc hm
  rw [frameIn_none s source raw mine hf] at hexec
  exact ⟨_, hexec, discarded_count s.dev, rfl, onlyFields_of_dev (onlyRegs_core [] (setObj_core _ _ _))⟩

/-- A frame of an object that is not served, or of another command's operation, is left alone. -/
theorem frame_unserved (s : State) (source : Nat) (raw : List Byte) (c : Instr) (op : Nat) (f : LopFrame) (h : s.powered)
    (hc : s.dev.carries source = true) (hm : (c, op) ∈ frameCommands source raw)
    (hf : readFrame raw = some f) (hn : s.dev.serves f.key = false ∨ (f.op ≠ op ∧ 0 < f.op ∧ f.op ≤ 4)) : Answers c s fun t => t = s := by
  obtain ⟨mine, hexec, -, hother⟩ := exec_frameCommand s source raw c op h hc hm
  have hcond : (mine f.op && s.dev.serves f.key) = false := by
    rcases hn with hn | ⟨h1, h2, h3⟩
    · rw [hn, Bool.and_false]
    · rw [hother f.op h1 h2 h3, Bool.false_and]
  rw [frameIn_some s source raw mine f hf, hcond] at hexec
  exact ⟨s, hexec, rfl⟩

/-- A frame that its command takes and that `serveFrame` answers with a status alone. -/
theorem frame_status (s : State) (source : Nat) (raw : List Byte) (c : Instr) (op : Nat) (f : LopFrame) (status : Nat) (h : s.powered)
    (hc : s.dev.carries source = true) (hm : (c, op) ∈ frameCommands source raw)
    (hf : readFrame raw = some f) (hs : s.dev.serves f.key = true) (ho : f.op = op)
    (hr : s.serveFrame source raw f = s.respond (frameReq source f raw) status) :
    Answers c s (State.replied source (lopFrame (op + 0x80) f.reqId f.key 0 status [] f.offset) s.vault s.flash [] s) := by
  refine ⟨_, (exec_served s source raw c op f h hc hm hf hs ho).trans (congrArg _ hr), ?_⟩
  rw [← ho]
  exact respond_replied source f raw status rfl ⟨rfl, rfl, rfl, rfl⟩

/-! ### Reads (R355) -/

theorem refreshQuote_other (s : State) (key offset : Nat) (h : key ≠ 0x500402) : s.refreshQuote key offset = (stOk, s) := if_pos h

/-- A read of an object other than the quote answers what `readObject` says. -/
theorem serveRead_other (s : State) (r : LopReq) (seg : Bool) (h : r.key ≠ 0x500402) :
    s.serveRead r seg =
      if (s.readObject r.key).1 ≠ stOk then s.respond r (s.readObject r.key).1
      else if seg then
        if (s.readObject r.key).2.length < r.offset then s.respond r stBounds
        else { s with dev := s.dev.reply r.source (segReply r (s.readObject r.key).2 r.offset) }
      else if 1400 < (s.readObject r.key).2.length then s.respond r stBounds
      else { s with dev := s.dev.reply r.source (responseFrame none r stOk (s.readObject r.key).2 0 0) } := by
  unfold State.serveRead
  rw [refreshQuote_other s r.key r.offset h]
  exact if_neg (fun h => h rfl)

/-- A response with a frame of data. -/
theorem data_replied {s t : State} (source : Nat) (frame : List Byte) (hp : t.pending = s.pending) (h : Dev.sameCore s.dev t.dev) :
    State.replied source frame t.vault t.flash [] s { t with dev := t.dev.reply source frame } :=
  replied_of_reply source frame t.pending t.vault t.flash hp (onlyRegs_core [] h) ringFree_nil

/-- A frame that a source sends and the device takes is served by the command of its operation. -/
theorem exec_taken (s : State) (source : Nat) (raw : List Byte) (f : LopFrame) (c : Instr) (op : Nat) (ht : s.takesLop source raw f)
    (hm : (c, op) ∈ frameCommands source raw)
    (ho : f.op = op) : exec c s = .next (s.serveFrame source raw f) := by
  obtain ⟨hf, ⟨hp, hs, hc⟩, -, -⟩ := ht
  exact exec_served s source raw c op f hp hc hm hf hs ho

theorem exec_read (s : State) (source : Nat) (raw : List Byte) (f : LopFrame) (ht : s.takesLop source raw f) (ho : f.op = 1) :
    exec (.read source raw) s = .next (s.serveRead (frameReq source f raw) false) := by
  rw [exec_taken s source raw f _ 1 ht (by simp [frameCommands]) ho, serveFrame_read s source raw f ht.2.2.1 ht.2.2.2 ho]

theorem exec_readSeg (s : State) (source : Nat) (raw : List Byte) (f : LopFrame) (ht : s.takesLop source raw f) (ho : f.op = 3) :
    exec (.readSeg source raw) s = .next (s.serveRead (frameReq source f raw) true) := by
  rw [exec_taken s source raw f _ 3 ht (by simp [frameCommands]) ho, serveFrame_readSeg s source raw f ht.2.2.1 ht.2.2.2 ho]

theorem serveRead_status (s : State) (r : LopReq) (seg : Bool) (h : r.key ≠ 0x500402) (hv : (s.readObject r.key).1 ≠ stOk) :
    s.serveRead r seg = s.respond r (s.readObject r.key).1 := by
  rw [serveRead_other s r seg h, if_pos hv]

theorem serveRead_value (s : State) (r : LopReq) (h : r.key ≠ 0x500402) (hv : (s.readObject r.key).1 = stOk)
    (hl : (s.readObject r.key).2.length ≤ 1400) :
    s.serveRead r false = { s with dev := s.dev.reply r.source (responseFrame none r stOk (s.readObject r.key).2 0 0) } := by
  rw [serveRead_other s r false h, if_neg (not_not.mpr hv), if_neg Bool.false_ne_true, if_neg (Nat.not_lt.mpr hl)]

theorem serveRead_tooLong (s : State) (r : LopReq) (h : r.key ≠ 0x500402) (hv : (s.readObject r.key).1 = stOk)
    (hl : 1400 < (s.readObject r.key).2.length) : s.serveRead r false = s.respond r stBounds := by
  rw [serveRead_other s r false h, if_neg (not_not.mpr hv), if_neg Bool.false_ne_true, if_pos hl]

theorem serveRead_segment (s : State) (r : LopReq) (h : r.key ≠ 0x500402) (hv : (s.readObject r.key).1 = stOk)
    (hl : r.offset ≤ (s.readObject r.key).2.length) :
    s.serveRead r true = { s with dev := s.dev.reply r.source (segReply r (s.readObject r.key).2 r.offset) } := by
  rw [serveRead_other s r true h, if_neg (not_not.mpr hv), if_pos rfl, if_neg (Nat.not_lt.mpr hl)]

theorem serveRead_pastEnd (s : State) (r : LopReq) (h : r.key ≠ 0x500402) (hv : (s.readObject r.key).1 = stOk)
    (hl : (s.readObject r.key).2.length < r.offset) : s.serveRead r true = s.respond r stBounds := by
  rw [serveRead_other s r true h, if_neg (not_not.mpr hv), if_pos rfl, if_pos hl]

/-- READ answered with a status alone. -/
theorem read_status (s : State) (source : Nat) (raw : List Byte) (f : LopFrame) (status : Nat) (ht : s.takesLop source raw f) (ho : f.op = 1)
    (hr : s.serveRead (frameReq source f raw) false = s.respond (frameReq source f raw) status) :
    Answers (.read source raw) s (State.replied source (lopFrame 0x81 f.reqId f.key 0 status [] 0) s.vault s.flash [] s) := by
  have h := respond_replied (s := s) (t := s) source f raw status rfl ⟨rfl, rfl, rfl, rfl⟩
  rw [ho, offset_of_not_reserved ht.2.2.1 (by omega)] at h
  exact ⟨_, (exec_read s source raw f ht ho).trans (congrArg _ hr), h⟩

/-- READ_SEG answered with a status alone. -/
theorem readSeg_status (s : State) (source : Nat) (raw : List Byte) (f : LopFrame) (status : Nat) (ht : s.takesLop source raw f) (ho : f.op = 3)
    (hr : s.serveRead (frameReq source f raw) true = s.respond (frameReq source f raw) status) :
    Answers (.readSeg source raw) s (State.replied source (lopFrame 0x83 f.reqId f.key 0 status [] f.offset) s.vault s.flash [] s) := by
  have h := respond_replied (s := s) (t := s) source f raw status rfl ⟨rfl, rfl, rfl, rfl⟩
  rw [ho] at h
  exact ⟨_, (exec_readSeg s source raw f ht ho).trans (congrArg _ hr), h⟩

/-- The response frame of a whole value. -/
theorem valueFrame_eq (source : Nat) (f : LopFrame) (raw b : List Byte) (ho : f.op = 1) :
    responseFrame none (frameReq source f raw) stOk b 0 0 = lopFrame 0x81 f.reqId f.key 0 stOk b 0 := by
  rw [responseFrame_plain _ _ _ _ _ _ rfl, frameReq, ho]

/-- The response frame of a segment of a value. -/
theorem segmentFrame_eq (source : Nat) (f : LopFrame) (raw b : List Byte) (ho : f.op = 3) :
    segReply (frameReq source f raw) b (frameReq source f raw).offset =
      lopFrame 0x83 f.reqId f.key (b2n (decide (b.length ≤ f.offset + 1400))) stOk ((b.drop f.offset).take 1400) f.offset := by
  rw [segReply, responseFrame_plain _ _ _ _ _ _ rfl, frameReq, ho]

/-- READ answers the whole value of an object. -/
theorem read_value (s : State) (source : Nat) (raw : List Byte) (f : LopFrame) (ht : s.takesLop source raw f) (hq : f.key ≠ 0x500402)
    (ho : f.op = 1) (hv : (s.readObject f.key).1 = stOk) (hl : (s.readObject f.key).2.length ≤ 1400) :
    Answers (.read source raw) s
      (State.replied source (lopFrame 0x81 f.reqId f.key 0 stOk (s.readObject f.key).2 0) s.vault s.flash [] s) := by
  have hserve := serveRead_value s (frameReq source f raw) hq hv hl
  rw [valueFrame_eq source f raw _ ho] at hserve
  exact ⟨_, (exec_read s source raw f ht ho).trans (congrArg _ hserve), data_replied source _ rfl ⟨rfl, rfl, rfl, rfl⟩⟩

/-- READ_SEG answers a segment of it, with LAST at its end. -/
theorem readSeg_value (s : State) (source : Nat) (raw : List Byte) (f : LopFrame) (ht : s.takesLop source raw f) (hq : f.key ≠ 0x500402)
    (ho : f.op = 3) (hv : (s.readObject f.key).1 = stOk) (hl : f.offset ≤ (s.readObject f.key).2.length) :
    Answers (.readSeg source raw) s
      (State.replied source (lopFrame 0x83 f.reqId f.key (b2n (decide ((s.readObject f.key).2.length ≤ f.offset + 1400))) stOk
        (((s.readObject f.key).2.drop f.offset).take 1400) f.offset) s.vault s.flash [] s) := by
  have hserve := serveRead_segment s (frameReq source f raw) hq hv hl
  rw [segmentFrame_eq source f raw _ ho] at hserve
  exact ⟨_, (exec_readSeg s source raw f ht ho).trans (congrArg _ hserve), data_replied source _ rfl ⟨rfl, rfl, rfl, rfl⟩⟩

end Sys2Proof.Machine
end

section
/-! PROOF. WRITE and WRITE_SEG: refusals, held objects, segments that gather (R356, R358, R360). -/

namespace Sys2Proof.Machine

open Sys2Proof

/-! ### Writes without a trailer (R356, R358, R360) -/

theorem objRow_of_writable {key : Nat} {o : ObjRow} (h : writable key = (stOk, some o)) : objRow key = some o := by
  unfold writable at h
  split at h
  · rename_i x hx
    split at h
    · cases h
    · injection h with _ h
      rw [hx, h]
  · cases congrArg Prod.snd h

/-- A write without a trailer: refused for an AUTH object, else answered as its rules say. -/
theorem lopWrite_plain (needsAuth : Bool) (r : LopReq) (rules : State → Nat × State) (s : State) (h : r.auth = none) :
    lopWrite needsAuth r rules s = if needsAuth then s.answer none r stAuthFail else (rules s).2.answer none r (rules s).1 := by
  unfold lopWrite
  rw [h]

theorem runReset_none (s : State) (h : s.dev.ctl.resetDue = 0) : s.runReset = s := by
  obtain ⟨p, v, fl, d⟩ := s
  obtain ⟨regs, objs, mem, sram, time, fresh, events, outs, tick, parts, clus, plz, tier, rbt, dtd, gate, square, host, arb, ctl, pwr⟩ := d
  obtain ⟨o, q, c, a, due⟩ := ctl
  dsimp only at h
  subst h
  rfl

/-- The request of a frame whose whole value is `v`. -/
def valueReq (source : Nat) (f : LopFrame) (offset : Nat) (raw v : List Byte) : LopReq :=
  ⟨source, f.reqId, f.op, f.key, v, none, offset, some raw⟩

/-- A value without a trailer goes through its rules, and a reset that it starts. -/
theorem writeValue_plain (s : State) (o : ObjRow) (f : LopFrame) (source offset : Nat) (raw v : List Byte) (h : bit f.flags 1 = false) :
    s.writeValue o f source offset raw v =
      (lopWrite (o.acc == .auth) (valueReq source f offset raw v) (stepNine 0 o v) s).runReset := by
  unfold State.writeValue
  rw [auth_none source h]
  rfl

/-- An AUTH object is refused (R358). -/
theorem writeValue_auth (s : State) (o : ObjRow) (f : LopFrame) (source offset : Nat) (raw v : List Byte) (h : bit f.flags 1 = false)
    (hr : s.dev.ctl.resetDue = 0) (ha : o.acc = .auth) :
    s.writeValue o f source offset raw v = s.answer none (valueReq source f offset raw v) stAuthFail := by
  rw [writeValue_plain s o f source offset raw v h, lopWrite_plain _ _ _ _ rfl, ha, if_pos (by decide), runReset_none]
  rwa [(answer_control s none _ stAuthFail).2]

/-- Any other is answered with what its rules say, where they start no reset. -/
theorem writeValue_ruled {s t : State} (o : ObjRow) (f : LopFrame) (source offset : Nat) (raw v : List Byte) (st : Nat)
    (h : bit f.flags 1 = false) (ha : o.acc ≠ .auth) (ht : stepNine 0 o v s = (st, t)) (hr : t.dev.ctl.resetDue = 0) :
    s.writeValue o f source offset raw v = t.answer none (valueReq source f offset raw v) st := by
  rw [writeValue_plain s o f source offset raw v h, lopWrite_plain _ _ _ _ rfl, if_neg (by simpa using ha), ht, runReset_none]
  rwa [(answer_control t none _ st).2]

/-! ### Objects that are held as written (R363, R367) -/

/-- The stored objects of the statement, which are held as written and need no feature. -/
def heldKeys : List Nat := [0x230002, 0x230003, 0x230006, 0x280001, 0x290002, 0x2B0002]

theorem heldKeys_row {key : Nat} {o : ObjRow} (hk : key ∈ heldKeys) (ho : objRow key = some o) :
    o.key = key ∧ o.stored = true ∧ o.acc ≠ .auth := by
  have h : ∀ k ∈ heldKeys, (objRow k).map (fun o => (o.key, o.stored, o.acc)) = some (k, true, .rw) := by decide
  have hkey := h key hk
  rw [ho] at hkey
  simp only [Option.map_some, Option.some.injEq, Prod.mk.injEq] at hkey
  obtain ⟨h1, h2, h3⟩ := hkey
  exact ⟨h1, h2, by rw [h3]; decide⟩

theorem objRule_held (slot : Nat) {key : Nat} (b : List Byte) (s : State) (hk : key ∈ heldKeys) :
    objRule slot key b s = (stOk, { s with dev := s.dev.setObj key b }) := by
  simp only [heldKeys, List.mem_cons, List.not_mem_nil, or_false] at hk
  rcases hk with rfl | rfl | rfl | rfl | rfl | rfl <;> rfl

/-- The state with an object's value in force and stored in a new record. -/
def State.heldStored (s : State) (key : Nat) (b : List Byte) : State := State.store { s with dev := s.dev.setObj key b } key b

/-- Step 9 for such an object: FLASH_WP#, then the range, then the value. -/
theorem stepNine_held (slot : Nat) {key : Nat} {o : ObjRow} (b : List Byte) (s : State) (hk : key ∈ heldKeys) (ho : objRow key = some o) :
    stepNine slot o b s =
      if s.dev.pwr.flashWp then (stPerm, s) else if o.valueOk b = false then (stBounds, s) else (stOk, s.heldStored key b) := by
  obtain ⟨hkey, hst, -⟩ := heldKeys_row hk ho
  unfold stepNine storedRules
  rw [if_pos hst, hkey, ho]
  dsimp only
  rw [objRule_held slot b s hk, if_pos rfl]
  simp only [Bool.not_eq_true']
  rfl

theorem heldStored_obj (s : State) (key : Nat) (b : List Byte) (hk : key ∈ heldKeys) :
    (s.heldStored key b).dev.obj key = b ∧
      ∀ k : Nat, k ≠ key → k ≠ 0x110203 → (s.heldStored key b).dev.obj k = s.dev.obj k := by
  have hne : key ≠ 0x110203 := by
    rintro rfl
    exact absurd hk (by decide)
  unfold State.heldStored State.store
  refine ⟨?_, fun k h1 h2 => ?_⟩
  · rw [obj_setObj, if_neg hne, obj_setObj, if_pos rfl]
  · rw [obj_setObj, if_neg h2, obj_setObj, if_neg h1]

/-! ### Segments (R356) -/

theorem resentSegment_plain (s : State) (f : LopFrame) (source : Nat) (raw : List Byte) (h : bit f.flags 1 = false) :
    s.resentSegment f source raw = none := by
  unfold State.resentSegment
  rw [auth_none source h]

/-- The first segment of a write that nothing bars. -/
theorem writeSegment_first (s : State) (o : ObjRow) (f : LopFrame) (source : Nat) (raw : List Byte) (h : bit f.flags 1 = false)
    (h0 : f.offset = 0) (hk : ∀ w ∈ s.dev.ctl.others f.key source, w.key ≠ f.key) (hl : (s.dev.ctl.others f.key source).length < 4) :
    s.writeSegment o f source raw = s.segment o f source raw [] := by
  have hany : ((s.dev.ctl.others f.key source).any fun w => w.key == f.key) = false := by
    simpa using hk
  unfold State.writeSegment
  dsimp only
  rw [resentSegment_plain s f source raw h, if_pos h0, if_neg (by simp [hany]), if_neg (Nat.not_le.mpr hl)]

/-- Another source writes the object. -/
theorem writeSegment_busy (s : State) (o : ObjRow) (f : LopFrame) (source : Nat) (raw : List Byte) (h : bit f.flags 1 = false)
    (h0 : f.offset = 0) (hk : ∃ w ∈ s.dev.ctl.others f.key source, w.key = f.key) :
    s.writeSegment o f source raw = s.respond (frameReq source f raw) stPerm := by
  have hany : ((s.dev.ctl.others f.key source).any fun w => w.key == f.key) = true := by
    simpa using hk
  unfold State.writeSegment
  dsimp only
  rw [resentSegment_plain s f source raw h, if_pos h0, if_pos hany]
  rfl

/-- A later segment goes on where the write stands, or ends it. -/
theorem writeSegment_later (s : State) (o : ObjRow) (f : LopFrame) (source : Nat) (raw : List Byte) (w : OpenWrite)
    (h : bit f.flags 1 = false) (h0 : f.offset ≠ 0)
    (hw : (s.dev.ctl.open_.find? fun w => w.key == f.key && w.source == source) = some w) :
    s.writeSegment o f source raw =
      if f.offset = w.bytes.length then s.segment o f source raw w.bytes
      else (s.setOpen (s.dev.ctl.others f.key source)).respond (frameReq source f raw) stBounds := by
  unfold State.writeSegment
  dsimp only
  rw [resentSegment_plain s f source raw h, if_neg h0, hw]
  rfl

/-- A segment that fits and is not the last is kept. -/
theorem segment_kept (s : State) (o : ObjRow) (f : LopFrame) (source : Nat) (raw b : List Byte) (hl : (b ++ f.data).length ≤ o.maxLen)
    (hlast : bit f.flags 0 = false) :
    s.segment o f source raw b =
      (s.setOpen (⟨f.key, source, b ++ f.data⟩ :: s.dev.ctl.others f.key source)).respond (frameReq source f raw) stOk := by
  unfold State.segment
  dsimp only
  rw [if_neg (Nat.not_lt.mpr hl), if_neg (by simp [hlast])]
  rfl

/-- The last one writes the whole value. -/
theorem segment_last (s : State) (o : ObjRow) (f : LopFrame) (source : Nat) (raw b : List Byte) (hl : (b ++ f.data).length ≤ o.maxLen)
    (hlast : bit f.flags 0 = true) :
    s.segment o f source raw b =
      (s.setOpen (s.dev.ctl.others f.key source)).writeValue o f source f.offset raw (b ++ f.data) := by
  unfold State.segment
  dsimp only
  rw [if_neg (Nat.not_lt.mpr hl), if_pos hlast]

/-! ### Whole values -/

/-- The frame of a whole value: a WRITE, or a segment that is first and last at once and that nothing bars. -/
def LopFrame.whole (f : LopFrame) (s : State) (o : ObjRow) : Prop :=
  f.op = 2 ∨ (bit f.flags 0 = true ∧ f.offset = 0 ∧ (∀ w ∈ s.dev.ctl.open_, w.key ≠ f.key) ∧ s.dev.ctl.open_.length < 4 ∧
    f.data.length ≤ o.maxLen)

/-- The two commands of a write, each with its operation. -/
def writeCommands (source : Nat) (raw : List Byte) : List (Instr × Nat) := [(.write source raw, 2), (.writeSeg source raw, 4)]

theorem exec_write (s : State) (source : Nat) (raw : List Byte) (f : LopFrame) (c : Instr) (ht : s.takesLop source raw f)
    (hm : (c, f.op) ∈ writeCommands source raw) : exec c s = .next (s.serveFrame source raw f) := by
  refine exec_taken s source raw f c f.op ht ?_ rfl
  simp only [writeCommands, frameCommands, List.mem_cons, List.not_mem_nil, or_false] at hm ⊢
  rcases hm with hm | hm
  · exact .inr (.inl hm)
  · exact .inr (.inr (.inr hm))

theorem op_of_write {source : Nat} {raw : List Byte} {c : Instr} {op : Nat}
    (hm : (c, op) ∈ writeCommands source raw) : op = 2 ∨ op = 4 := by
  simp only [writeCommands, List.mem_cons, Prod.mk.injEq, List.not_mem_nil, or_false] at hm
  exact hm.imp And.right And.right

/-- Such a frame writes the value; of the writes that are open it ends at most its own. -/
theorem exec_wholeWrite (s : State) (source : Nat) (raw : List Byte) (f : LopFrame) (c : Instr) (o : ObjRow) (ht : s.takesLop source raw f)
    (hm : (c, f.op) ∈ writeCommands source raw) (hw : writable f.key = (stOk, some o))
    (h1 : bit f.flags 1 = false) (hv : f.whole s o) :
    ∃ l : List OpenWrite, exec c s = .next ((s.setOpen l).writeValue o f source f.offset raw f.data) := by
  rw [exec_write s source raw f c ht hm]
  obtain ⟨-, -, hres, hlen⟩ := ht
  rcases op_of_write hm with ho | ho
  · rw [serveFrame_write s source raw f o hres hlen ho hw, offset_of_not_reserved hres (by omega)]
    exact ⟨s.dev.ctl.open_, rfl⟩
  · obtain ⟨hlast, h0, hkeys, hfew, hfit⟩ := hv.resolve_left (by omega)
    have hsub : ∀ w ∈ s.dev.ctl.others f.key source, w ∈ s.dev.ctl.open_ := fun w hw => List.mem_of_mem_filter hw
    have hshort : (s.dev.ctl.others f.key source).length < 4 := Nat.lt_of_le_of_lt (List.length_filter_le _ _) hfew
    rw [serveFrame_writeSeg s source raw f o hres hlen ho hw,
      writeSegment_first s o f source raw h1 h0 (fun w hw => hkeys w (hsub w hw)) hshort, segment_last s o f source raw [] hfit hlast]
    exact ⟨_, rfl⟩

/-- The answer to a whole value from a state that differs from `s` in no register and no byte. -/
theorem value_replied {s t : State} (source : Nat) (f : LopFrame) (raw v : List Byte) (status : Nat) (hp : t.pending = s.pending)
    (h : Dev.sameCore s.dev t.dev) :
    State.replied source (lopFrame (f.op + 0x80) f.reqId f.key 0 status [] f.offset) t.vault t.flash [] s
      (t.answer none (valueReq source f f.offset raw v) status) :=
  answer_replied none (valueReq source f f.offset raw v) status rfl hp (onlyRegs_core [] h) ringFree_nil

/-- A write of an AUTH object without a trailer. -/
theorem write_auth (s : State) (source : Nat) (raw : List Byte) (f : LopFrame) (c : Instr) (o : ObjRow) (ht : s.takesLop source raw f)
    (hm : (c, f.op) ∈ writeCommands source raw) (hw : writable f.key = (stOk, some o))
    (h1 : bit f.flags 1 = false) (hv : f.whole s o) (hr : s.dev.ctl.resetDue = 0) (ha : o.acc = .auth) :
    Answers c s (State.replied source (lopFrame (f.op + 0x80) f.reqId f.key 0 stAuthFail [] f.offset) s.vault s.flash [] s) := by
  obtain ⟨l, hexec⟩ := exec_wholeWrite s source raw f c o ht hm hw h1 hv
  rw [writeValue_auth (s.setOpen l) o f source f.offset raw f.data h1 hr ha] at hexec
  exact ⟨_, hexec, value_replied (t := s.setOpen l) source f raw f.data stAuthFail rfl ⟨rfl, rfl, rfl, rfl⟩⟩

/-- A write of a held object that step 9 refuses. -/
theorem write_held_refused (s : State) (source : Nat) (raw : List Byte) (f : LopFrame) (c : Instr) (o : ObjRow) (status : Nat)
    (ht : s.takesLop source raw f) (hm : (c, f.op) ∈ writeCommands source raw)
    (hw : writable f.key = (stOk, some o)) (h1 : bit f.flags 1 = false) (hv : f.whole s o) (hr : s.dev.ctl.resetDue = 0)
    (hk : f.key ∈ heldKeys) (hs : ∀ l : List OpenWrite, stepNine 0 o f.data (s.setOpen l) = (status, s.setOpen l)) :
    Answers c s (State.replied source (lopFrame (f.op + 0x80) f.reqId f.key 0 status [] f.offset) s.vault s.flash [] s) := by
  obtain ⟨l, hexec⟩ := exec_wholeWrite s source raw f c o ht hm hw h1 hv
  rw [writeValue_ruled o f source f.offset raw f.data status h1 (heldKeys_row hk (objRow_of_writable hw)).2.2 (hs l) hr] at hexec
  exact ⟨_, hexec, value_replied (t := s.setOpen l) source f raw f.data status rfl ⟨rfl, rfl, rfl, rfl⟩⟩

/-- A write of a held object whose value is then in force and stored. -/
theorem write_held_stored (s : State) (source : Nat) (raw : List Byte) (f : LopFrame) (c : Instr) (o : ObjRow)
    (ht : s.takesLop source raw f) (hm : (c, f.op) ∈ writeCommands source raw)
    (hw : writable f.key = (stOk, some o)) (h1 : bit f.flags 1 = false) (hv : f.whole s o) (hr : s.dev.ctl.resetDue = 0)
    (hk : f.key ∈ heldKeys) (hs : ∀ l : List OpenWrite, stepNine 0 o f.data (s.setOpen l) = (stOk, (s.setOpen l).heldStored f.key f.data)) :
    Answers c s fun t =>
      t.dev.obj f.key = f.data ∧ (∀ k : Nat, k ≠ f.key → k ≠ 0x110203 → t.dev.obj k = s.dev.obj k) ∧
        State.replied source (lopFrame (f.op + 0x80) f.reqId f.key 0 stOk [] f.offset) s.vault
          (s.flash.lay (Table.ins s.flash.storedEntries f.key f.data)) [] s t := by
  obtain ⟨l, hexec⟩ := exec_wholeWrite s source raw f c o ht hm hw h1 hv
  rw [writeValue_ruled o f source f.offset raw f.data stOk h1 (heldKeys_row hk (objRow_of_writable hw)).2.2 (hs l) hr] at hexec
  have hctl := answer_control ((s.setOpen l).heldStored f.key f.data) none (valueReq source f f.offset raw f.data) stOk
  obtain ⟨hself, hothers⟩ := heldStored_obj (s.setOpen l) f.key f.data hk
  refine ⟨_, hexec, (sameControl_obj hctl _).trans hself, fun k h2 h3 => (sameControl_obj hctl k).trans (hothers k h2 h3), ?_⟩
  exact value_replied (t := (s.setOpen l).heldStored f.key f.data) source f raw f.data stOk rfl ⟨rfl, rfl, rfl, rfl⟩

/-- A write without a trailer, of an object that may not be written, of an AUTH object, or of a held one. -/
theorem objects_written (s : State) (source : Nat) (raw : List Byte) (f : LopFrame) (c : Instr) (op : Nat) (ht : s.takesLop source raw f)
    (hr : s.dev.ctl.resetDue = 0) (hm : (c, op) ∈ writeCommands source raw) (ho : f.op = op) :
    let answer (st : Nat) (fl : Flash) : State → Prop :=
      State.replied source (lopFrame (op + 0x80) f.reqId f.key 0 st [] f.offset) s.vault fl [] s
    ((writable f.key).2 = none → Answers c s (answer (writable f.key).1 s.flash)) ∧
    ∀ o : ObjRow, writable f.key = (stOk, some o) → bit f.flags 1 = false → op = 2 ∨ (bit f.flags 0 = true ∧ f.offset = 0 ∧
        (∀ w ∈ s.dev.ctl.open_, w.key ≠ f.key) ∧ s.dev.ctl.open_.length < 4 ∧ f.data.length ≤ o.maxLen) →
      (o.acc = .auth → Answers c s (answer stAuthFail s.flash)) ∧
      (f.key ∈ [0x230002, 0x230003, 0x230006, 0x280001, 0x290002, 0x2B0002] →
        (s.dev.pwr.flashWp = true → Answers c s (answer stPerm s.flash)) ∧
        (s.dev.pwr.flashWp = false → o.valueOk f.data = false → Answers c s (answer stBounds s.flash)) ∧
        (s.dev.pwr.flashWp = false → o.valueOk f.data = true →
          Answers c s fun t =>
            t.dev.obj f.key = f.data ∧ (∀ k : Nat, k ≠ f.key → k ≠ 0x110203 → t.dev.obj k = s.dev.obj k) ∧
              answer stOk (s.flash.lay (Table.ins s.flash.storedEntries f.key f.data)) t)) := by
  subst ho
  refine ⟨fun hw => ?_, fun o hw h1 hv => ⟨fun ha => write_auth s source raw f c o ht hm hw h1 hv hr ha, fun hk => ?_⟩⟩
  · have hserve := serveFrame_unwritable s source raw f ht.2.2.1 ht.2.2.2 (op_of_write hm) hw
    exact ⟨_, (exec_write s source raw f c ht hm).trans (congrArg _ hserve), respond_replied source f raw _ rfl ⟨rfl, rfl, rfl, rfl⟩⟩
  · have hstep := fun l => stepNine_held 0 f.data (s.setOpen l) hk (objRow_of_writable hw)
    refine ⟨fun hwp => ?_, fun hwp hval => ?_, fun hwp hval => ?_⟩
    · exact write_held_refused s source raw f c o stPerm ht hm hw h1 hv hr hk fun l => (hstep l).trans (if_pos hwp)
    · refine write_held_refused s source raw f c o stBounds ht hm hw h1 hv hr hk fun l => (hstep l).trans ?_
      exact (if_neg (ne_true_of_eq_false hwp)).trans (if_pos hval)
    · refine write_held_stored s source raw f c o ht hm hw h1 hv hr hk fun l => (hstep l).trans ?_
      exact (if_neg (ne_true_of_eq_false hwp)).trans (if_neg (ne_false_of_eq_true hval))

/-! ### Segments that are not the last -/

/-- A segment that `writeSegment` answers with a status, leaving the open writes `l`. -/
theorem writeSeg_status (s : State) (source : Nat) (raw : List Byte) (f : LopFrame) (o : ObjRow) (l : List OpenWrite) (status : Nat)
    (ht : s.takesLop source raw f) (ho : f.op = 4) (hw : writable f.key = (stOk, some o))
    (hr : s.writeSegment o f source raw = (s.setOpen l).respond (frameReq source f raw) status) :
    Answers (.writeSeg source raw) s fun t =>
      t.dev.ctl.open_ = l ∧ State.replied source (lopFrame 0x84 f.reqId f.key 0 status [] f.offset) s.vault s.flash [] s t := by
  have hexec := exec_taken s source raw f (.writeSeg source raw) 4 ht (by simp [frameCommands]) ho
  rw [serveFrame_writeSeg s source raw f o ht.2.2.1 ht.2.2.2 ho hw, hr] at hexec
  have hreply := respond_replied (s := s) (t := s.setOpen l) source f raw status rfl ⟨rfl, rfl, rfl, rfl⟩
  rw [ho] at hreply
  refine ⟨_, hexec, ?_, hreply⟩
  rw [(respond_control (s.setOpen l) (frameReq source f raw) status).2]
  rfl

/-- An earlier segment is kept, refused while another source writes the object, or ends the write where it is out of place. -/
theorem segments_gather (s : State) (source : Nat) (raw : List Byte) (f : LopFrame) (o : ObjRow) (ht : s.takesLop source raw f) (ho : f.op = 4)
    (hw : writable f.key = (stOk, some o)) (h1 : bit f.flags 1 = false) (hlast : bit f.flags 0 = false) :
    let rest := s.dev.ctl.others f.key source
    let answer (st : Nat) : State → Prop := State.replied source (lopFrame 0x84 f.reqId f.key 0 st [] f.offset) s.vault s.flash [] s
    (f.offset = 0 → (∀ w ∈ rest, w.key ≠ f.key) → rest.length < 4 → f.data.length ≤ o.maxLen →
      Answers (.writeSeg source raw) s fun t => t.dev.ctl.open_ = ⟨f.key, source, f.data⟩ :: rest ∧ answer stOk t) ∧
    (f.offset = 0 → (∃ w ∈ rest, w.key = f.key) → Answers (.writeSeg source raw) s fun t => t.dev.ctl.open_ = s.dev.ctl.open_ ∧ answer stPerm t) ∧
    ∀ w : OpenWrite, f.offset ≠ 0 → (s.dev.ctl.open_.find? fun w => w.key == f.key && w.source == source) = some w →
      (f.offset = w.bytes.length → w.bytes.length + f.data.length ≤ o.maxLen →
        Answers (.writeSeg source raw) s fun t => t.dev.ctl.open_ = ⟨f.key, source, w.bytes ++ f.data⟩ :: rest ∧ answer stOk t) ∧
      (f.offset ≠ w.bytes.length → Answers (.writeSeg source raw) s fun t => t.dev.ctl.open_ = rest ∧ answer stBounds t) := by
  refine ⟨fun h0 hk hl hfit => ?_, fun h0 hk => ?_, fun w h0 hf => ⟨fun hat hfit => ?_, fun hat => ?_⟩⟩
  · refine writeSeg_status s source raw f o _ stOk ht ho hw ?_
    rw [writeSegment_first s o f source raw h1 h0 hk hl, segment_kept s o f source raw [] hfit hlast]
    rfl
  · exact writeSeg_status s source raw f o s.dev.ctl.open_ stPerm ht ho hw (writeSegment_busy s o f source raw h1 h0 hk)
  · refine writeSeg_status s source raw f o _ stOk ht ho hw ?_
    rw [writeSegment_later s o f source raw w h1 h0 hf, if_pos hat,
      segment_kept s o f source raw w.bytes (by rw [List.length_append]; exact hfit) hlast]
  · refine writeSeg_status s source raw f o _ stBounds ht ho hw ?_
    rw [writeSegment_later s o f source raw w h1 h0 hf, if_neg hat]

end Sys2Proof.Machine
end

section
/-! PROOF. The mailbox, the feature vector, defaults, the expiries, and the obligation about objects (R353, R361, R367). -/

namespace Sys2Proof.Machine

open Sys2Proof

/-! ### The mailbox (R353) -/

theorem mailboxGo_busy (s : State) (h : s.dev.get F.MBX_STATUS_STATE = 1) :
    s.mailboxGo = { s with dev := s.dev.refuse F.MBX_CTRL_GO.off 1 } := if_pos h

/-- The device whose mailbox is BUSY. -/
def Dev.mailboxBusy (d : Dev) : Dev := d.put F.MBX_STATUS_STATE 1

theorem mailboxBusy_state (d : Dev) : d.mailboxBusy.get F.MBX_STATUS_STATE = 1 := get_put_same d _ 1

theorem mailboxBusy_frame (d : Dev) : Dev.onlyRegs mailboxFields d d.mailboxBusy := onlyRegs_put _ _ _ _ (by simp [mailboxFields])

/-- The state whose mailbox is BUSY. -/
def State.busy (s : State) : State := { s with dev := s.dev.mailboxBusy }

/-- The mailbox is done: without a response where none was shown. -/
def State.mailboxDone (s : State) : State := if s.dev.get F.MBX_STATUS_STATE = 1 then { s with dev := s.dev.mailboxEmpty } else s

theorem mailboxGo_idle (s : State) (h : s.dev.get F.MBX_STATUS_STATE ≠ 1) :
    s.mailboxGo =
      (if s.dev.get F.MBX_REQ_LEN_LEN < 20 ∨ 1452 < s.dev.get F.MBX_REQ_LEN_LEN then s.busy.frameIn srcMailbox [] fun _ => false
        else s.busy.frameIn srcMailbox (s.dev.mailbox (s.dev.get F.MBX_REQ_LEN_LEN)) fun _ => true).mailboxDone := if_neg h

/-- A length outside 20 to 1,452 is a discarded frame. -/
theorem mailboxGo_badLength (s : State) (h : s.dev.get F.MBX_STATUS_STATE ≠ 1)
    (hn : s.dev.get F.MBX_REQ_LEN_LEN < 20 ∨ 1452 < s.dev.get F.MBX_REQ_LEN_LEN) :
    s.mailboxGo = { s with dev := s.dev.mailboxBusy.discarded.mailboxEmpty } := by
  rw [mailboxGo_idle s h, if_pos hn, frameIn_none _ _ _ _ (by decide)]
  exact if_pos (mailboxBusy_state s.dev)

/-- A frame that is answered leaves the mailbox with its response. -/
theorem mailboxGo_answered {s : State} {frame : List Byte} (h : s.dev.get F.MBX_STATUS_STATE ≠ 1) (h1 : 20 ≤ s.dev.get F.MBX_REQ_LEN_LEN)
    (h2 : s.dev.get F.MBX_REQ_LEN_LEN ≤ 1452)
    (hin : s.busy.frameIn srcMailbox (s.dev.mailbox (s.dev.get F.MBX_REQ_LEN_LEN)) (fun _ => true) =
      { s.busy with dev := s.busy.dev.reply srcMailbox frame }) :
    s.mailboxGo = { s.busy with dev := s.busy.dev.reply srcMailbox frame } := by
  have hstate : (s.busy.dev.reply srcMailbox frame).get F.MBX_STATUS_STATE = 2 := (reply_respondedTo s.busy.dev srcMailbox frame).1
  rw [mailboxGo_idle s h, if_neg (not_or.mpr ⟨Nat.not_lt.mpr h1, Nat.not_lt.mpr h2⟩), hin]
  exact if_neg (by rw [hstate]; decide)

theorem exec_mbxGo (s : State) (h : s.powered) : exec .mbxGo s = .next s.mailboxGo := if_pos h

/-- Which objects are served does not depend on the mailbox. -/
theorem mailboxBusy_serves (d : Dev) (key : Nat) : d.mailboxBusy.serves key = d.serves key := by
  have h1 : d.mailboxBusy.get F.PWR_BOOT_STATE = d.get F.PWR_BOOT_STATE := get_put_ne _ _ _ _ (by decide)
  have h2 : d.mailboxBusy.get F.PWR_BOOT_STAGE = d.get F.PWR_BOOT_STAGE := get_put_ne _ _ _ _ (by decide)
  unfold Dev.serves
  rw [h1, h2]

/-- A mailbox without a response is done: its status registers, and one event. -/
theorem mailboxEmpty_frame {a d : Dev} (h : Dev.onlyRegs mailboxFields a d) :
    Dev.raisedOne a d.mailboxEmpty evMailbox stOk 0 [] ∧ Dev.sameRegsBut (mailboxFields ++ eventFields) a d.mailboxEmpty ∧
      Dev.sameMemButRings [] a d.mailboxEmpty := by
  have hd := onlyRegs_trans h (onlyRegs_mono (onlyRegs_puts d [(F.MBX_STATUS_RSP_LEN, 0), (F.MBX_STATUS_STATE, 2)]) (by simp [mailboxFields]))
  exact ⟨raise_one_after hd ringFree_mailbox evMailbox stOk 0 [], raise_regs_after hd.1 evMailbox stOk 0 [],
    raise_mem_after hd ringFree_mailbox evMailbox stOk 0 []⟩

theorem mailboxEmpty_status (d : Dev) :
    d.mailboxEmpty.get F.MBX_STATUS_STATE = 2 ∧ d.mailboxEmpty.get F.MBX_STATUS_RSP_LEN = 0 := by
  unfold Dev.mailboxEmpty
  rw [raise_mailboxStatus _ _ _ _ _ F.MBX_STATUS_STATE rfl (by decide), raise_mailboxStatus _ _ _ _ _ F.MBX_STATUS_RSP_LEN rfl (by decide),
    puts_cons, puts_cons, puts_nil]
  exact ⟨get_put_same _ _ _, by rw [get_put_ne _ _ _ _ (by decide), get_put_same, Nat.zero_mod]⟩

theorem mailboxEmpty_control (d : Dev) : Dev.sameControl d d.mailboxEmpty :=
  sameControl_trans (puts_control d [(F.MBX_STATUS_RSP_LEN, 0), (F.MBX_STATUS_STATE, 2)]) (raise_control _ evMailbox stOk 0 [])

/-- A response that changes no field but the mailbox's. -/
theorem replied_of_mailbox {s t : State} {source : Nat} {frame : List Byte} {v : Vault} {fl : Flash}
    (h : State.replied source frame v fl mailboxFields s t) : State.replied source frame v fl [] s t := by
  obtain ⟨hp, hv, hf, hto, hregs, hmem⟩ := h
  refine ⟨hp, hv, hf, hto, sameRegsBut_mono hregs ?_, hmem⟩
  intro g hg
  simp only [List.mem_append, or_assoc] at hg ⊢
  tauto

/-- GO while the mailbox is BUSY. -/
theorem mbxGo_busy (s : State) (hs : s.powered) (h : s.dev.get F.MBX_STATUS_STATE = 1) :
    Answers .mbxGo s fun t => Dev.raisedOne s.dev t.dev evRegister stOk 0 [F.MBX_CTRL_GO.off, 1] ∧ State.onlyFieldsEv regaccFields s t :=
  refuse_answers ((exec_mbxGo s hs).trans (congrArg _ (mailboxGo_busy s h)))

/-- GO with a bad length. -/
theorem mbxGo_badLength (s : State) (hs : s.powered) (h : s.dev.get F.MBX_STATUS_STATE ≠ 1)
    (hn : s.dev.get F.MBX_REQ_LEN_LEN < 20 ∨ 1452 < s.dev.get F.MBX_REQ_LEN_LEN) :
    Answers .mbxGo s fun t =>
      t.dev.get F.MBX_STATUS_STATE = 2 ∧ t.dev.get F.MBX_STATUS_RSP_LEN = 0 ∧
        t.dev.objNat 0x11000B = min (2 ^ 32 - 1) (s.dev.objNat 0x11000B + 1) ∧ Dev.raisedOne s.dev t.dev evMailbox stOk 0 [] ∧
        State.onlyFieldsEv mailboxFields s t := by
  have hexec := (exec_mbxGo s hs).trans (congrArg _ (mailboxGo_badLength s h hn))
  have hcount : s.dev.mailboxBusy.discarded.mailboxEmpty.objNat 0x11000B = min (2 ^ 32 - 1) (s.dev.objNat 0x11000B + 1) :=
    (congrArg leNat (sameControl_obj (mailboxEmpty_control _) _)).trans (discarded_count s.dev.mailboxBusy)
  obtain ⟨hstate, hlen⟩ := mailboxEmpty_status s.dev.mailboxBusy.discarded
  obtain ⟨hone, hregs, hmem⟩ := mailboxEmpty_frame (a := s.dev) (d := s.dev.mailboxBusy.discarded)
    (onlyRegs_trans (mailboxBusy_frame s.dev) (onlyRegs_core mailboxFields (setObj_core _ _ _)))
  generalize s.dev.mailboxBusy.discarded.mailboxEmpty = d at hexec hcount hstate hlen hone hregs hmem
  exact ⟨_, hexec, hstate, hlen, hcount, hone, onlyFieldsEv_of_dev hregs hmem⟩

/-- GO with a READ that is answered. -/
theorem mbxGo_read (s : State) (f : LopFrame) (h : s.dev.get F.MBX_STATUS_STATE ≠ 1) (h1 : 20 ≤ s.dev.get F.MBX_REQ_LEN_LEN)
    (h2 : s.dev.get F.MBX_REQ_LEN_LEN ≤ 1452) (ht : s.takesLop srcMailbox (s.dev.mailbox (s.dev.get F.MBX_REQ_LEN_LEN)) f)
    (ho : f.op = 1) (hq : f.key ≠ 0x500402) (hv : (s.busy.readObject f.key).1 = stOk) (hl : (s.busy.readObject f.key).2.length ≤ 1400) :
    Answers .mbxGo s
      (State.replied srcMailbox (lopFrame 0x81 f.reqId f.key 0 stOk (s.busy.readObject f.key).2 0) s.vault s.flash [] s) := by
  obtain ⟨hf, ⟨hp, hserves, -⟩, hres, hlen⟩ := ht
  have hserve := serveRead_value s.busy (frameReq srcMailbox f (s.dev.mailbox (s.dev.get F.MBX_REQ_LEN_LEN))) hq hv hl
  rw [valueFrame_eq srcMailbox f _ _ ho] at hserve
  have hmine : (true && s.busy.dev.serves f.key) = true := (mailboxBusy_serves s.dev f.key).trans hserves
  have hin := frameIn_some s.busy srcMailbox _ (fun _ => true) f hf
  rw [if_pos hmine, serveFrame_read _ _ _ _ hres hlen ho] at hin
  refine ⟨_, (exec_mbxGo s hp).trans (congrArg _ (mailboxGo_answered h h1 h2 (hin.trans hserve))), replied_of_mailbox ?_⟩
  exact replied_of_reply srcMailbox _ s.pending s.vault s.flash rfl (mailboxBusy_frame s.dev) ringFree_mailbox

/-! ### Commands that are writes without a trailer -/

/-- The request of such a command. -/
def plainReq (source reqId key : Nat) (value : List Byte) : LopReq := ⟨source, reqId, 2, key, value, none, 0, none⟩

/-- Such a command that the device takes is answered as its rules say. -/
theorem onPlain_listens (s : State) (source reqId key : Nat) (value : List Byte) (rules : State → Nat × State) (h : s.listens source key) :
    onPlain source reqId key value rules s = .next ((rules s).2.answer none (plainReq source reqId key value) (rules s).1) := by
  obtain ⟨hp, hs, hc⟩ := h
  unfold onPlain
  rw [if_pos (by rw [show s.dev.pwr.pwrgd = true from hp, hs, hc]; rfl), lopWrite_plain _ _ _ _ rfl]
  rfl

/-- The answer to it, from a device whose registers but those of `l` are as in `s`. -/
theorem plainDone_answer {s t : State} {l : List Fld} (source reqId key : Nat) (value : List Byte) (status : Nat) (hp : t.pending = s.pending)
    (hv : t.vault = s.vault) (h : Dev.onlyRegs l s.dev t.dev) (hl : RingFree l) :
    State.plainDone source reqId key value status t.flash l s (t.answer none (plainReq source reqId key value) status) := by
  obtain ⟨h1, -, h3, h4, h5, h6⟩ := answer_replied none (plainReq source reqId key value) status rfl hp h hl
  rw [← responseFrame_plain none _ status [] 0 _ rfl] at h4
  exact ⟨h1, hv, h3, h4, h5, h6⟩

/-- A refusal: the rules leave the state alone. -/
theorem plain_refused {c : Instr} {s : State} (source reqId key : Nat) (value : List Byte) (rules : State → Nat × State) (status : Nat)
    (hc : exec c s = onPlain source reqId key value rules s) (h : s.listens source key) (hr : rules s = (status, s)) :
    Answers c s (State.plainDone source reqId key value status s.flash [] s) := by
  have hexec := hc.trans (onPlain_listens s source reqId key value rules h)
  rw [hr] at hexec
  exact ⟨_, hexec, plainDone_answer source reqId key value status rfl rfl (onlyRegs_refl [] _) ringFree_nil⟩

/-! ### The feature vector (R362) -/

/-- Nothing runs that a cleared feature would take away: no queue, no image, no port with a fixed position. -/
def Dev.featuresFree (d : Dev) : Bool :=
  d.host.queues.isEmpty && !((List.range 8).any fun p => (d.part p).staged.isSome || (d.part p).running.isSome) && !d.posFixed

theorem featuresFree_iff (d : Dev) :
    d.featuresFree = true ↔
      d.host.queues = [] ∧ (∀ p < 8, (d.part p).staged = none ∧ (d.part p).running = none) ∧ d.posFixed = false := by
  simp [Dev.featuresFree, and_assoc]

/-- The device with feature vector `v` negotiated. -/
def Dev.accepted (d : Dev) (v : Nat) : Dev :=
  (d.setObj 0x100102 (leBytes 16 v)).puts [(F.IDF_NEG_BITS 0, v % 2 ^ 64), (F.IDF_NEG_BITS 1, v / 2 ^ 64)]

theorem featureRule_eq (v : Nat) (d : Dev) :
    featureRule v d =
      if v &&& offeredBits ≠ v ∨ v &&& 3 ≠ 3 then (stFeature, d)
      else if d.negotiated &&& (d.negotiated ^^^ (v &&& d.negotiated)) ≠ 0 ∧ !d.featuresFree then (stPerm, d)
      else (stOk, d.accepted v) := rfl

/-- Step 9 for a stored object that FLASH_WP# does not protect and whose value is in range. -/
theorem storedRules_inRange (key : Nat) (value : List Byte) (rule : State → Nat × State) (s : State) (o : ObjRow) (ho : objRow key = some o)
    (hwp : s.dev.pwr.flashWp = false) (hv : o.valueOk value = true) :
    storedRules key value rule s = if (rule s).1 = stOk then (stOk, (rule s).2.store key value) else rule s := by
  unfold storedRules
  rw [ho]
  dsimp only
  rw [if_neg (ne_true_of_eq_false hwp), if_neg (by simp [hv])]

/-- Every vector of 16 bytes is a value of object 0x1001.02. -/
theorem featureVector_valueOk (v : Nat) : ∃ o : ObjRow, objRow 0x100102 = some o ∧ o.valueOk (leBytes 16 v) = true := by
  refine ⟨_, rfl, ?_⟩
  simp [ObjRow.valueOk, ObjType.size, ObjRange.holds, length_leBytes]

/-- Step 9 of FEATURE_ACCEPT is the vector's own rule. -/
theorem featureAccept_rules (v : Nat) (s : State) (hwp : s.dev.pwr.flashWp = false) :
    storedRules 0x100102 (leBytes 16 v) (devRules (featureRule v)) s =
      if (featureRule v s.dev).1 = stOk then (stOk, State.store { s with dev := (featureRule v s.dev).2 } 0x100102 (leBytes 16 v))
      else ((featureRule v s.dev).1, { s with dev := (featureRule v s.dev).2 }) := by
  obtain ⟨o, ho, hv⟩ := featureVector_valueOk v
  exact storedRules_inRange _ _ _ s o ho hwp hv

/-- The fields below the mailbox's and an event's blocks keep their values in a response. -/
theorem reply_get_low (d : Dev) (source : Nat) (frame : List Byte) (f : Fld) (h : f.key < 0x1400000 * 64) :
    (d.reply source frame).get f = d.get f := by
  refine reply_regs d source frame f fun g hg => ?_
  have hlow : 0x1400000 * 64 ≤ g.key := by
    simp only [mailboxFields, eventFields, List.mem_append, List.mem_cons, List.mem_map, List.mem_flatMap, List.mem_range, List.not_mem_nil,
      or_false] at hg
    rcases hg with (rfl | rfl | ⟨i, -, rfl⟩) | rfl | ⟨q, -, rfl | rfl | rfl⟩ <;>
      simp only [Fld.key, F.MBX_STATUS_RSP_LEN, F.MBX_STATUS_STATE, F.MBX_RSP_DATA, F.RAS_EVSEQ_NEXT, F.HST_EVR_CTL_LOST,
        F.HST_EVR_CTL_OVF, F.HST_EVR_IDX_PI] <;> omega
  omega

/-- The negotiated set's registers stand in another block than the rings. -/
theorem ringFree_negotiated : RingFree [F.IDF_NEG_BITS 0, F.IDF_NEG_BITS 1] := by
  intro g hg
  simp only [List.mem_cons, List.not_mem_nil, or_false] at hg
  rcases hg with rfl | rfl <;>
  · refine ⟨by decide, fun r hr => ?_⟩
    simp only [Fld.key, F.HST_EVR_CTL_EN, F.HST_EVR_BASE_PA, F.HST_EVR_CTL_LOG2, F.IDF_NEG_BITS]
    omega

theorem accepted_frame (d : Dev) (v : Nat) : Dev.onlyRegs [F.IDF_NEG_BITS 0, F.IDF_NEG_BITS 1] d (d.accepted v) :=
  onlyRegs_trans (onlyRegs_core _ (setObj_core d 0x100102 (leBytes 16 v)))
    (onlyRegs_puts (d.setObj 0x100102 (leBytes 16 v)) [(F.IDF_NEG_BITS 0, v % 2 ^ 64), (F.IDF_NEG_BITS 1, v / 2 ^ 64)])

/-- The registers of the negotiated set take the vector. -/
theorem accepted_get (d : Dev) (v : Nat) (h : v < 2 ^ 128) :
    (d.accepted v).get (F.IDF_NEG_BITS 0) = v % 2 ^ 64 ∧ (d.accepted v).get (F.IDF_NEG_BITS 1) = v / 2 ^ 64 := by
  rw [Dev.accepted, puts_cons, puts_cons, puts_nil]
  refine ⟨?_, ?_⟩
  · rw [get_put_ne _ _ _ _ (by decide), get_put_same]
    exact Nat.mod_mod _ _
  · rw [get_put_same]
    exact Nat.mod_eq_of_lt (Nat.div_lt_of_lt_mul (by rw [← pow_add]; exact h))

/-- An accepted vector. -/
theorem featureAccept_ok (s : State) (source reqId : Nat) (vector : BitVec 128) (h : s.listens source 0x100102)
    (hwp : s.dev.pwr.flashWp = false) (hr : featureRule vector.toNat s.dev = (stOk, s.dev.accepted vector.toNat)) :
    Answers (.featureAccept source reqId vector) s fun t =>
      t.dev.get (F.IDF_NEG_BITS 0) = vector.toNat % 2 ^ 64 ∧ t.dev.get (F.IDF_NEG_BITS 1) = vector.toNat / 2 ^ 64 ∧
        t.dev.obj 0x100102 = leBytes 16 vector.toNat ∧
        State.plainDone source reqId 0x100102 (leBytes 16 vector.toNat) stOk
          (s.flash.lay (Table.ins s.flash.storedEntries 0x100102 (leBytes 16 vector.toNat))) [F.IDF_NEG_BITS 0, F.IDF_NEG_BITS 1] s t := by
  have hrules := featureAccept_rules vector.toNat s hwp
  rw [hr, if_pos rfl] at hrules
  have hexec := onPlain_listens s source reqId 0x100102 (leBytes 16 vector.toNat)
    (storedRules 0x100102 (leBytes 16 vector.toNat) (devRules (featureRule vector.toNat))) h
  rw [hrules] at hexec
  obtain ⟨hlow, hhigh⟩ := accepted_get s.dev vector.toNat vector.isLt
  refine ⟨_, hexec, (reply_get_low _ _ _ _ (by decide)).trans hlow, (reply_get_low _ _ _ _ (by decide)).trans hhigh, ?_, ?_⟩
  · rw [sameControl_obj (answer_control _ _ _ _), State.store, obj_setObj, if_neg (by decide)]
    exact (sameControl_obj (puts_control _ _) _).trans ((obj_setObj _ _ _ _).trans (if_pos rfl))
  · exact plainDone_answer source reqId 0x100102 _ stOk rfl rfl
      (onlyRegs_trans (accepted_frame s.dev vector.toNat) (onlyRegs_core _ (setObj_core _ _ _))) ringFree_negotiated

/-- A refused vector. -/
theorem featureAccept_refused (s : State) (source reqId : Nat) (vector : BitVec 128) (status : Nat) (h : s.listens source 0x100102)
    (hwp : s.dev.pwr.flashWp = false) (hst : status ≠ stOk) (hr : featureRule vector.toNat s.dev = (status, s.dev)) :
    Answers (.featureAccept source reqId vector) s
      (State.plainDone source reqId 0x100102 (leBytes 16 vector.toNat) status s.flash [] s) := by
  refine plain_refused source reqId 0x100102 _ _ status rfl h ?_
  rw [featureAccept_rules vector.toNat s hwp, hr]
  exact if_neg hst

/-- FEATURE_ACCEPT, by the three cases of its rule. -/
theorem features_accepted (s : State) (source reqId : Nat) (vector : BitVec 128) (h : s.listens source 0x100102)
    (hwp : s.dev.pwr.flashWp = false) :
    let v := vector.toNat
    let b := leBytes 16 v
    let lawful := v &&& offeredBits = v ∧ v &&& 3 = 3
    let clears := s.dev.negotiated &&& (s.dev.negotiated ^^^ (v &&& s.dev.negotiated)) ≠ 0
    let still := s.dev.host.queues = [] ∧ (∀ p < 8, (s.dev.part p).staged = none ∧ (s.dev.part p).running = none) ∧ s.dev.posFixed = false
    (lawful → ¬ clears ∨ still →
      Answers (.featureAccept source reqId vector) s fun t =>
        t.dev.get (F.IDF_NEG_BITS 0) = v % 2 ^ 64 ∧ t.dev.get (F.IDF_NEG_BITS 1) = v / 2 ^ 64 ∧ t.dev.obj 0x100102 = b ∧
          State.plainDone source reqId 0x100102 b stOk (s.flash.lay (Table.ins s.flash.storedEntries 0x100102 b))
            [F.IDF_NEG_BITS 0, F.IDF_NEG_BITS 1] s t) ∧
    (¬ lawful → Answers (.featureAccept source reqId vector) s (State.plainDone source reqId 0x100102 b stFeature s.flash [] s)) ∧
    (lawful → clears → ¬ still →
      Answers (.featureAccept source reqId vector) s (State.plainDone source reqId 0x100102 b stPerm s.flash [] s)) := by
  intro v b lawful clears still
  have hstill : s.dev.featuresFree = true ↔ still := featuresFree_iff s.dev
  have hbad : (v &&& offeredBits ≠ v ∨ v &&& 3 ≠ 3) ↔ ¬ lawful := not_and_or.symm
  refine ⟨fun hlaw hok => featureAccept_ok s source reqId vector h hwp ?_, fun hlaw => ?_, fun hlaw hclr hst => ?_⟩
  · rw [featureRule_eq, if_neg (fun hb => hbad.mp hb hlaw), if_neg]
    rintro ⟨hclr, hfree⟩
    have hfree' : s.dev.featuresFree = false := by simpa using hfree
    rcases hok with hok | hok
    · exact hok hclr
    · exact absurd (hstill.mpr hok) (ne_true_of_eq_false hfree')
  · exact featureAccept_refused s source reqId vector stFeature h hwp (by decide) ((featureRule_eq _ _).trans (if_pos (hbad.mpr hlaw)))
  · refine featureAccept_refused s source reqId vector stPerm h hwp (by decide) ?_
    rw [featureRule_eq, if_neg (fun hb => hbad.mp hb hlaw)]
    exact if_pos ⟨hclr, by simpa using fun hf => hst (hstill.mp hf)⟩

/-! ### Defaults and expiries (R361, R367) -/

/-- RESTORE_DEFAULTS, by FLASH_WP#. -/
theorem defaults_restored (s : State) (source reqId : Nat) (h : s.listens source 0x110204) :
    (s.dev.pwr.flashWp = true →
      Answers (.restoreDefaults source reqId) s (State.plainDone source reqId 0x110204 (boolByte true) stPerm s.flash [] s)) ∧
    (s.dev.pwr.flashWp = false →
      Answers (.restoreDefaults source reqId) s
        (State.plainDone source reqId 0x110204 (boolByte true) stOk (s.flash.lay factoryEntries) [] s)) := by
  refine ⟨fun hwp => plain_refused source reqId 0x110204 _ _ stPerm rfl h (if_pos hwp), fun hwp => ?_⟩
  have hexec := onPlain_listens s source reqId 0x110204 (boolByte true) (defaultsRule true) h
  have hrule : defaultsRule true s = (stOk, { s with
      flash := s.flash.lay factoryEntries, dev := s.dev.setObj 0x110203 (leBytes 4 (s.flash.lay factoryEntries).seq) }) :=
    if_neg (ne_true_of_eq_false hwp)
  rw [hrule] at hexec
  exact ⟨_, hexec, plainDone_answer source reqId 0x110204 _ stOk rfl rfl (onlyRegs_core [] (setObj_core _ _ _)) ringFree_nil⟩

theorem mem_others (c : CtlSt) (key source : Nat) (w : OpenWrite) :
    w ∈ c.others key source ↔ w ∈ c.open_ ∧ ¬ (w.key = key ∧ w.source = source) := by
  simp only [CtlSt.others, List.mem_filter, Bool.not_eq_true', Bool.and_eq_false_iff, beq_eq_false_iff_ne, not_and_or, ne_eq]

/-- A segmented write that times out is no longer open. -/
theorem segmentedWrite_closed (s : State) (source key : Nat) (hs : s.powered) :
    Answers (.segmentedWriteTimeout source key) s fun t =>
      (∀ w : OpenWrite, w ∈ t.dev.ctl.open_ ↔ w ∈ s.dev.ctl.open_ ∧ ¬ (w.key = key ∧ w.source = source)) ∧ State.onlyFields [] s t := by
  have hexec := onDev_powered (fun d => { d with ctl := { d.ctl with open_ := d.ctl.others key source } }) s hs
  exact ⟨_, hexec, mem_others s.dev.ctl key source, onlyFields_of_dev (onlyRegs_core [] ⟨rfl, rfl, rfl, rfl⟩)⟩

/-- LOCKOUT_EXPIRY unlocks a locked slot; LAST_REQUEST_STORE_EXPIRY drops the slot's request. -/
theorem slot_expiries (s : State) (slot : Fin 8) (hs : s.powered) :
    ((s.vault.slot slot).locked = true →
      Answers (.lockoutExpiry slot) s fun t =>
        t = { s with vault := s.vault.setSlot slot { s.vault.slot slot with locked := false, failures := 0 } }) ∧
    ((s.vault.slot slot).locked = false → Answers (.lockoutExpiry slot) s fun t => t = s) ∧
    Answers (.lastRequestStoreExpiry slot) s fun t =>
      t.flash = { s.flash with lastRequests := t.flash.lastRequests } ∧ t.dev = s.dev ∧ t.vault = s.vault ∧ t.pending = s.pending ∧
        ∀ r : LastRequest, r ∈ t.flash.lastRequests ↔ r ∈ s.flash.lastRequests ∧ r.slot ≠ slot.val := by
  have hp : s.dev.pwr.pwrgd = true := hs
  have hexec := onDevFlash_powered (fun _ f d => ({ f with lastRequests := f.lastRequests.filter fun x => x.slot != slot.val }, d)) s hs
  refine ⟨fun hl => ⟨_, if_pos (by rw [hp, hl]; rfl), rfl⟩, fun hl => ⟨s, if_neg (by rw [hl]; simp), rfl⟩,
    ⟨_, hexec, rfl, rfl, rfl, rfl, fun r => ?_⟩⟩
  simp [List.mem_filter]

/-- Settles O51: a frame by whether it is read, served and lawful; reads; whole values; segments; the mailbox; the commands without a frame. -/
theorem objectsAreReadAndWritten : Obligations.ObjectsAreReadAndWritten := by
  refine ⟨fun s source raw c op hs hc hm => ⟨frame_discarded s source raw c op hs hc hm, fun f hf => ⟨?_, fun h ho hr => ?_, fun h ho hr hl => ?_⟩⟩,
    fun s source raw f ht hq => ⟨read_value s source raw f ht hq, fun ho hv hl => ?_, fun ho hv => ?_, readSeg_value s source raw f ht hq,
      fun ho hv hl => ?_, fun ho hv => ?_⟩,
    objects_written, segments_gather, segmentedWrite_closed, fun s hs => ⟨mbxGo_busy s hs, mbxGo_badLength s hs, mbxGo_read s⟩,
    features_accepted, defaults_restored, slot_expiries⟩
  · exact frame_unserved s source raw c op f hs hc hm hf
  · exact frame_status s source raw c op f stFeature hs hc hm hf h ho (serveFrame_reserved s source raw f hr)
  · exact frame_status s source raw c op f stBounds hs hc hm hf h ho (serveFrame_tooLong s source raw f hr hl)
  · exact read_status s source raw f _ ht ho (serveRead_tooLong s (frameReq source f raw) hq hv hl)
  · exact read_status s source raw f _ ht ho (serveRead_status s (frameReq source f raw) false hq hv)
  · exact readSeg_status s source raw f _ ht ho (serveRead_pastEnd s (frameReq source f raw) hq hv hl)
  · exact readSeg_status s source raw f _ ht ho (serveRead_status s (frameReq source f raw) true hq hv)

end Sys2Proof.Machine
end

section
/-! SUPPORT. What an event and a HOLD leave alone. -/

namespace Sys2Proof.Machine

open Sys2Proof

/-! ### Fields of other blocks than an event's -/

/-- A field that is neither of the event rings' block nor RAS_EVSEQ.NEXT. -/
def Fld.awayFromEvents (f : Fld) : Prop :=
  (f.key < 0x1401000 * 64 ∨ 0x1402000 * 64 ≤ f.key) ∧ f.key ≠ F.RAS_EVSEQ_NEXT.key

/-- Such a field is none that an event writes. -/
theorem awayFromEvents_ne {f : Fld} (h : f.awayFromEvents) : ∀ g ∈ eventFields, f.key ≠ g.key := by
  obtain ⟨hblock, hseq⟩ := h
  intro g hg
  simp only [eventFields, List.mem_cons, List.mem_flatMap, List.mem_range, List.not_mem_nil, or_false] at hg
  rcases hg with rfl | ⟨r, hr, rfl | rfl | rfl⟩
  · exact hseq
  all_goals
    simp only [Fld.key, F.HST_EVR_CTL_LOST, F.HST_EVR_CTL_OVF, F.HST_EVR_IDX_PI] at hblock ⊢
    omega

/-- It reads the same after an event. -/
theorem raise_get (d : Dev) (cls status source : Nat) (detail : List Nat) {f : Fld} (h : f.awayFromEvents) :
    (d.raise cls status source detail).get f = d.get f :=
  raise_regs d cls status source detail f (awayFromEvents_ne h)

/-- Fields outside the rings' block set up no ring and number no event. -/
theorem ringFree_of_away {l : List Fld} (h : ∀ f ∈ l, f.awayFromEvents) : RingFree l := by
  intro g hg
  obtain ⟨hblock, hseq⟩ := h g hg
  refine ⟨hseq.symm, fun r hr => ?_⟩
  simp only [Fld.key, F.HST_EVR_CTL_EN, F.HST_EVR_BASE_PA, F.HST_EVR_CTL_LOG2] at hblock ⊢
  omega

/-! ### What of the device an event leaves alone -/

/-- From `a` to `b` nothing changed that raising an event leaves alone: clocks, engines and gates. -/
def Dev.sameButEvent (a b : Dev) : Prop :=
  ∃ (r : Table Nat) (m : Mem) (e : List Event) (o : List Out) (h : HostSt) (t : TierSt) (p : Table PartSt) (z : PlzSt),
    b = { a with regs := r, mem := m, events := e, outs := o, host := h, tier := t, parts := p, plz := z }

theorem sameButEvent_trans {a b c : Dev} (h : Dev.sameButEvent a b) (k : Dev.sameButEvent b c) : Dev.sameButEvent a c := by
  obtain ⟨_, _, _, _, _, _, _, _, rfl⟩ := h
  obtain ⟨_, _, _, _, _, _, _, _, rfl⟩ := k
  exact ⟨_, _, _, _, _, _, _, _, rfl⟩

theorem sendVector_sameButEvent (d : Dev) (v : Nat) : Dev.sameButEvent d (d.sendVector v) := by
  unfold Dev.sendVector
  split <;> exact ⟨_, _, _, _, _, _, _, _, rfl⟩

theorem writeRecord_sameButEvent (d : Dev) (pa : Nat) (rec : List Byte) (llu : Bool) : Dev.sameButEvent d (d.writeRecord pa rec llu) := by
  have hkeep : Dev.sameButEvent d (d.keepRecord pa rec llu) := by
    unfold Dev.keepRecord
    split <;> exact ⟨_, _, _, _, _, _, _, _, rfl⟩
  unfold Dev.writeRecord
  dsimp only
  split
  · exact hkeep
  · exact sameButEvent_trans hkeep ⟨_, _, _, _, _, _, _, _, rfl⟩

theorem ringWrite_sameButEvent (d : Dev) (r : Nat) (rec : List Byte) : Dev.sameButEvent d (d.ringWrite r rec) := by
  unfold Dev.ringWrite
  split
  · exact ⟨_, _, _, _, _, _, _, _, rfl⟩
  · dsimp only
    split
    · exact ⟨_, _, _, _, _, _, _, _, rfl⟩
    · exact sameButEvent_trans (writeRecord_sameButEvent d _ rec false)
        (sameButEvent_trans (b := Dev.put _ _ _) ⟨_, _, _, _, _, _, _, _, rfl⟩ (sendVector_sameButEvent _ _))

theorem notify_sameButEvent (d : Dev) (rec : List Byte) : Dev.sameButEvent d (d.notify rec) := by
  unfold Dev.notify
  split
  · exact ⟨_, _, _, _, _, _, _, _, rfl⟩
  · split <;> exact ⟨_, _, _, _, _, _, _, _, rfl⟩

theorem raise_sameButEvent (d : Dev) (cls status source : Nat) (detail : List Nat) :
    Dev.sameButEvent d (d.raise cls status source detail) := by
  rw [raise_eq]
  exact sameButEvent_trans (b := d.logged _) ⟨_, _, _, _, _, _, _, _, rfl⟩
    (sameButEvent_trans (ringWrite_sameButEvent _ _ _) (notify_sameButEvent _ _))

@[simp] theorem raise_dtd (d : Dev) (cls status source : Nat) (detail : List Nat) : (d.raise cls status source detail).dtd = d.dtd := by
  obtain ⟨_, _, _, _, _, _, _, _, h⟩ := raise_sameButEvent d cls status source detail
  rw [h]

/-! ### What of the device a HOLD leaves alone -/

/-- From `a` to `b` only registers, tick state and what the device sent may have changed. -/
def Dev.sameButTick (a b : Dev) : Prop := ∃ (r : Table Nat) (k : TickSt) (o : List Out), b = { a with regs := r, tick := k, outs := o }

theorem sameButTick_trans {a b c : Dev} (h : Dev.sameButTick a b) (k : Dev.sameButTick b c) : Dev.sameButTick a c := by
  obtain ⟨_, _, _, rfl⟩ := h
  obtain ⟨_, _, _, rfl⟩ := k
  exact ⟨_, _, _, rfl⟩

theorem sendTick_sameButTick (w : Nat) (ps : List Nat) : ∀ d : Dev, Dev.sameButTick d (d.sendTick ps w) := by
  induction ps with
  | nil => exact fun d => ⟨_, _, _, rfl⟩
  | cons p r ih => exact fun d => sameButTick_trans (b := d.emit (.tickMsg p w)) ⟨_, _, _, rfl⟩ (ih _)

theorem flood_sameButTick (d : Dev) (kind cause k tick : Nat) : Dev.sameButTick d (d.flood kind cause k tick) := by
  unfold Dev.flood
  split
  · exact ⟨_, _, _, rfl⟩
  · exact sameButTick_trans (sendTick_sameButTick _ _ d) ⟨_, _, _, rfl⟩

/-- The device with one more HOLD target. -/
def Dev.withTarget (d : Dev) (t : Nat) : Dev :=
  { d with tick := { d.tick with targets := if d.tick.targets.contains t then d.tick.targets else t :: d.tick.targets } }

theorem addTarget_eq (d : Dev) (t : Nat) :
    d.addTarget t = if d.tickState == tsRunning then (d.withTarget t).put F.TCK_STATUS_STATE tsHolding else d.withTarget t := rfl

theorem addTarget_sameButTick (d : Dev) (t : Nat) : Dev.sameButTick d (d.addTarget t) := by
  rw [addTarget_eq]
  split <;> exact ⟨_, _, _, rfl⟩

theorem sendHold_sameButTick (d : Dev) (c : Nat) : Dev.sameButTick d (d.sendHold c) := by
  unfold Dev.sendHold
  dsimp only
  split
  · exact addTarget_sameButTick _ _
  · exact sameButTick_trans (flood_sameButTick _ _ _ _ _) (addTarget_sameButTick _ _)

theorem sendParked_sameButTick (d : Dev) : Dev.sameButTick d d.sendParked := by
  have hsent : Dev.sameButTick d { d with tick := { d.tick with parkedSent := true } } := ⟨_, _, _, rfl⟩
  unfold Dev.sendParked
  dsimp only
  split
  · exact sameButTick_trans hsent ⟨_, _, _, rfl⟩
  · split
    · split
      · exact sameButTick_trans hsent (sendTick_sameButTick _ _ _)
      · exact hsent
    · exact hsent

theorem assertHold_sameButTick (d : Dev) (c : Nat) : Dev.sameButTick d (d.assertHold c) := by
  unfold Dev.assertHold
  split
  · exact ⟨_, _, _, rfl⟩
  · have hset : Dev.sameButTick d (d.setCause c) := ⟨_, _, _, rfl⟩
    dsimp only
    split
    · exact sameButTick_trans hset (sendHold_sameButTick _ _)
    · split
      · exact sameButTick_trans hset (sendParked_sameButTick _)
      · exact hset

@[simp] theorem assertHold_pwr (d : Dev) (c : Nat) : (d.assertHold c).pwr = d.pwr := by
  obtain ⟨_, _, _, h⟩ := assertHold_sameButTick d c
  rw [h]

@[simp] theorem assertHold_gate (d : Dev) (c : Nat) : (d.assertHold c).gate = d.gate := by
  obtain ⟨_, _, _, h⟩ := assertHold_sameButTick d c
  rw [h]

end Sys2Proof.Machine
end

section
/-! PROOF. The proofs of O2 (rails and shutdown causes) and O3 (clocks and holdover). -/

namespace Sys2Proof.Machine

open Sys2Proof

/-! ### Rails (R24 to R30) -/

/-- A port reads what was written to it; every other port reads as before. -/
theorem port_setPort (d : Dev) (p q : Nat) (x : PortSt) : (d.setPort p x).port q = if q = p then x else d.port q :=
  table_get_set (fun _ => PortSt.reset) d.gate.ports p q x

/-- Stopping some transmitters changes the gates only, and those ports do not drive afterwards. -/
theorem stopGates_list (l : List Nat) : ∀ d : Dev,
    ∃ g : GateSt, l.foldl (fun d p => d.setPort p { d.port p with driving := false }) d = { d with gate := g } ∧
      ∀ p : Nat, p ∈ l ∨ (d.port p).driving = false → (Dev.port { d with gate := g } p).driving = false := by
  induction l with
  | nil => exact fun d => ⟨d.gate, rfl, fun p hp => hp.resolve_left (by simp)⟩
  | cons q r ih =>
    intro d
    obtain ⟨g, hg, hdriving⟩ := ih (d.setPort q { d.port q with driving := false })
    refine ⟨g, hg, fun p hp => hdriving p ?_⟩
    rw [port_setPort]
    by_cases hpq : p = q
    · exact .inr (by rw [if_pos hpq])
    · rw [if_neg hpq]
      exact hp.imp_left fun hmem => (List.mem_cons.mp hmem).resolve_left hpq

theorem stopGates_gate (d : Dev) : ∃ g : GateSt, d.stopGates = { d with gate := g } ∧
    ∀ p : Nat, p < 12 → (Dev.port { d with gate := g } p).driving = false := by
  obtain ⟨g, hg, hdriving⟩ := stopGates_list (List.range 12) d
  exact ⟨g, hg, fun p hp => hdriving p (.inl (List.mem_range.mpr hp))⟩

/-- The rails fall from a device whose power state was written to `p`, PWRGD still high. -/
theorem powerDown_falls (s : State) (p : PowerSt) (cause : Nat) (h : p.pwrgd = true) :
    let t := (s.setPower p).powerDown cause
    t.dev.pwr = { p with pwrgd := false, ramping := false } ∧ t.flash = { s.flash with shutdown := some cause } ∧
      t.dev.outs = .rails false :: s.dev.outs ∧ (∀ q : Nat, q < 12 → (t.dev.port q).driving = false) ∧ t.vault = s.vault ∧
      t.pending = s.pending ∧ Dev.sameRegsBut [] s.dev t.dev ∧ t.dev.mem = s.dev.mem := by
  obtain ⟨g, hg, hdriving⟩ := stopGates_gate (s.setPower p).dev
  have hdown : (s.setPower p).powerDown cause = { s with
      flash := { s.flash with shutdown := some cause },
      dev := { s.dev with gate := g, pwr := { p with pwrgd := false, ramping := false }, outs := .rails false :: s.dev.outs } } := by
    unfold State.powerDown
    dsimp only
    rw [if_pos (show (s.setPower p).dev.pwr.pwrgd = true from h), hg]
    rfl
  intro t
  rw [show t = _ from hdown]
  exact ⟨rfl, rfl, rfl, hdriving, rfl, rfl, fun _ _ => rfl, rfl⟩

/-- The power state that each trigger of a controlled power-down writes before the rails fall. -/
def State.tripped (s : State) : Instr → PowerSt
  | .pwrEnFall => { s.dev.pwr with pwrEn := false, thermtrip := false, holdoff := true }
  | .thermtrip => { s.dev.pwr with thermtrip := s.dev.pwr.thermtrip || s.dev.pwr.pwrgd || s.dev.pwr.ramping }
  | _ => s.dev.pwr

/-- The five triggers and the causes they record (R30). -/
def powerDownCauses : List (Instr × Nat) :=
  [(.pwrEnFall, 1), (.railOutOfRegulation, 4), (.undervoltage, 2), (.overvoltage, 3), (.thermtrip, 5)]

theorem exec_powerDown (s : State) (c : Instr) (cause : Nat) (h : (c, cause) ∈ powerDownCauses) :
    exec c s = .next ((s.setPower (s.tripped c)).powerDown cause) ∧ (s.tripped c).pwrgd = s.dev.pwr.pwrgd := by
  simp only [powerDownCauses, List.mem_cons, Prod.mk.injEq, List.not_mem_nil, or_false] at h
  rcases h with ⟨rfl, rfl⟩ | ⟨rfl, rfl⟩ | ⟨rfl, rfl⟩ | ⟨rfl, rfl⟩ | ⟨rfl, rfl⟩ <;> exact ⟨rfl, rfl⟩

/-- Settles O2: each trigger writes its own pins, then the rails fall in one way. -/
theorem powerDownRecordsItsCause : Obligations.PowerDownRecordsItsCause := by
  intro s c cause hs hc
  obtain ⟨hexec, hgood⟩ := exec_powerDown s c cause hc
  obtain ⟨hpwr, hflash, houts, hports, hvault, hpending, hregs, hmem⟩ := powerDown_falls s (s.tripped c) cause (hgood.trans hs)
  refine ⟨_, hexec, by rw [hpwr], hflash, houts, hports, hvault, hpending, hregs, hmem, ?_, ?_⟩
  · rintro rfl
    rw [hpwr]
    simp [State.tripped, show s.dev.pwr.pwrgd = true from hs]
  · rintro rfl
    rw [hpwr]
    exact ⟨rfl, rfl, rfl⟩

/-! ### Clocks (R18, R373) -/

/-- A number made of one bit for each place has those bits. -/
theorem bit_sum_bits (g : Nat → Bool) (n : Nat) :
    (List.range n).foldl (fun a i => a + b2n (g i) * 2 ^ i) 0 < 2 ^ n ∧
      ∀ i < n, bit ((List.range n).foldl (fun a i => a + b2n (g i) * 2 ^ i) 0) i = g i := by
  induction n with
  | zero => simp
  | succ n ih =>
    obtain ⟨hlt, hbits⟩ := ih
    rw [List.range_succ, List.foldl_append, List.foldl_cons, List.foldl_nil]
    generalize (List.range n).foldl (fun a i => a + b2n (g i) * 2 ^ i) 0 = a at hlt hbits ⊢
    have hb : b2n (g n) ≤ 1 := by cases g n <;> decide
    refine ⟨?_, fun i hi => ?_⟩
    · have := Nat.mul_le_mul_right (2 ^ n) hb
      rw [pow_succ]
      omega
    · rw [bit_eq_testBit, Nat.add_comm, Nat.mul_comm, Nat.testBit_two_pow_mul_add _ hlt]
      split
      · rename_i hin
        rw [← bit_eq_testBit]
        exact hbits i hin
      · have hieq : i = n := by omega
        subst hieq
        cases hg : g i <;> simp [b2n]

theorem bits_one (v i : Nat) : bits v i i = b2n (bit v i) := by
  have h : v / 2 ^ i % 2 < 2 := Nat.mod_lt _ (by decide)
  simp only [bits, bit, Nat.add_sub_cancel_left, pow_one, b2n, beq_iff_eq]
  split <;> omega

/-- The LOCK bits after some were set or cleared. -/
theorem setLock_bit (d : Dev) (l : List Nat) (v : Bool) (i : Nat) (h : i < 18) :
    bit ((d.setLock l v).get F.PWR_CLK_LOCK) i = if l.contains i then v else bit (d.get F.PWR_CLK_LOCK) i := by
  have hsum := bit_sum_bits (fun i => if l.contains i then v else bit (d.get F.PWR_CLK_LOCK) i) 18
  have hfold : (fun a i => a + (if l.contains i then b2n v else bits (d.get F.PWR_CLK_LOCK) i i) * 2 ^ i) =
      fun a i => a + b2n (if l.contains i then v else bit (d.get F.PWR_CLK_LOCK) i) * 2 ^ i := by
    funext a i
    rw [bits_one, apply_ite b2n]
  rw [Dev.setLock, get_put_same, hfold]
  exact (congrArg (bit · i) (Nat.mod_eq_of_lt hsum.1)).trans (hsum.2 i h)

theorem setLock_frame (d : Dev) (l : List Nat) (v : Bool) : Dev.onlyRegs [F.PWR_CLK_LOCK] d (d.setLock l v) :=
  onlyRegs_put _ _ _ _ (by decide)

/-- The two fields that a lost lock writes beside its event. -/
def clockFields : List Fld := [F.PWR_CLK_LOCK, F.PWR_CLK_LOSSES]

theorem clockFields_away : ∀ f ∈ clockFields, f.awayFromEvents := by
  unfold Fld.awayFromEvents
  decide

/-- LOCK and LOSSES as a lost lock leaves them, before its event. -/
def Dev.unlocked (d : Dev) (i : Nat) : Dev := (d.setLock [i] false).bump F.PWR_CLK_LOSSES 1

theorem unlocked_frame (d : Dev) (i : Nat) : Dev.onlyRegs clockFields d (d.unlocked i) :=
  onlyRegs_trans (onlyRegs_mono (setLock_frame d [i] false) (by decide)) (onlyRegs_mono (onlyRegs_bump _ _ _) (by decide))

/-- A lost lock: its LOCK bit is clear and the others as before, the loss is counted, one clock event. -/
theorem lockLost_effect (d : Dev) (i : Nat) (h : i < 18) :
    bit ((d.lockLost i).get F.PWR_CLK_LOCK) i = false ∧
      (∀ j : Nat, j < 18 → j ≠ i → bit ((d.lockLost i).get F.PWR_CLK_LOCK) j = bit (d.get F.PWR_CLK_LOCK) j) ∧
      (d.lockLost i).get F.PWR_CLK_LOSSES = min (2 ^ 32 - 1) (d.get F.PWR_CLK_LOSSES + 1) ∧
      Dev.raisedOne d (d.lockLost i) evClock stOk 0 [] := by
  have hlock : (d.lockLost i).get F.PWR_CLK_LOCK = (d.setLock [i] false).get F.PWR_CLK_LOCK :=
    (raise_get _ _ _ _ _ (clockFields_away _ (by decide))).trans ((get_bump _ _ _ _).trans (if_neg (by decide)))
  have hloss : (d.lockLost i).get F.PWR_CLK_LOSSES = min (2 ^ 32 - 1) (d.get F.PWR_CLK_LOSSES + 1) := by
    refine (raise_get _ _ _ _ _ (clockFields_away _ (by decide))).trans ?_
    rw [get_bump, if_pos rfl, Dev.setLock, get_put_ne _ _ _ _ (by decide)]
    exact Nat.mod_eq_of_lt (Nat.lt_of_le_of_lt (Nat.min_le_left _ _) (by decide))
  refine ⟨?_, fun j hj hne => ?_, hloss, raise_one_after (unlocked_frame d i) (ringFree_of_away clockFields_away) _ _ _ _⟩
  · rw [hlock, setLock_bit d _ _ _ h]
    simp
  · rw [hlock, setLock_bit d _ _ _ hj]
    simp [hne]

/-- The frame of an event carries over what follows it and writes neither registers but some, nor memory, nor events. -/
theorem raisedOne_after {l : List Fld} {a b c : Dev} {cls status source : Nat} {detail : List Nat}
    (h : Dev.raisedOne a b cls status source detail) (k : Dev.onlyRegs l b c) : Dev.raisedOne a c cls status source detail := by
  obtain ⟨e, he, hrest⟩ := h
  exact ⟨e, k.2.2.2.trans he, hrest⟩

/-- Holdover begins: it is noted, CLOCK is held, and the clock fields and events are as before. -/
theorem holdoverStart_effect (d : Dev) :
    d.holdoverStart.pwr.holdover = true ∧ d.holdoverStart.held hcClock = true ∧ Dev.onlyRegs holdFields d d.holdoverStart ∧
      ∀ f ∈ clockFields, d.holdoverStart.get f = d.get f := by
  have hframe : Dev.onlyRegs holdFields d d.holdoverStart :=
    onlyRegs_trans (b := { d with pwr := { d.pwr with holdover := true } }) (onlyRegs_core _ ⟨rfl, rfl, rfl, rfl⟩) (assertHold_frame _ _)
  refine ⟨?_, assertHold_held _ _ (by decide), hframe, fun f hf => hframe.1 f ?_⟩
  · rw [Dev.holdoverStart, assertHold_pwr]
  · revert f
    decide

/-- A lost lock with the holdover that it starts. -/
theorem lockLost_holdover (d : Dev) (i : Nat) (h : i < 18) :
    let t := (d.lockLost i).holdoverStart
    t.pwr.holdover = true ∧ t.held hcClock = true ∧ bit (t.get F.PWR_CLK_LOCK) i = false ∧
      (∀ j : Nat, j < 18 → j ≠ i → bit (t.get F.PWR_CLK_LOCK) j = bit (d.get F.PWR_CLK_LOCK) j) ∧
      t.get F.PWR_CLK_LOSSES = min (2 ^ 32 - 1) (d.get F.PWR_CLK_LOSSES + 1) ∧ Dev.raisedOne d t evClock stOk 0 [] := by
  obtain ⟨hover, hheld, hframe, hclocks⟩ := holdoverStart_effect (d.lockLost i)
  obtain ⟨hbit, hothers, hloss, hone⟩ := lockLost_effect d i h
  have hlock := hclocks F.PWR_CLK_LOCK (by decide)
  intro t
  rw [show t.get F.PWR_CLK_LOCK = _ from hlock]
  exact ⟨hover, hheld, hbit, hothers, (hclocks _ (by decide)).trans hloss, raisedOne_after hone hframe⟩

/-- TREF_OUT_OF_TOLERANCE of a selected TREF. -/
theorem tref_lost (s : State) (hs : s.powered) (hsel : s.dev.pwr.trefSelected = true) (hover : s.dev.pwr.holdover = false) :
    Answers .trefOutOfTolerance s fun t =>
      t.dev.pwr.holdover = true ∧ bit (t.dev.get F.PWR_CLK_LOCK) 17 = false ∧ t.dev.held hcClock = true ∧
        t.dev.get F.PWR_CLK_LOSSES = min (2 ^ 32 - 1) (s.dev.get F.PWR_CLK_LOSSES + 1) ∧ Dev.raisedOne s.dev t.dev evClock stOk 0 [] ∧
        State.sameBut s t := by
  have hexec : exec .trefOutOfTolerance s = .next { s with dev := (s.dev.lockLost 17).holdoverStart } :=
    (onDev_powered _ s hs).trans (by rw [hsel, hover]; rfl)
  obtain ⟨hhold, hheld, hbit, -, hloss, hone⟩ := lockLost_holdover s.dev 17 (by decide)
  generalize (s.dev.lockLost 17).holdoverStart = d at hexec hhold hheld hbit hloss hone
  exact ⟨_, hexec, hhold, hbit, hheld, hloss, hone, rfl, rfl, rfl⟩

/-- PLL_LOCK_LOSS of any domain, with holdover for one locked to TICKREF. -/
theorem pll_lost (s : State) (domain : Fin 18) (hs : s.powered) :
    Answers (.pllLockLoss domain) s fun t =>
      bit (t.dev.get F.PWR_CLK_LOCK) domain = false ∧
        (∀ i : Nat, i < 18 → i ≠ domain.val → bit (t.dev.get F.PWR_CLK_LOCK) i = bit (s.dev.get F.PWR_CLK_LOCK) i) ∧
        t.dev.get F.PWR_CLK_LOSSES = min (2 ^ 32 - 1) (s.dev.get F.PWR_CLK_LOSSES + 1) ∧ Dev.raisedOne s.dev t.dev evClock stOk 0 [] ∧
        (domain.val ∈ [0, 1, 2, 4, 9, 17] → t.dev.pwr.holdover = true ∧ t.dev.held hcClock = true) ∧ State.sameBut s t := by
  have hexec : exec (.pllLockLoss domain) s = .next { s with
      dev := if lockedDomains.contains domain.val then (s.dev.lockLost domain).holdoverStart else s.dev.lockLost domain } :=
    onDev_powered (fun d => if lockedDomains.contains domain.val then (d.lockLost domain).holdoverStart else d.lockLost domain) s hs
  have hlost := lockLost_effect s.dev domain domain.isLt
  have hheld := lockLost_holdover s.dev domain domain.isLt
  generalize (s.dev.lockLost domain).holdoverStart = d at hexec hheld
  generalize s.dev.lockLost domain = e at hexec hlost
  by_cases hin : lockedDomains.contains domain.val = true
  · rw [if_pos hin] at hexec
    obtain ⟨hover, hclock, hbit, hothers, hloss, hone⟩ := hheld
    exact ⟨_, hexec, hbit, hothers, hloss, hone, fun _ => ⟨hover, hclock⟩, rfl, rfl, rfl⟩
  · rw [if_neg hin] at hexec
    obtain ⟨hbit, hothers, hloss, hone⟩ := hlost
    exact ⟨_, hexec, hbit, hothers, hloss, hone, fun hmem => absurd (List.contains_iff_mem.mpr hmem) hin, rfl, rfl, rfl⟩

/-- The device out of holdover, every locked domain locked. -/
def Dev.relocked (d : Dev) : Dev := ({ d with pwr := { d.pwr with holdover := false } } : Dev).setLock lockedDomains true

theorem relocked_frame (d : Dev) : Dev.onlyRegs [F.PWR_CLK_LOCK] d d.relocked :=
  onlyRegs_trans (b := { d with pwr := { d.pwr with holdover := false } }) (onlyRegs_core _ ⟨rfl, rfl, rfl, rfl⟩) (setLock_frame _ _ _)

theorem relocked_lock (d : Dev) : ∀ i ∈ lockedDomains, bit (d.relocked.get F.PWR_CLK_LOCK) i = true := by
  intro i hi
  have hlt : ∀ j ∈ lockedDomains, j < 18 := by decide
  rw [Dev.relocked, setLock_bit _ _ _ _ (hlt i hi), if_pos (List.contains_iff_mem.mpr hi)]

/-- TREF_RELOCK in holdover. -/
theorem tref_relocks (s : State) (hs : s.powered) (hover : s.dev.pwr.holdover = true) :
    Answers .trefRelock s fun t =>
      t.dev.pwr.holdover = false ∧ (∀ i ∈ [0, 1, 2, 4, 9, 17], bit (t.dev.get F.PWR_CLK_LOCK) i = true) ∧
        t.dev.get F.TCK_STATUS_CAUSES = s.dev.get F.TCK_STATUS_CAUSES ∧ State.onlyFields [F.PWR_CLK_LOCK] s t ∧ t.dev.mem = s.dev.mem := by
  have hexec : exec .trefRelock s = .next { s with dev := s.dev.relocked } := by
    refine (onDev_powered _ s hs).trans ?_
    rw [if_pos hover]
    rfl
  have hframe := relocked_frame s.dev
  have hlock := relocked_lock s.dev
  have hover' : s.dev.relocked.pwr.holdover = false := rfl
  generalize s.dev.relocked = d at hexec hframe hlock hover'
  exact ⟨_, hexec, hover', hlock, hframe.1 F.TCK_STATUS_CAUSES (by decide), onlyFields_of_dev hframe, hframe.2.1⟩

/-- Settles O3, by its three commands. -/
theorem clocksAndHoldover : Obligations.ClocksAndHoldover := ⟨tref_lost, pll_lost, tref_relocks⟩

end Sys2Proof.Machine
end

section
/-! PROOF. The proof of O4 (input pins, counters, the science cap). -/

namespace Sys2Proof.Machine

open Sys2Proof

/-! ### Input voltage (R23, R375) -/

/-- The fields that INPUT_LOW writes beside its event. -/
def inputFields : List Fld := [F.PWR_MEAS_VIN, F.PWR_GOV_INPUT_LOW, F.PWR_GOV_LIMIT]

theorem inputFields_away : ∀ f ∈ inputFields, f.awayFromEvents := by
  unfold Fld.awayFromEvents
  decide

theorem setLimit_frame (d : Dev) : Dev.onlyRegs [F.PWR_GOV_LIMIT] d d.setLimit := onlyRegs_put _ _ _ _ (by decide)

theorem setLimit_limit (d : Dev) : d.setLimit.get F.PWR_GOV_LIMIT = d.moduleLimit % 2 ^ 16 := get_put_same _ _ _

/-- The input marked low at a voltage, before PWR_GOV.LIMIT follows. -/
def Dev.markedLow (d : Dev) (vin : Nat) : Dev := d.puts [(F.PWR_MEAS_VIN, vin), (F.PWR_GOV_INPUT_LOW, 1)]

theorem markedLow_get (d : Dev) (vin : Nat) (h : vin < 4000) :
    (d.markedLow vin).get F.PWR_MEAS_VIN = vin ∧ (d.markedLow vin).get F.PWR_GOV_INPUT_LOW = 1 := by
  rw [Dev.markedLow, puts_cons, puts_cons, puts_nil]
  refine ⟨?_, get_put_same _ _ _⟩
  rw [get_put_ne _ _ _ _ (by decide), get_put_same]
  exact Nat.mod_eq_of_lt (Nat.lt_trans h (by decide))

/-- While the input is low the limit is 50 A times its voltage, at most object 0x2E00.04. -/
theorem markedLow_limit (d : Dev) (vin : Nat) (h : vin < 4000) : (d.markedLow vin).moduleLimit = min (d.objNat 0x2E0004) (vin / 2) := by
  obtain ⟨hvin, hlow⟩ := markedLow_get d vin h
  have hobj : (d.markedLow vin).objNat 0x2E0004 = d.objNat 0x2E0004 := congrArg leNat (sameControl_obj (puts_control d _) _)
  unfold Dev.moduleLimit
  rw [if_pos (by simp [Dev.on, hlow]), hvin, hobj]

theorem markedLow_frame (d : Dev) (vin : Nat) : Dev.onlyRegs inputFields d (d.markedLow vin).setLimit :=
  onlyRegs_trans (onlyRegs_mono (onlyRegs_puts d _) (by simp [inputFields])) (onlyRegs_mono (setLimit_frame _) (by decide))

/-- The first INPUT_LOW within 38 V to 40 V. -/
theorem input_low (s : State) (vin : Nat) (hs : s.powered) (hlo : 3800 ≤ vin) (hhi : vin < 4000) (hwas : s.dev.get F.PWR_GOV_INPUT_LOW = 0) :
    Answers (.inputLow vin) s fun t =>
      t.dev.get F.PWR_MEAS_VIN = vin ∧ t.dev.get F.PWR_GOV_INPUT_LOW = 1 ∧
        t.dev.get F.PWR_GOV_LIMIT = min (s.dev.objNat 0x2E0004) (vin / 2) % 2 ^ 16 ∧ Dev.raisedOne s.dev t.dev evClock stOk 0 [] ∧
        State.onlyFieldsEv [F.PWR_MEAS_VIN, F.PWR_GOV_INPUT_LOW, F.PWR_GOV_LIMIT] s t := by
  have hlow : s.dev.inputLow vin = (s.dev.markedLow vin).setLimit.raise evClock stOk 0 [] := by
    have hon : s.dev.on F.PWR_GOV_INPUT_LOW = false := by simp [Dev.on, hwas]
    unfold Dev.inputLow
    rw [if_neg (by omega), hon]
    rfl
  have hexec : exec (.inputLow vin) s = .next { s with dev := (s.dev.markedLow vin).setLimit.raise evClock stOk 0 [] } :=
    (onDev_powered (fun d => d.inputLow vin) s hs).trans (by rw [hlow])
  obtain ⟨hvin, hmark⟩ := markedLow_get s.dev vin hhi
  have hlimit := (setLimit_limit (s.dev.markedLow vin)).trans (congrArg (· % 2 ^ 16) (markedLow_limit s.dev vin hhi))
  have hkeep := (setLimit_frame (s.dev.markedLow vin)).1
  have hget : ∀ f ∈ inputFields, ((s.dev.markedLow vin).setLimit.raise evClock stOk 0 []).get f = (s.dev.markedLow vin).setLimit.get f :=
    fun f hf => raise_get _ _ _ _ _ (inputFields_away f hf)
  have hone := raise_one_after (markedLow_frame s.dev vin) (ringFree_of_away inputFields_away) evClock stOk 0 []
  have hregs := raise_regs_after (markedLow_frame s.dev vin).1 evClock stOk 0 []
  have hmem := raise_mem_after (markedLow_frame s.dev vin) (ringFree_of_away inputFields_away) evClock stOk 0 []
  generalize (s.dev.markedLow vin).setLimit.raise evClock stOk 0 [] = d at hexec hget hone hregs hmem
  exact ⟨_, hexec, (hget _ (by decide)).trans ((hkeep _ (by decide)).trans hvin),
    (hget _ (by decide)).trans ((hkeep _ (by decide)).trans hmark),
    (hget _ (by decide)).trans hlimit, hone, onlyFieldsEv_of_dev hregs hmem⟩

/-- The input back in its range. -/
theorem input_inSpecification (s : State) (hs : s.powered) :
    Answers .inputInSpecification s fun t =>
      t.dev.get F.PWR_GOV_INPUT_LOW = 0 ∧ t.dev.get F.PWR_GOV_LIMIT = s.dev.objNat 0x2E0004 % 2 ^ 16 ∧
        State.onlyFields [F.PWR_GOV_INPUT_LOW, F.PWR_GOV_LIMIT] s t ∧ t.dev.mem = s.dev.mem := by
  have hexec := onDev_powered (fun d => (d.put F.PWR_GOV_INPUT_LOW 0).setLimit) s hs
  have hclear : (s.dev.put F.PWR_GOV_INPUT_LOW 0).get F.PWR_GOV_INPUT_LOW = 0 := get_put_same _ _ _
  have hlimit : (s.dev.put F.PWR_GOV_INPUT_LOW 0).moduleLimit = s.dev.objNat 0x2E0004 := by
    unfold Dev.moduleLimit
    rw [if_neg (by simp [Dev.on, hclear])]
    rfl
  have hframe : Dev.onlyRegs [F.PWR_GOV_INPUT_LOW, F.PWR_GOV_LIMIT] s.dev (s.dev.put F.PWR_GOV_INPUT_LOW 0).setLimit :=
    onlyRegs_trans (onlyRegs_put _ _ _ _ (by decide)) (onlyRegs_mono (setLimit_frame _) (by decide))
  have hset := setLimit_limit (s.dev.put F.PWR_GOV_INPUT_LOW 0)
  have hkeep := (setLimit_frame (s.dev.put F.PWR_GOV_INPUT_LOW 0)).1 F.PWR_GOV_INPUT_LOW (by decide)
  rw [hlimit] at hset
  generalize (s.dev.put F.PWR_GOV_INPUT_LOW 0).setLimit = d at hexec hframe hset hkeep
  exact ⟨_, hexec, hkeep.trans hclear, hset, onlyFields_of_dev hframe, hframe.2.1⟩

/-! ### PERST# and the endpoint (R25) -/

theorem linkUp_effect (d : Dev) : d.linkUp.get F.HST_LINK_DL_UP = 1 ∧ d.linkUp.host = d.host ∧ d.linkUp.mem = d.mem := by
  unfold Dev.linkUp
  split
  · rename_i hon
    exact ⟨by simpa [Dev.on] using hon, rfl, rfl⟩
  · dsimp only
    refine ⟨?_, by simp, by simp⟩
    rw [puts_cons, puts_cons, puts_cons, puts_nil, get_put_ne _ _ _ _ (by decide), get_put_ne _ _ _ _ (by decide), get_put_same]
    rfl

theorem configuration_ready (s : State) (hs : s.powered) (hperst : s.dev.host.perst = false) :
    Answers .configurationReady s fun t =>
      t.dev.host.cfgReady = true ∧ t.dev.get F.HST_LINK_DL_UP = 1 ∧ State.sameBut s t ∧ t.dev.mem = s.dev.mem := by
  have hexec : exec .configurationReady s =
      .next { s with dev := ({ s.dev with host := { s.dev.host with cfgReady := true } } : Dev).linkUp } := by
    refine (onDev_powered
      (fun d => if d.host.perst then d else ({ d with host := { d.host with cfgReady := true } } : Dev).linkUp) s hs).trans ?_
    rw [hperst]
    rfl
  obtain ⟨hup, hhost, hmem⟩ := linkUp_effect { s.dev with host := { s.dev.host with cfgReady := true } }
  exact ⟨_, hexec, congrArg HostSt.cfgReady hhost, hup, ⟨rfl, rfl, rfl⟩, hmem⟩

/-! ### Powered hours, telemetry, the science cap (R31, R251, R374) -/

theorem satTo_eq_min (m x : Nat) : satTo m x = min m x := by
  unfold satTo
  split <;> omega

theorem powered_hours (s : State) (hs : s.powered) :
    Answers .poweredHours s fun t => t = { s with flash := { s.flash with hours := min (2 ^ 32 - 1) (s.flash.hours + 1) } } := by
  have hexec := onDevFlash_powered (fun _ f d => ({ f with hours := satTo (2 ^ 32 - 1) (f.hours + 1) }, d)) s hs
  rw [satTo_eq_min] at hexec
  exact ⟨_, hexec, rfl⟩

/-- The device with a die marked silent, before its event. -/
def Dev.silenced (d : Dev) (die : Nat) : Dev := { d with dtd := { d.dtd with silent := die :: d.dtd.silent } }

/-- A die that was heard falls silent, with one RAS event. -/
theorem telemetry_timeout (s : State) (die : Fin 21) (hs : s.powered) (h : die.val ∉ s.dev.dtd.silent) :
    Answers (.telemetryTimeout die) s fun t =>
      die.val ∈ t.dev.dtd.silent ∧ Dev.raisedOne s.dev t.dev evRas stOk die [die.val] ∧ State.onlyFieldsEv [] s t := by
  have hexec : exec (.telemetryTimeout die) s = .next { s with dev := (s.dev.silenced die).raise evRas stOk die [die.val] } := by
    refine (onDev_powered
      (fun d => if d.dtd.silent.contains die.val then d else (d.silenced die).raise evRas stOk die [die.val]) s hs).trans ?_
    rw [if_neg (by simpa using h)]
  have hframe : Dev.onlyRegs [] s.dev (s.dev.silenced die) := onlyRegs_core _ ⟨rfl, rfl, rfl, rfl⟩
  have hdtd : die.val ∈ ((s.dev.silenced die).raise evRas stOk die [die.val]).dtd.silent := by
    rw [raise_dtd]
    exact List.mem_cons_self
  exact ⟨_, hexec, hdtd, raise_one_after hframe ringFree_nil _ _ _ _,
    onlyFieldsEv_of_dev (raise_regs_after hframe.1 _ _ _ _) (raise_mem_after hframe ringFree_nil _ _ _ _)⟩

/-- The science cap moves by one step of 100 MHz and stays within its range. -/
theorem sciCap_step (s : State) (power : Nat) (hot : Int) (hs : s.powered) (hlo : 1200 ≤ s.dev.get F.PWR_SCI_CAP)
    (hhi : s.dev.get F.PWR_SCI_CAP ≤ 3200) :
    Answers (.sciCapStep power hot) s fun t =>
      t.dev.get F.PWR_SCI_CAP = (if 180 < power ∨ 16 * (s.dev.objNat 0x2E0005 : Int) ≤ hot then max 1200 (s.dev.get F.PWR_SCI_CAP - 100)
        else min 3200 (s.dev.get F.PWR_SCI_CAP + 100)) ∧
        State.onlyFields [F.PWR_SCI_CAP] s t ∧ t.dev.mem = s.dev.mem := by
  have hexec := onDev_powered (fun d => d.sciCap power hot) s hs
  have hframe : Dev.onlyRegs [F.PWR_SCI_CAP] s.dev (s.dev.sciCap power hot) := onlyRegs_put _ _ _ _ (by decide)
  refine ⟨_, hexec, ?_, onlyFields_of_dev hframe, hframe.2.1⟩
  refine (get_put_same _ _ _).trans (Nat.mod_eq_of_lt ?_)
  have hw : (2 : Nat) ^ F.PWR_SCI_CAP.w = 4096 := rfl
  rw [hw]
  split <;> omega

/-- Settles O4, by its seven commands. -/
theorem inputPinsAndCounters : Obligations.InputPinsAndCounters :=
  ⟨input_low, input_inSpecification, fun _ => ⟨_, rfl, rfl, onlyFields_of_dev (onlyRegs_core _ ⟨rfl, rfl, rfl, rfl⟩), rfl⟩,
    configuration_ready, powered_hours, telemetry_timeout, sciCap_step⟩

end Sys2Proof.Machine
end

section
/-! PROOF. The refutation of O53: a whole-device reset on a register table that is out of order. -/

namespace Sys2Proof.Machine

open Sys2Proof

/-! ### A whole-device reset on a register table that is out of order (R369) -/

/-- A request that passes steps 3 to 7 of R360 is accepted: the slot's counter is committed and nothing else moves. -/
theorem authentic_steps {s : State} {a : Auth} {key : Nat} {value : List Byte} (h : s.authentic a key value) :
    authSteps s.vault s.dev (authReq a key value) a = (stOk, s.countedVault a, s.dev) := by
  obtain ⟨-, -, hlocked, hcounter, hmax, hmask, k, hkey, htag⟩ := h
  unfold authSteps State.countedVault
  dsimp only
  split
  · rename_i hnone
    exact absurd (hkey.symm.trans hnone) (by simp)
  · rename_i k' hk'
    obtain rfl : k = k' := Option.some.inj (hkey.symm.trans hk')
    rw [if_neg (by simp [hlocked, ← htag]; omega), if_neg (by simpa [authReq] using hmask)]

/-- Such a request has its effect; from another source than the mailbox its answer writes no register. -/
theorem authentic_lopWrite {s : State} {a : Auth} {key : Nat} {value : List Byte} (h : s.authentic a key value) (hsrc : a.source ≠ srcMailbox)
    (rules : State → Nat × State) :
    ∃ o : List Out, (lopWrite true (authReq a key value) rules s).dev =
      { (rules { s with vault := s.countedVault a }).2.dev with outs := o } := by
  have hsteps := authentic_steps h
  obtain ⟨-, hresent, -⟩ := h
  unfold lopWrite
  rw [show (authReq a key value).auth = some a from rfl]
  dsimp only
  rw [hresent]
  dsimp only
  rw [hsteps]
  dsimp only
  rw [if_neg (by decide)]
  exact ⟨_, reply_other _ _ _ hsrc⟩

/-- A taken request that may start a reset starts it once it is answered. -/
theorem onAuthReset_taken {s : State} {a : Auth} {key : Nat} {value : List Byte} (h : s.authentic a key value) (rules : State → Nat × State) :
    onAuthReset a key value rules s = .next (lopWrite true (authReq a key value) rules s).runReset := by
  obtain ⟨⟨hpowered, hserves, hcarries⟩, -⟩ := h
  have hgood : s.dev.pwr.pwrgd = true := hpowered
  unfold onAuthReset
  rw [if_pos (by simp [hgood, hserves, hcarries])]

/-- The registers out of order: the boot state, a later register that a reset clears, then PWR_RST.WHOLE, which a read does not reach. -/
def unsortedRegs : Table Nat := [(F.PWR_BOOT_STATE.key, dsReady), (F.PWR_MEAS_VIN.key, 1), (F.PWR_RST_WHOLE.key, 5)]

/-- The state as after power-on reset but for those registers. -/
def unsorted : State := { State.reset with dev := { Dev.reset with regs := unsortedRegs } }

/-- The request of a reset with slot 0's key, from the I3C bus. -/
def resetAuth : Auth :=
  { (⟨srcI3c, 1, 0, 1, []⟩ : Auth) with
    tag := requestTag Config.transportKey (authReq ⟨srcI3c, 1, 0, 1, []⟩ 0x2E0101 (boolByte true)) ⟨srcI3c, 1, 0, 1, []⟩ }

theorem unsorted_authentic : unsorted.authentic resetAuth 0x2E0101 (boolByte true) :=
  ⟨⟨by unfold State.powered; decide +kernel, by decide +kernel, by decide +kernel⟩, rfl, rfl, (by decide : 0 < 1), (by decide : 1 < 2 ^ 64),
    by decide +kernel, Config.transportKey, rfl, rfl⟩

/-- Before the reset PWR_RST.WHOLE reads 0. -/
theorem unsorted_before : unsorted.dev.get F.PWR_RST_WHOLE = 0 := by decide +kernel

/-- Once the reset has cleared the register in front of it, it reads 5. -/
theorem unsorted_rebooted {d : Dev} (h : d.regs = unsortedRegs) : (d.rebooted rwsFields).get F.PWR_RST_WHOLE = 5 := by
  unfold Dev.get Dev.rebooted
  dsimp only
  rw [h]
  decide +kernel

/-- The registers that a whole-device reset leaves, out of holdover. -/
theorem wholeReset_count (s : State) (h : s.dev.pwr.holdover = false) (hregs : s.dev.regs = unsortedRegs) :
    (s.wholeReset rcWhole).dev.get F.PWR_RST_WHOLE = 6 := by
  obtain ⟨g, hg, -⟩ := stopGates_gate s.dev
  have hrebooted : ((s.dev.stopGates.emit .linkDown).rebooted rwsFields).get F.PWR_RST_WHOLE = 5 :=
    unsorted_rebooted (by rw [hg]; exact hregs)
  have hcount : (((s.dev.stopGates.emit .linkDown).rebooted rwsFields).bump F.PWR_RST_WHOLE 1).get F.PWR_RST_WHOLE = 6 := by
    rw [get_bump, hrebooted]
    decide
  have hover : ((s.dev.stopGates.emit .linkDown).rebooted rwsFields).pwr.holdover = false := by rw [hg]; exact h
  unfold State.wholeReset
  dsimp only
  rw [if_neg (show rcWhole ≠ rcZeroise by decide), if_neg (by simpa using hover), get_put_ne _ _ _ _ (by decide)]
  exact hcount

/-- The reset runs: the request is answered, then the device boots anew. -/
theorem unsorted_reset : ∃ t : State, exec (.wholeDeviceReset resetAuth) unsorted = .next t ∧ t.dev.get F.PWR_RST_WHOLE = 6 := by
  obtain ⟨o, hdev⟩ := authentic_lopWrite unsorted_authentic (by decide) (resetRule true)
  refine ⟨(lopWrite true (authReq resetAuth 0x2E0101 (boolByte true)) (resetRule true) unsorted).runReset, ?_, ?_⟩
  · exact onAuthReset_taken unsorted_authentic (resetRule true)
  · generalize lopWrite true (authReq resetAuth 0x2E0101 (boolByte true)) (resetRule true) unsorted = u at hdev
    have hdue : u.dev.ctl.resetDue = rcWhole := by rw [hdev]; rfl
    unfold State.runReset
    dsimp only
    rw [if_pos hdue]
    exact wholeReset_count _ (by rw [hdev]; rfl) (by rw [hdev]; rfl)

/-- Refutes O53: the statement quantifies over every register table. In one that is out of order a read of PWR_RST.WHOLE stops at a
register of the voltage sensors; the reset takes that register away, and the count that appears is another than the one before. -/
theorem not_resetsFirmwareAndRollback : ¬ Obligations.ResetsFirmwareAndRollback := by
  intro h
  obtain ⟨t, hexec, hcount⟩ := unsorted_reset
  obtain ⟨t', hexec', -, -, -, -, -, hclaim, -⟩ := h.1 unsorted resetAuth unsorted_authentic (by decide +kernel)
  obtain rfl : t = t' := Host.Outcome.next.inj (hexec.symm.trans hexec')
  rw [hcount, unsorted_before] at hclaim
  exact absurd hclaim (by decide)

end Sys2Proof.Machine
end

section
/-! PROOF. HOLD causes: software HOLD and TCK_HOLD.CLEAR. -/

namespace Sys2Proof.Machine

open Sys2Proof

/-! ### The cause bitmap (R47, R51) -/

/-- Taking away a bit that is set clears it and no other. -/
theorem testBit_sub_two_pow {x c : Nat} (h : x.testBit c = true) (e : Nat) : (x - 2 ^ c).testBit e = (x.testBit e && e != c) := by
  have hlt : x % 2 ^ c < 2 ^ c := Nat.mod_lt _ (Nat.two_pow_pos c)
  have hodd : x / 2 ^ c = 2 * (x / 2 ^ c / 2) + 1 := by
    have hbit : x / 2 ^ c % 2 = 1 := by simpa [bit] using (bit_eq_testBit x c).trans h
    omega
  have hx : x = 2 ^ c * (2 * (x / 2 ^ c / 2) + 1) + x % 2 ^ c := by rw [← hodd, Nat.div_add_mod]
  generalize x % 2 ^ c = r at hx hlt
  generalize x / 2 ^ c / 2 = q at hx
  have hsub : x - 2 ^ c = 2 ^ c * (2 * q) + r := by rw [hx, Nat.mul_add]; omega
  rw [hsub, hx, Nat.testBit_two_pow_mul_add _ hlt, Nat.testBit_two_pow_mul_add _ hlt]
  split
  · rename_i hlow
    simp [Nat.ne_of_lt hlow]
  · rcases Nat.eq_or_lt_of_not_lt ‹_› with rfl | hhigh
    · simp
    · obtain ⟨k, rfl⟩ := Nat.exists_eq_add_of_lt hhigh
      rw [show c + k + 1 - c = k + 1 by omega, Nat.testBit_succ, Nat.testBit_succ]
      simp [show (2 * q + 1) / 2 = q by omega, show c + k + 1 ≠ c by omega]

/-- A cause is held as before once another one is asserted. -/
theorem assertHold_others (d : Dev) {c e : Nat} (he : e < 16) (hne : e ≠ c) : (d.assertHold c).held e = d.held e := by
  unfold Dev.held
  rw [assertHold_causes]
  split
  · rfl
  · rw [bit_eq_testBit, bit_eq_testBit, Nat.testBit_mod_two_pow, Nat.testBit_or, Nat.testBit_two_pow_of_ne hne.symm]
    simp [he]

/-- Dropping a cause clears its bit and no other. -/
theorem dropCause_held (d : Dev) (c : Nat) {e : Nat} (he : e < 16) : (d.dropCause c).held e = (d.held e && e != c) := by
  unfold Dev.dropCause
  split
  · rename_i hheld
    have hset : (d.get F.TCK_STATUS_CAUSES).testBit c = true := (bit_eq_testBit _ _).symm.trans hheld
    unfold Dev.held
    rw [get_put_same, bit_eq_testBit, bit_eq_testBit, show F.TCK_STATUS_CAUSES.w = 16 from rfl, Nat.testBit_mod_two_pow,
      testBit_sub_two_pow hset]
    simp [he]
  · rename_i hheld
    by_cases heq : e = c
    · subst heq
      simpa using hheld
    · simp [heq]

theorem dropCause_frame (d : Dev) (c : Nat) : Dev.onlyRegs holdFields d (d.dropCause c) := by
  unfold Dev.dropCause
  split
  · exact onlyRegs_put _ _ _ _ (by simp [holdFields])
  · exact onlyRegs_refl _ d

/-- Dropping some causes clears exactly these. -/
theorem dropCauses_held (l : List Nat) {e : Nat} (he : e < 16) :
    ∀ d : Dev, (l.foldl Dev.dropCause d).held e = (d.held e && !l.contains e) := by
  induction l with
  | nil => simp
  | cons c r ih =>
    intro d
    rw [List.foldl_cons, ih, dropCause_held _ _ he, List.contains_cons, Bool.not_or, Bool.and_assoc]
    rfl

theorem dropCauses_frame (l : List Nat) : ∀ d : Dev, Dev.onlyRegs holdFields d (l.foldl Dev.dropCause d) := by
  induction l with
  | nil => exact onlyRegs_refl _
  | cons c r ih => exact fun d => onlyRegs_trans (dropCause_frame d c) (ih _)

/-! ### Software HOLD (R47) -/

/-- In a running tick a new target is listed and the tick state is HOLDING. -/
theorem addTarget_effect (d : Dev) (t : Nat) (h : d.ticking = true) :
    t ∈ (d.addTarget t).tick.targets ∧ (d.addTarget t).tickState = tsHolding := by
  have hlist : t ∈ (d.withTarget t).tick.targets := by
    unfold Dev.withTarget
    dsimp only
    split
    · exact List.contains_iff_mem.mp ‹_›
    · exact List.mem_cons_self
  have hstate : (d.withTarget t).tickState = d.tickState := rfl
  rw [addTarget_eq]
  split
  · exact ⟨hlist, get_put_same _ _ _⟩
  · rename_i hrun
    refine ⟨hlist, hstate.trans ?_⟩
    unfold Dev.ticking at h
    simpa [hrun] using h

/-- A HOLD sent in a running tick adds its target: four ticks on, one on a solo device. -/
theorem sendHold_effect (d : Dev) (c : Nat) (h : d.ticking = true) :
    (d.get F.TCK_TN_TN + if d.solo then 1 else 4) ∈ (d.sendHold c).tick.targets ∧ (d.sendHold c).tickState = tsHolding := by
  unfold Dev.sendHold
  dsimp only
  split
  · exact addTarget_effect d _ h
  · refine addTarget_effect _ _ ?_
    unfold Dev.ticking Dev.tickState
    rw [sameCore_get (flood_core _ _ _ _ _)]
    exact h

/-- PARKED leaves the tick state as it is. -/
theorem sendParked_state (d : Dev) : d.sendParked.tickState = d.tickState := by
  unfold Dev.sendParked Dev.tickState
  dsimp only
  split
  · exact get_put_ne _ _ _ _ (by decide)
  · split
    · split
      · exact sameCore_get (sendTick_core _ _ _) _
      · rfl
    · rfl

theorem assertHold_effect (d : Dev) (c : Nat) (h : d.held c = false) :
    (d.ticking = true → (d.assertHold c).tickState = tsHolding ∧
      (d.get F.TCK_TN_TN + if d.solo then 1 else 4) ∈ (d.assertHold c).tick.targets) ∧
    (d.ticking = false → (d.assertHold c).tickState = d.tickState) := by
  have hframe : Dev.onlyRegs [F.TCK_STATUS_CAUSES] d (d.setCause c) := onlyRegs_put _ _ _ _ (by decide)
  have hstate : (d.setCause c).tickState = d.tickState := hframe.1 F.TCK_STATUS_STATE (by decide)
  have hrole : (d.setCause c).get F.TCK_CTRL_ROLE = d.get F.TCK_CTRL_ROLE := hframe.1 _ (by decide)
  have htn : (d.setCause c).get F.TCK_TN_TN = d.get F.TCK_TN_TN := hframe.1 _ (by decide)
  have hsend := sendHold_effect (d.setCause c) c
  unfold Dev.ticking Dev.solo at hsend ⊢
  rw [hstate, hrole, htn] at hsend
  unfold Dev.assertHold Dev.ticking
  rw [if_neg (by simp [h])]
  dsimp only
  rw [hstate]
  refine ⟨fun hrun => ?_, fun hrun => ?_⟩
  · rw [if_pos hrun]
    exact (hsend hrun).symm
  · rw [if_neg (by simp [hrun])]
    split
    · rw [sendParked_state, hstate]
    · exact hstate

theorem software_hold (s : State) (hs : s.powered) (h : s.dev.held hcSoftware = false) :
    Answers .tckHoldAssert s fun t =>
      t.dev.held hcSoftware = true ∧ (∀ c : Nat, c < 16 → c ≠ hcSoftware → t.dev.held c = s.dev.held c) ∧
        (s.dev.ticking = true → t.dev.tickState = tsHolding ∧
          (s.dev.get F.TCK_TN_TN + if s.dev.solo then 1 else 4) ∈ t.dev.tick.targets) ∧
        (s.dev.ticking = false → t.dev.tickState = s.dev.tickState) ∧ State.onlyFields holdFields s t := by
  have hexec := onDev_powered (fun d => d.assertHold hcSoftware) s hs
  obtain ⟨hrun, hstill⟩ := assertHold_effect s.dev hcSoftware h
  exact ⟨_, hexec, assertHold_held _ _ (by decide), fun c hc hne => assertHold_others _ hc hne, hrun, hstill,
    onlyFields_of_dev (assertHold_frame _ _)⟩

/-! ### TCK_HOLD.CLEAR (R18, R41, R76) -/

/-- Fields that a write clears read 0, and so does a field that read 0 before. -/
theorem puts_zeros (l : List Fld) (g : Fld) : ∀ d : Dev, (g ∈ l ∨ d.get g = 0) → (d.puts (l.map fun f => (f, 0))).get g = 0 := by
  induction l with
  | nil => exact fun d h => h.resolve_left (by simp)
  | cons f r ih =>
    intro d h
    refine ih (d.put f 0) ?_
    have hzero : g.key = f.key ∨ d.get g = 0 → (d.put f 0).get g = 0 := fun h => by
      rw [get_put]
      split
      · simp
      · exact h.resolve_left ‹_›
    rcases h with hmem | h
    · rcases List.mem_cons.mp hmem with rfl | hmem
      · exact .inr (hzero (.inl rfl))
      · exact .inl hmem
    · exact .inr (hzero (.inr h))

theorem foldl_puts (fs : Nat → List Fld) (l : List Nat) : ∀ d : Dev,
    l.foldl (fun d p => d.puts ((fs p).map fun f => (f, 0))) d = d.puts ((l.flatMap fs).map fun f => (f, 0)) := by
  induction l with
  | nil => exact fun _ => rfl
  | cons p r ih =>
    intro d
    rw [List.foldl_cons, ih, List.flatMap_cons, List.map_append, puts_append]

/-- The overrun record of a partition. -/
def overrunRecord (p : Nat) : List Fld :=
  [F.SCH_OVR_ENGINE p, F.SCH_OVR_DEBUG p, F.SCH_OVR_MORE p, F.SCH_OVR_INDEX p, F.SCH_OVR_SLOT p, F.SCH_OVR_EXCESS p, F.SCH_OVR_TN_TN p]

/-- The overrun records of all partitions. -/
def overrunFields : List Fld := (List.range 8).flatMap overrunRecord

/-- The device with its overrun records cleared where bit 13 of the mask asks for it. -/
def Dev.overrunsCleared (d : Dev) (mask : Nat) : Dev :=
  if bit mask hcOverrun then (List.range 8).foldl (fun d p => d.puts ((overrunRecord p).map fun f => (f, 0))) d else d

theorem overrunsCleared_frame (d : Dev) (mask : Nat) : Dev.onlyRegs overrunFields d (d.overrunsCleared mask) := by
  unfold Dev.overrunsCleared
  split
  · rw [foldl_puts]
    refine onlyRegs_mono (onlyRegs_puts d _) fun f hf => ?_
    rw [List.map_map] at hf
    simpa [overrunFields] using hf
  · exact onlyRegs_refl _ d

theorem overrunsCleared_zero (d : Dev) (mask : Nat) (h : bit mask hcOverrun = true) :
    ∀ f ∈ overrunFields, (d.overrunsCleared mask).get f = 0 := by
  intro f hf
  unfold Dev.overrunsCleared
  rw [if_pos h, foldl_puts]
  exact puts_zeros overrunFields f d (.inl hf)

theorem soloLeave_frame (d : Dev) : Dev.onlyRegs [F.TCK_STATUS_STATE] d d.soloLeave := by
  unfold Dev.soloLeave
  split
  · exact onlyRegs_put _ _ _ _ (by decide)
  · exact onlyRegs_refl _ d

/-- What follows cleared causes writes MAX_ERR and the fields of a HOLD, and no cause. -/
theorem causesCleared_frame (d : Dev) : Dev.onlyRegs (F.TCK_PHASE_MAX_ERR :: holdFields) d d.causesCleared ∧
    d.causesCleared.get F.TCK_STATUS_CAUSES = d.get F.TCK_STATUS_CAUSES := by
  have hparked : ∀ e : Dev, Dev.onlyRegs (F.TCK_PHASE_MAX_ERR :: holdFields) e e.sendParked := fun e =>
    onlyRegs_mono (sendParked_frame e) fun f hf => List.mem_cons_of_mem _ hf
  unfold Dev.causesCleared
  split
  · exact ⟨onlyRegs_mono (soloLeave_frame d) (by decide), (soloLeave_frame d).1 _ (by decide)⟩
  · split
    · exact ⟨hparked d, sendParked_causes d⟩
    · unfold Dev.tryLock
      dsimp only
      split
      · refine ⟨onlyRegs_trans (onlyRegs_mono (onlyRegs_puts d _) (by simp [holdFields])) (hparked _), ?_⟩
        rw [sendParked_causes, puts_cons, puts_cons, puts_nil, get_put_ne _ _ _ _ (by decide), get_put_ne _ _ _ _ (by decide)]
      · exact ⟨onlyRegs_refl _ d, rfl⟩

/-- The causes that a mask clears. -/
def Dev.goneCauses (d : Dev) (mask : Nat) : List Nat := d.clearable.filter fun c => bit mask c

theorem holdClear_eq (d : Dev) (mask : Nat) :
    d.holdClear mask = if (d.goneCauses mask).any (d.overrunsCleared mask).held
      then ((d.goneCauses mask).foldl Dev.dropCause (d.overrunsCleared mask)).causesCleared else d.overrunsCleared mask := rfl

/-- Beside the overrun records a clear writes MAX_ERR and the fields of a HOLD. -/
theorem holdClear_frame (d : Dev) (mask : Nat) :
    Dev.onlyRegs (F.TCK_PHASE_MAX_ERR :: holdFields) (d.overrunsCleared mask) (d.holdClear mask) := by
  rw [holdClear_eq]
  split
  · exact onlyRegs_trans (onlyRegs_mono (dropCauses_frame _ _) fun f hf => List.mem_cons_of_mem _ hf) (causesCleared_frame _).1
  · exact onlyRegs_refl _ _

theorem overrunsCleared_held (d : Dev) (mask c : Nat) : (d.overrunsCleared mask).held c = d.held c :=
  congrArg (bit · c) ((overrunsCleared_frame d mask).1 F.TCK_STATUS_CAUSES (by decide))

/-- A clear takes away exactly the causes it may clear. -/
theorem holdClear_held (d : Dev) (mask : Nat) {c : Nat} (hc : c < 16) :
    (d.holdClear mask).held c = (d.held c && !(d.goneCauses mask).contains c) := by
  rw [holdClear_eq]
  split
  · exact (congrArg (bit · c) (causesCleared_frame _).2).trans ((dropCauses_held _ hc _).trans (by rw [overrunsCleared_held]))
  · rename_i hnone
    rw [overrunsCleared_held]
    by_cases hmem : c ∈ d.goneCauses mask
    · have hfree : d.held c = false := by
        rw [Bool.not_eq_true, List.any_eq_false] at hnone
        simpa [overrunsCleared_held] using hnone c hmem
      rw [hfree, Bool.false_and]
    · rw [show (d.goneCauses mask).contains c = false by simpa using hmem]
      simp

theorem goneCauses_contains (d : Dev) (mask c : Nat) :
    (d.goneCauses mask).contains c = (bit mask c && (c == hcSoftware || c == hcFault || c == hcOverrun || (c == hcClock && !d.pwr.holdover) ||
      (c == hcMasterLost && d.master))) := by
  rw [Bool.eq_iff_iff, List.contains_iff_mem]
  unfold Dev.goneCauses Dev.clearable
  cases d.pwr.holdover <;> cases d.master <;> simp <;> tauto

theorem hold_clear (s : State) (mask : BitVec 16) (hs : s.powered) :
    Answers (.tckHoldClear mask) s fun t =>
      (∀ c : Nat, c < 16 → t.dev.held c =
        (s.dev.held c && !(bit mask.toNat c && (c == hcSoftware || c == hcFault || c == hcOverrun || (c == hcClock && !s.dev.pwr.holdover) ||
          (c == hcMasterLost && s.dev.master))))) ∧
        (bit mask.toNat hcOverrun = true → ∀ p : Nat, p < 8 → t.dev.get (F.SCH_OVR_ENGINE p) = 0 ∧ t.dev.get (F.SCH_OVR_SLOT p) = 0 ∧
          t.dev.get (F.SCH_OVR_EXCESS p) = 0 ∧ t.dev.get (F.SCH_OVR_TN_TN p) = 0) ∧
        (bit mask.toNat hcOverrun = false → State.onlyFields (F.TCK_PHASE_MAX_ERR :: holdFields) s t) ∧ t.dev.mem = s.dev.mem := by
  have hframe := holdClear_frame s.dev mask.toNat
  have hrecords := overrunsCleared_frame s.dev mask.toNat
  have hfar : ∀ f ∈ overrunFields, ∀ g ∈ F.TCK_PHASE_MAX_ERR :: holdFields, f.key ≠ g.key := by decide
  have hzero : bit mask.toNat hcOverrun = true → ∀ f ∈ overrunFields, (s.dev.holdClear mask.toNat).get f = 0 := fun h f hf =>
    (hframe.1 f (hfar f hf)).trans (overrunsCleared_zero s.dev _ h f hf)
  refine ⟨_, onDev_powered (fun d => d.holdClear mask.toNat) s hs, fun c hc => ?_, fun h p hp => ?_, fun h => ?_,
    hframe.2.1.trans hrecords.2.1⟩
  · exact (holdClear_held s.dev _ hc).trans (by rw [goneCauses_contains])
  · have hmem : ∀ f ∈ overrunRecord p, f ∈ overrunFields := fun f hf => List.mem_flatMap.mpr ⟨p, List.mem_range.mpr hp, hf⟩
    exact ⟨hzero h _ (hmem _ (by simp [overrunRecord])), hzero h _ (hmem _ (by simp [overrunRecord])),
      hzero h _ (hmem _ (by simp [overrunRecord])), hzero h _ (hmem _ (by simp [overrunRecord]))⟩
  · have hsame : s.dev.overrunsCleared mask.toNat = s.dev := if_neg (by simp [h])
    rw [hsame] at hframe
    exact onlyFields_of_dev hframe

end Sys2Proof.Machine
end

section
/-! PROOF. HOLD messages, and the proof of O9. -/

namespace Sys2Proof.Machine

open Sys2Proof

/-! ### HOLD messages (R42, R47) -/

/-- A message that is taken has its effect. -/
theorem onTick_taken {d : Dev} {p : Fin 12} {w : TickWord} {kind : Nat} (h : d.takesTick p w kind) (f : TMsg → Dev → Dev) :
    Dev.onTick p w.toNat kind f d = f (tmsgOf w.toNat) d := by
  obtain ⟨hport, hdomain, hfields, hkind, hon, hsolo⟩ := h
  unfold Dev.onTick
  dsimp only
  rw [if_neg (by simp [hport, hdomain, hfields, hkind]), if_neg (by simp [hon, hsolo])]

/-- A HOLD that is taken runs this, whether seen before or not. -/
def Dev.heldBy (d : Dev) (p : Nat) (m : TMsg) : Dev := if d.fresh? m then (d.passFlood p m).takeHold p m else d

theorem exec_hold (s : State) (p : Fin 12) (w : TickWord) (hs : s.powered) (h : s.dev.takesTick p w tkHold) :
    exec (.hold p w) s = .next { s with dev := s.dev.heldBy p (tmsgOf w.toNat) } :=
  (onDev_powered (Dev.onTick p w.toNat tkHold fun m d => d.heldBy p m) s hs).trans (by rw [onTick_taken h])

/-- A word sent on a port is among what the device sent, beside all that it sent before. -/
theorem sendTick_outs (w : Nat) (ps : List Nat) :
    ∀ (d : Dev) (o : Out), ((∃ q ∈ ps, o = .tickMsg q w) ∨ o ∈ d.outs) → o ∈ (d.sendTick ps w).outs := by
  induction ps with
  | nil => exact fun d o h => h.resolve_left (by simp)
  | cons p r ih =>
    intro d o h
    refine ih (d.emit (.tickMsg p w)) o ?_
    rcases h with ⟨q, hq, rfl⟩ | hout
    · rcases List.mem_cons.mp hq with rfl | hq
      · exact .inr List.mem_cons_self
      · exact .inl ⟨q, hq, rfl⟩
    · exact .inr (List.mem_cons_of_mem _ hout)

theorem sendTick_tick (w : Nat) (ps : List Nat) : ∀ d : Dev, (d.sendTick ps w).tick = d.tick := by
  induction ps with
  | nil => exact fun _ => rfl
  | cons p r ih => exact fun d => ih (d.emit (.tickMsg p w))

/-- A flooded message that is passed on is known from then on, and goes one hop further on every other domain port. -/
theorem passFlood_effect (d : Dev) (p : Nat) (m : TMsg) :
    Dev.sameCore d (d.passFlood p m) ∧ (d.passFlood p m).tick = { d.tick with seen := (m.origin, m.cause, m.k, m.tick) :: d.tick.seen } ∧
      ∀ q ∈ d.domainPorts, q ≠ p → Out.tickMsg q ({ m with aux := min 0xFFFF (m.aux + 1) } : TMsg).word ∈ (d.passFlood p m).outs := by
  unfold Dev.passFlood
  refine ⟨sendTick_core _ _ { d with tick := { d.tick with seen := (m.origin, m.cause, m.k, m.tick) :: d.tick.seen } }, sendTick_tick _ _ _,
    fun q hq hne => sendTick_outs _ _ _ _ (.inl ⟨q, ?_, ?_⟩)⟩
  · exact List.mem_filter.mpr ⟨hq, by simpa using hne⟩
  · rw [satTo_eq_min]

/-- The fields of the HOLD log. -/
def holdLogFields : List Fld := [F.TCK_HOLD_LOG_ORIGIN, F.TCK_HOLD_LOG_CAUSE, F.TCK_HOLD_LOG_HOPS, F.TCK_HOLD_LOG_TARGET]

/-- The HOLD message in the log. -/
def Dev.holdLogged (d : Dev) (m : TMsg) : Dev :=
  d.puts [(F.TCK_HOLD_LOG_ORIGIN, m.origin), (F.TCK_HOLD_LOG_CAUSE, m.cause), (F.TCK_HOLD_LOG_HOPS, m.aux), (F.TCK_HOLD_LOG_TARGET, m.tick)]

theorem holdLogged_frame (d : Dev) (m : TMsg) : Dev.onlyRegs holdLogFields d (d.holdLogged m) :=
  onlyRegs_mono (onlyRegs_puts d _) (by simp [holdLogFields])

theorem holdLogged_log (d : Dev) (m : TMsg) :
    (d.holdLogged m).get F.TCK_HOLD_LOG_ORIGIN = m.origin % 2 ^ 14 ∧ (d.holdLogged m).get F.TCK_HOLD_LOG_CAUSE = m.cause % 2 ^ 4 ∧
      (d.holdLogged m).get F.TCK_HOLD_LOG_HOPS = m.aux % 2 ^ 6 ∧ (d.holdLogged m).get F.TCK_HOLD_LOG_TARGET = m.tick % 2 ^ 32 := by
  unfold Dev.holdLogged
  rw [puts_cons, puts_cons, puts_cons, puts_cons, puts_nil]
  refine ⟨?_, ?_, ?_, get_put_same _ _ _⟩
  · rw [get_put_ne _ _ _ _ (by decide), get_put_ne _ _ _ _ (by decide), get_put_ne _ _ _ _ (by decide)]
    exact get_put_same _ _ _
  · rw [get_put_ne _ _ _ _ (by decide), get_put_ne _ _ _ _ (by decide)]
    exact get_put_same _ _ _
  · rw [get_put_ne _ _ _ _ (by decide)]
    exact get_put_same _ _ _

/-- The device quenching where the message names a tick fault. -/
def Dev.quenchedBy (d : Dev) (m : TMsg) : Dev := if m.cause = hcFault then { d with tick := { d.tick with quench := true } } else d

theorem quenchedBy_effect (d : Dev) (m : TMsg) : Dev.sameCore d (d.quenchedBy m) ∧ (d.quenchedBy m).outs = d.outs ∧
    (d.quenchedBy m).tick.seen = d.tick.seen ∧ (d.quenchedBy m).tick.tickDone = d.tick.tickDone ∧
    (m.cause = hcFault → (d.quenchedBy m).tick.quench = true) := by
  unfold Dev.quenchedBy
  split
  · exact ⟨⟨rfl, rfl, rfl, rfl⟩, rfl, rfl, rfl, fun _ => rfl⟩
  · exact ⟨⟨rfl, rfl, rfl, rfl⟩, rfl, rfl, rfl, fun h => absurd h ‹_›⟩

/-- A new target leaves the rest of the tick's own state alone, and what was sent. -/
theorem addTarget_keeps (d : Dev) (t : Nat) : (d.addTarget t).outs = d.outs ∧ (d.addTarget t).tick.seen = d.tick.seen ∧
    (d.addTarget t).tick.tickDone = d.tick.tickDone ∧ (d.addTarget t).tick.quench = d.tick.quench := by
  rw [addTarget_eq]
  split <;> exact ⟨rfl, rfl, rfl, rfl⟩

/-- In a running tick that has not ended a HOLD whose target lies ahead is logged and held. -/
theorem takeHold_ahead (d : Dev) (p : Nat) (m : TMsg) (hrun : d.ticking = true) (hdone : d.tick.tickDone = false)
    (hahead : d.get F.TCK_TN_TN < m.tick) : d.takeHold p m = ((d.holdLogged m).quenchedBy m).addTarget m.tick := by
  have htn : (d.holdLogged m).get F.TCK_TN_TN = d.get F.TCK_TN_TN := (holdLogged_frame d m).1 _ (by decide)
  have hlog : (d.holdLogged m).ticking = true := by
    have hstate : (d.holdLogged m).tickState = d.tickState := (holdLogged_frame d m).1 F.TCK_STATUS_STATE (by decide)
    unfold Dev.ticking at hrun ⊢
    rwa [hstate]
  obtain ⟨hcore, -, -, hkeep, -⟩ := quenchedBy_effect (d.holdLogged m) m
  have hquench : ((d.holdLogged m).quenchedBy m).ticking = true := by
    unfold Dev.ticking Dev.tickState
    rw [sameCore_get hcore]
    exact hlog
  have hnot : (((d.holdLogged m).quenchedBy m).addTarget m.tick).tick.tickDone = false := by
    obtain ⟨-, -, h, -⟩ := addTarget_keeps ((d.holdLogged m).quenchedBy m) m.tick
    rw [h, hkeep]
    unfold Dev.holdLogged
    rw [puts_tick, hdone]
  have heq : (if (decide (m.cause = hcFault) && ((d.holdLogged m).ticking || (d.holdLogged m).tickState == tsResuming)) = true
      then ({ d.holdLogged m with tick := { (d.holdLogged m).tick with quench := true } } : Dev) else d.holdLogged m) = (d.holdLogged m).quenchedBy m := by
    unfold Dev.quenchedBy
    simp [hlog]
  unfold Dev.takeHold
  dsimp only
  rw [show d.puts _ = d.holdLogged m from rfl, heq, if_pos hquench, htn, if_pos hahead, if_neg (by simp [hnot])]

/-- Holding a target writes the tick state at most. -/
theorem addTarget_state_only (d : Dev) (t : Nat) : Dev.onlyRegs [F.TCK_STATUS_STATE] d (d.addTarget t) := by
  have htarget : Dev.onlyRegs [F.TCK_STATUS_STATE] d (d.withTarget t) := onlyRegs_core _ ⟨rfl, rfl, rfl, rfl⟩
  rw [addTarget_eq]
  split
  · exact onlyRegs_trans htarget (onlyRegs_put _ _ _ _ (by decide))
  · exact htarget

/-- The fields that a HOLD message for a tick ahead writes. -/
def holdMessageFields : List Fld := holdLogFields ++ [F.TCK_STATUS_STATE]

/-- A HOLD for a tick ahead, in a running tick: it is logged, its target is held, a FAULT quenches; no word is sent. -/
theorem heldAhead_effect (d : Dev) (m : TMsg) (hrun : d.ticking = true) :
    let e := ((d.holdLogged m).quenchedBy m).addTarget m.tick
    Dev.onlyRegs holdMessageFields d e ∧ (∀ f ∈ holdLogFields, e.get f = (d.holdLogged m).get f) ∧ m.tick ∈ e.tick.targets ∧
      e.tickState = tsHolding ∧ e.tick.seen = d.tick.seen ∧ e.outs = d.outs ∧ (m.cause = hcFault → e.tick.quench = true) := by
  have hlog := holdLogged_frame d m
  obtain ⟨hcore, houts, hseen, -, hquench⟩ := quenchedBy_effect (d.holdLogged m) m
  have hstate := addTarget_state_only ((d.holdLogged m).quenchedBy m) m.tick
  obtain ⟨kouts, kseen, -, kquench⟩ := addTarget_keeps ((d.holdLogged m).quenchedBy m) m.tick
  have hticking : ((d.holdLogged m).quenchedBy m).ticking = true := by
    have hsame : ((d.holdLogged m).quenchedBy m).tickState = d.tickState :=
      (sameCore_get hcore F.TCK_STATUS_STATE).trans (hlog.1 _ (by decide))
    unfold Dev.ticking at hrun ⊢
    rwa [hsame]
  obtain ⟨htarget, hholding⟩ := addTarget_effect ((d.holdLogged m).quenchedBy m) m.tick hticking
  have hfar : ∀ f ∈ holdLogFields, ∀ g ∈ [F.TCK_STATUS_STATE], f.key ≠ g.key := by decide
  refine ⟨onlyRegs_trans (onlyRegs_mono hlog (by decide)) (onlyRegs_trans (onlyRegs_core _ hcore) (onlyRegs_mono hstate (by decide))),
    fun f hf => (hstate.1 f (hfar f hf)).trans (sameCore_get hcore f), htarget, hholding, kseen.trans (hseen.trans ?_),
    kouts.trans (houts.trans (puts_outs _ d)), fun h => kquench.trans (hquench h)⟩
  rw [Dev.holdLogged, puts_tick]

/-- A HOLD message not seen before, for a tick ahead of the running one. -/
theorem hold_message (s : State) (p : Fin 12) (w : TickWord) (hs : s.powered) (h : s.dev.takesTick p w tkHold)
    (hfresh : s.dev.fresh? (tmsgOf w.toNat) = true) (hdone : s.dev.tick.tickDone = false) (hrun : s.dev.ticking = true)
    (hahead : s.dev.get F.TCK_TN_TN < (tmsgOf w.toNat).tick) :
    Answers (.hold p w) s fun t =>
      t.dev.get F.TCK_HOLD_LOG_ORIGIN = (tmsgOf w.toNat).origin ∧ t.dev.get F.TCK_HOLD_LOG_CAUSE = (tmsgOf w.toNat).cause ∧
        t.dev.get F.TCK_HOLD_LOG_HOPS = (tmsgOf w.toNat).aux % 2 ^ 6 ∧ t.dev.get F.TCK_HOLD_LOG_TARGET = (tmsgOf w.toNat).tick % 2 ^ 32 ∧
        (tmsgOf w.toNat).tick ∈ t.dev.tick.targets ∧ t.dev.tickState = tsHolding ∧ t.dev.fresh? (tmsgOf w.toNat) = false ∧
        ((tmsgOf w.toNat).cause = hcFault → t.dev.tick.quench = true) ∧
        (∀ q ∈ s.dev.domainPorts, q ≠ p.val →
          Out.tickMsg q ({ tmsgOf w.toNat with aux := min 0xFFFF ((tmsgOf w.toNat).aux + 1) } : TMsg).word ∈ t.dev.outs) ∧
        State.onlyFields [F.TCK_HOLD_LOG_ORIGIN, F.TCK_HOLD_LOG_CAUSE, F.TCK_HOLD_LOG_HOPS, F.TCK_HOLD_LOG_TARGET,
          F.TCK_STATUS_STATE] s t := by
  have hexec := exec_hold s p w hs h
  have horigin : (tmsgOf w.toNat).origin < 2 ^ 14 := Nat.mod_lt _ (by decide)
  have hcause : (tmsgOf w.toNat).cause < 2 ^ 4 := Nat.mod_lt _ (by decide)
  generalize tmsgOf w.toNat = m at *
  obtain ⟨hcore, htick, houts⟩ := passFlood_effect s.dev p m
  have hticking : (s.dev.passFlood p m).ticking = true := by
    unfold Dev.ticking Dev.tickState
    rw [sameCore_get hcore]
    exact hrun
  have htaken := takeHold_ahead (s.dev.passFlood p m) p m hticking (by rw [htick]; exact hdone) (by rw [sameCore_get hcore]; exact hahead)
  obtain ⟨hframe, hlogs, htarget, hholding, hseen, hsent, hquench⟩ := heldAhead_effect (s.dev.passFlood p m) m hticking
  obtain ⟨hlorigin, hlcause, hlhops, hltarget⟩ := holdLogged_log (s.dev.passFlood p m) m
  rw [Dev.heldBy, if_pos hfresh, htaken] at hexec
  generalize (((s.dev.passFlood p m).holdLogged m).quenchedBy m).addTarget m.tick = e at *
  refine ⟨_, hexec, ?_, ?_, (hlogs _ (by decide)).trans hlhops, (hlogs _ (by decide)).trans hltarget, htarget, hholding, ?_, hquench, ?_,
    onlyFields_of_dev (onlyRegs_trans (onlyRegs_core holdMessageFields hcore) hframe)⟩
  · rw [hlogs _ (by decide), hlorigin, Nat.mod_eq_of_lt horigin]
  · rw [hlogs _ (by decide), hlcause, Nat.mod_eq_of_lt hcause]
  · simp [Dev.fresh?, hseen, htick]
  · rw [hsent]
    exact houts

/-- A HOLD message seen before changes nothing. -/
theorem hold_seen (s : State) (p : Fin 12) (w : TickWord) (hs : s.powered) (h : s.dev.takesTick p w tkHold)
    (hseen : s.dev.fresh? (tmsgOf w.toNat) = false) : Answers (.hold p w) s fun t => t = s := by
  refine ⟨_, exec_hold s p w hs h, ?_⟩
  rw [Dev.heldBy, if_neg (by simp [hseen])]

/-- Settles O9: the software HOLD, its clear, and HOLD messages new and seen. -/
theorem holdCausesAreAssertedAndCleared : Obligations.HoldCausesAreAssertedAndCleared :=
  ⟨software_hold, hold_clear, hold_message, hold_seen⟩

end Sys2Proof.Machine
end

section
/-! SUPPORT. Gate ports: packets that leave, and how a port moves between its states. -/

namespace Sys2Proof.Machine

open Sys2Proof

/-! ### Packets that leave (R256, R262) -/

/-- From `a` to `b` packets may have left: bytes-sent counters, and ports that were UP. -/
def Dev.packetsLeft (a b : Dev) : Prop :=
  Dev.onlyRegs sentFields a b ∧ ∀ p : Nat, a.portUp p = false → b.port p = a.port p

theorem portState_ne_sent (p : Nat) : ∀ g ∈ sentFields, (F.GTE_PORT_STATE p).key ≠ g.key := by
  intro g hg
  obtain ⟨q, -, rfl⟩ := List.mem_map.mp hg
  simp only [Fld.key, F.GTE_PORT_STATE, F.GTE_PSTAT0_SENT]
  omega

/-- No packet that leaves moves a port. -/
theorem packetsLeft_state {a b : Dev} (h : Dev.packetsLeft a b) (p : Nat) : b.portState p = a.portState p :=
  h.1.1 _ (portState_ne_sent p)

theorem packetsLeft_refl (d : Dev) : Dev.packetsLeft d d := ⟨onlyRegs_refl _ _, fun _ _ => rfl⟩

theorem packetsLeft_trans {a b c : Dev} (h : Dev.packetsLeft a b) (k : Dev.packetsLeft b c) : Dev.packetsLeft a c := by
  refine ⟨onlyRegs_trans h.1 k.1, fun p hp => (k.2 p ?_).trans (h.2 p hp)⟩
  exact (congrArg (· == 4) (packetsLeft_state h p)).trans hp

theorem transmit_left (d : Dev) (p hdr : Nat) (data : List Byte) (hp : p < 12) (hup : d.portUp p = true) :
    Dev.packetsLeft d (d.transmit p hdr data) := by
  unfold Dev.transmit
  dsimp only
  refine ⟨?_, fun q hq => ?_⟩
  · have hmem : ∀ f ∈ [F.GTE_PSTAT0_SENT p], f ∈ sentFields := by
      simpa [sentFields] using ⟨p, hp, rfl⟩
    exact onlyRegs_mono (onlyRegs_trans (b := d.setPort p _) (onlyRegs_core _ ⟨rfl, rfl, rfl, rfl⟩)
      (onlyRegs_trans (onlyRegs_bump _ _ _) (onlyRegs_core _ ⟨rfl, rfl, rfl, rfl⟩))) hmem
  · refine (port_setPort d p q _).trans (if_neg ?_)
    rintro rfl
    rw [hup] at hq
    cases hq

theorem portsOf_lt (d : Dev) (k e : Nat) : ∀ p ∈ d.portsOf k e, p < 12 := fun p hp => by
  simpa using (List.mem_filter.mp hp).2

theorem dirPorts_lt (d : Dev) (dir : Nat) : ∀ p ∈ d.dirPorts dir, p < 12 := by
  unfold Dev.dirPorts
  split
  · exact portsOf_lt d _ _
  · split
    · exact portsOf_lt d _ _
    · split
      · simpa using ‹dir < 12›
      · simp

/-- A direction's port is one of the twelve, and UP. -/
theorem outPort_up {d : Dev} {dir p : Nat} {expect : Option Nat} (h : d.outPort dir expect = some p) : p < 12 ∧ d.portUp p = true := by
  unfold Dev.outPort at h
  have hup := List.find?_some h
  rw [Bool.and_eq_true] at hup
  exact ⟨dirPorts_lt d dir p (List.mem_of_find?_eq_some h), hup.1⟩

theorem sendPkt_left (d : Dev) (w : WaitPkt) : Dev.packetsLeft d (d.sendPkt w) := by
  have hwait : Dev.packetsLeft d { d with gate := { d.gate with waiting := d.gate.waiting ++ [w] } } :=
    ⟨onlyRegs_core _ ⟨rfl, rfl, rfl, rfl⟩, fun _ _ => rfl⟩
  unfold Dev.sendPkt
  dsimp only
  split
  · exact hwait
  · split
    · rename_i p hout
      obtain ⟨hp, hup⟩ := outPort_up hout
      split
      · exact transmit_left d p _ _ hp hup
      · exact hwait
    · exact hwait

theorem sendPkts_left (l : List WaitPkt) : ∀ d : Dev, Dev.packetsLeft d (l.foldl Dev.sendPkt d) := by
  induction l with
  | nil => exact packetsLeft_refl
  | cons w r ih => exact fun d => packetsLeft_trans (sendPkt_left d w) (ih _)

theorem drainGates_left (d : Dev) : Dev.packetsLeft d d.drainGates :=
  packetsLeft_trans (b := { d with gate := { d.gate with waiting := [] } }) ⟨onlyRegs_core _ ⟨rfl, rfl, rfl, rfl⟩, fun _ _ => rfl⟩
    (sendPkts_left _ _)

/-! ### States (R22, R254, R262) -/

/-- A port drives or not: its hidden state only. -/
theorem driveUpdate_effect (d : Dev) (p : Nat) :
    Dev.sameCore d (d.driveUpdate p) ∧ (d.driveUpdate p).outs = d.outs ∧ (d.driveUpdate p).gate.waiting = d.gate.waiting ∧
      (d.driveUpdate p).fresh = d.fresh ∧ (d.driveUpdate p).port p = { d.port p with
        driving := d.portState p != psDisabled && d.portState p != psRejected && (d.port p).present && d.pwr.pwrgd } ∧
      ∀ q : Nat, q ≠ p → (d.driveUpdate p).port q = d.port q :=
  ⟨⟨rfl, rfl, rfl, rfl⟩, rfl, rfl, rfl, (port_setPort d p p _).trans (if_pos rfl), fun q hq => (port_setPort d p q _).trans (if_neg hq)⟩

/-- The packets that a port kept wait for its direction and the same peer. -/
def Dev.retained (d : Dev) (p : Nat) : Dev :=
  let x := d.port p
  let l := x.kept.map fun k => (⟨d.dirOfPort p, some (d.get (F.GTE_PEER_RANK p)), k.hdr, k.data⟩ : WaitPkt)
  let e := d.setPort p { x with kept := [], credits := [] }
  { e with gate := { e.gate with waiting := l ++ e.gate.waiting } }

theorem retained_core (d : Dev) (p : Nat) : Dev.sameCore d (d.retained p) := ⟨rfl, rfl, rfl, rfl⟩

theorem retained_kept (d : Dev) (p : Nat) : ((d.retained p).port p).kept = [] :=
  congrArg PortSt.kept ((port_setPort d p p { d.port p with kept := [], credits := [] }).trans (if_pos rfl))

/-- LINK is held where a port is in the domain port mask. -/
def Dev.linkHeld (d : Dev) (p : Nat) : Dev := if bit (d.get F.TCK_CTRL_PORTS) p then d.assertHold hcLink else d

theorem linkHeld_effect (d : Dev) (p : Nat) : Dev.onlyRegs holdFields d (d.linkHeld p) ∧ (d.linkHeld p).gate = d.gate ∧
    (bit (d.get F.TCK_CTRL_PORTS) p = true → (d.linkHeld p).held hcLink = true) := by
  unfold Dev.linkHeld
  split
  · exact ⟨assertHold_frame _ _, assertHold_gate _ _, fun _ => assertHold_held _ _ (by decide)⟩
  · exact ⟨onlyRegs_refl _ _, rfl, fun h => absurd h ‹_›⟩

theorem leaveUp_eq (d : Dev) (p : Nat) : d.leaveUp p = ((d.retained p).linkHeld p).drainGates := rfl

theorem portState_ne_hold (p : Nat) : ∀ g ∈ holdFields, (F.GTE_PORT_STATE p).key ≠ g.key := by
  intro g hg
  simp only [holdFields, List.mem_cons, List.not_mem_nil, or_false] at hg
  rcases hg with rfl | rfl | rfl <;>
    simp only [Fld.key, F.GTE_PORT_STATE, F.TCK_STATUS_CAUSES, F.TCK_STATUS_STATE, F.TCK_STATUS_DCAUSES] <;> omega

/-- Leaving UP: the packets kept from the port are dropped from it, LINK is held where the port is in the mask, and nothing else but what
a packet that leaves writes. -/
theorem leaveUp_effect (d : Dev) (p : Nat) (hdown : d.portUp p = false) :
    Dev.onlyRegs (holdFields ++ sentFields) d (d.leaveUp p) ∧ (d.leaveUp p).portState p = d.portState p ∧ ((d.leaveUp p).port p).kept = [] ∧
      (bit (d.get F.TCK_CTRL_PORTS) p = true → (d.leaveUp p).held hcLink = true) := by
  have hcore := retained_core d p
  have hkept := retained_kept d p
  obtain ⟨hframe, hgate, hlink⟩ := linkHeld_effect (d.retained p) p
  have hleft := drainGates_left ((d.retained p).linkHeld p)
  rw [leaveUp_eq]
  generalize d.retained p = e at *
  generalize e.linkHeld p = x at *
  have hstate : x.portState p = d.portState p := (hframe.1 _ (portState_ne_hold p)).trans (sameCore_get hcore _)
  refine ⟨onlyRegs_trans (onlyRegs_core _ hcore) (onlyRegs_trans (onlyRegs_mono hframe fun _ => List.mem_append_left _)
    (onlyRegs_mono hleft.1 fun _ => List.mem_append_right _)), (packetsLeft_state hleft p).trans hstate, ?_, fun h => ?_⟩
  · rw [hleft.2 p ((congrArg (· == 4) hstate).trans hdown)]
    unfold Dev.port at hkept ⊢
    rwa [hgate]
  · rw [← sameCore_get hcore] at h
    exact (congrArg (bit · hcLink) (hleft.1.1 F.TCK_STATUS_CAUSES (by decide))).trans (hlink h)

/-- A port that was not UP moves: its state register, and its transmitter. -/
theorem setPortState_quiet (d : Dev) (p st : Nat) (h : d.portState p ≠ psUp) :
    d.setPortState p st = (d.put (F.GTE_PORT_STATE p) st).driveUpdate p := by
  unfold Dev.setPortState
  dsimp only
  rw [if_neg (by simp [h])]

/-- A port that was UP leaves it. -/
theorem setPortState_leaves (d : Dev) (p st : Nat) (h : d.portState p = psUp) (hst : st ≠ psUp) :
    d.setPortState p st = ((d.put (F.GTE_PORT_STATE p) st).leaveUp p).driveUpdate p := by
  unfold Dev.setPortState
  dsimp only
  rw [if_pos ⟨h, hst⟩]

theorem put_portState (d : Dev) (p : Nat) {st : Nat} (h : st < 2 ^ 4) : (d.put (F.GTE_PORT_STATE p) st).portState p = st :=
  (get_put_same _ _ _).trans (Nat.mod_eq_of_lt h)

/-- The effect of moving a port that was not UP. -/
theorem setPortState_quiet_effect (d : Dev) (p : Nat) {st : Nat} (h : d.portState p ≠ psUp) (hst : st < 2 ^ 4) :
    let e := d.setPortState p st
    Dev.onlyRegs [F.GTE_PORT_STATE p] d e ∧ e.portState p = st ∧ e.outs = d.outs ∧ e.gate.waiting = d.gate.waiting ∧ e.fresh = d.fresh ∧
      e.port p = { d.port p with driving := st != psDisabled && st != psRejected && (d.port p).present && d.pwr.pwrgd } := by
  obtain ⟨hcore, houts, hwaiting, hfresh, hport, -⟩ := driveUpdate_effect (d.put (F.GTE_PORT_STATE p) st) p
  rw [put_portState d p hst] at hport
  rw [setPortState_quiet d p st h]
  exact ⟨onlyRegs_trans (onlyRegs_put _ _ _ _ (by simp)) (onlyRegs_core _ hcore), (sameCore_get hcore _).trans (put_portState d p hst),
    houts, hwaiting, hfresh, hport⟩

theorem ports_ne_state (p : Nat) : F.TCK_CTRL_PORTS.key ≠ (F.GTE_PORT_STATE p).key := by
  simp only [Fld.key, F.GTE_PORT_STATE, F.TCK_CTRL_PORTS]
  omega

/-- The effect of moving a port out of UP. -/
theorem setPortState_leaves_effect (d : Dev) (p : Nat) {st : Nat} (h : d.portState p = psUp) (hst : st < 2 ^ 4) (hne : st ≠ psUp) :
    let e := d.setPortState p st
    Dev.onlyRegs (F.GTE_PORT_STATE p :: holdFields ++ sentFields) d e ∧ e.portState p = st ∧ (e.port p).kept = [] ∧
      (bit (d.get F.TCK_CTRL_PORTS) p = true → e.held hcLink = true) ∧ (st = psDisabled → (e.port p).driving = false) := by
  have hput : (d.put (F.GTE_PORT_STATE p) st).portState p = st := put_portState d p hst
  have hdown : (d.put (F.GTE_PORT_STATE p) st).portUp p = false := by
    refine (congrArg (· == 4) hput).trans ?_
    simpa [psUp] using hne
  have hmask : (d.put (F.GTE_PORT_STATE p) st).get F.TCK_CTRL_PORTS = d.get F.TCK_CTRL_PORTS := get_put_ne _ _ _ _ (ports_ne_state p)
  obtain ⟨hframe, hsame, hkept, hlink⟩ := leaveUp_effect (d.put (F.GTE_PORT_STATE p) st) p hdown
  rw [hmask] at hlink
  have hstate : ((d.put (F.GTE_PORT_STATE p) st).leaveUp p).portState p = st := hsame.trans hput
  obtain ⟨hcore, -, -, -, hport, -⟩ := driveUpdate_effect ((d.put (F.GTE_PORT_STATE p) st).leaveUp p) p
  rw [hstate] at hport
  rw [setPortState_leaves d p st h hne]
  refine ⟨onlyRegs_trans (onlyRegs_put _ _ _ _ (by simp)) (onlyRegs_trans (onlyRegs_mono hframe fun f hf => List.mem_cons_of_mem _ hf) (onlyRegs_core _ hcore)),
    (sameCore_get hcore _).trans hstate, (congrArg PortSt.kept hport).trans hkept, fun hin => ?_, fun hdis => ?_⟩
  · exact (congrArg (bit · hcLink) (sameCore_get hcore F.TCK_STATUS_CAUSES)).trans (hlink hin)
  · rw [hport, hdis]
    rfl

end Sys2Proof.Machine
end

section
/-! PROOF. The proof of O39 (the state table of a gate port). -/

namespace Sys2Proof.Machine

open Sys2Proof

/-! ### Enabling and disabling a port (R254) -/

theorem portEnable_failed (s : State) (p : Fin 12) (hs : s.powered) (h : s.dev.get F.PWR_BOOT_STATE = dsFailed) :
    Answers (.portEnable p) s fun t =>
      Dev.raisedOne s.dev t.dev evRegister stOk 0 [(F.GTE_PORT_EN p).off, 1] ∧ State.onlyFieldsEv regaccFields s t :=
  refuse_answers ((onDev_powered (fun d => d.portEnable p) s hs).trans (by rw [Dev.portEnable, if_pos h]))

/-- A port's EN and its state stand in different fields. -/
theorem portState_ne_en (p q : Nat) : (F.GTE_PORT_STATE p).key ≠ (F.GTE_PORT_EN q).key := by
  simp only [Fld.key, F.GTE_PORT_STATE, F.GTE_PORT_EN]
  omega

theorem ports_ne_en (p : Nat) : F.TCK_CTRL_PORTS.key ≠ (F.GTE_PORT_EN p).key := by
  simp only [Fld.key, F.TCK_CTRL_PORTS, F.GTE_PORT_EN]
  omega

theorem portEn_portState (d : Dev) (p v : Nat) : (d.put (F.GTE_PORT_EN p) v).portState p = d.portState p :=
  get_put_ne _ _ _ _ (portState_ne_en p p)

/-- A port in DISABLED goes to DOWN and drives where a cable is there. -/
theorem portEnable_disabled (s : State) (p : Fin 12) (hs : s.powered) (hboot : s.dev.get F.PWR_BOOT_STATE ≠ dsFailed)
    (h : s.dev.portState p = psDisabled) :
    Answers (.portEnable p) s fun t =>
      t.dev.get (F.GTE_PORT_EN p) = 1 ∧ t.dev.portState p = psDown ∧ (t.dev.port p).driving = (s.dev.port p).present ∧
        State.onlyFields [F.GTE_PORT_EN p, F.GTE_PORT_STATE p] s t := by
  have hstate := (portEn_portState s.dev p 1).trans h
  have hexec : exec (.portEnable p) s = .next { s with dev := (s.dev.put (F.GTE_PORT_EN p) 1).setPortState p psDown } :=
    (onDev_powered (fun d => d.portEnable p) s hs).trans (by rw [Dev.portEnable, if_neg hboot]; dsimp only; rw [if_pos hstate])
  obtain ⟨hframe, hdown, -, -, -, hport⟩ := setPortState_quiet_effect (s.dev.put (F.GTE_PORT_EN p) 1) p (st := psDown)
    (by rw [hstate]; decide) (by decide)
  have hpwr : (s.dev.put (F.GTE_PORT_EN p) 1).pwr.pwrgd = true := hs
  have hput : Dev.onlyRegs [F.GTE_PORT_EN p] s.dev (s.dev.put (F.GTE_PORT_EN p) 1) := onlyRegs_put _ _ _ _ (by simp)
  have hen : (s.dev.put (F.GTE_PORT_EN p) 1).get (F.GTE_PORT_EN p) = 1 := get_put_same _ _ _
  have hhere : (s.dev.put (F.GTE_PORT_EN p) 1).port p = s.dev.port p := rfl
  rw [hpwr, hhere] at hport
  generalize s.dev.put (F.GTE_PORT_EN p) 1 = d at *
  refine ⟨_, hexec, (hframe.1 _ ?_).trans hen, hdown, ?_,
    onlyFields_of_dev (onlyRegs_trans (onlyRegs_mono hput (by simp)) (onlyRegs_mono hframe (by simp)))⟩
  · simpa using (portState_ne_en p p).symm
  · rw [hport]
    simp [psDown, psDisabled, psRejected]

/-- Of another port only EN changes. -/
theorem portEnable_again (s : State) (p : Fin 12) (hs : s.powered) (hboot : s.dev.get F.PWR_BOOT_STATE ≠ dsFailed)
    (h : s.dev.portState p ≠ psDisabled) :
    Answers (.portEnable p) s fun t => t.dev.get (F.GTE_PORT_EN p) = 1 ∧ t.dev.gate = s.dev.gate ∧
    State.onlyFields [F.GTE_PORT_EN p] s t := by
  have hexec : exec (.portEnable p) s = .next { s with dev := s.dev.put (F.GTE_PORT_EN p) 1 } :=
    (onDev_powered (fun d => d.portEnable p) s hs).trans (by
      rw [Dev.portEnable, if_neg hboot]
      dsimp only
      rw [if_neg (by rwa [portEn_portState])])
  exact ⟨_, hexec, get_put_same _ _ _, rfl, onlyFields_of_dev (onlyRegs_put _ _ _ _ (by simp))⟩

/-- The effect of PORT_DISABLE on the device, from UP and from every other state. -/
theorem disabled_effect (d : Dev) (p : Nat) :
    let e := d.setPortState p psDisabled
    Dev.onlyRegs (F.GTE_PORT_STATE p :: holdFields ++ sentFields) d e ∧ e.portState p = psDisabled ∧ (e.port p).driving = false ∧
      (d.portState p = psUp → bit (d.get F.TCK_CTRL_PORTS) p = true → e.held hcLink = true) := by
  by_cases hup : d.portState p = psUp
  · obtain ⟨hframe, hstate, -, hlink, hdriving⟩ := setPortState_leaves_effect d p (st := psDisabled) hup (by decide) (by decide)
    exact ⟨hframe, hstate, hdriving rfl, fun _ => hlink⟩
  · obtain ⟨hframe, hstate, -, -, -, hport⟩ := setPortState_quiet_effect d p (st := psDisabled) hup (by decide)
    exact ⟨onlyRegs_mono hframe (by simp), hstate, by rw [hport]; rfl, fun h => absurd h hup⟩

theorem portEn_far : ∀ p : Fin 12, ∀ g ∈ F.GTE_PORT_STATE p :: holdFields ++ sentFields, (F.GTE_PORT_EN p).key ≠ g.key := by decide

theorem portDisable_effect (s : State) (p : Fin 12) (hs : s.powered) :
    Answers (.portDisable p) s fun t =>
      t.dev.get (F.GTE_PORT_EN p) = 0 ∧ t.dev.portState p = psDisabled ∧ (t.dev.port p).driving = false ∧
        (s.dev.portState p = psUp → bit (s.dev.get F.TCK_CTRL_PORTS) p = true → t.dev.held hcLink = true) ∧
        State.onlyFields ([F.GTE_PORT_EN p, F.GTE_PORT_STATE p] ++ holdFields ++ sentFields) s t := by
  have hexec := onDev_powered (fun d => d.portDisable p) s hs
  obtain ⟨hframe, hstate, hdriving, hlink⟩ := disabled_effect (s.dev.put (F.GTE_PORT_EN p) 0) p
  rw [portEn_portState, get_put_ne _ _ _ _ (ports_ne_en p)] at hlink
  have hput : Dev.onlyRegs [F.GTE_PORT_EN p] s.dev (s.dev.put (F.GTE_PORT_EN p) 0) := onlyRegs_put _ _ _ _ (by simp)
  have hen : (s.dev.put (F.GTE_PORT_EN p) 0).get (F.GTE_PORT_EN p) = 0 := get_put_same _ _ _
  have hall := onlyRegs_trans (l := [F.GTE_PORT_EN p, F.GTE_PORT_STATE p] ++ holdFields ++ sentFields) (onlyRegs_mono hput (by simp))
    (onlyRegs_mono hframe fun f hf => List.mem_cons_of_mem _ hf)
  exact ⟨_, hexec, (hframe.1 _ (portEn_far p)).trans hen, hstate, hdriving, hlink, onlyFields_of_dev hall⟩

/-! ### Cable, signal, training (R22, R269, R271) -/

theorem cablePresence_effect (s : State) (p : Fin 12) (hs : s.powered) (present : Bool) :
    Answers (.cablePresenceChange p present) s fun t =>
      (t.dev.port p).present = present ∧
        (t.dev.port p).driving = (present && s.dev.portState p != psDisabled && s.dev.portState p != psRejected) ∧
        (∀ q : Nat, q ≠ p → t.dev.port q = s.dev.port q) ∧ State.onlyFields [] s t := by
  have hexec := onDev_powered (fun d => (d.setPort p { d.port p with present := present }).driveUpdate p) s hs
  have hgood : s.dev.pwr.pwrgd = true := hs
  have hset := port_setPort s.dev p
  obtain ⟨hcore, -, -, -, hport, hothers⟩ := driveUpdate_effect (s.dev.setPort p { s.dev.port p with present := present }) p
  have hstate : (s.dev.setPort p { s.dev.port p with present := present }).portState p = s.dev.portState p := rfl
  have hpwr : (s.dev.setPort p { s.dev.port p with present := present }).pwr.pwrgd = true := hgood
  rw [hset, if_pos rfl, hstate, hpwr] at hport
  refine ⟨_, hexec, congrArg PortSt.present hport, (congrArg PortSt.driving hport).trans ?_, fun q hq => (hothers q hq).trans ?_,
    onlyFields_of_dev (onlyRegs_trans (onlyRegs_core _ ⟨rfl, rfl, rfl, rfl⟩) (onlyRegs_core _ hcore))⟩
  · cases present <;> simp
  · rw [hset, if_neg hq]

theorem signalDetect_trains (s : State) (p : Fin 12) (hs : s.powered) (h : s.dev.portState p = psDown) (hcable : (s.dev.port p).present = true) :
    Answers (.signalDetect p) s fun t => t.dev.portState p = psTraining ∧ State.onlyFields [F.GTE_PORT_STATE p] s t := by
  have hexec : exec (.signalDetect p) s = .next { s with dev := s.dev.setPortState p psTraining } :=
    (onDev_powered (fun d => d.signalDetect p) s hs).trans (by rw [Dev.signalDetect, if_pos ⟨h, hcable⟩])
  obtain ⟨hframe, hstate, -⟩ := setPortState_quiet_effect s.dev p (st := psTraining) (by rw [h]; decide) (by decide)
  exact ⟨_, hexec, hstate, onlyFields_of_dev hframe⟩

theorem signalDetect_ignored (s : State) (p : Fin 12) (hs : s.powered) (h : s.dev.portState p ≠ psDown ∨ (s.dev.port p).present = false) :
    Answers (.signalDetect p) s fun t => t = s := by
  have hnot : ¬ (s.dev.portState p = psDown ∧ (s.dev.port p).present = true) := by
    rintro ⟨hdown, hcable⟩
    exact h.elim (fun hne => hne hdown) (fun hno => by simp [hcable] at hno)
  exact ⟨_, (onDev_powered (fun d => d.signalDetect p) s hs).trans (by rw [Dev.signalDetect, if_neg hnot]), rfl⟩

theorem trainingComplete_ignored (s : State) (p : Fin 12) (hs : s.powered) (h : s.dev.portState p ≠ psTraining) :
    Answers (.trainingComplete p) s fun t => t = s :=
  ⟨_, (onDev_powered (fun d => d.trained p) s hs).trans (by rw [Dev.trained, if_pos h]), rfl⟩

/-- The effect of entering ATTESTING from a state other than UP. -/
theorem attest_effect (d : Dev) (p : Nat) (h : d.portState p ≠ psUp) :
    let e := d.attest p
    e.portState p = psAttesting ∧ (e.port p).nonceOut = fitBytes 48 (Config.random d.fresh) ∧
      e.outs = .mgmt p 0 (fitBytes 48 (Config.random d.fresh)) :: d.outs ∧ Dev.onlyRegs [F.GTE_PORT_STATE p] d e := by
  obtain ⟨hframe, hstate, houts, -, -, -⟩ := setPortState_quiet_effect ({ d with fresh := d.fresh + 1 } : Dev) p (st := psAttesting) h (by decide)
  have hattest : d.attest p = (((({ d with fresh := d.fresh + 1 } : Dev).setPortState p psAttesting).setPort p
      { (({ d with fresh := d.fresh + 1 } : Dev).setPortState p psAttesting).port p with
        nonceOut := fitBytes 48 (Config.random d.fresh), nonceIn := [] }).sendMgmt p 0 (fitBytes 48 (Config.random d.fresh))) := rfl
  rw [hattest]
  generalize ({ d with fresh := d.fresh + 1 } : Dev).setPortState p psAttesting = e at *
  refine ⟨hstate, congrArg PortSt.nonceOut ((port_setPort e p p _).trans (if_pos rfl)), congrArg (Out.mgmt p 0 _ :: ·) houts, ?_⟩
  exact onlyRegs_trans (b := { d with fresh := d.fresh + 1 }) (onlyRegs_core _ ⟨rfl, rfl, rfl, rfl⟩)
    (onlyRegs_trans hframe (onlyRegs_core _ ⟨rfl, rfl, rfl, rfl⟩))

/-- The effect of a rejection from a state other than UP. -/
theorem reject_effect (d : Dev) (p : Nat) {reason : Nat} (h : d.portState p ≠ psUp) (hr : reason < 2 ^ 4) :
    let e := d.reject p reason
    e.portState p = psRejected ∧ e.get (F.GTE_PORT_REASON p) = reason ∧ (e.port p).driving = false ∧
      e.outs = .mgmt p 2 (leBytes 1 reason) :: d.outs ∧ Dev.onlyRegs [F.GTE_PORT_STATE p, F.GTE_PORT_REASON p] d e := by
  have hfar : (F.GTE_PORT_STATE p).key ≠ (F.GTE_PORT_REASON p).key := by
    simp only [Fld.key, F.GTE_PORT_STATE, F.GTE_PORT_REASON]
    omega
  have hput : Dev.onlyRegs [F.GTE_PORT_REASON p] d (d.put (F.GTE_PORT_REASON p) reason) := onlyRegs_put _ _ _ _ (by simp)
  have hreason : (d.put (F.GTE_PORT_REASON p) reason).get (F.GTE_PORT_REASON p) = reason := (get_put_same _ _ _).trans (Nat.mod_eq_of_lt hr)
  have hsame : (d.put (F.GTE_PORT_REASON p) reason).portState p = d.portState p := get_put_ne _ _ _ _ hfar
  obtain ⟨hframe, hstate, houts, -, -, hport⟩ := setPortState_quiet_effect (d.put (F.GTE_PORT_REASON p) reason) p (st := psRejected)
    (by rwa [hsame]) (by decide)
  have hreject : d.reject p reason = ((d.put (F.GTE_PORT_REASON p) reason).setPortState p psRejected).emit (.mgmt p 2 (leBytes 1 reason)) := rfl
  rw [hreject]
  refine ⟨hstate, (hframe.1 _ (by simpa using hfar.symm)).trans hreason, (congrArg PortSt.driving hport).trans rfl,
    congrArg (Out.mgmt p 2 (leBytes 1 reason) :: ·) houts, ?_⟩
  exact onlyRegs_trans (onlyRegs_mono hput (by simp)) (onlyRegs_trans (onlyRegs_mono hframe (by simp)) (onlyRegs_core _ ⟨rfl, rfl, rfl,
    rfl⟩))

theorem trainingComplete_attests (s : State) (p : Fin 12) (hs : s.powered) (h : s.dev.portState p = psTraining)
    (hrank : s.dev.on F.GTE_ID_RANKED = true) :
    Answers (.trainingComplete p) s fun t =>
      t.dev.portState p = psAttesting ∧ (t.dev.port p).nonceOut = fitBytes 48 (Config.random s.dev.fresh) ∧
        t.dev.outs = .mgmt p 0 (t.dev.port p).nonceOut :: s.dev.outs ∧ State.onlyFields [F.GTE_PORT_STATE p] s t := by
  have hexec : exec (.trainingComplete p) s = .next { s with dev := s.dev.attest p } :=
    (onDev_powered (fun d => d.trained p) s hs).trans (by rw [Dev.trained, if_neg (by simpa using h), if_pos hrank])
  obtain ⟨hstate, hnonce, houts, hframe⟩ := attest_effect s.dev p (by rw [h]; decide)
  exact ⟨_, hexec, hstate, hnonce, houts.trans (by rw [hnonce]), onlyFields_of_dev hframe⟩

theorem trainingComplete_rejects (s : State) (p : Fin 12) (hs : s.powered) (h : s.dev.portState p = psTraining)
    (hrank : s.dev.on F.GTE_ID_RANKED = false) :
    Answers (.trainingComplete p) s fun t =>
      t.dev.portState p = psRejected ∧ t.dev.get (F.GTE_PORT_REASON p) = 11 ∧ t.dev.outs = .mgmt p 2 (leBytes 1 11) :: s.dev.outs ∧
        State.onlyFields [F.GTE_PORT_STATE p, F.GTE_PORT_REASON p] s t := by
  have hexec : exec (.trainingComplete p) s = .next { s with dev := s.dev.reject p 11 } :=
    (onDev_powered (fun d => d.trained p) s hs).trans (by rw [Dev.trained, if_neg (by simpa using h), if_neg (by simp [hrank])])
  obtain ⟨hstate, hreason, -, houts, hframe⟩ := reject_effect s.dev p (reason := 11) (by rw [h]; decide) (by decide)
  exact ⟨_, hexec, hstate, hreason, houts, onlyFields_of_dev hframe⟩

/-! ### Steps of the state table (R254, R258, R262, R271) -/

/-- The commands that move a port from one state to another, with both states. -/
def portSteps (p : Fin 12) : List (Instr × Nat × Nat) :=
  [(Instr.trainingTimeout p, psTraining, psDown), (.lossOfSignal p, psUp, psDown), (.portRetrain p, psUp, psTraining),
    (.rejectRetryExpiry p, psRejected, psDown), (.portRetry p, psRejected, psDown)]

theorem exec_portStep (s : State) (p : Fin 12) (c : Instr) (old new : Nat) (hs : s.powered) (h : (c, old, new) ∈ portSteps p) :
    exec c s = .next { s with dev := s.dev.portStep p old new } ∧ new < 2 ^ 4 ∧ new ≠ psUp := by
  simp only [portSteps, List.mem_cons, Prod.mk.injEq, List.not_mem_nil, or_false] at h
  rcases h with ⟨rfl, rfl, rfl⟩ | ⟨rfl, rfl, rfl⟩ | ⟨rfl, rfl, rfl⟩ | ⟨rfl, rfl, rfl⟩ | ⟨rfl, rfl, rfl⟩ <;>
    exact ⟨onDev_powered (fun d => d.portStep p _ _) s hs, by decide, by decide⟩

theorem port_steps (s : State) (p : Fin 12) (c : Instr) (old new : Nat) (hs : s.powered) (h : (c, old, new) ∈ portSteps p) :
    (s.dev.portState p ≠ old → Answers c s fun t => t = s) ∧
    (s.dev.portState p = old →
      Answers c s fun t =>
        t.dev.portState p = new ∧ (old ≠ psUp → State.onlyFields [F.GTE_PORT_STATE p] s t ∧ t.dev.gate.waiting = s.dev.gate.waiting) ∧
          (old = psUp → (t.dev.port p).kept = [] ∧ (bit (s.dev.get F.TCK_CTRL_PORTS) p = true → t.dev.held hcLink = true)) ∧
          State.onlyFields (F.GTE_PORT_STATE p :: holdFields ++ sentFields) s t) := by
  obtain ⟨hexec, hnew, hdown⟩ := exec_portStep s p c old new hs h
  refine ⟨fun hne => ⟨_, hexec, by rw [Dev.portStep, if_neg hne]⟩, fun heq => ?_⟩
  rw [Dev.portStep, if_pos heq] at hexec
  by_cases hup : old = psUp
  · obtain ⟨hframe, hstate, hkept, hlink, -⟩ := setPortState_leaves_effect s.dev p (heq.trans hup) hnew hdown
    exact ⟨_, hexec, hstate, fun hne => absurd hup hne, fun _ => ⟨hkept, hlink⟩, onlyFields_of_dev hframe⟩
  · obtain ⟨hframe, hstate, -, hwaiting, -⟩ := setPortState_quiet_effect s.dev p (by rwa [heq]) hnew
    exact ⟨_, hexec, hstate, fun _ => ⟨onlyFields_of_dev hframe, hwaiting⟩, fun h => absurd h hup,
      onlyFields_of_dev (onlyRegs_mono hframe (by simp))⟩

/-- The commands that reject a port that attests, with their reasons. -/
theorem exec_rejection (s : State) (p : Fin 12) (c : Instr) (reason : Nat) (hs : s.powered)
    (h : (c, reason) ∈ [(Instr.evidenceTimeout p, 1), (.peerRejection p, 10)]) :
    exec c s = .next { s with dev := if s.dev.portState p = psAttesting then s.dev.reject p reason else s.dev } ∧ reason < 2 ^ 4 := by
  simp only [List.mem_cons, Prod.mk.injEq, List.not_mem_nil, or_false] at h
  rcases h with ⟨rfl, rfl⟩ | ⟨rfl, rfl⟩ <;>
    exact ⟨onDev_powered (fun d => if d.portState p = psAttesting then d.reject p _ else d) s hs, by decide⟩

theorem port_rejections (s : State) (p : Fin 12) (c : Instr) (reason : Nat) (hs : s.powered)
    (h : (c, reason) ∈ [(Instr.evidenceTimeout p, 1), (.peerRejection p, 10)]) :
    (s.dev.portState p ≠ psAttesting → Answers c s fun t => t = s) ∧
    (s.dev.portState p = psAttesting →
      Answers c s fun t =>
        t.dev.portState p = psRejected ∧ t.dev.get (F.GTE_PORT_REASON p) = reason ∧ (t.dev.port p).driving = false ∧
          t.dev.outs = .mgmt p 2 (leBytes 1 reason) :: s.dev.outs ∧ State.onlyFields [F.GTE_PORT_STATE p, F.GTE_PORT_REASON p] s t) := by
  obtain ⟨hexec, hreason⟩ := exec_rejection s p c reason hs h
  refine ⟨fun hne => ⟨_, hexec, by rw [if_neg hne]⟩, fun heq => ?_⟩
  rw [if_pos heq] at hexec
  obtain ⟨hstate, hnum, hdriving, houts, hframe⟩ := reject_effect s.dev p (by rw [heq]; decide) hreason
  exact ⟨_, hexec, hstate, hnum, hdriving, houts, onlyFields_of_dev hframe⟩

/-- Settles O39, one lemma for each command or table of commands. -/
theorem gatePortsChangeState : Obligations.GatePortsChangeState :=
  ⟨fun s p hs => ⟨portEnable_failed s p hs, fun hboot => ⟨portEnable_disabled s p hs hboot, portEnable_again s p hs hboot⟩,
    portDisable_effect s p hs, cablePresence_effect s p hs, signalDetect_trains s p hs, signalDetect_ignored s p hs,
    trainingComplete_ignored s p hs, fun h => ⟨trainingComplete_attests s p hs h, trainingComplete_rejects s p hs h⟩⟩,
  port_steps, port_rejections⟩

end Sys2Proof.Machine
end

section
/-! SUPPORT. How a command acts: nothing without PWRGD, and a command on the device keeps the queue, the vault and flash. -/

namespace Sys2Proof.Machine

open Sys2Proof

/-! ### How a command acts (R24) -/

/-- An outcome from state `s`: nothing happens, or with PWRGD high the next state stands in `R` to it. -/
def Acts (R : State → Prop) (s : State) (o : Host.Outcome State Fault Refusal) : Prop :=
  o = .next s ∨ (s.dev.pwr.pwrgd = true ∧ ∃ t, o = .next t ∧ R t)

theorem acts_mono {R R' : State → Prop} {s : State} {o : Host.Outcome State Fault Refusal} (h : ∀ t, R t → R' t) (k : Acts R s o) :
    Acts R' s o :=
  k.imp_right fun ⟨hp, t, ht, hr⟩ => ⟨hp, t, ht, h t hr⟩

/-- What runs under a condition that takes PWRGD. -/
theorem acts_of_if {R : State → Prop} {s t : State} {g : Bool} (hg : g = true → s.dev.pwr.pwrgd = true) (h : R t) :
    Acts R s (if g then .next t else .next s) := by
  split
  · exact .inr ⟨hg ‹_›, t, rfl, h⟩
  · exact .inl rfl

/-- A command on the device (`onDev`, its function applied) keeps the queue, the vault and flash. -/
theorem onDev_acts (s : State) (d : Dev) : Acts (State.sameBut s) s (if s.dev.pwr.pwrgd then .next { s with dev := d } else .next s) :=
  acts_of_if id ⟨rfl, rfl, rfl⟩

/-- Every command outside power and Sentry's is one on the device. -/
theorem device_acts (c : Instr) (s : State) (h : reachesSentry c = false) (hpower : powerCommand c = false) :
    Acts (State.sameBut s) s (exec c s) := by
  cases c
  case pwrEnRise | pwrEnHoldoffExpiry | pwrEnFall | railOutOfRegulation | undervoltage | overvoltage | thermtrip | pwrgd | perstDeassert =>
    cases hpower
  case poweredHours | bootStage | nonce | lockoutExpiry | lastRequestStoreExpiry | read | write | readSeg | writeSeg | mbxGo | registerWrite
      | repairRecord | commitRepairs | channelSpareCommit | channelSpareRelease | rankAssignment | partitionCreate | partitionDestroy | retire
      | commitMap | featureAccept | restoreDefaults | wholeDeviceReset | zeroise | firmwareUpdate | commitRollback | keyChange | fuseWrite
      | revocationListWrite | partnerKeyListWrite | quoteNonce | quote | debugUnlock | debugLock =>
    cases h
  case storedEnable tree | qualificationRecord r => exact onDev_acts s _
  all_goals exact onDev_acts s _

end Sys2Proof.Machine
end

section
/-! SUPPORT. The rules of writes, frames, resets and boot keep the queue and the lifetime counters (R31). -/

namespace Sys2Proof.Machine

open Sys2Proof

/-! ### The queue and the lifetime counters (R31) -/

/-- The queue of commands and the two lifetime counters are as before. -/
def State.sameLife (s t : State) : Prop :=
  t.pending = s.pending ∧ t.flash.hours = s.flash.hours ∧ t.flash.cycles = s.flash.cycles

theorem sameLife_refl (s : State) : State.sameLife s s := ⟨rfl, rfl, rfl⟩

theorem sameLife_trans {s t u : State} (h : State.sameLife s t) (k : State.sameLife t u) : State.sameLife s u := by
  obtain ⟨hpending, hhours, hcycles⟩ := h
  obtain ⟨kpending, khours, kcycles⟩ := k
  exact ⟨kpending.trans hpending, khours.trans hhours, kcycles.trans hcycles⟩

theorem sameLife_of_sameBut {s t : State} (h : State.sameBut s t) : State.sameLife s t := by
  obtain ⟨hpending, -, hflash⟩ := h
  exact ⟨hpending, congrArg Flash.hours hflash, congrArg Flash.cycles hflash⟩

/-- A new stored-configuration record leaves the counters alone (R367). -/
theorem lay_counters (fl : Flash) (e : Table (List Byte)) : (fl.lay e).hours = fl.hours ∧ (fl.lay e).cycles = fl.cycles := by
  unfold Flash.lay
  split <;> exact ⟨rfl, rfl⟩

/-! ### Rules of writes (R349, R360 step 9) -/

/-- Rules of a write that leave the queue and the counters alone. -/
def LifeRules (rules : State → Nat × State) : Prop := ∀ s, State.sameLife s (rules s).2

@[simp] theorem lifeRules_dev (f : Dev → Nat × Dev) : LifeRules (devRules f) := fun _ => ⟨rfl, rfl, rfl⟩

theorem lifeRules_ite {p : Prop} [Decidable p] {a b : State → Nat × State} (ha : LifeRules a) (hb : LifeRules b) :
    LifeRules (if p then a else b) := by
  split
  · exact ha
  · exact hb

@[simp] theorem lifeRules_record (rec : List Byte) : LifeRules (recordRules rec) := fun s => lifeRules_dev _ s

@[simp] theorem lifeRules_commit (v : Bool) : LifeRules (commitRules v) := fun s => by
  unfold commitRules
  split_ifs <;> exact ⟨rfl, rfl, rfl⟩

@[simp] theorem lifeRules_spareCommit (c : Nat) : LifeRules (spareCommitRules c) := fun s => by
  unfold spareCommitRules
  dsimp only
  split_ifs <;> exact ⟨rfl, rfl, rfl⟩

@[simp] theorem lifeRules_spareRelease (c : Nat) : LifeRules (spareReleaseRules c) := fun s => by
  unfold spareReleaseRules
  dsimp only
  split_ifs <;> exact ⟨rfl, rfl, rfl⟩

@[simp] theorem lifeRules_channel (v : Nat) : LifeRules (channelRule v) := fun s => by
  unfold channelRule
  split
  · exact lifeRules_spareCommit _ s
  · exact lifeRules_spareRelease _ s

@[simp] theorem lifeRules_map (v : Bool) : LifeRules (mapRule v) := fun s => by
  unfold mapRule
  split <;> exact ⟨rfl, rfl, rfl⟩

@[simp] theorem lifeRules_rank (rank : Nat) : LifeRules (rankRule rank) := fun s => by
  unfold rankRule
  dsimp only
  split <;> exact ⟨rfl, rfl, rfl⟩

@[simp] theorem lifeRules_reset (v : Bool) : LifeRules (resetRule v) := fun s => by
  unfold resetRule
  split_ifs <;> exact ⟨rfl, rfl, rfl⟩

@[simp] theorem lifeRules_zeroise (v : Bool) : LifeRules (zeroiseRule v) := fun s => by
  cases v <;> exact ⟨rfl, rfl, rfl⟩

@[simp] theorem lifeRules_firmware (im : FirmwareIn) : LifeRules (firmwareRule im) := fun s => by
  unfold firmwareRule
  dsimp only
  split_ifs <;> exact ⟨rfl, rfl, rfl⟩

@[simp] theorem lifeRules_bootCopy (v : Nat) : LifeRules (bootCopyRule v) := fun s => by
  unfold bootCopyRule
  split <;> exact ⟨rfl, rfl, rfl⟩

@[simp] theorem lifeRules_rollback (v : Bool) : LifeRules (rollbackRule v) := fun s => by
  unfold rollbackRule
  split_ifs <;> exact ⟨rfl, rfl, rfl⟩

@[simp] theorem lifeRules_key (issuer : Nat) (b : List Byte) : LifeRules (keyRule issuer b) := fun s => by
  unfold keyRule
  dsimp only
  split_ifs <;> exact ⟨rfl, rfl, rfl⟩

@[simp] theorem lifeRules_fuse (code : Nat) : LifeRules (fuseRule code) := fun s => by
  unfold fuseRule
  split <;> exact ⟨rfl, rfl, rfl⟩

@[simp] theorem lifeRules_revocation (sigs : Sigs) (seq : Nat) (list : List Byte) : LifeRules (revocationRule sigs seq list) := fun s => by
  unfold revocationRule
  dsimp only
  split <;> exact ⟨rfl, rfl, rfl⟩

@[simp] theorem lifeRules_partner (sigs : Sigs) (seq : Nat) (partners : List PartnerRow) (list : List Byte) :
    LifeRules (partnerRule sigs seq partners list) := fun s => by
  unfold partnerRule
  dsimp only
  split <;> exact ⟨rfl, rfl, rfl⟩

@[simp] theorem lifeRules_nonce (b : List Byte) : LifeRules (nonceRule b) := fun s => by
  unfold nonceRule
  split <;> exact ⟨rfl, rfl, rfl⟩

@[simp] theorem lifeRules_unlock : LifeRules unlockRule := fun s => by
  unfold unlockRule
  split <;> exact ⟨rfl, rfl, rfl⟩

@[simp] theorem lifeRules_lock : LifeRules lockRule := fun _ => ⟨rfl, rfl, rfl⟩

@[simp] theorem lifeRules_defaults (v : Bool) : LifeRules (defaultsRule v) := fun s => by
  unfold defaultsRule
  split_ifs
  · exact sameLife_refl s
  · exact sameLife_refl s
  · exact ⟨rfl, lay_counters _ _⟩

/-- A stored object's rule, and the record it commits. -/
theorem lifeRules_stored (key : Nat) (value : List Byte) {rule : State → Nat × State} (h : LifeRules rule) :
    LifeRules (storedRules key value rule) := by
  intro s
  unfold storedRules
  split
  · exact sameLife_refl s
  · split_ifs
    · exact sameLife_refl s
    · exact sameLife_refl s
    · dsimp only
      split
      · exact sameLife_trans (h s) ⟨rfl, lay_counters _ _⟩
      · exact h s

/-- No object's rule touches the counters: each row of the table is one of the rules above. -/
theorem lifeRules_obj (slot key : Nat) (b : List Byte) : LifeRules (objRule slot key b) := by
  unfold objRule
  dsimp only
  split <;> simp [lifeRules_ite]

theorem lifeRules_stepNine (slot : Nat) (o : ObjRow) (b : List Byte) : LifeRules (stepNine slot o b) := by
  intro s
  unfold stepNine
  split_ifs
  · exact lifeRules_stored _ _ (lifeRules_obj _ _ _) s
  · exact sameLife_refl s
  · exact sameLife_refl s
  · exact lifeRules_obj _ _ _ s

/-! ### Writes (R356, R360) -/

/-- Rules run on the vault and the device that authentication left. -/
theorem LifeRules.authenticated {rules : State → Nat × State} (h : LifeRules rules) (s : State) (v : Vault) (d : Dev) :
    State.sameLife s (rules { s with vault := v, dev := d }).2 := h { s with vault := v, dev := d }

/-- A write answers, and keeps the queue and the counters where its rules do. -/
theorem lopWrite_life (needsAuth : Bool) (r : LopReq) {rules : State → Nat × State} (h : LifeRules rules) (s : State) :
    State.sameLife s (lopWrite needsAuth r rules s) := by
  unfold lopWrite
  split
  · split
    · exact ⟨rfl, rfl, rfl⟩
    · exact sameLife_trans (h s) ⟨rfl, rfl, rfl⟩
  · split
    · exact ⟨rfl, rfl, rfl⟩
    · dsimp only
      split
      · exact ⟨rfl, rfl, rfl⟩
      · exact sameLife_trans (h.authenticated s _ _) ⟨rfl, rfl, rfl⟩

/-! ### Resets (R369, R386) -/

theorem wholeReset_life (s : State) (cause : Nat) : State.sameLife s (s.wholeReset cause) := ⟨rfl, rfl, rfl⟩

/-- A zeroise erases records and requests, not the counters (R31). -/
theorem zeroiseNow_life (s : State) : State.sameLife s s.zeroiseNow := ⟨rfl, rfl, rfl⟩

theorem runReset_life (s : State) : State.sameLife s s.runReset := by
  have hdone : State.sameLife s { s with dev := { s.dev with ctl := { s.dev.ctl with resetDue := 0 } } } := ⟨rfl, rfl, rfl⟩
  unfold State.runReset
  dsimp only
  split_ifs
  · exact sameLife_trans hdone (wholeReset_life _ _)
  · exact sameLife_trans hdone (zeroiseNow_life _)
  · exact hdone

/-! ### Frames of the object protocol (R354 to R358) -/

theorem respond_life (s : State) (r : LopReq) (status : Nat) : State.sameLife s (s.respond r status) := ⟨rfl, rfl, rfl⟩

theorem makeQuote_life {s t : State} (h : s.makeQuote = some t) : State.sameLife s t := by
  unfold State.makeQuote at h
  obtain ⟨n, -, rfl⟩ := Option.map_eq_some_iff.mp h
  exact ⟨rfl, rfl, rfl⟩

theorem refreshQuote_life (s : State) (key offset : Nat) : State.sameLife s (s.refreshQuote key offset).2 := by
  unfold State.refreshQuote
  split
  · exact sameLife_refl s
  · split
    · exact sameLife_refl s
    · split
      · exact makeQuote_life ‹_›
      · exact sameLife_refl s

theorem serveRead_life (s : State) (r : LopReq) (seg : Bool) : State.sameLife s (s.serveRead r seg) := by
  have hquote := refreshQuote_life s r.key r.offset
  unfold State.serveRead
  dsimp only
  split_ifs <;> exact sameLife_trans hquote ⟨rfl, rfl, rfl⟩

theorem writeValue_life (s : State) (o : ObjRow) (f : LopFrame) (source offset : Nat) (raw v : List Byte) :
    State.sameLife s (s.writeValue o f source offset raw v) := by
  have hgo : ∀ (needsAuth : Bool) (r : LopReq) (slot : Nat), State.sameLife s (lopWrite needsAuth r (stepNine slot o v) s).runReset :=
    fun needsAuth r slot => sameLife_trans (lopWrite_life needsAuth r (lifeRules_stepNine slot o v) s) (runReset_life _)
  unfold State.writeValue
  dsimp only
  split
  · exact hgo _ _ _
  · split
    · exact hgo _ _ _
    · exact respond_life _ _ _

theorem segment_life (s : State) (o : ObjRow) (f : LopFrame) (source : Nat) (raw have_ : List Byte) :
    State.sameLife s (s.segment o f source raw have_) := by
  have hopen : ∀ l, State.sameLife s (s.setOpen l) := fun _ => ⟨rfl, rfl, rfl⟩
  unfold State.segment
  dsimp only
  split_ifs
  · exact sameLife_trans (hopen _) (respond_life _ _ _)
  · exact sameLife_trans (hopen _) (writeValue_life _ _ _ _ _ _ _)
  · exact sameLife_trans (hopen _) (respond_life _ _ _)

theorem writeSegment_life (s : State) (o : ObjRow) (f : LopFrame) (source : Nat) (raw : List Byte) :
    State.sameLife s (s.writeSegment o f source raw) := by
  have hopen : ∀ l r st, State.sameLife s ((s.setOpen l).respond r st) := fun _ _ _ => ⟨rfl, rfl, rfl⟩
  unfold State.writeSegment
  dsimp only
  split
  · exact ⟨rfl, rfl, rfl⟩
  · split_ifs
    · exact respond_life _ _ _
    · exact hopen _ _ _
    · exact segment_life _ _ _ _ _ _
    · split
      · exact respond_life _ _ _
      · split
        · exact segment_life _ _ _ _ _ _
        · exact hopen _ _ _

theorem serveFrame_life (s : State) (source : Nat) (raw : List Byte) (f : LopFrame) : State.sameLife s (s.serveFrame source raw f) := by
  unfold State.serveFrame
  dsimp only
  split_ifs
  · exact respond_life _ _ _
  · exact respond_life _ _ _
  · exact serveRead_life _ _ _
  · exact serveRead_life _ _ _
  · split
    · exact respond_life _ _ _
    · exact writeValue_life _ _ _ _ _ _ _
  · split
    · exact respond_life _ _ _
    · exact writeSegment_life _ _ _ _ _

theorem frameIn_life (s : State) (source : Nat) (raw : List Byte) (mine : Nat → Bool) : State.sameLife s (s.frameIn source raw mine) := by
  unfold State.frameIn
  split
  · exact ⟨rfl, rfl, rfl⟩
  · split
    · exact serveFrame_life _ _ _ _
    · exact sameLife_refl s

theorem mailboxGo_life (s : State) : State.sameLife s s.mailboxGo := by
  have hbusy : State.sameLife s { s with dev := s.dev.put F.MBX_STATUS_STATE 1 } := ⟨rfl, rfl, rfl⟩
  have hframe : ∀ (raw : List Byte) (mine : Nat → Bool),
      State.sameLife s (State.frameIn { s with dev := s.dev.put F.MBX_STATUS_STATE 1 } srcMailbox raw mine) :=
    fun raw mine => sameLife_trans hbusy (frameIn_life _ _ _ _)
  unfold State.mailboxGo
  dsimp only
  split_ifs
  · exact ⟨rfl, rfl, rfl⟩
  · exact sameLife_trans (hframe _ _) ⟨rfl, rfl, rfl⟩
  · exact hframe _ _
  · exact sameLife_trans (hframe _ _) ⟨rfl, rfl, rfl⟩
  · exact hframe _ _

theorem barWrite_life (s : State) (off size v : Nat) : State.sameLife s (s.barWrite off size v) := by
  unfold State.barWrite
  split_ifs
  · exact sameLife_refl s
  · exact mailboxGo_life s
  · exact sameLife_refl s
  · exact ⟨rfl, rfl, rfl⟩
  · exact ⟨rfl, rfl, rfl⟩

theorem quoteRead_life (s : State) (source reqId : Nat) : State.sameLife s (s.quoteRead source reqId) := by
  unfold State.quoteRead
  dsimp only
  split
  · exact ⟨rfl, rfl, rfl⟩
  · rename_i t hquote
    exact sameLife_trans (makeQuote_life hquote) ⟨rfl, rfl, rfl⟩

/-! ### Boot (R371, R386) -/

theorem finishZeroise_life (s : State) : State.sameLife s s.finishZeroise := by
  unfold State.finishZeroise
  split <;> exact ⟨rfl, rfl, rfl⟩

theorem bootSentry_life (s : State) (r : StageResult) : State.sameLife s (s.bootSentry r) := by
  unfold State.bootSentry
  dsimp only
  split <;> exact sameLife_trans (finishZeroise_life s) ⟨rfl, rfl, rfl⟩

theorem bootLater_life (s : State) (r : StageResult) : State.sameLife s (s.bootLater r) := by
  unfold State.bootLater
  dsimp only
  split
  · split <;> exact ⟨rfl, rfl, rfl⟩
  all_goals exact ⟨rfl, rfl, rfl⟩

theorem bootStage_life (s : State) (r : StageResult) : State.sameLife s (s.bootStage r) := by
  have helapsed : State.sameLife s { s with dev := s.dev.put F.PWR_BOOT_ELAPSED (satTo (2 ^ 32 - 1) r.elapsedMs) } := ⟨rfl, rfl, rfl⟩
  unfold State.bootStage
  dsimp only
  split_ifs
  · exact sameLife_refl s
  · exact sameLife_trans helapsed (bootSentry_life _ _)
  · exact sameLife_trans helapsed (bootLater_life _ _)

end Sys2Proof.Machine
end

section
/-! PROOF. Every command, and the proof of O56. -/

namespace Sys2Proof.Machine

open Sys2Proof

/-! ### Sentry's commands (R360, R367, R381, R383) -/

theorem onAuth_acts (a : Auth) (key : Nat) (value : List Byte) {rules : State → Nat × State} (h : LifeRules rules) (s : State) :
    Acts (State.sameLife s) s (onAuth a key value rules s) :=
  acts_of_if (by simp +contextual) (lopWrite_life _ _ h s)

theorem onAuthReset_acts (a : Auth) (key : Nat) (value : List Byte) {rules : State → Nat × State} (h : LifeRules rules) (s : State) :
    Acts (State.sameLife s) s (onAuthReset a key value rules s) :=
  acts_of_if (by simp +contextual) (sameLife_trans (lopWrite_life _ _ h s) (runReset_life _))

theorem onPlain_acts (source reqId key : Nat) (value : List Byte) {rules : State → Nat × State} (h : LifeRules rules) (s : State) :
    Acts (State.sameLife s) s (onPlain source reqId key value rules s) :=
  acts_of_if (by simp +contextual) (lopWrite_life _ _ h s)

theorem onFrame_acts (source : Nat) (raw : List Byte) (mine : Nat → Bool) (s : State) :
    Acts (State.sameLife s) s (onFrame source raw mine s) :=
  acts_of_if (by simp +contextual) (frameIn_life _ _ _ _)

/-- NONCE takes one LMS leaf of the vault. -/
theorem nonce_acts (port : Fin 12) (bytes : List Byte) (s : State) : Acts (State.sameLife s) s (exec (.nonce port bytes) s) :=
  acts_of_if (by simp +contextual) ⟨rfl, rfl, rfl⟩

theorem quote_acts (source reqId : Nat) (s : State) : Acts (State.sameLife s) s (exec (.quote source reqId) s) :=
  acts_of_if (by simp +contextual) (quoteRead_life _ _ _)

theorem lockoutExpiry_acts (slot : Fin 8) (s : State) : Acts (State.sameLife s) s (exec (.lockoutExpiry slot) s) :=
  acts_of_if (by simp +contextual) ⟨rfl, rfl, rfl⟩

/-- Every command of Sentry's but the hour counter's and the power pins' keeps the queue and the lifetime counters. -/
theorem sentry_acts (c : Instr) (s : State) (h : reachesSentry c = true) (hpower : powerCommand c = false) (hhours : c ≠ .poweredHours) :
    Acts (State.sameLife s) s (exec c s) := by
  cases c
  case pwrEnRise | pwrEnHoldoffExpiry | pwrEnFall | railOutOfRegulation | undervoltage | overvoltage | thermtrip | pwrgd | perstDeassert =>
    cases hpower
  case poweredHours => exact absurd rfl hhours
  case bootStage r => exact acts_of_if id (bootStage_life s r)
  case nonce port bytes => exact nonce_acts port bytes s
  case lockoutExpiry slot => exact lockoutExpiry_acts slot s
  case lastRequestStoreExpiry slot => exact acts_of_if id ⟨rfl, rfl, rfl⟩
  case read | write | readSeg | writeSeg => exact onFrame_acts _ _ _ s
  case mbxGo => exact acts_of_if id (mailboxGo_life s)
  case registerWrite off size v => exact acts_of_if id (barWrite_life s _ _ _)
  case quote source reqId => exact quote_acts source reqId s
  case repairRecord source reqId record => exact onPlain_acts _ _ _ _ (lifeRules_record record) s
  case featureAccept => exact onPlain_acts _ _ _ _ (lifeRules_stored _ _ (lifeRules_dev _)) s
  case restoreDefaults => exact onPlain_acts _ _ _ _ (lifeRules_defaults true) s
  case quoteNonce source reqId value => exact onPlain_acts _ _ _ _ (lifeRules_nonce value) s
  case commitRepairs a v => exact onAuth_acts _ _ _ (lifeRules_commit v) s
  case channelSpareCommit a c => exact onAuth_acts _ _ _ (lifeRules_spareCommit c) s
  case channelSpareRelease a c => exact onAuth_acts _ _ _ (lifeRules_spareRelease c) s
  case rankAssignment a rank => exact onAuth_acts _ _ _ (lifeRules_stored _ _ (lifeRules_rank _)) s
  case partitionCreate | partitionDestroy => exact onAuth_acts _ _ _ (lifeRules_stored _ _ (lifeRules_dev _)) s
  case retire => exact onAuth_acts _ _ _ (lifeRules_dev _) s
  case commitMap a v => exact onAuth_acts _ _ _ (lifeRules_map v) s
  case wholeDeviceReset => exact onAuthReset_acts _ _ _ (lifeRules_reset true) s
  case zeroise => exact onAuthReset_acts _ _ _ (lifeRules_zeroise true) s
  case firmwareUpdate a im => exact onAuth_acts _ _ _ (lifeRules_firmware im) s
  case commitRollback => exact onAuth_acts _ _ _ (lifeRules_rollback true) s
  case keyChange a b => exact onAuth_acts _ _ _ (lifeRules_key a.slot b) s
  case fuseWrite a code => exact onAuth_acts _ _ _ (lifeRules_fuse code) s
  case revocationListWrite a sigs seq list => exact onAuth_acts _ _ _ (lifeRules_revocation sigs seq list) s
  case partnerKeyListWrite a sigs seq partners list => exact onAuth_acts _ _ _ (lifeRules_partner sigs seq partners list) s
  case debugUnlock => exact onAuth_acts _ _ _ lifeRules_unlock s
  case debugLock => exact onAuth_acts _ _ _ lifeRules_lock s
  all_goals cases h

/-! ### Power pins (R24 to R28, R31) -/

theorem rampUp_same (s : State) (p : PowerSt) : State.sameBut s (s.setPower p).rampUp := by
  unfold State.rampUp
  dsimp only
  split <;> exact ⟨rfl, rfl, rfl⟩

/-- A power-down writes its cause to flash and nothing else there. -/
theorem powerDown_life (s : State) (cause : Nat) : State.sameLife s (s.powerDown cause) := by
  unfold State.powerDown
  dsimp only
  split_ifs <;> exact ⟨rfl, rfl, rfl⟩

theorem setPower_powerDown_life (s : State) (p : PowerSt) (cause : Nat) : State.sameLife s ((s.setPower p).powerDown cause) :=
  sameLife_trans (t := s.setPower p) ⟨rfl, rfl, rfl⟩ (powerDown_life _ _)

/-- PWRGD begins a power cycle or changes nothing. -/
theorem powerGood_counters (s : State) (slotId : Nat) (tref : Bool) :
    (s.powerGood slotId tref).pending = s.pending ∧ (s.powerGood slotId tref).flash.hours = s.flash.hours ∧
      ((s.powerGood slotId tref).flash.cycles = s.flash.cycles ∨
        (s.powerGood slotId tref).flash.cycles = min (2 ^ 32 - 1) (s.flash.cycles + 1)) := by
  unfold State.powerGood
  dsimp only
  split
  · exact ⟨rfl, rfl, .inr (satTo_eq_min _ _)⟩
  · exact ⟨rfl, rfl, .inl rfl⟩

/-- A power pin or PERST# but PWRGD keeps the queue and the lifetime counters. -/
theorem power_answers (c : Instr) (s : State) (h : powerCommand c = true) (hgood : ∀ slotId tref, c ≠ .pwrgd slotId tref) :
    Answers c s (State.sameLife s) := by
  cases c
  case pwrgd slotId tref => exact absurd rfl (hgood slotId tref)
  case pwrEnRise | pwrEnHoldoffExpiry => exact ⟨_, rfl, sameLife_of_sameBut (rampUp_same s _)⟩
  case pwrEnFall | thermtrip => exact ⟨_, rfl, setPower_powerDown_life s _ _⟩
  case railOutOfRegulation | undervoltage | overvoltage => exact ⟨_, rfl, powerDown_life s _⟩
  case perstDeassert => exact ⟨_, rfl, rfl, rfl, rfl⟩
  all_goals cases h

/-! ### Every command (R24, R26, R31) -/

/-- POWERED_HOURS acts with PWRGD high only. -/
theorem poweredHours_acts (s : State) :
    Acts (fun t => t = { s with flash := { s.flash with hours := min (2 ^ 32 - 1) (s.flash.hours + 1) } }) s (exec .poweredHours s) :=
  acts_of_if id (by rw [← satTo_eq_min])

/-- A counter that stands still or counts up to its width. -/
def Counts (a b : Nat) : Prop := b = a ∨ b = min (2 ^ 32 - 1) (a + 1)

theorem counts_bounds {a b : Nat} (h : Counts a b) (ha : a < 2 ^ 32) : a ≤ b ∧ b < 2 ^ 32 := by
  rcases h with rfl | rfl <;> omega

/-- The queue is as before, and each lifetime counter stands still or counts. -/
def State.livesOn (s t : State) : Prop :=
  t.pending = s.pending ∧ Counts s.flash.hours t.flash.hours ∧ Counts s.flash.cycles t.flash.cycles

theorem livesOn_of_sameLife {s t : State} (h : State.sameLife s t) : State.livesOn s t := by
  obtain ⟨hpending, hhours, hcycles⟩ := h
  exact ⟨hpending, .inl hhours, .inl hcycles⟩

theorem answers_of_acts {R : State → Prop} {c : Instr} {s : State} (h : Acts R s (exec c s)) (hs : R s) : Answers c s R := by
  rcases h with hsame | ⟨-, t, ht, hr⟩
  · exact ⟨s, hsame, hs⟩
  · exact ⟨t, ht, hr⟩

/-- Outside the power pins every command acts with PWRGD high only. -/
theorem command_acts (c : Instr) (s : State) (h : powerCommand c = false) : Acts (State.livesOn s) s (exec c s) := by
  by_cases hsentry : reachesSentry c = true
  · by_cases hhours : c = .poweredHours
    · subst hhours
      refine acts_mono (fun t ht => ?_) (poweredHours_acts s)
      subst ht
      exact ⟨rfl, .inr rfl, .inl rfl⟩
    · exact acts_mono (fun _ => livesOn_of_sameLife) (sentry_acts c s hsentry h hhours)
  · exact acts_mono (fun _ ht => livesOn_of_sameLife (sameLife_of_sameBut ht)) (device_acts c s (by simpa using hsentry) h)

/-- Every command answers a next state that keeps the queue, and no lifetime counter is reset. -/
theorem command_answers (c : Instr) (s : State) : Answers c s (State.livesOn s) := by
  by_cases hpower : powerCommand c = true
  · by_cases hgood : ∃ slotId tref, c = .pwrgd slotId tref
    · obtain ⟨slotId, tref, rfl⟩ := hgood
      obtain ⟨hpending, hhours, hcycles⟩ := powerGood_counters s slotId tref
      exact ⟨_, rfl, hpending, .inl hhours, hcycles⟩
    · obtain ⟨t, ht, hlife⟩ := power_answers c s hpower fun slotId tref hc => hgood ⟨slotId, tref, hc⟩
      exact ⟨t, ht, livesOn_of_sameLife hlife⟩
  · exact answers_of_acts (command_acts c s (by simpa using hpower)) (livesOn_of_sameLife (sameLife_refl s))

/-- With PWRGD low a command outside the power pins does nothing. -/
theorem command_off (c : Instr) (s : State) (hs : s.dev.pwr.pwrgd = false) (h : powerCommand c = false) : Answers c s fun t => t = s := by
  rcases command_acts c s h with hsame | ⟨hgood, -⟩
  · exact ⟨s, hsame, rfl⟩
  · rw [hs] at hgood
    cases hgood

/-- A command that does not reach Sentry keeps its vault and flash. -/
theorem command_outside_sentry (c : Instr) (s : State) (h : reachesSentry c = false) :
    Answers c s fun t => t.vault = s.vault ∧ t.flash = s.flash := by
  by_cases hpower : powerCommand c = true
  · cases c
    case pwrEnRise | pwrEnHoldoffExpiry => exact ⟨_, rfl, (rampUp_same s _).2⟩
    case perstDeassert => exact ⟨_, rfl, rfl, rfl⟩
    case pwrEnFall | railOutOfRegulation | undervoltage | overvoltage | thermtrip | pwrgd => cases h
    all_goals cases hpower
  · obtain ⟨t, ht, -, hkept⟩ := answers_of_acts (device_acts c s h (by simpa using hpower)) ⟨rfl, rfl, rfl⟩
    exact ⟨t, ht, hkept⟩

/-- Settles O56: a command outside the power pins runs under a condition that takes PWRGD, and only Sentry's touch the vault and flash. -/
theorem everyCommandCompletesAndFewReachSentry : Obligations.EveryCommandCompletesAndFewReachSentry := by
  refine ⟨fun c s => ?_, command_off, command_outside_sentry⟩
  obtain ⟨t, ht, hpending, -⟩ := command_answers c s
  exact ⟨t, ht, hpending⟩

end Sys2Proof.Machine
end

section
/-! PROOF. The proof of O59 (lifetime counters, the cause at power-up, the asset tag). -/

namespace Sys2Proof.Machine

open Sys2Proof

/-! ### The lifetime counters as objects (R31) -/

/-- Objects 0x2000.08 and 0x2000.09 read the counters. -/
theorem lifetime_objects (s : State) :
    s.readObject 0x200008 = (stOk, leBytes 4 s.flash.hours) ∧ s.readObject 0x200009 = (stOk, leBytes 4 s.flash.cycles) :=
  ⟨rfl, rfl⟩

/-- A power-up after a cycle that recorded no cause shows the cause 0x06. -/
theorem powerUp_unrecorded (s : State) (slotId : Fin 64) (tref : Bool) (hen : s.dev.pwr.pwrEn = true) (hramp : s.dev.pwr.ramping = true)
    (hdown : s.dev.pwr.pwrgd = false) (hever : s.flash.everPowered = true) (hnone : s.flash.shutdown = none) :
    Answers (.pwrgd slotId tref) s fun t => t.dev.objNat 0x20000A = 6 := by
  refine ⟨_, rfl, ?_⟩
  have hcause : s.flash.lastCause = 6 := by
    unfold Flash.lastCause
    rw [hnone, hever]
    rfl
  unfold State.powerGood
  dsimp only
  rw [if_pos (by simp [hen, hramp, hdown]), hcause]
  unfold Dev.objNat
  dsimp only
  rw [obj_setObj, if_pos rfl]
  rfl

/-! ### The asset tag (R31, R349, R367) -/

/-- The asset tag's object: stored, and written without a trailer. -/
theorem assetTag_row : ∃ o : ObjRow, objRow 0x20000B = some o ∧ o.key = 0x20000B ∧ o.stored = true ∧ o.acc = .rw := by
  have hrow : (objRow 0x20000B).map (fun o => (o.key, o.stored, o.acc)) = some (0x20000B, true, .rw) := by decide
  obtain ⟨o, ho, hfields⟩ := Option.map_eq_some_iff.mp hrow
  simp only [Prod.mk.injEq] at hfields
  obtain ⟨hkey, hstored, hacc⟩ := hfields
  exact ⟨o, ho, hkey, hstored, hacc⟩

/-- Step 9 for the asset tag: FLASH_WP#, then the range, then the value. -/
theorem stepNine_assetTag (slot : Nat) {o : ObjRow} (b : List Byte) (s : State) (ho : objRow 0x20000B = some o) (hkey : o.key = 0x20000B)
    (hstored : o.stored = true) :
    stepNine slot o b s =
      if s.dev.pwr.flashWp then (stPerm, s) else if o.valueOk b = false then (stBounds, s) else (stOk, s.heldStored 0x20000B b) := by
  have hrule : objRule slot 0x20000B b s = (stOk, { s with dev := s.dev.setObj 0x20000B b }) := rfl
  unfold stepNine storedRules
  rw [if_pos hstored, hkey, ho]
  dsimp only
  rw [hrule, if_pos rfl]
  simp only [Bool.not_eq_true']
  rfl

/-- A WRITE of the asset tag without a trailer is answered with what step 9 says. -/
theorem write_assetTag (s : State) (source : Nat) (raw : List Byte) (f : LopFrame) (o : ObjRow) (st : Nat) (t : State → State)
    (ht : s.takesLop source raw f) (hop : f.op = 2) (hflag : bit f.flags 1 = false) (hw : writable f.key = (stOk,
      some o)) (hacc : o.acc = .rw)
    (hstep : ∀ l, stepNine 0 o f.data (s.setOpen l) = (st, t (s.setOpen l))) (hdue : ∀ l, (t (s.setOpen l)).dev.ctl.resetDue = 0) :
    ∃ l, exec (.write source raw) s = .next ((t (s.setOpen l)).answer none (valueReq source f f.offset raw f.data) st) := by
  obtain ⟨l, hexec⟩ := exec_wholeWrite s source raw f (.write source raw) o ht (by simp [writeCommands, hop]) hw hflag (.inl hop)
  rw [writeValue_ruled o f source f.offset raw f.data st hflag (by rw [hacc]; decide) (hstep l) (hdue l)] at hexec
  exact ⟨l, hexec⟩

theorem assetTag_written (s : State) (source : Nat) (raw : List Byte) (f : LopFrame) (ht : s.takesLop source raw f) (hdue : s.dev.ctl.resetDue = 0)
    (hop : f.op = 2) (hk : f.key = 0x20000B) (hflag : bit f.flags 1 = false) :
    let answer (st : Nat) (fl : Flash) : State → Prop :=
      State.replied source (lopFrame 0x82 f.reqId f.key 0 st [] 0) s.vault fl [] s
    (s.dev.pwr.flashWp = true →
      Answers (.write source raw) s fun t => t.dev.obj 0x20000B = s.dev.obj 0x20000B ∧ answer stPerm s.flash t) ∧
    (s.dev.pwr.flashWp = false → (∀ o : ObjRow, objRow 0x20000B = some o → o.valueOk f.data = true) →
      Answers (.write source raw) s fun t =>
        t.dev.obj 0x20000B = f.data ∧ answer stOk (s.flash.lay (Table.ins s.flash.storedEntries 0x20000B f.data)) t) := by
  obtain ⟨o, ho, hkey, hstored, hacc⟩ := assetTag_row
  have hoff : f.offset = 0 := offset_of_not_reserved ht.2.2.1 (by omega)
  have hwritable : writable f.key = (stOk, some o) := by
    unfold writable
    rw [hk, ho]
    dsimp only
    rw [hacc]
    rfl
  have hcode : f.op + 0x80 = 0x82 := by rw [hop]
  refine ⟨fun hwp => ?_, fun hwp hval => ?_⟩
  · obtain ⟨l, hexec⟩ := write_assetTag s source raw f o stPerm id ht hop hflag hwritable hacc
      (fun l => (stepNine_assetTag 0 f.data (s.setOpen l) ho hkey hstored).trans (if_pos hwp)) fun _ => hdue
    have hreply := value_replied (s := s) (t := s.setOpen l) source f raw f.data stPerm rfl ⟨rfl, rfl, rfl, rfl⟩
    rw [hcode, hoff] at hreply
    rw [hoff] at hexec
    exact ⟨_, hexec, sameControl_obj (answer_control (s.setOpen l) none _ stPerm) _, hreply⟩
  · obtain ⟨l, hexec⟩ := write_assetTag s source raw f o stOk (fun u => u.heldStored 0x20000B f.data) ht hop hflag hwritable hacc
      (fun l => (stepNine_assetTag 0 f.data (s.setOpen l) ho hkey hstored).trans
        ((if_neg (ne_true_of_eq_false hwp)).trans (if_neg (ne_false_of_eq_true (hval o ho))))) fun _ => hdue
    have hreply := value_replied (s := s) (t := (s.setOpen l).heldStored 0x20000B f.data) source f raw f.data stOk rfl ⟨rfl, rfl, rfl, rfl⟩
    rw [hcode, hoff] at hreply
    rw [hoff] at hexec
    refine ⟨_, hexec, (sameControl_obj (answer_control ((s.setOpen l).heldStored 0x20000B f.data) none _ stOk) _).trans ?_, hreply⟩
    unfold State.heldStored State.store
    dsimp only
    rw [obj_setObj, if_neg (by decide), obj_setObj, if_pos rfl]

/-- Settles O59: every command's counters from `command_answers`, then the objects, the cause of a power-up and the asset tag. -/
theorem lifetimeCountersAreNeverReset : Obligations.LifetimeCountersAreNeverReset := by
  refine ⟨fun c s hh hc => ?_, lifetime_objects, powerUp_unrecorded, assetTag_written⟩
  obtain ⟨t, ht, -, hhours, hcycles⟩ := command_answers c s
  obtain ⟨hle, hlt⟩ := counts_bounds hhours hh
  exact ⟨t, ht, hle, hlt, counts_bounds hcycles hc⟩

end Sys2Proof.Machine
end

section
/-! SUPPORT. What HOLD causes, parking and partitions leave of a tick's hidden state and of the other partitions' state. -/

namespace Sys2Proof.Machine

open Sys2Proof

/-! ### The tick's hidden state -/

/-- Of a tick's hidden state only what HOLD and PARKED keep may have changed: targets, floods, and the records of parked devices. -/
def TickSt.sameButHold (a b : TickSt) : Prop :=
  ∃ (targets : List Nat) (seen : List (Nat × Nat × Nat × Nat)) (sent : Bool) (parked : List ParkedRec) (kReqs : Table Nat),
    b = { a with targets := targets, seen := seen, parkedSent := sent, parked := parked, kReqs := kReqs }

theorem sameButHold_trans {a b c : TickSt} (h : TickSt.sameButHold a b) (k : TickSt.sameButHold b c) : TickSt.sameButHold a c := by
  obtain ⟨_, _, _, _, _, rfl⟩ := h
  obtain ⟨_, _, _, _, _, rfl⟩ := k
  exact ⟨_, _, _, _, _, rfl⟩

theorem sendParked_tick (d : Dev) : TickSt.sameButHold d.tick d.sendParked.tick := by
  unfold Dev.sendParked
  dsimp only
  split
  · exact ⟨_, _, _, _, _, rfl⟩
  · split
    · split
      · rw [sendTick_tick]
        exact ⟨_, _, _, _, _, rfl⟩
      · exact ⟨_, _, _, _, _, rfl⟩
    · exact ⟨_, _, _, _, _, rfl⟩

theorem addTarget_tick (d : Dev) (t : Nat) : TickSt.sameButHold d.tick (d.addTarget t).tick := by
  rw [addTarget_eq]
  split <;> exact ⟨_, _, _, _, _, rfl⟩

theorem flood_tick (d : Dev) (kind cause k tick : Nat) : TickSt.sameButHold d.tick (d.flood kind cause k tick).tick := by
  unfold Dev.flood
  split
  · exact ⟨_, _, _, _, _, rfl⟩
  · dsimp only
    rw [sendTick_tick]
    exact ⟨_, _, _, _, _, rfl⟩

theorem sendHold_tick (d : Dev) (c : Nat) : TickSt.sameButHold d.tick (d.sendHold c).tick := by
  unfold Dev.sendHold
  dsimp only
  split
  · exact addTarget_tick d _
  · exact sameButHold_trans (flood_tick d _ _ _ _) (addTarget_tick _ _)

theorem assertHold_tick (d : Dev) (c : Nat) : TickSt.sameButHold d.tick (d.assertHold c).tick := by
  unfold Dev.assertHold
  split
  · exact ⟨_, _, _, _, _, rfl⟩
  · dsimp only
    split
    · exact sendHold_tick (d.setCause c) c
    · split
      · exact sendParked_tick (d.setCause c)
      · exact ⟨_, _, _, _, _, rfl⟩

theorem dropCause_tick (d : Dev) (c : Nat) : (d.dropCause c).tick = d.tick := by
  unfold Dev.dropCause
  split <;> rfl

theorem clearHold_tick (d : Dev) (c : Nat) : TickSt.sameButHold d.tick (d.clearHold c).tick := by
  have hdrop := dropCause_tick d c
  unfold Dev.clearHold
  split
  · exact ⟨_, _, _, _, _, rfl⟩
  · dsimp only
    rw [← hdrop]
    split
    · split <;> exact ⟨_, _, _, _, _, rfl⟩
    · split
      · exact sendParked_tick _
      · exact ⟨_, _, _, _, _, rfl⟩

/-! ### Roles and states by the fields they read -/

/-- The device with another tick state. -/
def Dev.withTick (d : Dev) (k : TickSt) : Dev := { d with tick := k }

theorem withTick_core (d : Dev) (k : TickSt) : Dev.sameCore d (d.withTick k) := ⟨rfl, rfl, rfl, rfl⟩

/-- Several writes change the fields they name. -/
theorem onlyRegs_puts_of {l : List (Fld × Nat)} {fs : List Fld} (hl : l.map Prod.fst = fs) (d : Dev) : Dev.onlyRegs fs d (d.puts l) :=
  hl ▸ onlyRegs_puts d l

/-- Among writes of different fields each field reads as written. -/
theorem get_puts_mem {l : List (Fld × Nat)} {fs : List Fld} (hl : l.map Prod.fst = fs) (hn : (fs.map Fld.key).Nodup) {f : Fld} {v : Nat}
    (hm : (f, v) ∈ l) (d : Dev) : (d.puts l).get f = v % 2 ^ f.w := by
  subst hl
  induction l generalizing d with
  | nil => cases hm
  | cons x r ih =>
    obtain ⟨hx, hr⟩ := List.nodup_cons.mp hn
    rcases List.mem_cons.mp hm with rfl | hm
    · rw [puts_cons, get_puts_ne r f _ ?_, get_put_same]
      intro y hy he
      exact hx (List.mem_map.mpr ⟨y.1, List.mem_map_of_mem hy, he.symm⟩)
    · exact ih hm (d.put x.1 x.2) hr

theorem ticking_of_get {a b : Dev} (h : b.get F.TCK_STATUS_STATE = a.get F.TCK_STATUS_STATE) : b.ticking = a.ticking := by
  unfold Dev.ticking Dev.tickState
  rw [h]

/-- A field that reads the same stays on or off. -/
theorem on_of_get {a b : Dev} {f : Fld} (h : b.get f = a.get f) : b.on f = a.on f := congrArg (· == 1) h

/-! ### Partitions -/

/-- A partition reads what was written to it; every other partition reads as before. -/
theorem part_setPart (d : Dev) (p q : Nat) (x : PartSt) : (d.setPart p x).part q = if q = p then x else d.part q :=
  table_get_set (fun _ => PartSt.reset) d.parts p q x

/-- Writing some partitions one after another changes the partitions only. -/
theorem foldl_setPart_parts (f : Dev → Nat → PartSt) (l : List Nat) :
    ∀ d : Dev, ∃ ps : Table PartSt, l.foldl (fun d p => d.setPart p (f d p)) d = { d with parts := ps } := by
  induction l with
  | nil => exact fun d => ⟨d.parts, rfl⟩
  | cons p r ih =>
    intro d
    obtain ⟨ps, h⟩ := ih (d.setPart p (f d p))
    exact ⟨ps, h⟩

/-- Of the partitions written so, no one waits before a step afterwards. -/
theorem foldl_noWait (l : List Nat) : ∀ (d : Dev) (p : Nat), p ∈ l ∨ (d.part p).stepWait = none →
    ((l.foldl (fun d p => d.setPart p { d.part p with stepWait := none }) d).part p).stepWait = none := by
  induction l with
  | nil => exact fun d p h => h.resolve_left (by simp)
  | cons q r ih =>
    intro d p h
    refine ih _ p ?_
    rw [part_setPart]
    split
    · exact .inr rfl
    · exact h.imp_left fun hmem => (List.mem_cons.mp hmem).resolve_left ‹_›

end Sys2Proof.Machine
end

section
/-! PROOF. The proofs of O8 (ENABLE and DISABLE) and O57 (the state at reset). -/

namespace Sys2Proof.Machine

open Sys2Proof

/-! ### The state at reset (R57, R370, R381, R382) -/

theorem reset_registers :
    State.reset.dev.get F.PWR_BOOT_STATE = dsInit ∧ State.reset.dev.get F.PWR_BOOT_STAGE = 1 ∧
      State.reset.dev.get F.TCK_STATUS_STATE = tsOff ∧ State.reset.dev.get F.TGD_CTRL_UNLOCKED = 0 := by decide +kernel

/-- Settles O57: the vault as shipped, the register fields' reset values, and memories that list nothing. -/
theorem resetLeavesSentryAsShipped : Obligations.ResetLeavesSentryAsShipped := by
  obtain ⟨hboot, hstage, hoff, hlocked⟩ := reset_registers
  have hvault : State.reset.vault.sound := ⟨rfl, by decide, rfl⟩
  exact ⟨rfl, hvault, rfl, rfl, rfl, hboot, hstage, hoff, hlocked, rfl, reset_mem_wf, by decide⟩

/-! ### Enabling (R57, R58) -/

/-- The fields of a tick that begins. -/
def tickBeginFields : List Fld :=
  [F.TCK_CTRL_ENABLE, F.TCK_HOLD_LOG_DISCARDS, F.TCK_TN_TN, F.TCK_EPOCH_E, F.TCK_STATUS_STATE]

/-- What a device writes as a tick begins: PARKED on a solo device, else LOCKING. -/
def Dev.tickBeginWrites (d : Dev) : List (Fld × Nat) :=
  [(F.TCK_CTRL_ENABLE, 1), (F.TCK_HOLD_LOG_DISCARDS, 0), (F.TCK_TN_TN, 0), (F.TCK_EPOCH_E, 0),
    (F.TCK_STATUS_STATE, if d.solo then tsParked else tsLocking)]

/-- The device from OFF with ENABLE set, before a tree is in force: a fresh tick. -/
def Dev.tickBegins (d : Dev) : Dev :=
  (d.withTick { TickSt.reset with storedDue := d.tick.storedDue }).puts d.tickBeginWrites

theorem tickOn_off (d : Dev) (tree : Tree) (hen : d.on F.TCK_CTRL_ENABLE = false) (hoff : d.tickState = tsOff) :
    d.tickOn tree = (d.tickBegins.takeTree tree).soloLeave := by
  have hframe := onlyRegs_puts d [(F.TCK_CTRL_ENABLE, 1), (F.TCK_HOLD_LOG_DISCARDS, 0)]
  have hstate : (d.puts [(F.TCK_CTRL_ENABLE, 1), (F.TCK_HOLD_LOG_DISCARDS, 0)]).tickState = tsOff :=
    (hframe.1 F.TCK_STATUS_STATE (by decide)).trans hoff
  have hrole : (d.puts [(F.TCK_CTRL_ENABLE, 1), (F.TCK_HOLD_LOG_DISCARDS, 0)]).solo = d.solo :=
    congrArg (· == 0) (hframe.1 F.TCK_CTRL_ROLE (by decide))
  unfold Dev.tickOn Dev.tickBegins Dev.tickBeginWrites
  rw [if_neg (by simp [hen])]
  dsimp only
  rw [if_neg (by simp [hstate]), hrole]
  rfl

theorem tickBegins_effect (d : Dev) :
    Dev.onlyRegs tickBeginFields d d.tickBegins ∧
      d.tickBegins.get F.TCK_CTRL_ENABLE = 1 ∧ d.tickBegins.get F.TCK_HOLD_LOG_DISCARDS = 0 ∧ d.tickBegins.get F.TCK_TN_TN = 0 ∧
      d.tickBegins.get F.TCK_EPOCH_E = 0 ∧ d.tickBegins.tickState = (if d.solo then tsParked else tsLocking) ∧
      d.tickBegins.tick = { TickSt.reset with storedDue := d.tick.storedDue } := by
  have hget : ∀ f v, (f, v) ∈ d.tickBeginWrites → d.tickBegins.get f = v % 2 ^ f.w := fun f v hm =>
    get_puts_mem (fs := tickBeginFields) rfl (by decide) hm _
  refine ⟨onlyRegs_trans (onlyRegs_core _ (withTick_core d _)) (onlyRegs_puts_of (l := d.tickBeginWrites) rfl _),
    hget _ 1 (by simp [Dev.tickBeginWrites]), hget _ 0 (by simp [Dev.tickBeginWrites]), hget _ 0 (by simp [Dev.tickBeginWrites]),
    hget _ 0 (by simp [Dev.tickBeginWrites]), (hget _ _ (List.mem_of_getLast? rfl)).trans ?_, rfl⟩
  split <;> rfl

/-- The fields of a device's place in its tree. -/
def treeFields : List Fld := [F.TCK_STATUS_DEPTH, F.TCK_REACH_DEPTH_MAX, F.TCK_REACH_DIAM, F.TCK_REACH_REACH]

/-- A device that is not the master takes a tree: its depth, and no event. -/
theorem takeTree_effect (d : Dev) (tree : Tree) (h : d.master = false) :
    Dev.onlyRegs treeFields d (d.takeTree tree) ∧ (d.takeTree tree).tick = { d.tick with tree := tree } := by
  have hplace : d.takeTree tree = (d.withTick { d.tick with tree := tree }).puts [(F.TCK_STATUS_DEPTH, if d.member then tree.depth else 0),
      (F.TCK_REACH_DEPTH_MAX, 0), (F.TCK_REACH_DIAM, 0), (F.TCK_REACH_REACH, 0)] :=
    if_neg (ne_true_of_eq_false h)
  rw [hplace]
  exact ⟨onlyRegs_trans (onlyRegs_core _ (withTick_core d _)) (onlyRegs_puts_of (by rfl) _), puts_tick _ _⟩

/-- A solo device without a cause goes on from PARKED; every other device stays where it is. -/
theorem soloLeave_state (d : Dev) :
    d.soloLeave.tickState = (if d.solo && d.tickState == tsParked && d.get F.TCK_STATUS_CAUSES == 0 then tsResuming else d.tickState) := by
  unfold Dev.soloLeave
  split
  · exact get_put_same _ _ _
  · rfl

theorem soloLeave_tick (d : Dev) : d.soloLeave.tick = d.tick := by
  unfold Dev.soloLeave
  split <;> rfl

/-- From OFF, TICK_ENABLE leaves a device in a fresh tick with the tree in force. -/
theorem tickOn_effect (d : Dev) (tree : Tree) (hen : d.on F.TCK_CTRL_ENABLE = false) (hoff : d.tickState = tsOff) (hrole : d.master = false) :
    let e := d.tickOn tree
    e.get F.TCK_CTRL_ENABLE = 1 ∧ e.get F.TCK_HOLD_LOG_DISCARDS = 0 ∧ e.get F.TCK_TN_TN = 0 ∧ e.get F.TCK_EPOCH_E = 0 ∧
      e.tick = { TickSt.reset with storedDue := d.tick.storedDue, tree := tree } ∧
      e.tickState = (if d.solo then (if d.get F.TCK_STATUS_CAUSES = 0 then tsResuming else tsParked) else tsLocking) ∧
      Dev.onlyRegs (tickBeginFields ++ treeFields) d e := by
  obtain ⟨hframe, henable, hdiscards, htn, hepoch, hstate, htick⟩ := tickBegins_effect d
  have hmaster : d.tickBegins.master = false := (congrArg (· == 2) (hframe.1 F.TCK_CTRL_ROLE (by decide))).trans hrole
  obtain ⟨htree, htaken⟩ := takeTree_effect d.tickBegins tree hmaster
  have hleave := soloLeave_frame (d.tickBegins.takeTree tree)
  have hsolo : (d.tickBegins.takeTree tree).solo = d.solo :=
    congrArg (· == 0) ((htree.1 F.TCK_CTRL_ROLE (by decide)).trans (hframe.1 _ (by decide)))
  have hcauses : (d.tickBegins.takeTree tree).get F.TCK_STATUS_CAUSES = d.get F.TCK_STATUS_CAUSES :=
    (htree.1 _ (by decide)).trans (hframe.1 _ (by decide))
  have hsame : (d.tickBegins.takeTree tree).tickState = d.tickBegins.tickState := htree.1 F.TCK_STATUS_STATE (by decide)
  rw [tickOn_off d tree hen hoff]
  intro e
  refine ⟨(hleave.1 _ (by decide)).trans ((htree.1 _ (by decide)).trans henable), (hleave.1 _ (by decide)).trans ((htree.1 _ (by decide)).trans hdiscards),
    (hleave.1 _ (by decide)).trans ((htree.1 _ (by decide)).trans htn), (hleave.1 _ (by decide)).trans ((htree.1 _ (by decide)).trans hepoch),
    (soloLeave_tick _).trans (by rw [htaken, htick]), ?_, onlyRegs_trans (onlyRegs_mono hframe (by decide))
      (onlyRegs_trans (onlyRegs_mono htree (by decide)) (onlyRegs_mono hleave (by decide)))⟩
  rw [soloLeave_state, hsolo, hcauses, hsame, hstate]
  cases d.solo <;> simp

theorem tick_enable (s : State) (tree : Tree) (hs : s.powered) (hen : s.dev.on F.TCK_CTRL_ENABLE = false) (hoff : s.dev.tickState = tsOff)
    (hrole : s.dev.master = false) :
    Answers (.tickEnable tree) s fun t =>
      t.dev.get F.TCK_CTRL_ENABLE = 1 ∧ t.dev.get F.TCK_HOLD_LOG_DISCARDS = 0 ∧ t.dev.get F.TCK_TN_TN = 0 ∧ t.dev.get F.TCK_EPOCH_E = 0 ∧
        t.dev.tick.tree = tree ∧
        t.dev.tickState =
          (if s.dev.solo then (if s.dev.get F.TCK_STATUS_CAUSES = 0 then tsResuming else tsParked) else tsLocking) ∧
        State.onlyFields [F.TCK_CTRL_ENABLE, F.TCK_HOLD_LOG_DISCARDS, F.TCK_TN_TN, F.TCK_EPOCH_E, F.TCK_STATUS_STATE, F.TCK_STATUS_DEPTH,
          F.TCK_REACH_DEPTH_MAX, F.TCK_REACH_DIAM, F.TCK_REACH_REACH] s t := by
  obtain ⟨henable, hdiscards, htn, hepoch, htick, hstate, hframe⟩ := tickOn_effect s.dev tree hen hoff hrole
  exact ⟨_, onDev_powered (fun d => d.tickOn tree) s hs, henable, hdiscards, htn, hepoch, congrArg TickSt.tree htick, hstate,
    onlyFields_of_dev hframe⟩

/-! ### A stored enable (R57) -/

/-- A stored enable of 1 acts as TICK_ENABLE, once. -/
theorem stored_enable (s : State) (tree : Tree) (hs : s.powered) (hen : s.dev.on F.TCK_CTRL_ENABLE = false) (hoff : s.dev.tickState = tsOff)
    (hsolo : s.dev.solo = false) (hrole : s.dev.master = false) (hready : s.dev.ready = true) (hdue : s.dev.tick.storedDue = true)
    (hstored : leNat (s.flash.configured 0x210008) = 1) (hup : s.dev.maskUp = true) :
    Answers (.storedEnable tree) s fun t =>
      t.dev.get F.TCK_CTRL_ENABLE = 1 ∧ t.dev.tickState = tsLocking ∧ t.dev.tick.storedDue = false ∧ t.flash = s.flash := by
  have hon : s.dev.storedEnable s.flash tree = (s.dev.withTick { s.dev.tick with storedDue := false }).tickOn tree := by
    unfold Dev.storedEnable
    dsimp only
    rw [if_pos (by simp [hdue, hoff, hready, hstored, hup])]
    rfl
  obtain ⟨henable, -, -, -, htick, hstate, -⟩ :=
    tickOn_effect (s.dev.withTick { s.dev.tick with storedDue := false }) tree hen hoff hrole
  rw [← hon] at henable htick hstate
  exact ⟨_, onDevFlash_powered (fun _ fl d => (fl, d.storedEnable fl tree)) s hs, henable,
    hstate.trans (if_neg (ne_true_of_eq_false hsolo)), congrArg TickSt.storedDue htick, rfl⟩

theorem stored_enable_spent (s : State) (tree : Tree) (hs : s.powered) (hdue : s.dev.tick.storedDue = false) :
    Answers (.storedEnable tree) s fun t => t = s := by
  have hoff : s.dev.storedEnable s.flash tree = s.dev := by
    unfold Dev.storedEnable
    simp [hdue]
  refine ⟨_, onDevFlash_powered (fun _ fl d => (fl, d.storedEnable fl tree)) s hs, ?_⟩
  rw [hoff]

/-! ### Clearing ENABLE (R58) -/

/-- The device with no partition that waits before a step. -/
def Dev.unwaited (d : Dev) : Dev := (List.range 8).foldl (fun d p => d.setPart p { d.part p with stepWait := none }) d

theorem unwaited_effect (d : Dev) :
    Dev.sameCore d d.unwaited ∧ ∀ p : Nat, p < 8 → (d.unwaited.part p).stepWait = none := by
  obtain ⟨ps, h⟩ := foldl_setPart_parts (fun d p => { d.part p with stepWait := none }) (List.range 8) d
  refine ⟨?_, fun p hp => foldl_noWait (List.range 8) d p (.inl (List.mem_range.mpr hp))⟩
  rw [show d.unwaited = _ from h]
  exact ⟨rfl, rfl, rfl, rfl⟩

theorem tickOff_eq (d : Dev) :
    d.tickOff = ((d.unwaited.dropCause hcStep).put F.TCK_STATUS_STATE tsOff).withTick { TickSt.reset with
      storedDue := (d.unwaited.dropCause hcStep).tick.storedDue, tree := (d.unwaited.dropCause hcStep).tick.tree } := rfl

theorem dropCause_causes_only (d : Dev) (c : Nat) : Dev.onlyRegs [F.TCK_STATUS_CAUSES] d (d.dropCause c) ∧ (d.dropCause c).parts = d.parts := by
  unfold Dev.dropCause
  split
  · exact ⟨onlyRegs_put _ _ _ _ (by decide), rfl⟩
  · exact ⟨onlyRegs_refl _ d, rfl⟩

/-- A device that goes to OFF drops STEP, and no partition waits before a step. -/
theorem tickOff_effect (d : Dev) :
    d.tickOff.tickState = tsOff ∧ d.tickOff.held hcStep = false ∧ (∀ p : Nat, p < 8 → (d.tickOff.part p).stepWait = none) ∧
      Dev.onlyRegs [F.TCK_STATUS_CAUSES, F.TCK_STATUS_STATE] d d.tickOff := by
  obtain ⟨hcore, hwait⟩ := unwaited_effect d
  obtain ⟨hdrop, hparts⟩ := dropCause_causes_only d.unwaited hcStep
  have hheld : (d.unwaited.dropCause hcStep).held hcStep = false := by rw [dropCause_held _ _ (by decide)]; simp
  have hcauses := get_put_ne (d.unwaited.dropCause hcStep) F.TCK_STATUS_STATE F.TCK_STATUS_CAUSES tsOff (by decide)
  rw [tickOff_eq]
  refine ⟨(sameCore_get (withTick_core _ _) F.TCK_STATUS_STATE).trans (get_put_same _ _ _),
    (congrArg (bit · hcStep) hcauses).trans hheld, fun p hp => ?_, ?_⟩
  · exact (congrArg (fun ps => (Table.get (fun _ => PartSt.reset) ps p).stepWait) hparts).trans (hwait p hp)
  · exact onlyRegs_trans (onlyRegs_core _ hcore) (onlyRegs_trans (onlyRegs_mono hdrop (by decide))
      (onlyRegs_trans (onlyRegs_put _ _ _ tsOff (by decide)) (onlyRegs_core _ (withTick_core _ _))))

/-- The device with ENABLE clear. -/
def Dev.disabled (d : Dev) : Dev := d.put F.TCK_CTRL_ENABLE 0

theorem tickClear_eq (d : Dev) :
    d.tickClear = if d.tickState = tsLocking ∨ d.tickState = tsParked then d.disabled.tickOff else d.disabled := by
  have hstate : d.disabled.tickState = d.tickState := get_put_ne d F.TCK_CTRL_ENABLE F.TCK_STATUS_STATE 0 (by decide)
  unfold Dev.tickClear
  dsimp only
  rw [show d.put F.TCK_CTRL_ENABLE 0 = d.disabled from rfl, hstate]
  simp

theorem tick_disable_still (s : State) (hs : s.powered) (h : s.dev.tickState = tsLocking ∨ s.dev.tickState = tsParked) :
    Answers .tickDisable s fun t =>
      t.dev.get F.TCK_CTRL_ENABLE = 0 ∧ t.dev.tickState = tsOff ∧ t.dev.held hcStep = false ∧
        (∀ p : Nat, p < 8 → (t.dev.part p).stepWait = none) ∧
        State.onlyFields [F.TCK_CTRL_ENABLE, F.TCK_STATUS_CAUSES, F.TCK_STATUS_STATE] s t := by
  obtain ⟨hoff, hstep, hwait, hframe⟩ := tickOff_effect s.dev.disabled
  have hexec := onDev_powered Dev.tickClear s hs
  rw [tickClear_eq, if_pos h] at hexec
  refine ⟨_, hexec, (hframe.1 _ (by decide)).trans (get_put_same _ _ _), hoff, hstep, hwait, onlyFields_of_dev ?_⟩
  exact onlyRegs_trans (onlyRegs_put _ _ _ 0 (by decide)) (onlyRegs_mono hframe (by decide))

theorem tick_disable_running (s : State) (hs : s.powered) (h : s.dev.tickState = tsRunning ∨ s.dev.tickState = tsHolding) :
    Answers .tickDisable s fun t =>
      t.dev.get F.TCK_CTRL_ENABLE = 0 ∧ t.dev.tickState = s.dev.tickState ∧ State.onlyFields [F.TCK_CTRL_ENABLE] s t := by
  have hnot : ¬ (s.dev.tickState = tsLocking ∨ s.dev.tickState = tsParked) := by
    rcases h with h | h <;> rw [h] <;> decide
  have hexec := onDev_powered Dev.tickClear s hs
  rw [tickClear_eq, if_neg hnot] at hexec
  exact ⟨_, hexec, get_put_same _ _ _, get_put_ne _ _ F.TCK_STATUS_STATE _ (by decide), onlyFields_of_dev (onlyRegs_put _ _ _ 0 (by decide))⟩

/-- Settles O8: TICK_ENABLE from OFF, the stored enable, and TICK_DISABLE from the states it leaves at once and from those it does not. -/
theorem tickEnableAndDisable : Obligations.TickEnableAndDisable :=
  ⟨tick_enable, stored_enable, stored_enable_spent, tick_disable_still, tick_disable_running⟩

end Sys2Proof.Machine
end

section
/-! PROOF. The proof of O11 (EPOCH and its watch, link delay, messages that are not valid). -/

namespace Sys2Proof.Machine

open Sys2Proof

/-! ### HOLD causes that clear, and a member that locks (R39, R41) -/

theorem clearHold_causes (d : Dev) (c : Nat) : (d.clearHold c).get F.TCK_STATUS_CAUSES = (d.dropCause c).get F.TCK_STATUS_CAUSES := by
  unfold Dev.clearHold
  split
  · rename_i h
    rw [Dev.dropCause, if_neg (by simpa using h)]
  · dsimp only
    split
    · split
      · exact get_put_ne _ _ _ _ (by decide)
      · rfl
    · split
      · exact sendParked_causes _
      · rfl

/-- A cause that clears is not held afterwards. -/
theorem clearHold_held (d : Dev) {c : Nat} (hc : c < 16) : (d.clearHold c).held c = false := by
  have hdrop : (d.dropCause c).held c = false := by rw [dropCause_held _ _ hc]; simp
  exact (congrArg (bit · c) (clearHold_causes d c)).trans hdrop

/-- Locking writes the fields of PARKED and the largest error; it moves no cause and no watch. -/
theorem tryLock_effect (d : Dev) :
    Dev.onlyRegs (F.TCK_PHASE_MAX_ERR :: holdFields) d d.tryLock ∧ d.tryLock.get F.TCK_STATUS_CAUSES = d.get F.TCK_STATUS_CAUSES ∧
      TickSt.sameButHold d.tick d.tryLock.tick := by
  unfold Dev.tryLock
  dsimp only
  split
  · have hlock := onlyRegs_puts_of (fs := [F.TCK_STATUS_STATE, F.TCK_PHASE_MAX_ERR]) (l := [(F.TCK_STATUS_STATE, tsParked),
      (F.TCK_PHASE_MAX_ERR, (sext 32 (d.get F.TCK_PHASE_ERR)).natAbs)]) rfl d
    refine ⟨onlyRegs_trans (onlyRegs_mono hlock (by decide)) (onlyRegs_mono (sendParked_frame _) (by decide)),
      (sendParked_causes _).trans (hlock.1 _ (by decide)), ?_⟩
    simpa using sendParked_tick (d.puts _)
  · exact ⟨onlyRegs_refl _ d, rfl, ⟨_, _, _, _, _, rfl⟩⟩

/-! ### EPOCH (R37, R39) -/

theorem twos_lt (n : Nat) (x : Int) : twos n x < 2 ^ n := by
  have hpos : (0 : Int) < (2 ^ n : Nat) := by exact_mod_cast Nat.two_pow_pos n
  unfold twos
  have hlt := Int.emod_lt_of_pos x hpos
  omega

/-- The fields that an EPOCH writes. -/
def epochFields : List Fld := [F.TCK_EPOCH_E, F.TCK_PHASE_ERR, F.TCK_PHASE_MAX_ERR]

/-- What a member writes at an EPOCH: the epoch, the phase error, the largest error. -/
def Dev.epochWrites (d : Dev) (m : TMsg) (err : Int) : List (Fld × Nat) :=
  [(F.TCK_EPOCH_E, m.tick), (F.TCK_PHASE_ERR, twos 32 err),
    (F.TCK_PHASE_MAX_ERR, max (d.get F.TCK_PHASE_MAX_ERR) (satTo (2 ^ 32 - 1) err.natAbs))]

/-- The device that has taken an EPOCH over and not yet passed it on. -/
def Dev.epochNoted (d : Dev) (m : TMsg) (err : Int) : Dev :=
  (d.draw.2.puts (d.epochWrites m err)).withTick { d.tick with sinceEpoch := 0, watching := true, acting := some m.origin }

theorem followEpoch_eq (d : Dev) (m : TMsg) (err : Int) :
    d.followEpoch m err =
      (((d.epochNoted m err).sendTick (d.epochNoted m err).childPorts
        ({ m with aux := Config.freeNat d.fresh % 2 ^ 16 } : TMsg).word).clearHold hcMasterLost).tryLock := by
  rfl

theorem epochNoted_effect (d : Dev) (m : TMsg) (err : Int) :
    Dev.onlyRegs epochFields d (d.epochNoted m err) ∧ (d.epochNoted m err).get F.TCK_EPOCH_E = m.tick % 2 ^ 64 ∧
      (d.epochNoted m err).get F.TCK_PHASE_ERR = twos 32 err := by
  have hget : ∀ f v, (f, v) ∈ d.epochWrites m err → (d.epochNoted m err).get f = v % 2 ^ f.w := fun f v hm =>
    get_puts_mem (fs := epochFields) rfl (by decide) hm d.draw.2
  have hframe : Dev.onlyRegs epochFields d.draw.2 (d.draw.2.puts (d.epochWrites m err)) := onlyRegs_puts_of (by rfl) _
  refine ⟨onlyRegs_trans (b := d.draw.2) (onlyRegs_core _ ⟨rfl, rfl, rfl, rfl⟩) (onlyRegs_trans hframe (onlyRegs_core _ (withTick_core _ _))),
    hget _ _ (by simp [Dev.epochWrites]), ?_⟩
  exact (hget _ (twos 32 err) (by simp [Dev.epochWrites])).trans (Nat.mod_eq_of_lt (twos_lt 32 err))

/-- A member that follows an EPOCH: the epoch and the error, the watch anew, MASTER_LOST clear. -/
theorem followEpoch_effect (d : Dev) (m : TMsg) (err : Int) (hm : m.tick < 2 ^ 64) :
    let e := d.followEpoch m err
    e.get F.TCK_EPOCH_E = m.tick ∧ e.get F.TCK_PHASE_ERR = twos 32 err ∧ e.tick.sinceEpoch = 0 ∧ e.tick.watching = true ∧
      e.held hcMasterLost = false ∧ Dev.onlyRegs (epochFields ++ holdFields) d e := by
  obtain ⟨hframe, hepoch, herr⟩ := epochNoted_effect d m err
  rw [followEpoch_eq]
  have hsent := sendTick_core ({ m with aux := Config.freeNat d.fresh % 2 ^ 16 } : TMsg).word (d.epochNoted m err).childPorts (d.epochNoted m err)
  have hstick := sendTick_tick ({ m with aux := Config.freeNat d.fresh % 2 ^ 16 } : TMsg).word (d.epochNoted m err).childPorts (d.epochNoted m err)
  generalize (d.epochNoted m err).sendTick _ _ = a at *
  have hclear := clearHold_frame a hcMasterLost
  obtain ⟨hlock, hcauses, hltick⟩ := tryLock_effect (a.clearHold hcMasterLost)
  have hget : ∀ f ∈ [F.TCK_EPOCH_E, F.TCK_PHASE_ERR], (a.clearHold hcMasterLost).tryLock.get f = (d.epochNoted m err).get f := by
    intro f hf
    have hne : ∀ f ∈ [F.TCK_EPOCH_E, F.TCK_PHASE_ERR], ∀ g ∈ F.TCK_PHASE_MAX_ERR :: holdFields, f.key ≠ g.key := by decide
    rw [hlock.1 f (hne f hf), hclear.1 f fun g hg => hne f hf g (List.mem_cons_of_mem _ hg), sameCore_get hsent]
  obtain ⟨_, _, _, _, _, htick⟩ := sameButHold_trans (clearHold_tick a hcMasterLost) hltick
  intro e
  refine ⟨(hget _ (by simp)).trans (hepoch.trans (Nat.mod_eq_of_lt hm)), (hget _ (by simp)).trans herr, ?_, ?_,
    (congrArg (bit · hcMasterLost) hcauses).trans (clearHold_held a (by decide)), ?_⟩
  · exact (congrArg TickSt.sinceEpoch htick).trans (congrArg TickSt.sinceEpoch hstick)
  · exact (congrArg TickSt.watching htick).trans (congrArg TickSt.watching hstick)
  · exact onlyRegs_trans (onlyRegs_mono hframe (by decide)) (onlyRegs_trans (onlyRegs_core _ hsent)
      (onlyRegs_trans (onlyRegs_mono hclear (by decide)) (onlyRegs_mono hlock (by decide))))

theorem epoch_followed (s : State) (p : Fin 12) (w : TickWord) (err : Int) (hs : s.powered) (h : s.dev.takesTick p w tkEpoch)
    (hmember : s.dev.member = true) (hparent : s.dev.tick.tree.parent = some p) :
    Answers (.epoch p w err) s fun t =>
      t.dev.get F.TCK_EPOCH_E = (tmsgOf w.toNat).tick ∧ t.dev.get F.TCK_PHASE_ERR = twos 32 err ∧ t.dev.tick.sinceEpoch = 0 ∧
        t.dev.tick.watching = true ∧ t.dev.held hcMasterLost = false ∧ State.onlyFields ([F.TCK_EPOCH_E, F.TCK_PHASE_ERR,
          F.TCK_PHASE_MAX_ERR] ++ holdFields) s t := by
  have hexec := onDev_powered (Dev.onTick p w.toNat tkEpoch fun m d =>
    if d.member ∧ d.tick.tree.parent = some p then d.followEpoch m err else d) s hs
  rw [onTick_taken h, if_pos ⟨hmember, hparent⟩] at hexec
  obtain ⟨hepoch, herr, hsince, hwatch, hheld, hframe⟩ := followEpoch_effect s.dev (tmsgOf w.toNat) err (Nat.mod_lt _ (by decide))
  exact ⟨_, hexec, hepoch, herr, hsince, hwatch, hheld, onlyFields_of_dev hframe⟩

/-! ### The watch (R41) -/

/-- The watch runs out: MASTER_LOST, and the successor succeeds. -/
theorem watchExpiry_out (d : Dev) (tree : Tree) (hmember : d.member = true) (hon : d.tickState ≠ tsOff) (hwatch : d.tick.watching = true)
    (hsince : 64 ≤ d.tick.sinceEpoch) (hheld : d.held hcMasterLost = false) :
    d.watchExpiry tree = if d.inForceNat 0x210004 = d.rank ∧ d.on F.GTE_ID_RANKED = true then (d.assertHold hcMasterLost).succeed tree
      else d.assertHold hcMasterLost := by
  have hforce : (d.assertHold hcMasterLost).inForceNat 0x210004 = d.inForceNat 0x210004 := by
    obtain ⟨_, _, _, h⟩ := assertHold_sameButTick d hcMasterLost
    rw [h]
    rfl
  have hrank : (d.assertHold hcMasterLost).rank = d.rank := (assertHold_frame d _).1 F.GTE_ID_RANK (by decide)
  have hranked : (d.assertHold hcMasterLost).on F.GTE_ID_RANKED = d.on F.GTE_ID_RANKED :=
    on_of_get ((assertHold_frame d _).1 F.GTE_ID_RANKED (by decide))
  unfold Dev.watchExpiry
  rw [if_pos (by simp [hmember, hon, hwatch, hsince, hheld])]
  dsimp only
  rw [hforce, hrank, hranked]
  simp

theorem watch_expiry (s : State) (tree : Tree) (hs : s.powered) (hmember : s.dev.member = true) (hon : s.dev.tickState ≠ tsOff)
    (hwatch : s.dev.tick.watching = true) (hsince : 64 ≤ s.dev.tick.sinceEpoch) (hheld : s.dev.held hcMasterLost = false)
    (hother : s.dev.inForceNat 0x210004 ≠ s.dev.rank) :
    Answers (.epochWatchExpiry tree) s fun t => t.dev.held hcMasterLost = true ∧ t.dev.member = true ∧ State.onlyFields holdFields s t := by
  have hexec := onDev_powered (fun d => d.watchExpiry tree) s hs
  rw [watchExpiry_out s.dev tree hmember hon hwatch hsince hheld, if_neg fun h => hother h.1] at hexec
  have hframe := assertHold_frame s.dev hcMasterLost
  exact ⟨_, hexec, assertHold_held _ _ (by decide), (congrArg (· == 1) (hframe.1 F.TCK_CTRL_ROLE (by decide))).trans hmember,
    onlyFields_of_dev hframe⟩

/-- Some events leave a field that no event writes. -/
theorem foldl_raise_get {f : Fld} (h : f.awayFromEvents) (cls status source : Nat) (l : List Nat) :
    ∀ d : Dev, (l.foldl (fun d r => d.raise cls status source [r]) d).get f = d.get f := by
  induction l with
  | nil => exact fun _ => rfl
  | cons r l ih => exact fun d => (ih _).trans (raise_get d cls status source [r] h)

/-- Taking a tree, with or without events, writes the device's place in it. -/
theorem takeTree_get (d : Dev) (tree : Tree) {f : Fld} (h : f.awayFromEvents) (hf : ∀ g ∈ treeFields, f.key ≠ g.key) :
    (d.takeTree tree).get f = d.get f := by
  unfold Dev.takeTree
  dsimp only
  split
  · rw [foldl_raise_get h]
    exact (onlyRegs_puts_of (fs := treeFields) (by rfl) (d.withTick { d.tick with tree := tree })).1 f hf
  · exact (onlyRegs_puts_of (fs := treeFields) (by rfl) (d.withTick { d.tick with tree := tree })).1 f hf

/-- The device that has taken the master role and not yet a tree. -/
def Dev.succeeding (d : Dev) : Dev :=
  (d.puts [(F.TCK_CTRL_ROLE, 2), (F.TCK_CTRL_MASTER_RANK, d.rank)]).withTick { d.tick with
    watching := false, sinceEpoch := 0, acting := none, parked := [], members := [], kReqs := [], belowFor := 0 }

theorem succeed_eq (d : Dev) (tree : Tree) :
    d.succeed tree = if (d.succeeding.takeTree tree).tickState = tsParked then (d.succeeding.takeTree tree).sendParked
      else d.succeeding.takeTree tree := rfl

/-- The successor is master of its own rank, and what it held it holds. -/
theorem succeed_effect (d : Dev) (tree : Tree) :
    (d.succeed tree).master = true ∧ (d.succeed tree).get F.TCK_CTRL_MASTER_RANK = d.rank ∧
      (d.succeed tree).get F.TCK_STATUS_CAUSES = d.get F.TCK_STATUS_CAUSES := by
  have hsent : ∀ f ∈ [F.TCK_CTRL_ROLE, F.TCK_CTRL_MASTER_RANK, F.TCK_STATUS_CAUSES], (d.succeed tree).get f = (d.succeeding.takeTree tree).get f := by
    intro f hf
    rw [succeed_eq]
    split
    · simp only [List.mem_cons, List.not_mem_nil, or_false] at hf
      rcases hf with rfl | rfl | rfl
      · exact (sendParked_frame _).1 _ (by decide)
      · exact (sendParked_frame _).1 _ (by decide)
      · exact sendParked_causes _
    · rfl
  have htree : ∀ f ∈ [F.TCK_CTRL_ROLE, F.TCK_CTRL_MASTER_RANK, F.TCK_STATUS_CAUSES], (d.succeed tree).get f = d.succeeding.get f := by
    intro f hf
    have haway : ∀ f ∈ [F.TCK_CTRL_ROLE, F.TCK_CTRL_MASTER_RANK, F.TCK_STATUS_CAUSES],
        f.awayFromEvents ∧ ∀ g ∈ treeFields, f.key ≠ g.key := by
      unfold Fld.awayFromEvents
      decide
    rw [hsent f hf, takeTree_get _ tree (haway f hf).1 (haway f hf).2]
  have hget : ∀ f v, (f, v) ∈ [(F.TCK_CTRL_ROLE, 2), (F.TCK_CTRL_MASTER_RANK, d.rank)] → d.succeeding.get f = v % 2 ^ f.w := fun f v hm =>
    get_puts_mem (fs := [F.TCK_CTRL_ROLE, F.TCK_CTRL_MASTER_RANK]) (by rfl) (by decide) hm d
  refine ⟨?_, ?_, ?_⟩
  · exact congrArg (· == 2) ((htree F.TCK_CTRL_ROLE (by decide)).trans (hget _ 2 (by simp)))
  · exact (htree _ (by decide)).trans ((hget _ d.rank (by simp)).trans (Nat.mod_eq_of_lt (get_lt d F.GTE_ID_RANK)))
  · exact (htree _ (by decide)).trans ((onlyRegs_puts_of (fs := [F.TCK_CTRL_ROLE, F.TCK_CTRL_MASTER_RANK]) (by rfl) d).1 _ (by decide))

theorem watch_succession (s : State) (tree : Tree) (hs : s.powered) (hmember : s.dev.member = true) (hon : s.dev.tickState ≠ tsOff)
    (hwatch : s.dev.tick.watching = true) (hsince : 64 ≤ s.dev.tick.sinceEpoch) (hheld : s.dev.held hcMasterLost = false)
    (hself : s.dev.inForceNat 0x210004 = s.dev.rank) (hranked : s.dev.on F.GTE_ID_RANKED = true) :
    Answers (.epochWatchExpiry tree) s fun t =>
      t.dev.held hcMasterLost = true ∧ t.dev.master = true ∧ t.dev.get F.TCK_CTRL_MASTER_RANK = s.dev.rank ∧ State.sameBut s t := by
  have hexec := onDev_powered (fun d => d.watchExpiry tree) s hs
  rw [watchExpiry_out s.dev tree hmember hon hwatch hsince hheld, if_pos ⟨hself, hranked⟩] at hexec
  obtain ⟨hmaster, hrank, hcauses⟩ := succeed_effect (s.dev.assertHold hcMasterLost) tree
  generalize (s.dev.assertHold hcMasterLost).succeed tree = e at *
  exact ⟨_, hexec, (congrArg (bit · hcMasterLost) hcauses).trans (assertHold_held _ _ (by decide)), hmaster,
    hrank.trans ((assertHold_frame s.dev _).1 F.GTE_ID_RANK (by decide)), rfl, rfl, rfl⟩

/-! ### Link delay (R39) -/

theorem sendUp_parent {d : Dev} {p : Fin 12} (h : d.tick.tree.parent = some p) (w : Nat) : d.sendUp w = d.emit (.tickMsg p w) := by
  unfold Dev.sendUp
  rw [h]
  rfl

theorem ping_sent (s : State) (ts : Nat) (p : Fin 12) (hs : s.powered) (hmember : s.dev.member = true) (hon : s.dev.tickState ≠ tsOff)
    (hparent : s.dev.tick.tree.parent = some p) :
    Answers (.pingInterval ts) s fun t =>
      t.dev.outs = .tickMsg p (s.dev.ownTick tkPing 0 0 0 0 0 ts) :: s.dev.outs ∧ t.dev.tick.pingOut = some (ts % 2 ^ 64) ∧
        State.onlyFields [] s t := by
  have hping : s.dev.pingSend ts =
      (s.dev.withTick { s.dev.tick with pingOut := some (ts % 2 ^ 64) }).emit (.tickMsg p (s.dev.ownTick tkPing 0 0 0 0 0 ts)) :=
    (if_pos (by simp [hmember, hon, hparent])).trans
      (sendUp_parent (d := s.dev.withTick { s.dev.tick with pingOut := some (ts % 2 ^ 64) }) hparent _)
  have hexec := onDev_powered (fun d => d.pingSend ts) s hs
  rw [hping] at hexec
  exact ⟨_, hexec, rfl, rfl, onlyFields_of_dev (onlyRegs_core [] ⟨rfl, rfl, rfl, rfl⟩)⟩

theorem ping_answered (s : State) (p : Fin 12) (w : TickWord) (turn : Nat) (hs : s.powered) (h : s.dev.takesTick p w tkPing) :
    Answers (.ping p w turn) s fun t =>
      (∃ ts : Nat, t.dev.outs = .tickMsg p (s.dev.ownTick tkPong 0 0 0 0 turn ts) :: s.dev.outs) ∧ State.onlyFields [] s t := by
  have hexec := onDev_powered (Dev.onTick p w.toNat tkPing fun _ d => d.pingTaken p turn) s hs
  rw [onTick_taken h] at hexec
  exact ⟨_, hexec, ⟨Config.freeNat s.dev.fresh, rfl⟩, onlyFields_of_dev (onlyRegs_core [] ⟨rfl, rfl, rfl, rfl⟩)⟩

theorem pong_measured (s : State) (p : Fin 12) (w : TickWord) (arrival ts : Nat) (hs : s.powered) (h : s.dev.takesTick p w tkPong)
    (hparent : s.dev.tick.tree.parent = some p) (hout : s.dev.tick.pingOut = some ts) :
    Answers (.pong p w arrival) s fun t =>
      Table.get (fun _ => 0) t.dev.tick.delays p = (arrival - ts - (tmsgOf w.toNat).aux) / 2 ∧ t.dev.tick.pingOut = none ∧
        State.onlyFields [] s t := by
  have hexec := onDev_powered (Dev.onTick p w.toNat tkPong fun m d =>
    if d.tick.tree.parent = some p then d.pongTaken p m arrival else d) s hs
  rw [onTick_taken h, if_pos hparent, Dev.pongTaken, hout] at hexec
  exact ⟨_, hexec, table_get_set_same _ _ _ _, rfl, onlyFields_of_dev (onlyRegs_core [] ⟨rfl, rfl, rfl, rfl⟩)⟩

/-! ### Messages that are not valid (R37) -/

/-- A message that is not valid is counted and has no other effect. -/
theorem onTick_discarded {d : Dev} {p : Fin 12} {w : TickWord} {kind : Nat}
    (h : d.domainPort p = false ∨ (tmsgOf w.toNat).domain ≠ d.get F.TCK_CTRL_DOMAIN ∨ (tmsgOf w.toNat).fieldsOk = false ∨
      (tmsgOf w.toNat).kind ≠ kind) (f : TMsg → Dev → Dev) :
    Dev.onTick p w.toNat kind f d = d.bump F.TCK_HOLD_LOG_DISCARDS 1 := by
  refine if_pos ?_
  simpa [or_assoc] using h

/-- The tick messages and the KIND that each command takes. -/
theorem exec_tickMessage (s : State) (p : Fin 12) (w : TickWord) (kind : Nat) (hs : s.powered) (c : Instr)
    (hc : (c, kind) ∈ [(Instr.epoch p w 0, tkEpoch), (.ping p w 0, tkPing), (.pong p w 0, tkPong), (.hold p w, tkHold),
      (.stretch p w, tkStretch), (.stretchReport p w, tkStretch), (.parked p w, tkParked), (.resume p w, tkResume)]) :
    ∃ f : TMsg → Dev → Dev, exec c s = .next { s with dev := Dev.onTick p w.toNat kind f s.dev } := by
  simp only [List.mem_cons, Prod.mk.injEq, List.not_mem_nil, or_false] at hc
  rcases hc with ⟨rfl, rfl⟩ | ⟨rfl, rfl⟩ | ⟨rfl, rfl⟩ | ⟨rfl, rfl⟩ | ⟨rfl, rfl⟩ | ⟨rfl, rfl⟩ | ⟨rfl, rfl⟩ | ⟨rfl, rfl⟩ <;>
    exact ⟨_, onDev_powered (Dev.onTick _ _ _ _) s hs⟩

theorem message_discarded (s : State) (p : Fin 12) (w : TickWord) (kind : Nat) (hs : s.powered)
    (h : s.dev.domainPort p = false ∨ (tmsgOf w.toNat).domain ≠ s.dev.get F.TCK_CTRL_DOMAIN ∨ (tmsgOf w.toNat).fieldsOk = false ∨
      (tmsgOf w.toNat).kind ≠ kind) (c : Instr)
    (hc : (c, kind) ∈ [(Instr.epoch p w 0, tkEpoch), (.ping p w 0, tkPing), (.pong p w 0, tkPong), (.hold p w, tkHold),
      (.stretch p w, tkStretch), (.stretchReport p w, tkStretch), (.parked p w, tkParked), (.resume p w, tkResume)]) :
    Answers c s fun t =>
      t.dev.get F.TCK_HOLD_LOG_DISCARDS = min 255 (s.dev.get F.TCK_HOLD_LOG_DISCARDS + 1) ∧
        State.onlyFields [F.TCK_HOLD_LOG_DISCARDS] s t := by
  obtain ⟨f, hexec⟩ := exec_tickMessage s p w kind hs c hc
  rw [onTick_discarded h] at hexec
  refine ⟨_, hexec, ?_, onlyFields_of_dev (onlyRegs_bump _ _ 1)⟩
  have hcount := get_bump s.dev F.TCK_HOLD_LOG_DISCARDS F.TCK_HOLD_LOG_DISCARDS 1
  rw [if_pos rfl, Nat.mod_eq_of_lt (lt_of_le_of_lt (Nat.min_le_left _ _) (by decide))] at hcount
  exact hcount

/-- Settles O11: EPOCH, its watch, PING and PONG, and what is discarded. -/
theorem epochsAndLinkDelay : Obligations.EpochsAndLinkDelay :=
  ⟨epoch_followed, watch_expiry, watch_succession, ping_sent, ping_answered, pong_measured, message_discarded⟩

end Sys2Proof.Machine
end

section
/-! SUPPORT. What passes between two ticks: captures, quenches, and what the images of the partitions are read from (R48, R73, R150, R393). -/

namespace Sys2Proof.Machine

open Sys2Proof

/-! ### Partitions but for what they note as written (R77) -/

/-- Every partition is as before but for the writes that it noted. -/
def Dev.partsAlike (a b : Dev) : Prop := ∀ p : Nat, ∃ l : List (Nat × Nat), b.part p = { a.part p with wrote := l }

theorem partsAlike_of_parts {a b : Dev} (h : b.parts = a.parts) : Dev.partsAlike a b := fun p => ⟨(a.part p).wrote, by
  rw [Dev.part, h]
  rfl⟩

theorem partsAlike_trans {a b c : Dev} (h : Dev.partsAlike a b) (k : Dev.partsAlike b c) : Dev.partsAlike a c := fun p => by
  obtain ⟨_, hb⟩ := h p
  obtain ⟨l, hc⟩ := k p
  exact ⟨l, hc.trans (by rw [hb])⟩

/-- A table whose values are mapped reads the mapped values, where the default maps to the default. -/
theorem table_get_map {α : Type} (d : Nat → α) (f : α → α) (hd : ∀ k, f (d k) = d k) (t : Table α) (k : Nat) :
    Table.get d (t.map fun r => (r.1, f r.2)) k = f (Table.get d t k) := by
  induction t with
  | nil => exact (hd k).symm
  | cons x r ih =>
    obtain ⟨j, v⟩ := x
    simp only [List.map_cons, Table.get]
    split
    · exact (hd k).symm
    · split
      · rfl
      · exact ih

theorem noteWrite_parts (d : Dev) (pa n : Nat) : Dev.partsAlike d (d.noteWrite pa n) := fun p => by
  have hpart : (d.noteWrite pa n).part p = (d.part p).noteWrite pa n := table_get_map _ (PartSt.noteWrite · pa n) (fun _ => rfl) d.parts p
  rw [hpart]
  unfold PartSt.noteWrite
  split
  · split <;> exact ⟨_, rfl⟩
  · exact ⟨_, rfl⟩

theorem write_parts (d : Dev) (pa : Nat) (data : List Byte) : Dev.partsAlike d (d.write pa data) :=
  noteWrite_parts (d.dropReservations pa data.length) pa data.length

theorem raise_parts (d : Dev) (cls status source : Nat) (detail : List Nat) : Dev.partsAlike d (d.raise cls status source detail) := by
  have hvector : ∀ (e : Dev) (v : Nat), (e.sendVector v).parts = e.parts := fun e v => by
    unfold Dev.sendVector
    split <;> rfl
  have hrecord : ∀ (e : Dev) (pa : Nat) (rec : List Byte), Dev.partsAlike e (e.writeRecord pa rec false) := fun e pa rec => by
    have hkeep : (e.keepRecord pa rec false).parts = e.parts := by
      unfold Dev.keepRecord
      split <;> rfl
    unfold Dev.writeRecord
    dsimp only
    split
    · exact partsAlike_of_parts hkeep
    · exact partsAlike_trans (partsAlike_of_parts hkeep) (write_parts _ _ _)
  have hring : ∀ (e : Dev) (r : Nat) (rec : List Byte), Dev.partsAlike e (e.ringWrite r rec) := fun e r rec => by
    unfold Dev.ringWrite
    split
    · exact partsAlike_of_parts rfl
    · dsimp only
      split
      · exact partsAlike_of_parts rfl
      · exact partsAlike_trans (hrecord e _ rec) (partsAlike_of_parts (hvector (Dev.put _ _ _) _))
  have hnotify : ∀ (e : Dev) (rec : List Byte), (e.notify rec).parts = e.parts := fun e rec => by
    unfold Dev.notify
    split
    · rfl
    · split <;> rfl
  rw [raise_eq]
  exact partsAlike_trans (b := d.logged _) (partsAlike_of_parts rfl) (partsAlike_trans (hring _ _ _) (partsAlike_of_parts (hnotify _ _)))

/-! ### Captures at a tick boundary (R150, R151) -/

/-- From `a` to `b` nothing of ticks or partitions changed: an event's registers and noted writes at most. -/
def Dev.betweenTicks (a b : Dev) : Prop := Dev.sameRegsBut eventFields a b ∧ b.tick = a.tick ∧ Dev.partsAlike a b

theorem betweenTicks_trans {a b c : Dev} (h : Dev.betweenTicks a b) (k : Dev.betweenTicks b c) : Dev.betweenTicks a c := by
  obtain ⟨hregs, htick, hparts⟩ := h
  obtain ⟨kregs, ktick, kparts⟩ := k
  exact ⟨sameRegsBut_trans hregs kregs, ktick.trans htick, partsAlike_trans hparts kparts⟩

theorem raise_betweenTicks (d : Dev) (cls status source : Nat) (detail : List Nat) :
    Dev.betweenTicks d (d.raise cls status source detail) := by
  obtain ⟨_, _, _, _, _, _, _, _, h⟩ := raise_sameButEvent d cls status source detail
  exact ⟨raise_regs _ _ _ _ _, by rw [h], raise_parts _ _ _ _ _⟩

theorem captureBoundary_effect (d : Dev) : Dev.betweenTicks d d.captureBoundary := by
  have hevents : ∀ (l : List Nat) (e : Dev), Dev.betweenTicks e (l.foldl (fun d k => d.captureEvent (k / 5) (k % 5)) e) := by
    intro l
    induction l with
    | nil => exact fun e => ⟨sameRegsBut_refl _ e, rfl, partsAlike_of_parts rfl⟩
    | cons k r ih => exact fun e => betweenTicks_trans (raise_betweenTicks e _ _ _ _) (ih _)
  have hclear : Dev.betweenTicks d { d with clus := { d.clus with ficArmed := [] } } := ⟨fun _ _ => rfl, rfl, partsAlike_of_parts rfl⟩
  unfold Dev.captureBoundary
  dsimp only
  split
  · exact betweenTicks_trans hclear (hevents _ _)
  · exact hclear

/-- Without a capture the boundary changes nothing. -/
theorem captureBoundary_idle (d : Dev) (h : d.clus.ficArmed = []) : d.captureBoundary = d := by
  have hsame : ({ d with clus := { d.clus with ficArmed := [] } } : Dev) = d := by rw [← h]
  unfold Dev.captureBoundary
  rw [hsame, h]
  simp

/-! ### The end of a quench (R393) -/

theorem blurRuns_keeps (l : List (Nat × Nat)) : ∀ d : Dev, (d.blurRuns l).regs = d.regs ∧ (d.blurRuns l).tick = d.tick := by
  induction l with
  | nil => exact fun _ => ⟨rfl, rfl⟩
  | cons r l ih => exact fun d => ih _

/-- The device with what some partitions wrote undefined and no longer noted. -/
def Dev.writesLost (d : Dev) (l : List Nat) : Dev :=
  l.foldl (fun d p => (d.blurRuns (d.part p).wrote).setPart p { d.part p with wrote := [] }) d

theorem writesLost_keeps (l : List Nat) : ∀ d : Dev, (d.writesLost l).regs = d.regs ∧ (d.writesLost l).tick = d.tick := by
  induction l with
  | nil => exact fun _ => ⟨rfl, rfl⟩
  | cons p r ih =>
    intro d
    obtain ⟨hregs, htick⟩ := ih ((d.blurRuns (d.part p).wrote).setPart p { d.part p with wrote := [] })
    obtain ⟨kregs, ktick⟩ := blurRuns_keeps (d.part p).wrote d
    exact ⟨hregs.trans kregs, htick.trans ktick⟩

theorem endQuench_eq (d : Dev) :
    d.endQuench = if d.tick.quench then (d.writesLost (List.range 8)).withTick { (d.writesLost (List.range 8)).tick with quench := false }
      else d := rfl

/-- A quench ends: no register changes, and of the tick's state the quench alone. -/
theorem endQuench_effect (d : Dev) : d.endQuench.regs = d.regs ∧ d.endQuench.tick = { d.tick with quench := false } := by
  obtain ⟨hregs, htick⟩ := writesLost_keeps (List.range 8) d
  rw [endQuench_eq]
  generalize d.writesLost (List.range 8) = e at *
  split
  · rw [htick]
    exact ⟨hregs, rfl⟩
  · rename_i h
    rw [← show d.tick.quench = false by simpa using h]
    exact ⟨rfl, rfl⟩

/-! ### What images and slots are read from (R48, R65, R73, R74) -/

theorem endedBy_congr {a b : Dev} {p : Nat} (hv : b.get (F.SCH_STOP_VALID p) = a.get (F.SCH_STOP_VALID p))
    (hs : b.get (F.SCH_STOP_PASS p) = a.get (F.SCH_STOP_PASS p)) (im : Image) (n : Nat) : b.endedBy p im n = a.endedBy p im n := by
  unfold Dev.endedBy Dev.lastTick Dev.on
  rw [hv, hs]

/-- The step before which a partition parks depends on its images, the tick's length and its SCH_STOP. -/
theorem crossAt_congr {a b : Dev} {p : Nat} (hp : b.part p = a.part p) (hlen : b.get F.TCK_STATUS_LEN = a.get F.TCK_STATUS_LEN)
    (hv : b.get (F.SCH_STOP_VALID p) = a.get (F.SCH_STOP_VALID p)) (hs : b.get (F.SCH_STOP_PASS p) = a.get (F.SCH_STOP_PASS p)) (n : Nat) :
    b.crossAt p n = a.crossAt p n := by
  have hended : b.endedBy p = a.endedBy p := funext fun im => funext fun n => endedBy_congr hv hs im n
  unfold Dev.crossAt Dev.stepAt Dev.imageFor
  rw [hp, hlen, hended]

/-- Whether every slot has finished depends on the partitions, the tick and the image ticks. -/
theorem slotsDone_congr {a b : Dev} (hp : b.parts = a.parts) (ht : b.ticking = a.ticking) (hd : b.tick.tickDone = a.tick.tickDone)
    (hi : ∀ p < 8, b.get (F.SCH_PASS_ITICK p) = a.get (F.SCH_PASS_ITICK p)) : b.slotsDone = a.slotsDone := by
  have hpart : ∀ p, b.part p = a.part p := fun p => by rw [Dev.part, hp]; rfl
  have hnext : ∀ p < 8, ∀ e i, b.nextSlot p e i = a.nextSlot p e i := fun p h8 e i => by
    unfold Dev.nextSlot
    rw [hpart, ht, hd, hi p h8]
  unfold Dev.slotsDone
  rw [Bool.eq_iff_iff]
  simp only [List.all_eq_true, List.mem_range]
  exact forall₂_congr fun p h8 => by simp only [hpart, hnext p h8]

end Sys2Proof.Machine
end

section
/-! PROOF. Period boundaries and the start of a tick (R33, R45, R54). -/

namespace Sys2Proof.Machine

open Sys2Proof

/-! ### A period boundary (R33, R45, R376) -/

/-- The device once a boundary has counted the epoch, sent it down the tree, and counted its own watch. -/
def Dev.epochCounted (d : Dev) : Dev :=
  let d := d.put F.TCK_EPOCH_E (d.get F.TCK_EPOCH_E + 1)
  let e := d.get F.TCK_EPOCH_E
  let d := if d.solo then d.put F.TCK_STATUS_K (d.get F.TCK_STATUS_K_REQ) else d
  let d := if d.master && e % 16 == 0 then d.sendTick d.childPorts (d.ownTick tkEpoch 0 0 0 0 0 e) else d
  if d.member && d.tick.watching then { d with tick := { d.tick with sinceEpoch := d.tick.sinceEpoch + 1 } } else d

/-- In a running tick a boundary makes one more tick due. -/
def Dev.dueAdded (d : Dev) : Dev := d.withTick { d.tick with due := d.tick.due + 1, tickDone := d.tickFinished }

theorem dueAdded_tick (d : Dev) : d.dueAdded.tick = { d.tick with due := d.tick.due + 1, tickDone := d.tickFinished } := rfl

theorem periodBoundary_off (d : Dev) (h : d.tickState = tsOff) :
    d.periodBoundary = d.put F.TCK_STATUS_K (d.get F.TCK_STATUS_K_REQ) := if_pos h

theorem periodBoundary_ticking (d : Dev) (h : d.ticking = true) :
    d.periodBoundary = if d.epochCounted.tickFinished then d.epochCounted.dueAdded.afterTick true
      else d.epochCounted.dueAdded.assertHold hcSlip := by
  have hrun : d.tickState = tsRunning ∨ d.tickState = tsHolding := by simpa [Dev.ticking] using h
  have hon : d.tickState ≠ tsOff := by rcases hrun with h | h <;> rw [h] <;> decide
  have hst : (decide (d.tickState = tsRunning) || decide (d.tickState = tsHolding)) = true := by simpa using hrun
  unfold Dev.periodBoundary
  extract_lets st d1 e d2 d3 k d4
  rw [if_neg hon, if_pos hst]
  have hcounted : d4 = d.epochCounted := by
    unfold Dev.epochCounted
    with_reducible rfl
  clear_value d4
  subst hcounted
  rfl

/-- Words sent change what was sent, and nothing else. -/
theorem sendTick_outs_only (w : Nat) (ps : List Nat) : ∀ d : Dev, ∃ o : List Out, d.sendTick ps w = { d with outs := o } := by
  induction ps with
  | nil => exact fun d => ⟨d.outs, rfl⟩
  | cons p r ih =>
    intro d
    obtain ⟨o, h⟩ := ih (d.emit (.tickMsg p w))
    exact ⟨o, h⟩

theorem watch_counted (d : Dev) (b : Bool) :
    ∃ n : Nat, (if b then ({ d with tick := { d.tick with sinceEpoch := d.tick.sinceEpoch + 1 } } : Dev) else d) =
      d.withTick { d.tick with sinceEpoch := n } := by
  cases b with
  | true => exact ⟨_, rfl⟩
  | false => exact ⟨_, rfl⟩

/-- What a boundary does before it looks at the tick: the epoch, the watch and the words sent, and no partition. -/
theorem epochCounted_effect (d : Dev) :
    Dev.onlyRegs [F.TCK_EPOCH_E, F.TCK_STATUS_K] d d.epochCounted ∧
      d.epochCounted.get F.TCK_EPOCH_E = (d.get F.TCK_EPOCH_E + 1) % 2 ^ 64 ∧
      (d.solo = false → Dev.onlyRegs [F.TCK_EPOCH_E] d d.epochCounted) ∧
      (∃ n : Nat, d.epochCounted.tick = { d.tick with sinceEpoch := n }) ∧ d.epochCounted.parts = d.parts ∧ d.epochCounted.clus = d.clus := by
  unfold Dev.epochCounted
  extract_lets d1 e d2 d3
  have h1 : Dev.onlyRegs [F.TCK_EPOCH_E] d d1 := onlyRegs_put _ _ _ _ (by decide)
  have hepoch : d1.get F.TCK_EPOCH_E = (d.get F.TCK_EPOCH_E + 1) % 2 ^ 64 := get_put_same _ _ _
  have hsolo : d1.solo = d.solo := congrArg (· == 0) (h1.1 F.TCK_CTRL_ROLE (by decide))
  have h2 : Dev.onlyRegs [F.TCK_STATUS_K] d1 d2 ∧ (d.solo = false → d2 = d1) ∧ d2.tick = d.tick ∧ d2.parts = d.parts ∧ d2.clus = d.clus := by
    cases h : d.solo with
    | true =>
      rw [show d2 = _ from if_pos (hsolo.trans h)]
      exact ⟨onlyRegs_put _ _ _ _ (by decide), fun h => (Bool.noConfusion h : False).elim, rfl, rfl, rfl⟩
    | false =>
      rw [show d2 = d1 from if_neg (ne_true_of_eq_false (hsolo.trans h))]
      exact ⟨onlyRegs_refl _ _, fun _ => rfl, rfl, rfl, rfl⟩
  obtain ⟨hk, hsame, htick, hparts, hclus⟩ := h2
  have h3 : ∃ o : List Out, d3 = { d2 with outs := o } := by
    simp only [d3]
    split
    · exact sendTick_outs_only _ _ d2
    · exact ⟨d2.outs, rfl⟩
  obtain ⟨o, h3⟩ := h3
  obtain ⟨n, h4⟩ := watch_counted d3 (d3.member && d3.tick.watching)
  rw [h4, h3]
  have hcore : Dev.sameCore d2 (Dev.withTick { d2 with outs := o } { d2.tick with sinceEpoch := n }) := ⟨rfl, rfl, rfl, rfl⟩
  clear_value d1 d2
  refine ⟨onlyRegs_trans (onlyRegs_mono h1 (by decide)) (onlyRegs_trans (onlyRegs_mono hk (by decide)) (onlyRegs_core _ hcore)),
    (sameCore_get hcore _).trans ((hk.1 _ (by decide)).trans hepoch), fun h => ?_,
    ⟨n, congrArg (fun k : TickSt => { k with sinceEpoch := n }) htick⟩, hparts, hclus⟩
  rw [hsame h] at hcore ⊢
  exact onlyRegs_trans h1 (onlyRegs_core _ hcore)

theorem boundary_off (s : State) (hs : s.powered) (h : s.dev.tickState = tsOff) :
    Answers .periodBoundary s fun t => t.dev.get F.TCK_STATUS_K = s.dev.get F.TCK_STATUS_K_REQ ∧ State.onlyFields [F.TCK_STATUS_K] s t := by
  have hexec := onDev_powered Dev.periodBoundary s hs
  rw [periodBoundary_off s.dev h] at hexec
  exact ⟨_, hexec, (get_put_same _ _ _).trans (Nat.mod_eq_of_lt (get_lt s.dev F.TCK_STATUS_K_REQ)),
    onlyFields_of_dev (onlyRegs_put _ _ _ _ (by decide))⟩

/-- The fields that tell which slot of a partition is next, and where its image ends. -/
theorem schField_ne (p : Nat) : ∀ f ∈ [F.SCH_PASS_ITICK p, F.SCH_STOP_VALID p, F.SCH_STOP_PASS p], ∀ g ∈ [F.TCK_EPOCH_E, F.TCK_STATUS_K],
    f.key ≠ g.key := by
  simp [Fld.key, F.SCH_PASS_ITICK, F.SCH_STOP_VALID, F.SCH_STOP_PASS, F.TCK_EPOCH_E, F.TCK_STATUS_K]
  omega

/-- A boundary does not finish a tick. -/
theorem epochCounted_finished (d : Dev) : d.epochCounted.tickFinished = d.tickFinished := by
  obtain ⟨hframe, -, -, ⟨n, htick⟩, hparts, -⟩ := epochCounted_effect d
  have hdone : d.epochCounted.tick.tickDone = d.tick.tickDone := by rw [htick]
  have hslots : d.epochCounted.slotsDone = d.slotsDone :=
    slotsDone_congr hparts (ticking_of_get (hframe.1 _ (by decide))) hdone fun p _ => hframe.1 _ (schField_ne p _ (by simp))
  unfold Dev.tickFinished
  rw [hdone, hslots]

/-- A tick that is late at its boundary holds SLIP. -/
theorem boundary_late (s : State) (hs : s.powered) (hrun : s.dev.ticking = true) (hlate : s.dev.tickFinished = false) :
    Answers .periodBoundary s fun t =>
      t.dev.held hcSlip = true ∧ t.dev.get F.TCK_EPOCH_E = (s.dev.get F.TCK_EPOCH_E + 1) % 2 ^ 64 ∧
        t.dev.get F.TCK_TN_TN = s.dev.get F.TCK_TN_TN ∧ t.dev.tick.due = s.dev.tick.due + 1 ∧
        State.onlyFields (F.TCK_EPOCH_E :: F.TCK_STATUS_K :: holdFields) s t := by
  have hexec := onDev_powered Dev.periodBoundary s hs
  rw [periodBoundary_ticking s.dev hrun, epochCounted_finished, hlate, if_neg Bool.false_ne_true] at hexec
  obtain ⟨hframe, hepoch, -, ⟨n, htick⟩, -, -⟩ := epochCounted_effect s.dev
  have hadded : Dev.sameCore s.dev.epochCounted s.dev.epochCounted.dueAdded := withTick_core _ _
  have hhold := assertHold_frame s.dev.epochCounted.dueAdded hcSlip
  obtain ⟨_, _, _, _, _, hheld⟩ := assertHold_tick s.dev.epochCounted.dueAdded hcSlip
  refine ⟨_, hexec, assertHold_held _ _ (by decide), (hhold.1 _ (by decide)).trans ((sameCore_get hadded _).trans hepoch),
    (hhold.1 _ (by decide)).trans ((sameCore_get hadded _).trans (hframe.1 _ (by decide))),
    by rw [hheld, dueAdded_tick, htick], onlyFields_of_dev ?_⟩
  exact onlyRegs_trans (onlyRegs_mono hframe (by decide)) (onlyRegs_trans (onlyRegs_core _ hadded) (onlyRegs_mono hhold (by decide)))

/-! ### The start of a tick (R33, R45, R54) -/

/-- What a tick that starts writes: its state, its stretch, its number. -/
def Dev.tickStartWrites (d : Dev) (n : Nat) : List (Fld × Nat) :=
  [(F.TCK_STATUS_STATE, if d.tick.targets.isEmpty then tsRunning else tsHolding), (F.TCK_STATUS_K, d.stretchAt n), (F.TCK_TN_TN, n)]

/-- The fields of those writes. -/
def tickStartFields : List Fld := [F.TCK_STATUS_STATE, F.TCK_STATUS_K, F.TCK_TN_TN]

/-- The device in its new tick `n`, before the partitions turn. -/
def Dev.tickStarted (d : Dev) (n : Nat) : Dev :=
  let d := d.puts (d.tickStartWrites n)
  { d with
    tick := { d.tick with stretches := d.tick.stretches.filter (n < ·.tn), tickDone := false, parkedSent := false },
    gate := { d.gate with recvs := d.gate.recvs.filter (n ≤ ·.tn) } }

theorem startTick_eq (d : Dev) (n : Nat) :
    d.startTick n = (((List.range 8).foldl (fun d p => d.startPart n p) (d.captureBoundary.tickStarted n)).countBelow).aimSwap n := rfl

theorem tickStarted_effect (d : Dev) (n : Nat) :
    let e := d.tickStarted n
    Dev.onlyRegs tickStartFields d e ∧ e.tickState = (if d.tick.targets.isEmpty then tsRunning else tsHolding) ∧
      e.get F.TCK_STATUS_K = d.stretchAt n % 2 ^ 6 ∧ e.get F.TCK_TN_TN = n % 2 ^ 64 ∧ e.tick.tickDone = false ∧ e.parts = d.parts ∧
      e.clus = d.clus := by
  have hget : ∀ f v, (f, v) ∈ d.tickStartWrites n → (d.tickStarted n).get f = v % 2 ^ f.w := fun f v hm =>
    get_puts_mem (fs := tickStartFields) (by rfl) (by decide) hm d
  refine ⟨onlyRegs_trans (onlyRegs_puts_of (l := d.tickStartWrites n) (by rfl) d) (onlyRegs_core _ ⟨rfl, rfl, rfl, rfl⟩),
    (hget F.TCK_STATUS_STATE _ List.mem_cons_self).trans ?_, hget _ _ (by simp [Dev.tickStartWrites]),
    hget _ n (by simp [Dev.tickStartWrites]), rfl, rfl, rfl⟩
  split <;> rfl

theorem startPart_unscheduled (d : Dev) (n p : Nat) (h : d.scheduled p = false) : d.startPart n p = d := by
  unfold Dev.startPart
  rw [if_pos (by simp [h])]

theorem startParts_unscheduled (n : Nat) (l : List Nat) (d : Dev) (h : ∀ p ∈ l, d.scheduled p = false) :
    l.foldl (fun d p => d.startPart n p) d = d := by
  induction l with
  | nil => rfl
  | cons p r ih =>
    rw [List.foldl_cons, startPart_unscheduled d n p (h p List.mem_cons_self)]
    exact ih fun q hq => h q (List.mem_cons_of_mem _ hq)

theorem aimSwap_none (d : Dev) (n : Nat) (h : d.clus.swaps = []) : d.aimSwap n = d := by
  unfold Dev.aimSwap
  rw [h]

/-- The tick after a finished one starts where it is due and nothing stops it. -/
theorem afterTick_starts (d : Dev) (b : Bool) (hdue : d.get F.TCK_TN_TN + 1 ≤ d.tick.due) (hgo : d.stopsBefore (d.get F.TCK_TN_TN + 1) = false) :
    d.afterTick b = d.startTick (d.get F.TCK_TN_TN + 1) := by
  unfold Dev.afterTick
  dsimp only
  rw [if_neg (by simp [hgo]), if_pos (by simpa using hdue)]

/-- Without a target and without a step to stop before, nothing stops a tick. -/
theorem stopsBefore_clear (d : Dev) (n : Nat) (ht : d.tick.targets = []) (hc : ∀ p < 8, d.crossAt p n = none) : d.stopsBefore n = false := by
  unfold Dev.stopsBefore
  rw [ht, Bool.or_eq_false_iff]
  refine ⟨rfl, ?_⟩
  rw [List.any_eq_false]
  intro p hp
  simp [hc p (List.mem_range.mp hp)]

theorem stretchAt_congr {a b : Dev} (hs : b.tick.stretches = a.tick.stretches) (hk : b.get F.TCK_STATUS_K = a.get F.TCK_STATUS_K) (n : Nat) :
    b.stretchAt n = a.stretchAt n := by
  unfold Dev.stretchAt
  rw [hs, hk]

theorem scheduled_congr {a b : Dev} {p : Nat} (ha : b.get (F.ARB_PART_ACTIVE p) = a.get (F.ARB_PART_ACTIVE p))
    (hm : b.get (F.ARB_PART_MODE p) = a.get (F.ARB_PART_MODE p)) : b.scheduled p = a.scheduled p := by
  unfold Dev.scheduled
  rw [on_of_get ha, on_of_get hm]

/-- The boundary in a member's or a master's device: one more tick is due, and of the registers the epoch alone has changed. -/
theorem dueAdded_effect (d : Dev) (hsolo : d.solo = false) :
    Dev.onlyRegs [F.TCK_EPOCH_E] d d.epochCounted.dueAdded ∧ d.epochCounted.dueAdded.tick.due = d.tick.due + 1 ∧
      d.epochCounted.dueAdded.tick.targets = d.tick.targets ∧ d.epochCounted.dueAdded.tick.stretches = d.tick.stretches ∧
      d.epochCounted.dueAdded.parts = d.parts ∧ d.epochCounted.dueAdded.clus = d.clus := by
  obtain ⟨-, -, hframe, ⟨n, htick⟩, hparts, hclus⟩ := epochCounted_effect d
  have hregs := hframe hsolo
  generalize d.epochCounted = c at *
  rw [dueAdded_tick, htick]
  exact ⟨onlyRegs_trans hregs (onlyRegs_core _ (withTick_core c _)), rfl, rfl, rfl, hparts, hclus⟩

/-- A finished tick at its boundary, with nothing to stop before: the next one starts. -/
theorem boundary_starts (d : Dev) (hrun : d.ticking = true) (hdone : d.tickFinished = true) (hsolo : d.solo = false)
    (hdue : d.get F.TCK_TN_TN ≤ d.tick.due) (ht : d.tick.targets = []) (hc : ∀ p < 8, d.crossAt p (d.get F.TCK_TN_TN + 1) = none) :
    d.periodBoundary = d.epochCounted.dueAdded.startTick (d.get F.TCK_TN_TN + 1) := by
  obtain ⟨hframe, hadded, htargets, -, hparts, -⟩ := dueAdded_effect d hsolo
  have htn : d.epochCounted.dueAdded.get F.TCK_TN_TN = d.get F.TCK_TN_TN := hframe.1 _ (by decide)
  have hpart : ∀ p, d.epochCounted.dueAdded.part p = d.part p := fun p => by rw [Dev.part, hparts]; rfl
  have hfar : ∀ p, ∀ f ∈ [F.SCH_PASS_ITICK p, F.SCH_STOP_VALID p, F.SCH_STOP_PASS p], d.epochCounted.dueAdded.get f = d.get f :=
    fun p f hf => hframe.1 f fun g hg => schField_ne p f hf g (by simp_all)
  have hcross : ∀ p < 8, d.epochCounted.dueAdded.crossAt p (d.get F.TCK_TN_TN + 1) = none := fun p h8 =>
    (crossAt_congr (hpart p) (hframe.1 _ (by decide)) (hfar p _ (by simp)) (hfar p _ (by simp)) _).trans (hc p h8)
  rw [periodBoundary_ticking d hrun, epochCounted_finished, if_pos hdone, afterTick_starts, htn]
  · rw [htn, hadded]
    omega
  · rw [htn]
    exact stopsBefore_clear _ _ (htargets.trans ht) hcross

theorem schedField_ne (p : Nat) (f : Fld) (hf : f ∈ [F.ARB_PART_ACTIVE p, F.ARB_PART_MODE p]) (g : Fld)
    (hg : g ∈ F.TCK_EPOCH_E :: tickStartFields) : f.key ≠ g.key := by
  simp only [List.mem_cons, List.not_mem_nil, or_false, tickStartFields] at hf hg
  rcases hf with rfl | rfl <;> rcases hg with rfl | rfl | rfl | rfl <;>
  · simp only [Fld.key, F.ARB_PART_ACTIVE, F.ARB_PART_MODE, F.TCK_EPOCH_E, F.TCK_STATUS_STATE, F.TCK_STATUS_K, F.TCK_TN_TN]
    omega

theorem boundary_next_tick (s : State) (hs : s.powered) (hrun : s.dev.ticking = true) (hdone : s.dev.tickFinished = true)
    (hsolo : s.dev.solo = false) (hdue : s.dev.get F.TCK_TN_TN ≤ s.dev.tick.due) (htn : s.dev.get F.TCK_TN_TN < 2 ^ 64 - 1)
    (ht : s.dev.tick.targets = []) (hqueued : ∀ p : Nat, p < 8 → s.dev.scheduled p = false)
    (hc : ∀ p : Nat, p < 8 → s.dev.crossAt p (s.dev.get F.TCK_TN_TN + 1) = none) (hswaps : s.dev.clus.swaps = [])
    (hfic : s.dev.clus.ficArmed = []) :
    Answers .periodBoundary s fun t =>
      t.dev.get F.TCK_TN_TN = s.dev.get F.TCK_TN_TN + 1 ∧ t.dev.tickState = tsRunning ∧
        t.dev.get F.TCK_STATUS_K = s.dev.stretchAt (s.dev.get F.TCK_TN_TN + 1) % 2 ^ 6 ∧ t.dev.tick.tickDone = false ∧
        State.onlyFields [F.TCK_EPOCH_E, F.TCK_STATUS_K, F.TCK_TN_TN, F.TCK_STATUS_STATE] s t := by
  have hexec := onDev_powered Dev.periodBoundary s hs
  rw [boundary_starts s.dev hrun hdone hsolo hdue ht hc] at hexec
  obtain ⟨hframe, -, htargets, hstretches, -, hclus⟩ := dueAdded_effect s.dev hsolo
  generalize s.dev.epochCounted.dueAdded = e at *
  generalize hn : s.dev.get F.TCK_TN_TN + 1 = n at *
  obtain ⟨hstart, hstate, hk, hnum, hnew, -, hsclus⟩ := tickStarted_effect e n
  have hboth : Dev.onlyRegs (F.TCK_EPOCH_E :: tickStartFields) s.dev (e.tickStarted n) :=
    onlyRegs_trans (onlyRegs_mono hframe (by decide)) (onlyRegs_mono hstart (by decide))
  have hunscheduled : ∀ p ∈ List.range 8, (e.tickStarted n).scheduled p = false := fun p hp =>
    (scheduled_congr (hboth.1 _ (schedField_ne p _ (by simp))) (hboth.1 _ (schedField_ne p _ (by simp)))).trans (hqueued p (List.mem_range.mp hp))
  have hsame : e.startTick n = (e.tickStarted n).countBelow := by
    rw [startTick_eq, captureBoundary_idle e (by rw [hclus, hfic]), startParts_unscheduled n _ _ hunscheduled]
    exact aimSwap_none _ _ ((congrArg ClusSt.swaps (hsclus.trans hclus)).trans hswaps)
  rw [hsame] at hexec
  have hcount : Dev.sameCore (e.tickStarted n) (e.tickStarted n).countBelow := ⟨rfl, rfl, rfl, rfl⟩
  refine ⟨_, hexec, ?_, (sameCore_get hcount F.TCK_STATUS_STATE).trans (hstate.trans (by simp [htargets, ht])), ?_, hnew,
    onlyFields_of_dev (onlyRegs_trans (onlyRegs_mono hboth (by decide)) (onlyRegs_core _ hcount))⟩
  · exact (sameCore_get hcount _).trans (hnum.trans (Nat.mod_eq_of_lt (by omega)))
  · rw [sameCore_get hcount, hk, stretchAt_congr hstretches (hframe.1 _ (by decide))]

end Sys2Proof.Machine
end

section
/-! PROOF. A partition turns with its tick, the park before a target, and the proof of O10. -/

namespace Sys2Proof.Machine

open Sys2Proof

/-! ### A partition turns (R45, R73) -/

/-- A partition that keeps its image, at image tick `i` of tick `n`. -/
def PartSt.atTick (x : PartSt) (im : Image) (i : Nat) : PartSt :=
  { x with positions := startPositions im i, tokens := [], wrote := if im.steps.any (·.first == i) then [] else x.wrote }

/-- The registers in which a partition shows where it is. -/
def passWrites (p n : Nat) (im : Image) : List (Fld × Nat) :=
  [(F.SCH_PASS_PASS p, (n - im.baseTn) / max 1 im.ticks), (F.SCH_PASS_ITICK p, (n - im.baseTn) % max 1 im.ticks)]

theorem startPart_keeps (d : Dev) (n p : Nat) (im : Image) (hs : d.scheduled p = true) (hr : (d.part p).running = some im)
    (hstaged : (d.part p).staged = none) (hend : d.endedBy p im n = false) :
    d.startPart n p = (d.setPart p ((d.part p).atTick im ((n - im.baseTn) % max 1 im.ticks))).puts (passWrites p n im) := by
  have hturn : d.turnImages n p = d := by
    unfold Dev.turnImages
    rw [hr]
    dsimp only
    rw [hend, if_neg Bool.false_ne_true, hstaged]
  unfold Dev.startPart
  rw [if_neg (by simp [hs])]
  dsimp only
  rw [hturn]
  split
  · rename_i h
    rw [hr] at h
    cases h
  · rename_i im' h
    obtain rfl := Option.some.inj (h.symm.trans hr)
    rfl

/-- The fields that a partition's turn writes. -/
def passFields (p : Nat) : List Fld := [F.SCH_PASS_PASS p, F.SCH_PASS_ITICK p]

theorem passFields_nodup (p : Nat) : ((passFields p).map Fld.key).Nodup := by
  simp [passFields, Fld.key, F.SCH_PASS_PASS, F.SCH_PASS_ITICK]

theorem schedField_ne_pass (p q : Nat) : ∀ f ∈ [F.ARB_PART_ACTIVE q, F.ARB_PART_MODE q], ∀ g ∈ passFields p, p < 8 → f.key ≠ g.key := by
  simp [passFields, Fld.key, F.SCH_PASS_PASS, F.SCH_PASS_ITICK, F.ARB_PART_ACTIVE, F.ARB_PART_MODE]
  omega

/-- Where one partition is scheduled, it alone turns. -/
theorem startParts_one (n p : Nat) (hp : p < 8) (im : Image) (l : List Nat) (hl : l.Nodup) (hmem : p ∈ l) (d : Dev)
    (hothers : ∀ q ∈ l, q ≠ p → d.scheduled q = false) (hs : d.scheduled p = true) (hr : (d.part p).running = some im)
    (hstaged : (d.part p).staged = none) (hend : d.endedBy p im n = false) :
    l.foldl (fun d p => d.startPart n p) d = d.startPart n p := by
  induction l with
  | nil => cases hmem
  | cons q r ih =>
    obtain ⟨hq, hr'⟩ := List.nodup_cons.mp hl
    rw [List.foldl_cons]
    by_cases hqp : q = p
    · subst hqp
      refine startParts_unscheduled n r _ fun j hj => ?_
      rw [startPart_keeps d n q im hs hr hstaged hend]
      have hframe := onlyRegs_puts_of (l := passWrites q n im) (fs := passFields q) (by rfl)
        (d.setPart q ((d.part q).atTick im ((n - im.baseTn) % max 1 im.ticks)))
      have hsame := scheduled_congr (p := j) (hframe.1 _ fun g hg => schedField_ne_pass q j _ (by simp) g hg hp)
        (hframe.1 _ fun g hg => schedField_ne_pass q j _ (by simp) g hg hp)
      exact hsame.trans (hothers j (List.mem_cons_of_mem _ hj) fun h => hq (h ▸ hj))
    · rw [startPart_unscheduled d n q (hothers q List.mem_cons_self hqp)]
      exact ih hr' ((List.mem_cons.mp hmem).resolve_left (Ne.symm hqp)) fun j hj => hothers j (List.mem_cons_of_mem _ hj)

/-- Aiming a swap may hold REPAIR, and moves no partition. -/
theorem aimSwap_effect (d : Dev) (n : Nat) : Dev.sameRegsBut holdFields d (d.aimSwap n) ∧ (d.aimSwap n).parts = d.parts := by
  have hhold : ∀ (e : Dev), Dev.sameRegsBut holdFields e (e.assertHold hcRepair) ∧ (e.assertHold hcRepair).parts = e.parts := fun e => by
    obtain ⟨_, _, _, h⟩ := assertHold_sameButTick e hcRepair
    exact ⟨(assertHold_frame e _).1, by rw [h]⟩
  unfold Dev.aimSwap
  split
  · exact ⟨sameRegsBut_refl _ d, rfl⟩
  · dsimp only
    generalize (if d.solo = true then n + 1 else n + 4) = target
    split
    · exact ⟨sameRegsBut_refl _ d, rfl⟩
    · split
      · exact hhold { d with clus := _ }
      · exact ⟨sameRegsBut_refl _ d, rfl⟩

theorem passField_ne_hold (p : Nat) : ∀ f ∈ F.TCK_TN_TN :: passFields p, ∀ g ∈ holdFields, f.key ≠ g.key := by
  simp [passFields, holdFields, Fld.key, F.SCH_PASS_PASS, F.SCH_PASS_ITICK, F.TCK_TN_TN, F.TCK_STATUS_CAUSES, F.TCK_STATUS_STATE,
    F.TCK_STATUS_DCAUSES]
  omega

theorem tn_ne_pass (p : Nat) : ∀ g ∈ passFields p, F.TCK_TN_TN.key ≠ g.key := by
  simp [passFields, Fld.key, F.SCH_PASS_PASS, F.SCH_PASS_ITICK, F.TCK_TN_TN]
  omega

/-- The fields that an image's turn reads are none that an event, a boundary or the tick's start writes. -/
theorem imageField_far (p : Nat) (hp : p < 8) :
    ∀ f ∈ [F.SCH_STOP_VALID p, F.SCH_STOP_PASS p, F.ARB_PART_ACTIVE p, F.ARB_PART_MODE p],
      f.awayFromEvents ∧ ∀ g ∈ F.TCK_EPOCH_E :: tickStartFields, f.key ≠ g.key := by
  simp [Fld.awayFromEvents, tickStartFields, Fld.key, F.SCH_STOP_VALID, F.SCH_STOP_PASS, F.ARB_PART_ACTIVE, F.ARB_PART_MODE, F.TCK_EPOCH_E,
    F.TCK_STATUS_STATE, F.TCK_STATUS_K, F.TCK_TN_TN, F.RAS_EVSEQ_NEXT]
  omega

/-- The device in tick `n`, before its partitions turn, as it came to its boundary: the same images and schedules. -/
theorem tickStarted_images (d : Dev) (n : Nat) (hsolo : d.solo = false) (p : Nat) (hp : p < 8) :
    let e := d.epochCounted.dueAdded.captureBoundary.tickStarted n
    e.scheduled p = d.scheduled p ∧ (∃ l : List (Nat × Nat), e.part p = { d.part p with wrote := l }) ∧
      ∀ im m, e.endedBy p im m = d.endedBy p im m := by
  obtain ⟨hframe, -, -, -, hparts, -⟩ := dueAdded_effect d hsolo
  obtain ⟨hregs, -, halike⟩ := captureBoundary_effect d.epochCounted.dueAdded
  obtain ⟨hstart, -, -, -, -, hsparts, -⟩ := tickStarted_effect d.epochCounted.dueAdded.captureBoundary n
  generalize d.epochCounted.dueAdded = c at *
  generalize c.captureBoundary = b at *
  have hget : ∀ f ∈ [F.SCH_STOP_VALID p, F.SCH_STOP_PASS p, F.ARB_PART_ACTIVE p, F.ARB_PART_MODE p], (b.tickStarted n).get f = d.get f := by
    intro f hf
    obtain ⟨haway, hfar⟩ := imageField_far p hp f hf
    rw [hstart.1 f fun g hg => hfar g (List.mem_cons_of_mem _ hg), hregs f (awayFromEvents_ne haway),
      hframe.1 f fun g hg => hfar g (by simp_all)]
  refine ⟨scheduled_congr (hget _ (by simp)) (hget _ (by simp)), ?_, fun im m => endedBy_congr (hget _ (by simp)) (hget _ (by simp)) im m⟩
  exact partsAlike_trans (partsAlike_of_parts hparts) (partsAlike_trans halike (partsAlike_of_parts hsparts)) p

/-- A scheduled partition that keeps its image stands at its image tick of the tick that starts. -/
theorem boundary_next_image_tick (s : State) (p : Nat) (im : Image) (hs : s.powered) (hp : p < 8) (hrun : s.dev.ticking = true)
    (hdone : s.dev.tickFinished = true) (hsolo : s.dev.solo = false) (hdue : s.dev.get F.TCK_TN_TN ≤ s.dev.tick.due)
    (htn : s.dev.get F.TCK_TN_TN < 2 ^ 64 - 1) (ht : s.dev.tick.targets = [])
    (hothers : ∀ q : Nat, q < 8 → q ≠ p → s.dev.scheduled q = false)
    (hc : ∀ q : Nat, q < 8 → s.dev.crossAt q (s.dev.get F.TCK_TN_TN + 1) = none) (hsched : s.dev.scheduled p = true)
    (hr : (s.dev.part p).running = some im) (hstaged : (s.dev.part p).staged = none)
    (hend : s.dev.endedBy p im (s.dev.get F.TCK_TN_TN + 1) = false) :
    Answers .periodBoundary s fun t =>
      let n := s.dev.get F.TCK_TN_TN + 1
      t.dev.get F.TCK_TN_TN = n ∧ t.dev.get (F.SCH_PASS_PASS p) = (n - im.baseTn) / max 1 im.ticks % 2 ^ 32 ∧
        t.dev.get (F.SCH_PASS_ITICK p) = (n - im.baseTn) % max 1 im.ticks % 2 ^ 32 ∧
        (t.dev.part p).positions = startPositions im ((n - im.baseTn) % max 1 im.ticks) ∧ (t.dev.part p).tokens = [] := by
  have hexec := onDev_powered Dev.periodBoundary s hs
  rw [boundary_starts s.dev hrun hdone hsolo hdue ht hc, startTick_eq] at hexec
  generalize hn : s.dev.get F.TCK_TN_TN + 1 = n at *
  have himages := tickStarted_images s.dev n hsolo
  have hnum := (tickStarted_effect s.dev.epochCounted.dueAdded.captureBoundary n).2.2.2.1
  generalize s.dev.epochCounted.dueAdded.captureBoundary.tickStarted n = e at *
  obtain ⟨hesched, ⟨l, hpart⟩, heend⟩ := himages p hp
  have hrun' : (e.part p).running = some im := by rw [hpart]; exact hr
  have hstaged' : (e.part p).staged = none := by rw [hpart]; exact hstaged
  have hone := startParts_one n p hp im (List.range 8) List.nodup_range (List.mem_range.mpr hp) e
    (fun q hq hne => (himages q (List.mem_range.mp hq)).1.trans (hothers q (List.mem_range.mp hq) hne)) (hesched.trans hsched) hrun' hstaged'
    ((heend im n).trans hend)
  have hkeeps := startPart_keeps e n p im (hesched.trans hsched) hrun' hstaged' ((heend im n).trans hend)
  obtain ⟨haim, hparts⟩ := aimSwap_effect (e.startPart n p).countBelow n
  have hframe := onlyRegs_puts_of (l := passWrites p n im) (fs := passFields p) (by rfl)
    (e.setPart p ((e.part p).atTick im ((n - im.baseTn) % max 1 im.ticks)))
  have hwritten : ∀ f v, (f, v) ∈ passWrites p n im → (e.startPart n p).get f = v % 2 ^ f.w := fun f v hm => by
    rw [hkeeps]
    exact get_puts_mem (fs := passFields p) (by rfl) (passFields_nodup p) hm _
  have hpos : (((e.startPart n p).countBelow).aimSwap n).part p = (e.part p).atTick im ((n - im.baseTn) % max 1 im.ticks) := by
    have hturned : (e.startPart n p).part p = (e.part p).atTick im ((n - im.baseTn) % max 1 im.ticks) := by
      rw [hkeeps, Dev.part, puts_parts]
      exact (part_setPart e p p _).trans (if_pos rfl)
    rw [Dev.part, hparts]
    exact hturned
  have hfar := passField_ne_hold p
  rw [hone] at hexec
  refine ⟨_, hexec, ?_, ?_, ?_, congrArg PartSt.positions hpos, congrArg PartSt.tokens hpos⟩
  · refine (haim _ (hfar _ (by simp))).trans ?_
    rw [show (e.startPart n p).countBelow.get F.TCK_TN_TN = (e.startPart n p).get F.TCK_TN_TN from rfl, hkeeps,
      hframe.1 F.TCK_TN_TN fun g hg => tn_ne_pass p g hg]
    exact hnum.trans (Nat.mod_eq_of_lt (by omega))
  · exact (haim _ (hfar _ (by simp [passFields]))).trans (hwritten _ _ (by simp [passWrites]))
  · exact (haim _ (hfar _ (by simp [passFields]))).trans (hwritten _ _ (by simp [passWrites]))

/-! ### The park before a target (R47, R393) -/

/-- The device parked before tick `n`, its causes still those of the tick. -/
def Dev.parkReached (d : Dev) (n : Nat) : Dev :=
  (d.puts [(F.TCK_STATUS_STATE, tsParked), (F.TCK_TN_TN, n)]).withTick
    { d.tick with targets := d.tick.targets.filter (n < ·), tickDone := true, due := n }

/-- The causes of a park looked at: SLIP clears, REPAIR and STEP follow what is due there. -/
def Dev.parkCauses (d : Dev) (n : Nat) : Dev := ((d.dropCause hcSlip).parkRepair).parkSteps n

theorem park47_eq (d : Dev) (n : Nat) :
    d.park47 n =
      if !((d.captureBoundary.endQuench.parkReached n).parkCauses n).on F.TCK_CTRL_ENABLE then
        ((d.captureBoundary.endQuench.parkReached n).parkCauses n).tickOff
      else if ((d.captureBoundary.endQuench.parkReached n).parkCauses n).solo then
        ((d.captureBoundary.endQuench.parkReached n).parkCauses n).soloLeave
      else ((d.captureBoundary.endQuench.parkReached n).parkCauses n).sendParked := by
  rfl

/-- From `a` to `b` no register but the cause bitmap changed, SLIP stands as it did, and so does the tick's hidden state. -/
def Dev.causesMoved (a b : Dev) : Prop :=
  Dev.sameRegsBut [F.TCK_STATUS_CAUSES] a b ∧ b.tick = a.tick ∧ b.held hcSlip = a.held hcSlip

theorem causesMoved_trans {a b c : Dev} (h : Dev.causesMoved a b) (k : Dev.causesMoved b c) : Dev.causesMoved a c :=
  ⟨sameRegsBut_trans h.1 k.1, k.2.1.trans h.2.1, k.2.2.trans h.2.2⟩

theorem causesMoved_of_regs {a b : Dev} (h : b.regs = a.regs) (k : b.tick = a.tick) : Dev.causesMoved a b := by
  have hget : ∀ f, b.get f = a.get f := fun f => by unfold Dev.get; rw [h]
  exact ⟨fun f _ => hget f, k, congrArg (bit · hcSlip) (hget _)⟩

theorem setCause_moved (d : Dev) {c : Nat} (hne : c ≠ hcSlip) : Dev.causesMoved d (d.setCause c) := by
  refine ⟨sameRegsBut_put _ _ _, rfl, ?_⟩
  unfold Dev.held Dev.setCause
  rw [get_put_same, bit_eq_testBit, bit_eq_testBit, show F.TCK_STATUS_CAUSES.w = 16 from rfl, Nat.testBit_mod_two_pow, Nat.testBit_or,
    Nat.testBit_two_pow_of_ne hne]
  simp [hcSlip]

theorem dropCause_moved (d : Dev) {c : Nat} (hne : c ≠ hcSlip) : Dev.causesMoved d (d.dropCause c) := by
  refine ⟨(dropCause_causes_only d c).1.1, dropCause_tick d c, ?_⟩
  rw [dropCause_held d c (by decide)]
  simp [Ne.symm hne]

theorem parkRepair_moved (d : Dev) : Dev.causesMoved d d.parkRepair := by
  unfold Dev.parkRepair
  split
  · exact setCause_moved d (by decide)
  · split
    · exact causesMoved_of_regs rfl rfl
    · exact dropCause_moved d (by decide)

theorem takeMsgs_keeps (l : List Nat) : ∀ d : Dev, (l.foldl Dev.takeMsg d).regs = d.regs ∧ (l.foldl Dev.takeMsg d).tick = d.tick := by
  induction l with
  | nil => exact fun _ => ⟨rfl, rfl⟩
  | cons q r ih =>
    intro d
    have hone : (d.takeMsg q).regs = d.regs ∧ (d.takeMsg q).tick = d.tick := by
      unfold Dev.takeMsg
      split <;> exact ⟨rfl, rfl⟩
    exact ⟨(ih _).1.trans hone.1, (ih _).2.trans hone.2⟩

theorem stepTakes_keeps (l : List Nat) : ∀ d : Dev, (l.foldl Dev.stepTake d).regs = d.regs ∧ (l.foldl Dev.stepTake d).tick = d.tick := by
  induction l with
  | nil => exact fun _ => ⟨rfl, rfl⟩
  | cons p r ih =>
    intro d
    have hone : (d.stepTake p).regs = d.regs ∧ (d.stepTake p).tick = d.tick := by
      unfold Dev.stepTake
      split
      · split
        · exact takeMsgs_keeps _ d
        · exact ⟨rfl, rfl⟩
      · exact ⟨rfl, rfl⟩
    exact ⟨(ih _).1.trans hone.1, (ih _).2.trans hone.2⟩

/-- The partitions at a park before tick `n`: no stream runs, each waits before its step. -/
def Dev.stepsAwaited (d : Dev) (n : Nat) : Dev :=
  (List.range 8).foldl (fun d p => d.setPart p { d.part p with positions := [], tokens := [], stepWait := d.crossAt p n }) d

theorem parkSteps_eq (d : Dev) (n : Nat) :
    d.parkSteps n = if ((List.range 8).foldl Dev.stepTake (d.stepsAwaited n)).stepWaits
      then ((List.range 8).foldl Dev.stepTake (d.stepsAwaited n)).setCause hcStep
      else (List.range 8).foldl Dev.stepTake (d.stepsAwaited n) := rfl

theorem parkSteps_moved (d : Dev) (n : Nat) : Dev.causesMoved d (d.parkSteps n) := by
  obtain ⟨ps, hwait⟩ := foldl_setPart_parts (fun d p => { d.part p with positions := [], tokens := [], stepWait := d.crossAt p n })
    (List.range 8) d
  obtain ⟨hregs, htick⟩ := stepTakes_keeps (List.range 8) (d.stepsAwaited n)
  rw [show d.stepsAwaited n = _ from hwait] at hregs htick
  rw [parkSteps_eq, show d.stepsAwaited n = _ from hwait]
  generalize (List.range 8).foldl Dev.stepTake _ = e at *
  have hmoved : Dev.causesMoved d e := causesMoved_of_regs hregs htick
  split
  · exact causesMoved_trans hmoved (setCause_moved e (by decide))
  · exact hmoved

/-- A park: SLIP is clear, and the tick it stands before is known. -/
theorem parkCauses_effect (d : Dev) (n : Nat) :
    Dev.sameRegsBut [F.TCK_STATUS_CAUSES] d (d.parkCauses n) ∧ (d.parkCauses n).tick = d.tick ∧ (d.parkCauses n).held hcSlip = false := by
  obtain ⟨hregs, htick, hslip⟩ := causesMoved_trans (parkRepair_moved (d.dropCause hcSlip)) (parkSteps_moved _ n)
  refine ⟨sameRegsBut_trans (dropCause_causes_only d hcSlip).1.1 hregs, htick.trans (dropCause_tick d _), hslip.trans ?_⟩
  rw [dropCause_held d _ (by decide)]
  simp

/-- The device stands in PARKED before tick `n`, the tick before it finished. -/
theorem parkReached_effect (d : Dev) (n : Nat) :
    Dev.sameRegsBut [F.TCK_STATUS_STATE, F.TCK_TN_TN] d (d.parkReached n) ∧ (d.parkReached n).tickState = tsParked ∧
      (d.parkReached n).get F.TCK_TN_TN = n % 2 ^ 64 ∧ (d.parkReached n).tick.tickDone = true ∧
      (d.parkReached n).tick.quench = d.tick.quench := by
  have hget : ∀ f v, (f, v) ∈ [(F.TCK_STATUS_STATE, tsParked), (F.TCK_TN_TN, n)] → (d.parkReached n).get f = v % 2 ^ f.w := fun f v hm =>
    get_puts_mem (fs := [F.TCK_STATUS_STATE, F.TCK_TN_TN]) (by rfl) (by decide) hm d
  exact ⟨(onlyRegs_puts_of (by rfl) d).1, hget F.TCK_STATUS_STATE tsParked (by simp), hget F.TCK_TN_TN n (by simp), rfl, rfl⟩

/-- What ends the tick before a park changes no register but those of events, and ends a quench. -/
theorem quenchEnded_effect (d : Dev) :
    Dev.sameRegsBut eventFields d d.captureBoundary.endQuench ∧ d.captureBoundary.endQuench.tick.quench = false := by
  obtain ⟨hcapture, -, -⟩ := captureBoundary_effect d
  obtain ⟨hregs, htick⟩ := endQuench_effect d.captureBoundary
  refine ⟨fun f hf => ?_, by rw [htick]⟩
  rw [← hcapture f hf, Dev.get, hregs]
  rfl

/-- A device that is enabled and in a domain parks before tick `n` and reports it. -/
theorem park47_effect (d : Dev) (n : Nat) (hsolo : d.solo = false) (hen : d.on F.TCK_CTRL_ENABLE = true) :
    (d.park47 n).tickState = tsParked ∧ (d.park47 n).get F.TCK_TN_TN = n % 2 ^ 64 ∧ (d.park47 n).held hcSlip = false ∧
      (d.park47 n).tick.quench = false ∧ (d.park47 n).tick.tickDone = true := by
  obtain ⟨hended, hquench⟩ := quenchEnded_effect d
  rw [park47_eq]
  generalize d.captureBoundary.endQuench = c at *
  obtain ⟨hreached, hstate, htn, hdone, hkept⟩ := parkReached_effect c n
  generalize c.parkReached n = r at *
  obtain ⟨hcauses, htick, hslip⟩ := parkCauses_effect r n
  generalize r.parkCauses n = e at *
  have hmarks : ∀ f ∈ [F.TCK_CTRL_ENABLE, F.TCK_CTRL_ROLE], f.awayFromEvents := by
    simp [Fld.awayFromEvents, Fld.key, F.TCK_CTRL_ENABLE, F.TCK_CTRL_ROLE, F.RAS_EVSEQ_NEXT]
  have hfar : ∀ f ∈ [F.TCK_CTRL_ENABLE, F.TCK_CTRL_ROLE], e.get f = d.get f := fun f hf => by
    rw [hcauses f (by revert f; decide), hreached f (by revert f; decide), hended f (awayFromEvents_ne (hmarks f hf))]
  have hon : e.on F.TCK_CTRL_ENABLE = true := (on_of_get (hfar _ (by simp))).trans hen
  have hdomain : e.solo = false := (congrArg (· == 0) (hfar F.TCK_CTRL_ROLE (by simp))).trans hsolo
  obtain ⟨_, _, _, _, _, hsent⟩ := sendParked_tick e
  rw [if_neg (by simp [hon]), if_neg (by simp [hdomain])]
  refine ⟨(sendParked_state e).trans ((hcauses _ (by decide)).trans hstate),
    ((sendParked_frame e).1 _ (by decide)).trans ((hcauses _ (by decide)).trans htn),
    (congrArg (bit · hcSlip) (sendParked_causes e)).trans hslip, ?_, ?_⟩
  · rw [hsent, htick]
    exact hkept.trans hquench
  · rw [hsent, htick]
    exact hdone

/-! ### The end of a tick (R33, R47, R55) -/

/-- The device with its tick complete. -/
def Dev.tickClosed (d : Dev) : Dev := d.withTick { d.tick with tickDone := true }

/-- Completion changes no register, and stops the next tick as before. -/
theorem tickClosed_effect (d : Dev) :
    Dev.sameCore d d.tickClosed ∧ d.tickClosed.tick = { d.tick with tickDone := true } ∧ ∀ n, d.tickClosed.stopsBefore n = d.stopsBefore n :=
  ⟨withTick_core _ _, rfl, fun _ => rfl⟩

/-- A tick whose slots have all finished is complete, and what follows it follows. -/
theorem tickComplete_done (d : Dev) (hrun : d.ticking = true) (hopen : d.tick.tickDone = false) (hdone : d.slotsDone = true) :
    d.tickComplete = d.tickClosed.afterTick false := by
  unfold Dev.tickComplete
  rw [if_neg (by simp [hrun, hopen, hdone])]
  rfl

/-- A domain device parks at once where something stops its next tick. -/
theorem afterTick_parks (d : Dev) (b : Bool) (hsolo : d.solo = false) (hstops : d.stopsBefore (d.get F.TCK_TN_TN + 1) = true) :
    d.afterTick b = d.park47 (d.get F.TCK_TN_TN + 1) := by
  unfold Dev.afterTick
  dsimp only
  rw [if_pos (by simp [hstops, hsolo])]

/-- A next tick that nothing stops waits until it is due. -/
theorem afterTick_waits (d : Dev) (b : Bool) (hdue : d.tick.due ≤ d.get F.TCK_TN_TN) (hgo : d.stopsBefore (d.get F.TCK_TN_TN + 1) = false) :
    d.afterTick b = d := by
  unfold Dev.afterTick
  dsimp only
  rw [if_neg (by simp [hgo]), if_neg (by simpa using hdue)]

/-- A domain device whose next tick is a target parks before it. -/
theorem complete_parks (s : State) (hs : s.powered) (hrun : s.dev.ticking = true) (hopen : s.dev.tick.tickDone = false)
    (hdone : s.dev.slotsDone = true) (hsolo : s.dev.solo = false) (hen : s.dev.on F.TCK_CTRL_ENABLE = true)
    (htn : s.dev.get F.TCK_TN_TN < 2 ^ 64 - 1) (htarget : (s.dev.get F.TCK_TN_TN + 1) ∈ s.dev.tick.targets) :
    Answers .tickComplete s fun t =>
      t.dev.tickState = tsParked ∧ t.dev.get F.TCK_TN_TN = s.dev.get F.TCK_TN_TN + 1 ∧ t.dev.held hcSlip = false ∧
        t.dev.tick.quench = false ∧ t.dev.tick.tickDone = true ∧ State.sameBut s t := by
  have hexec := onDev_powered Dev.tickComplete s hs
  obtain ⟨hcore, -, hsame⟩ := tickClosed_effect s.dev
  have hnum : s.dev.tickClosed.get F.TCK_TN_TN = s.dev.get F.TCK_TN_TN := sameCore_get hcore _
  have hstops : s.dev.stopsBefore (s.dev.get F.TCK_TN_TN + 1) = true :=
    Bool.or_eq_true_iff.mpr (.inl (List.any_eq_true.mpr ⟨_, htarget, by simp⟩))
  have hdomain : s.dev.tickClosed.solo = false := (congrArg (· == 0) (sameCore_get hcore F.TCK_CTRL_ROLE)).trans hsolo
  have hon : s.dev.tickClosed.on F.TCK_CTRL_ENABLE = true := (on_of_get (sameCore_get hcore _)).trans hen
  rw [tickComplete_done s.dev hrun hopen hdone, afterTick_parks _ _ hdomain (by rw [hnum, hsame, hstops]), hnum] at hexec
  have hparks := park47_effect s.dev.tickClosed (s.dev.get F.TCK_TN_TN + 1) hdomain hon
  generalize s.dev.tickClosed.park47 (s.dev.get F.TCK_TN_TN + 1) = e at *
  obtain ⟨hstate, hparked, hslip, hquench, hend⟩ := hparks
  exact ⟨_, hexec, hstate, hparked.trans (Nat.mod_eq_of_lt (by omega)), hslip, hquench, hend, rfl, rfl, rfl⟩

/-- A tick that is complete before its period ends waits for its boundary. -/
theorem complete_waits (s : State) (hs : s.powered) (hrun : s.dev.ticking = true) (hopen : s.dev.tick.tickDone = false)
    (hdone : s.dev.slotsDone = true) (hdue : s.dev.tick.due ≤ s.dev.get F.TCK_TN_TN)
    (hgo : s.dev.stopsBefore (s.dev.get F.TCK_TN_TN + 1) = false) :
    Answers .tickComplete s fun t => t.dev.tick.tickDone = true ∧ State.onlyFields [] s t := by
  have hexec := onDev_powered Dev.tickComplete s hs
  obtain ⟨hcore, htick, hsame⟩ := tickClosed_effect s.dev
  have hnum : s.dev.tickClosed.get F.TCK_TN_TN = s.dev.get F.TCK_TN_TN := sameCore_get hcore _
  rw [tickComplete_done s.dev hrun hopen hdone, afterTick_waits _ _ (by rw [hnum, htick]; exact hdue) (by rw [hnum, hsame, hgo])] at hexec
  exact ⟨_, hexec, congrArg TickSt.tickDone htick, onlyFields_of_dev (onlyRegs_core _ hcore)⟩

/-- Settles O10: a boundary in OFF, one of a late tick, those of a finished tick, and the two ends of a tick at TICK_COMPLETE. -/
theorem periodsTicksAndSlip : Obligations.PeriodsTicksAndSlip :=
  ⟨boundary_off, boundary_late, boundary_next_tick, boundary_next_image_tick, complete_parks, complete_waits⟩

end Sys2Proof.Machine
end

section
/-! SUPPORT. What a stream's slot that starts, a tick fault, and a packet that is sent or accepted leave behind (R65, R256, R262, R392). -/

namespace Sys2Proof.Machine

open Sys2Proof

/-! ### Slots that start (R65) -/

/-- A stream that has a position stands where it was put. -/
theorem pos_setPos {x : PartSt} {engine index : Nat} {q : StreamPos} (h : x.pos engine index = some q) (n : Nat) (b : Bool) :
    (x.setPos ⟨engine, index, n, b⟩).pos engine index = some ⟨engine, index, n, b⟩ := by
  have hq := List.find?_some h
  rw [Bool.and_eq_true, beq_iff_eq, beq_iff_eq] at hq
  have hsame : ((fun s : StreamPos => s.engine == engine && s.index == index) ∘
      fun r => if r.engine = engine ∧ r.index = index then ⟨engine, index, n, b⟩ else r) = fun s => s.engine == engine && s.index == index := by
    funext r
    dsimp only [Function.comp]
    split <;> simp_all
  unfold PartSt.pos PartSt.setPos at *
  rw [List.find?_map, hsame, h]
  exact congrArg some (if_pos hq)

/-- The slot that is ready is its stream's next, at the position where the stream stands. -/
theorem slotReady_pos {d : Dev} {p engine index op : Nat} {r : SlotRef} {sl : Slot} (h : d.slotReady p engine index op = some (r, sl)) :
    ∃ q, (d.part p).pos engine index = some q ∧ r = ⟨p, engine, index, q.next⟩ := by
  unfold Dev.slotReady at h
  split at h
  · rename_i q s hnext
    split at h
    · have hr : r = ⟨p, engine, index, q.next⟩ := (congrArg Prod.fst (Option.some.inj h)).symm
      refine ⟨q, ?_, hr⟩
      unfold Dev.nextSlot at hnext
      split at hnext
      · cases hnext
      · split at hnext
        · rename_i hpos
          split at hnext
          · split at hnext
            · cases hnext
              exact hpos
            · cases hnext
          · cases hnext
        · cases hnext
    · cases h
  · cases h

/-- A slot that starts is marked as started. -/
theorem startSlot_started {d : Dev} {p engine index op : Nat} {r : SlotRef} {sl : Slot} (h : d.slotReady p engine index op = some (r, sl)) :
    (d.startSlot r).slotStarted p engine index r := by
  obtain ⟨q, hpos, rfl⟩ := slotReady_pos h
  unfold Dev.slotStarted Dev.startSlot
  rw [part_setPart, if_pos rfl]
  exact pos_setPos hpos _ _

/-- A slot that starts has its effect; one whose effect must wait does not start. -/
theorem slotRun_starts {d : Dev} {p engine index op : Nat} {r : SlotRef} {sl : Slot} (h : d.slotStarts p engine index op r sl)
    (f : SlotRef → Slot → Dev → Option Dev) : d.slotRun p engine index op f = (f r sl (d.startSlot r)).getD d := by
  obtain ⟨hready, hquench⟩ := h
  unfold Dev.slotRun
  rw [hready]
  dsimp only
  rw [if_neg (ne_true_of_eq_false hquench)]
  cases f r sl (d.startSlot r) <;> rfl

/-! ### Tick faults (R392, R393) -/

/-- The registers of a tick fault as it is noted: the first one in full, of a later one that there are more. -/
def Dev.faultNoted (d : Dev) (r : SlotRef) (status kind addr : Nat) : Dev :=
  if d.on F.RAS_TF_VALID then d.put F.RAS_TF_MORE 1
  else d.puts [(F.RAS_TF_VALID, 1), (F.RAS_TF_PART, r.part), (F.RAS_TF_ENGINE, r.engine), (F.RAS_TF_INDEX, r.index),
    (F.RAS_TF_SLOT, r.slot), (F.RAS_TF_STATUS, status), (F.RAS_TF_ADDR_KIND, kind), (F.RAS_TF_ADDR_ADDR, addr),
    (F.RAS_TF_TN_TN, d.get F.TCK_TN_TN)]

/-- The device with its tick quenched, where it has one. -/
def Dev.quenched (d : Dev) : Dev := d.withTick { d.tick with quench := d.tick.quench || d.ticking || d.tickState == tsResuming }

theorem tickFault_eq (d : Dev) (r : SlotRef) (status kind addr : Nat) : ∃ detail : List Nat,
    d.tickFault r status kind addr = ((d.faultNoted r status kind addr).raise evTickFault status r.part detail).quenched.assertHold hcFault := by
  unfold Dev.tickFault
  extract_lets a b c
  have hnoted : a = d.faultNoted r status kind addr := by
    unfold Dev.faultNoted
    with_reducible rfl
  have hraised : b = (d.faultNoted r status kind addr).raise evTickFault status r.part
      [r.part, r.engine, r.index, r.slot, kind * 2 ^ 56 + addr % 2 ^ 56] := by
    rw [← hnoted]
  refine ⟨[r.part, r.engine, r.index, r.slot, kind * 2 ^ 56 + addr % 2 ^ 56], ?_⟩
  rw [← hraised]
  clear_value b
  rfl

theorem faultNoted_frame (d : Dev) (r : SlotRef) (status kind addr : Nat) :
    Dev.onlyRegs faultFields d (d.faultNoted r status kind addr) := by
  unfold Dev.faultNoted
  split
  · exact onlyRegs_put _ _ _ _ (by simp [faultFields])
  · exact onlyRegs_mono (onlyRegs_puts d _) (by simp [faultFields])

theorem faultFields_away : ∀ f ∈ faultFields, f.awayFromEvents := by
  simp [faultFields, Fld.awayFromEvents, Fld.key, F.RAS_TF_VALID, F.RAS_TF_MORE, F.RAS_TF_PART, F.RAS_TF_ENGINE, F.RAS_TF_INDEX, F.RAS_TF_SLOT,
    F.RAS_TF_STATUS, F.RAS_TF_ADDR_KIND, F.RAS_TF_ADDR_ADDR, F.RAS_TF_TN_TN, F.RAS_EVSEQ_NEXT]

/-- A tick fault raises its one event, and in memory writes that event's rings. -/
theorem tickFault_event (d : Dev) (r : SlotRef) (status kind addr : Nat) :
    (∃ e : Event, (d.tickFault r status kind addr).events = e :: d.events ∧ e.cls = evTickFault ∧ e.status = status) ∧
      Dev.sameMemButRings [] d (d.tickFault r status kind addr) := by
  obtain ⟨detail, heq⟩ := tickFault_eq d r status kind addr
  have hnoted := faultNoted_frame d r status kind addr
  have haway := ringFree_of_away faultFields_away
  obtain ⟨e, hone, hcls, hstatus, -⟩ := raise_one_after hnoted haway evTickFault status r.part detail
  obtain ⟨hmem, hsram⟩ := raise_mem_after hnoted haway evTickFault status r.part detail
  rw [heq]
  generalize (d.faultNoted r status kind addr).raise evTickFault status r.part detail = b at *
  obtain ⟨-, hkept, hlocal, hevents⟩ := assertHold_frame b.quenched hcFault
  exact ⟨⟨e, hevents.trans hone, hcls, hstatus⟩, fun x hx hl => (congrArg (Mem.byte · x) hkept).trans (hmem x hx hl), hlocal.trans hsram⟩

/-- A command on the device that faults the tick, once it has written some registers outside the rings' block. -/
theorem tickFault_answer {l : List Fld} {c : Instr} {s : State} {b : Dev} {r : SlotRef} {status kind addr : Nat}
    (h : exec c s = .next { s with dev := b.tickFault r status kind addr }) (hframe : Dev.onlyRegs l s.dev b) (hl : ∀ f ∈ l, f.awayFromEvents) :
    Answers c s fun t =>
      t.dev.held hcFault = true ∧ (∃ e : Event, t.dev.events = e :: s.dev.events ∧ e.cls = evTickFault ∧ e.status = status) ∧
        Dev.sameRegsBut (faultFields ++ eventFields ++ holdFields) b t.dev ∧ State.onlyFieldsEv (l ++ faultFields ++ holdFields) s t := by
  obtain ⟨hregs, hmem, hsram, hevents⟩ := hframe
  obtain ⟨hevent, hrings⟩ := tickFault_event b r status kind addr
  have hfault := tickFault_regs b r status kind addr
  refine ⟨_, h, tickFault_held b r status kind addr, hevents ▸ hevent, hfault, onlyFieldsEv_of_dev ?_ ?_⟩
  · refine sameRegsBut_trans (sameRegsBut_mono hregs ?_) (sameRegsBut_mono hfault ?_)
    · exact fun f hf => by simp [hf]
    · exact fun f hf => by simp only [List.mem_append] at hf ⊢; tauto
  · exact sameMemButRings_trans (sameMemButRings_same hmem hsram) hrings ((ringFree_of_away hl).inEventRing hregs)

/-! ### Packets that are accepted and sent (R256, R262) -/

/-- Accepting a packet changes its port's hidden state. -/
theorem accept_effect (d : Dev) (p : Nat) :
    Dev.sameCore d (d.accept p) ∧ ((d.accept p).port p).rxSeq = ((d.port p).rxSeq + 1) % 4096 :=
  ⟨⟨rfl, rfl, rfl, rfl⟩, by rw [Dev.accept, port_setPort, if_pos rfl]⟩

/-- Bytes sent move no direction to another port. -/
theorem outPort_left {a b : Dev} (h : Dev.packetsLeft a b) (dir : Nat) : b.outPort dir none = a.outPort dir none := by
  have hmap : ∀ f ∈ [F.GTE_PMAP_PRI, F.GTE_PMAP_ALT], b.get f = a.get f := fun f hf => h.1.1 f fun g hg => by
    obtain ⟨q, -, rfl⟩ := List.mem_map.mp hg
    revert f
    simp [Fld.key, F.GTE_PMAP_PRI, F.GTE_PMAP_ALT, F.GTE_PSTAT0_SENT]
    omega
  have hports : b.dirPorts dir = a.dirPorts dir := by
    unfold Dev.dirPorts Dev.portsOf
    rw [hmap F.GTE_PMAP_PRI (by simp), hmap F.GTE_PMAP_ALT (by simp)]
  have hup : b.portUp = a.portUp := funext fun p => congrArg (· == 4) (packetsLeft_state h p)
  unfold Dev.outPort
  rw [hports, hup]
  rfl

/-- A direction with a port that is UP holds no LINK. -/
theorem linkWatch_up (d : Dev) {dir q : Nat} (h : d.outPort dir none = some q) : d.linkWatch dir = d := by
  unfold Dev.linkWatch
  rw [h]
  simp

/-- Where nothing waits and the port is free, a packet leaves at once. -/
theorem sendPkt_leaves (d : Dev) (w : WaitPkt) (q : Nat) (hwait : d.gate.waiting = []) (hout : d.outPort w.dir w.expect = some q)
    (hfree : d.mayTransmit q w.hdr w.data.length = true) : d.sendPkt w = d.transmit q w.hdr w.data := by
  unfold Dev.sendPkt
  dsimp only
  rw [hwait, if_neg (by simp), hout]
  exact if_pos hfree

/-- A packet that leaves counts its bytes at its port. -/
theorem transmit_effect (d : Dev) (q hdr : Nat) (data : List Byte) :
    Dev.onlyRegs [F.GTE_PSTAT0_SENT q] d (d.transmit q hdr data) ∧ (d.transmit q hdr data).outs = .packet q hdr data :: d.outs ∧
      (d.transmit q hdr data).parts = d.parts ∧
      (d.transmit q hdr data).get (F.GTE_PSTAT0_SENT q) = min (2 ^ 64 - 1) (d.get (F.GTE_PSTAT0_SENT q) + data.length) := by
  refine ⟨onlyRegs_trans (b := d.setPort q _) (onlyRegs_core _ ⟨rfl, rfl, rfl, rfl⟩)
    (onlyRegs_trans (onlyRegs_bump _ _ _) (onlyRegs_core _ ⟨rfl, rfl, rfl, rfl⟩)), rfl, rfl, ?_⟩
  refine (get_bump (d.setPort q _) _ _ data.length).trans ((if_pos rfl).trans (Nat.mod_eq_of_lt ?_))
  exact Nat.lt_of_le_of_lt (Nat.min_le_left _ _) (Nat.sub_lt (Nat.two_pow_pos _) one_pos)

/-! ### Bytes in memory -/

@[simp] theorem fitBytes_length (n : Nat) (l : List Byte) : (fitBytes n l).length = n := by
  simp [fitBytes]
  omega

@[simp] theorem dev_read_length (d : Dev) (pa n : Nat) : (d.read pa n).length = n := by simp [Dev.read, Mem.read]

/-- Bytes written are read. -/
theorem read_write (d : Dev) (pa : Nat) (data : List Byte) : (d.write pa data).read pa data.length = data := by
  refine List.ext_getElem (dev_read_length _ _ _) fun i hi hdata => ?_
  have hbyte := dev_write_byte d pa (pa + i) data
  rw [if_pos (by omega), Nat.add_sub_cancel_left, List.getD_eq_getElem _ _ hdata] at hbyte
  simpa [Dev.read, Mem.read] using hbyte

end Sys2Proof.Machine
end

section
/-! PROOF. The proof of O43: scheduled sends, and the arrivals that their RECVs wait for (R44, R67, R263, R264, R265). -/

namespace Sys2Proof.Machine

open Sys2Proof

/-! ### Sending (R263, R264) -/

/-- Up to 4 KiB go in one packet. -/
theorem packetsOf_one (f o : Nat) (b : List Byte) (h0 : 0 < b.length) (h : b.length ≤ 4096) : packetsOf (f + 1) o b = [(o, b)] := by
  have hrest : ∀ f o, packetsOf f o [] = [] := fun f o => by cases f <;> rfl
  have hne : b ≠ [] := List.ne_nil_of_length_pos h0
  rw [packetsOf, if_neg (by simpa using hne), List.take_of_length_le h, List.drop_eq_nil_of_le h, hrest]

/-- The packet that carries bytes on a route: offset 0, the rest of the route, one hop less. -/
def Dev.routeHdr (d : Dev) (r : Route) (stamp n : Nat) : Nat :=
  (⟨ptSched, 0, true, r.dest, d.rank, stamp, n, 0, r.hops - 1, r.ports / 16⟩ : Hdr).code

/-- A route whose port is free takes up to 4 KiB at once. -/
theorem sendRoute_leaves (d : Dev) (r : Route) (stamp q : Nat) (b : List Byte) (h0 : 0 < b.length) (h : b.length ≤ 4096)
    (hout : d.outPort (r.ports % 16) none = some q) (hwait : d.gate.waiting = [])
    (hfree : d.mayTransmit q (d.routeHdr r stamp b.length) b.length = true) :
    d.sendRoute r stamp 0 b = d.transmit q (d.routeHdr r stamp b.length) b := by
  obtain ⟨hq, hup⟩ := outPort_up hout
  have hsent : d.sendPkt ⟨r.ports % 16, none, d.routeHdr r stamp b.length, b⟩ = d.transmit q (d.routeHdr r stamp b.length) b :=
    sendPkt_leaves d _ q hwait hout hfree
  have hstill := (outPort_left (transmit_left d q (d.routeHdr r stamp b.length) b hq hup) (r.ports % 16)).trans hout
  unfold Dev.sendRoute
  dsimp only
  rw [packetsOf_one _ _ b h0 h, List.foldl_cons, List.foldl_nil]
  exact (congrArg (Dev.linkWatch · (r.ports % 16)) hsent).trans (linkWatch_up _ hstill)

/-- A SEND of one run without a split sends its bytes on its route. -/
theorem sendSlot_one (d : Dev) (p port : Nat) (r : SlotRef) (sl : Slot) (pa : Nat) (a : Route) (sg : Segment)
    (ha : routeOf ((((d.part p).running.map Image.routes).getD []).getD sl.route []) = a)
    (hsg : (d.imageSegs p).getD sl.seg ⟨0, 0, 0, []⟩ = sg) (hsplit : a.splitN = 0) (hlacks : d.routeLacks a = false)
    (hruns : extentRuns sg.extents (sg.base + sl.offset) sl.length = [(pa, sl.length)]) (hstall : d.runsWait [(pa, sl.length)] = false)
    (hread : d.readStatus pa sl.length false = (stOk, d)) :
    d.sendSlot p port false r sl = some (d.sendRoute a ((d.get F.TCK_TN_TN + sl.delta) % 2 ^ 16) 0 (d.read pa sl.length)) := by
  have hready : d.readRuns [(pa, sl.length)] false = (stOk, d) := by
    unfold Dev.readRuns
    rw [hread]
    rfl
  have hall : (d.read pa sl.length ++ []).take (splitAt a sl.length) = d.read pa sl.length := by
    rw [List.append_nil, splitAt, if_pos hsplit, List.take_of_length_le (dev_read_length d pa _).le]
  unfold Dev.sendSlot
  dsimp only
  rw [ha, hsg, hruns, if_neg (by simp [hlacks, hsplit]), if_neg (ne_true_of_eq_false hstall), hready]
  simp only [stOk]
  rw [if_pos hsplit, List.flatMap_cons, List.flatMap_nil, hall]

/-- A SEND of up to 4 KiB whose port is up and free leaves as one packet with the stamp of its arrival tick. -/
theorem send_leaves (s : State) (p : Fin 8) (port : Fin 12) (r : SlotRef) (sl : Slot) (pa q : Nat) (hs : s.powered)
    (hstarts : s.dev.slotStarts p engGate port opSend r sl) :
    let d := s.dev.startSlot r
    let a := routeOf ((((d.part p).running.map Image.routes).getD []).getD sl.route [])
    let sg := (d.imageSegs p).getD sl.seg ⟨0, 0, 0, []⟩
    let out := (⟨ptSched, 0, true, a.dest, d.rank, (d.get F.TCK_TN_TN + sl.delta) % 2 ^ 16, sl.length, 0, a.hops - 1, a.ports / 16⟩ : Hdr).code
    a.splitN = 0 → d.routeLacks a = false → extentRuns sg.extents (sg.base + sl.offset) sl.length = [(pa, sl.length)] → 0 < sl.length →
    sl.length ≤ 4096 → d.runsWait [(pa, sl.length)] = false → d.readStatus pa sl.length false = (stOk, d) →
    d.outPort (a.ports % 16) none = some q → d.gate.waiting = [] → d.mayTransmit q out sl.length = true →
    Answers (.send p port false) s fun t =>
      t.dev.slotStarted p engGate port r ∧ t.dev.outs = .packet q out (s.dev.read pa sl.length) :: s.dev.outs ∧
        t.dev.get (F.GTE_PSTAT0_SENT q) = min (2 ^ 64 - 1) (s.dev.get (F.GTE_PSTAT0_SENT q) + sl.length) ∧
        State.onlyFields [F.GTE_PSTAT0_SENT q] s t := by
  intro d a sg out hsplit hlacks hruns h0 hlen hstall hread hout hwait hfree
  have hbytes : (d.read pa sl.length).length = sl.length := dev_read_length d pa _
  have hsend := sendSlot_one d p port r sl pa a sg rfl rfl hsplit hlacks hruns hstall hread
  have hroute := sendRoute_leaves d a ((d.get F.TCK_TN_TN + sl.delta) % 2 ^ 16) q (d.read pa sl.length) (by rwa [hbytes]) (by rwa [hbytes]) hout
    hwait (by rw [hbytes]; exact hfree)
  have hexec := onDev_powered (Dev.slotRun p engGate port opSend fun r sl d => d.sendSlot p port false r sl) s hs
  rw [slotRun_starts hstarts, show s.dev.startSlot r = d from rfl, hsend, hroute, hbytes] at hexec
  obtain ⟨hframe, houts, hparts, hsent⟩ := transmit_effect d q (d.routeHdr a ((d.get F.TCK_TN_TN + sl.delta) % 2 ^ 16) sl.length)
    (d.read pa sl.length)
  have hstart : Dev.sameCore s.dev d := ⟨rfl, rfl, rfl, rfl⟩
  refine ⟨_, hexec, ?_, houts, ?_, onlyFields_of_dev (onlyRegs_trans (onlyRegs_core _ hstart) hframe)⟩
  · have hstarted := startSlot_started hstarts.1
    unfold Dev.slotStarted Dev.part at hstarted ⊢
    exact (congrArg (fun ps => (Table.get (fun _ => PartSt.reset) ps (p : Nat)).pos engGate port) hparts).trans hstarted
  · exact hsent.trans (by rw [hbytes, sameCore_get hstart])

/-! ### Receiving (R43, R67) -/

/-- A RECV ends once all its bytes are in; before that it waits, and faults the tick where its transfer is over. -/
theorem recv_ends (s : State) (p : Fin 8) (port : Fin 12) (r : SlotRef) (sl : Slot) (hs : s.powered)
    (hstarts : s.dev.slotStarts p engGate port opRecv r sl) :
    let d := s.dev.startSlot r
    let got := gotBytes (d.recvOf p port r.slot (d.get F.TCK_TN_TN)).got
    (∀ ended : Bool, sl.length ≤ got →
      Answers (.recv p port ended) s fun t => t.dev.slotStarted p engGate port r ∧ State.onlyFields [] s t) ∧
    (got < sl.length →
      Answers (.recv p port false) s (fun t => t = s) ∧
      Answers (.recv p port true) s fun t =>
        t.dev.held hcFault = true ∧ (∃ e : Event, t.dev.events = e :: s.dev.events ∧ e.cls = evTickFault ∧ e.status = stBounds) ∧
          State.onlyFieldsEv (faultFields ++ holdFields) s t) := by
  intro d got
  have hstart : Dev.sameCore s.dev d := ⟨rfl, rfl, rfl, rfl⟩
  have hexec : ∀ ended, exec (.recv p port ended) s = .next { s with dev := (d.recvSlot p port ended r sl).getD s.dev } := fun ended => by
    rw [← slotRun_starts hstarts (fun r sl d => d.recvSlot p port ended r sl)]
    exact onDev_powered (Dev.slotRun p engGate port opRecv fun r sl d => d.recvSlot p port ended r sl) s hs
  refine ⟨fun ended hall => ?_, fun hpart => ⟨?_, ?_⟩⟩
  · have hends : d.recvSlot p port ended r sl = some d := if_pos hall
    have hnext := hexec ended
    rw [hends] at hnext
    exact ⟨_, hnext, startSlot_started hstarts.1, onlyFields_of_dev (onlyRegs_core _ hstart)⟩
  · have hwaits : d.recvSlot p port false r sl = none := (if_neg (Nat.not_le.mpr hpart)).trans (if_neg Bool.false_ne_true)
    have hnext := hexec false
    rw [hwaits] at hnext
    exact ⟨_, hnext, rfl⟩
  · have hfaults : d.recvSlot p port true r sl = some (d.tickFault r stBounds 3 port) := (if_neg (Nat.not_le.mpr hpart)).trans (if_pos rfl)
    have hnext := hexec true
    rw [hfaults] at hnext
    obtain ⟨t, ht, hheld, hevent, -, hkeeps⟩ := tickFault_answer hnext (onlyRegs_core [] hstart) (by simp)
    exact ⟨t, ht, hheld, hevent, hkeeps⟩

/-! ### Arrivals (R44, R264, R265) -/

/-- How many ticks after this one a stamp lies, modulo 65,536. -/
def Dev.stampAhead (d : Dev) (h : Hdr) : Nat := (h.tag + 2 ^ 16 - d.get F.TCK_TN_TN % 2 ^ 16) % 2 ^ 16

/-- A delivered scheduled packet of an admitted source, by rank and stamp. -/
theorem schedPacket_admitted {d : Dev} {p hdr : Nat} {h : Hdr} (data : List Byte) (hd : d.delivered p hdr ptSched = some h)
    (ha : d.admits p h.src = true) :
    d.schedPacket p hdr data =
      if h.dst ≠ d.rank then ((d.accept p).bump F.GTE_DROPS_MISDELIVER 1).gateFault p
      else if 2 ≤ d.stampAhead h ∧ d.stampAhead h < 2 ^ 15 then d
      else if 2 ^ 15 ≤ d.stampAhead h then (d.accept p).raise evTick stOk p [h.tag, h.src]
      else if d.tick.quench then d.accept p
      else if d.deliverWaits p h.src (d.get F.TCK_TN_TN + d.stampAhead h) h.addr h.len then d
      else (d.accept p).deliver p h.src (d.get F.TCK_TN_TN + d.stampAhead h) h.addr (fitBytes h.len data) := by
  unfold Dev.schedPacket
  rw [hd]
  exact if_neg (by simp [ha])

/-- A packet for this tick or the next that need not wait is delivered. -/
theorem schedPacket_delivers {d : Dev} {p hdr : Nat} {h : Hdr} (data : List Byte) (hd : d.delivered p hdr ptSched = some h)
    (ha : d.admits p h.src = true) (hdst : h.dst = d.rank) (hsoon : d.stampAhead h < 2) (hquench : d.tick.quench = false)
    (hwaits : d.deliverWaits p h.src (d.get F.TCK_TN_TN + d.stampAhead h) h.addr h.len = false) :
    d.schedPacket p hdr data = (d.accept p).deliver p h.src (d.get F.TCK_TN_TN + d.stampAhead h) h.addr (fitBytes h.len data) := by
  rw [schedPacket_admitted data hd ha, if_neg (not_not.mpr hdst), if_neg (by omega), if_neg (by omega), if_neg (ne_true_of_eq_false hquench),
    if_neg (ne_true_of_eq_false hwaits)]

theorem gateFault_eq (d : Dev) (p : Nat) : d.gateFault p = d.draw.2.tickFault ⟨0, 0, 0, 0⟩ (Config.freeNat d.draw.1 % 256) 3 p := rfl

theorem misdeliver_ne : ∀ g ∈ faultFields ++ holdFields, F.GTE_DROPS_MISDELIVER.key ≠ g.key := by
  simp [faultFields, holdFields, Fld.key, F.GTE_DROPS_MISDELIVER, F.RAS_TF_VALID, F.RAS_TF_MORE, F.RAS_TF_PART, F.RAS_TF_ENGINE, F.RAS_TF_INDEX,
    F.RAS_TF_SLOT, F.RAS_TF_STATUS, F.RAS_TF_ADDR_KIND, F.RAS_TF_ADDR_ADDR, F.RAS_TF_TN_TN, F.TCK_STATUS_CAUSES, F.TCK_STATUS_STATE,
    F.TCK_STATUS_DCAUSES]

/-- A packet at the wrong rank is dropped and counted, and the tick is faulted. -/
theorem arrival_misdelivered (s : State) (p : Fin 12) (hdr : Header) (data : List Byte) (h : Hdr) (hs : s.powered)
    (hd : s.dev.delivered p hdr.toNat ptSched = some h) (ha : s.dev.admits p h.src = true) (hdst : h.dst ≠ s.dev.rank) :
    Answers (.schedPacket p hdr data) s fun t =>
      t.dev.held hcFault = true ∧ t.dev.get F.GTE_DROPS_MISDELIVER = min (2 ^ 16 - 1) (s.dev.get F.GTE_DROPS_MISDELIVER + 1) ∧
        State.onlyFieldsEv (F.GTE_DROPS_MISDELIVER :: faultFields ++ holdFields) s t := by
  have hexec := onDev_powered (fun d => d.schedPacket p hdr.toNat data) s hs
  obtain ⟨hcore, -⟩ := accept_effect s.dev p
  rw [schedPacket_admitted data hd ha, if_pos hdst, gateFault_eq] at hexec
  have haway : ∀ f ∈ [F.GTE_DROPS_MISDELIVER], f.awayFromEvents := by
    simp [Fld.awayFromEvents, Fld.key, F.GTE_DROPS_MISDELIVER, F.RAS_EVSEQ_NEXT]
  have hframe : Dev.onlyRegs [F.GTE_DROPS_MISDELIVER] s.dev ((s.dev.accept p).bump F.GTE_DROPS_MISDELIVER 1).draw.2 :=
    onlyRegs_trans (onlyRegs_core _ hcore) (onlyRegs_trans (onlyRegs_bump _ _ _) (onlyRegs_core _ ⟨rfl, rfl, rfl, rfl⟩))
  obtain ⟨t, ht, hheld, -, hregs, hkeeps⟩ := tickFault_answer (c := .schedPacket p hdr data) hexec hframe haway
  refine ⟨t, ht, hheld, (hregs _ fun g hg => ?_).trans ?_, hkeeps⟩
  · rcases List.mem_append.mp hg with hg | hhold
    · rcases List.mem_append.mp hg with hfault | hevent
      · exact misdeliver_ne g (List.mem_append_left _ hfault)
      · exact awayFromEvents_ne (haway _ (by simp)) g hevent
    · exact misdeliver_ne g (List.mem_append_right _ hhold)
  · refine (get_bump (s.dev.accept p) _ _ 1).trans ((if_pos rfl).trans ?_)
    rw [sameCore_get hcore]
    exact Nat.mod_eq_of_lt (Nat.lt_of_le_of_lt (Nat.min_le_left _ _) (by decide))

/-- A packet of a later tick stays at its sender. -/
theorem arrival_early (s : State) (p : Fin 12) (hdr : Header) (data : List Byte) (h : Hdr) (hs : s.powered)
    (hd : s.dev.delivered p hdr.toNat ptSched = some h) (ha : s.dev.admits p h.src = true) (hdst : h.dst = s.dev.rank)
    (h2 : 2 ≤ s.dev.stampAhead h) (h15 : s.dev.stampAhead h < 2 ^ 15) : Answers (.schedPacket p hdr data) s fun t => t = s := by
  have hexec := onDev_powered (fun d => d.schedPacket p hdr.toNat data) s hs
  rw [schedPacket_admitted data hd ha, if_neg (not_not.mpr hdst), if_pos ⟨h2, h15⟩] at hexec
  exact ⟨_, hexec, rfl⟩

/-- A packet of an earlier tick is accepted and dropped with a tick event. -/
theorem arrival_late (s : State) (p : Fin 12) (hdr : Header) (data : List Byte) (h : Hdr) (hs : s.powered)
    (hd : s.dev.delivered p hdr.toNat ptSched = some h) (ha : s.dev.admits p h.src = true) (hdst : h.dst = s.dev.rank)
    (h15 : 2 ^ 15 ≤ s.dev.stampAhead h) :
    Answers (.schedPacket p hdr data) s fun t =>
      (t.dev.port p).rxSeq = ((s.dev.port p).rxSeq + 1) % 4096 ∧ Dev.raisedOne s.dev t.dev evTick stOk p [h.tag, h.src] ∧
        State.onlyFieldsEv [] s t := by
  have hexec := onDev_powered (fun d => d.schedPacket p hdr.toNat data) s hs
  rw [schedPacket_admitted data hd ha, if_neg (not_not.mpr hdst), if_neg (by omega), if_pos h15] at hexec
  obtain ⟨hcore, hseq⟩ := accept_effect s.dev p
  have hframe : Dev.onlyRegs [] s.dev (s.dev.accept p) := onlyRegs_core _ hcore
  have hfree : RingFree [] := by simp [RingFree]
  have hport : ((s.dev.accept p).raise evTick stOk p [h.tag, h.src]).port p = (s.dev.accept p).port p := by
    obtain ⟨_, _, _, _, _, _, _, _, hraise⟩ := raise_sameButEvent (s.dev.accept p) evTick stOk p [h.tag, h.src]
    rw [hraise]
    rfl
  exact ⟨_, hexec, (congrArg PortSt.rxSeq hport).trans hseq, raise_one_after hframe hfree _ _ _ _,
    onlyFieldsEv_of_dev (raise_regs_after hframe.1 _ _ _ _) (raise_mem_after hframe hfree _ _ _ _)⟩

/-- The RECV that bytes of a transfer go to: the first that lacks them. -/
def Dev.recvTarget (d : Dev) (port src tn o n : Nat) : Option RecvSlot := (d.recvSlots port src tn).find? fun r => !d.recvHas tn o n r

/-- An accepted packet changes nothing of what the RECVs hold. -/
@[simp] theorem accept_recvOf (d : Dev) (p q port slot tn : Nat) : (d.accept p).recvOf q port slot tn = d.recvOf q port slot tn := rfl

/-- It goes where it went before it was accepted. -/
@[simp] theorem accept_recvTarget (d : Dev) (p port src tn o n : Nat) :
    (d.accept p).recvTarget port src tn o n = d.recvTarget port src tn o n := rfl

/-- Bytes within their RECV's LENGTH are written and noted. -/
theorem deliver_writes (d : Dev) (port src tn o pa : Nat) (data : List Byte) (r : RecvSlot)
    (ht : d.recvTarget port src tn o data.length = some r) (hlen : o + data.length ≤ r.s.length)
    (hruns : extentRuns r.seg.extents (r.seg.base + r.s.offset + o) data.length = [(pa, data.length)]) (hok : d.writeStatus pa data.length = stOk) :
    d.deliver port src tn o data = (d.write pa data).noteRecv (d.recvOf r.part r.port r.slot tn) o data.length := by
  have hstatus : d.writeRunsStatus [(pa, data.length)] = stOk := by
    unfold Dev.writeRunsStatus
    rw [if_pos hok]
    rfl
  have hwrite : d.writeRuns [(pa, data.length)] data = d.write pa data := by
    unfold Dev.writeRuns
    rw [List.take_length]
    rfl
  unfold Dev.deliver
  dsimp only
  rw [show (d.recvSlots port src tn).find? _ = some r from ht]
  dsimp only
  rw [if_neg (Nat.not_lt.mpr hlen), hruns, if_neg (not_not.mpr hstatus), hwrite]

/-- Bytes past their RECV's LENGTH fault the tick. -/
theorem deliver_past (d : Dev) (port src tn o : Nat) (data : List Byte) (r : RecvSlot)
    (ht : d.recvTarget port src tn o data.length = some r) (hlen : r.s.length < o + data.length) :
    d.deliver port src tn o data = d.tickFault ⟨r.part, engGate, r.port, r.slot⟩ stBounds 3 r.port := by
  unfold Dev.deliver
  dsimp only
  rw [show (d.recvSlots port src tn).find? _ = some r from ht]
  exact if_pos hlen

/-- A RECV's progress is that of its partition, port, slot and tick. -/
theorem recvOf_names (d : Dev) (p port slot tn : Nat) :
    (d.recvOf p port slot tn).part = p ∧ (d.recvOf p port slot tn).port = port ∧ (d.recvOf p port slot tn).slot = slot ∧
      (d.recvOf p port slot tn).tn = tn := by
  unfold Dev.recvOf
  cases hfind : d.gate.recvs.find? fun r => r.part == p && r.port == port && r.slot == slot && r.tn == tn with
  | none => exact ⟨rfl, rfl, rfl, rfl⟩
  | some x =>
    have hx := List.find?_some hfind
    simp only [Bool.and_eq_true, beq_iff_eq] at hx
    obtain ⟨⟨⟨hp, hport⟩, hslot⟩, htn⟩ := hx
    exact ⟨hp, hport, hslot, htn⟩

/-- Bytes noted stand first in their RECV's progress. -/
theorem recvOf_noteRecv (d : Dev) (x : RecvSt) (o n : Nat) :
    (d.noteRecv x o n).recvOf x.part x.port x.slot x.tn = { x with got := (o, n) :: x.got } := by
  have hgone : (d.gate.recvs.filter fun r => !(r.part == x.part && r.port == x.port && r.slot == x.slot && r.tn == x.tn)).find?
      (fun r => r.part == x.part && r.port == x.port && r.slot == x.slot && r.tn == x.tn) = none :=
    List.find?_eq_none.mpr fun r hr => by simpa only [Bool.not_eq_true', Bool.not_eq_true] using (List.mem_filter.mp hr).2
  unfold Dev.recvOf Dev.noteRecv
  dsimp only
  rw [List.find?_append, hgone]
  simp

/-- Noting bytes changes what the gates know of their RECVs. -/
theorem noteRecv_core (d : Dev) (x : RecvSt) (o n : Nat) : Dev.sameCore d (d.noteRecv x o n) := ⟨rfl, rfl, rfl, rfl⟩

/-- Bytes of this tick or the next are written at their offset into the first RECV that lacks them. -/
theorem arrival_written (s : State) (p : Fin 12) (hdr : Header) (data : List Byte) (h : Hdr) (r : RecvSlot) (pa : Nat) (hs : s.powered)
    (hd : s.dev.delivered p hdr.toNat ptSched = some h) (ha : s.dev.admits p h.src = true) (hdst : h.dst = s.dev.rank)
    (hsoon : s.dev.stampAhead h < 2) (hquench : s.dev.tick.quench = false) :
    let tn := s.dev.get F.TCK_TN_TN + s.dev.stampAhead h
    s.dev.deliverWaits p h.src tn h.addr h.len = false → s.dev.recvTarget p h.src tn h.addr h.len = some r → h.addr + h.len ≤ r.s.length →
    extentRuns r.seg.extents (r.seg.base + r.s.offset + h.addr) h.len = [(pa, h.len)] → s.dev.writeStatus pa h.len = stOk →
    Answers (.schedPacket p hdr data) s fun t =>
      t.dev.read pa h.len = fitBytes h.len data ∧
        (t.dev.recvOf r.part r.port r.slot tn).got = (h.addr, h.len) :: (s.dev.recvOf r.part r.port r.slot tn).got ∧
        State.sameBut s t ∧ Dev.sameRegsBut [] s.dev t.dev ∧ Dev.sameMemBut [(pa, h.len)] s.dev t.dev ∧ t.dev.sram = s.dev.sram := by
  intro tn hwaits ht hlen hruns hok
  have hexec := onDev_powered (fun d => d.schedPacket p hdr.toNat data) s hs
  have hn := fitBytes_length h.len data
  rw [schedPacket_delivers data hd ha hdst hsoon hquench hwaits] at hexec
  generalize fitBytes h.len data = bytes at *
  have hwrites := deliver_writes (s.dev.accept p) p h.src tn h.addr pa bytes r (by rw [hn, accept_recvTarget]; exact ht) (by rwa [hn]) (by rwa [hn])
    (by rw [hn]; exact hok)
  obtain ⟨hpart, hport, hslot, htn⟩ := recvOf_names s.dev r.part r.port r.slot tn
  obtain ⟨haccept, -⟩ := accept_effect s.dev p
  have hregs : ∀ f, ((s.dev.accept p).write pa bytes).get f = s.dev.get f := fun f => (write_get _ _ _ f).trans (sameCore_get haccept f)
  have hsram : ((s.dev.accept p).write pa bytes).sram = s.dev.sram := write_sram _ _ _
  have hbyte := fun x => dev_write_byte (s.dev.accept p) pa x bytes
  have hread := read_write (s.dev.accept p) pa bytes
  rw [hwrites, accept_recvOf] at hexec
  generalize (s.dev.accept p).write pa bytes = e at *
  have hnoted := recvOf_noteRecv e (s.dev.recvOf r.part r.port r.slot tn) h.addr bytes.length
  have hcore := noteRecv_core e (s.dev.recvOf r.part r.port r.slot tn) h.addr bytes.length
  rw [hpart, hport, hslot, htn] at hnoted
  generalize e.noteRecv (s.dev.recvOf r.part r.port r.slot tn) h.addr bytes.length = w at *
  obtain ⟨-, hmem, hlocal, -⟩ := id hcore
  simp only [hn] at hread hbyte hnoted
  refine ⟨_, hexec, (congrArg (Mem.read · pa h.len) hmem).trans hread, congrArg RecvSt.got hnoted, ⟨rfl, rfl, rfl⟩,
    fun f _ => (sameCore_get hcore f).trans (hregs f), fun x hx => ?_, hlocal.trans hsram⟩
  have hout := hx (pa, h.len) (by simp)
  exact (congrArg (Mem.byte · x) hmem).trans ((hbyte x).trans (if_neg (by omega)))

/-- Bytes past the LENGTH of their RECV fault the tick. -/
theorem arrival_past (s : State) (p : Fin 12) (hdr : Header) (data : List Byte) (h : Hdr) (r : RecvSlot) (hs : s.powered)
    (hd : s.dev.delivered p hdr.toNat ptSched = some h) (ha : s.dev.admits p h.src = true) (hdst : h.dst = s.dev.rank)
    (hsoon : s.dev.stampAhead h < 2) (hquench : s.dev.tick.quench = false) :
    let tn := s.dev.get F.TCK_TN_TN + s.dev.stampAhead h
    s.dev.deliverWaits p h.src tn h.addr h.len = false → s.dev.recvTarget p h.src tn h.addr h.len = some r → r.s.length < h.addr + h.len →
    Answers (.schedPacket p hdr data) s fun t => t.dev.held hcFault = true ∧ State.onlyFieldsEv (faultFields ++ holdFields) s t := by
  intro tn hwaits ht hlen
  have hexec := onDev_powered (fun d => d.schedPacket p hdr.toNat data) s hs
  have hn := fitBytes_length h.len data
  obtain ⟨hcore, -⟩ := accept_effect s.dev p
  rw [schedPacket_delivers data hd ha hdst hsoon hquench hwaits,
    deliver_past (s.dev.accept p) p h.src tn h.addr (fitBytes h.len data) r (by rw [hn, accept_recvTarget]; exact ht) (by rwa [hn])] at hexec
  obtain ⟨t, ht', hheld, -, -, hkeeps⟩ := tickFault_answer (c := .schedPacket p hdr data) hexec (onlyRegs_core [] hcore) (by simp)
  exact ⟨t, ht', hheld, hkeeps⟩

/-- Settles O43: a SEND that leaves, the three ends of a RECV, and an arrival by rank, stamp and LENGTH. -/
theorem scheduledSendsAndArrivals : Obligations.ScheduledSendsAndArrivals := by
  refine ⟨send_leaves, recv_ends, fun s p hdr data h hs hd => ⟨?_, fun ha hdst => ⟨?_, ?_, ?_⟩⟩⟩
  · exact arrival_misdelivered s p hdr data h hs hd
  · exact arrival_early s p hdr data h hs hd ha hdst
  · exact arrival_late s p hdr data h hs hd ha hdst
  · intro hsoon hquench hwaits r ht
    exact ⟨fun pa hlen hruns hok => arrival_written s p hdr data h r pa hs hd ha hdst hsoon hquench hwaits ht hlen hruns hok,
      fun hlen => arrival_past s p hdr data h r hs hd ha hdst hsoon hquench hwaits ht hlen⟩

end Sys2Proof.Machine
end

section
/-! PROOF. The proof of O14: a slot waits, is quenched, starts, completes and overruns (R64, R65, R66, R71, R75, R76, R393). -/

namespace Sys2Proof.Machine

open Sys2Proof

/-! ### Waiting and quenched slots (R65, R393) -/

/-- Where no such slot may start, nothing changes. -/
theorem slotRun_waits {d : Dev} {p engine index op : Nat} (h : d.slotReady p engine index op = none) (f : SlotRef → Slot → Dev → Option Dev) :
    d.slotRun p engine index op f = d := by
  unfold Dev.slotRun
  rw [h]

/-- A quenched slot starts without its effect. -/
theorem slotRun_quenched {d : Dev} {p engine index op : Nat} {r : SlotRef} {sl : Slot} (h : d.slotReady p engine index op = some (r, sl))
    (hquench : d.tick.quench = true) (f : SlotRef → Slot → Dev → Option Dev) : d.slotRun p engine index op f = d.startSlot r := by
  unfold Dev.slotRun
  rw [h]
  exact if_pos hquench

/-- The slot commands, each with the engine, the index and the operation of its slot. -/
def slotCommands (p : Fin 8) (cl : Fin 384) (port : Fin 12) (sq : Fin 2) (ce : Fin 16) (eng : Fin 7) (idx : Nat) (b : Bool) :
    List (Instr × Nat × Nat × Nat) :=
  [(.nop p eng idx, eng.val, idx, opNop), (.matrixOperation p cl b, engTensor, cl.val, opMatrix),
    (.storeA48 p cl, engTensor, cl.val, opAccStore), (.loadA48 p cl b, engTensor, cl.val, opAccLoad),
    (.threadGroupLaunch p cl, engLaunch, cl.val, opLaunch), (.dataMoverTransfer p cl b, engMover, cl.val, opMover),
    (.send p port b, engGate, port.val, opSend), (.recv p port b, engGate, port.val, opRecv),
    (.collective p sq b, engSquare, sq.val, opCollective), (.scheduledCopy p ce b, engCopy, ce.val, opCopy),
    (.bestEffortWindow p ce, engCopy, ce.val, opWindow)]

/-- Each of them runs the next slot of its stream. -/
theorem slotCommand_exec {p : Fin 8} {cl : Fin 384} {port : Fin 12} {sq : Fin 2} {ce : Fin 16} {eng : Fin 7} {idx : Nat} {b : Bool}
    {c : Instr} {e i op : Nat} (h : (c, e, i, op) ∈ slotCommands p cl port sq ce eng idx b) :
    ∃ f : SlotRef → Slot → Dev → Option Dev, ∀ s, exec c s = onDev (Dev.slotRun p e i op f) s := by
  simp only [slotCommands, List.mem_cons, Prod.mk.injEq, List.not_mem_nil, or_false] at h
  rcases h with ⟨rfl, rfl, rfl, rfl⟩ | ⟨rfl, rfl, rfl, rfl⟩ | ⟨rfl, rfl, rfl, rfl⟩ | ⟨rfl, rfl, rfl, rfl⟩ | ⟨rfl, rfl, rfl, rfl⟩ |
    ⟨rfl, rfl, rfl, rfl⟩ | ⟨rfl, rfl, rfl, rfl⟩ | ⟨rfl, rfl, rfl, rfl⟩ | ⟨rfl, rfl, rfl, rfl⟩ | ⟨rfl, rfl, rfl, rfl⟩ | ⟨rfl, rfl, rfl, rfl⟩
  all_goals exact ⟨_, fun _ => rfl⟩

/-- A slot that starts leaves registers, memory and events alone. -/
theorem startSlot_frame (s : State) (r : SlotRef) : State.onlyFields [] s { s with dev := s.dev.startSlot r } :=
  onlyFields_of_dev (onlyRegs_core (b := s.dev.startSlot r) [] ⟨rfl, rfl, rfl, rfl⟩)

/-- A slot command whose slot may not start changes nothing; in a quenched tick it marks its slot as started. -/
theorem slotCommand_waits_or_quenched {c : Instr} {s : State} {p e i op : Nat} {f : SlotRef → Slot → Dev → Option Dev} (hs : s.powered)
    (hexec : exec c s = onDev (Dev.slotRun p e i op f) s) :
    (s.dev.slotReady p e i op = none → Answers c s fun t => t = s) ∧
      ∀ (r : SlotRef) (sl : Slot), s.dev.slotReady p e i op = some (r, sl) → s.dev.tick.quench = true →
        Answers c s fun t => t.dev.slotStarted p e i r ∧ State.onlyFields [] s t := by
  rw [onDev_powered _ s hs] at hexec
  refine ⟨fun hnone => ?_, fun r sl hready hquench => ?_⟩
  · rw [slotRun_waits hnone] at hexec
    exact ⟨_, hexec, rfl⟩
  · rw [slotRun_quenched hready hquench] at hexec
    exact ⟨_, hexec, startSlot_started hready, startSlot_frame s r⟩

/-- A slot without an effect of its own is marked as started (R64, R71). -/
theorem idleSlot_starts {c : Instr} {s : State} {p e i op : Nat} {r : SlotRef} {sl : Slot} (hs : s.powered)
    (hexec : exec c s = onDev (Dev.slotRun p e i op fun _ _ d => some d) s) (hstarts : s.dev.slotStarts p e i op r sl) :
    Answers c s fun t => t.dev.slotStarted p e i r ∧ State.onlyFields [] s t := by
  rw [onDev_powered _ s hs, slotRun_starts hstarts] at hexec
  exact ⟨_, hexec, startSlot_started hstarts.1, startSlot_frame s r⟩

/-! ### Completion (R65, R66) -/

/-- The next slot of a stream comes with the position where the stream stands. -/
theorem nextSlot_pos {d : Dev} {p engine index : Nat} {q : StreamPos} {sl : Slot} (h : d.nextSlot p engine index = some (q, sl)) :
    (d.part p).pos engine index = some q := by
  unfold Dev.nextSlot at h
  split at h
  · cases h
  · split at h
    · rename_i hpos
      split at h
      · split at h
        · cases h
          exact hpos
        · cases h
      · cases h
    · cases h

/-- So does a slot that has started. -/
theorem openSlot_pos {d : Dev} {p engine index : Nat} {q : StreamPos} {sl : Slot} (h : d.openSlot p engine index = some (q, sl)) :
    (d.part p).pos engine index = some q := by
  unfold Dev.openSlot at h
  split at h
  · rename_i hnext
    split at h
    · cases h
      exact nextSlot_pos hnext
    · cases h
  · cases h

/-- A stream's position names its engine and index. -/
theorem pos_names {x : PartSt} {engine index : Nat} {q : StreamPos} (h : x.pos engine index = some q) :
    q.engine = engine ∧ q.index = index := by
  simpa using List.find?_some h

/-- A partition with one more token set; SIGNAL 0xFF sets none. -/
def PartSt.signalled (x : PartSt) (k : Nat) : PartSt :=
  { x with tokens := if k = 0xFF || x.tokens.contains k then x.tokens else k :: x.tokens }

theorem mem_signalled_same {k : Nat} (x : PartSt) (h : k ≠ 0xFF) : k ∈ (x.signalled k).tokens := by
  unfold PartSt.signalled
  dsimp only
  split
  · simp_all
  · exact List.mem_cons_self

theorem mem_signalled_ne {k j : Nat} (x : PartSt) (h : j ≠ k) : j ∈ (x.signalled k).tokens ↔ j ∈ x.tokens := by
  unfold PartSt.signalled
  dsimp only
  split
  · rfl
  · simp [h]

/-- A started slot whose work has ended completes. -/
theorem slotComplete_ended {d : Dev} {p engine index : Nat} {q : StreamPos} {sl : Slot} (hopen : d.openSlot p engine index = some (q, sl))
    (hended : d.slotEnded p index q sl = true) :
    d.slotComplete p engine index = d.setPart p (((d.part p).setPos ⟨engine, index, q.next + 1, false⟩).signalled sl.signal) := by
  obtain ⟨rfl, rfl⟩ := pos_names (openSlot_pos hopen)
  unfold Dev.slotComplete
  rw [hopen]
  exact if_neg (by simp [hended])

theorem slot_completes (s : State) (p : Fin 8) (eng : Fin 7) (idx : Nat) (q : StreamPos) (sl : Slot) (hs : s.powered)
    (hopen : s.dev.openSlot p eng idx = some (q, sl)) (hended : s.dev.slotEnded p idx q sl = true) :
    Answers (.slotComplete p eng idx) s fun t =>
      (t.dev.part p).pos eng idx = some ⟨eng, idx, q.next + 1, false⟩ ∧ (sl.signal ≠ 0xFF → sl.signal ∈ (t.dev.part p).tokens) ∧
        (∀ k : Nat, k ≠ sl.signal → (k ∈ (t.dev.part p).tokens ↔ k ∈ (s.dev.part p).tokens)) ∧ State.onlyFields [] s t := by
  have hexec := onDev_powered (fun d => d.slotComplete p eng idx) s hs
  rw [slotComplete_ended hopen hended] at hexec
  generalize hx : (s.dev.part p).setPos ⟨eng, idx, q.next + 1, false⟩ = x at hexec
  have hpart : (s.dev.setPart p (x.signalled sl.signal)).part p = x.signalled sl.signal := (part_setPart _ _ _ _).trans (if_pos rfl)
  have hpos : x.pos eng idx = some ⟨eng, idx, q.next + 1, false⟩ := hx ▸ pos_setPos (openSlot_pos hopen) _ _
  have htokens : x.tokens = (s.dev.part p).tokens := hx ▸ rfl
  refine ⟨_, hexec, ?_⟩
  dsimp only
  rw [hpart, ← htokens]
  exact ⟨hpos, mem_signalled_same x, fun k hk => mem_signalled_ne x hk, onlyFields_of_dev (onlyRegs_core _ ⟨rfl, rfl, rfl, rfl⟩)⟩

/-! ### Overruns (R75, R76) -/

/-- The overrun record of a partition, outside DEBUG. -/
def overrunWrites (p engine index num excess tn : Nat) : List (Fld × Nat) :=
  [(F.SCH_OVR_ENGINE p, engine), (F.SCH_OVR_DEBUG p, 0), (F.SCH_OVR_MORE p, 0), (F.SCH_OVR_INDEX p, index), (F.SCH_OVR_SLOT p, num),
    (F.SCH_OVR_EXCESS p, min 0xFFFF excess), (F.SCH_OVR_TN_TN p, tn)]

theorem overrunRecord_nodup (p : Nat) : ((overrunRecord p).map Fld.key).Nodup := by
  simp [overrunRecord, Fld.key, F.SCH_OVR_ENGINE, F.SCH_OVR_DEBUG, F.SCH_OVR_MORE, F.SCH_OVR_INDEX, F.SCH_OVR_SLOT, F.SCH_OVR_EXCESS,
    F.SCH_OVR_TN_TN]
  omega

/-- The fields of an overrun record are none that an event or a HOLD writes. -/
theorem overrunRecord_far (p : Fin 8) : ∀ f ∈ overrunRecord p, f.awayFromEvents ∧ ∀ g ∈ holdFields, f.key ≠ g.key := by
  simp [overrunRecord, holdFields, Fld.awayFromEvents, Fld.key, F.SCH_OVR_ENGINE, F.SCH_OVR_DEBUG, F.SCH_OVR_MORE, F.SCH_OVR_INDEX,
    F.SCH_OVR_SLOT, F.SCH_OVR_EXCESS, F.SCH_OVR_TN_TN, F.RAS_EVSEQ_NEXT, F.TCK_STATUS_CAUSES, F.TCK_STATUS_STATE, F.TCK_STATUS_DCAUSES]
  omega

theorem overrunRecord_ringFree (p : Fin 8) : RingFree (overrunRecord p) := ringFree_of_away fun f hf => (overrunRecord_far p f hf).1

theorem causes_away : F.TCK_STATUS_CAUSES.awayFromEvents := by simp [Fld.awayFromEvents, Fld.key, F.TCK_STATUS_CAUSES, F.RAS_EVSEQ_NEXT]

/-- The device with the record written. -/
def Dev.overrunNoted (d : Dev) (p engine index num excess : Nat) : Dev :=
  d.puts (overrunWrites p engine index num excess (d.get F.TCK_TN_TN))

theorem overrunNoted_frame (d : Dev) (p engine index num excess : Nat) :
    Dev.onlyRegs (overrunRecord p) d (d.overrunNoted p engine index num excess) :=
  onlyRegs_puts_of (l := overrunWrites p engine index num excess (d.get F.TCK_TN_TN)) rfl d

/-- The record stands behind its event and the HOLD. -/
theorem overrunNoted_get {d : Dev} {p : Fin 8} {engine index num excess v : Nat} {f : Fld} (detail : List Nat)
    (hm : (f, v) ∈ overrunWrites p engine index num excess (d.get F.TCK_TN_TN)) :
    (((d.overrunNoted p engine index num excess).raise evSchedule stOverrun p detail).assertHold hcOverrun).get f = v % 2 ^ f.w := by
  obtain ⟨haway, hfar⟩ := overrunRecord_far p f (List.mem_map_of_mem (f := Prod.fst) hm)
  rw [(assertHold_frame _ _).1 f hfar, raise_get _ _ _ _ _ haway]
  exact get_puts_mem (fs := overrunRecord p) rfl (overrunRecord_nodup p) hm d

/-- The first overrun of a partition outside DEBUG: its record, its event, the HOLD. -/
theorem overrun_first {d : Dev} {p : Fin 8} (engine index num excess : Nat) (hfirst : d.overran p = false) (hdebug : d.held hcDebug = false) :
    ∃ detail : List Nat, d.overrun p engine index num excess =
      ((d.overrunNoted p engine index num excess).raise evSchedule stOverrun p detail).assertHold hcOverrun := by
  have hcauses := (overrunNoted_frame d p engine index num excess).1 F.TCK_STATUS_CAUSES fun g hg =>
    ((overrunRecord_far p g hg).2 _ (by simp [holdFields])).symm
  have hnoted : d.puts [(F.SCH_OVR_ENGINE p, engine), (F.SCH_OVR_DEBUG p, b2n false), (F.SCH_OVR_MORE p, 0), (F.SCH_OVR_INDEX p, index),
      (F.SCH_OVR_SLOT p, num), (F.SCH_OVR_EXCESS p, satTo 0xFFFF excess), (F.SCH_OVR_TN_TN p, d.get F.TCK_TN_TN)] =
      d.overrunNoted p engine index num excess := by
    rw [satTo_eq_min]
    rfl
  have hstill : ∀ detail, ((d.overrunNoted p engine index num excess).raise evSchedule stOverrun p detail).held hcDebug = false :=
    fun detail => by
      unfold Dev.held at hdebug ⊢
      rw [raise_get _ _ _ _ _ causes_away, hcauses]
      exact hdebug
  unfold Dev.overrun
  simp only [hfirst, hdebug, hnoted, Bool.false_and, Bool.false_eq_true, if_false, hstill]
  exact ⟨_, rfl⟩

/-- The frame of a command that writes some registers, raises an event and holds a cause. -/
theorem raise_assertHold_frame {l : List Fld} {s : State} {b : Dev} (h : Dev.onlyRegs l s.dev b) (hl : RingFree l)
    (cls status source : Nat) (detail : List Nat) (c : Nat) :
    State.onlyFieldsEv (l ++ holdFields) s { s with dev := (b.raise cls status source detail).assertHold c } := by
  have hregs := raise_regs_after h.1 cls status source detail
  obtain ⟨hmem, hsram⟩ := raise_mem_after h hl cls status source detail
  obtain ⟨khold, kmem, ksram, -⟩ := assertHold_frame (b.raise cls status source detail) c
  refine onlyFieldsEv_of_dev (sameRegsBut_trans (sameRegsBut_mono hregs fun f hf => ?_) (sameRegsBut_mono khold fun f hf => by simp [hf]))
    ⟨fun x hx hr => (congrArg (Mem.byte · x) kmem).trans (hmem x hx hr), ksram.trans hsram⟩
  exact (List.mem_append.mp hf).elim (fun h => by simp [h]) fun h => by simp [h]

theorem onlyFieldsEv_mono {l m : List Fld} {s t : State} (h : State.onlyFieldsEv l s t) (hs : ∀ f ∈ l, f ∈ m) : State.onlyFieldsEv m s t := by
  obtain ⟨hsame, hregs, hmem⟩ := h
  exact ⟨hsame, sameRegsBut_mono hregs fun f hf => List.mem_append.mpr ((List.mem_append.mp hf).imp_left (hs f)), hmem⟩

theorem slot_overruns (s : State) (p : Fin 8) (eng : Fin 7) (idx excess : Nat) (q : StreamPos) (sl : Slot) (hs : s.powered)
    (hopen : s.dev.openSlot p eng idx = some (q, sl)) (hexcess : 0 < excess) (hop : sl.op ≠ opNop) (hquench : s.dev.tick.quench = false)
    (hfirst : s.dev.overran p = false) (hdebug : s.dev.held hcDebug = false) :
    Answers (.slotOverrun p eng idx excess) s fun t =>
      t.dev.get (F.SCH_OVR_ENGINE p) = eng ∧ t.dev.get (F.SCH_OVR_INDEX p) = idx % 2 ^ 16 ∧ t.dev.get (F.SCH_OVR_SLOT p) = q.next % 2 ^ 24 ∧
        t.dev.get (F.SCH_OVR_EXCESS p) = min 0xFFFF excess ∧ t.dev.get (F.SCH_OVR_MORE p) = 0 ∧ t.dev.get (F.SCH_OVR_DEBUG p) = 0 ∧
        t.dev.get (F.SCH_OVR_TN_TN p) = s.dev.get F.TCK_TN_TN ∧ t.dev.held hcOverrun = true ∧
        (∃ e : Event, t.dev.events = e :: s.dev.events ∧ e.cls = evSchedule ∧ e.status = stOverrun ∧ e.source = p) ∧
        State.onlyFieldsEv ([F.SCH_OVR_ENGINE p, F.SCH_OVR_INDEX p, F.SCH_OVR_SLOT p, F.SCH_OVR_EXCESS p, F.SCH_OVR_MORE p, F.SCH_OVR_DEBUG p,
          F.SCH_OVR_TN_TN p] ++ holdFields) s t := by
  have hexec := onDev_powered (fun d => d.slotOverrun p eng idx excess) s hs
  have hcounts : s.dev.slotOverrun p eng idx excess = s.dev.overrun p eng idx q.next excess := by
    unfold Dev.slotOverrun
    rw [hopen]
    exact if_neg (by simp [hquench, hop]; omega)
  obtain ⟨detail, hoverrun⟩ := overrun_first eng idx q.next excess hfirst hdebug
  rw [hcounts, hoverrun] at hexec
  have hframe := overrunNoted_frame s.dev p eng idx q.next excess
  have hfield := fun f v => overrunNoted_get (d := s.dev) (p := p) (engine := eng) (index := idx) (num := q.next) (excess := excess) (v := v)
    (f := f) detail
  generalize s.dev.overrunNoted p eng idx q.next excess = b at *
  obtain ⟨e, hevent, hcls, hstatus, hsource, -⟩ := raise_one_after hframe (overrunRecord_ringFree p) evSchedule stOverrun p detail
  have hkeeps := raise_assertHold_frame hframe (overrunRecord_ringFree p) evSchedule stOverrun p detail hcOverrun
  obtain ⟨-, -, -, hevents⟩ := assertHold_frame (b.raise evSchedule stOverrun p detail) hcOverrun
  have hexact : ∀ f v, (f, v) ∈ overrunWrites p eng idx q.next excess (s.dev.get F.TCK_TN_TN) → v < 2 ^ f.w →
      ((b.raise evSchedule stOverrun p detail).assertHold hcOverrun).get f = v := fun f v hm hv => (hfield f v hm).trans (Nat.mod_eq_of_lt hv)
  refine ⟨_, hexec, hexact _ _ (by simp [overrunWrites]) (eng.isLt.trans (show 7 < 2 ^ 4 by decide)), hfield _ _ (by simp [overrunWrites]),
    hfield _ _ (by simp [overrunWrites]), hexact (F.SCH_OVR_EXCESS p) _ (by simp [overrunWrites]) ?_,
    hexact _ _ (by simp [overrunWrites]) (Nat.two_pow_pos _), hexact _ _ (by simp [overrunWrites]) (Nat.two_pow_pos _),
    hexact _ _ (by simp [overrunWrites]) (get_lt s.dev F.TCK_TN_TN), assertHold_held _ _ (by decide),
    ⟨e, hevents.trans hevent, hcls, hstatus, hsource⟩, onlyFieldsEv_mono hkeeps ?_⟩
  · exact Nat.lt_of_le_of_lt (Nat.min_le_left _ _) (show 0xFFFF < 2 ^ 16 by decide)
  · exact List.append_subset.mpr ⟨List.subset_append_of_subset_left _ (by simp [overrunRecord]), List.subset_append_right _ _⟩

/-- Settles O14: the slot commands that wait or are quenched, the two without an effect of their own, completion, and the first overrun. -/
theorem slotsWaitStartCompleteAndOverrun : Obligations.SlotsWaitStartCompleteAndOverrun := by
  refine ⟨fun s p cl port sq ce eng idx b c e i op hs hmem => ?_, fun s p eng idx r sl hs => idleSlot_starts hs rfl,
    fun s p ce r sl hs => idleSlot_starts hs rfl, slot_completes, slot_overruns⟩
  obtain ⟨f, hexec⟩ := slotCommand_exec hmem
  exact slotCommand_waits_or_quenched hs (hexec s)

end Sys2Proof.Machine
end

section
/-! PROOF. The refutation of O13: ABORT on a memory whose cells are out of order. -/

namespace Sys2Proof.Machine

open Sys2Proof

/-! ### ABORT on a memory that is out of order (R77) -/

/-- Memory cells out of order: a read of address 3 stops at the cell of address 5 in front of it. -/
def unsortedMem : Mem := ⟨[(5, 1#8), (3, 1#8)], []⟩

/-- The state after power-on reset but for that memory and partition 2, which runs and whose step wrote the byte at 5. -/
def unsortedRunning : State :=
  { State.reset with
    dev := { Dev.reset.put (F.SCH_STATUS_RUN 2) rnRunning with
      mem := unsortedMem, parts := [(2, { PartSt.reset with wrote := [(5, 1)] })] } }

theorem unsortedRunning_powered : unsortedRunning.powered := by
  unfold State.powered
  decide +kernel

theorem unsortedRunning_runs : unsortedRunning.dev.get (F.SCH_STATUS_RUN 2) = rnRunning := by decide +kernel

/-- The byte that nothing of partition 2 wrote reads 0. -/
theorem unsortedRunning_before : unsortedRunning.dev.mem.byte 3 = 0#8 := by decide +kernel

/-- The abort makes the byte at 5 undefined and so takes its cell away: the byte at 3 appears. -/
theorem unsortedRunning_aborted : (unsortedRunning.dev.abort 2).mem.byte 3 = 1#8 := by decide +kernel

/-- Refutes O13: the statement quantifies over every memory. In one that is out of order ABORT, which makes undefined what the step wrote,
lets a byte appear that the step did not write. -/
theorem not_imagesLoadStageStopAndAbort : ¬ Obligations.ImagesLoadStageStopAndAbort := by
  intro h
  obtain ⟨-, -, -, -, -, -, habort, -⟩ := h
  obtain ⟨t, hexec, -, -, -, -, -, -, -, -, hmem, -⟩ := habort unsortedRunning 2 unsortedRunning_powered unsortedRunning_runs
  have hnext := onDev_powered (fun d => d.abort 2) unsortedRunning unsortedRunning_powered
  obtain rfl := Host.Outcome.next.inj (hnext.symm.trans hexec)
  have hbyte := hmem 3 (by decide +kernel)
  exact absurd (unsortedRunning_aborted.symm.trans (hbyte.trans unsortedRunning_before)) (by decide)

end Sys2Proof.Machine
end

section
/-! PROOF. The refutation of O16: a mover transfer over a segment whose extents overlap. -/

namespace Sys2Proof.Machine

open Sys2Proof

/-! ### A mover transfer over overlapping extents (R89) -/

/-- A segment of 64 KiB that two extents bind, both for all its addresses. -/
def doublyBound : Segment := ⟨0x10000, 0x10000, 7, [⟨0x10000, 0x10000, 0x1000000, 7⟩, ⟨0x10000, 0x10000, 0x1000000, 7⟩]⟩

/-- The slot of a mover transfer by the image's only descriptor. -/
def moverSlot : Slot := ⟨0, opMover * 2 ^ 56 + 0xFFFF * 2 ^ 40, 0, 0⟩

/-- An image whose mover stream on cluster 0 moves one row of one byte from the segment's first byte to local-store byte 0. -/
def doublyBoundImage : Image :=
  { root := 0, programId := 0, baseTn := 0, passes := 0, ticks := 1, deviceCount := 1, rank := 0, domain := 0, len := 0, clustersReq := 0,
    trClass := 0, streams := [⟨engMover, 0, 0, [moverSlot]⟩], steps := [], segs := [doublyBound],
    descs := [[0, 0, 0, 0x1000001, 0].flatMap (leBytes 8)], routes := [] }

/-- Partition 0 runs that image in a tick; the byte of memory it moves is 1. -/
def doublyBoundRunning : State :=
  { State.reset with
    dev := { Dev.reset.puts [(F.TCK_STATUS_STATE, tsRunning), (F.CLU_LMAP_VALID 0, 1), (F.CLU_LMAP_PHYS 0, 0)] with
      mem := Mem.reset.write 0x1000000 [1#8], tick := { TickSt.reset with tickDone := false },
      parts := [(0, { PartSt.reset with running := some doublyBoundImage, positions := [⟨engMover, 0, 0, false⟩] })] } }

theorem doublyBoundRunning_powered : doublyBoundRunning.powered := by
  unfold State.powered
  decide +kernel

/-- Local-store byte 1, which is not of the row, reads 0. -/
theorem doublyBoundRunning_before : doublyBoundRunning.dev.sram.byte (sramAt 0 1) = 0#8 := by decide +kernel

/-- What DATA_MOVER_TRANSFER does there. -/
def Dev.moverRuns (d : Dev) : Dev := d.slotRun 0 engMover 0 opMover fun r sl d => d.movSlot 0 0 false r sl

/-- The row's one address stands for two runs of memory, and the bytes of both are written from byte 0 up. -/
theorem doublyBoundRunning_moved : doublyBoundRunning.dev.moverRuns.sram.byte (sramAt 0 1) = 1#8 := by decide +kernel

/-- Refutes O16: the statement quantifies over every image. In one whose segment is bound by overlapping extents a row's bytes come from
more memory than the row is long, and the transfer changes a local-store byte behind the row. -/
theorem not_moverCopyAndLaunchSlots : ¬ Obligations.MoverCopyAndLaunchSlots := by
  intro h
  obtain ⟨hmover, -, -⟩ := h
  obtain ⟨t, hexec, -, -, -, -, -, hstore, -⟩ := hmover doublyBoundRunning 0 0 0 ⟨0, engMover, 0, 0⟩ moverSlot doublyBoundRunning_powered
    (by unfold Dev.slotStarts; decide +kernel) (by decide +kernel) (by decide +kernel) (by decide +kernel) (by decide +kernel)
    (by decide +kernel) (by decide +kernel)
  have hnext : exec (.dataMoverTransfer 0 0 false) doublyBoundRunning = .next { doublyBoundRunning with dev := doublyBoundRunning.dev.moverRuns } :=
    onDev_powered Dev.moverRuns doublyBoundRunning doublyBoundRunning_powered
  obtain rfl := Host.Outcome.next.inj (hnext.symm.trans hexec)
  obtain ⟨hbytes, -⟩ := hstore (by decide +kernel)
  have hbyte := hbytes (sramAt 0 1) (by decide +kernel)
  exact absurd (doublyBoundRunning_moved.symm.trans (hbyte.trans doublyBoundRunning_before)) (by decide)

end Sys2Proof.Machine
end

section
/-! PROOF. The refutation of O17: a setting change on a local store whose cells are out of order. -/

namespace Sys2Proof.Machine

open Sys2Proof

/-! ### A setting change on a local store that is out of order (R93) -/

/-- Local-store cells of cluster 0 out of order: a read of its byte 5 stops at the cell of its last byte in front of it. -/
def unsortedStore : Mem := ⟨[(sramAt 0 0x1FFFFF, 1#8), (sramAt 0 5, 1#8)], []⟩

/-- The state after power-on reset but for that local store; logical cluster 0 is on physical cluster 0, where setting 2 waits. -/
def settingWaits : State :=
  { State.reset with
    dev := { Dev.reset.puts [(F.CLU_LMAP_VALID 0, 1), (F.CLU_LMAP_PHYS 0, 0), (F.CLU_SRAM_PENDING 0, 2)] with sram := unsortedStore } }

theorem settingWaits_powered : settingWaits.powered := by
  unfold State.powered
  decide +kernel

/-- Byte 5 of the cluster reads 0. -/
theorem settingWaits_before : settingWaits.dev.sram.byte (sramAt 0 5) = 0#8 := by decide +kernel

/-- The change takes the cell of the last byte away, since that byte lies above the smaller size: byte 5 appears. -/
theorem settingWaits_applied : (settingWaits.dev.applySetting (0 : Fin 384).val).sram.byte (sramAt 0 5) = 1#8 := by decide +kernel

/-- Refutes O17: the statement quantifies over every local store. In one that is out of order SETTING_CHANGE, which makes the bytes above
the smaller on-chip size undefined, lets a byte below it appear. -/
theorem not_clusterSpillSettingAndCounters : ¬ Obligations.ClusterSpillSettingAndCounters := by
  intro h
  obtain ⟨-, -, -, hsetting, -⟩ := h
  obtain ⟨t, hexec, -, -, -, -, hbytes, -⟩ := hsetting settingWaits 0 0 settingWaits_powered (by decide +kernel) (by decide)
    (by decide +kernel) (by decide +kernel)
  have hnext := onDev_powered (fun d => d.applySetting (0 : Fin 384).val) settingWaits settingWaits_powered
  obtain rfl := Host.Outcome.next.inj (hnext.symm.trans hexec)
  have hbyte := hbytes 5 (by decide +kernel)
  exact absurd (settingWaits_applied.symm.trans (hbyte.trans settingWaits_before)) (by decide)

end Sys2Proof.Machine
end

section
/-! PROOF. The refutation of O50: a scheduled partition created on a memory whose cells are out of order. -/

namespace Sys2Proof.Machine

open Sys2Proof

/-! ### Image buffers on a memory that is out of order (R59, R342) -/

/-- Memory cells out of order: a read of address 5 stops at the cell of address 0x3000000000 in front of it. -/
def unsortedBuffer : Mem := ⟨[(0x3000000000, 1#8), (5, 1#8)], []⟩

/-- The state after power-on reset but for that memory: READY, with SCHEDULED negotiated and no active partition. -/
def noPartitions : State :=
  { State.reset with
    dev := { Dev.reset.puts [(F.PWR_BOOT_STATE, dsReady), (F.IDF_NEG_BITS 0, 4), (F.ARB_PART_ACTIVE 0, 0)] with mem := unsortedBuffer } }

/-- The record of a scheduled partition without clusters, engines or precedence. -/
def scheduledRecord : Word := 0xC000000000000000#64

/-- The request that creates it as partition 0, with slot 0's key, from the I3C bus. -/
def createAuth : Auth :=
  { (⟨srcI3c, 1, 0, 1, []⟩ : Auth) with
    tag := requestTag Config.transportKey (authReq ⟨srcI3c, 1, 0, 1, []⟩ (partKey 0) (leBytes 8 scheduledRecord.toNat)) ⟨srcI3c, 1, 0, 1, []⟩ }

/-- Its two image buffers. -/
def firstBuffer : Frame := ⟨0x3000000000, bufferBytes, 0, false, true⟩
def secondBuffer : Frame := ⟨0x3030000000, bufferBytes, 0, false, true⟩

theorem noPartitions_authentic : noPartitions.authentic createAuth (partKey 0) (leBytes 8 scheduledRecord.toNat) :=
  ⟨⟨by unfold State.powered; decide +kernel, by decide +kernel, by decide +kernel⟩, rfl, rfl, (by decide : 0 < 1), (by decide : 1 < 2 ^ 64),
    by decide +kernel, Config.transportKey, rfl, rfl⟩

theorem noPartitions_buffers : noPartitions.dev.buffersFor 0 = some [firstBuffer, secondBuffer] := by decide +kernel

/-- The byte at 5 reads 0. -/
theorem noPartitions_before : noPartitions.dev.mem.byte 5 = 0#8 := by decide +kernel

/-! ### What a frame that stands does to memory (R198) -/

@[simp] theorem liveFrame_mem (f : Frame) (taken : Bool) (d : Dev) : (d.liveFrame f taken).mem = d.mem := by
  have hstep : ∀ (l : List Nat) (a : Dev), (l.foldl (fun d c =>
      let k := d.granulesOn f.pa f.size c
      if k = 0 then d
      else d.put (F.MEM_CHAN_LIVE c) (if taken then d.get (F.MEM_CHAN_LIVE c) + k else d.get (F.MEM_CHAN_LIVE c) - k)) a).mem = a.mem := by
    intro l
    induction l with
    | nil => exact fun a => rfl
    | cons c l ih =>
      intro a
      rw [List.foldl_cons, ih]
      dsimp only
      split <;> rfl
  unfold Dev.liveFrame
  split
  · rfl
  · exact hstep _ d

@[simp] theorem regionFrame_mem (f : Frame) (taken : Bool) (d : Dev) : (d.regionFrame f taken).mem = d.mem := by
  unfold Dev.regionFrame
  split <;> rfl

@[simp] theorem useQuota_mem (p u : Nat) (taken : Bool) (d : Dev) : (d.useQuota p u taken).mem = d.mem := rfl

@[simp] theorem countFree_mem (d : Dev) : d.countFree.mem = d.mem := puts_mem _ d

@[simp] theorem zeroRange_mem (pa n : Nat) (d : Dev) : (d.zeroRange pa n).mem = d.mem.zero pa (pa + n) := rfl

/-- Frames that stand are zeroed in order, and nothing else changes memory. -/
theorem settleFrames_mem (l : List Frame) (d : Dev) : (d.settleFrames l).mem = l.foldl (fun m f => m.zero f.pa (f.pa + f.size)) d.mem := by
  unfold Dev.settleFrames
  rw [countFree_mem]
  induction l generalizing d with
  | nil => rfl
  | cons f l ih => rw [List.foldl_cons, ih, List.foldl_cons, zeroRange_mem, useQuota_mem, regionFrame_mem, liveFrame_mem]

@[simp] theorem addFrames_mem (l : List Frame) (d : Dev) : (l.foldl Dev.addFrame d).mem = d.mem := by
  induction l generalizing d with
  | nil => rfl
  | cons f l ih => exact ih (d.addFrame f)

/-- Creating a scheduled partition whose checks pass zeroes its two buffers and changes no other memory. -/
theorem partCreate_mem (d : Dev) (p rec : Nat) (l : List Frame) (hstate : d.get F.PWR_BOOT_STATE ≠ dsFailed)
    (hspare : ¬ (bits rec 38 36 ≠ 0 ∨ bits rec 17 0 ≠ 0)) (hmode : bit rec 62 = true) (hhas : d.has ftScheduled = true)
    (hactive : d.on (F.ARB_PART_ACTIVE p) = false) (hrange : ¬ 384 < bits rec 26 18 + bits rec 35 27)
    (hclash : ((List.range 8).any fun q => d.on (F.ARB_PART_ACTIVE q) && d.partClash rec q) = false) (hbuf : d.buffersFor p = some l) :
    (d.partCreate p rec).1 = stOk ∧ (d.partCreate p rec).2.mem = l.foldl (fun m f => m.zero f.pa (f.pa + f.size)) d.mem := by
  unfold Dev.partCreate
  dsimp only
  rw [if_neg hstate, if_neg (by simpa [hmode, hhas] using hspare), if_neg (by simp [hactive]), if_neg hrange, if_neg (by simp [hclash]),
    if_neg (by simp [hmode]), hbuf]
  refine ⟨rfl, ?_⟩
  change (Dev.puts _ _).mem = _
  rw [puts_mem, settleFrames_mem, addFrames_mem]

/-- Step 9 for a stored object whose value stands and whose rules say OK: memory is what the rules leave. -/
theorem storedRules_mem (key : Nat) (value : List Byte) (f : Dev → Nat × Dev) (s : State) (o : ObjRow) (ho : objRow key = some o)
    (hflash : s.dev.pwr.flashWp = false) (hvalue : o.valueOk value = true) (hok : (f s.dev).1 = stOk) :
    (storedRules key value (devRules f) s).2.dev.mem = (f s.dev).2.mem := by
  unfold storedRules
  rw [ho]
  dsimp only
  rw [if_neg (by simp [hflash]), if_neg (by simp [hvalue]), if_pos (show (devRules f s).1 = stOk from hok)]
  rfl

/-- An authentic write of a stored object, from another source than the mailbox, leaves the memory its rules leave. -/
theorem authStored_mem {s : State} {a : Auth} {key : Nat} {value : List Byte} (h : s.authentic a key value) (hsrc : a.source ≠ srcMailbox)
    (f : Dev → Nat × Dev) {o : ObjRow} (ho : objRow key = some o) (hflash : s.dev.pwr.flashWp = false) (hvalue : o.valueOk value = true)
    (hok : (f s.dev).1 = stOk) : (lopWrite true (authReq a key value) (storedRules key value (devRules f)) s).dev.mem = (f s.dev).2.mem := by
  obtain ⟨outs, hdev⟩ := authentic_lopWrite h hsrc (storedRules key value (devRules f))
  rw [hdev]
  exact storedRules_mem key value f { s with vault := s.countedVault a } o ho hflash hvalue hok

/-- A taken request of an AUTH object is a write. -/
theorem onAuth_taken {s : State} {a : Auth} {key : Nat} {value : List Byte} (h : s.authentic a key value) (rules : State → Nat × State) :
    onAuth a key value rules s = .next (lopWrite true (authReq a key value) rules s) := by
  obtain ⟨⟨hpowered, hserves, hcarries⟩, -⟩ := h
  have hgood : s.dev.pwr.pwrgd = true := hpowered
  unfold onAuth
  rw [if_pos (by simp [hgood, hserves, hcarries])]

/-- Zeroing the first buffer takes the cell of its first byte away: the byte at 5 appears. -/
theorem noPartitions_created : (noPartitions.dev.partWrite 0 scheduledRecord.toNat).1 = stOk ∧
    (noPartitions.dev.partWrite 0 scheduledRecord.toNat).2.mem.byte 5 = 1#8 := by
  obtain ⟨hok, hmem⟩ := partCreate_mem noPartitions.dev 0 scheduledRecord.toNat [firstBuffer, secondBuffer] (by decide +kernel)
    (by decide +kernel) (by decide +kernel) (by decide +kernel) (by decide +kernel) (by decide +kernel) (by decide +kernel)
    noPartitions_buffers
  have hwrite : noPartitions.dev.partWrite 0 scheduledRecord.toNat = noPartitions.dev.partCreate 0 scheduledRecord.toNat :=
    if_pos (by decide)
  rw [hwrite, hmem]
  exact ⟨hok, by decide +kernel⟩

/-- No event ring is enabled. -/
theorem noPartitions_noRings : ¬ noPartitions.dev.inEventRing 5 := by
  rintro ⟨r, hr, hon, -⟩
  have hoff : ∀ r < 64, noPartitions.dev.on (F.HST_EVR_CTL_EN r) = false := by decide +kernel
  exact absurd hon (by simp [hoff r hr])

/-- The record is a value of its object. -/
theorem scheduledRecord_valueOk : ∃ o, objRow (partKey 0) = some o ∧ o.valueOk (leBytes 8 scheduledRecord.toNat) = true := by
  have hany : ((objRow (partKey 0)).any fun o => o.valueOk (leBytes 8 scheduledRecord.toNat)) = true := by decide +kernel
  exact Option.any_eq_true _ _ |>.mp hany

/-- Refutes O50: the statement quantifies over every memory. In one that is out of order PARTITION_CREATE, which zeroes the new partition's
image buffers, lets a byte appear that lies in neither. -/
theorem not_arbitersPartitionsAndTheClusterMap : ¬ Obligations.ArbitersPartitionsAndTheClusterMap := by
  intro h
  obtain ⟨-, -, -, hpartition, -⟩ := h
  obtain ⟨hcreate, -⟩ := hpartition noPartitions createAuth 0 scheduledRecord noPartitions_authentic (by decide +kernel)
  obtain ⟨-, hchecked⟩ := hcreate (by decide)
  obtain ⟨-, hscheduled⟩ := hchecked (by decide +kernel) (by decide) (by decide) (by decide +kernel) (by decide) (by decide +kernel)
  obtain ⟨t, hexec, -, -, -, -, -, -, -, hmem, -⟩ := hscheduled firstBuffer secondBuffer (by decide) (by decide +kernel) noPartitions_buffers
  have hnext := onAuth_taken noPartitions_authentic
    (storedRules (partKey 0) (leBytes 8 scheduledRecord.toNat) (devRules fun d => d.partWrite 0 scheduledRecord.toNat))
  obtain rfl := Host.Outcome.next.inj (hnext.symm.trans hexec)
  obtain ⟨hok, hcreated⟩ := noPartitions_created
  obtain ⟨row, hrow, hvalue⟩ := scheduledRecord_valueOk
  have hafter := authStored_mem noPartitions_authentic (by decide) (fun d => d.partWrite 0 scheduledRecord.toNat) hrow (by decide +kernel)
    hvalue hok
  have hbyte := hmem 5 noPartitions_noRings (by decide)
  rw [hafter] at hbyte
  exact absurd (hcreated.symm.trans (hbyte.trans noPartitions_before)) (by decide)

end Sys2Proof.Machine
end

section
/-! SUPPORT. A thread group's instruction: what follows it, when it completes, jumps, traps or waits (R104, R110, R111, R115, R119). -/

namespace Sys2Proof.Machine

open Sys2Proof

/-! ### Commands on the device -/

theorem answers_onDev {c : Instr} {f : Dev → Dev} {s : State} {P : State → Prop} (hs : s.powered) (hexec : exec c s = onDev f s)
    (h : P { s with dev := f s.dev }) : Answers c s P :=
  ⟨_, hexec.trans (onDev_powered f s hs), h⟩

/-! ### The slots of groups -/

theorem group_setGroup (d : Dev) (k j : Nat) (g : Option Group) : (d.setGroup k g).group j = if j = k then g else d.group j :=
  table_get_set _ _ _ _ _

theorem group_of_clus {a b : Dev} (h : b.clus.groups = a.clus.groups) (k : Nat) : b.group k = a.group k := by
  unfold Dev.group
  rw [h]

/-- A live group with active threads that stands at no reconvergence address has nothing to settle. -/
theorem settled_clear (g : Group) (hlive : g.live ≠ 0) (hactive : g.active ≠ 0)
    (hhead : ∀ e : Reconv, g.stack.head? = some e → e.addr ≠ g.pc) : g.settled = g := by
  unfold Group.settled Group.settle
  rw [if_neg hlive]
  match hs : g.stack with
  | [] => rfl
  | e :: r => exact if_pos ⟨hactive, (hhead e (by rw [hs]; rfl)).symm⟩

/-! ### Barriers -/

/-- A step of groups back to no arrivals, each as it stood in `d`, keeps every group but for its arrivals. -/
theorem clearArrivals_group (d : Dev) (k : Nat) (g : Group) (hk : d.group k = some g) (l : List (Nat × Group)) :
    ∀ e : Dev, (∀ x ∈ l, d.group x.1 = some x.2) → (∃ a : Nat, e.group k = some { g with arrived := a }) →
      ∃ a : Nat, (l.foldl (fun d x => d.setGroup x.1 (some { x.2 with arrived := 0 })) e).group k = some { g with arrived := a } := by
  induction l with
  | nil => exact fun e _ he => he
  | cons x l ih =>
    intro e hl he
    refine ih _ (fun y hy => hl y (List.mem_cons_of_mem _ hy)) ?_
    rw [group_setGroup]
    split
    · next hx =>
      have hsame := hl x List.mem_cons_self
      rw [← hx, hk] at hsame
      exact ⟨0, by rw [Option.some.inj hsame]⟩
    · exact he

theorem clearArrivals_clus (l : List (Nat × Group)) : ∀ e : Dev, ∃ gs : Table (Option Group),
    l.foldl (fun d x => d.setGroup x.1 (some { x.2 with arrived := 0 })) e = { e with clus := { e.clus with groups := gs } } := by
  induction l with
  | nil => exact fun e => ⟨e.clus.groups, rfl⟩
  | cons x l ih =>
    intro e
    obtain ⟨gs, h⟩ := ih (e.setGroup x.1 (some { x.2 with arrived := 0 }))
    exact ⟨gs, h⟩

theorem liveGroups_group {d : Dev} {b : Block} {x : Nat × Group} (h : x ∈ d.liveGroups b) : d.group x.1 = some x.2 := by
  obtain ⟨k, -, hk⟩ := List.mem_filterMap.mp h
  split at hk
  · next g hg =>
    split at hk
    · exact nomatch hk
    · obtain rfl := Option.some.inj hk
      exact hg
  · exact nomatch hk

/-- A barrier that releases or waits keeps a group but for its arrivals. -/
theorem barrierCheck_group {d : Dev} {k : Nat} {g : Group} (b : Block) (h : d.group k = some g) :
    ∃ a : Nat, (d.barrierCheck b).group k = some { g with arrived := a } := by
  unfold Dev.barrierCheck
  dsimp only
  split
  · exact clearArrivals_group d k g h _ d (fun x hx => liveGroups_group hx) ⟨g.arrived, h⟩
  · exact ⟨g.arrived, h⟩

theorem barrierCheck_clus (d : Dev) (b : Block) : ∃ gs : Table (Option Group),
    d.barrierCheck b = { d with clus := { d.clus with groups := gs } } := by
  unfold Dev.barrierCheck
  dsimp only
  split
  · exact clearArrivals_clus _ d
  · exact ⟨d.clus.groups, rfl⟩

/-! ### The debug HOLD -/

/-- A device without what asserting or clearing a HOLD may change: its registers, its tick state, what it sends. -/
def Dev.sansHold (d : Dev) : Dev := { d with regs := [], tick := TickSt.reset, outs := [] }

theorem sendTick_sansHold (w : Nat) (ps : List Nat) : ∀ d : Dev, (d.sendTick ps w).sansHold = d.sansHold := by
  induction ps with
  | nil => exact fun d => rfl
  | cons p r ih => exact fun d => ih (d.emit (.tickMsg p w))

theorem flood_sansHold (d : Dev) (kind cause k tick : Nat) : (d.flood kind cause k tick).sansHold = d.sansHold := by
  unfold Dev.flood
  split
  · rfl
  · exact sendTick_sansHold _ _ d

theorem sendParked_sansHold (d : Dev) : d.sendParked.sansHold = d.sansHold := by
  unfold Dev.sendParked
  dsimp only
  split
  · rfl
  · split
    · split
      · exact sendTick_sansHold _ _ _
      · rfl
    · rfl

theorem addTarget_sansHold (d : Dev) (t : Nat) : (d.addTarget t).sansHold = d.sansHold := by
  unfold Dev.addTarget
  dsimp only
  generalize (if d.tick.targets.contains t then d.tick.targets else t :: d.tick.targets) = l
  split <;> rfl

theorem sendHold_sansHold (d : Dev) (c : Nat) : (d.sendHold c).sansHold = d.sansHold := by
  unfold Dev.sendHold
  dsimp only
  split
  · exact addTarget_sansHold d _
  · exact (addTarget_sansHold _ _).trans (flood_sansHold d _ _ _ _)

theorem assertHold_sansHold (d : Dev) (c : Nat) : (d.assertHold c).sansHold = d.sansHold := by
  unfold Dev.assertHold
  dsimp only
  split
  · rfl
  · split
    · exact sendHold_sansHold (d.setCause c) c
    · split
      · exact sendParked_sansHold (d.setCause c)
      · rfl

theorem dropCause_sansHold (d : Dev) (c : Nat) : (d.dropCause c).sansHold = d.sansHold := by
  unfold Dev.dropCause
  split <;> rfl

theorem clearHold_sansHold (d : Dev) (c : Nat) : (d.clearHold c).sansHold = d.sansHold := by
  unfold Dev.clearHold
  dsimp only
  split
  · rfl
  · split
    · split <;> exact dropCause_sansHold d c
    · split
      · exact (sendParked_sansHold _).trans (dropCause_sansHold d c)
      · exact dropCause_sansHold d c

/-- The HOLD of a halted group touches no more than a HOLD does. -/
theorem debugUpdate_sansHold (d : Dev) : d.debugUpdate.sansHold = d.sansHold := by
  unfold Dev.debugUpdate
  dsimp only
  split
  · split
    · rfl
    · exact assertHold_sansHold d _
  · split
    · exact clearHold_sansHold d _
    · rfl

theorem debugUpdate_clus (d : Dev) : d.debugUpdate.clus = d.clus :=
  show d.debugUpdate.sansHold.clus = d.sansHold.clus from congrArg Dev.clus (debugUpdate_sansHold d)

/-- It writes the fields of the HOLD and the debug summary only. -/
theorem debugUpdate_frame (d : Dev) : Dev.onlyRegs debugFields d d.debugUpdate := by
  have hhold : ∀ e : Dev, Dev.onlyRegs holdFields d e → ∀ v : Nat, Dev.onlyRegs debugFields d (e.put F.TGD_SUM_DEBUG v) := fun e h v =>
    onlyRegs_trans (onlyRegs_mono h fun _ hf => List.mem_cons_of_mem _ hf) (onlyRegs_put _ _ _ _ List.mem_cons_self)
  unfold Dev.debugUpdate
  dsimp only
  refine hhold _ ?_ _
  split
  · split
    · exact onlyRegs_refl _ d
    · exact assertHold_frame d _
  · split
    · exact clearHold_frame d _
    · exact onlyRegs_refl _ d

/-! ### After an instruction -/

/-- From `e` to `t` the group of `x` went on by one instruction, with the tickets `l`; besides groups only debug fields changed. -/
def Dev.wentOn (e t : Dev) (x : Gx) (l : List Ticket) : Prop :=
  t.advanced x ∧ (∃ g : Group, t.group x.k = some g ∧ g.tickets = l) ∧ Dev.onlyRegs debugFields e t ∧
    ∃ gs : Table (Option Group), t.clus = { e.clus with groups := gs }

theorem canRun_active {g : Group} (h : g.canRun = true) : g.active ≠ 0 := by
  simp only [Group.canRun, Bool.and_eq_true, bne_iff_ne] at h
  exact h.1.2

/-- A group that meets no reconvergence address goes on behind its instruction. -/
theorem afterInstr_wentOn (e : Dev) {x : Gx} (hcan : x.g.canRun = true) (hclear : x.clearAt (x.g.pc + instrBytes)) (l : List Ticket) :
    e.wentOn (e.afterInstr x { x.g with tickets := l, pc := x.g.pc + instrBytes }) x l := by
  obtain ⟨hlive, hhead⟩ := hclear
  let g : Group := { x.g with tickets := l, pc := x.g.pc + instrBytes, stepped := x.g.state == gsStepping }
  have hsettled : g.settled = g := settled_clear g hlive (canRun_active (g := x.g) hcan) hhead
  let set := e.setGroup x.k (some g.settled)
  obtain ⟨a, hgroup⟩ := barrierCheck_group x.b (show set.group x.k = some g by rw [group_setGroup, if_pos rfl, hsettled])
  obtain ⟨gs, hclus⟩ := barrierCheck_clus set x.b
  have hafter : e.afterInstr x { x.g with tickets := l, pc := x.g.pc + instrBytes } = (set.barrierCheck x.b).debugUpdate := rfl
  have hstands : (set.barrierCheck x.b).debugUpdate.group x.k = some { g with arrived := a } :=
    (group_of_clus (congrArg _ (debugUpdate_clus _)) _).trans hgroup
  have hset : Dev.onlyRegs debugFields e (set.barrierCheck x.b) := by
    rw [hclus]
    exact onlyRegs_core _ ⟨rfl, rfl, rfl, rfl⟩
  rw [hafter]
  refine ⟨⟨_, hstands, rfl, rfl, rfl, rfl, rfl⟩, ⟨_, hstands, rfl⟩, onlyRegs_trans hset (debugUpdate_frame _), gs, ?_⟩
  rw [debugUpdate_clus, hclus]
  rfl

/-! ### The instruction itself -/

/-- Where a group reference leads is the group's own slot, on a cluster that stands. -/
theorem gx_group {d : Dev} {r : GroupRef} {x : Gx} (h : d.gx r = some x) : d.group x.k = some x.g ∧ d.physOf r.cluster = some x.phys := by
  unfold Dev.gx at h
  dsimp only at h
  split at h
  · next g phys hg hphys =>
    split at h
    · obtain rfl := Option.some.inj h
      exact ⟨hg, hphys⟩
    · exact nomatch h
  · exact nomatch h

/-- Physical clusters have numbers of nine bits. -/
theorem physOf_lt {d : Dev} {l phys : Nat} (h : d.physOf l = some phys) : phys < 512 := by
  unfold Dev.physOf at h
  split at h
  · obtain rfl := Option.some.inj h
    exact get_lt d _
  · exact nomatch h

theorem runs_phys {d : Dev} {r : GroupRef} {x : Gx} (h : d.runs r x) : x.phys < 512 := physOf_lt (gx_group h.1).2

section
variable {d e : Dev} {r : GroupRef} {x : Gx} {f : Gx → Dev → IRes}

/-- A group that runs does what its instruction's meaning says. -/
theorem instr_runs (f : Gx → Dev → IRes) (h : d.runs r x) : d.instr r f =
    match f x d with
    | .done d => (match d.group x.k with
      | some g => d.afterInstr x { g with pc := g.pc + instrBytes }
      | none => d)
    | .jump g d => d.afterInstr x g
    | .trap st a d => d.trapGroup x.k x.phys x.g x.b st a
    | .wait => d := by
  obtain ⟨hgx, hcan, hfetch⟩ := h
  unfold Dev.instr
  rw [hgx]
  exact (if_neg (by simp [hcan])).trans (if_neg (by simp [hfetch]))

theorem instr_done (h : d.runs r x) (hclear : x.clearAt (x.g.pc + instrBytes)) (hf : f x d = .done e) (hg : e.clus.groups = d.clus.groups) :
    e.wentOn (d.instr r f) x x.g.tickets := by
  have hgroup : e.group x.k = some x.g := (group_of_clus hg _).trans (gx_group h.1).1
  rw [instr_runs f h, hf]
  dsimp only
  rw [hgroup]
  exact afterInstr_wentOn e h.2.1 hclear x.g.tickets

theorem instr_jump {l : List Ticket} (h : d.runs r x) (hclear : x.clearAt (x.g.pc + instrBytes))
    (hf : f x d = .jump { x.g with tickets := l, pc := x.g.pc + instrBytes } e) : e.wentOn (d.instr r f) x l := by
  rw [instr_runs f h, hf]
  exact afterInstr_wentOn e h.2.1 hclear l

theorem instr_wait (h : d.runs r x) (hf : f x d = .wait) : d.instr r f = d := by
  rw [instr_runs f h, hf]

theorem instr_trap {st a : Nat} (h : d.runs r x) (hf : f x d = .trap st a e) : d.instr r f = e.trapGroup x.k x.phys x.g x.b st a := by
  rw [instr_runs f h, hf]

end

/-- Under trap-stop the group halts at its instruction, and memory and events stay (R115, R117). -/
theorem trapGroup_halts (d : Dev) (k phys : Nat) (g : Group) (b : Block) (st a : Nat) (h : d.on F.TGD_CTRL_TRAP_STOP = true) :
    (d.trapGroup k phys g b st a).group k = some { g with state := gsHalted, trap := st, trapAddr := a } ∧
      Dev.onlyRegs debugFields d (d.trapGroup k phys g b st a) := by
  unfold Dev.trapGroup
  rw [if_pos h]
  refine ⟨(group_of_clus (congrArg _ (debugUpdate_clus _)) _).trans ?_,
    onlyRegs_trans (b := d.setGroup k _) (onlyRegs_core _ ⟨rfl, rfl, rfl, rfl⟩) (debugUpdate_frame _)⟩
  rw [group_setGroup, if_pos rfl]

end Sys2Proof.Machine
end

section
/-! SUPPORT. Local store: where its bytes stand, what a write leaves, what spill counting touches (R93, R94). -/

namespace Sys2Proof.Machine

open Sys2Proof

/-! ### Reading what was written -/

@[simp] theorem mem_read_length (m : Mem) (a n : Nat) : (m.read a n).length = n := by simp [Mem.read]

theorem mem_read_write (m : Mem) (a : Nat) (data : List Byte) : (m.write a data).read a data.length = data := by
  refine List.ext_getElem (mem_read_length _ _ _) fun i hi hdata => ?_
  simp only [Mem.read, List.getElem_map, List.getElem_range, byte_write]
  rw [if_pos (by omega), Nat.add_sub_cancel_left, List.getD_eq_getElem _ _ hdata]

/-! ### Where local store stands -/

/-- Two devices put the local store of a cluster in one place: the SRAM setting and the spill base agree. -/
def Dev.lsAlike (phys : Nat) (a b : Dev) : Prop :=
  b.get (F.CLU_SRAM_SETTING phys) = a.get (F.CLU_SRAM_SETTING phys) ∧ b.get (F.CLU_SPILL_BASE phys) = a.get (F.CLU_SPILL_BASE phys)

/-- Fields that are neither. -/
def LsFree (phys : Nat) (l : List Fld) : Prop := ∀ g ∈ l, (F.CLU_SRAM_SETTING phys).key ≠ g.key ∧ (F.CLU_SPILL_BASE phys).key ≠ g.key

theorem LsFree.alike {phys : Nat} {l : List Fld} {a b : Dev} (hl : LsFree phys l) (h : Dev.sameRegsBut l a b) : Dev.lsAlike phys a b :=
  ⟨h _ fun g hg => (hl g hg).1, h _ fun g hg => (hl g hg).2⟩

theorem lsFree_spillCount (phys p : Nat) : LsFree phys [F.CLU_SPILLCNT_COUNT p] := by
  intro g hg
  obtain rfl := List.mem_singleton.mp hg
  simp only [Fld.key, F.CLU_SRAM_SETTING, F.CLU_SPILL_BASE, F.CLU_SPILLCNT_COUNT]
  omega

theorem lsFree_debug {phys : Nat} (hphys : phys < 512) : LsFree phys debugFields := by
  intro g hg
  simp only [debugFields, holdFields, List.mem_cons, List.not_mem_nil, or_false] at hg
  obtain rfl | rfl | rfl | rfl := hg <;>
    simp only [Fld.key, F.CLU_SRAM_SETTING, F.CLU_SPILL_BASE, F.TGD_SUM_DEBUG, F.TCK_STATUS_CAUSES, F.TCK_STATUS_STATE,
      F.TCK_STATUS_DCAUSES] <;> omega

section
variable {phys : Nat} {a b c : Dev}

theorem lsAlike_of_regs (h : b.regs = a.regs) : Dev.lsAlike phys a b := by
  unfold Dev.lsAlike Dev.get
  rw [h]
  exact ⟨rfl, rfl⟩

theorem lsAlike_trans (h : Dev.lsAlike phys a b) (k : Dev.lsAlike phys b c) : Dev.lsAlike phys a c :=
  ⟨k.1.trans h.1, k.2.trans h.2⟩

theorem lsSplit_alike (h : Dev.lsAlike phys a b) (x n : Nat) : b.lsSplit phys x n = a.lsSplit phys x n := by
  unfold Dev.lsSplit Dev.onChip
  rw [h.1]

theorem spillAt_alike (h : Dev.lsAlike phys a b) (x : Nat) : b.spillAt phys x = a.spillAt phys x := by
  unfold Dev.spillAt Dev.onChip
  rw [h.1, h.2]

theorem lsChip_alike (h : Dev.lsAlike phys a b) (x n : Nat) : b.lsChip phys x n = a.lsChip phys x n := by
  unfold Dev.lsChip
  rw [lsSplit_alike h]

theorem lsSpilled_alike (h : Dev.lsAlike phys a b) (x n : Nat) : b.lsSpilled phys x n = a.lsSpilled phys x n := by
  unfold Dev.lsSpilled
  rw [lsSplit_alike h, spillAt_alike h]

/-- A range reads its on-chip bytes, then its spilled ones. -/
theorem lsRead_eq (d : Dev) (phys x n : Nat) : d.lsRead phys x n =
    d.sram.read (d.lsChip phys x n).1 (d.lsChip phys x n).2 ++ d.mem.read (d.lsSpilled phys x n).1 (d.lsSpilled phys x n).2 := rfl

/-- The same place with the same bytes reads the same. -/
theorem lsRead_alike (h : Dev.lsAlike phys a b) (hmem : b.mem = a.mem) (hsram : b.sram = a.sram) (x n : Nat) :
    b.lsRead phys x n = a.lsRead phys x n := by
  rw [lsRead_eq, lsRead_eq, lsChip_alike h, lsSpilled_alike h, hmem, hsram]

end

theorem lsSplit_sum (d : Dev) (phys x n : Nat) : (d.lsSplit phys x n).1 + (d.lsSplit phys x n).2 = n := by
  unfold Dev.lsSplit
  dsimp only
  omega

theorem lsRead_length (d : Dev) (phys x n : Nat) : (d.lsRead phys x n).length = n := by
  have hsum := lsSplit_sum d phys x n
  unfold Dev.lsRead
  simpa using hsum

/-! ### Writing -/

section
variable (d : Dev) (phys x : Nat) (data : List Byte)

theorem lsWrite_sram : (d.lsWrite phys x data).sram = d.sram.write (sramAt phys x) (data.take (d.lsSplit phys x data.length).1) := by
  unfold Dev.lsWrite
  dsimp only
  by_cases hon : (d.lsSplit phys x data.length).1 = 0
  · rw [if_pos hon, hon]
    split <;> rfl
  · rw [if_neg hon]
    split <;> rfl

theorem lsWrite_mem :
    (d.lsWrite phys x data).mem = d.mem.write (d.lsSpilled phys x data.length).1 (data.drop (d.lsSplit phys x data.length).1) := by
  have hsum := lsSplit_sum d phys x data.length
  unfold Dev.lsWrite Dev.lsSpilled
  dsimp only
  by_cases hoff : (d.lsSplit phys x data.length).2 = 0
  · rw [if_pos hoff, List.drop_eq_nil_of_le (by omega)]
    split <;> rfl
  · rw [if_neg hoff]
    split <;> rfl

theorem lsWrite_regs : (d.lsWrite phys x data).regs = d.regs := by
  unfold Dev.lsWrite
  dsimp only
  split <;> split <;> rfl

theorem lsWrite_clus : (d.lsWrite phys x data).clus = d.clus := by
  unfold Dev.lsWrite
  dsimp only
  split <;> split <;> rfl

theorem lsWrite_events : (d.lsWrite phys x data).events = d.events := by
  unfold Dev.lsWrite
  dsimp only
  split <;> split <;> rfl

theorem lsWrite_parts : Dev.partsAlike d (d.lsWrite phys x data) := by
  unfold Dev.lsWrite
  dsimp only
  split
  · split <;> exact partsAlike_of_parts rfl
  · split
    · exact write_parts d _ _
    · exact partsAlike_trans (partsAlike_of_parts rfl) (write_parts _ _ _)

/-- Bytes written to local store are read. -/
theorem lsRead_lsWrite : (d.lsWrite phys x data).lsRead phys x data.length = data := by
  have hsum := lsSplit_sum d phys x data.length
  have halike : Dev.lsAlike phys d (d.lsWrite phys x data) := lsAlike_of_regs (lsWrite_regs d phys x data)
  have htake : (data.take (d.lsSplit phys x data.length).1).length = (d.lsSplit phys x data.length).1 := by simp; omega
  have hdrop : (data.drop (d.lsSplit phys x data.length).1).length = (d.lsSplit phys x data.length).2 := by simp; omega
  have hchip := mem_read_write d.sram (sramAt phys x) (data.take (d.lsSplit phys x data.length).1)
  have hspilled := mem_read_write d.mem (d.lsSpilled phys x data.length).1 (data.drop (d.lsSplit phys x data.length).1)
  rw [htake] at hchip
  rw [hdrop] at hspilled
  rw [lsRead_eq, lsChip_alike halike, lsSpilled_alike halike, lsWrite_sram, lsWrite_mem]
  exact (congrArg₂ _ hchip hspilled).trans (List.take_append_drop _ _)

/-- On-chip bytes outside the range stay. -/
theorem lsWrite_sameSram : Dev.sameSramBut [d.lsChip phys x data.length] d (d.lsWrite phys x data) := by
  intro y hy
  rw [lsWrite_sram]
  refine byte_write_outside _ _ _ _ ?_
  have hout := hy _ List.mem_cons_self
  have hsum := lsSplit_sum d phys x data.length
  rw [List.length_take]
  simp only [Dev.lsChip] at hout
  omega

/-- Memory bytes outside the range stay. -/
theorem lsWrite_sameMem : Dev.sameMemBut [d.lsSpilled phys x data.length] d (d.lsWrite phys x data) := by
  intro y hy
  rw [lsWrite_mem]
  refine byte_write_outside _ _ _ _ ?_
  have hout := hy _ List.mem_cons_self
  have hsum := lsSplit_sum d phys x data.length
  rw [List.length_drop]
  simp only [Dev.lsSpilled] at hout ⊢
  omega

end

/-! ### Counting spill accesses -/

section
variable (d : Dev) (phys : Nat) (l : List (Nat × Nat))

/-- Counting spill accesses writes one counter and nothing else. -/
theorem countSpill_only : ∃ r : Table Nat, d.countSpill phys l = { d with regs := r } := by
  unfold Dev.countSpill
  dsimp only
  split
  · exact ⟨d.regs, rfl⟩
  · exact ⟨_, rfl⟩

theorem countSpill_frame : Dev.onlyRegs [F.CLU_SPILLCNT_COUNT phys] d (d.countSpill phys l) := by
  unfold Dev.countSpill
  dsimp only
  split
  · exact onlyRegs_refl _ d
  · exact onlyRegs_bump d _ _

@[simp] theorem countSpill_mem : (d.countSpill phys l).mem = d.mem := (countSpill_frame d phys l).2.1

@[simp] theorem countSpill_sram : (d.countSpill phys l).sram = d.sram := (countSpill_frame d phys l).2.2.1

@[simp] theorem countSpill_events : (d.countSpill phys l).events = d.events := (countSpill_frame d phys l).2.2.2

@[simp] theorem countSpill_clus : (d.countSpill phys l).clus = d.clus := by
  obtain ⟨r, h⟩ := countSpill_only d phys l
  rw [h]

@[simp] theorem countSpill_parts : (d.countSpill phys l).parts = d.parts := by
  obtain ⟨r, h⟩ := countSpill_only d phys l
  rw [h]

theorem countSpill_alike (p : Nat) : Dev.lsAlike p d (d.countSpill phys l) := (lsFree_spillCount p phys).alike (countSpill_frame d phys l).1

end

/-! ### A counted write -/

/-- From `a` to `b` one range of local store was written with `data`, its spill accesses counted. -/
structure Dev.LsStored (phys x : Nat) (data : List Byte) (a b : Dev) : Prop where
  bytes : b.lsRead phys x data.length = data
  sram : Dev.sameSramBut [a.lsChip phys x data.length] a b
  mem : Dev.sameMemBut [a.lsSpilled phys x data.length] a b
  regs : Dev.sameRegsBut [F.CLU_SPILLCNT_COUNT phys] a b
  clus : b.clus = a.clus
  events : b.events = a.events
  parts : Dev.partsAlike a b

theorem countedWrite_stored (d : Dev) (phys x : Nat) (data : List Byte) (l : List (Nat × Nat)) :
    Dev.LsStored phys x data d ((d.countSpill phys l).lsWrite phys x data) := by
  have halike := countSpill_alike d phys l phys
  have hsram := lsWrite_sameSram (d.countSpill phys l) phys x data
  have hmem := lsWrite_sameMem (d.countSpill phys l) phys x data
  rw [lsChip_alike halike] at hsram
  rw [lsSpilled_alike halike] at hmem
  refine ⟨lsRead_lsWrite _ _ _ _, fun y hy => (hsram y hy).trans (by rw [countSpill_sram]),
    fun y hy => (hmem y hy).trans (by rw [countSpill_mem]), fun f hf => ?_, (lsWrite_clus _ _ _ _).trans (countSpill_clus d phys l),
    (lsWrite_events _ _ _ _).trans (countSpill_events d phys l),
    partsAlike_trans (partsAlike_of_parts (countSpill_parts d phys l)) (lsWrite_parts _ _ _ _)⟩
  have hregs := (countSpill_frame d phys l).1 f hf
  unfold Dev.get at hregs ⊢
  rw [lsWrite_regs, hregs]

end Sys2Proof.Machine
end

section
/-! SUPPORT. Accumulators: what a unit's 1,024 read after they are put, and what putting them leaves (R83, R88). -/

namespace Sys2Proof.Machine

open Sys2Proof

/-! ### Reading a table part by part -/

theorem table_get_of_above {α : Type} (d : Nat → α) (t : Table α) (k : Nat) (h : ∀ e ∈ t, k < e.1) : Table.get d t k = d k := by
  match t with
  | [] => rfl
  | (j, v) :: r => exact if_pos (h (j, v) List.mem_cons_self)

theorem table_get_append_below {α : Type} (d : Nat → α) (a t : Table α) (k : Nat) (h : ∀ e ∈ a, e.1 < k) :
    Table.get d (a ++ t) k = Table.get d t k := by
  induction a with
  | nil => rfl
  | cons e a ih =>
    have hlt := h e List.mem_cons_self
    rw [List.cons_append, Table.get, if_neg (Nat.not_lt.mpr hlt.le), if_neg hlt.ne]
    exact ih fun x hx => h x (List.mem_cons_of_mem _ hx)

/-! ### A block of accumulators in the table -/

/-- The entries of accumulators `l` from key `lo`: a zero has none. -/
def accBlock (lo : Nat) (l : List (Nat × Nat)) : Table Nat := l.filterMap fun r => if r.1 = 0 then none else some (lo + r.2, r.1)

theorem accBlock_cons (lo v n : Nat) (l : List (Nat × Nat)) :
    accBlock lo ((v, n) :: l) = (if v = 0 then [] else [(lo + n, v)]) ++ accBlock lo l := by
  unfold accBlock
  rw [List.filterMap_cons]
  by_cases h : v = 0 <;> simp [h]

/-- A block stands in its own range. -/
theorem accBlock_range {lo n : Nat} {l : List Nat} {e : Nat × Nat} (h : e ∈ accBlock lo (l.zipIdx n)) : lo + n ≤ e.1 ∧ e.1 < lo + n + l.length := by
  obtain ⟨⟨v, i⟩, hmem, he⟩ := List.mem_filterMap.mp h
  have hi := List.mem_zipIdx hmem
  dsimp only at he
  split at he
  · exact nomatch he
  · obtain rfl := Option.some.inj he
    dsimp only
    omega

/-- A block in a table is read, where what stands behind it lies above it, or where no accumulator of it is zero. -/
theorem accBlock_get (lo : Nat) (c : Table Nat) (l : List Nat) : ∀ n k : Nat, ((∀ e ∈ c, lo + n + l.length ≤ e.1) ∨ 0 ∉ l) → (hk : k < l.length) →
    Table.get (fun _ => 0) (accBlock lo (l.zipIdx n) ++ c) (lo + n + k) = l[k] := by
  induction l with
  | nil => exact fun n k _ hk => absurd hk (Nat.not_lt_zero k)
  | cons v l ih =>
    intro n k hc hk
    have hrest : (∀ e ∈ c, lo + (n + 1) + l.length ≤ e.1) ∨ 0 ∉ l :=
      hc.imp (fun h e he => by have := h e he; rw [List.length_cons] at this; omega) fun h hmem => h (List.mem_cons_of_mem _ hmem)
    rw [List.zipIdx_cons, accBlock_cons, List.append_assoc]
    cases k with
    | succ k =>
      rw [table_get_append_below _ _ _ _ (by intro e he; split at he <;> simp_all), show lo + n + (k + 1) = lo + (n + 1) + k by omega,
        ih (n + 1) k hrest (Nat.lt_of_succ_lt_succ hk), List.getElem_cons_succ]
    | zero =>
      simp only [Nat.add_zero, List.getElem_cons_zero]
      by_cases hv : v = 0
      · rw [if_pos hv, List.nil_append, hv]
        refine table_get_of_above _ _ _ fun e he => ?_
        obtain he | he := List.mem_append.mp he
        · have := accBlock_range he
          omega
        · obtain hc | hc := hc
          · have := hc e he
            rw [List.length_cons] at this
            omega
          · exact absurd (by rw [hv]; exact List.mem_cons_self) hc
      · rw [if_neg hv, List.singleton_append, Table.get, if_neg (lt_irrefl _), if_pos rfl]

/-! ### Putting the accumulators of a unit -/

theorem setAccs_acc (d : Dev) (phys u : Nat) (l : List Nat) : (d.setAccs phys u l).clus.acc =
    d.clus.acc.filter (fun r => r.1 < accKey phys u 0) ++
      (accBlock (accKey phys u 0) ((l.take 1024).zipIdx) ++ d.clus.acc.filter fun r => accKey phys u 0 + 1024 ≤ r.1) :=
  List.append_assoc _ _ _

theorem below_of_mem_filter {t : Table Nat} {k : Nat} {e : Nat × Nat} (h : e ∈ t.filter fun r => r.1 < k) : e.1 < k := by
  simpa using (List.mem_filter.mp h).2

theorem above_of_mem_filter {t : Table Nat} {k : Nat} {e : Nat × Nat} (h : e ∈ t.filter fun r => k ≤ r.1) : k ≤ e.1 := by
  simpa using (List.mem_filter.mp h).2

/-- The table holds the accumulators `l` of a unit, none of them zero, behind smaller keys only. -/
def Dev.accsStand (d : Dev) (phys u : Nat) (l : List Nat) : Prop :=
  ∃ a c : Table Nat, d.clus.acc = a ++ (accBlock (accKey phys u 0) (l.zipIdx) ++ c) ∧ ∀ e ∈ a, e.1 < accKey phys u 0

section
variable {d : Dev} {phys u : Nat} {l : List Nat}

theorem accs_getElem (d : Dev) (phys u : Nat) {k : Nat} (hk : k < 1024) :
    (d.accs phys u)[k]? = some (Table.get (fun _ => 0) d.clus.acc (accKey phys u 0 + k)) := by
  have hkey : accKey phys u k = accKey phys u 0 + k := by
    unfold accKey
    omega
  rw [Dev.accs, List.getElem?_map, List.getElem?_range hk, Option.map_some, hkey]

/-- The 1,024 accumulators that were put are read. -/
theorem accs_setAccs (d : Dev) (phys u : Nat) (hl : l.length = 1024) : (d.setAccs phys u l).accs phys u = l := by
  refine List.ext_getElem? fun k => ?_
  by_cases hk : k < 1024
  · rw [accs_getElem _ _ _ hk, setAccs_acc,
      table_get_append_below _ _ _ _ fun e he => (below_of_mem_filter he).trans_le (Nat.le_add_right _ _), List.take_of_length_le hl.le]
    have hget := accBlock_get (accKey phys u 0) (d.clus.acc.filter fun r => accKey phys u 0 + 1024 ≤ r.1) l 0 k
      (.inl fun e he => by rw [Nat.add_zero, hl]; exact above_of_mem_filter he) (by omega)
    rw [Nat.add_zero (accKey _ _ _)] at hget
    rw [hget, List.getElem?_eq_getElem]
  · rw [List.getElem?_eq_none (by simp [Dev.accs]; omega), List.getElem?_eq_none (by omega)]

theorem accsStand_setAccs (d : Dev) (phys u : Nat) (hl : l.length = 1024) : (d.setAccs phys u l).accsStand phys u l :=
  ⟨_, _, by rw [setAccs_acc, List.take_of_length_le hl.le], fun e he => below_of_mem_filter he⟩

/-- Accumulators that stand without a zero are read. -/
theorem accsStand_get (h : d.accsStand phys u l) (hl : l.length = 1024) (hzero : 0 ∉ l) : d.accs phys u = l := by
  obtain ⟨a, c, hacc, ha⟩ := h
  refine List.ext_getElem? fun k => ?_
  by_cases hk : k < 1024
  · have hget := accBlock_get (accKey phys u 0) c l 0 k (.inr hzero) (by omega)
    rw [Nat.add_zero (accKey _ _ _)] at hget
    rw [accs_getElem _ _ _ hk, hacc, table_get_append_below _ _ _ _ fun e he => (ha e he).trans_le (Nat.le_add_right _ _), hget, List.getElem?_eq_getElem]
  · rw [List.getElem?_eq_none (by simp [Dev.accs]; omega), List.getElem?_eq_none (by omega)]

/-- Accumulators of a lower unit still stand after those of a higher one were put. -/
theorem accsStand_later (h : d.accsStand phys u l) (hl : l.length = 1024) {v : Nat} (huv : u < v) (m : List Nat) :
    (d.setAccs phys v m).accsStand phys u l := by
  obtain ⟨a, c, hacc, ha⟩ := h
  have hkey : accKey phys u 0 + 1024 ≤ accKey phys v 0 := by
    unfold accKey
    omega
  refine ⟨a, c.filter (fun r => r.1 < accKey phys v 0) ++ (accBlock (accKey phys v 0) ((m.take 1024).zipIdx) ++
    d.clus.acc.filter fun r => accKey phys v 0 + 1024 ≤ r.1), ?_, ha⟩
  have hbelow : ∀ e ∈ a ++ accBlock (accKey phys u 0) (l.zipIdx), decide (e.1 < accKey phys v 0) = true := by
    intro e he
    refine decide_eq_true ?_
    obtain he | he := List.mem_append.mp he
    · have := ha e he
      omega
    · have := accBlock_range he
      omega
  have hfilter : d.clus.acc.filter (fun r => decide (r.1 < accKey phys v 0)) =
      a ++ (accBlock (accKey phys u 0) (l.zipIdx) ++ c.filter fun r => r.1 < accKey phys v 0) := by
    rw [hacc, ← List.append_assoc, List.filter_append, List.filter_eq_self.mpr hbelow, List.append_assoc]
  rw [setAccs_acc, hfilter]
  simp only [List.append_assoc]

/-- Entries outside the unit's range come and go with no put. -/
theorem mem_setAccs_outside (d : Dev) (phys u : Nat) (l : List Nat) {e : Nat × Nat}
    (he : e.1 < accKey phys u 0 ∨ accKey phys u 0 + 1024 ≤ e.1) : e ∈ (d.setAccs phys u l).clus.acc ↔ e ∈ d.clus.acc := by
  have hblock : e ∉ accBlock (accKey phys u 0) ((l.take 1024).zipIdx) := fun h => by
    have := accBlock_range h
    have := List.length_take_le 1024 l
    omega
  rw [setAccs_acc]
  simp only [List.mem_append, List.mem_filter, hblock, false_or, decide_eq_true_eq]
  constructor
  · rintro (h | h) <;> exact h.1
  · exact fun h => he.imp (fun hlt => ⟨h, hlt⟩) fun hge => ⟨h, hge⟩

theorem setAccs_core (d : Dev) (phys u : Nat) (l : List Nat) : Dev.sameCore d (d.setAccs phys u l) := ⟨rfl, rfl, rfl, rfl⟩

theorem setAccs_parts (d : Dev) (phys u : Nat) (l : List Nat) : (d.setAccs phys u l).parts = d.parts := rfl

theorem accs_of_clus {a b : Dev} (h : b.clus.acc = a.clus.acc) (phys u : Nat) : b.accs phys u = a.accs phys u := by
  unfold Dev.accs
  rw [h]

theorem accs_length (d : Dev) (phys u : Nat) : (d.accs phys u).length = 1024 := by simp [Dev.accs]

/-- The bytes of a unit's accumulators as STORE_A48 writes them. -/
theorem accBytes_length (d : Dev) (phys u : Nat) : ((d.accs phys u).flatMap fun w => leBytes 8 w).length = 0x2000 := by
  rw [List.length_flatMap, List.map_congr_left (g := fun _ => 8) fun w _ => length_leBytes 8 w, List.map_const', List.sum_replicate, accs_length]
  rfl

end

end Sys2Proof.Machine
end

section
/-! PROOF. The group-wide matrix instructions and their tickets (R89, R112 to R114). -/

namespace Sys2Proof.Machine

open Sys2Proof

/-! ### After a group-wide instruction -/

section
variable {a b t : Dev} {x : Gx} {tk : List Ticket}

/-- What an instruction stored in local store stands after the group went on. -/
theorem LsStored.wentOn {phys at_ : Nat} {data : List Byte} (h : Dev.LsStored phys at_ data a b) (hphys : phys < 512)
    (k : Dev.onlyRegs debugFields b t) : t.lsRead phys at_ data.length = data ∧
      Dev.sameRegsBut (F.CLU_SPILLCNT_COUNT phys :: debugFields) a t ∧ Dev.sameSramBut [a.lsChip phys at_ data.length] a t ∧
        Dev.sameMemBut [a.lsSpilled phys at_ data.length] a t := by
  obtain ⟨hregs, hmem, hsram, -⟩ := k
  refine ⟨(lsRead_alike ((lsFree_debug hphys).alike hregs) hmem hsram _ _).trans h.bytes, ?_, fun y hy => ?_, fun y hy => ?_⟩
  · exact sameRegsBut_trans (sameRegsBut_mono h.regs (by simp)) (sameRegsBut_mono hregs fun f hf => List.mem_cons_of_mem _ hf)
  · rw [hsram]
    exact h.sram y hy
  · rw [hmem]
    exact h.mem y hy

theorem wentOn_clus (h : a.wentOn t x tk) : t.clus.acc = a.clus.acc ∧ t.clus.l1 = a.clus.l1 ∧ t.clus.vregs = a.clus.vregs := by
  obtain ⟨-, -, -, gs, hclus⟩ := h
  rw [hclus]
  exact ⟨rfl, rfl, rfl⟩

/-- A group-wide instruction of an undivided group whose run is taken opens a ticket with its status (R112, R114). -/
theorem wideInstr_jump {ureg : Nat} {run : Gx → List Byte → Dev → Except (Option Nat) (Nat × Dev)} {d : Dev} {z : Nat × Dev}
    (hactive : x.g.active = x.g.live) (hopen : openTicket x.g.tickets stOk ≠ none) (hin : d.ureg x.k x.g ureg + 64 ≤ x.b.lsBytes)
    (hrun : run x (d.lsRead x.phys (x.b.lsBase + d.ureg x.k x.g ureg) 64) d = .ok z) (htk : openTicket x.g.tickets z.1 = some tk) :
    Dev.wideInstr ureg run x d = .jump { x.g with tickets := tk, pc := x.g.pc + instrBytes } z.2 := by
  unfold Dev.wideInstr
  dsimp only
  rw [if_neg (not_not_intro hactive), if_neg (by simpa using hopen), if_neg (Nat.not_lt.mpr hin), hrun]
  dsimp only
  rw [htk]

end

/-! ### Accumulator store and load of one unit -/

theorem accStore_stored (d : Dev) (phys mask u : Nat) (sp : LsSpan) (a : AccDesc) (hu : unitsOf mask = [u]) :
    Dev.LsStored phys (sp.base + a.addr + u * a.ustep) ((d.accs phys u).flatMap fun w => leBytes 8 w) d (d.accStore phys mask sp a) := by
  unfold Dev.accStore
  rw [hu, List.foldl_cons, List.foldl_nil]
  dsimp only
  exact countedWrite_stored d phys _ _ _

/-- The 1,024 accumulators that LOAD_A48 finds at a place of local store: 49 bits of each 64-bit word. -/
def Dev.accWords (d : Dev) (phys at_ : Nat) : List Nat :=
  (List.range 1024).map fun k => leWord ((d.lsRead phys at_ 0x2000).drop (8 * k)) 0 % 2 ^ 49

theorem accWords_length (d : Dev) (phys at_ : Nat) : (d.accWords phys at_).length = 1024 := by simp [Dev.accWords]

theorem accWords_getElem (d : Dev) (phys at_ : Nat) {k : Nat} (hk : k < 1024) :
    (d.accWords phys at_)[k]? = some (leWord ((d.lsRead phys at_ 0x2000).drop (8 * k)) 0 % 2 ^ 49) := by
  rw [Dev.accWords, List.getElem?_map, List.getElem?_range hk, Option.map_some]

/-- A load of one unit without an error puts what it finds, and counts its spill accesses. -/
theorem accLoad_one (d : Dev) (phys mask u : Nat) (sp : LsSpan) (a : AccDesc) (hu : unitsOf mask = [u])
    (hbad : d.lsBad phys (sp.base + a.addr + u * a.ustep) 0x2000 = false) : d.accLoad phys mask sp a false =
      (stOk, (d.countSpill phys [(sp.base + a.addr + u * a.ustep, 0x2000)]).setAccs phys u
        (d.accWords phys (sp.base + a.addr + u * a.ustep))) := by
  unfold Dev.accLoad Dev.accWords
  rw [hu]
  dsimp only
  rw [if_neg (by simp [hbad]), List.map_cons, List.map_nil, List.foldl_cons, List.foldl_nil]

/-- Such a load leaves the accumulators it found, no field but the spill count, and the partitions. -/
theorem accsLoaded (d : Dev) (phys u at_ : Nat) (l : List (Nat × Nat)) :
    ((d.countSpill phys l).setAccs phys u (d.accWords phys at_)).accs phys u = d.accWords phys at_ ∧
      Dev.onlyRegs [F.CLU_SPILLCNT_COUNT phys] d ((d.countSpill phys l).setAccs phys u (d.accWords phys at_)) ∧
      ((d.countSpill phys l).setAccs phys u (d.accWords phys at_)).parts = d.parts :=
  ⟨accs_setAccs _ _ _ (accWords_length _ _ _), onlyRegs_trans (countSpill_frame d phys l) (onlyRegs_core _ (setAccs_core _ _ _ _)),
    (setAccs_parts _ _ _ _).trans (countSpill_parts d phys l)⟩

/-! ### TMMA, TASTORE, TALOAD -/

section
variable {s : State} {r : GroupRef} {x : Gx} {units : BitVec 4} {ureg : Fin 64} {tk : List Ticket}

theorem tmma_runs {due : Bool} (hs : s.powered) (hruns : s.dev.runs r x) (hclear : x.clearAt (x.g.pc + instrBytes))
    (hactive : x.g.active = x.g.live) (hin : s.dev.ureg x.k x.g ureg + 64 ≤ x.b.lsBytes) (m : MatDesc) (z : Nat × Dev)
    (hm : m = matDesc (s.dev.lsRead x.phys (x.b.lsBase + s.dev.ureg x.k x.g ureg) 64))
    (hz : z = s.dev.matRun x.phys x.l.strict units.toNat x.span m ⟨true, x.k % 48⟩ due)
    (hcheck : s.dev.matCheck x.phys x.l.strict (unitsOf units.toNat) x.span m = stOk) (howned : s.dev.unitsOwned x units.toNat = false)
    (hopen : openTicket x.g.tickets stOk ≠ none) (htk : openTicket x.g.tickets z.1 = some tk) :
    Answers (.tmma r units ureg due) s fun t =>
      t.dev.advanced x ∧ (∃ g : Group, t.dev.group x.k = some g ∧ g.tickets = tk) ∧ t.dev.clus.acc = z.2.clus.acc ∧ t.dev.sram = z.2.sram ∧
        t.dev.mem = z.2.mem ∧ t.dev.events = z.2.events ∧ Dev.sameRegsBut debugFields z.2 t.dev ∧ State.sameBut s t := by
  have hrun : Dev.tmmaRun units.toNat due x (s.dev.lsRead x.phys (x.b.lsBase + s.dev.ureg x.k x.g ureg) 64) s.dev = .ok z := by
    unfold Dev.tmmaRun
    dsimp only
    rw [← hm, if_neg (not_not_intro hcheck), if_neg (by simp [howned]), hz]
  have hwent := instr_jump hruns hclear (wideInstr_jump hactive hopen hin hrun htk)
  obtain ⟨hacc, -⟩ := wentOn_clus hwent
  obtain ⟨hadv, hgroup, ⟨hregs, hmem, hsram, hevents⟩, -⟩ := hwent
  exact answers_onDev hs rfl ⟨hadv, hgroup, hacc, hsram, hmem, hevents, hregs, rfl, rfl, rfl⟩

theorem tastore_stores {u : Nat} (hs : s.powered) (hruns : s.dev.runs r x) (hclear : x.clearAt (x.g.pc + instrBytes))
    (hactive : x.g.active = x.g.live) (hin : s.dev.ureg x.k x.g ureg + 64 ≤ x.b.lsBytes) (a : AccDesc)
    (ha : a = accDesc (s.dev.lsRead x.phys (x.b.lsBase + s.dev.ureg x.k x.g ureg) 64))
    (hcheck : s.dev.accCheck units.toNat x.span a = stOk) (howned : s.dev.unitsOwned x units.toNat = false) (hu : unitsOf units.toNat = [u])
    (htk : openTicket x.g.tickets stOk = some tk) :
    Answers (.tastore r units ureg) s fun t =>
      t.dev.advanced x ∧ (∃ g : Group, t.dev.group x.k = some g ∧ g.tickets = tk) ∧
        t.dev.lsRead x.phys (x.b.lsBase + a.addr + u * a.ustep) 0x2000 = (s.dev.accs x.phys u).flatMap (fun w => leBytes 8 w) ∧
        State.sameBut s t ∧ Dev.sameRegsBut (F.CLU_SPILLCNT_COUNT x.phys :: debugFields) s.dev t.dev ∧
        Dev.sameSramBut [s.dev.lsChip x.phys (x.b.lsBase + a.addr + u * a.ustep) 0x2000] s.dev t.dev ∧
        Dev.sameMemBut [s.dev.lsSpilled x.phys (x.b.lsBase + a.addr + u * a.ustep) 0x2000] s.dev t.dev := by
  have hrun : Dev.tastoreRun units.toNat x (s.dev.lsRead x.phys (x.b.lsBase + s.dev.ureg x.k x.g ureg) 64) s.dev =
      .ok (stOk, s.dev.accStore x.phys units.toNat x.span a) := by
    unfold Dev.tastoreRun
    dsimp only
    rw [← ha, if_neg (not_not_intro hcheck), if_neg (by simp [howned])]
  obtain ⟨hadv, hgroup, hregs, -⟩ := instr_jump hruns hclear (wideInstr_jump hactive (by simp [htk]) hin hrun htk)
  have hstored := LsStored.wentOn (accStore_stored s.dev x.phys units.toNat u x.span a hu) (runs_phys hruns) hregs
  rw [accBytes_length] at hstored
  obtain ⟨hbytes, hfields, hsram, hmem⟩ := hstored
  exact answers_onDev hs rfl ⟨hadv, hgroup, hbytes, ⟨rfl, rfl, rfl⟩, hfields, hsram, hmem⟩

theorem taload_loads {u : Nat} (hs : s.powered) (hruns : s.dev.runs r x) (hclear : x.clearAt (x.g.pc + instrBytes))
    (hactive : x.g.active = x.g.live) (hin : s.dev.ureg x.k x.g ureg + 64 ≤ x.b.lsBytes) (a : AccDesc)
    (ha : a = accDesc (s.dev.lsRead x.phys (x.b.lsBase + s.dev.ureg x.k x.g ureg) 64))
    (hcheck : s.dev.accCheck units.toNat x.span a = stOk) (howned : s.dev.unitsOwned x units.toNat = false) (hu : unitsOf units.toNat = [u])
    (hbad : s.dev.lsBad x.phys (x.b.lsBase + a.addr + u * a.ustep) 0x2000 = false) (htk : openTicket x.g.tickets stOk = some tk) :
    Answers (.taload r units ureg) s fun t =>
      t.dev.advanced x ∧ (∃ g : Group, t.dev.group x.k = some g ∧ g.tickets = tk) ∧
        (∀ k : Nat, k < 1024 → (t.dev.accs x.phys u)[k]? =
          some (leWord ((s.dev.lsRead x.phys (x.b.lsBase + a.addr + u * a.ustep) 0x2000).drop (8 * k)) 0 % 2 ^ 49)) ∧
        State.onlyFields (F.CLU_SPILLCNT_COUNT x.phys :: debugFields) s t := by
  obtain ⟨haccs, hframe, -⟩ := accsLoaded s.dev x.phys u (x.b.lsBase + a.addr + u * a.ustep) [(x.b.lsBase + a.addr + u * a.ustep, 0x2000)]
  have hrun : Dev.taloadRun units.toNat x (s.dev.lsRead x.phys (x.b.lsBase + s.dev.ureg x.k x.g ureg) 64) s.dev =
      .ok (stOk, (s.dev.countSpill x.phys [(x.b.lsBase + a.addr + u * a.ustep, 0x2000)]).setAccs x.phys u
        (s.dev.accWords x.phys (x.b.lsBase + a.addr + u * a.ustep))) := by
    unfold Dev.taloadRun
    dsimp only
    rw [← ha, if_neg (not_not_intro hcheck), if_neg (by simp [howned]), accLoad_one s.dev x.phys units.toNat u x.span a hu hbad]
    rfl
  have hwent := instr_jump hruns hclear (wideInstr_jump hactive (by simp [htk]) hin hrun htk)
  obtain ⟨hacc, -⟩ := wentOn_clus hwent
  obtain ⟨hadv, hgroup, hregs, -⟩ := hwent
  refine answers_onDev hs rfl ⟨hadv, hgroup, fun k hk => ?_, onlyFields_of_dev ?_⟩
  · rw [accs_of_clus hacc, haccs]
    exact accWords_getElem _ _ _ hk
  · exact onlyRegs_trans (onlyRegs_mono hframe (by simp)) (onlyRegs_mono hregs fun f hf => List.mem_cons_of_mem _ hf)

end

/-! ### TMOVE -/

theorem launchHost_core (d : Dev) (x : Gx) (any : Bool) : Dev.sameCore d (d.launchHost x any) := by
  unfold Dev.launchHost
  split
  · exact ⟨rfl, rfl, rfl, rfl⟩
  · exact ⟨rfl, rfl, rfl, rfl⟩

/-- A transfer that names no range by address asks the Roundabout for nothing. -/
theorem tmoveRange_segment (x : Gx) (d : Dev) (ureg : Nat) (m : MovDesc)
    (hm : m = movDesc (d.lsRead x.phys (x.b.lsBase + d.ureg x.k x.g ureg) 64)) (hseg : m.seg ≠ 0xFF ∨ m.dir = 2) : d.tmoveRange x ureg = none := by
  unfold Dev.tmoveRange
  dsimp only
  rw [← hm]
  exact if_neg fun h => hseg.elim (fun hne => hne h.2.2.2.2.2.1) fun hdir => h.2.2.2.2.2.2.1 hdir

theorem tmove_moves {s : State} {r : GroupRef} {x : Gx} {mover : Fin 4} {ureg : Fin 64} {due : Bool} {tk : List Ticket} (hs : s.powered)
    (hruns : s.dev.runs r x) (hclear : x.clearAt (x.g.pc + instrBytes)) (hactive : x.g.active = x.g.live)
    (hin : s.dev.ureg x.k x.g ureg + 64 ≤ x.b.lsBytes) (m : MovDesc)
    (hm : m = movDesc (s.dev.lsRead x.phys (x.b.lsBase + s.dev.ureg x.k x.g ureg) 64)) (sg : Segment)
    (hsg : sg = x.l.segs.getD m.seg ⟨0, 0, 0, []⟩) (z : Nat × Dev)
    (hz : z = s.dev.movRun x.phys x.span sg.extents (sg.base + m.memOffset) m due) (hreserved : movReserved true m = true)
    (hempty : movEmpty m = false) (hseg : m.seg ≠ 0xFF ∨ m.dir = 2) (hcheck : movSegCheck x.span x.l.segs m = stOk)
    (howned : s.dev.ownsMover x.l.part (x.k / 48) mover = false)
    (hwait : s.dev.runsWait (movAllRuns sg.extents (sg.base + m.memOffset) m) = false) (hopen : openTicket x.g.tickets stOk ≠ none)
    (htk : openTicket x.g.tickets z.1 = some tk) :
    Answers (.tmove r mover ureg due) s fun t =>
      t.dev.advanced x ∧ (∃ g : Group, t.dev.group x.k = some g ∧ g.tickets = tk) ∧ t.dev.sram = z.2.sram ∧ t.dev.mem = z.2.mem ∧
        t.dev.events = z.2.events ∧ Dev.sameRegsBut debugFields z.2 t.dev ∧ State.sameBut s t := by
  let host := m.dir == 1 && (movAllRuns sg.extents (sg.base + m.memOffset) m).any fun r => isHost r.1
  have hrun : Dev.tmoveRun mover due x (s.dev.lsRead x.phys (x.b.lsBase + s.dev.ureg x.k x.g ureg) 64) s.dev =
      .ok (z.1, z.2.launchHost x host) := by
    unfold Dev.tmoveRun
    dsimp only
    rw [← hm, if_neg (by simp [hreserved]), if_neg (by simp [hempty]), if_pos hseg, if_neg (not_not_intro hcheck), if_neg (by simp [howned]),
      ← hsg, if_neg (by simp [hwait]), hz]
  have htmove : s.dev.tmove r mover ureg due = s.dev.instr r (Dev.wideInstr ureg (Dev.tmoveRun mover due)) := by
    unfold Dev.tmove
    rw [hruns.1, Option.bind_some, tmoveRange_segment x s.dev ureg m hm hseg]
    rfl
  obtain ⟨hadv, hgroup, hregs, -⟩ := instr_jump hruns hclear (wideInstr_jump hactive hopen hin hrun htk)
  obtain ⟨hfields, hmem, hsram, hevents⟩ := onlyRegs_trans (onlyRegs_core debugFields (launchHost_core z.2 x host)) hregs
  rw [← htmove] at hadv hgroup hfields hmem hsram hevents
  exact answers_onDev hs rfl ⟨hadv, hgroup, hsram, hmem, hevents, hfields, rfl, rfl, rfl⟩

/-! ### Tickets (R114) -/

theorem closeTicket_open {d : Dev} {r : GroupRef} {i : Nat} {g : Group} {tk : Ticket} (hg : d.group (groupKey r.cluster r.slot) = some g)
    (htk : g.tickets[i]? = some tk) (hopen : tk.isOpen = true) : d.closeTicket r i =
      d.setGroup (groupKey r.cluster r.slot) (some { g with tickets := g.tickets.set i { tk with isOpen := false } }) := by
  unfold Dev.closeTicket
  dsimp only
  rw [hg]
  dsimp only
  rw [htk]
  exact if_pos hopen

theorem ticketClose_closes (s : State) (r : GroupRef) (i : Fin 8) (g : Group) (tk : Ticket) (hs : s.powered)
    (hg : s.dev.group (groupKey r.cluster r.slot) = some g) (htk : g.tickets[i.val]? = some tk) (hopen : tk.isOpen = true) :
    Answers (.ticketClose r i) s fun t =>
      t.dev.group (groupKey r.cluster r.slot) = some { g with tickets := g.tickets.set i { tk with isOpen := false } } ∧
        State.onlyFields [] s t := by
  have hclose := closeTicket_open hg htk hopen
  refine answers_onDev (f := fun d => d.closeTicket r i.val) hs rfl ⟨?_, onlyFields_of_dev ?_⟩
  · rw [hclose, group_setGroup, if_pos rfl]
  · rw [hclose]
    exact onlyRegs_core _ ⟨rfl, rfl, rfl, rfl⟩

/-- What TWAIT does with the ticket it names. -/
def waitTicket (i : Nat) (x : Gx) (d : Dev) : IRes :=
  match x.g.tickets[i]? with
  | none => .done d
  | some t => if t.isOpen then .wait else if t.status ≠ stOk then .trap t.status 0 d else .done d

theorem exec_twait (r : GroupRef) (i : Fin 8) (s : State) : exec (.twait r i) s = onDev (Dev.instr r (waitTicket i.val)) s := rfl

section
variable {s : State} {r : GroupRef} {x : Gx} {i : Fin 8} {tk : Ticket}

theorem twait_waits (hs : s.powered) (hruns : s.dev.runs r x) (htk : x.g.tickets[i.val]? = some tk) (hopen : tk.isOpen = true) :
    Answers (.twait r i) s fun t => t = s := by
  have hres : waitTicket i.val x s.dev = .wait := by
    unfold waitTicket
    rw [htk]
    exact if_pos hopen
  refine answers_onDev hs (exec_twait r i s) ?_
  rw [instr_wait hruns hres]

theorem twait_passes (hs : s.powered) (hruns : s.dev.runs r x) (htk : x.g.tickets[i.val]? = some tk) (hclosed : tk.isOpen = false)
    (hok : tk.status = stOk) (hclear : x.clearAt (x.g.pc + instrBytes)) :
    Answers (.twait r i) s fun t => t.dev.advanced x ∧ State.onlyFields debugFields s t := by
  have hres : waitTicket i.val x s.dev = .done s.dev := by
    unfold waitTicket
    rw [htk]
    dsimp only
    rw [if_neg (by simp [hclosed]), if_neg (not_not_intro hok)]
  obtain ⟨hadv, -, hregs, -⟩ := instr_done hruns hclear hres rfl
  exact answers_onDev hs (exec_twait r i s) ⟨hadv, onlyFields_of_dev hregs⟩

theorem twait_traps (hs : s.powered) (hruns : s.dev.runs r x) (htk : x.g.tickets[i.val]? = some tk) (hclosed : tk.isOpen = false)
    (herror : tk.status ≠ stOk) (hstop : s.dev.on F.TGD_CTRL_TRAP_STOP = true) :
    Answers (.twait r i) s fun t =>
      (∃ g : Group, t.dev.group x.k = some g ∧ g.state = gsHalted ∧ g.trap = tk.status ∧ g.pc = x.g.pc) ∧ State.onlyFields debugFields s t := by
  have hres : waitTicket i.val x s.dev = .trap tk.status 0 s.dev := by
    unfold waitTicket
    rw [htk]
    dsimp only
    rw [if_neg (by simp [hclosed]), if_pos herror]
  obtain ⟨hgroup, hregs⟩ := trapGroup_halts s.dev x.k x.phys x.g x.b tk.status 0 hstop
  rw [← instr_trap hruns hres] at hgroup hregs
  exact answers_onDev hs (exec_twait r i s) ⟨⟨_, hgroup, rfl, rfl, rfl⟩, onlyFields_of_dev hregs⟩

end

/-- Settles O22: each group-wide instruction by the common part and its run; the tickets by their list. -/
theorem groupWideMatrixAndTickets : Obligations.GroupWideMatrixAndTickets := by
  refine ⟨?_, ?_, ?_, ?_, ticketClose_closes, fun s r x i tk hs hruns htk =>
    ⟨twait_waits hs hruns htk, twait_passes hs hruns htk, twait_traps hs hruns htk⟩⟩
  · exact fun s r x units ureg due tk hs hruns hclear hactive hin => tmma_runs hs hruns hclear hactive hin _ _ rfl rfl
  · exact fun s r x units ureg u tk hs hruns hclear hactive hin => tastore_stores hs hruns hclear hactive hin _ rfl
  · exact fun s r x units ureg u tk hs hruns hclear hactive hin => taload_loads hs hruns hclear hactive hin _ rfl
  · exact fun s r x mover ureg due tk hs hruns hclear hactive hin => tmove_moves hs hruns hclear hactive hin _ rfl _ rfl _ rfl

end Sys2Proof.Machine
end

section
/-! PROOF. Loads and stores of threads: local store, and memory through the L1 (R95, R104, R158, R162). -/

namespace Sys2Proof.Machine

open Sys2Proof

/-! ### Vector registers -/

theorem vreg_setVreg (d : Dev) (k : Nat) (g : Group) (t r v t' r' : Nat) : (d.setVreg k t r v).vreg k g t' r' =
    if vregKey k t' r' = vregKey k t r then v % 2 ^ 32 else d.vreg k g t' r' := by
  unfold Dev.vreg Dev.setVreg
  dsimp only
  split
  · next h => rw [h, table_get_ins_same]
  · next h => exact table_get_ins_ne _ _ _ _ _ h

theorem vregKey_inj {k t r t' r' : Nat} (hr : r < 256) (hr' : r' < 256) : vregKey k t r = vregKey k t' r' ↔ t = t' ∧ r = r' := by
  unfold vregKey
  omega

theorem regsOf_pos (n : Nat) : 1 ≤ regsOf n := by
  unfold regsOf
  split <;> omega

section
variable (d : Dev) (k : Nat) (g : Group) {t dst n : Nat} (v : Nat) (hdst : dst + regsOf n ≤ 256)
include hdst

/-- Writing a value in a thread's registers leaves every other register. -/
theorem vreg_setVval_other {th r : Nat} (hr : r < 256) (h : th ≠ t ∨ r < dst ∨ dst + regsOf n ≤ r) :
    (d.setVval k t dst n v).vreg k g th r = d.vreg k g th r := by
  unfold regsOf at hdst h
  unfold Dev.setVval
  split
  · next hn =>
    rw [if_pos hn] at hdst h
    rw [vreg_setVreg, if_neg (by rw [vregKey_inj hr (by omega)]; omega), vreg_setVreg, if_neg (by rw [vregKey_inj hr (by omega)]; omega)]
  · next hn =>
    rw [if_neg hn] at hdst h
    rw [vreg_setVreg, if_neg (by rw [vregKey_inj hr (by omega)]; omega)]

/-- The value is read back. -/
theorem vval_setVval (hn : n ≤ 4 ∨ n = 8) (hv : v < 2 ^ (8 * n)) : (d.setVval k t dst n v).vval k g t dst n = v := by
  unfold regsOf at hdst
  unfold Dev.setVval Dev.vval
  by_cases h8 : n = 8
  · subst h8
    rw [if_pos rfl] at hdst
    rw [if_pos rfl, if_pos rfl, vreg_setVreg, if_neg (by rw [vregKey_inj (by omega) (by omega)]; omega), vreg_setVreg, if_pos rfl,
      vreg_setVreg, if_pos rfl]
    omega
  · rw [if_neg h8, if_neg h8, vreg_setVreg, if_pos rfl, Nat.mod_eq_of_lt hv,
      Nat.mod_eq_of_lt (lt_of_lt_of_le hv (Nat.pow_le_pow_right (by decide) (by omega))), Nat.mod_eq_of_lt hv]

end

/-- A value is as before where its registers are. -/
theorem vval_congr {a b : Dev} {k : Nat} {g : Group} {t dst n : Nat} (h : ∀ r : Nat, dst ≤ r → r < dst + regsOf n → b.vreg k g t r = a.vreg k g t r) :
    b.vval k g t dst n = a.vval k g t dst n := by
  have hpos := regsOf_pos n
  unfold Dev.vval
  split
  · next hn =>
    have htwo : regsOf n = 2 := if_pos hn
    rw [h dst (le_refl _) (by omega), h (dst + 1) (by omega) (by omega)]
  · rw [h dst (le_refl _) (by omega)]

theorem vreg_of_clus {a b : Dev} (h : b.clus.vregs = a.clus.vregs) (k : Nat) (g : Group) (t r : Nat) : b.vreg k g t r = a.vreg k g t r := by
  unfold Dev.vreg
  rw [h]

/-- Writing registers touches nothing else of a cluster, and nothing outside them. -/
theorem setVval_only (d : Dev) (k t r n v : Nat) : ∃ m : Table Nat, d.setVval k t r n v = { d with clus := { d.clus with vregs := m } } := by
  unfold Dev.setVval
  split <;> exact ⟨_, rfl⟩

/-! ### The threads of an instruction -/

theorem threadsOf_lt {m t : Nat} (h : t ∈ threadsOf m) : t < 32 ∧ bit m t = true := by
  obtain ⟨hrange, hbit⟩ := List.mem_filter.mp h
  exact ⟨List.mem_range.mp hrange, hbit⟩

theorem threadsOf_nodup (m : Nat) : (threadsOf m).Nodup := List.nodup_range.filter _

/-- A check that pairs each thread with a place, or stops, keeps the threads in order. -/
theorem foldr_threads {f : Nat → Except (Nat × Nat) (List (Nat × Nat)) → Except (Nat × Nat) (List (Nat × Nat))}
    (hf : ∀ (t : Nat) (r : Except (Nat × Nat) (List (Nat × Nat))) (l : List (Nat × Nat)), f t r = .ok l →
      ∃ (a : Nat) (m : List (Nat × Nat)), r = .ok m ∧ l = (t, a) :: m) (ts : List Nat) :
    ∀ l : List (Nat × Nat), ts.foldr f (.ok []) = .ok l → l.map Prod.fst = ts := by
  induction ts with
  | nil =>
    intro l h
    obtain rfl := Except.ok.inj h
    rfl
  | cons t ts ih =>
    intro l h
    obtain ⟨a, m, hm, rfl⟩ := hf t _ l h
    rw [List.map_cons, ih m hm]

theorem except_map_cons {r : Except (Nat × Nat) (List (Nat × Nat))} {l : List (Nat × Nat)} {t a : Nat}
    (h : (r.map fun l => (t, a) :: l) = .ok l) : ∃ (b : Nat) (m : List (Nat × Nat)), r = .ok m ∧ l = (t, b) :: m := by
  cases r with
  | error e => exact nomatch h
  | ok m => exact ⟨a, m, rfl, (Except.ok.inj h).symm⟩

theorem lsAccessAll_threads {d : Dev} {x : Gx} {addrs : List Nat} {n : Nat} {l : List (Nat × Nat)} (h : d.lsAccessAll x addrs n = .ok l) :
    l.map Prod.fst = threadsOf x.g.active := by
  refine foldr_threads (fun t r l hl => ?_) _ l h
  dsimp only at hl
  split at hl
  · exact nomatch hl
  · exact except_map_cons hl

theorem accessAll_threads {x : Gx} {addrs : List Nat} {n need : Nat} {l : List (Nat × Nat)} (h : accessAll x addrs n need = .ok l) :
    l.map Prod.fst = threadsOf x.g.active := by
  refine foldr_threads (fun t r l hl => ?_) _ l h
  split at hl
  · exact nomatch hl
  · exact except_map_cons hl

theorem not_badReg {x : Gx} {dst n : Nat} (h : badReg x [(dst, n)] = false) : dst + n ≤ x.g.regs := by
  simpa [badReg] using h

theorem leNat_lt (l : List Byte) : leNat l < 2 ^ (8 * l.length) := by
  induction l with
  | nil => exact Nat.one_pos
  | cons b l ih =>
    have hb := b.isLt
    rw [List.length_cons, Nat.mul_succ, Nat.pow_add]
    unfold leNat
    omega

theorem accessBytes_cases (sz : Fin 4) : 2 ^ sz.val ≤ 4 ∨ 2 ^ sz.val = 8 := by
  revert sz
  decide

/-! ### Local-store loads -/

/-- One thread's local-store load: its spill accesses counted, the value in its registers. -/
def Dev.lsLoadStep (x : Gx) (n dst : Nat) (val : Nat → Nat) (d : Dev) (q : Nat × Nat) : Dev :=
  (d.countSpill x.phys [(q.2, n)]).setVval x.k q.1 dst n (val q.2)

section
variable (x : Gx) {n dst : Nat} (val : Nat → Nat)

theorem lsLoadStep_frame (d : Dev) (q : Nat × Nat) : Dev.onlyRegs [F.CLU_SPILLCNT_COUNT x.phys] d (d.lsLoadStep x n dst val q) ∧
    (d.lsLoadStep x n dst val q).clus.groups = d.clus.groups := by
  obtain ⟨m, hm⟩ := setVval_only (d.countSpill x.phys [(q.2, n)]) x.k q.1 dst n (val q.2)
  unfold Dev.lsLoadStep
  rw [hm]
  have hgroups : (d.countSpill x.phys [(q.2, n)]).clus.groups = d.clus.groups := by rw [countSpill_clus]
  exact ⟨onlyRegs_trans (countSpill_frame d x.phys _) (onlyRegs_core _ ⟨rfl, rfl, rfl, rfl⟩), hgroups⟩

theorem lsLoad_frame (l : List (Nat × Nat)) : ∀ d : Dev, Dev.onlyRegs [F.CLU_SPILLCNT_COUNT x.phys] d (l.foldl (Dev.lsLoadStep x n dst val) d) ∧
    (l.foldl (Dev.lsLoadStep x n dst val) d).clus.groups = d.clus.groups := by
  induction l with
  | nil => exact fun d => ⟨onlyRegs_refl _ d, rfl⟩
  | cons q l ih =>
    intro d
    obtain ⟨hstep, hgroups⟩ := lsLoadStep_frame x (n := n) (dst := dst) val d q
    obtain ⟨hrest, hrestGroups⟩ := ih (d.lsLoadStep x n dst val q)
    exact ⟨onlyRegs_trans hstep hrest, hrestGroups.trans hgroups⟩

variable (hdst : dst + regsOf n ≤ 256)
include hdst

theorem lsLoadStep_other (d : Dev) (q : Nat × Nat) {th r : Nat} (hr : r < 256) (h : th ≠ q.1 ∨ r < dst ∨ dst + regsOf n ≤ r) :
    (d.lsLoadStep x n dst val q).vreg x.k x.g th r = d.vreg x.k x.g th r :=
  (vreg_setVval_other _ x.k x.g _ hdst hr h).trans (vreg_of_clus (congrArg _ (countSpill_clus d x.phys _)) _ _ _ _)

theorem lsLoad_other (l : List (Nat × Nat)) {th r : Nat} (hr : r < 256) (h : th ∉ l.map Prod.fst ∨ r < dst ∨ dst + regsOf n ≤ r) :
    ∀ d : Dev, (l.foldl (Dev.lsLoadStep x n dst val) d).vreg x.k x.g th r = d.vreg x.k x.g th r := by
  induction l with
  | nil => exact fun d => rfl
  | cons q l ih =>
    intro d
    rw [List.map_cons, List.mem_cons, not_or] at h
    exact (ih (h.imp_left And.right) _).trans (lsLoadStep_other x val hdst d q hr (h.imp_left And.left))

/-- Each thread of a local-store load gets its value, whatever the threads before and after it write. -/
theorem lsLoad_value (hn : n ≤ 4 ∨ n = 8) (hval : ∀ a : Nat, val a < 2 ^ (8 * n)) (l : List (Nat × Nat)) :
    (l.map Prod.fst).Nodup → ∀ d : Dev, ∀ q ∈ l, (l.foldl (Dev.lsLoadStep x n dst val) d).vval x.k x.g q.1 dst n = val q.2 := by
  induction l with
  | nil => exact fun _ d q hq => nomatch hq
  | cons y l ih =>
    intro hnodup d q hq
    rw [List.map_cons, List.nodup_cons] at hnodup
    obtain ⟨hfresh, hnodup⟩ := hnodup
    obtain rfl | hq := List.mem_cons.mp hq
    · refine (vval_congr fun r hlo hhi => ?_).trans (vval_setVval (d.countSpill x.phys [(q.2, n)]) x.k x.g (val q.2) hdst hn (hval q.2))
      exact lsLoad_other x val hdst l (by omega) (.inl hfresh) _
    · exact ih hnodup _ q hq

end

/-- A local-store load of threads that all stay inside the window (R95, R104). -/
theorem lsLoad_loads (s : State) (r : GroupRef) (x : Gx) (addrs : List Nat) (sz : Fin 4) (dst : Fin 256) (evicted : Bool)
    (l : List (Nat × Nat)) (hs : s.powered) (hruns : s.dev.runs r x) (hclear : x.clearAt (x.g.pc + instrBytes)) (hregs : x.g.regs ≤ 256)
    (hreg : badReg x [(dst.val, regsOf (2 ^ sz.val))] = false) (hl : s.dev.lsAccessAll x addrs (2 ^ sz.val) = .ok l)
    (hbad : (l.any fun q => s.dev.lsBad x.phys q.2 (2 ^ sz.val)) = false) :
    Answers (.threadLoad r true addrs sz dst evicted false) s fun t =>
      t.dev.advanced x ∧
        (∀ q ∈ l, t.dev.vval x.k x.g q.1 dst (2 ^ sz.val) = leNat (s.dev.lsRead x.phys q.2 (2 ^ sz.val))) ∧
        Dev.sameVregsBut s.dev t.dev x dst (regsOf (2 ^ sz.val)) ∧ State.onlyFields (F.CLU_SPILLCNT_COUNT x.phys :: debugFields) s t := by
  let val (a : Nat) : Nat := leNat (s.dev.lsRead x.phys a (2 ^ sz.val))
  let e := l.foldl (Dev.lsLoadStep x (2 ^ sz.val) dst val) s.dev
  have hval : ∀ a : Nat, val a < 2 ^ (8 * 2 ^ sz.val) := fun a => by
    have hlt := leNat_lt (s.dev.lsRead x.phys a (2 ^ sz.val))
    rwa [lsRead_length] at hlt
  have hdst : dst.val + regsOf (2 ^ sz.val) ≤ 256 := (not_badReg hreg).trans hregs
  have hthreads := lsAccessAll_threads hl
  have hres : Dev.threadLoad true addrs sz dst evicted false x s.dev = .done e := by
    unfold Dev.threadLoad
    dsimp only
    rw [if_neg (by simp [hreg]), if_pos rfl, hl]
    exact if_neg (by simp [hbad])
  obtain ⟨hframe, hgroups⟩ := lsLoad_frame x (n := 2 ^ sz.val) (dst := dst) val l s.dev
  have hwent := instr_done hruns hclear hres hgroups
  obtain ⟨-, -, hclus⟩ := wentOn_clus hwent
  have hvregs := vreg_of_clus hclus
  obtain ⟨hadv, -, hdebug, -⟩ := hwent
  refine answers_onDev hs rfl ⟨hadv, fun q hq => ?_, fun th i hth hi hout => ?_, onlyFields_of_dev ?_⟩
  · exact (vval_congr fun i _ _ => hvregs _ _ _ _).trans
      (lsLoad_value x val hdst (accessBytes_cases sz) hval l (hthreads ▸ threadsOf_nodup _) s.dev q hq)
  · refine (hvregs _ _ _ _).trans (lsLoad_other x val hdst l hi (hout.imp_left fun hbit hmem => ?_) s.dev)
    exact absurd (threadsOf_lt (hthreads ▸ hmem)).2 (by simp [hbit])
  · exact onlyRegs_trans (onlyRegs_mono hframe (by simp)) (onlyRegs_mono hdebug fun f hf => List.mem_cons_of_mem _ hf)

/-! ### Local-store stores -/

theorem turn_singleton {α : Type} (a : α) (n : Nat) : turn [a] n = [a] := by
  unfold turn
  rw [if_neg (by simp), List.length_singleton, Nat.mod_one]
  rfl

/-- One thread stores to local store (R95, R104). -/
theorem lsStore_stores (s : State) (r : GroupRef) (x : Gx) (addrs : List Nat) (sz : Fin 4) (src : Fin 256) (th a : Nat) (hs : s.powered)
    (hruns : s.dev.runs r x) (hclear : x.clearAt (x.g.pc + instrBytes)) (hreg : badReg x [(src.val, regsOf (2 ^ sz.val))] = false)
    (hl : s.dev.lsAccessAll x addrs (2 ^ sz.val) = .ok [(th, a)]) :
    Answers (.threadStore r true addrs sz src) s fun t =>
      t.dev.advanced x ∧ t.dev.lsRead x.phys a (2 ^ sz.val) = leBytes (2 ^ sz.val) (s.dev.vval x.k x.g th src (2 ^ sz.val)) ∧
        State.sameBut s t ∧ Dev.sameRegsBut (F.CLU_SPILLCNT_COUNT x.phys :: debugFields) s.dev t.dev ∧
        Dev.sameSramBut [s.dev.lsChip x.phys a (2 ^ sz.val)] s.dev t.dev ∧
        Dev.sameMemBut [s.dev.lsSpilled x.phys a (2 ^ sz.val)] s.dev t.dev := by
  let data := leBytes (2 ^ sz.val) (s.dev.vval x.k x.g th src (2 ^ sz.val))
  let d := s.dev.draw.2
  have hstored := countedWrite_stored d x.phys a data [(a, 2 ^ sz.val)]
  have hres : Dev.threadStore true addrs sz src x s.dev = .done ((d.countSpill x.phys [(a, 2 ^ sz.val)]).lsWrite x.phys a data) := by
    unfold Dev.threadStore
    dsimp only
    rw [if_neg (by simp [hreg]), if_pos rfl, hl]
    dsimp only
    rw [turn_singleton]
    rfl
  obtain ⟨hadv, -, hdebug, -⟩ := instr_done hruns hclear hres (congrArg ClusSt.groups hstored.clus)
  have hkept := LsStored.wentOn hstored (runs_phys hruns) hdebug
  rw [length_leBytes] at hkept
  obtain ⟨hbytes, hfields, hsram, hmem⟩ := hkept
  exact answers_onDev hs rfl ⟨hadv, hbytes, ⟨rfl, rfl, rfl⟩, hfields, hsram, hmem⟩

/-! ### Through the L1 -/

theorem l1_setL1 (d : Dev) (phys line : Nat) (y : Option L1Line) : (d.setL1 phys line y).l1 phys line = y := table_get_set_same _ _ _ _

theorem l1_of_clus {a b : Dev} (h : b.clus.l1 = a.clus.l1) (phys line : Nat) : b.l1 phys line = a.l1 phys line := by
  unfold Dev.l1
  rw [h]

/-- A read that answers OK changes nothing. -/
theorem readStatus_ok {d : Dev} {pa n : Nat} (h : (d.readStatus pa n false).1 = stOk) : d.readStatus pa n false = (stOk, d) := by
  unfold Dev.readStatus at h ⊢
  dsimp only at h ⊢
  split at h
  · next hn => rw [if_pos hn]
  · next hn =>
    rw [if_neg hn]
    split at h
    · exact absurd h (show stBounds ≠ stOk by decide)
    · next hok =>
      rw [if_neg hok]
      split at h
      · next hhost => rw [if_pos hhost]
      · next hhost =>
        rw [if_neg hhost]
        split at h
        · exact absurd h (show stUncorrectable ≠ stOk by decide)
        · next hfailed =>
          rw [if_neg hfailed]
          split at h
          · exact absurd h (show stUncorrectable ≠ stOk by decide)
          · next hbad => rw [if_neg hbad]

/-- The line that a load fetches where the L1 has none. -/
def Dev.fetchedLine (d : Dev) (line : Nat) : L1Line := ⟨d.read (128 * line) 128, List.replicate 128 false, true⟩

theorem l1Fetch_miss {d : Dev} {phys line : Nat} (hmiss : d.l1 phys line = none) (hok : (d.readStatus (128 * line) 128 false).1 = stOk) :
    d.l1Fetch phys line false = (stOk, d.setL1 phys line (some (d.fetchedLine line))) := by
  unfold Dev.l1Fetch
  rw [readStatus_ok hok]
  split
  · next e he =>
    obtain rfl := (Prod.mk.inj he).2
    rw [hmiss]
    rfl
  · next hother => exact absurd rfl (hother d)

/-- Bytes inside a line are a cut of the line. -/
theorem fetchedLine_cut (d : Dev) {pa n : Nat} (h : pa % 128 + n ≤ 128) :
    ((d.fetchedLine (lineOf pa)).data.drop (pa % 128)).take n = d.read pa n := by
  unfold Dev.fetchedLine Dev.read Mem.read lineOf
  dsimp only
  refine List.ext_getElem ?_ fun i h₁ h₂ => ?_
  · simp
    omega
  · simp only [List.getElem_take, List.getElem_drop, List.getElem_map, List.getElem_range]
    congr 1
    omega

theorem l1Load_miss {d : Dev} {phys pa n : Nat} (hline : pa % 128 + n ≤ 128) (hmiss : d.l1 phys (lineOf pa) = none)
    (hok : (d.readStatus (128 * lineOf pa) 128 false).1 = stOk) :
    d.l1Load phys pa n false false = (stOk, d.read pa n, d.setL1 phys (lineOf pa) (some (d.fetchedLine (lineOf pa)))) := by
  have hhit : d.l1Hit phys pa n false = false := by
    unfold Dev.l1Hit
    rw [hmiss]
    rfl
  unfold Dev.l1Load
  dsimp only
  rw [if_neg (Bool.false_ne_true), if_neg (by simp [hhit]), l1Fetch_miss hmiss hok]
  dsimp only
  rw [l1_setL1]
  dsimp only
  rw [fetchedLine_cut d hline]

/-- A load of one thread that misses the L1 reads memory and keeps the line (R158). -/
theorem missLoad_loads (s : State) (r : GroupRef) (x : Gx) (addrs : List Nat) (sz : Fin 4) (dst : Fin 256) (th pa : Nat) (hs : s.powered)
    (hruns : s.dev.runs r x) (hclear : x.clearAt (x.g.pc + instrBytes)) (hregs : x.g.regs ≤ 256)
    (hreg : badReg x [(dst.val, regsOf (2 ^ sz.val))] = false) (hl : accessAll x addrs (2 ^ sz.val) 1 = .ok [(th, pa)])
    (hline : pa % 128 + 2 ^ sz.val ≤ 128) (hmiss : s.dev.l1 x.phys (lineOf pa) = none)
    (hwait : s.dev.l1Waits x.phys pa (2 ^ sz.val) false = false) (hok : (s.dev.readStatus (128 * lineOf pa) 128 false).1 = stOk) :
    Answers (.threadLoad r false addrs sz dst false false) s fun t =>
      t.dev.advanced x ∧ t.dev.vval x.k x.g th dst (2 ^ sz.val) = leNat (s.dev.read pa (2 ^ sz.val)) ∧
        t.dev.l1 x.phys (lineOf pa) = some ⟨s.dev.read (128 * lineOf pa) 128, List.replicate 128 false, true⟩ ∧
        Dev.sameVregsBut s.dev t.dev x dst (regsOf (2 ^ sz.val)) ∧ State.onlyFields debugFields s t := by
  let v := leNat (s.dev.read pa (2 ^ sz.val))
  let filled := s.dev.setL1 x.phys (lineOf pa) (some (s.dev.fetchedLine (lineOf pa)))
  have hv : v < 2 ^ (8 * 2 ^ sz.val) := by
    have hlt := leNat_lt (s.dev.read pa (2 ^ sz.val))
    rwa [dev_read_length] at hlt
  have hdst : dst.val + regsOf (2 ^ sz.val) ≤ 256 := (not_badReg hreg).trans hregs
  have hthreads := accessAll_threads hl
  obtain ⟨m, hm⟩ := setVval_only filled x.k th dst (2 ^ sz.val) v
  have hres : Dev.threadLoad false addrs sz dst false false x s.dev = .done (filled.setVval x.k th dst (2 ^ sz.val) v) := by
    unfold Dev.threadLoad
    dsimp only
    rw [if_neg (by simp [hreg]), if_neg (by simp), hl]
    dsimp only
    rw [if_neg (by simp [hwait]), Dev.loadThreads, l1Load_miss hline hmiss hok]
    rfl
  have hwent := instr_done hruns hclear hres (by rw [hm]; rfl)
  obtain ⟨-, hlines, hclus⟩ := wentOn_clus hwent
  have hvregs := vreg_of_clus hclus
  obtain ⟨hadv, -, hdebug, -⟩ := hwent
  have hl1 : filled.l1 x.phys (lineOf pa) = some (s.dev.fetchedLine (lineOf pa)) := l1_setL1 _ _ _ _
  refine answers_onDev hs rfl ⟨hadv, ?_, ?_, fun th' i hth hi hout => ?_, onlyFields_of_dev ?_⟩
  · exact (vval_congr fun i _ _ => hvregs _ _ _ _).trans (vval_setVval filled x.k x.g v hdst (accessBytes_cases sz) hv)
  · refine (l1_of_clus hlines _ _).trans (Eq.trans ?_ hl1)
    rw [hm]
    rfl
  · refine (hvregs _ _ _ _).trans (vreg_setVval_other filled x.k x.g v hdst hi (hout.imp_left fun hbit heq => ?_))
    have hmem : th' ∈ threadsOf x.g.active := by rw [← hthreads, heq]; exact List.mem_singleton.mpr rfl
    exact absurd (threadsOf_lt hmem).2 (by simp [hbit])
  · refine onlyRegs_trans (onlyRegs_core _ ?_) hdebug
    rw [hm]
    exact ⟨rfl, rfl, rfl, rfl⟩

/-! ### Stores into the L1 -/

section
variable {α : Type} (l new : List α) (o : Nat)

theorem patch_cut (h : o ≤ l.length) : ((patch l o new).drop o).take new.length = new := by
  have htake : (l.take o).length = o := by simp [h]
  unfold patch
  rw [List.append_assoc, List.drop_append_of_le_length htake.ge, List.drop_of_length_le htake.le, List.nil_append, List.take_left']
  rfl

theorem patch_getElem? (h : o + new.length ≤ l.length) (i : Nat) :
    (patch l o new)[i]? = if o ≤ i ∧ i < o + new.length then new[i - o]? else l[i]? := by
  unfold patch
  simp only [List.getElem?_append, List.getElem?_take, List.getElem?_drop, List.length_append, List.length_take, Nat.min_eq_left (show o ≤ l.length by omega)]
  grind

end

/-- The line of a store where the L1 has none: its bytes, marked written, in a line of zeros. -/
def storedLine (pa : Nat) (data : List Byte) : L1Line :=
  ⟨patch (List.replicate 128 0#8) (pa % 128) data, patch (List.replicate 128 false) (pa % 128) (data.map fun _ => true), false⟩

theorem l1Store_miss {d : Dev} {phys pa : Nat} {data : List Byte} (hhost : isHost pa = false) (hmiss : d.l1 phys (lineOf pa) = none) :
    d.l1Store phys pa data = d.setL1 phys (lineOf pa) (some (storedLine pa data)) := by
  unfold Dev.l1Store
  dsimp only
  rw [if_neg (by simp [hhost]), hmiss]
  rfl

theorem storedLine_data {pa : Nat} (data : List Byte) : ((storedLine pa data).data.drop (pa % 128)).take data.length = data :=
  patch_cut _ _ _ (by rw [List.length_replicate]; omega)

theorem storedLine_written {pa : Nat} {data : List Byte} (h : pa % 128 + data.length ≤ 128) {i : Nat} (hi : i < 128) :
    (storedLine pa data).written[i]? = some (decide (pa % 128 ≤ i ∧ i < pa % 128 + data.length)) := by
  unfold storedLine
  dsimp only
  rw [patch_getElem? _ _ _ (by rw [List.length_map, List.length_replicate]; exact h), List.length_map]
  split
  · next hin =>
    rw [List.getElem?_map, List.getElem?_eq_getElem (by omega)]
    simp [hin]
  · next hout => rw [List.getElem?_replicate, if_pos hi, decide_eq_false hout]

theorem launchHost_none (d : Dev) (x : Gx) : d.launchHost x false = d := by
  unfold Dev.launchHost
  split
  · next h _ => exact nomatch h
  · rfl

/-- A store of one thread to device memory stays in the L1 (R158). -/
theorem missStore_stores (s : State) (r : GroupRef) (x : Gx) (addrs : List Nat) (sz : Fin 4) (src : Fin 256) (th pa : Nat) (hs : s.powered)
    (hruns : s.dev.runs r x) (hclear : x.clearAt (x.g.pc + instrBytes)) (hreg : badReg x [(src.val, regsOf (2 ^ sz.val))] = false)
    (hl : accessAll x addrs (2 ^ sz.val) 2 = .ok [(th, pa)]) (hline : pa % 128 + 2 ^ sz.val ≤ 128) (hhost : isHost pa = false)
    (hmiss : s.dev.l1 x.phys (lineOf pa) = none) :
    Answers (.threadStore r false addrs sz src) s fun t =>
      t.dev.advanced x ∧
        (∃ y : L1Line, t.dev.l1 x.phys (lineOf pa) = some y ∧
          (y.data.drop (pa % 128)).take (2 ^ sz.val) = leBytes (2 ^ sz.val) (s.dev.vval x.k x.g th src (2 ^ sz.val)) ∧
          ∀ i : Nat, i < 128 → (y.written[i]? = some (decide (pa % 128 ≤ i ∧ i < pa % 128 + 2 ^ sz.val)))) ∧
        State.onlyFields debugFields s t := by
  let data := leBytes (2 ^ sz.val) (s.dev.vval x.k x.g th src (2 ^ sz.val))
  let d := s.dev.draw.2
  have hlen : data.length = 2 ^ sz.val := length_leBytes _ _
  have hres : Dev.threadStore false addrs sz src x s.dev = .done (d.setL1 x.phys (lineOf pa) (some (storedLine pa data))) := by
    have hstore : d.l1Store x.phys pa data = d.setL1 x.phys (lineOf pa) (some (storedLine pa data)) := l1Store_miss hhost hmiss
    unfold Dev.threadStore
    dsimp only
    rw [if_neg (by simp [hreg]), if_neg (by simp), hl]
    dsimp only
    rw [turn_singleton, List.any_cons, List.any_nil, hhost, Bool.or_false, launchHost_none, ← hstore]
    rfl
  have hwent := instr_done hruns hclear hres rfl
  obtain ⟨-, hlines, -⟩ := wentOn_clus hwent
  obtain ⟨hadv, -, hdebug, -⟩ := hwent
  refine answers_onDev hs rfl ⟨hadv, ⟨storedLine pa data, ?_, ?_, fun i hi => ?_⟩, onlyFields_of_dev ?_⟩
  · exact (l1_of_clus hlines _ _).trans (l1_setL1 _ _ _ _)
  · have hcut := storedLine_data (pa := pa) data
    rwa [hlen] at hcut
  · have hwritten := storedLine_written (hlen.symm ▸ hline) hi
    rwa [hlen] at hwritten
  · exact onlyRegs_trans (b := d.setL1 x.phys (lineOf pa) (some (storedLine pa data))) (onlyRegs_core _ ⟨rfl, rfl, rfl, rfl⟩) hdebug

/-- Settles O21: each of the four accesses by what its instruction answers, and the group that goes on behind it. -/
theorem groupLoadsAndStores : Obligations.GroupLoadsAndStores :=
  ⟨lsLoad_loads, lsStore_stores, missLoad_loads, missStore_stores⟩

end Sys2Proof.Machine
end

section
/-! SUPPORT. What a unit of a matrix operation touches: local store of its tile, numeric registers, its accumulators (R83 to R87, R147 to
R153). -/

namespace Sys2Proof.Machine

open Sys2Proof

/-! ### Numeric registers -/

/-- A field of the numeric block, where flags, captures and histograms of the clusters are. -/
def Fld.numeric (f : Fld) : Prop := 0xA00000 * 64 ≤ f.key ∧ f.key < 0xB00000 * 64

/-- From `a` to `b` numeric fields changed, and beside them no byte, no accumulator and no partition. -/
structure Dev.NumericOnly (a b : Dev) : Prop where
  regs : ∀ f : Fld, ¬ f.numeric → b.get f = a.get f
  mem : b.mem = a.mem
  sram : b.sram = a.sram
  acc : b.clus.acc = a.clus.acc
  parts : b.parts = a.parts

section
variable {a b c : Dev}

theorem numericOnly_refl (a : Dev) : Dev.NumericOnly a a := ⟨fun _ _ => rfl, rfl, rfl, rfl, rfl⟩

theorem numericOnly_trans (h : Dev.NumericOnly a b) (k : Dev.NumericOnly b c) : Dev.NumericOnly a c :=
  ⟨fun f hf => (k.regs f hf).trans (h.regs f hf), k.mem.trans h.mem, k.sram.trans h.sram, k.acc.trans h.acc, k.parts.trans h.parts⟩

theorem numericOnly_puts (d : Dev) (w : List (Fld × Nat)) (hw : ∀ q ∈ w, q.1.numeric) : Dev.NumericOnly d (d.puts w) :=
  ⟨fun f hf => get_puts_ne w f d fun q hq heq => hf (by unfold Fld.numeric; rw [heq]; exact hw q hq), puts_mem w d, puts_sram w d,
    congrArg ClusSt.acc (puts_clus w d), puts_parts w d⟩

theorem numericOnly_bump (d : Dev) {f : Fld} (n : Nat) (hf : f.numeric) : Dev.NumericOnly d (d.bump f n) :=
  ⟨fun g hg => by rw [get_bump, if_neg fun heq => hg (by unfold Fld.numeric; rw [heq]; exact hf)], rfl, rfl, rfl, rfl⟩

end

theorem numFlags_numeric {phys : Nat} (hphys : phys < 512) (e : Nat) : (numFlags phys e).numeric := by
  unfold numFlags
  split <;> simp only [Fld.numeric, Fld.key, F.NUM_FLAGS_TU0, F.NUM_FLAGS_TU1, F.NUM_FLAGS_TU2, F.NUM_FLAGS_TU3, F.NUM_FLAGS_TG] <;> omega

theorem histCounter_numeric {phys u c : Nat} (hphys : phys < 512) (hu : u < 4) : (histCounter phys u c).numeric := by
  unfold histCounter
  split
  · split <;> simp only [Fld.numeric, Fld.key, F.NUM_HIST_EVEN, F.NUM_HIST_ODD] <;> omega
  · split
    · simp only [Fld.numeric, Fld.key, F.NUM_HSPEC_LO]
      omega
    · split
      · simp only [Fld.numeric, Fld.key, F.NUM_HSPEC_HI]
        omega
      · split <;> simp only [Fld.numeric, Fld.key, F.NUM_HSPEC_LO, F.NUM_HSPEC_HI] <;> omega

theorem setFlags_numeric (d : Dev) {phys : Nat} (hphys : phys < 512) (e fl : Nat) : Dev.NumericOnly d (d.setFlags phys e fl) :=
  numericOnly_puts d [(numFlags phys e, _)] fun q hq => by
    rw [List.mem_singleton.mp hq]
    exact numFlags_numeric hphys e

theorem histAdd_numeric (d : Dev) {phys u : Nat} (hphys : phys < 512) (hu : u < 4) (hits : List Nat) :
    Dev.NumericOnly d (d.histAdd phys u hits) := by
  have hfold : ∀ (l : List Nat) (e : Dev), Dev.NumericOnly e (l.foldl (fun d c =>
      let n := hits.countP (· == c)
      if n = 0 then d else d.bump (histCounter phys u c) n) e) := by
    intro l
    induction l with
    | nil => exact numericOnly_refl
    | cons c l ih =>
      intro e
      refine numericOnly_trans ?_ (ih _)
      dsimp only
      split
      · exact numericOnly_refl e
      · exact numericOnly_bump e _ (histCounter_numeric hphys hu)
  exact hfold _ d

/-! ### The frame of a tensor operation -/

/-- From `a` to `b` a tensor unit of cluster `phys` ran, which writes the local-store ranges `w`: outside them and the event rings every
byte is as before, local store and event rings stand where they stood, and partitions note writes only. -/
structure Dev.TensorFrame (phys : Nat) (w : List (Nat × Nat)) (a b : Dev) : Prop where
  alike : Dev.lsAlike phys a b
  rings : ∀ x : Nat, b.inEventRing x ↔ a.inEventRing x
  sram : Dev.sameSramBut (w.map fun r => a.lsChip phys r.1 r.2) a b
  mem : ∀ x : Nat, ¬ a.inEventRing x →
    (∀ r ∈ w, x < (a.lsSpilled phys r.1 r.2).1 ∨ (a.lsSpilled phys r.1 r.2).1 + (a.lsSpilled phys r.1 r.2).2 ≤ x) → b.mem.byte x = a.mem.byte x
  parts : Dev.partsAlike a b

section
variable {phys : Nat} {w : List (Nat × Nat)} {a b c : Dev}

/-- Registers that move neither local store nor rings, and no byte. -/
theorem tensorFrame_of_regs {l : List Fld} (h : Dev.sameRegsBut l a b) (hls : LsFree phys l) (hrings : RingFree l) (hmem : b.mem = a.mem)
    (hsram : b.sram = a.sram) (hparts : b.parts = a.parts) : Dev.TensorFrame phys w a b :=
  ⟨hls.alike h, hrings.inEventRing h, fun x _ => by rw [hsram], fun x _ _ => by rw [hmem], partsAlike_of_parts hparts⟩

theorem tensorFrame_refl (a : Dev) : Dev.TensorFrame phys w a a :=
  tensorFrame_of_regs (l := []) (fun _ _ => rfl) (fun _ h => nomatch h) ringFree_nil rfl rfl rfl

theorem tensorFrame_trans (h : Dev.TensorFrame phys w a b) (k : Dev.TensorFrame phys w b c) : Dev.TensorFrame phys w a c := by
  refine ⟨lsAlike_trans h.alike k.alike, fun x => (k.rings x).trans (h.rings x), fun x hx => (k.sram x ?_).trans (h.sram x hx),
    fun x hring hx => (k.mem x (fun hb => hring ((h.rings x).mp hb)) ?_).trans (h.mem x hring hx), partsAlike_trans h.parts k.parts⟩
  · simpa only [lsChip_alike h.alike] using hx
  · simpa only [lsSpilled_alike h.alike] using hx

theorem tensorFrame_of_numeric (hphys : phys < 512) (h : Dev.NumericOnly a b) : Dev.TensorFrame phys w a b := by
  have hfield : ∀ f : Fld, (f.key < 0xA00000 * 64 ∨ 0xB00000 * 64 ≤ f.key) → b.get f = a.get f := fun f hf =>
    h.regs f fun hnum => by
      obtain ⟨hlo, hhi⟩ := hnum
      omega
  refine ⟨⟨hfield _ (.inl ?_), hfield _ (.inl ?_)⟩, inEventRing_congr fun r hr => ⟨hfield _ (.inr ?_), hfield _ (.inr ?_), hfield _ (.inr ?_)⟩,
    fun x _ => by rw [h.sram], fun x _ _ => by rw [h.mem], partsAlike_of_parts h.parts⟩ <;>
    simp only [Fld.key, F.CLU_SRAM_SETTING, F.CLU_SPILL_BASE, F.HST_EVR_CTL_EN, F.HST_EVR_BASE_PA, F.HST_EVR_CTL_LOG2] <;> omega

/-- An event leaves its rings' bytes aside. -/
theorem tensorFrame_raise (hphys : phys < 512) (d : Dev) (cls status source : Nat) (detail : List Nat) :
    Dev.TensorFrame phys w d (d.raise cls status source detail) := by
  obtain ⟨hmem, hsram⟩ := raise_mem d cls status source detail
  refine ⟨⟨raise_get d _ _ _ _ ?_, raise_get d _ _ _ _ ?_⟩, raise_inEventRing d _ _ _ _, fun x _ => by rw [hsram],
    fun x hring _ => hmem x hring (fun _ hr => nomatch hr), raise_parts d _ _ _ _⟩ <;>
    simp only [Fld.awayFromEvents, Fld.key, F.CLU_SRAM_SETTING, F.CLU_SPILL_BASE, F.RAS_EVSEQ_NEXT] <;> omega

theorem raise_clus (d : Dev) (cls status source : Nat) (detail : List Nat) : (d.raise cls status source detail).clus = d.clus := by
  obtain ⟨_, _, _, _, _, _, _, _, h⟩ := raise_sameButEvent d cls status source detail
  rw [h]

/-- A write inside one of the ranges. -/
theorem tensorFrame_lsWrite (d : Dev) {x n : Nat} {data : List Byte} (hw : (x, n) ∈ w) (hlen : data.length ≤ n) :
    Dev.TensorFrame phys w d (d.lsWrite phys x data) := by
  have hregs := lsWrite_regs d phys x data
  have hsum := lsSplit_sum d phys x data.length
  have hget : ∀ f : Fld, (d.lsWrite phys x data).get f = d.get f := fun f => by
    unfold Dev.get
    rw [hregs]
  refine ⟨lsAlike_of_regs hregs, inEventRing_congr fun r _ => ⟨hget _, hget _, hget _⟩, fun y hy => ?_, fun y _ hy => ?_, lsWrite_parts d phys x data⟩
  · have hout := hy _ (List.mem_map_of_mem hw)
    rw [lsWrite_sram]
    refine byte_write_outside _ _ _ _ ?_
    rw [List.length_take]
    simp only [Dev.lsChip, Dev.lsSplit] at hout hsum ⊢
    omega
  · have hout := hy _ hw
    rw [lsWrite_mem]
    refine byte_write_outside _ _ _ _ ?_
    rw [List.length_drop]
    simp only [Dev.lsSpilled, Dev.lsSplit, Dev.spillAt] at hout hsum ⊢
    omega

end

/-! ### The stages of a unit -/

/-- A stage behind the accumulators: a tensor frame that leaves them. -/
def Dev.tensorQuiet (phys : Nat) (w : List (Nat × Nat)) (a b : Dev) : Prop := Dev.TensorFrame phys w a b ∧ b.clus.acc = a.clus.acc

section
variable {phys : Nat} {w : List (Nat × Nat)} {a b c : Dev}

theorem tensorQuiet_refl (a : Dev) : Dev.tensorQuiet phys w a a := ⟨tensorFrame_refl a, rfl⟩

theorem tensorQuiet_trans (h : Dev.tensorQuiet phys w a b) (k : Dev.tensorQuiet phys w b c) : Dev.tensorQuiet phys w a c :=
  ⟨tensorFrame_trans h.1 k.1, k.2.trans h.2⟩

theorem tensorQuiet_of_numeric (hphys : phys < 512) (h : Dev.NumericOnly a b) : Dev.tensorQuiet phys w a b :=
  ⟨tensorFrame_of_numeric hphys h, h.acc⟩

theorem lsWrite_quiet (d : Dev) {x n : Nat} {data : List Byte} (hw : (x, n) ∈ w) (hlen : data.length ≤ n) :
    Dev.tensorQuiet phys w d (d.lsWrite phys x data) :=
  ⟨tensorFrame_lsWrite d hw hlen, by rw [lsWrite_clus]⟩

/-- A capture writes numeric registers, arms itself anew, and may raise its event (R149 to R151). -/
theorem capture_quiet (hphys : phys < 512) (d : Dev) {e : Nat} (he : e < 5) (cause loc pc : Nat) :
    Dev.tensorQuiet phys w d (d.capture phys e cause loc pc) := by
  unfold Dev.capture
  split
  · exact tensorQuiet_refl d
  · extract_lets sched clus armed noted
    have harmed : Dev.NumericOnly d armed := ⟨fun _ _ => rfl, rfl, rfl, rfl, rfl⟩
    have hnoted : Dev.NumericOnly armed noted := numericOnly_puts _ _ fun q hq => by
      simp only [List.mem_cons, List.not_mem_nil, or_false] at hq
      obtain rfl | rfl | rfl | rfl | rfl := hq <;>
        simp only [Fld.numeric, Fld.key, F.NUM_FIC_WHERE_VALID, F.NUM_FIC_WHERE_CAUSE, F.NUM_FIC_WHERE_LOC, F.NUM_FIC_AUX_PC,
          F.NUM_FIC_TN_TN] <;> omega
    have hquiet : Dev.tensorQuiet phys w d noted := tensorQuiet_of_numeric hphys (numericOnly_trans harmed hnoted)
    split
    · exact tensorQuiet_trans hquiet ⟨tensorFrame_raise hphys noted _ _ _ _, congrArg ClusSt.acc (raise_clus noted _ _ _ _)⟩
    · exact hquiet

/-- The rows of an output tile, written one after the other. -/
theorem tileRows_quiet (at_ : Nat → Nat) (data : Nat → List Byte) (n : Nat) (l : List Nat) (hw : ∀ i ∈ l, (at_ i, n) ∈ w)
    (hlen : ∀ i : Nat, (data i).length ≤ n) : ∀ d : Dev, Dev.tensorQuiet phys w d (l.foldl (fun d i => d.lsWrite phys (at_ i) (data i)) d) := by
  induction l with
  | nil => exact tensorQuiet_refl
  | cons i l ih =>
    intro d
    exact tensorQuiet_trans (lsWrite_quiet d (hw i List.mem_cons_self) (hlen i)) (ih (fun j hj => hw j (List.mem_cons_of_mem _ hj)) _)

end

/-- A row of an output tile is no longer than 32 elements. -/
theorem rowBytes_le (l : List (Nat × Nat × Bool)) (bits : Nat) : ((l.take 32).flatMap fun q => leBytes (bits / 8) q.1).length ≤ 4 * bits := by
  rw [List.length_flatMap, List.map_congr_left (g := fun _ => bits / 8) fun q _ => length_leBytes _ q.1, List.map_const', List.sum_replicate,
    List.length_take, smul_eq_mul]
  have hmin : min 32 l.length * (bits / 8) ≤ 32 * (bits / 8) := Nat.mul_le_mul_right _ (Nat.min_le_left _ _)
  omega

theorem mem_matWrites {sp : LsSpan} {m : MatDesc} {units : List Nat} {u i : Nat} (hout : m.out = true) (hu : u ∈ units) (hi : i ∈ List.range 32) :
    (sp.base + m.dAddr + u * m.dUstep + i * m.dStride, 4 * codeBits m.fmtD) ∈ matWrites sp m units := by
  unfold matWrites
  rw [if_neg (by simp [hout])]
  exact List.mem_flatMap.mpr ⟨u, hu, List.mem_map_of_mem hi⟩

/-- One unit of a fast or integer operation: its accumulators are those of its steps; the rest is a tensor frame of its output tiles. -/
theorem matUnit_effect (d0 d : Dev) {phys u : Nat} (sp : LsSpan) (m : MatDesc) (c : CapSrc) (units : List Nat) (hphys : phys < 512)
    (hu : u < 4) (hunits : u ∈ units) : Dev.TensorFrame phys (matWrites sp m units) d (d0.matUnit d phys false sp m c u) ∧
      (d0.matUnit d phys false sp m c u).clus.acc = (d.setAccs phys u (d0.runSteps phys sp m u ⟨d0.accs phys u, 0, none⟩).accs).clus.acc := by
  unfold Dev.matUnit
  extract_lets accs steps codes s put src out n tile flags flagged captured
  have hs : s = steps := congrArg Prod.snd (if_neg Bool.false_ne_true)
  have hput : Dev.TensorFrame phys (matWrites sp m units) d put :=
    tensorFrame_of_regs (l := []) (fun _ _ => rfl) (fun _ h => nomatch h) ringFree_nil rfl rfl rfl
  have htile : Dev.tensorQuiet phys (matWrites sp m units) put tile := by
    unfold tile
    split
    · exact tensorQuiet_refl put
    · next hout =>
      have hout : m.out = true := by simpa using hout
      exact tileRows_quiet _ _ _ _ (fun i hi => mem_matWrites hout hunits hi) (fun i => rowBytes_le _ _) put
  have hflagged : Dev.tensorQuiet phys (matWrites sp m units) tile flagged := by
    unfold flagged
    split
    · exact tensorQuiet_refl tile
    · exact tensorQuiet_of_numeric hphys (setFlags_numeric tile hphys u _)
  have hcaptured : Dev.tensorQuiet phys (matWrites sp m units) flagged captured := by
    unfold captured
    split
    · exact capture_quiet hphys flagged (by omega) _ _ _
    · exact capture_quiet hphys flagged (by omega) _ _ _
    · exact tensorQuiet_refl flagged
  have hquiet := tensorQuiet_trans htile (tensorQuiet_trans hflagged hcaptured)
  have hacc : put.clus.acc = (d.setAccs phys u steps.accs).clus.acc := by rw [← hs]
  have hall : ∀ e : Dev, Dev.tensorQuiet phys (matWrites sp m units) captured e →
      Dev.TensorFrame phys (matWrites sp m units) d e ∧ e.clus.acc = (d.setAccs phys u steps.accs).clus.acc := fun e he =>
    ⟨tensorFrame_trans hput (tensorQuiet_trans hquiet he).1, (tensorQuiet_trans hquiet he).2.trans hacc⟩
  clear_value captured
  split
  · split
    · exact hall _ (tensorQuiet_of_numeric hphys (histAdd_numeric captured hphys hu _))
    · exact hall _ (tensorQuiet_refl captured)
  · exact hall _ (tensorQuiet_refl captured)

end Sys2Proof.Machine
end

section
/-! PROOF. Slots of a tensor unit: a matrix operation of one integer step, accumulator store and load, a failed check (R81 to R88). -/

namespace Sys2Proof.Machine

open Sys2Proof

/-! ### One integer step (R83) -/

/-- The accumulators that one integer step leaves on fresh accumulators: the saturated sums, with the integer tag. -/
def Dev.intProducts (d : Dev) (phys : Nat) (sp : LsSpan) (m : MatDesc) (u : Nat) : List Nat :=
  (List.range 1024).map fun k => 2 ^ 48 + twos 48 (intStep (pairsAt (d.tileA phys sp m u 0) (d.tileB phys sp m u 0) k) none).1

section
variable (d : Dev) (phys : Nat) (sp : LsSpan) (m : MatDesc) (u : Nat)

theorem intProducts_length : (d.intProducts phys sp m u).length = 1024 := by simp [Dev.intProducts]

theorem intProducts_getElem {k : Nat} (hk : k < 1024) : (d.intProducts phys sp m u)[k]? =
    some (2 ^ 48 + twos 48 (intStep (pairsAt (d.tileA phys sp m u 0) (d.tileB phys sp m u 0) k) none).1) := by
  rw [Dev.intProducts, List.getElem?_map, List.getElem?_range hk, Option.map_some]

/-- The integer tag keeps each of them from being zero. -/
theorem intProducts_nonzero : 0 ∉ d.intProducts phys sp m u := fun h => by
  obtain ⟨k, -, hk⟩ := List.mem_map.mp h
  have htag : 0 < 2 ^ 48 := Nat.two_pow_pos 48
  omega

theorem runSteps_intOnce (hk : m.kSteps = 1) (hacc : m.acc = false) (hint : codeFloat m.fmtA = false) (s : StepsOut)
    (hs : s.accs.length = 1024) : (d.runSteps phys sp m u s).accs = d.intProducts phys sp m u := by
  let f (k : Nat) : Nat := 2 ^ 48 + twos 48 (intStep (pairsAt (d.tileA phys sp m u 0) (d.tileB phys sp m u 0) k) none).1
  have hstep : (d.runSteps phys sp m u s).accs = s.accs.zipIdx.map fun w => f w.2 := by
    unfold Dev.runSteps
    rw [hk, List.range_one, List.foldl_cons, List.foldl_nil, hint, hacc]
    exact List.map_map
  rw [hstep, ← Function.comp_def f Prod.snd, ← List.map_map, List.zipIdx_map_snd, hs, ← List.range_eq_range']
  rfl

end

/-! ### The units one after the other -/

theorem unitsOf_lt {mask u : Nat} (h : u ∈ unitsOf mask) : u < 4 := List.mem_range.mp (List.mem_filter.mp h).1

theorem unitsOf_ascending (mask : Nat) : (unitsOf mask).Pairwise (· < ·) := List.pairwise_lt_range.filter _

theorem accsStand_of_acc {a b : Dev} {phys u : Nat} {l : List Nat} (hacc : b.clus.acc = a.clus.acc) (h : a.accsStand phys u l) :
    b.accsStand phys u l := by
  unfold Dev.accsStand
  rw [hacc]
  exact h

section
variable {phys : Nat} {w : List (Nat × Nat)} {run : Dev → Nat → Dev} {res : Nat → List Nat} {units : List Nat}
  (hrun : ∀ (d : Dev) (u : Nat), u ∈ units → Dev.TensorFrame phys w d (run d u) ∧ (run d u).clus.acc = (d.setAccs phys u (res u)).clus.acc)
include hrun

theorem unitsFold_frame : ∀ d : Dev, Dev.TensorFrame phys w d (units.foldl run d) := by
  induction units with
  | nil => exact tensorFrame_refl
  | cons u us ih =>
    exact fun d => tensorFrame_trans (hrun d u List.mem_cons_self).1 (ih (fun e v hv => hrun e v (List.mem_cons_of_mem _ hv)) _)

/-- Entries of other units and clusters stay. -/
theorem unitsFold_outside {e : Nat × Nat} (he : ∀ u ∈ units, e.1 < accKey phys u 0 ∨ accKey phys u 0 + 1024 ≤ e.1) :
    ∀ d : Dev, e ∈ (units.foldl run d).clus.acc ↔ e ∈ d.clus.acc := by
  induction units with
  | nil => exact fun d => Iff.rfl
  | cons u us ih =>
    intro d
    refine (ih (fun e v hv => hrun e v (List.mem_cons_of_mem _ hv)) (fun v hv => he v (List.mem_cons_of_mem _ hv)) _).trans ?_
    rw [(hrun d u List.mem_cons_self).2]
    exact mem_setAccs_outside d phys u _ (he u List.mem_cons_self)

/-- Units above a unit leave its accumulators standing. -/
theorem unitsFold_keeps {v : Nat} {l : List Nat} (hl : l.length = 1024) (hv : ∀ u ∈ units, v < u) :
    ∀ d : Dev, d.accsStand phys v l → (units.foldl run d).accsStand phys v l := by
  induction units with
  | nil => exact fun d h => h
  | cons u us ih =>
    intro d h
    refine ih (fun e x hx => hrun e x (List.mem_cons_of_mem _ hx)) (fun x hx => hv x (List.mem_cons_of_mem _ hx)) _ ?_
    exact accsStand_of_acc (hrun d u List.mem_cons_self).2 (accsStand_later h hl (hv u List.mem_cons_self) _)

/-- In ascending order every unit's accumulators stand at the end. -/
theorem unitsFold_stands (hres : ∀ u : Nat, (res u).length = 1024) (hasc : units.Pairwise (· < ·)) :
    ∀ d : Dev, ∀ u ∈ units, (units.foldl run d).accsStand phys u (res u) := by
  induction units with
  | nil => exact fun d u hu => nomatch hu
  | cons v us ih =>
    intro d u hu
    obtain ⟨hfirst, hasc⟩ := List.pairwise_cons.mp hasc
    have hrest := fun e x hx => hrun e x (List.mem_cons_of_mem v hx)
    obtain rfl | hu := List.mem_cons.mp hu
    · refine unitsFold_keeps hrest (hres u) hfirst _ ?_
      exact accsStand_of_acc (hrun d u List.mem_cons_self).2 (accsStand_setAccs d phys u (hres u))
    · exact ih hrest hasc _ u hu

end

theorem spillCount_away {phys : Nat} (hphys : phys < 512) : ∀ f ∈ [F.CLU_SPILLCNT_COUNT phys], f.awayFromEvents := by
  intro f hf
  rw [List.mem_singleton.mp hf]
  simp only [Fld.awayFromEvents, Fld.key, F.CLU_SPILLCNT_COUNT, F.RAS_EVSEQ_NEXT]
  omega

/-- An integer operation of one step on fresh accumulators, whose operands hold no error. -/
theorem matRun_intOnce (d : Dev) {phys : Nat} (mask : Nat) (sp : LsSpan) (m : MatDesc) (c : CapSrc) (hphys : phys < 512)
    (hk : m.kSteps = 1) (hacc : m.acc = false) (hint : codeFloat m.fmtA = false)
    (hbad : ((matReads sp m (unitsOf mask)).any fun x => d.lsBad phys x.1 x.2) = false) :
    ∃ e : Dev, d.matRun phys false mask sp m c false = (stOk, e) ∧ Dev.TensorFrame phys (matWrites sp m (unitsOf mask)) d e ∧
      (∀ u ∈ unitsOf mask, e.accs phys u = d.intProducts phys sp m u) ∧
      ∀ x : Nat × Nat, (∀ u ∈ unitsOf mask, x.1 < accKey phys u 0 ∨ accKey phys u 0 + 1024 ≤ x.1) → (x ∈ e.clus.acc ↔ x ∈ d.clus.acc) := by
  by_cases hnone : unitsOf mask = []
  · refine ⟨d, ?_, tensorFrame_refl d, fun u hu => ?_, fun _ _ => Iff.rfl⟩
    · unfold Dev.matRun
      exact if_pos (.inr hnone)
    · rw [hnone] at hu
      exact nomatch hu
  · let ranges := matReads sp m (unitsOf mask) ++ matWrites sp m (unitsOf mask)
    let d1 := d.countSpill phys ranges
    have hcounted : Dev.TensorFrame phys (matWrites sp m (unitsOf mask)) d d1 :=
      tensorFrame_of_regs (countSpill_frame d phys ranges).1 (lsFree_spillCount phys phys)
        (ringFree_of_away (spillCount_away hphys))
        (countSpill_mem d phys ranges) (countSpill_sram d phys ranges) (countSpill_parts d phys ranges)
    have hunit : ∀ (x : Dev) (u : Nat), u ∈ unitsOf mask →
        Dev.TensorFrame phys (matWrites sp m (unitsOf mask)) x (d.matUnit x phys false sp m c u) ∧
          (d.matUnit x phys false sp m c u).clus.acc = (x.setAccs phys u (d.intProducts phys sp m u)).clus.acc := fun x u hu => by
      have heffect := matUnit_effect d x sp m c (unitsOf mask) hphys (unitsOf_lt hu) hu
      have hlen : (⟨d.accs phys u, 0, none⟩ : StepsOut).accs.length = 1024 := by
        dsimp only
        exact accs_length d phys u
      rwa [runSteps_intOnce d phys sp m u hk hacc hint _ hlen] at heffect
    refine ⟨(unitsOf mask).foldl (fun x u => d.matUnit x phys false sp m c u) d1, ?_, tensorFrame_trans hcounted (unitsFold_frame hunit d1),
      fun u hu => ?_, fun x hx => ?_⟩
    · unfold Dev.matRun
      dsimp only
      rw [if_neg (by simp [hk, hnone]), if_neg (by simp [hbad])]
    · exact accsStand_get (unitsFold_stands hunit (intProducts_length d phys sp m) (unitsOf_ascending mask) d1 u hu)
        (intProducts_length d phys sp m u) (intProducts_nonzero d phys sp m u)
    · refine (unitsFold_outside hunit hx d1).trans ?_
      rw [countSpill_clus]

/-! ### A slot that starts -/

/-- Where partitions differ only in the writes they noted, a stream that stood at its started slot still stands there. -/
theorem slotStarted_alike {a b : Dev} {p engine index : Nat} {r : SlotRef} (h : Dev.partsAlike a b) (hs : a.slotStarted p engine index r) :
    b.slotStarted p engine index r := by
  obtain ⟨l, hl⟩ := h p
  unfold Dev.slotStarted
  rw [hl]
  exact hs

section
variable {s : State} {p : Fin 8} {cl : Fin 384} {op : Nat} {r : SlotRef} {sl : Slot}

theorem tensorSlot_answers {c : Instr} {f : SlotRef → Slot → Dev → Dev} {t : Dev} {P : State → Prop} (hs : s.powered)
    (hexec : exec c s = onDev (Dev.slotRun p engTensor cl op fun r sl d => some (f r sl d)) s)
    (hstart : s.dev.slotStarts p engTensor cl op r sl) (ht : f r sl (s.dev.startSlot r) = t) (h : P { s with dev := t }) : Answers c s P :=
  answers_onDev hs hexec (by rw [slotRun_starts hstart, ht]; exact h)

theorem startSlot_physOf {phys : Nat} (h : s.dev.physOf cl = some phys) : (s.dev.startSlot r).physOf cl = some phys := h

/-! ### The matrix operation (R83 to R86) -/

theorem matrix_multiplies {phys : Nat} (hs : s.powered) (hstart : s.dev.slotStarts p engTensor cl opMatrix r sl)
    (hphys : s.dev.physOf cl = some phys) (m : MatDesc) (sp : LsSpan) (hm : m = matDesc ((s.dev.startSlot r).imageDesc p sl.desc))
    (hsp : sp = (s.dev.startSlot r).windowSpan p phys)
    (hcheck : (s.dev.startSlot r).matCheck phys sl.strict (unitsOf sl.units) sp m = stOk) (hk : m.kSteps = 1) (hacc : m.acc = false)
    (hstrict : sl.strict = false) (hint : codeFloat m.fmtA = false)
    (hbad : ((matReads sp m (unitsOf sl.units)).any fun x => (s.dev.startSlot r).lsBad phys x.1 x.2) = false) :
    Answers (.matrixOperation p cl false) s fun t =>
      t.dev.slotStarted p engTensor cl r ∧
        (∀ u ∈ unitsOf sl.units, ∀ k : Nat, k < 1024 → (t.dev.accs phys u)[k]? = some (2 ^ 48 + twos 48
          (intStep (pairsAt ((s.dev.startSlot r).tileA phys sp m u 0) ((s.dev.startSlot r).tileB phys sp m u 0) k) none).1)) ∧
        (∀ e : Nat × Nat, (∀ u ∈ unitsOf sl.units, e.1 < accKey phys u 0 ∨ accKey phys u 0 + 1024 ≤ e.1) →
          (e ∈ t.dev.clus.acc ↔ e ∈ s.dev.clus.acc)) ∧
        Dev.sameSramBut ((matWrites sp m (unitsOf sl.units)).map fun x => s.dev.lsChip phys x.1 x.2) s.dev t.dev ∧
        (∀ x : Nat, ¬ s.dev.inEventRing x →
          (∀ w ∈ matWrites sp m (unitsOf sl.units), x < (s.dev.lsSpilled phys w.1 w.2).1 ∨
            (s.dev.lsSpilled phys w.1 w.2).1 + (s.dev.lsSpilled phys w.1 w.2).2 ≤ x) → t.dev.mem.byte x = s.dev.mem.byte x) ∧
        State.sameBut s t := by
  obtain ⟨e, hrun, hframe, haccs, houtside⟩ :=
    matRun_intOnce (s.dev.startSlot r) sl.units sp m ⟨false, r.slot⟩ (physOf_lt hphys) hk hacc hint hbad
  have hslot : (s.dev.startSlot r).matSlot p cl false r sl = e := by
    unfold Dev.matSlot
    rw [startSlot_physOf hphys]
    dsimp only
    rw [← hm, ← hsp, if_neg (not_not_intro hcheck), hstrict, hrun, if_pos rfl]
  refine tensorSlot_answers hs rfl hstart hslot
    ⟨slotStarted_alike hframe.parts (startSlot_started hstart.1), fun u hu k hk => ?_, houtside, hframe.sram, hframe.mem, rfl, rfl, rfl⟩
  rw [haccs u hu]
  exact intProducts_getElem _ phys sp m u hk

/-! ### Accumulator store and load (R88) -/

theorem accStore_stores {phys u : Nat} (hs : s.powered) (hstart : s.dev.slotStarts p engTensor cl opAccStore r sl)
    (hphys : s.dev.physOf cl = some phys) (hu : unitsOf sl.units = [u]) (a : AccDesc) (sp : LsSpan)
    (ha : a = accDesc ((s.dev.startSlot r).imageDesc p sl.desc)) (hsp : sp = (s.dev.startSlot r).windowSpan p phys)
    (hcheck : (s.dev.startSlot r).accCheck sl.units sp a = stOk) :
    Answers (.storeA48 p cl) s fun t =>
      t.dev.slotStarted p engTensor cl r ∧
        t.dev.lsRead phys (sp.base + a.addr + u * a.ustep) 0x2000 = (s.dev.accs phys u).flatMap (fun w => leBytes 8 w) ∧
        t.dev.clus.acc = s.dev.clus.acc ∧ State.sameBut s t ∧ Dev.sameRegsBut [F.CLU_SPILLCNT_COUNT phys] s.dev t.dev ∧
        Dev.sameSramBut [s.dev.lsChip phys (sp.base + a.addr + u * a.ustep) 0x2000] s.dev t.dev ∧
        Dev.sameMemBut [s.dev.lsSpilled phys (sp.base + a.addr + u * a.ustep) 0x2000] s.dev t.dev := by
  have hslot : (s.dev.startSlot r).accStoreSlot p cl r sl = (s.dev.startSlot r).accStore phys sl.units sp a := by
    unfold Dev.accStoreSlot
    rw [startSlot_physOf hphys]
    dsimp only
    rw [← ha, ← hsp, if_neg (not_not_intro hcheck)]
  obtain ⟨hbytes, hsram, hmem, hregs, hclus, -, hparts⟩ := accStore_stored (s.dev.startSlot r) phys sl.units u sp a hu
  rw [accBytes_length] at hbytes hsram hmem
  exact tensorSlot_answers hs rfl hstart hslot
    ⟨slotStarted_alike hparts (startSlot_started hstart.1), hbytes, congrArg ClusSt.acc hclus, ⟨rfl, rfl, rfl⟩, hregs, hsram, hmem⟩

theorem accLoad_loads {phys u : Nat} (hs : s.powered) (hstart : s.dev.slotStarts p engTensor cl opAccLoad r sl)
    (hphys : s.dev.physOf cl = some phys) (hu : unitsOf sl.units = [u]) (a : AccDesc) (sp : LsSpan)
    (ha : a = accDesc ((s.dev.startSlot r).imageDesc p sl.desc)) (hsp : sp = (s.dev.startSlot r).windowSpan p phys)
    (hcheck : (s.dev.startSlot r).accCheck sl.units sp a = stOk)
    (hbad : (s.dev.startSlot r).lsBad phys (sp.base + a.addr + u * a.ustep) 0x2000 = false) :
    Answers (.loadA48 p cl false) s fun t =>
      t.dev.slotStarted p engTensor cl r ∧
        (∀ k : Nat, k < 1024 → (t.dev.accs phys u)[k]? =
          some (leWord ((s.dev.lsRead phys (sp.base + a.addr + u * a.ustep) 0x2000).drop (8 * k)) 0 % 2 ^ 49)) ∧
        State.onlyFields [F.CLU_SPILLCNT_COUNT phys] s t := by
  obtain ⟨haccs, hframe, hparts⟩ := accsLoaded (s.dev.startSlot r) phys u (sp.base + a.addr + u * a.ustep) [(sp.base + a.addr + u * a.ustep, 0x2000)]
  have hslot : (s.dev.startSlot r).accLoadSlot p cl false r sl =
      ((s.dev.startSlot r).countSpill phys [(sp.base + a.addr + u * a.ustep, 0x2000)]).setAccs phys u
        ((s.dev.startSlot r).accWords phys (sp.base + a.addr + u * a.ustep)) := by
    unfold Dev.accLoadSlot
    rw [startSlot_physOf hphys]
    dsimp only
    rw [← ha, ← hsp, if_neg (not_not_intro hcheck), accLoad_one _ phys sl.units u sp a hu hbad, if_pos rfl]
  refine tensorSlot_answers hs rfl hstart hslot
    ⟨slotStarted_alike (partsAlike_of_parts hparts) (startSlot_started hstart.1), fun k hk => ?_, onlyFields_of_dev (onlyRegs_trans ?_ hframe)⟩
  · rw [haccs]
    exact accWords_getElem _ _ _ hk
  · exact onlyRegs_core (b := s.dev.startSlot r) _ ⟨rfl, rfl, rfl, rfl⟩

/-! ### A failed check (R86, R391, R392) -/

theorem matCheck_lt (d : Dev) (phys : Nat) (strict : Bool) (units : List Nat) (sp : LsSpan) (m : MatDesc) :
    d.matCheck phys strict units sp m < 2 ^ 8 := by
  unfold Dev.matCheck
  split_ifs <;> decide

/-- What a fault record says of the slot that failed. -/
def slotRecord (r : SlotRef) (status : Nat) : List (Fld × Nat) :=
  [(F.RAS_TF_VALID, 1), (F.RAS_TF_PART, r.part), (F.RAS_TF_ENGINE, r.engine), (F.RAS_TF_STATUS, status), (F.RAS_TF_INDEX, r.index)]

theorem slotRecord_fields (r : SlotRef) (status : Nat) : (slotRecord r status).map Prod.fst ⊆ faultFields := by
  simp [slotRecord, faultFields]

/-- The fields of a fault record in the order of their writes. -/
def faultRecord : List Fld :=
  [F.RAS_TF_VALID, F.RAS_TF_PART, F.RAS_TF_ENGINE, F.RAS_TF_INDEX, F.RAS_TF_SLOT, F.RAS_TF_STATUS, F.RAS_TF_ADDR_KIND, F.RAS_TF_ADDR_ADDR,
    F.RAS_TF_TN_TN]

theorem faultFields_noHold : ∀ f ∈ faultFields, ∀ g ∈ holdFields, f.key ≠ g.key := by decide

theorem faultNoted_recorded (d : Dev) (r : SlotRef) (status kind addr : Nat) (hfree : d.on F.RAS_TF_VALID = false) {f : Fld} {v : Nat}
    (hf : (f, v) ∈ slotRecord r status) : (d.faultNoted r status kind addr).get f = v % 2 ^ f.w := by
  unfold Dev.faultNoted
  rw [if_neg (by simp [hfree])]
  refine get_puts_mem (fs := faultRecord) rfl (by decide) ?_ d
  have hsub : slotRecord r status ⊆ [(F.RAS_TF_VALID, 1), (F.RAS_TF_PART, r.part), (F.RAS_TF_ENGINE, r.engine), (F.RAS_TF_INDEX, r.index),
    (F.RAS_TF_SLOT, r.slot), (F.RAS_TF_STATUS, status), (F.RAS_TF_ADDR_KIND, kind), (F.RAS_TF_ADDR_ADDR, addr),
    (F.RAS_TF_TN_TN, d.get F.TCK_TN_TN)] := by simp [slotRecord]
  exact hsub hf

theorem quenched_get (d : Dev) (f : Fld) : d.quenched.get f = d.get f := rfl

/-- A tick fault where none is shown fills the fault record. -/
theorem tickFault_recorded (d : Dev) (r : SlotRef) (status kind addr : Nat) (hfree : d.on F.RAS_TF_VALID = false) {f : Fld} {v : Nat}
    (hf : (f, v) ∈ slotRecord r status) : (d.tickFault r status kind addr).get f = v % 2 ^ f.w := by
  have hfields : f ∈ faultFields := slotRecord_fields r status (List.mem_map_of_mem (f := Prod.fst) hf)
  obtain ⟨detail, heq⟩ := tickFault_eq d r status kind addr
  rw [heq, (assertHold_frame _ hcFault).1 f (faultFields_noHold f hfields), quenched_get, raise_get _ _ _ _ _ (faultFields_away f hfields)]
  exact faultNoted_recorded d r status kind addr hfree hf

/-- Its event names the slot's partition. -/
theorem tickFault_event_source (d : Dev) (r : SlotRef) (status kind addr : Nat) : ∃ e : Event,
    (d.tickFault r status kind addr).events = e :: d.events ∧ e.cls = evTickFault ∧ e.status = status ∧ e.source = r.part := by
  obtain ⟨detail, heq⟩ := tickFault_eq d r status kind addr
  obtain ⟨e, hone, hcls, hstatus, hsource, -⟩ :=
    raise_one_after (faultNoted_frame d r status kind addr) (ringFree_of_away faultFields_away) evTickFault status r.part detail
  rw [heq]
  generalize (d.faultNoted r status kind addr).raise evTickFault status r.part detail = b at *
  exact ⟨e, (assertHold_frame b.quenched hcFault).2.2.2.trans hone, hcls, hstatus, hsource⟩

theorem failedCheck_faults {phys : Nat} {due : Bool} (hs : s.powered) (hstart : s.dev.slotStarts p engTensor cl opMatrix r sl)
    (hphys : s.dev.physOf cl = some phys) (st : Nat)
    (hst : st = (s.dev.startSlot r).matCheck phys sl.strict (unitsOf sl.units) ((s.dev.startSlot r).windowSpan p phys)
      (matDesc ((s.dev.startSlot r).imageDesc p sl.desc))) (hfails : st ≠ stOk) :
    Answers (.matrixOperation p cl due) s fun t =>
      t.dev.held hcFault = true ∧ (∃ e : Event, t.dev.events = e :: s.dev.events ∧ e.cls = evTickFault ∧ e.status = st ∧ e.source = p) ∧
        (s.dev.on F.RAS_TF_VALID = false → t.dev.on F.RAS_TF_VALID = true ∧ t.dev.get F.RAS_TF_PART = p ∧
          t.dev.get F.RAS_TF_ENGINE = engTensor ∧ t.dev.get F.RAS_TF_STATUS = st ∧ t.dev.get F.RAS_TF_INDEX = cl) ∧
        State.onlyFieldsEv (faultFields ++ holdFields) s t := by
  let d := s.dev.startSlot r
  have hslot : d.matSlot p cl due r sl = d.tickFault r st 0 0 := by
    unfold Dev.matSlot
    rw [startSlot_physOf hphys]
    dsimp only
    rw [← hst, if_pos hfails]
  have hlt : st < 2 ^ 8 := by
    rw [hst]
    exact matCheck_lt _ _ _ _ _ _
  obtain ⟨q, -, hr⟩ := slotReady_pos hstart.1
  obtain ⟨e, hevent, hcls, hstatus, hsource⟩ := tickFault_event_source d r st 0 0
  have hmem := (tickFault_event d r st 0 0).2
  have hregs := tickFault_regs d r st 0 0
  refine tensorSlot_answers hs rfl hstart hslot ⟨tickFault_held d r st 0 0, ⟨e, hevent, hcls, hstatus, ?_⟩, fun hfree => ?_, ?_⟩
  · rw [hsource, hr]
  · have hfield := fun f v hf => tickFault_recorded d r st 0 0 hfree (f := f) (v := v) hf
    have hvalid := hfield F.RAS_TF_VALID 1 (by simp [slotRecord])
    refine ⟨?_, ?_, ?_, ?_, ?_⟩
    · unfold Dev.on
      dsimp only
      rw [hvalid]
      decide
    · refine (hfield F.RAS_TF_PART r.part (by simp [slotRecord])).trans ?_
      rw [hr]
      exact Nat.mod_eq_of_lt p.isLt
    · refine (hfield F.RAS_TF_ENGINE r.engine (by simp [slotRecord])).trans ?_
      rw [hr]
      rfl
    · exact (hfield F.RAS_TF_STATUS st (by simp [slotRecord])).trans (Nat.mod_eq_of_lt hlt)
    · refine (hfield F.RAS_TF_INDEX r.index (by simp [slotRecord])).trans ?_
      rw [hr]
      exact Nat.mod_eq_of_lt (cl.isLt.trans (by decide))
  · exact onlyFieldsEv_of_dev (sameRegsBut_mono hregs fun f hf => by simp only [List.mem_append] at hf ⊢; tauto) hmem

end

/-- Settles O15: the matrix operation unit by unit, store and load through local store, a failed check by its tick fault. -/
theorem tensorSlotsMoveAndMultiply : Obligations.TensorSlotsMoveAndMultiply :=
  ⟨fun _ _ _ _ _ _ hs hstart hphys => matrix_multiplies hs hstart hphys _ _ rfl rfl,
    fun _ _ _ _ _ _ _ hs hstart hphys hu => accStore_stores hs hstart hphys hu _ _ rfl rfl,
    fun _ _ _ _ _ _ _ hs hstart hphys hu => accLoad_loads hs hstart hphys hu _ _ rfl rfl,
    fun _ _ _ _ _ _ _ hs hstart hphys => failedCheck_faults hs hstart hphys _ rfl⟩

end Sys2Proof.Machine
end

section
/-! PROOF. Divergent branches, exits and block barriers of thread groups (R104, R110, R111, R115). -/

namespace Sys2Proof.Machine

open Sys2Proof

/-! ### Groups after a command -/

theorem debugUpdate_group (d : Dev) (k : Nat) : d.debugUpdate.group k = d.group k := group_of_clus (congrArg _ (debugUpdate_clus d)) k

/-- Runs an operation on every group of a list of slots. -/
def Dev.onGroups (f : Nat → Group → Dev → Dev) (l : List Nat) (d : Dev) : Dev :=
  l.foldl (fun d k => match d.group k with
    | some g => f k g d
    | none => d) d

theorem onGroups_none {d : Dev} {k : Nat} (f : Nat → Group → Dev → Dev) (l : List Nat) (h : d.group k = none) :
    d.onGroups f (k :: l) = d.onGroups f l := by
  unfold Dev.onGroups
  rw [List.foldl_cons, h]

theorem onGroups_some {d : Dev} {k : Nat} {g : Group} (f : Nat → Group → Dev → Dev) (l : List Nat) (h : d.group k = some g) :
    d.onGroups f (k :: l) = (f k g d).onGroups f l := by
  unfold Dev.onGroups
  rw [List.foldl_cons, h]

/-- A group without live threads ends. -/
theorem settled_ended (g : Group) (h : g.live = 0) :
    g.settled = { g with state := gsEmpty, active := 0, stack := [], store := [], arrived := 0 } := by
  unfold Group.settled Group.settle
  exact if_pos h

/-! ### A block's live groups at its barrier (R111) -/

theorem mem_liveGroups {d : Dev} {b : Block} {y : Nat × Group} :
    y ∈ d.liveGroups b ↔ y.1 ∈ b.groups ∧ d.group y.1 = some y.2 ∧ y.2.state ≠ gsEmpty := by
  obtain ⟨k, g⟩ := y
  unfold Dev.liveGroups
  rw [List.mem_filterMap]
  constructor
  · rintro ⟨j, hj, hy⟩
    split at hy
    · next h hh =>
      split at hy
      · exact nomatch hy
      · obtain ⟨rfl, rfl⟩ := Prod.mk.inj (Option.some.inj hy)
        exact ⟨hj, hh, ‹_›⟩
    · exact nomatch hy
  · rintro ⟨hk, hg, hstate⟩
    refine ⟨k, hk, ?_⟩
    rw [show d.group k = some g from hg]
    exact if_neg hstate

/-- Another group of the block is as live as before a group's write. -/
theorem liveGroups_setGroup_other {d : Dev} {b : Block} {y : Nat × Group} {k : Nat} (g : Option Group) (hk : y.1 ≠ k) :
    y ∈ (d.setGroup k g).liveGroups b ↔ y ∈ d.liveGroups b := by
  rw [mem_liveGroups, mem_liveGroups, group_setGroup, if_neg hk]

/-- A barrier waits while a live group has threads that have not arrived. -/
theorem barrierCheck_waits {d : Dev} {b : Block} {y : Nat × Group} (hy : y ∈ d.liveGroups b) (h : maskSub y.2.live y.2.arrived = false) :
    d.barrierCheck b = d := by
  refine if_neg fun hall => ?_
  rw [List.all_eq_true.mp hall y hy] at h
  exact nomatch h

/-- The groups of the list that a release goes through have no arrivals afterwards. -/
theorem clearArrivals_arrived {k : Nat} {g : Group} (l : List (Nat × Group)) : ∀ e : Dev,
    (l.foldl (fun d x => d.setGroup x.1 (some { x.2 with arrived := 0 })) e).group k = some g →
      (k ∈ l.map Prod.fst ∨ ∀ h : Group, e.group k = some h → h.arrived = 0) → g.arrived = 0 := by
  induction l with
  | nil => exact fun e hg h => h.elim (fun hmem => nomatch hmem) fun h => h g hg
  | cons x l ih =>
    intro e hg h
    refine ih _ hg (or_iff_not_imp_left.mpr fun hnot i hi => ?_)
    rw [group_setGroup] at hi
    split at hi
    · rw [← Option.some.inj hi]
    · next hx => exact (h.resolve_left fun hmem => (List.mem_cons.mp hmem).elim hx hnot) i hi

/-- A barrier at which every live group has arrived releases them all. -/
theorem barrierCheck_releases {d : Dev} {b : Block} (h : ∀ y ∈ d.liveGroups b, maskSub y.2.live y.2.arrived = true) {k : Nat} {g : Group}
    (hk : k ∈ b.groups) (hg : (d.barrierCheck b).group k = some g) (hstate : g.state ≠ gsEmpty) : g.arrived = 0 := by
  have hreleased : d.barrierCheck b =
      (d.liveGroups b).foldl (fun d x => d.setGroup x.1 (some { x.2 with arrived := 0 })) d := if_pos (List.all_eq_true.mpr h)
  have hmem : ∀ i : Group, d.group k = some i → k ∈ (d.liveGroups b).map Prod.fst := by
    intro i hi
    obtain ⟨a, ha⟩ := barrierCheck_group b hi
    obtain rfl := Option.some.inj (ha.symm.trans hg)
    exact List.mem_map_of_mem (f := Prod.fst) ((mem_liveGroups (y := (k, i))).mpr ⟨hk, hi, hstate⟩)
  rw [hreleased] at hg
  refine clearArrivals_arrived _ d hg ?_
  match hd : d.group k with
  | some i => exact .inl (hmem i hd)
  | none => exact .inr fun i hi => nomatch hi

/-! ### An instruction that sets the instruction address itself -/

/-- The group `h` as it settles after such an instruction. -/
def Group.landed (h : Group) : Group := { h with stepped := h.state == gsStepping }.settled

/-- A group that stands at no reconvergence address lands as it is. -/
theorem landed_clear {h : Group} (hlive : h.live ≠ 0) (hactive : h.active ≠ 0)
    (hhead : ∀ e : Reconv, h.stack.head? = some e → e.addr ≠ h.pc) :
    h.landed = { h with stepped := h.state == gsStepping } := settled_clear _ hlive hactive hhead

theorem afterInstr_eq (d : Dev) (x : Gx) (h : Group) :
    d.afterInstr x h = ((d.setGroup x.k (some h.landed)).barrierCheck x.b).debugUpdate := rfl

theorem afterInstr_frame (d : Dev) (x : Gx) (h : Group) : Dev.onlyRegs debugFields d (d.afterInstr x h) := by
  obtain ⟨gs, hclus⟩ := barrierCheck_clus (d.setGroup x.k (some h.landed)) x.b
  rw [afterInstr_eq, hclus]
  exact onlyRegs_trans (onlyRegs_core _ ⟨rfl, rfl, rfl, rfl⟩) (debugUpdate_frame _)

/-- The group lands, but for its arrivals, which a barrier may take. -/
theorem afterInstr_group (d : Dev) (x : Gx) (h : Group) : ∃ a : Nat, (d.afterInstr x h).group x.k = some { h.landed with arrived := a } := by
  obtain ⟨a, ha⟩ := barrierCheck_group (d := d.setGroup x.k (some h.landed)) x.b ((group_setGroup _ _ _ _).trans (if_pos rfl))
  exact ⟨a, (debugUpdate_group _ _).trans ha⟩

section
variable {s : State} {r : GroupRef} {x : Gx} {c : Instr} {f : Gx → Dev → IRes} {h : Group}

theorem jump_answers (hs : s.powered) (hexec : exec c s = onDev (Dev.instr r f) s) (hruns : s.dev.runs r x)
    (hf : f x s.dev = .jump h s.dev) :
    Answers c s fun t => t.dev = s.dev.afterInstr x h ∧ (∃ a : Nat, t.dev.group x.k = some { h.landed with arrived := a }) ∧
      State.onlyFields debugFields s t := by
  refine answers_onDev hs hexec ?_
  rw [show s.dev.instr r f = s.dev.afterInstr x h by rw [instr_runs f hruns, hf]]
  exact ⟨rfl, afterInstr_group _ _ _, onlyFields_of_dev (afterInstr_frame _ _ _)⟩

/-- It goes on where the instruction set it, if it meets no reconvergence address there. -/
theorem jump_goesOn (hs : s.powered) (hexec : exec c s = onDev (Dev.instr r f) s) (hruns : s.dev.runs r x)
    (hf : f x s.dev = .jump h s.dev) (hlive : h.live ≠ 0) (hactive : h.active ≠ 0)
    (hhead : ∀ e : Reconv, h.stack.head? = some e → e.addr ≠ h.pc) :
    Answers c s fun t => t.dev = s.dev.afterInstr x h ∧
      (∃ g : Group, t.dev.group x.k = some g ∧ g.pc = h.pc ∧ g.active = h.active ∧ g.live = h.live ∧ g.stack = h.stack ∧
        g.state = h.state) ∧ State.onlyFields debugFields s t := by
  obtain ⟨t, ht, hdev, ⟨a, hg⟩, hframe⟩ := jump_answers hs hexec hruns hf
  rw [landed_clear hlive hactive hhead] at hg
  exact ⟨t, ht, hdev, ⟨_, hg, rfl, rfl, rfl, rfl, rfl⟩, hframe⟩

end

/-! ### Divergent branches (R110) -/

section
variable {s : State} {r : GroupRef} {x : Gx} {reconv fall target : Nat} {taken : BitVec 32}

/-- A direct branch that some but not all active threads take pushes the taken path and falls through. -/
theorem branch_diverges {g : Group} (hsome : taken.toNat &&& g.active ≠ 0) (hnotAll : taken.toNat &&& g.active ≠ g.active)
    (hroom : g.stack.length < 32) :
    g.branch reconv fall (.direct target taken) =
      some { g with stack := ⟨reconv, g.active, taken.toNat &&& g.active, [⟨target, taken.toNat &&& g.active, []⟩]⟩ :: g.stack,
                    active := maskMinus g.active (taken.toNat &&& g.active), pc := fall } :=
  (if_neg hsome).trans ((if_neg hnotAll).trans (if_neg (Nat.not_le.mpr hroom)))

/-- On a full stack it does not. -/
theorem branch_full {g : Group} (hsome : taken.toNat &&& g.active ≠ 0) (hnotAll : taken.toNat &&& g.active ≠ g.active)
    (hfull : 32 ≤ g.stack.length) : g.branch reconv fall (.direct target taken) = none :=
  (if_neg hsome).trans ((if_neg hnotAll).trans (if_pos hfull))

theorem branch_goesOn {br : Branch} {h : Group} (hs : s.powered) (hruns : s.dev.runs r x) (hbranch : x.g.branch reconv fall br = some h)
    (hlive : h.live ≠ 0) (hactive : h.active ≠ 0) (hhead : ∀ e : Reconv, h.stack.head? = some e → e.addr ≠ h.pc) :
    Answers (.divergentBranch r reconv fall br) s fun t =>
      (∃ g : Group, t.dev.group x.k = some g ∧ g.pc = h.pc ∧ g.active = h.active ∧ g.live = h.live ∧ g.stack = h.stack) ∧
        State.onlyFields debugFields s t := by
  obtain ⟨t, ht, -, ⟨g, hg, hpc, hactive', hlive', hstack, -⟩, hframe⟩ :=
    jump_goesOn hs (c := .divergentBranch r reconv fall br) rfl hruns (by simp only [hbranch]) hlive hactive hhead
  exact ⟨t, ht, ⟨g, hg, hpc, hactive', hlive', hstack⟩, hframe⟩

theorem branch_traps (hs : s.powered) (hruns : s.dev.runs r x) (hfull : 32 ≤ x.g.stack.length) (hsome : taken.toNat &&& x.g.active ≠ 0)
    (hnotAll : taken.toNat &&& x.g.active ≠ x.g.active) (hstop : s.dev.on F.TGD_CTRL_TRAP_STOP = true) :
    Answers (.divergentBranch r reconv fall (.direct target taken)) s fun t =>
      (∃ g : Group, t.dev.group x.k = some g ∧ g.state = gsHalted ∧ g.trap = stBounds ∧ g.pc = x.g.pc) ∧
        State.onlyFields debugFields s t := by
  obtain ⟨hgroup, hregs⟩ := trapGroup_halts s.dev x.k x.phys x.g x.b stBounds 0 hstop
  refine answers_onDev hs rfl ?_
  rw [instr_trap (e := s.dev) hruns (by simp only [branch_full hsome hnotAll hfull]; rfl)]
  exact ⟨⟨_, hgroup, rfl, rfl, rfl⟩, onlyFields_of_dev hregs⟩

end

/-! ### Exits (R111) -/

/-- A group of which the threads `m` exit. -/
def Group.without (g : Group) (m : Nat) : Group :=
  { g with live := maskMinus g.live m, active := maskMinus g.active m, arrived := maskMinus g.arrived m, pc := g.pc + instrBytes }

section
variable {s : State} {r : GroupRef} {x : Gx} {mask : BitVec 32}

theorem exit_someLeft (hs : s.powered) (hruns : s.dev.runs r x) (hclear : x.clearAt (x.g.pc + instrBytes))
    (hlive : maskMinus x.g.live (mask.toNat &&& x.g.active) ≠ 0) (hactive : maskMinus x.g.active (mask.toNat &&& x.g.active) ≠ 0) :
    Answers (.threadExit r mask) s fun t =>
      (∃ g : Group, t.dev.group x.k = some g ∧ g.live = maskMinus x.g.live (mask.toNat &&& x.g.active) ∧
        g.active = maskMinus x.g.active (mask.toNat &&& x.g.active) ∧ g.pc = x.g.pc + instrBytes) ∧ State.onlyFields debugFields s t := by
  obtain ⟨t, ht, -, ⟨g, hg, hpc, hactive', hlive', -⟩, hframe⟩ :=
    jump_goesOn (h := x.g.without (mask.toNat &&& x.g.active)) hs (c := .threadExit r mask) rfl hruns rfl hlive hactive hclear.2
  exact ⟨t, ht, ⟨g, hg, hlive', hactive', hpc⟩, hframe⟩

theorem exit_noneLeft (hs : s.powered) (hruns : s.dev.runs r x) (hlive : maskMinus x.g.live (mask.toNat &&& x.g.active) = 0) :
    Answers (.threadExit r mask) s fun t =>
      (∃ g : Group, t.dev.group x.k = some g ∧ g.live = 0 ∧ g.active = 0 ∧ g.state = gsEmpty ∧ g.stack = []) ∧
        State.onlyFields debugFields s t := by
  obtain ⟨t, ht, -, ⟨a, hg⟩, hframe⟩ :=
    jump_answers (h := x.g.without (mask.toNat &&& x.g.active)) hs (c := .threadExit r mask) rfl hruns rfl
  rw [Group.landed, settled_ended _ hlive] at hg
  exact ⟨t, ht, ⟨_, hg, hlive, rfl, rfl, rfl⟩, hframe⟩

end

/-! ### Block barriers (R111) -/

/-- A group that is not divided arrives with its active threads and goes on. -/
theorem arrive_undivided (g : Group) (h : g.stack = []) :
    g.arrive = { g with arrived := g.arrived ||| g.active, pc := g.pc + instrBytes } := by
  unfold Group.arrive
  dsimp only
  rw [h]
  exact ite_self _

/-- The group as it stands at the barrier. -/
theorem arrive_landed {g : Group} (hstack : g.stack = []) (hlive : g.live ≠ 0) (hactive : g.active = g.live) :
    g.arrive.landed = { g with arrived := g.arrived ||| g.active, pc := g.pc + instrBytes, stepped := g.state == gsStepping } := by
  rw [arrive_undivided g hstack]
  exact landed_clear hlive (by rwa [hactive]) (by rw [hstack]; exact fun e he => nomatch he)

theorem maskSub_or_right (a b : Nat) : maskSub b (a ||| b) = true := by
  refine beq_iff_eq.mpr (Nat.eq_of_testBit_eq fun i => ?_)
  rw [Nat.testBit_and, Nat.testBit_or]
  cases b.testBit i <;> simp

theorem canRun_state {g : Group} (h : g.canRun = true) : g.state ≠ gsEmpty := by
  intro hempty
  simp [Group.canRun, hempty, gsEmpty, gsRunning, gsStepping] at h

section
variable {s : State} {r : GroupRef} {x : Gx} (hs : s.powered) (hruns : s.dev.runs r x) (hstack : x.g.stack = []) (hlive : x.g.live ≠ 0)
  (hactive : x.g.active = x.g.live)
include hs hruns hstack hlive hactive

theorem barrier_arrives : Answers (.blockBarrier r) s fun t => t.dev = s.dev.afterInstr x x.g.arrive ∧ t.dev.advanced x ∧
    State.onlyFields debugFields s t := by
  have harrive := arrive_undivided x.g hstack
  obtain ⟨t, ht, hdev, ⟨g, hg, hpc, hactive', hlive', hstack', hstate⟩, hframe⟩ :=
    jump_goesOn (h := x.g.arrive) hs (c := .blockBarrier r) rfl hruns rfl (by rwa [harrive]) (by rwa [harrive, hactive])
      (by rw [harrive, hstack]; exact fun e he => nomatch he)
  rw [harrive] at hpc hactive' hlive' hstack' hstate
  exact ⟨t, ht, hdev, ⟨g, hg, hpc, hlive', hactive', hstate, hstack'⟩, hframe⟩

theorem barrier_waits (hother : ∃ y ∈ s.dev.liveGroups x.b, y.1 ≠ x.k ∧ maskSub y.2.live y.2.arrived = false) :
    Answers (.blockBarrier r) s fun t =>
      (∃ g : Group, t.dev.group x.k = some g ∧ g.arrived = x.g.arrived ||| x.g.active ∧ g.pc = x.g.pc + instrBytes ∧ g.live = x.g.live) ∧
        State.onlyFields debugFields s t := by
  obtain ⟨y, hy, hne, hmissing⟩ := hother
  obtain ⟨t, ht, hdev, -, hframe⟩ := barrier_arrives hs hruns hstack hlive hactive
  have hwaits := barrierCheck_waits ((liveGroups_setGroup_other (some x.g.arrive.landed) hne).mpr hy) hmissing
  rw [afterInstr_eq, hwaits] at hdev
  have hgroup : t.dev.group x.k = some x.g.arrive.landed := by
    rw [hdev, debugUpdate_group, group_setGroup, if_pos rfl]
  rw [arrive_landed hstack hlive hactive] at hgroup
  exact ⟨t, ht, ⟨_, hgroup, rfl, rfl, rfl⟩, hframe⟩

theorem barrier_releases (hothers : ∀ y ∈ s.dev.liveGroups x.b, y.1 ≠ x.k → maskSub y.2.live y.2.arrived = true) :
    Answers (.blockBarrier r) s fun t =>
      (∀ (k : Nat) (g : Group), k ∈ x.b.groups → t.dev.group k = some g → g.state ≠ gsEmpty → g.arrived = 0) ∧ t.dev.advanced x ∧
        State.onlyFields debugFields s t := by
  obtain ⟨t, ht, hdev, hadvanced, hframe⟩ := barrier_arrives hs hruns hstack hlive hactive
  have hall : ∀ y ∈ (s.dev.setGroup x.k (some x.g.arrive.landed)).liveGroups x.b, maskSub y.2.live y.2.arrived = true := by
    intro y hy
    by_cases hk : y.1 = x.k
    · obtain ⟨-, hgroup, -⟩ := mem_liveGroups.mp hy
      rw [group_setGroup, if_pos hk, arrive_landed hstack hlive hactive] at hgroup
      rw [← Option.some.inj hgroup, hactive]
      exact maskSub_or_right _ _
    · exact hothers y ((liveGroups_setGroup_other _ hk).mp hy) hk
  refine ⟨t, ht, fun k g hk hg hstate => ?_, hadvanced, hframe⟩
  rw [hdev, afterInstr_eq, debugUpdate_group] at hg
  exact barrierCheck_releases hall hk hg hstate

end

/-- Settles O19: each instruction by the group it leaves, as it settles; the barrier by the arrivals of the block's live groups. -/
theorem groupsBranchExitAndMeet : Obligations.GroupsBranchExitAndMeet := by
  refine ⟨?_, fun s r x reconv fall br h hs hruns hbranch hlive hactive hhead => branch_goesOn hs hruns hbranch hlive hactive hhead,
    fun s r x reconv fall target taken hs hruns hfull hsome hnotAll hstop => branch_traps hs hruns hfull hsome hnotAll hstop,
    fun s r x mask hs hruns hclear hlive hactive => exit_someLeft hs hruns hclear hlive hactive,
    fun s r x mask hs hruns hlive => exit_noneLeft hs hruns hlive,
    fun s r x hs hruns hstack hlive hactive hother => barrier_waits hs hruns hstack hlive hactive hother,
    fun s r x hs hruns hstack hlive hactive _ hothers => barrier_releases hs hruns hstack hlive hactive hothers⟩
  intro s r x reconv fall target taken hs hruns hlive hroom hsome hnotAll hreconv hactive
  obtain ⟨t, ht, ⟨g, hg, hpc, hactive', hlive', hstack⟩, hframe⟩ :=
    branch_goesOn hs hruns (branch_diverges (reconv := reconv) (fall := fall) (target := target) hsome hnotAll hroom) hlive hactive
      (fun e he => by rw [← Option.some.inj he]; exact hreconv)
  exact ⟨t, ht, ⟨g, hg, hpc, hactive', hlive', hstack⟩, hframe⟩

end Sys2Proof.Machine
end

section
/-! PROOF. Launches that start, blocks that start on a cluster, blocks that end (R101, R103, R106 to R109, R111). -/

namespace Sys2Proof.Machine

open Sys2Proof

/-! ### An L1 that is invalidated (R160) -/

theorem logUncorrectable_sameButEvent (d : Dev) (pa : Nat) : Dev.sameButEvent d (d.logUncorrectable pa) := by
  unfold Dev.logUncorrectable
  dsimp only
  refine sameButEvent_trans ?_ (raise_sameButEvent _ _ _ _ _)
  split <;> exact ⟨_, _, _, _, _, _, _, _, rfl⟩

theorem tryWrite_sameButEvent (d : Dev) (pa n : Nat) : Dev.sameButEvent d (d.tryWrite pa n).2 := by
  unfold Dev.tryWrite
  dsimp only
  split
  · exact ⟨_, _, _, _, _, _, _, _, rfl⟩
  · split
    · exact raise_sameButEvent d evRas (d.writeStatus pa n) 0 [d.failedPa pa n]
    · exact logUncorrectable_sameButEvent d (lowestWord (d.badUnder pa n))

theorem writes_sameButEvent (pa : Nat) (data : List Byte) (l : List (Nat × Nat)) :
    ∀ d : Dev, Dev.sameButEvent d (l.foldl (fun d r => d.write (pa + r.1) ((data.drop r.1).take r.2)) d) := by
  induction l with
  | nil => exact fun d => ⟨_, _, _, _, _, _, _, _, rfl⟩
  | cons r l ih => exact fun d => sameButEvent_trans (b := d.write _ _) ⟨_, _, _, _, _, _, _, _, rfl⟩ (ih _)

/-- A line's write-back touches no more than an event does. -/
theorem lineBack_sameButEvent (d : Dev) (line : Nat) (x : L1Line) : Dev.sameButEvent d (d.lineBack line x) := by
  unfold Dev.lineBack
  dsimp only
  split
  · exact ⟨_, _, _, _, _, _, _, _, rfl⟩
  · split
    · exact sameButEvent_trans (b := d.bump F.HST_LOST_DISCARD 1) ⟨_, _, _, _, _, _, _, _, rfl⟩ (raise_sameButEvent _ _ _ _ _)
    · split
      · split
        · exact sameButEvent_trans (tryWrite_sameButEvent d _ _) ⟨_, _, _, _, _, _, _, _, rfl⟩
        · exact tryWrite_sameButEvent d _ _
      · exact writes_sameButEvent _ _ _ d

theorem lineBack_clus (d : Dev) (line : Nat) (x : L1Line) : (d.lineBack line x).clus = d.clus := by
  obtain ⟨_, _, _, _, _, _, _, _, h⟩ := lineBack_sameButEvent d line x
  rw [h]

/-- Of a cluster's hidden state, invalidating its L1 changes the lines only. -/
theorem l1Invalidate_clus (d : Dev) (phys : Nat) : ∃ t : Table (Option L1Line), (d.l1Invalidate phys).clus = { d.clus with l1 := t } := by
  unfold Dev.l1Invalidate
  generalize d.l1Lines phys = l
  induction l generalizing d with
  | nil => exact ⟨d.clus.l1, rfl⟩
  | cons r l ih =>
    obtain ⟨t, ht⟩ := ih ((d.lineBack r.1 r.2).setL1 phys r.1 none)
    refine ⟨t, ht.trans ?_⟩
    show ({ (d.lineBack r.1 r.2).clus with l1 := t } : ClusSt) = _
    rw [lineBack_clus]

theorem l1Invalidate_empty (d : Dev) (phys : Nat) (h : d.l1Lines phys = []) : d.l1Invalidate phys = d := by
  unfold Dev.l1Invalidate
  rw [h]
  rfl

/-! ### Launches by their number -/

theorem launchOf_id {d : Dev} {id : Nat} {l : Launch} (h : d.launchOf id = some l) : l.id = id := 
  beq_iff_eq.mp (List.find?_some (p := fun l : Launch => l.id == id) h)

theorem launchOf_of_clus {a b : Dev} (h : b.clus.launches = a.clus.launches) (id : Nat) : b.launchOf id = a.launchOf id := by
  unfold Dev.launchOf
  rw [h]

/-- A launch that is changed is found under its number as before. -/
theorem launchOf_mapLaunch {d : Dev} {id : Nat} {l : Launch} {f : Launch → Launch} (h : d.launchOf id = some l)
    (hf : ∀ l : Launch, (f l).id = l.id) : (d.mapLaunch id f).launchOf id = some (f l) := by
  have hsame : ((fun l : Launch => l.id == id) ∘ fun l => if l.id = id then f l else l) = fun l => l.id == id := by
    funext l
    simp only [Function.comp_apply]
    split
    · rw [hf]
    · rfl
  unfold Dev.launchOf Dev.mapLaunch at *
  dsimp only
  rw [List.find?_map, hsame, h, Option.map_some, if_pos (launchOf_id h)]

/-! ### A queue entry that makes a launch (R103, R106) -/

/-- The launch that is made comes last in the list; asking for a waiting SRAM setting writes registers only. -/
theorem makeLaunch_adds (d : Dev) (m : LaunchDesc) (queue : Option (Nat × Nat)) (part root : Nat) (segs : List Segment) (first count : Nat)
    (slot : Option (Nat × Nat)) :
    ∃ l : Launch, (d.makeLaunch m queue part root segs first count slot).clus.launches = d.clus.launches ++ [l] ∧ l.queue = queue ∧
      l.id = d.clus.nextLaunch ∧ l.entryPc = m.entryPc ∧ l.grid = m.grid ∧ l.groups = m.groups ∧ l.first = first ∧ l.count = count ∧
        l.segs = segs ∧ l.next = 0 ∧ l.stopped = false := by
  have hsetting : ∀ (cs : List Nat) (d : Dev), (cs.foldl (fun d c =>
      if m.setting = 0 ∨ m.setting = d.get (F.CLU_SRAM_SETTING c) ∨ d.get (F.CLU_SRAM_PENDING c) ≠ 0 then d
      else d.put (F.CLU_SRAM_PENDING c) m.setting) d).clus = d.clus := by
    intro cs
    induction cs with
    | nil => exact fun d => rfl
    | cons c cs ih =>
      intro d
      rw [List.foldl_cons, ih]
      split <;> rfl
  exact ⟨_, congrArg ClusSt.launches (hsetting _ _), rfl, rfl, rfl, rfl, rfl, rfl, rfl, rfl, rfl, rfl⟩

theorem onEntry_runs {d : Dev} {q seq type : Nat} {x : Queue} {e : Entry} (f : Queue → Entry → Dev → Dev)
    (h : d.entryFor q seq type = some (x, e)) :
    d.onEntry q seq type f = f x e (d.mapEntry q seq fun e => { e with started := true }) := by
  unfold Dev.onEntry
  rw [h]

/-- An entry whose checks all pass, with its segments bound and held, makes its launch. -/
theorem launchEntry_launches {x : Queue} {e : Entry} {d d1 d2 d3 : Dev} {ext : List Extent} {bound : List Segment} {m : LaunchDesc}
    {ss : List (Bool × Segment)} (hm : m = launchDesc e.desc)
    (hss : ss = parseSegs (d1.readVa ext m.segList (32 * m.segCount)) m.segCount)
    (hnew : (d.clus.launches.any fun l => l.queue == some (e.queue, e.seq)) = false) (hcheck12 : d.launchCheck12 m m.zerosQueued = none)
    (hcount : m.segCount ≠ 0)
    (hlist : d.obtain ⟨0, holderQueue, x.root, x.part, m.segList, 32 * m.segCount, 1, false, some (e.queue, e.seq)⟩ = (.ok ext, d1))
    (hwait : d1.runsWait (extentRuns ext m.segList (32 * m.segCount)) = false)
    (hread : (d1.readRuns (extentRuns ext m.segList (32 * m.segCount)) false).1 = stOk) (hclean : (ss.any fun r => !r.1) = false)
    (haligned : m.segList % 32 = 0) (hsegs : (ss.map (·.2)).all segOk = true) (hcheck45 : launchCheck45 m (ss.map (·.2)) = stOk)
    (hcheck678 : d1.launchCheck678 x.part m = stOk)
    (hbind : Dev.bindSegs (e.queue, e.seq) x.root x.part (((launchRange m).filterMap d1.physOf).headD 0) (ss.map (·.2)) d1 = (.ok bound, d2))
    (hhold : d2.holdSegs x.root ((launchRange m).filterMap d1.physOf) (ss.map (·.2)) = some d3) :
    Dev.launchEntry x e d = d3.makeLaunch m (some (e.queue, e.seq)) x.part x.root bound m.first m.count none := by
  subst hm hss
  unfold Dev.launchEntry
  dsimp only
  rw [if_neg (by simp [hnew]), hcheck12]
  dsimp only
  rw [if_neg hcount, hlist]
  dsimp only
  rw [if_neg (by simp [hwait]), if_neg (not_not_intro hread), if_neg (by simp [hclean]), if_neg (by simp [haligned, hsegs]),
    if_neg (not_not_intro hcheck45), if_neg (not_not_intro hcheck678), hbind]
  dsimp only
  rw [hhold]

/-! ### A block starts (R101, R107, R108) -/

theorem assignScheds_length (n : Nat) : ∀ counts : List Nat, (assignScheds n counts).length = n := by
  induction n with
  | zero => exact fun _ => rfl
  | succ n ih => exact fun counts => congrArg (· + 1) (ih _)

/-- A block is placed on no more slots than it has groups. -/
theorem placeOn_length {d : Dev} {l : Launch} {c phys j a : Nat} {slots : List Nat} (h : d.placeOn l c = some (phys, j, a, slots)) :
    slots.length ≤ l.groups := by
  unfold Dev.placeOn at h
  split at h
  · exact nomatch h
  · dsimp only at h
    split at h
    · exact nomatch h
    · obtain ⟨r, -, hr⟩ := Option.map_eq_some_iff.mp h
      rw [← (Prod.mk.inj (Prod.mk.inj (Prod.mk.inj hr).2).2).2]
      exact List.length_take_le _ _

/-- The groups of a launch's next block enter their slots: keys with their schedulers and indices. -/
def Dev.placeGroups (l : Launch) (stamp : Nat) (places : List ((Nat × Nat) × Nat)) (d : Dev) : Dev :=
  places.foldl (fun d r => (d.dropRegs r.1.1).setGroup r.1.1 (some (newGroup l l.next r.2 r.1.2 stamp))) d

theorem placeGroups_only (l : Launch) (stamp : Nat) (places : List ((Nat × Nat) × Nat)) : ∀ d : Dev,
    ∃ (gs : Table (Option Group)) (v u : Table Nat),
      d.placeGroups l stamp places = { d with clus := { d.clus with groups := gs, vregs := v, uregs := u } } := by
  induction places with
  | nil => exact fun d => ⟨d.clus.groups, d.clus.vregs, d.clus.uregs, rfl⟩
  | cons r places ih =>
    intro d
    obtain ⟨gs, v, u, h⟩ := ih ((d.dropRegs r.1.1).setGroup r.1.1 (some (newGroup l l.next r.2 r.1.2 stamp)))
    exact ⟨gs, v, u, h⟩

/-- Every slot that is named holds a new group, be it named once or more often. -/
theorem placeGroups_group (l : Launch) (stamp k : Nat) (places : List ((Nat × Nat) × Nat)) : ∀ d : Dev,
    (k ∈ places.map (·.1.1) ∨ ∃ index sched : Nat, d.group k = some (newGroup l l.next index sched stamp)) →
      ∃ index sched : Nat, (d.placeGroups l stamp places).group k = some (newGroup l l.next index sched stamp) := by
  induction places with
  | nil => exact fun d h => h.resolve_left fun hmem => nomatch hmem
  | cons r places ih =>
    refine fun d h => ih _ (or_iff_not_imp_left.mpr fun hnot => ?_)
    rw [group_setGroup]
    split
    · exact ⟨_, _, rfl⟩
    · next hk => exact h.resolve_left fun hmem => (List.mem_cons.mp hmem).elim hk hnot

/-- The next block of a launch, as it will stand. -/
def Launch.nextBlock (l : Launch) (c phys slotNo lsBase : Nat) (slots : List Nat) : Block :=
  ⟨l.id, l.next, phys, slotNo, slots.map (groupKey c), lsBase, l.lsUnits * 0x1000⟩

/-- A device with one more resident block, and its free-value stamp drawn. -/
def Dev.withBlock (d : Dev) (b : Block) : Dev :=
  { d with fresh := d.fresh + 1, clus := { d.clus with blocks := d.clus.blocks ++ [b] } }

/-- A block whose launch names no argument words: its groups are placed, and the launch counts it. -/
theorem startBlock_places (d : Dev) (l : Launch) (c phys slotNo lsBase : Nat) (slots : List Nat) (h : l.argWords = 0) :
    ∃ scheds : List Nat, scheds.length = l.groups ∧
      d.startBlock l c phys slotNo lsBase slots =
        (((d.l1Invalidate phys).withBlock (l.nextBlock c phys slotNo lsBase slots)).placeGroups l (d.l1Invalidate phys).fresh
          ((slots.map (groupKey c)).zip scheds).zipIdx).mapLaunch l.id fun l => { l with next := l.next + 1 } := by
  have hargs : (d.l1Invalidate phys).readArgs l = (stOk, [], d.l1Invalidate phys) := if_pos h
  refine ⟨assignScheds l.groups ((List.range 4).map fun i => ((d.l1Invalidate phys).residents c).countP fun x => x.2.sched == i),
    assignScheds_length _ _, ?_⟩
  unfold Dev.startBlock
  dsimp only
  rw [hargs]
  rfl

theorem startBlock_effect {d : Dev} {l : Launch} {c phys slotNo lsBase : Nat} {slots : List Nat} (hargs : l.argWords = 0)
    (hslots : slots.length ≤ l.groups) (hlaunch : d.launchOf l.id = some l) :
    let t := d.startBlock l c phys slotNo lsBase slots
    l.nextBlock c phys slotNo lsBase slots ∈ t.clus.blocks ∧
      (∀ n ∈ slots, ∃ index sched stamp : Nat, t.group (groupKey c n) = some (newGroup l l.next index sched stamp)) ∧
        t.launchOf l.id = some { l with next := l.next + 1 } ∧ (d.l1Lines phys = [] → Dev.onlyRegs [] d t) := by
  obtain ⟨scheds, hlength, ht⟩ := startBlock_places d l c phys slotNo lsBase slots hargs
  obtain ⟨lines, hlines⟩ := l1Invalidate_clus d phys
  intro t
  let b := l.nextBlock c phys slotNo lsBase slots
  let places := ((slots.map (groupKey c)).zip scheds).zipIdx
  have hkeys : places.map (·.1.1) = slots.map (groupKey c) := by
    have hfst : places.map (·.1.1) = (places.map Prod.fst).map Prod.fst := (List.map_map ..).symm
    rw [hfst, List.zipIdx_map_fst, List.map_fst_zip (by simpa [hlength] using hslots)]
  let e := (d.l1Invalidate phys).withBlock b
  have he : e.clus = { d.clus with l1 := lines, blocks := d.clus.blocks ++ [b] } :=
    congrArg (fun cl : ClusSt => { cl with blocks := cl.blocks ++ [b] }) hlines
  obtain ⟨gs, v, u, hplaced⟩ := placeGroups_only l (d.l1Invalidate phys).fresh places e
  have htdev : t = (e.placeGroups l (d.l1Invalidate phys).fresh places).mapLaunch l.id fun l => { l with next := l.next + 1 } := ht
  refine ⟨?_, fun n hn => ?_, ?_, fun hempty => ?_⟩
  · rw [htdev, hplaced]
    show b ∈ e.clus.blocks
    rw [he]
    exact List.mem_append_right _ List.mem_cons_self
  · obtain ⟨index, sched, hgroup⟩ := placeGroups_group l (d.l1Invalidate phys).fresh (groupKey c n) places e
      (.inl (by rw [hkeys]; exact List.mem_map_of_mem hn))
    rw [htdev]
    exact ⟨index, sched, _, hgroup⟩
  · rw [htdev]
    refine launchOf_mapLaunch ?_ fun _ => rfl
    rw [hplaced, ← hlaunch]
    refine launchOf_of_clus ?_ _
    show e.clus.launches = _
    rw [he]
  · have hsame : d.l1Invalidate phys = d := l1Invalidate_empty d phys hempty
    rw [htdev, hplaced]
    refine onlyRegs_core [] ⟨?_, ?_, ?_, ?_⟩ <;> simp only [e, Dev.mapLaunch, Dev.withBlock, hsame]

/-- A launch of no slot that may place its next block on this cluster, the first of its range that can take one, starts it there. -/
theorem blockStart_starts {d : Dev} {id c phys j a : Nat} {l : Launch} {slots : List Nat} (hlaunch : d.launchOf id = some l)
    (hgoing : l.stopped = false) (hnext : l.next ≠ l.grid) (hfirst : l.first ≤ c) (hlast : c < l.first + l.count)
    (hphys : d.physOf c = some phys) (hsetting : d.settingReady l phys = true) (hslot : l.slot = none)
    (hlowest : ((natRange l.first (c - l.first)).any fun c' => (d.placeOn l c').isSome) = false)
    (hplace : d.placeOn l c = some (phys, j, a, slots)) (hargs : l.argWords = 0) :
    d.blockStart id c = d.startBlock l c phys j a slots := by
  have hready : d.argsWait l = false := by
    unfold Dev.argsWait
    split
    · rw [hargs]
      rfl
    · rfl
  unfold Dev.blockStart
  rw [hlaunch]
  dsimp only
  rw [if_neg (by simp [hgoing, hnext, hfirst, hlast]), hphys]
  dsimp only
  rw [if_neg (by simp [hsetting]), hslot]
  dsimp only
  rw [if_neg (by simp [hlowest]), hplace]
  exact if_neg (by simp [hready])

/-! ### A block ends (R109, R111) -/

theorem emptied_only (l : List Nat) : ∀ d : Dev, ∃ gs : Table (Option Group),
    l.foldl (fun d k => d.setGroup k none) d = { d with clus := { d.clus with groups := gs } } := by
  induction l with
  | nil => exact fun d => ⟨d.clus.groups, rfl⟩
  | cons k l ih =>
    intro d
    obtain ⟨gs, h⟩ := ih (d.setGroup k none)
    exact ⟨gs, h⟩

theorem emptied_group (k : Nat) (l : List Nat) : ∀ d : Dev, (k ∈ l ∨ d.group k = none) →
    (l.foldl (fun d k => d.setGroup k none) d).group k = none := by
  induction l with
  | nil => exact fun d h => h.resolve_left fun hmem => nomatch hmem
  | cons j l ih =>
    refine fun d h => ih _ (or_iff_not_imp_left.mpr fun hnot => ?_)
    rw [group_setGroup]
    split
    · rfl
    · next hk => exact h.resolve_left fun hmem => (List.mem_cons.mp hmem).elim hk hnot

/-- A launch with blocks to come does not complete. -/
theorem launchCheck_goesOn {d : Dev} {id : Nat} {l : Launch} (hlaunch : d.launchOf id = some l) (hgoing : l.stopped = false)
    (hleft : l.ended ≠ l.grid) : d.launchCheck id = d := by
  unfold Dev.launchCheck
  rw [hlaunch]
  exact if_pos (by simp [hgoing, hleft])

/-- The device with a block's group slots empty and the block gone. -/
def Dev.withoutBlock (d : Dev) (b : Block) (block id : Nat) : Dev :=
  let d := b.groups.foldl (fun d k => d.setGroup k none) d
  { d with clus := { d.clus with blocks := d.clus.blocks.filter fun x => !(x.launch == id && x.index == block) } }

theorem blockEnd_ends {s : State} {c : Fin 384} {block id phys : Nat} {b : Block} {l : Launch} (hs : s.powered)
    (hblock : s.dev.blockOf id block = some b) (hphys : s.dev.physOf c = some phys) (hplace : b.phys = phys)
    (hdone : s.dev.blockDone b = true) (hlaunch : s.dev.launchOf id = some l) (hgoing : l.stopped = false) (hleft : l.ended + 1 ≠ l.grid) :
    Answers (.blockEnd c block id) s fun t =>
      (∀ k ∈ b.groups, t.dev.group k = none) ∧ t.dev.blockOf id block = none ∧
        (∃ l2 : Launch, t.dev.launchOf id = some l2 ∧ l2.ended = l.ended + 1) ∧ State.onlyFields debugFields s t := by
  obtain ⟨gs, hemptied⟩ := emptied_only b.groups s.dev
  let e := (s.dev.withoutBlock b block id).mapLaunch id fun l => { l with ended := l.ended + 1 }
  have hcounted : e.launchOf id = some { l with ended := l.ended + 1 } := by
    refine launchOf_mapLaunch ?_ fun _ => rfl
    rw [← hlaunch]
    exact launchOf_of_clus (by rw [Dev.withoutBlock, hemptied]) _
  have hend : s.dev.blockEnd c block id = e.debugUpdate := by
    unfold Dev.blockEnd
    rw [hblock, hphys]
    dsimp only
    rw [if_neg (by simp [hplace, hdone])]
    exact congrArg Dev.debugUpdate (launchCheck_goesOn hcounted hgoing hleft)
  refine answers_onDev (f := fun d => d.blockEnd c block id) hs rfl ?_
  dsimp only
  rw [hend]
  refine ⟨fun k hk => (debugUpdate_group _ _).trans (emptied_group k b.groups s.dev (.inl hk)), ?_,
    ⟨{ l with ended := l.ended + 1 }, ?_, rfl⟩, onlyFields_of_dev ?_⟩
  · unfold Dev.blockOf
    rw [debugUpdate_clus, List.find?_eq_none]
    intro x hx
    obtain ⟨-, hother⟩ := List.mem_filter.mp hx
    exact ne_true_of_eq_false ((Bool.not_eq_true' _).mp hother)
  · exact (launchOf_of_clus (congrArg ClusSt.launches (debugUpdate_clus e)) id).trans hcounted
  · refine onlyRegs_trans (b := e) (onlyRegs_core _ ?_) (debugUpdate_frame e)
    simp only [e, Dev.withoutBlock, hemptied]
    exact ⟨rfl, rfl, rfl, rfl⟩

/-- Settles O23: a launch by the checks that its entry passes, a block's start by the groups it places, its end by the slots it empties. -/
theorem launchesAndBlocks : Obligations.LaunchesAndBlocks := by
  refine ⟨?_, ?_, fun s c block id phys b l hs hblock hphys hplace hdone hlaunch hgoing hleft =>
    blockEnd_ends hs hblock hphys hplace hdone hlaunch hgoing hleft⟩
  · intro s q seq x e ext bound d1 d2 d3 hs hentry d m runs ss segs cs hnew hcheck12 hcount hlist hwait hread hclean haligned hsegs hcheck45
      hcheck678 hbind hhold
    obtain ⟨l, hlaunches, hqueue, hid, hpc, hgrid, hgroups, hfirst, hcnt, hbound, hnext, hgoing⟩ :=
      makeLaunch_adds d3 m (some (e.queue, e.seq)) x.part x.root bound m.first m.count none
    refine answers_onDev (f := Dev.onEntry q seq tyLaunch Dev.launchEntry) hs rfl ?_
    rw [onEntry_runs _ hentry, launchEntry_launches rfl rfl hnew hcheck12 hcount hlist hwait hread hclean haligned hsegs hcheck45 hcheck678
      hbind hhold]
    refine ⟨⟨l, ?_, hqueue, hid, hpc, hgrid, hgroups, hfirst, hcnt, hbound, hnext, hgoing⟩, rfl, rfl, rfl⟩
    rw [show ({ s with dev := d3.makeLaunch m _ _ _ _ _ _ _ } : State).dev.clus.launches = _ from hlaunches]
    exact List.mem_append_right _ List.mem_cons_self
  · intro s id c l phys j a slots hs hlaunch hgoing hnext hfirst hlast hphys hsetting hslot hlowest hplace hargs _
    have hid := launchOf_id hlaunch
    subst hid
    obtain ⟨hblock, hgroups, hcounted, hframe⟩ :=
      startBlock_effect (d := s.dev) (c := c) (phys := phys) (slotNo := j) (lsBase := a) hargs (placeOn_length hplace) hlaunch
    refine answers_onDev (f := fun d => d.blockStart l.id c) hs rfl ?_
    dsimp only
    rw [blockStart_starts hlaunch hgoing hnext hfirst hlast hphys hsetting hslot hlowest hplace hargs]
    refine ⟨⟨_, hblock, rfl, rfl, rfl, rfl, rfl⟩, fun n hn => ?_, ⟨_, hcounted, rfl, rfl⟩, ⟨rfl, rfl, rfl⟩,
      fun hempty => onlyFields_of_dev (hframe hempty)⟩
    obtain ⟨index, sched, stamp, hgroup⟩ := hgroups n hn
    exact ⟨_, hgroup, rfl, rfl, rfl, rfl, rfl, rfl, rfl⟩

end Sys2Proof.Machine
end

section
/-! SUPPORT. An authenticated write that is answered: what its rules leave, and the response that follows (R360, R361). -/

namespace Sys2Proof.Machine

open Sys2Proof

/-! ### The vault once the counter is committed (R360) -/

theorem setSlot_others (v : Vault) (n : Nat) (k : KeySlot) :
    (v.setSlot n k).debugFuse = v.debugFuse ∧ (v.setSlot n k).revocationSeq = v.revocationSeq ∧ (v.setSlot n k).partnerSeq = v.partnerSeq := by
  unfold Vault.setSlot
  split <;> exact ⟨rfl, rfl, rfl⟩

/-- A slot reads what was written to it, if the vault has it. -/
theorem slot_setSlot (v : Vault) (n : Nat) (k : KeySlot) : (v.setSlot n k).slot n = k ∨ (v.setSlot n k).slot n = v.slot n := by
  unfold Vault.setSlot Vault.slot
  by_cases hn : n = 0
  · simp [hn]
  · simp only [if_neg hn]
    by_cases hlt : n - 1 < v.slots.length
    · left
      simp [List.getD_eq_getElem?_getD, hlt]
    · right
      rw [List.set_eq_of_length_le (Nat.not_lt.mp hlt)]

/-- Committing a counter leaves the slot's mask. -/
theorem countedVault_mask (s : State) (a : Auth) : ((s.countedVault a).slot a.slot).mask = (s.vault.slot a.slot).mask := by
  rcases slot_setSlot s.vault a.slot { s.vault.slot a.slot with failures := 0, counter := a.counter } with h | h
  · exact (congrArg KeySlot.mask h).trans rfl
  · exact congrArg KeySlot.mask h

/-! ### The answer (R359, R361) -/

/-- The state in which the rules of an accepted request run. -/
def State.counted (s : State) (a : Auth) : State := { s with vault := s.countedVault a }

/-- An event on record is on record after a response. -/
theorem reply_events {e : Event} {d : Dev} (source : Nat) (frame : List Byte) (h : e ∈ d.events) : e ∈ (d.reply source frame).events := by
  by_cases hs : source = srcMailbox
  · rw [hs, reply_mailbox, raise_events]
    exact List.mem_cons_of_mem _ (by rwa [(responseWrites_frame d frame).2.2.2])
  · rw [reply_other d source frame hs]
    exact h

/-- From `a` to `b` of the registers only `l` and an event's may have changed, and no byte outside the event rings. -/
def Dev.eventFrame (l : List Fld) (a b : Dev) : Prop :=
  Dev.sameRegsBut (l ++ eventFields) a b ∧ Dev.sameMemButRings [] a b ∧ ∀ x : Nat, b.inEventRing x ↔ a.inEventRing x

theorem eventFrame_refl (a : Dev) : Dev.eventFrame [] a a := ⟨fun _ _ => rfl, sameMemButRings_same rfl rfl, fun _ => Iff.rfl⟩

theorem eventFrame_raise {l : List Fld} {a b : Dev} (h : Dev.onlyRegs l a b) (hl : RingFree l) (cls status source : Nat)
    (detail : List Nat) : Dev.eventFrame l a (b.raise cls status source detail) :=
  ⟨raise_regs_after h.1 _ _ _ _, raise_mem_after h hl _ _ _ _,
    fun x => (raise_inEventRing b cls status source detail x).trans (hl.inEventRing h.1 x)⟩

/-- An accepted request is answered with the status of its rules, from the state that they leave. -/
theorem auth_answers {c : Instr} {s t : State} {a : Auth} {key st : Nat} {value : List Byte} {rules : State → Nat × State} {l : List Fld}
    (hexec : exec c s = onAuth a key value rules s) (h : s.authentic a key value) (hrules : rules (s.counted a) = (st, t))
    (hpending : t.pending = s.pending) (hflash : t.flash = s.flash) (hdev : Dev.eventFrame l s.dev t.dev) :
    Answers c s fun u => u.dev = t.dev.reply a.source (s.authResponse a key value st) ∧
      State.authDone a key value st t.vault s.flash l s u := by
  have hresent : s.resent a (authReq a key value) = none := h.2.1
  have hwrite : lopWrite true (authReq a key value) rules s =
      (t.answer (s.vault.slot a.slot).key (authReq a key value) st).keepLast a (authReq a key value) (s.authResponse a key value st) := by
    unfold lopWrite
    rw [show (authReq a key value).auth = some a from rfl]
    dsimp only
    rw [hresent]
    dsimp only
    rw [authentic_steps h]
    dsimp only
    rw [if_neg (by decide), show rules { s with vault := s.countedVault a, dev := s.dev } = (st, t) from hrules]
    rfl
  obtain ⟨hregs, hmem, hrings⟩ := hdev
  refine ⟨_, hexec.trans ((onAuth_taken h rules).trans (congrArg _ hwrite)), rfl, hpending, rfl, ?_, reply_respondedTo _ _ _, ?_, ?_⟩
  · show ({ t.flash with lastRequests := _ } : Flash) = _
    rw [show (State.answer t _ _ _).flash = t.flash from rfl, hflash]
    rfl
  · refine sameRegsBut_trans (sameRegsBut_mono hregs fun f hf => ?_) (sameRegsBut_mono (reply_regs t.dev _ _) fun f hf => ?_)
    · simp only [List.mem_append] at hf ⊢
      tauto
    · rw [List.append_assoc]
      exact List.mem_append_right _ hf
  · exact sameMemButRings_trans hmem (reply_mem t.dev _ _) hrings

/-- A request whose rules change the vault alone. -/
theorem auth_vault {c : Instr} {s : State} {a : Auth} {key st : Nat} {value : List Byte} {rules : State → Nat × State} {v : Vault}
    (hexec : exec c s = onAuth a key value rules s) (h : s.authentic a key value) (hrules : rules (s.counted a) = (st, { s with vault := v })) :
    Answers c s (State.authDone a key value st v s.flash [] s) := by
  obtain ⟨u, hu, -, hdone⟩ := auth_answers hexec h hrules rfl rfl (eventFrame_refl s.dev)
  exact ⟨u, hu, hdone⟩

end Sys2Proof.Machine
end

section
/-! PROOF. Keys, fuses, signed lists, quotes, the service state and the debug unlock (R116, R360, R381 to R385, R395, R397). -/

namespace Sys2Proof.Machine

open Sys2Proof

/-! ### Keys (R382) -/

/-- Are the reserved bits of a key's value clear? -/
def keyClean (b : List Byte) : Prop := b.getD 1 0#8 = 0#8 ∧ (∀ x ∈ (b.drop 4).take 4, x = 0#8) ∧ leNat ((b.drop 2).take 2) < 2 ^ 9

theorem keyClean_iff (b : List Byte) : keyClean b ↔
    ¬ (b.getD 1 0#8 != 0#8 || ((b.drop 4).take 4).any (· != 0#8) || leNat ((b.drop 2).take 2) / 2 ^ 9 != 0) = true := by
  have hmask : leNat ((b.drop 2).take 2) / 2 ^ 9 = 0 ↔ leNat ((b.drop 2).take 2) < 2 ^ 9 := Nat.div_eq_zero_iff_lt (by decide)
  unfold keyClean
  rw [← hmask]
  simp [and_assoc]

section
variable {i : Nat} {b : List Byte} {s : State}

theorem keyRule_length (h : b.length ≠ 56) : keyRule i b s = (stBounds, s) := if_pos h

theorem keyRule_reserved (h : b.length = 56) (hclean : ¬ keyClean b) : keyRule i b s = (stFeature, s) :=
  (if_neg (not_not_intro h)).trans (if_pos (not_not.mp (mt (keyClean_iff b).mpr hclean)))

theorem keyRule_target (h : b.length = 56) (hclean : keyClean b) (htarget : 7 < (b.getD 0 0#8).toNat) : keyRule i b s = (stBounds, s) :=
  (if_neg (not_not_intro h)).trans ((if_neg ((keyClean_iff b).mp hclean)).trans (if_pos htarget))

theorem keyRule_permission (h : b.length = 56) (hclean : keyClean b) (htarget : (b.getD 0 0#8).toNat ≤ 7)
    (hmask : leNat ((b.drop 2).take 2) &&& (s.vault.slot i).mask ≠ leNat ((b.drop 2).take 2)) : keyRule i b s = (stPerm, s) :=
  (if_neg (not_not_intro h)).trans ((if_neg ((keyClean_iff b).mp hclean)).trans
    ((if_neg (Nat.not_lt.mpr htarget)).trans (if_pos (by simpa using hmask))))

/-- What a well-formed value within the issuer's permissions does. -/
theorem keyRule_permitted (h : b.length = 56) (hclean : keyClean b) (htarget : (b.getD 0 0#8).toNat ≤ 7)
    (hmask : leNat ((b.drop 2).take 2) &&& (s.vault.slot i).mask = leNat ((b.drop 2).take 2)) :
    keyRule i b s =
      if (b.drop 8).all (· == 0#8) then
        if (b.getD 0 0#8).toNat = 0 then (stPerm, s)
        else (stOk, { s with vault := s.vault.setSlot (b.getD 0 0#8).toNat
                               { s.vault.slot (b.getD 0 0#8).toNat with key := none, mask := 0, failures := 0 } })
      else if (b.getD 0 0#8).toNat = 0 ∧ !bit (leNat ((b.drop 2).take 2)) 1 then (stPerm, s)
      else (stOk, { s with vault := s.vault.setSlot (b.getD 0 0#8).toNat ⟨some (b.drop 8), leNat ((b.drop 2).take 2), 0, 0, false⟩ }) :=
  (if_neg (not_not_intro h)).trans ((if_neg ((keyClean_iff b).mp hclean)).trans
    ((if_neg (Nat.not_lt.mpr htarget)).trans (if_neg (by simpa using hmask))))

end

/-- KEY_CHANGE by the cases of its rule. -/
theorem keyChange_answers {s : State} {a : Auth} {b : List Byte} (h : s.authentic a 0x520001 b) :
    let target := (b.getD 0 0#8).toNat
    let mask := leNat ((b.drop 2).take 2)
    let key := b.drop 8
    let v := s.countedVault a
    let done (st : Nat) (w : Vault) : State → Prop := State.authDone a 0x520001 b st w s.flash [] s
    let clean := b.getD 1 0#8 = 0#8 ∧ (∀ x ∈ (b.drop 4).take 4, x = 0#8) ∧ mask < 2 ^ 9
    (b.length ≠ 56 → Answers (.keyChange a b) s (done stBounds v)) ∧
    (b.length = 56 →
      (¬ clean → Answers (.keyChange a b) s (done stFeature v)) ∧
      (clean → 7 < target → Answers (.keyChange a b) s (done stBounds v)) ∧
      (clean → target ≤ 7 → mask &&& (s.vault.slot a.slot).mask ≠ mask → Answers (.keyChange a b) s (done stPerm v)) ∧
      (clean → target ≤ 7 → mask &&& (s.vault.slot a.slot).mask = mask →
        (key.all (· == 0#8) = true → target = 0 → Answers (.keyChange a b) s (done stPerm v)) ∧
        (key.all (· == 0#8) = true → target ≠ 0 →
          Answers (.keyChange a b) s (done stOk (v.setSlot target { v.slot target with key := none, mask := 0, failures := 0 }))) ∧
        (key.all (· == 0#8) = false → target = 0 → bit mask 1 = false → Answers (.keyChange a b) s (done stPerm v)) ∧
        (key.all (· == 0#8) = false → target ≠ 0 ∨ bit mask 1 = true →
          Answers (.keyChange a b) s (done stOk (v.setSlot target ⟨some key, mask, 0, 0, false⟩))))) := by
  intro target mask key v done clean
  have hown : ((s.counted a).vault.slot a.slot).mask = (s.vault.slot a.slot).mask := countedVault_mask s a
  have hanswer : ∀ {st : Nat} {w : Vault}, keyRule a.slot b (s.counted a) = (st, { s with vault := w }) →
      Answers (.keyChange a b) s (done st w) := fun hrule => auth_vault rfl h hrule
  refine ⟨fun hlen => hanswer (keyRule_length hlen), fun hlen => ⟨fun hclean => hanswer (keyRule_reserved hlen hclean),
    fun hclean htarget => hanswer (keyRule_target hlen hclean htarget),
    fun hclean htarget hmask => hanswer (keyRule_permission hlen hclean htarget (by rwa [hown])), fun hclean htarget hmask => ?_⟩⟩
  have hrule := keyRule_permitted (s := s.counted a) hlen hclean htarget (by rwa [hown])
  refine ⟨fun hzero htarget0 => hanswer (hrule.trans ((if_pos hzero).trans (if_pos htarget0))),
    fun hzero htarget0 => hanswer (hrule.trans ((if_pos hzero).trans (if_neg htarget0))), fun hkey htarget0 hbit => ?_, fun hkey hor => ?_⟩
  · have hloses : target = 0 ∧ (!bit mask 1) = true := ⟨htarget0, by rw [hbit]; rfl⟩
    exact hanswer (hrule.trans ((if_neg (ne_true_of_eq_false hkey)).trans (if_pos hloses)))
  · have hkeeps : ¬ (target = 0 ∧ (!bit mask 1) = true) := by
      rintro ⟨htarget0, hbit⟩
      exact hor.elim (fun hne => hne htarget0) fun hset => by simp [hset] at hbit
    exact hanswer (hrule.trans ((if_neg (ne_true_of_eq_false hkey)).trans (if_neg hkeeps)))

/-! ### Fuses (R381) -/

theorem fuseWrite_answers {s : State} {a : Auth} {code : Nat} (h : s.authentic a 0x530001 (leBytes 1 code)) :
    let done (st : Nat) (w : Vault) : State → Prop := State.authDone a 0x530001 (leBytes 1 code) st w s.flash [] s
    (code = 1 → Answers (.fuseWrite a code) s (done stOk { s.countedVault a with debugFuse := ⟨true, true, true⟩ })) ∧
    (code = 2 → Answers (.fuseWrite a code) s (done stOk { s.countedVault a with guestFuse := ⟨true, true, true⟩ })) ∧
    (code ≠ 1 → code ≠ 2 → Answers (.fuseWrite a code) s (done stBounds (s.countedVault a))) :=
  ⟨fun hcode => auth_vault rfl h (by rw [hcode]; rfl), fun hcode => auth_vault rfl h (by rw [hcode]; rfl),
    fun h1 h2 => auth_vault rfl h (if_neg (not_or.mpr ⟨h1, h2⟩))⟩

/-! ### Signed lists (R385) -/

/-- A list that may be written, is not too long, is signed twice and is newer than the one before is taken. -/
theorem listStatus_ok_iff {sigs : Sigs} {seq old : Nat} {list : List Byte} {s : State} :
    listStatus sigs seq old list s = stOk ↔
      s.dev.pwr.flashWp = false ∧ list.length ≤ 65536 ∧ sigs.ecdsa = true ∧ sigs.lms = true ∧ old < seq := by
  unfold listStatus
  split
  · next hwp => simp [hwp, stPerm, stOk]
  · split
    · next hlen => simp [Nat.not_le.mpr hlen, stBounds, stOk]
    · split
      · next hsigs =>
        refine iff_of_false (by decide) fun ⟨_, _, hecdsa, hlms, _⟩ => ?_
        simp [hecdsa, hlms] at hsigs
      · split
        · next hold => simp [Nat.not_lt.mpr hold, stPerm, stOk]
        · simp_all

theorem revocation_answers {s : State} {a : Auth} {sigs : Sigs} {seq : Nat} {list : List Byte} (h : s.authentic a 0x500201 list) :
    (listStatus sigs seq s.vault.revocationSeq list s = stOk →
      Answers (.revocationListWrite a sigs seq list) s
        (State.authDone a 0x500201 list stOk { s.countedVault a with revocation := list, revocationSeq := seq } s.flash [] s)) ∧
    (listStatus sigs seq s.vault.revocationSeq list s ≠ stOk →
      Answers (.revocationListWrite a sigs seq list) s
        (State.authDone a 0x500201 list (listStatus sigs seq s.vault.revocationSeq list s) (s.countedVault a) s.flash [] s)) := by
  have hstatus : listStatus sigs seq (s.counted a).vault.revocationSeq list (s.counted a) =
      listStatus sigs seq s.vault.revocationSeq list s :=
    congrArg (fun old => listStatus sigs seq old list s) (setSlot_others s.vault _ _).2.1
  refine ⟨fun hok => auth_vault rfl h ?_, fun hbad => auth_vault rfl h ?_⟩ <;> unfold revocationRule <;> dsimp only <;> rw [hstatus]
  · rw [if_pos hok, hok]
    rfl
  · rw [if_neg hbad]
    rfl

theorem partner_answers {s : State} {a : Auth} {sigs : Sigs} {seq : Nat} {partners : List PartnerRow} {list : List Byte}
    (h : s.authentic a 0x500301 list) :
    (listStatus sigs seq s.vault.partnerSeq list s = stOk →
      Answers (.partnerKeyListWrite a sigs seq partners list) s
        (State.authDone a 0x500301 list stOk { s.countedVault a with partners := partners, partnerList := list, partnerSeq := seq }
          s.flash [] s)) ∧
    (listStatus sigs seq s.vault.partnerSeq list s ≠ stOk →
      Answers (.partnerKeyListWrite a sigs seq partners list) s
        (State.authDone a 0x500301 list (listStatus sigs seq s.vault.partnerSeq list s) (s.countedVault a) s.flash [] s)) := by
  have hstatus : listStatus sigs seq (s.counted a).vault.partnerSeq list (s.counted a) = listStatus sigs seq s.vault.partnerSeq list s :=
    congrArg (fun old => listStatus sigs seq old list s) (setSlot_others s.vault _ _).2.2
  refine ⟨fun hok => auth_vault rfl h ?_, fun hbad => auth_vault rfl h ?_⟩ <;> unfold partnerRule <;> dsimp only <;> rw [hstatus]
  · rw [if_pos hok, hok]
    rfl
  · rw [if_neg hbad]
    rfl

/-! ### Quotes (R384) -/

theorem nonce_answers {s : State} {source reqId : Nat} {nonce : List Byte} (h : s.listens source 0x500401) :
    (nonce.length = 48 →
      Answers (.quoteNonce source reqId nonce) s fun t =>
        t.dev.ctl.quoteNonce = some nonce ∧ State.plainDone source reqId 0x500401 nonce stOk s.flash [] s t) ∧
    (nonce.length ≠ 48 →
      Answers (.quoteNonce source reqId nonce) s fun t =>
        t.dev.ctl = s.dev.ctl ∧ State.plainDone source reqId 0x500401 nonce stBounds s.flash [] s t) := by
  have hexec := onPlain_listens s source reqId 0x500401 nonce (nonceRule nonce) h
  refine ⟨fun hlen => ?_, fun hlen => ?_⟩
  · let kept : State := { s with dev := { s.dev with ctl := { s.dev.ctl with quoteNonce := some nonce } } }
    rw [show nonceRule nonce s = (stOk, kept) from if_neg (not_not_intro hlen)] at hexec
    obtain ⟨-, hctl⟩ := answer_control kept none (plainReq source reqId 0x500401 nonce) stOk
    exact ⟨_, hexec, congrArg CtlSt.quoteNonce hctl,
      plainDone_answer (t := kept) source reqId 0x500401 nonce stOk rfl rfl (onlyRegs_core [] ⟨rfl, rfl, rfl, rfl⟩) ringFree_nil⟩
  · rw [show nonceRule nonce s = (stBounds, s) from if_pos hlen] at hexec
    obtain ⟨-, hctl⟩ := answer_control s none (plainReq source reqId 0x500401 nonce) stBounds
    exact ⟨_, hexec, hctl, plainDone_answer source reqId 0x500401 nonce stBounds rfl rfl (onlyRegs_refl [] _) ringFree_nil⟩

theorem exec_quote {s : State} {source : Nat} (reqId : Nat) (h : s.listens source 0x500402) :
    exec (.quote source reqId) s = .next (s.quoteRead source reqId) := by
  obtain ⟨hpowered, hserves, hcarries⟩ := h
  exact if_pos (by rw [show s.dev.pwr.pwrgd = true from hpowered, hserves, hcarries]; rfl)

theorem quote_withoutNonce {s : State} {source reqId : Nat} (h : s.listens source 0x500402) (hnonce : s.dev.ctl.quoteNonce = none) :
    Answers (.quote source reqId) s (State.replied source (lopFrame 0x83 reqId 0x500402 0 stBounds [] 0) s.vault s.flash [] s) := by
  have hread : s.quoteRead source reqId =
      { s with dev := s.dev.reply source (lopFrame 0x83 reqId 0x500402 0 stBounds [] 0) } := by
    unfold State.quoteRead State.makeQuote
    rw [hnonce]
    rfl
  exact ⟨_, (exec_quote reqId h).trans (congrArg _ hread),
    replied_of_reply source _ s.pending s.vault s.flash rfl (onlyRegs_refl [] _) ringFree_nil⟩

theorem quote_signs {s : State} {source reqId : Nat} {n : List Byte} (h : s.listens source 0x500402) (hnonce : s.dev.ctl.quoteNonce = some n) :
    let body := s.quoteBody n
    let evidence := body ++ Config.sign s.vault.leavesUsed body
    Answers (.quote source reqId) s fun t =>
      t.dev.obj 0x500402 = evidence ∧
        State.replied source (lopFrame 0x83 reqId 0x500402 (b2n (decide (evidence.length ≤ 1400))) stOk (evidence.take 1400) 0)
          { s.vault with leavesUsed := s.vault.leavesUsed + 1 } s.flash [] s t := by
  intro body evidence
  have hobj : (s.dev.setObj 0x500402 evidence).obj 0x500402 = evidence := (obj_setObj _ _ _ _).trans (if_pos rfl)
  have hread : s.quoteRead source reqId =
      ⟨s.pending, { s.vault with leavesUsed := s.vault.leavesUsed + 1 }, s.flash, (s.dev.setObj 0x500402 evidence).reply source
        (lopFrame 0x83 reqId 0x500402 (b2n (decide (evidence.length ≤ 1400))) stOk (evidence.take 1400) 0)⟩ := by
    unfold State.quoteRead State.makeQuote
    rw [hnonce]
    dsimp only [Option.map_some]
    rw [hobj]
    unfold segReply
    rw [responseFrame_plain _ _ _ _ _ _ rfl, Nat.zero_add]
    rfl
  exact ⟨_, (exec_quote reqId h).trans (congrArg _ hread), (sameControl_obj (reply_control _ _ _) _).trans hobj,
    replied_of_reply source _ s.pending _ s.flash rfl (onlyRegs_core [] (setObj_core _ _ _)) ringFree_nil⟩

/-! ### The service state (R395, R397) -/

theorem service_answers {s : State} {diagnostic : Bool} (hs : s.powered) :
    (s.dev.ready = true →
      Answers (.serviceStateWrite diagnostic) s fun t =>
        t.dev.get F.RAS_CTRL_SVC = b2n diagnostic ∧ t.dev.get F.NUM_STATUS_SVC = b2n diagnostic ∧
          State.onlyFields [F.RAS_CTRL_SVC, F.NUM_STATUS_SVC] s t) ∧
    (s.dev.ready = false →
      Answers (.serviceStateWrite diagnostic) s fun t =>
        Dev.raisedOne s.dev t.dev evRegister stOk 0 [F.RAS_CTRL_SVC.off, b2n diagnostic] ∧ State.onlyFieldsEv regaccFields s t) := by
  have hexec : exec (.serviceStateWrite diagnostic) s = .next { s with dev := s.dev.serviceWrite (b2n diagnostic) } :=
    onDev_powered (fun d => d.serviceWrite (b2n diagnostic)) s hs
  refine ⟨fun hready => ?_, fun hready => ?_⟩
  · rw [show s.dev.serviceWrite (b2n diagnostic) = s.dev.setService (b2n diagnostic) from if_pos hready] at hexec
    have hbit : b2n diagnostic % 2 ^ 1 = b2n diagnostic := by cases diagnostic <;> rfl
    refine ⟨_, hexec, ?_, ?_, onlyFields_of_dev (onlyRegs_puts _ [(F.RAS_CTRL_SVC, b2n diagnostic), (F.NUM_STATUS_SVC, b2n diagnostic)])⟩
    · exact (get_put_ne _ _ _ _ (by decide)).trans ((get_put_same _ _ _).trans hbit)
    · exact (get_put_same _ _ _).trans hbit
  · rw [show s.dev.serviceWrite (b2n diagnostic) = s.dev.refuse F.RAS_CTRL_SVC.off (b2n diagnostic) from
      if_neg (ne_true_of_eq_false hready)] at hexec
    exact refuse_answers hexec

/-! ### The debug unlock and lock (R116, R395) -/

/-- The fields of the debug unlock and of the groups' debug state stand away from the events. -/
theorem ringFree_debug : RingFree (F.TGD_CTRL_UNLOCKED :: debugFields) :=
  ringFree_of_away (by unfold Fld.awayFromEvents; decide)

theorem ringFree_unlock : RingFree [F.TGD_CTRL_UNLOCKED] := ringFree_of_away (by unfold Fld.awayFromEvents; decide)

/-- A device with the debug block opened or closed, and the security event of it. -/
def Dev.debugSet (d : Dev) (v : Nat) : Dev := (d.put F.TGD_CTRL_UNLOCKED v).raise evSecurity stOk 0 []

theorem debugSet_frame {l : List Fld} {a b : Dev} (h : Dev.onlyRegs l a b) (hl : RingFree (F.TGD_CTRL_UNLOCKED :: l)) (v : Nat) :
    Dev.eventFrame (F.TGD_CTRL_UNLOCKED :: l) a (b.debugSet v) ∧ Dev.raisedOne a (b.debugSet v) evSecurity stOk 0 [] := by
  have hput : Dev.onlyRegs (F.TGD_CTRL_UNLOCKED :: l) a (b.put F.TGD_CTRL_UNLOCKED v) :=
    onlyRegs_trans (onlyRegs_mono h fun _ hf => List.mem_cons_of_mem _ hf) (onlyRegs_put _ _ _ _ List.mem_cons_self)
  exact ⟨eventFrame_raise hput hl _ _ _ _, raise_one_after hput hl _ _ _ _⟩

theorem debugSet_unlocked (d : Dev) (v source : Nat) (frame : List Byte) :
    ((d.debugSet v).reply source frame).on F.TGD_CTRL_UNLOCKED = (v % 2 ^ 1 == 1) := by
  unfold Dev.on
  rw [reply_get_low _ _ _ _ (by decide), Dev.debugSet, raise_get _ _ _ _ _ (by unfold Fld.awayFromEvents; decide), get_put_same]
  rfl

/-- An accepted request that sets the debug unlock. -/
theorem debugSet_answers {c : Instr} {s : State} {a : Auth} {value : List Byte} {rules : State → Nat × State} {d : Dev} {l : List Fld}
    {v : Nat} (hexec : exec c s = onAuth a 0x2F0101 value rules s) (h : s.authentic a 0x2F0101 value)
    (hrules : rules (s.counted a) = (stOk, { s.counted a with dev := d.debugSet v })) (hd : Dev.onlyRegs l s.dev d)
    (hl : RingFree (F.TGD_CTRL_UNLOCKED :: l)) :
    Answers c s fun t =>
      t.dev.on F.TGD_CTRL_UNLOCKED = (v % 2 ^ 1 == 1) ∧ (∃ e ∈ t.dev.events, e.cls = evSecurity ∧ e.seq = s.dev.get F.RAS_EVSEQ_NEXT) ∧
        State.authDone a 0x2F0101 value stOk (s.countedVault a) s.flash (F.TGD_CTRL_UNLOCKED :: l) s t := by
  obtain ⟨hframe, e, hevents, hcls, -, -, -, hseq⟩ := debugSet_frame hd hl v
  obtain ⟨t, ht, hdev, hdone⟩ := auth_answers hexec h hrules rfl rfl hframe
  refine ⟨t, ht, ?_, ⟨e, ?_, hcls, hseq⟩, hdone⟩
  · rw [hdev]
    exact debugSet_unlocked _ _ _ _
  · rw [hdev]
    exact reply_events _ _ (hevents ▸ List.mem_cons_self)

theorem unlock_answers {s : State} {a : Auth} (h : s.authentic a 0x2F0101 (boolByte true)) :
    (s.vault.debugFuse.blown = false →
      Answers (.debugUnlock a) s fun t =>
        t.dev.on F.TGD_CTRL_UNLOCKED = true ∧ (∃ e ∈ t.dev.events, e.cls = evSecurity ∧ e.seq = s.dev.get F.RAS_EVSEQ_NEXT) ∧
          State.authDone a 0x2F0101 (boolByte true) stOk (s.countedVault a) s.flash [F.TGD_CTRL_UNLOCKED] s t) ∧
    (s.vault.debugFuse.blown = true →
      Answers (.debugUnlock a) s (State.authDone a 0x2F0101 (boolByte true) stPerm (s.countedVault a) s.flash [] s)) := by
  have hfuse : (s.counted a).vault.debugFuse = s.vault.debugFuse := (setSlot_others s.vault _ _).1
  refine ⟨fun hintact => ?_, fun hblown => auth_vault rfl h (if_pos (by rw [hfuse, hblown]))⟩
  exact debugSet_answers (v := 1) rfl h (if_neg (by rw [hfuse, hintact]; exact Bool.false_ne_true)) (onlyRegs_refl [] s.dev) ringFree_unlock

/-- A lock that finds no group HALTED resumes none. -/
theorem debugLock_noneHalted {d : Dev} (h : ∀ (k : Nat) (g : Group), d.group k = some g → g.state ≠ gsHalted) :
    d.debugLock = d.debugUpdate.debugSet 0 := by
  have hresume : ∀ l : List Nat, d.onGroups (fun k g d => d.resumeGroup k g) l = d := by
    intro l
    induction l with
    | nil => rfl
    | cons k l ih =>
      match hk : d.group k with
      | none => rw [onGroups_none _ _ hk, ih]
      | some g => rw [onGroups_some _ _ hk, show d.resumeGroup k g = d from if_pos (h k g hk), ih]
  exact congrArg (fun d : Dev => d.debugUpdate.debugSet 0) (hresume _)

theorem lock_answers {s : State} {a : Auth} (h : s.authentic a 0x2F0101 (boolByte false))
    (hhalted : ∀ (k : Nat) (g : Group), s.dev.group k = some g → g.state ≠ gsHalted) :
    Answers (.debugLock a) s fun t =>
      t.dev.on F.TGD_CTRL_UNLOCKED = false ∧ (∃ e ∈ t.dev.events, e.cls = evSecurity ∧ e.seq = s.dev.get F.RAS_EVSEQ_NEXT) ∧
        State.authDone a 0x2F0101 (boolByte false) stOk (s.countedVault a) s.flash (F.TGD_CTRL_UNLOCKED :: debugFields) s t := by
  refine debugSet_answers (v := 0) rfl h ?_ (debugUpdate_frame s.dev) ringFree_debug
  exact congrArg (fun d => (stOk, { s.counted a with dev := d })) (debugLock_noneHalted hhalted)

/-- Settles O54: each write by the answer to an accepted request and the case of its rule; QUOTE and the service state by their own. -/
theorem keysFusesListsQuotesAndDebugLock : Obligations.KeysFusesListsQuotesAndDebugLock := by
  refine ⟨fun s a b h => keyChange_answers h, fun s a code h => fuseWrite_answers h,
    fun s a sigs seq list partners => ⟨fun h => ?_, fun h => ?_⟩,
    fun s source reqId nonce h => nonce_answers h,
    fun s source reqId h => ⟨fun hnonce => quote_withoutNonce h hnonce, fun n hnonce => quote_signs h hnonce⟩,
    fun s diagnostic hs => service_answers hs, fun s a h => unlock_answers h, fun s a h hhalted => lock_answers h hhalted⟩
  · obtain ⟨htaken, hrefused⟩ := revocation_answers (sigs := sigs) (seq := seq) h
    exact ⟨fun hfits => htaken (listStatus_ok_iff.mpr hfits), fun hfits => hrefused (mt listStatus_ok_iff.mp hfits)⟩
  · obtain ⟨htaken, hrefused⟩ := partner_answers (sigs := sigs) (seq := seq) (partners := partners) h
    exact ⟨fun hfits => htaken (listStatus_ok_iff.mpr hfits), fun hfits => hrefused (mt listStatus_ok_iff.mp hfits)⟩

end Sys2Proof.Machine
end

section
/-! PROOF. Group debug: HALT, RESUME, STEP, the block forms, TGD_RDATA, and the locked block (R116 to R119). -/

namespace Sys2Proof.Machine

open Sys2Proof

/-! ### A group that is written by a debug command -/

theorem setGroup_updated (d : Dev) (k : Nat) (g : Option Group) :
    (d.setGroup k g).debugUpdate.group k = g ∧ Dev.onlyRegs debugFields d (d.setGroup k g).debugUpdate :=
  ⟨(debugUpdate_group _ _).trans ((group_setGroup _ _ _ _).trans (if_pos rfl)),
    onlyRegs_trans (b := d.setGroup k g) (onlyRegs_core _ ⟨rfl, rfl, rfl, rfl⟩) (debugUpdate_frame _)⟩

/-- What a table of options reads is an entry of it. -/
theorem mem_of_table_get {α : Type} {t : Table (Option α)} {k : Nat} {v : α} (h : Table.get (fun _ => none) t k = some v) : (k, some v) ∈ t := by
  induction t with
  | nil => exact nomatch h
  | cons r t ih =>
    obtain ⟨j, w⟩ := r
    simp only [Table.get] at h
    split at h
    · exact nomatch h
    · split at h
      · next hj => exact List.mem_cons.mpr (.inl (by rw [hj, h]))
      · exact List.mem_cons_of_mem _ (ih h)

/-- While a scheduled partition has a halted group and ticks are on, DEBUG is held (R119). -/
theorem debugUpdate_held {d : Dev} {k : Nat} {g : Group} (hgroup : d.group k = some g) (hstate : gsHaltPending ≤ g.state)
    (hscheduled : d.keyScheduled k = true) (htick : d.tickState ≠ tsOff) : d.debugUpdate.held hcDebug = true := by
  have hentry := mem_of_table_get hgroup
  unfold Dev.debugUpdate
  dsimp only
  split
  · unfold Dev.held
    rw [get_put_ne _ _ _ _ (by decide)]
    exact assertHold_held d hcDebug (by decide)
  · next hnone => exact absurd (List.any_eq_true.mpr ⟨_, hentry, by simp [hstate, hscheduled]⟩) hnone

/-! ### TGD_CMD (R116, R117) -/

theorem tgdGroup_group {d : Dev} {k : Nat} {g : Group} (h : d.tgdGroup = some (k, g)) : d.group k = some g := by
  unfold Dev.tgdGroup at h
  split at h
  · exact nomatch h
  · obtain ⟨i, hi, hpair⟩ := Option.map_eq_some_iff.mp h
    obtain ⟨rfl, rfl⟩ := Prod.mk.inj hpair
    exact hi

section
variable {d : Dev} {k : Nat} {g : Group}

theorem tgdCommand_open {code : Nat} {allowed : Nat → Bool} (f : Nat → Group → Dev → Dev) (hsel : d.tgdGroup = some (k, g))
    (hopen : d.tgdOpen = true) (hallowed : allowed g.state = true) : d.tgdCommand code allowed f = (f k g d).debugUpdate := by
  unfold Dev.tgdCommand
  rw [hsel]
  exact if_pos (by rw [hopen, hallowed]; rfl)

theorem tgdCommand_locked (code : Nat) (allowed : Nat → Bool) (f : Nat → Group → Dev → Dev) (h : d.tgdOpen = false) :
    d.tgdCommand code allowed f = d.refuse F.TGD_CMD_CMD.off code := by
  unfold Dev.tgdCommand
  split
  · exact if_neg (by simp [h])
  · rfl

theorem tgdGroupWrite_open {off v : Nat} (f : Nat → Group → Dev → Dev) (hsel : d.tgdGroup = some (k, g)) (hopen : d.tgdOpen = true)
    (hstate : g.state = gsHalted) : d.tgdGroupWrite off v f = f k g d := by
  unfold Dev.tgdGroupWrite
  rw [hsel]
  exact if_pos (by rw [hopen, hstate]; rfl)

theorem tgdGroupWrite_locked (off v : Nat) (f : Nat → Group → Dev → Dev) (h : d.tgdOpen = false) :
    d.tgdGroupWrite off v f = d.refuse off v := by
  unfold Dev.tgdGroupWrite
  split
  · exact if_neg (by simp [h])
  · rfl

end

/-! ### HALT, RESUME and STEP of the selected group (R117, R119) -/

section
variable {s : State} {k : Nat} {g : Group} (hs : s.powered) (hsel : s.dev.tgdGroup = some (k, g)) (hopen : s.dev.tgdOpen = true)
include hs hsel hopen

theorem tgdHalt_halts (hstate : g.state = gsRunning) :
    Answers .tgdHalt s fun t =>
      t.dev.group k = some { g with state := gsHaltPending } ∧ State.onlyFields debugFields s t ∧
        (s.dev.keyScheduled k = true → s.dev.tickState ≠ tsOff → t.dev.held hcDebug = true) := by
  have hhalt : s.dev.tgdHalt = (s.dev.setGroup k (some { g with state := gsHaltPending })).debugUpdate := by
    unfold Dev.tgdHalt
    rw [tgdCommand_open _ hsel hopen (by rw [hstate]; rfl)]
    exact congrArg Dev.debugUpdate (if_pos hstate)
  obtain ⟨hgroup, hframe⟩ := setGroup_updated s.dev k (some { g with state := gsHaltPending })
  refine answers_onDev (f := Dev.tgdHalt) hs rfl ?_
  rw [hhalt]
  exact ⟨hgroup, onlyFields_of_dev hframe,
    debugUpdate_held (g := { g with state := gsHaltPending }) ((group_setGroup _ _ _ _).trans (if_pos rfl)) le_rfl⟩

theorem tgdResume_resumes (hstate : g.state = gsHalted) (htrap : g.trap = 0) :
    Answers .tgdResume s fun t => t.dev.group k = some { g with state := gsRunning }.settled ∧ State.onlyFields debugFields s t := by
  have hresume : s.dev.tgdResume = (s.dev.setGroup k (some { g with state := gsRunning }.settled)).debugUpdate := by
    unfold Dev.tgdResume
    rw [tgdCommand_open _ hsel hopen (by rw [hstate]; rfl)]
    exact congrArg Dev.debugUpdate ((if_neg (not_not_intro hstate)).trans (if_pos htrap))
  obtain ⟨hgroup, hframe⟩ := setGroup_updated s.dev k (some { g with state := gsRunning }.settled)
  refine answers_onDev (f := Dev.tgdResume) hs rfl ?_
  rw [hresume]
  exact ⟨hgroup, onlyFields_of_dev hframe⟩

theorem tgdStep_steps (hstate : g.state = gsHalted) :
    Answers .tgdStep s fun t =>
      t.dev.group k = some { g with state := gsStepping, stepped := false, trap := 0, trapAddr := 0 }.settled ∧
        State.onlyFields debugFields s t := by
  have hstep : s.dev.tgdStep = (s.dev.stepGroup k g).debugUpdate := by
    unfold Dev.tgdStep
    exact tgdCommand_open _ hsel hopen (by rw [hstate]; rfl)
  obtain ⟨hgroup, hframe⟩ :=
    setGroup_updated s.dev k (some { g with state := gsStepping, stepped := false, trap := 0, trapAddr := 0 }.settled)
  refine answers_onDev (f := Dev.tgdStep) hs rfl ?_
  rw [hstep]
  exact ⟨hgroup, onlyFields_of_dev hframe⟩

end

/-! ### Groups at an instruction boundary (R117, R119) -/

section
variable {s : State} {r : GroupRef} {g : Group} (hs : s.powered) (hgroup : s.dev.group (groupKey r.cluster r.slot) = some g)
  (hboundary : g.atBoundary = true)
include hs hgroup hboundary

theorem groupHalted_halts (hstate : g.state = gsHaltPending) :
    Answers (.groupHalted r) s fun t =>
      t.dev.group (groupKey r.cluster r.slot) = some { g with state := gsHalted } ∧ State.onlyFields debugFields s t := by
  have hhalted : s.dev.groupHalted r =
      (s.dev.setGroup (groupKey r.cluster r.slot) (some { g with state := gsHalted })).debugUpdate := by
    unfold Dev.groupHalted
    rw [hgroup]
    exact if_pos ⟨hstate, hboundary⟩
  obtain ⟨hset, hframe⟩ := setGroup_updated s.dev (groupKey r.cluster r.slot) (some { g with state := gsHalted })
  refine answers_onDev (f := fun d => d.groupHalted r) hs rfl ?_
  dsimp only
  rw [hhalted]
  exact ⟨hset, onlyFields_of_dev hframe⟩

theorem stepDone_halts (hstate : g.state = gsStepping) (hstepped : g.stepped = true) :
    Answers (.stepDone r) s fun t =>
      t.dev.group (groupKey r.cluster r.slot) = some { g with state := gsHalted, stepped := false } ∧ State.onlyFields debugFields s t := by
  have hdone : s.dev.stepDone r =
      (s.dev.setGroup (groupKey r.cluster r.slot) (some { g with state := gsHalted, stepped := false })).debugUpdate := by
    unfold Dev.stepDone
    rw [hgroup]
    exact if_pos ⟨hstate, hstepped, hboundary⟩
  obtain ⟨hset, hframe⟩ := setGroup_updated s.dev (groupKey r.cluster r.slot) (some { g with state := gsHalted, stepped := false })
  refine answers_onDev (f := fun d => d.stepDone r) hs rfl ?_
  dsimp only
  rw [hdone]
  exact ⟨hset, onlyFields_of_dev hframe⟩

end

/-! ### The groups of a block (R117) -/

/-- `f` takes a group `h` of which `P` holds to `F h` in its slot, and touches nothing else. -/
def StepsGroup (P : Group → Prop) (F : Group → Group) (f : Nat → Group → Dev → Dev) : Prop :=
  ∀ (d : Dev) (k : Nat) (h : Group), P h → d.group k = some h →
    (∀ j : Nat, (f k h d).group j = if j = k then some (F h) else d.group j) ∧
      ∃ gs : Table (Option Group), f k h d = { d with clus := { d.clus with groups := gs } }

/-- Taking every group of a list so, be it listed once or more often. -/
theorem stepsGroups {P : Group → Prop} {F : Group → Group} {f : Nat → Group → Dev → Dev} (hf : StepsGroup P F f)
    (hP : ∀ h : Group, P h → P (F h)) (hF : ∀ h : Group, P h → F (F h) = F h) (l : List Nat) :
    ∀ d : Dev, (∀ (j : Nat) (h : Group), j ∈ l → d.group j = some h → P h) →
      (∀ (j : Nat) (h : Group), j ∈ l → d.group j = some h → (d.onGroups f l).group j = some (F h)) ∧
        (∀ j : Nat, j ∉ l → (d.onGroups f l).group j = d.group j) ∧
          ∃ gs : Table (Option Group), d.onGroups f l = { d with clus := { d.clus with groups := gs } } := by
  induction l with
  | nil => exact fun d _ => ⟨fun j h hj => (nomatch hj), fun j _ => rfl, d.clus.groups, rfl⟩
  | cons k l ih =>
    intro d hd
    match hk : d.group k with
    | none =>
      rw [onGroups_none f l hk]
      obtain ⟨hin, hout, hframe⟩ := ih d fun j h hj => hd j h (List.mem_cons_of_mem _ hj)
      refine ⟨fun j h hj hh => ?_, fun j hj => hout j fun hmem => hj (List.mem_cons_of_mem _ hmem), hframe⟩
      rcases List.mem_cons.mp hj with rfl | hmem
      · exact nomatch hk.symm.trans hh
      · exact hin j h hmem hh
    | some g =>
      rw [onGroups_some f l hk]
      have hPg : P g := hd k g List.mem_cons_self hk
      obtain ⟨hstep, gs, honly⟩ := hf d k g hPg hk
      have hafter : ∀ (j : Nat) (h : Group), d.group j = some h → (f k g d).group j = some (if j = k then F h else h) := by
        intro j h hh
        rw [hstep]
        split
        · next hj =>
          rw [hj, hk] at hh
          rw [Option.some.inj hh]
        · exact hh
      obtain ⟨hin, hout, gs', hframe⟩ := ih (f k g d) fun j h hj hh => by
        rw [hstep] at hh
        split at hh
        · exact Option.some.inj hh ▸ hP g hPg
        · exact hd j h (List.mem_cons_of_mem _ hj) hh
      refine ⟨fun j h hj hh => ?_, fun j hj => ?_, gs', by rw [hframe, honly]⟩
      · by_cases hmem : j ∈ l
        · rw [hin j _ hmem (hafter j h hh)]
          split
          · rw [hF h (hd j h hj hh)]
          · rfl
        · obtain rfl : j = k := (List.mem_cons.mp hj).resolve_right hmem
          rw [hout j hmem, hafter j h hh, if_pos rfl]
      · obtain ⟨hne, hmem⟩ := not_or.mp (mt List.mem_cons.mpr hj)
        rw [hout j hmem, hstep, if_neg hne]

theorem blockGroups_onGroups {d : Dev} {g : Group} {b : Block} (f : Nat → Group → Dev → Dev) (hblock : d.blockOf g.launch g.block = some b) :
    d.blockGroups g f = d.onGroups f b.groups := by
  unfold Dev.blockGroups
  rw [hblock]
  rfl

/-- The group after a HALT. -/
def Group.haltAsked (h : Group) : Group := if h.state = gsRunning then { h with state := gsHaltPending } else h

/-- The group after a RESUME that no trap holds. -/
def Group.resumed (h : Group) : Group := if h.state = gsHalted then { h with state := gsRunning }.settled else h

theorem haltAsked_idem (h : Group) : h.haltAsked.haltAsked = h.haltAsked := by
  have hstate : h.haltAsked.state ≠ gsRunning := by
    unfold Group.haltAsked
    split
    · exact show gsHaltPending ≠ gsRunning by decide
    · assumption
  exact if_neg hstate

theorem haltGroup_steps : StepsGroup (fun _ => True) Group.haltAsked fun k h d => d.haltGroup k h := by
  intro d k h _ hk
  dsimp only
  unfold Dev.haltGroup Group.haltAsked
  split
  · exact ⟨fun j => group_setGroup d k j _, _, rfl⟩
  · refine ⟨fun j => ?_, d.clus.groups, rfl⟩
    split
    · next hj => rw [hj, hk]
    · rfl

/-- Settling keeps the state and the threads of a live group. -/
theorem settle_state (n : Nat) : ∀ g : Group, g.live ≠ 0 → (Group.settle n g).state = g.state := by
  induction n with
  | zero => exact fun g _ => rfl
  | succ n ih =>
    intro g hlive
    unfold Group.settle
    rw [if_neg hlive]
    split
    · rfl
    · split
      · rfl
      · split
        · exact ih _ hlive
        · exact ih _ hlive

/-- No trap holds the group where it is HALTED, and it has threads to go on with. -/
def Group.mayResume (h : Group) : Prop := h.state = gsHalted → h.trap = 0 ∧ h.live ≠ 0

theorem resumed_state {h : Group} (hmay : h.mayResume) : h.resumed.state ≠ gsHalted := by
  unfold Group.resumed
  split
  · next hstate =>
    rw [Group.settled, settle_state 2000 { h with state := gsRunning } (hmay hstate).2]
    exact show gsRunning ≠ gsHalted by decide
  · assumption

theorem resumeGroup_steps : StepsGroup Group.mayResume Group.resumed fun k h d => d.resumeGroup k h := by
  intro d k h hmay hk
  dsimp only
  unfold Dev.resumeGroup Group.resumed
  by_cases hstate : h.state = gsHalted
  · rw [if_neg (not_not_intro hstate), if_pos (hmay hstate).1, if_pos hstate]
    exact ⟨fun j => group_setGroup d k j _, _, rfl⟩
  · rw [if_pos hstate, if_neg hstate]
    refine ⟨fun j => ?_, d.clus.groups, rfl⟩
    split
    · next hj => rw [hj, hk]
    · rfl

section
variable {s : State} {k : Nat} {g : Group} {b : Block} (hs : s.powered) (hsel : s.dev.tgdGroup = some (k, g)) (hopen : s.dev.tgdOpen = true)
  (hstate : g.state ≠ gsEmpty) (hblock : s.dev.blockOf g.launch g.block = some b)
include hs hsel hopen hstate hblock

/-- A command on every group of the selected group's block. -/
theorem tgdBlock_answers {P : Group → Prop} {F : Group → Group} {f : Nat → Group → Dev → Dev} {c : Instr} {code : Nat}
    (hexec : exec c s = onDev (fun d => d.tgdCommand code (· != gsEmpty) fun _ g d => d.blockGroups g f) s) (hf : StepsGroup P F f)
    (hP : ∀ h : Group, P h → P (F h)) (hF : ∀ h : Group, P h → F (F h) = F h)
    (hall : ∀ (j : Nat) (h : Group), j ∈ b.groups → s.dev.group j = some h → P h) :
    Answers c s fun t =>
      (∀ (j : Nat) (h : Group), j ∈ b.groups → s.dev.group j = some h → t.dev.group j = some (F h)) ∧
        (∀ j : Nat, j ∉ b.groups → t.dev.group j = s.dev.group j) ∧ State.onlyFields debugFields s t := by
  obtain ⟨hin, hout, gs, honly⟩ := stepsGroups hf hP hF b.groups s.dev hall
  rw [← blockGroups_onGroups f hblock] at hin hout honly
  refine answers_onDev hs hexec ?_
  rw [tgdCommand_open _ hsel hopen (by simpa using hstate)]
  have hframe : Dev.onlyRegs debugFields s.dev (s.dev.blockGroups g f) := by
    rw [honly]
    exact onlyRegs_core _ ⟨rfl, rfl, rfl, rfl⟩
  exact ⟨fun j h hj hh => (debugUpdate_group _ _).trans (hin j h hj hh), fun j hj => (debugUpdate_group _ _).trans (hout j hj),
    onlyFields_of_dev (onlyRegs_trans hframe (debugUpdate_frame _))⟩

theorem tgdBlockStop_stops : Answers .tgdBlockStop s fun t =>
    (∀ (j : Nat) (h : Group), j ∈ b.groups → s.dev.group j = some h → t.dev.group j = some h.haltAsked) ∧
      (∀ j : Nat, j ∉ b.groups → t.dev.group j = s.dev.group j) ∧ State.onlyFields debugFields s t :=
  tgdBlock_answers hs hsel hopen hstate hblock (code := 4) rfl haltGroup_steps (fun _ _ => trivial) (fun h _ => haltAsked_idem h)
    fun _ _ _ _ => trivial

theorem tgdBlockResume_resumes (hmay : ∀ (j : Nat) (h : Group), j ∈ b.groups → s.dev.group j = some h → h.mayResume) :
    Answers .tgdBlockResume s fun t =>
      (∀ (j : Nat) (h : Group), j ∈ b.groups → s.dev.group j = some h → t.dev.group j = some h.resumed) ∧
        (∀ j : Nat, j ∉ b.groups → t.dev.group j = s.dev.group j) ∧ State.onlyFields debugFields s t :=
  tgdBlock_answers hs hsel hopen hstate hblock (code := 5) rfl resumeGroup_steps (fun _ h hstate => absurd hstate (resumed_state h))
    (fun _ h => if_neg (resumed_state h)) hmay

end

/-! ### Registers of a halted group (R118) -/

theorem ureg_setUreg (d : Dev) (k : Nat) (g : Group) (r v : Nat) : (d.setUreg k r v).ureg k g r = v % 2 ^ 64 := table_get_ins_same _ _ _ _

theorem tgdSetData_core (d : Dev) (k : Nat) (g : Group) (v : Nat) : Dev.sameCore d (d.tgdSetData k g v) := by
  unfold Dev.tgdSetData
  dsimp only
  split
  · split <;> exact ⟨rfl, rfl, rfl, rfl⟩
  · split <;> exact ⟨rfl, rfl, rfl, rfl⟩
  · exact ⟨rfl, rfl, rfl, rfl⟩
  · exact ⟨rfl, rfl, rfl, rfl⟩

theorem tgdSetData_vector {d : Dev} {k v : Nat} {g : Group} (hspace : d.get F.TGD_RSEL_SPACE = 0) (hindex : d.get F.TGD_RSEL_INDEX < g.regs) :
    d.tgdSetData k g v = d.setVreg k (d.get F.TGD_RSEL_THREAD) (d.get F.TGD_RSEL_INDEX) v := by
  unfold Dev.tgdSetData
  dsimp only
  rw [hspace]
  exact if_pos hindex

theorem tgdSetData_uniform {d : Dev} {k v : Nat} {g : Group} (hspace : d.get F.TGD_RSEL_SPACE = 1) (hindex : d.get F.TGD_RSEL_INDEX < 64) :
    d.tgdSetData k g v = d.setUreg k (d.get F.TGD_RSEL_INDEX) v := by
  unfold Dev.tgdSetData
  dsimp only
  rw [hspace]
  exact if_pos hindex

theorem tgdRdata_writes {s : State} {k : Nat} {g : Group} {v : Word} (hs : s.powered) (hsel : s.dev.tgdGroup = some (k, g))
    (hopen : s.dev.tgdOpen = true) (hstate : g.state = gsHalted) :
    Answers (.tgdRdataWrite v) s fun t =>
      (s.dev.get F.TGD_RSEL_SPACE = 0 → s.dev.get F.TGD_RSEL_INDEX < g.regs →
        t.dev.vreg k g (s.dev.get F.TGD_RSEL_THREAD) (s.dev.get F.TGD_RSEL_INDEX) = v.toNat % 2 ^ 32) ∧
        (s.dev.get F.TGD_RSEL_SPACE = 1 → s.dev.get F.TGD_RSEL_INDEX < 64 →
          t.dev.ureg k g (s.dev.get F.TGD_RSEL_INDEX) = v.toNat % 2 ^ 64) ∧ State.onlyFields [] s t := by
  refine answers_onDev (f := fun d => d.tgdDataWrite v.toNat) hs rfl ?_
  dsimp only
  rw [Dev.tgdDataWrite, tgdGroupWrite_open _ hsel hopen hstate]
  refine ⟨fun hspace hindex => ?_, fun hspace hindex => ?_, onlyFields_of_dev (onlyRegs_core [] (tgdSetData_core _ _ _ _))⟩
  · rw [tgdSetData_vector hspace hindex, vreg_setVreg, if_pos rfl]
  · rw [tgdSetData_uniform hspace hindex, ureg_setUreg]

/-! ### The locked block (R116) -/

theorem refuse_clus (d : Dev) (off v : Nat) : (d.refuse off v).clus = d.clus := by
  obtain ⟨_, _, _, _, _, _, _, _, h⟩ := raise_sameButEvent (d.regaccNoted off) evRegister stOk 0 [off, v]
  rw [refuse_eq, h]
  rfl

theorem tgd_locked {s : State} {v : Word} {c : Instr} (hs : s.powered) (hlocked : s.dev.tgdOpen = false)
    (hc : c ∈ [Instr.tgdHalt, .tgdResume, .tgdStep, .tgdBlockStop, .tgdBlockResume, .tgdRdataWrite v]) :
    ∃ off code : Nat, exec c s = .next { s with dev := s.dev.refuse off code } := by
  have hcommand : ∀ (f : Dev → Dev) (code : Nat) (allowed : Nat → Bool) (g : Nat → Group → Dev → Dev),
      f s.dev = s.dev.tgdCommand code allowed g → ∃ off code : Nat, onDev f s = .next { s with dev := s.dev.refuse off code } :=
    fun f code allowed g hf => ⟨_, code, by rw [onDev_powered f s hs, hf, tgdCommand_locked _ _ _ hlocked]⟩
  simp only [List.mem_cons, List.not_mem_nil, or_false] at hc
  rcases hc with rfl | rfl | rfl | rfl | rfl | rfl
  · exact hcommand Dev.tgdHalt _ _ _ rfl
  · exact hcommand Dev.tgdResume _ _ _ rfl
  · exact hcommand Dev.tgdStep _ _ _ rfl
  · exact hcommand Dev.tgdBlockStop _ _ _ rfl
  · exact hcommand Dev.tgdBlockResume _ _ _ rfl
  · exact ⟨F.TGD_RDATA_DATA.off, v.toNat, (onDev_powered (fun d => d.tgdDataWrite v.toNat) s hs).trans
      (congrArg (fun d => Host.Outcome.next { s with dev := d }) (tgdGroupWrite_locked _ _ _ hlocked))⟩

/-- Settles O26: the commands on one group by the group they write, the block forms by a step over the block's groups, the locked block
by the refusal. -/
theorem groupDebugCommands : Obligations.GroupDebugCommands := by
  refine ⟨fun s k g hs hsel hopen => ⟨tgdHalt_halts hs hsel hopen, tgdResume_resumes hs hsel hopen, tgdStep_steps hs hsel hopen⟩,
    fun s r g hs hgroup hboundary => ⟨groupHalted_halts hs hgroup hboundary, stepDone_halts hs hgroup hboundary⟩,
    fun s k g b hs hsel hopen hstate hblock =>
      ⟨tgdBlockStop_stops hs hsel hopen hstate hblock, tgdBlockResume_resumes hs hsel hopen hstate hblock⟩,
    fun s k g v hs hsel hopen hstate => tgdRdata_writes hs hsel hopen hstate, fun s v c hs hlocked hc => ?_⟩
  obtain ⟨off, code, hexec⟩ := tgd_locked hs hlocked hc
  obtain ⟨t, ht, ⟨e, hevents, hcls, -⟩, hframe⟩ := refuse_answers hexec
  obtain rfl := Host.Outcome.next.inj (hexec.symm.trans ht)
  exact ⟨_, hexec, ⟨e, hevents, hcls⟩, refuse_clus s.dev off code, hframe⟩

end Sys2Proof.Machine
end

section
/-! PROOF. Floating and conversion instructions of thread groups, and NFLAGS_WRITE: the registers of each thread, the cluster's flags
(R120, R133, R135, R139, R147 to R151). -/

namespace Sys2Proof.Machine

open Sys2Proof

/-! ### Words into vector registers -/

/-- Writes `n` words in a thread's registers from `r`. -/
def Dev.setWords (d : Dev) (k t r n : Nat) (w : Nat → Nat) : Dev := (List.range n).foldl (fun d i => d.setVreg k t (r + i) (w i)) d

/-- Writes each thread's `n` words. -/
def Dev.setThreads (d : Dev) (k r n : Nat) (w : Nat → Nat → Nat) (ts : List Nat) : Dev := ts.foldl (fun d t => d.setWords k t r n (w t)) d

theorem setWords_succ (d : Dev) (k t r n : Nat) (w : Nat → Nat) :
    d.setWords k t r (n + 1) w = (d.setWords k t r n w).setVreg k t (r + n) (w n) := by
  simp [Dev.setWords, List.range_succ]

theorem setWords_congr (d : Dev) (k t r : Nat) {n : Nat} {w v : Nat → Nat} (h : ∀ i : Nat, i < n → w i = v i) :
    d.setWords k t r n w = d.setWords k t r n v :=
  List.foldl_ext _ _ _ fun e i hi => by rw [h i (List.mem_range.mp hi)]

/-- A value of 4 or 8 bytes is written as its words. -/
theorem setVval_eq_setWords (d : Dev) (k t r v : Nat) {n : Nat} (hn : n = 4 ∨ n = 8) :
    d.setVval k t r n v = d.setWords k t r (regsOf n) fun i => v / 2 ^ (32 * i) := by
  obtain rfl | rfl := hn
  · simp [Dev.setVval, Dev.setWords, regsOf, Dev.setVreg]
  · simp [Dev.setVval, Dev.setWords, regsOf, List.range_succ]

theorem setWords_only (d : Dev) (k t r n : Nat) (w : Nat → Nat) :
    ∃ m : Table Nat, d.setWords k t r n w = { d with clus := { d.clus with vregs := m } } := by
  induction n with
  | zero => exact ⟨d.clus.vregs, rfl⟩
  | succ n ih =>
    obtain ⟨m, hm⟩ := ih
    rw [setWords_succ, hm]
    exact ⟨_, rfl⟩

theorem setThreads_only (k r n : Nat) (w : Nat → Nat → Nat) (ts : List Nat) : ∀ d : Dev,
    ∃ m : Table Nat, d.setThreads k r n w ts = { d with clus := { d.clus with vregs := m } } := by
  induction ts with
  | nil => exact fun d => ⟨d.clus.vregs, rfl⟩
  | cons t ts ih =>
    intro d
    obtain ⟨m, hm⟩ := setWords_only d k t r n (w t)
    obtain ⟨m', hm'⟩ := ih (d.setWords k t r n (w t))
    exact ⟨m', hm'.trans (by rw [hm])⟩

section
variable (k : Nat) (g : Group) {r n t' r' : Nat} (hr' : r' < 256)
include hr'

/-- What a register reads after the words of thread `t` are written. -/
theorem vreg_setWords (d : Dev) (t : Nat) (w : Nat → Nat) (hr : r + n ≤ 256) : (d.setWords k t r n w).vreg k g t' r' =
    if t' = t ∧ r ≤ r' ∧ r' < r + n then w (r' - r) % 2 ^ 32 else d.vreg k g t' r' := by
  induction n with
  | zero => exact (if_neg (by omega)).symm
  | succ n ih =>
    have hkey : vregKey k t' r' = vregKey k t (r + n) ↔ t' = t ∧ r' = r + n := vregKey_inj hr' (by omega)
    rw [setWords_succ, vreg_setVreg, ih (by omega)]
    by_cases hlast : t' = t ∧ r' = r + n
    · rw [if_pos (hkey.mpr hlast), if_pos (by omega), hlast.2, Nat.add_sub_cancel_left]
    · rw [if_neg (mt hkey.mp hlast)]
      exact if_congr (by omega) rfl rfl

/-- Each thread that writes has its words, whatever the threads before and after it write. -/
theorem vreg_setThreads (w : Nat → Nat → Nat) (hr : r + n ≤ 256) (ts : List Nat) : ∀ d : Dev, (d.setThreads k r n w ts).vreg k g t' r' =
    if t' ∈ ts ∧ r ≤ r' ∧ r' < r + n then w t' (r' - r) % 2 ^ 32 else d.vreg k g t' r' := by
  induction ts with
  | nil => exact fun d => (if_neg fun h => nomatch h.1).symm
  | cons t ts ih =>
    intro d
    refine (ih (d.setWords k t r n (w t))).trans ?_
    rw [vreg_setWords k g hr' d t (w t) hr]
    by_cases hrest : t' ∈ ts ∧ r ≤ r' ∧ r' < r + n
    · rw [if_pos hrest, if_pos (hrest.imp_left (List.mem_cons_of_mem _))]
    · rw [if_neg hrest]
      by_cases hhere : t' = t ∧ r ≤ r' ∧ r' < r + n
      · obtain ⟨rfl, hin⟩ := hhere
        rw [if_pos ⟨rfl, hin⟩, if_pos ⟨List.mem_cons_self, hin⟩]
      · rw [if_neg hhere, if_neg]
        rintro ⟨hmem, hin⟩
        exact (List.mem_cons.mp hmem).elim (fun h => hhere ⟨h, hin⟩) fun h => hrest ⟨h, hin⟩

end

/-- The words of a value of 4 or 8 bytes read back as the value. -/
theorem vval_of_words {d : Dev} {k t r n v : Nat} {g : Group} (hn : n = 4 ∨ n = 8)
    (h : ∀ i : Nat, i < regsOf n → d.vreg k g t (r + i) = v / 2 ^ (32 * i) % 2 ^ 32) : d.vval k g t r n = v % 2 ^ (8 * n) := by
  have hlow : d.vreg k g t r = v % 2 ^ 32 := by simpa using h 0 (regsOf_pos n)
  obtain rfl | rfl := hn
  · simp [Dev.vval, hlow]
  · have hhigh := h 1 (by decide)
    simp only [Dev.vval, if_pos, hlow, hhigh]
    omega

/-! ### The cluster's flags -/

/-- A capture arms itself anew and touches nothing else of the clusters. -/
theorem capture_clus (d : Dev) (phys e cause loc pc : Nat) :
    ∃ m : Table Bool, (d.capture phys e cause loc pc).clus = { d.clus with ficArmed := m } := by
  unfold Dev.capture
  split
  · exact ⟨d.clus.ficArmed, rfl⟩
  · extract_lets sched clus armed noted
    have hnoted : noted.clus = armed.clus := puts_clus _ armed
    split
    · exact ⟨_, (raise_clus noted _ _ _ _).trans hnoted⟩
    · exact ⟨_, hnoted⟩

theorem setFlags_frame (d : Dev) (phys e fl : Nat) : Dev.onlyRegs [numFlags phys e] d (d.setFlags phys e fl) :=
  onlyRegs_put _ _ _ _ List.mem_cons_self

section
variable (d : Dev) (x : Gx) (cause : Nat) (fl : List (Nat × Nat))

/-- The flags of a group's results touch no group and no register of one. -/
theorem groupFlags_clus : ∃ m : Table Bool, (d.groupFlags x cause fl).clus = { d.clus with ficArmed := m } := by
  unfold Dev.groupFlags
  extract_lets all flagged
  have hflagged : flagged.clus = d.clus := by
    unfold flagged
    split <;> rfl
  split
  · obtain ⟨m, hm⟩ := capture_clus flagged x.phys 4 cause (groupLoc x _) x.g.pc
    exact ⟨m, hm.trans (by rw [hflagged])⟩
  · exact ⟨d.clus.ficArmed, hflagged⟩

/-- Where no thread raised NV nothing is captured: the flags are all that is written (R147, R149). -/
theorem groupFlags_frame (hfl : ∀ q ∈ fl, hasNV q.2 = false) : Dev.onlyRegs [numFlags x.phys 4] d (d.groupFlags x cause fl) := by
  have hfind : fl.find? (fun q => hasNV q.2) = none := List.find?_eq_none.mpr fun q hq => by simp [hfl q hq]
  unfold Dev.groupFlags
  rw [hfind]
  dsimp only
  split
  · exact onlyRegs_refl _ d
  · exact setFlags_frame d _ _ _

end

/-! ### An instruction that writes a result for each active thread -/

/-- What an instruction does that writes `n` words from `dst` for each active thread and sets the flags of the results. -/
def Dev.vectorDone (d : Dev) (x : Gx) (cause dst n : Nat) (w : Nat → Nat → Nat) (fl : Nat → Nat) : Dev :=
  (d.setThreads x.k dst n w (threadsOf x.g.active)).groupFlags x cause ((threadsOf x.g.active).map fun t => (t, fl t))

/-- The model writes the results of a list of threads by a step for each: the same as writing their words. -/
theorem vectorDone_of_steps {α : Type} {d : Dev} {x : Gx} {cause dst n : Nat} {res : Nat → α} {step : Dev → Nat × α → Dev}
    {w : α → Nat → Nat} {fl : α → Nat} (hstep : ∀ (e : Dev) (q : Nat × α), step e q = e.setWords x.k q.1 dst n (w q.2)) :
    ((((threadsOf x.g.active).map fun t => (t, res t)).foldl step d).groupFlags x cause
      (((threadsOf x.g.active).map fun t => (t, res t)).map fun q => (q.1, fl q.2))) =
      d.vectorDone x cause dst n (fun t => w (res t)) fun t => fl (res t) := by
  simp only [Dev.vectorDone, Dev.setThreads, List.foldl_map, List.map_map, hstep, Function.comp_def]

/-- The results stand in the registers of the active threads, all others stay, and without NV the flags are all that is written. The
instruction may have drawn free values before it writes, which moves `fresh` alone (notes/assumptions/4.md). -/
theorem vectorInstr_answers {c : Instr} {s : State} {d : Dev} {r : GroupRef} {x : Gx} {f : Gx → Dev → IRes} {cause fresh dst n : Nat}
    {w : Nat → Nat → Nat} {fl : Nat → Nat} (hs : s.powered) (hruns : s.dev.runs r x) (hclear : x.clearAt (x.g.pc + instrBytes))
    (hexec : exec c s = onDev (Dev.instr r f) s) (hd : d = { s.dev with fresh := fresh })
    (hf : f x s.dev = .done (d.vectorDone x cause dst n w fl)) (hdst : dst + n ≤ 256) :
    Answers c s fun t => t.dev.advanced x ∧
      (∀ th ∈ threadsOf x.g.active, ∀ i : Nat, i < n → t.dev.vreg x.k x.g th (dst + i) = w th i % 2 ^ 32) ∧
      Dev.sameVregsBut s.dev t.dev x dst n ∧
      ((∀ th ∈ threadsOf x.g.active, hasNV (fl th) = false) → State.onlyFields (numFlags x.phys 4 :: debugFields) s t) := by
  subst hd
  let e := ({ s.dev with fresh := fresh } : Dev).setThreads x.k dst n w (threadsOf x.g.active)
  obtain ⟨m, hm⟩ : ∃ m : Table Nat, e = { s.dev with fresh := fresh, clus := { s.dev.clus with vregs := m } } :=
    setThreads_only x.k dst n w _ _
  obtain ⟨a, ha⟩ : ∃ a : Table Bool, (Dev.vectorDone { s.dev with fresh := fresh } x cause dst n w fl).clus = { e.clus with ficArmed := a } :=
    groupFlags_clus e x cause _
  have hwent := instr_done hruns hclear hf (by rw [ha, hm])
  obtain ⟨-, -, hclus⟩ := wentOn_clus hwent
  obtain ⟨hadv, -, hdebug, -⟩ := hwent
  have hread : ∀ th i : Nat, i < 256 → (s.dev.instr r f).vreg x.k x.g th i =
      if th ∈ threadsOf x.g.active ∧ dst ≤ i ∧ i < dst + n then w th (i - dst) % 2 ^ 32 else s.dev.vreg x.k x.g th i := fun th i hi =>
    (vreg_of_clus (a := e) (hclus.trans (by rw [ha])) _ _ _ _).trans (vreg_setThreads x.k x.g hi w hdst _ _)
  refine answers_onDev hs hexec ⟨hadv, fun th hth i hi => ?_, fun th i hth hi hout => ?_, fun hnv => onlyFields_of_dev ?_⟩
  · rw [hread th _ (by omega), if_pos ⟨hth, by omega, by omega⟩, Nat.add_sub_cancel_left]
  · refine (hread th i hi).trans (if_neg ?_)
    rintro ⟨hmem, hlo, hhi⟩
    obtain hbit | hlt | hle := hout
    · exact absurd (threadsOf_lt hmem).2 (by simp [hbit])
    · omega
    · omega
  · have hcore : Dev.onlyRegs [numFlags x.phys 4] s.dev e := hm ▸ onlyRegs_core _ ⟨rfl, rfl, rfl, rfl⟩
    have hflags := groupFlags_frame e x cause ((threadsOf x.g.active).map fun t => (t, fl t)) (by simpa using hnv)
    exact onlyRegs_trans (onlyRegs_mono (onlyRegs_trans hcore hflags) (by simp))
      (onlyRegs_mono hdebug fun f hf => List.mem_cons_of_mem _ hf)

/-- The same for results of 4 or 8 bytes, each with its flags. -/
theorem valueInstr_answers {c : Instr} {s : State} {d : Dev} {r : GroupRef} {x : Gx} {f : Gx → Dev → IRes} {cause fresh dst n : Nat}
    {res : Nat → Nat × Nat} (hs : s.powered) (hruns : s.dev.runs r x) (hclear : x.clearAt (x.g.pc + instrBytes))
    (hexec : exec c s = onDev (Dev.instr r f) s) (hn : n = 4 ∨ n = 8)
    (hd : d = { s.dev with fresh := fresh })
    (hf : f x s.dev = .done (d.vectorDone x cause dst (regsOf n) (fun t i => (res t).1 / 2 ^ (32 * i)) fun t => (res t).2))
    (hdst : dst + regsOf n ≤ 256) :
    Answers c s fun t => t.dev.advanced x ∧
      (∀ th ∈ threadsOf x.g.active, t.dev.vval x.k x.g th dst n = (res th).1 % 2 ^ (8 * n)) ∧
      Dev.sameVregsBut s.dev t.dev x dst (regsOf n) ∧
      ((∀ th ∈ threadsOf x.g.active, hasNV (res th).2 = false) → State.onlyFields (numFlags x.phys 4 :: debugFields) s t) := by
  obtain ⟨t, ht, hadv, hwords, hframe⟩ := vectorInstr_answers hs hruns hclear hexec hd hf hdst
  exact ⟨t, ht, hadv, fun th hth => vval_of_words hn (hwords th hth), hframe⟩

theorem elemBytes_cases (f : Fmt) : elemBytes f = 4 ∨ elemBytes f = 8 := by
  unfold elemBytes
  split
  · exact .inr rfl
  · exact .inl rfl

/-- The registers an instruction names first, its destination's, are the group's. -/
theorem badReg_head {x : Gx} {dst n : Nat} {l : List (Nat × Nat)} (h : badReg x ((dst, n) :: l) = false) : dst + n ≤ x.g.regs :=
  Nat.not_lt.mp (of_decide_eq_false (Bool.or_eq_false_iff.mp h).1)

/-! ### Floating and conversion instructions -/

theorem floatInstruction_answers (s : State) (r : GroupRef) (x : Gx) (op : FloatOp) (fmt : Fmt) (rm : Rm) (dst a b c : Fin 256)
    (f : FloatFmt) (hs : s.powered) (hruns : s.dev.runs r x) (hclear : x.clearAt (x.g.pc + instrBytes)) (hregs : x.g.regs ≤ 256)
    (hf : fmt.float = some f) (hieee : fmt.ieee = true) :
    let cmp : Bool := op == .lt || op == .le || op == .eq
    let n := if cmp then 4 else elemBytes fmt
    let res (th : Nat) : Nat × Nat :=
      floatOp fmt f rm (Config.freeNat (s.dev.fresh + th)) op (s.dev.elem x fmt th a) (s.dev.elem x fmt th b) (s.dev.elem x fmt th c)
    badReg x ([(dst.val, if cmp then 1 else regsOf (elemBytes fmt)), (a.val, regsOf (elemBytes fmt))]
      ++ (if op = .sqrt then [] else [(b.val, regsOf (elemBytes fmt))]) ++ (if op = .fma then [(c.val, regsOf (elemBytes fmt))] else [])) = false →
    Answers (.floatInstruction r op fmt rm dst a b c) s fun t =>
      t.dev.advanced x ∧ (∀ th ∈ threadsOf x.g.active, t.dev.vval x.k x.g th dst n = (res th).1 % 2 ^ (8 * n)) ∧
        Dev.sameVregsBut s.dev t.dev x dst (regsOf n) ∧
        ((∀ th ∈ threadsOf x.g.active, hasNV (res th).2 = false) → State.onlyFields (numFlags x.phys 4 :: debugFields) s t) := by
  intro cmp n res hbad
  have hn : n = 4 ∨ n = 8 := by
    unfold n
    split
    · exact .inl rfl
    · exact elemBytes_cases fmt
  have hcount : (if cmp then 1 else regsOf (elemBytes fmt)) = regsOf n := by
    unfold n
    split <;> rfl
  have hdst : dst.val + regsOf n ≤ 256 := (hcount ▸ badReg_head hbad).trans hregs
  refine valueInstr_answers (cause := 6) (fresh := s.dev.fresh + 32) (res := res) hs hruns hclear rfl hn rfl ?_ hdst
  unfold Dev.floatInstr
  rw [hf]
  dsimp only
  refine (if_neg (Bool.eq_false_iff.mp (Bool.or_eq_false_iff.mpr ⟨congrArg not hieee, hbad⟩))).trans ?_
  exact congrArg IRes.done (vectorDone_of_steps (res := res) (w := fun q i => q.1 / 2 ^ (32 * i)) (fl := Prod.snd)
    (step := fun e q => e.setVval x.k q.1 dst n q.2.1) fun e q => setVval_eq_setWords e x.k q.1 dst q.2.1 hn)

theorem conversionInstruction_answers (s : State) (r : GroupRef) (x : Gx) (src dst : Fmt) (mode : ConvMode) (rm : Rm) (rd rs : Fin 256)
    (hs : s.powered) (hruns : s.dev.runs r x) (hclear : x.clearAt (x.g.pc + instrBytes)) (hregs : x.g.regs ≤ 256)
    (hinf : infRefused dst mode = false) (hdefined : convDefined src dst rm = true)
    (hbad : badReg x [(rd.val, regsOf (elemBytes dst)), (rs.val, regsOf (elemBytes src))] = false) :
    let res (th : Nat) : Nat × Nat := convert src dst mode rm (src.decode (s.dev.elem x src th rs))
    Answers (.conversionInstruction r src dst mode rm rd rs) s fun t =>
      t.dev.advanced x ∧
        (∀ th ∈ threadsOf x.g.active, t.dev.vval x.k x.g th rd (elemBytes dst) = (res th).1 % 2 ^ (8 * elemBytes dst)) ∧
        Dev.sameVregsBut s.dev t.dev x rd (regsOf (elemBytes dst)) ∧
        ((∀ th ∈ threadsOf x.g.active, hasNV (res th).2 = false) → State.onlyFields (numFlags x.phys 4 :: debugFields) s t) := by
  intro res
  have hn := elemBytes_cases dst
  refine valueInstr_answers (cause := 7) (d := s.dev) (res := res) hs hruns hclear rfl hn rfl ?_ ((badReg_head hbad).trans hregs)
  unfold Dev.convInstr
  rw [if_neg (by simp [hinf]), if_neg (by simp [hdefined, hbad])]
  exact congrArg IRes.done (vectorDone_of_steps (res := res) (w := fun q i => q.1 / 2 ^ (32 * i)) (fl := Prod.snd)
    (step := fun e q => e.setVval x.k q.1 rd (elemBytes dst) q.2.1) fun e q => setVval_eq_setWords e x.k q.1 rd q.2.1 hn)

/-! ### Block conversion -/

/-- The codes of a block, `width` bits each, packed into one number, the first lowest (R139). -/
def packCodes (width : Nat) (codes : List Nat) : Nat := codes.zipIdx.foldl (fun a c => a + c.1 * 2 ^ (width * c.2)) 0

/-- The words of a converted block: those of its codes, and behind them the scale. -/
def blockWord (width words : Nat) (q : List Nat × Nat × Nat) (i : Nat) : Nat :=
  if i < words then packCodes width q.1 / 2 ^ (32 * i) else q.2.1

/-- The codes' words one by one, then the scale: the words of the block. -/
theorem setWords_blockWord (d : Dev) (k t r width words : Nat) (q : List Nat × Nat × Nat) :
    (d.setWords k t r words fun i => packCodes width q.1 / 2 ^ (32 * i)).setVreg k t (r + words) q.2.1 =
      d.setWords k t r (words + 1) (blockWord width words q) := by
  have hcodes : ∀ i : Nat, i < words → blockWord width words q i = packCodes width q.1 / 2 ^ (32 * i) := fun i hi => if_pos hi
  rw [setWords_succ, setWords_congr d k t r hcodes]
  exact congrArg _ (if_neg (lt_irrefl words)).symm

theorem blockConversion_answers (s : State) (r : GroupRef) (x : Gx) (lf4 : Bool) (src : Fmt) (mode : ConvMode) (rd rs : Fin 256)
    (hs : s.powered) (hruns : s.dev.runs r x) (hclear : x.clearAt (x.g.pc + instrBytes)) (hregs : x.g.regs ≤ 256)
    (hinf : infRefused .lf4 mode = false) (hsource : blockSource src = true) :
    let words := if lf4 then 2 else 3
    badReg x [(rd.val, words + 1), (rs.val, 16 * regsOf (elemBytes src))] = false →
    let res (th : Nat) : List Nat × Nat × Nat :=
      blockCodes lf4 src mode ((List.range 16).map fun i => src.decode (s.dev.elem x src th (rs.val + i * regsOf (elemBytes src))))
    Answers (.blockConversion r lf4 src mode rd rs) s fun t =>
      t.dev.advanced x ∧
        (∀ th ∈ threadsOf x.g.active, t.dev.vreg x.k x.g th (rd.val + words) = (res th).2.1 % 2 ^ 32 ∧
          ∀ i : Nat, i < words → t.dev.vreg x.k x.g th (rd.val + i) =
            ((res th).1.zipIdx.foldl (fun a c => a + c.1 * 2 ^ ((if lf4 then 4 else 6) * c.2)) 0) / 2 ^ (32 * i) % 2 ^ 32) ∧
        Dev.sameVregsBut s.dev t.dev x rd (words + 1) ∧
        ((∀ th ∈ threadsOf x.g.active, hasNV (res th).2.2 = false) → State.onlyFields (numFlags x.phys 4 :: debugFields) s t) := by
  intro words hbad res
  let width := if lf4 then 4 else 6
  have hdone : Dev.blockInstr lf4 src mode rd rs x s.dev =
      .done (s.dev.vectorDone x 7 rd (words + 1) (fun t => blockWord width words (res t)) fun t => (res t).2.2) := by
    unfold Dev.blockInstr
    dsimp only
    rw [if_neg (by simp [hinf]), if_neg (by rw [hsource]; simpa using hbad)]
    exact congrArg IRes.done (vectorDone_of_steps (res := res) (fl := fun q => q.2.2) (step := fun e q =>
      (e.setWords x.k q.1 rd words fun i => packCodes width q.2.1 / 2 ^ (32 * i)).setVreg x.k q.1 (rd + words) q.2.2.1)
      fun e q => setWords_blockWord e x.k q.1 rd width words q.2)
  obtain ⟨t, ht, hadv, hwords, hframe⟩ := vectorInstr_answers (c := .blockConversion r lf4 src mode rd rs) hs hruns hclear rfl rfl hdone
    ((badReg_head hbad).trans hregs)
  refine ⟨t, ht, hadv, fun th hth => ⟨?_, fun i hi => ?_⟩, hframe⟩
  · rw [hwords th hth words (Nat.lt_succ_self _), blockWord, if_neg (lt_irrefl _)]
  · rw [hwords th hth i (Nat.lt_succ_of_lt hi), blockWord, if_pos hi]
    rfl

/-! ### NFLAGS_WRITE -/

/-- The flags of the clusters are no field of the debug HOLD. -/
theorem numFlags_notDebug {phys : Nat} (hphys : phys < 512) : ∀ f ∈ debugFields, (numFlags phys 4).key ≠ f.key := by
  have hlow : ∀ f ∈ debugFields, f.key < 0xA00000 * 64 := by decide
  exact fun f hf => ((hlow f hf).trans_le (numFlags_numeric hphys 4).1).ne'

theorem nflagsWrite_answers (s : State) (r : GroupRef) (x : Gx) (mask : BitVec 4) (hs : s.powered) (hruns : s.dev.runs r x)
    (hclear : x.clearAt (x.g.pc + instrBytes)) : Answers (.nflagsWrite r mask) s fun t =>
      t.dev.get (numFlags x.phys 4) = flagClear (s.dev.get (numFlags x.phys 4)) mask.toNat % 2 ^ 4 ∧ t.dev.advanced x ∧
        State.onlyFields (numFlags x.phys 4 :: debugFields) s t := by
  obtain ⟨hadv, -, hdebug, -⟩ := instr_done (f := fun x d => .done (d.put (numFlags x.phys 4)
    (flagClear (d.get (numFlags x.phys 4)) mask.toNat))) hruns hclear rfl rfl
  refine answers_onDev hs rfl ⟨?_, hadv, onlyFields_of_dev ?_⟩
  · exact (hdebug.1 _ (numFlags_notDebug (runs_phys hruns))).trans (get_put_same _ _ _)
  · exact onlyRegs_trans (onlyRegs_put _ _ _ _ List.mem_cons_self) (onlyRegs_mono hdebug fun f hf => List.mem_cons_of_mem _ hf)

/-- Settles O20: the three instructions by the words they write for each active thread and the flags of their results; NFLAGS_WRITE by
its one write. -/
theorem groupArithmetic : Obligations.GroupArithmetic :=
  ⟨floatInstruction_answers, conversionInstruction_answers, blockConversion_answers, nflagsWrite_answers⟩

end Sys2Proof.Machine
end

section
/-! PROOF. The refutation of O25: a science core's zero-line on a memory whose cells are out of order. -/

namespace Sys2Proof.Machine

open Sys2Proof

/-! ### CBO_ZERO on a memory that is out of order (R177) -/

/-- The state after power-on reset but for a memory that is out of order, with ZERO_LINE negotiated. -/
def zeroLineNegotiated : State :=
  { State.reset with dev := { Dev.reset.put (F.IDF_NEG_BITS 0) (2 ^ ftZeroLine) with mem := unsortedBuffer } }

theorem zeroLineNegotiated_powered : zeroLineNegotiated.powered := by
  unfold State.powered
  decide +kernel

/-- The byte at 5, which is not of the line at 0x3000000000, reads 0. -/
theorem zeroLineNegotiated_before : zeroLineNegotiated.dev.mem.byte 5 = 0#8 := by decide +kernel

/-- Zeroing the line takes the cell of its first byte away: the byte at 5 appears. -/
theorem zeroLineNegotiated_zeroed : (zeroLineNegotiated.dev.cboZero (0 : Fin 96).val 0x3000000000).mem.byte 5 = 1#8 := by decide +kernel

/-- Refutes O25: the statement quantifies over every memory. In one that is out of order CBO_ZERO, which zeroes one line, lets a byte
appear that does not lie in it. -/
theorem not_scienceCoresReserveAndSwap : ¬ Obligations.ScienceCoresReserveAndSwap := by
  intro h
  obtain ⟨-, -, -, -, -, -, hzero, -⟩ := h
  obtain ⟨t, hexec, -, -, -, hmem, -⟩ := hzero zeroLineNegotiated 0 0x3000000000 zeroLineNegotiated_powered (by decide +kernel)
    (by decide +kernel) (by decide +kernel) (by decide +kernel) (by decide +kernel) (by decide +kernel)
  have hnext := onDev_powered (fun d => d.cboZero (0 : Fin 96).val 0x3000000000) zeroLineNegotiated zeroLineNegotiated_powered
  obtain rfl := Host.Outcome.next.inj (hnext.symm.trans hexec)
  have hbyte := hmem 5 (by decide +kernel)
  exact absurd (zeroLineNegotiated_zeroed.symm.trans (hbyte.trans zeroLineNegotiated_before)) (by decide)

end Sys2Proof.Machine
end

section
/-! SUPPORT. The Plaza's registers: their keys, and what an event leaves of its ways (R173, R182, R389). -/

namespace Sys2Proof.Machine

open Sys2Proof

/-! ### Fields of the Plaza's blocks -/

/-- Fields that start below bit 64 of their registers have one key only where they stand in one register at one bit. -/
theorem key_ne {f g : Fld} (hf : f.lo < 64) (hg : g.lo < 64) (h : f.off ≠ g.off ∨ f.lo ≠ g.lo) : f.key ≠ g.key := by
  simp only [Fld.key]
  omega

/-- Registers below the event rings' block are none that an event writes. -/
theorem away_of_low {f : Fld} (hoff : f.off < 0x1401000) (hlo : f.lo < 64) : f.awayFromEvents := by
  refine ⟨.inl ?_, ?_⟩ <;> simp only [Fld.key, F.RAS_EVSEQ_NEXT] <;> omega

/-- A counter that was added to reads the saturated sum. -/
theorem get_bump_same (d : Dev) (f : Fld) (n : Nat) : (d.bump f n).get f = min (2 ^ f.w - 1) (d.get f + n) := by
  rw [get_bump, if_pos rfl, Nat.mod_eq_of_lt]
  exact Nat.lt_of_le_of_lt (Nat.min_le_left _ _) (Nat.sub_lt (Nat.two_pow_pos _) one_pos)

/-! ### The Plaza's ways and an event -/

theorem ringWrite_ways (d : Dev) (r : Nat) (rec : List Byte) : (d.ringWrite r rec).plz.ways = d.plz.ways := by
  unfold Dev.ringWrite Dev.writeRecord Dev.keepRecord Dev.sendVector
  dsimp only
  split
  · rfl
  · split
    · rfl
    · split <;> split <;> split <;> rfl

theorem notify_plz (d : Dev) (rec : List Byte) : (d.notify rec).plz = d.plz := by
  unfold Dev.notify
  split
  · rfl
  · split <;> rfl

/-- An event's record may end reservations, and moves no line. -/
@[simp] theorem raise_ways (d : Dev) (cls status source : Nat) (detail : List Nat) : (d.raise cls status source detail).plz.ways = d.plz.ways := by
  rw [raise_eq, notify_plz, ringWrite_ways]
  rfl

end Sys2Proof.Machine
end

section
/-! PROOF. The proof of O29: way groups that change their power, and scratch ranges (R174, R182, R183, R185). -/

namespace Sys2Proof.Machine

open Sys2Proof

/-! ### The ways that PLZ_DCFG shows (R174) -/

/-- PLZ_DCFG.CACHE_WAYS of a die shows its eligible ways. -/
def Dev.showsWays (d : Dev) (die : Nat) : Prop :=
  d.get (F.PLZ_DCFG_CACHE_WAYS die) = 2 * (List.range 8).countP fun g => d.groupOn die g

/-- Which groups are on is read from three fields. -/
theorem groupOn_congr {a b : Dev} {die : Nat} (hscr : b.get (F.PLZ_DCFG_SCR_GROUPS die) = a.get (F.PLZ_DCFG_SCR_GROUPS die))
    (hon : b.get (F.PLZ_WSTAT_PWR_ON die) = a.get (F.PLZ_WSTAT_PWR_ON die))
    (hpower : b.get (F.PLZ_WAYS_POWER die) = a.get (F.PLZ_WAYS_POWER die)) (g : Nat) : b.groupOn die g = a.groupOn die g := by
  unfold Dev.groupOn
  rw [hscr, hon, hpower]

/-- A device with the same fields of the die shows the same ways. -/
theorem showsWays_congr {a b : Dev} {die : Nat} (h : a.showsWays die)
    (hways : b.get (F.PLZ_DCFG_CACHE_WAYS die) = a.get (F.PLZ_DCFG_CACHE_WAYS die))
    (hscr : b.get (F.PLZ_DCFG_SCR_GROUPS die) = a.get (F.PLZ_DCFG_SCR_GROUPS die))
    (hon : b.get (F.PLZ_WSTAT_PWR_ON die) = a.get (F.PLZ_WSTAT_PWR_ON die))
    (hpower : b.get (F.PLZ_WAYS_POWER die) = a.get (F.PLZ_WAYS_POWER die)) : b.showsWays die := by
  unfold Dev.showsWays
  simp only [groupOn_congr hscr hon hpower]
  exact hways.trans h

theorem countWays_frame (d : Dev) (die : Nat) : Dev.onlyRegs [F.PLZ_DCFG_CACHE_WAYS die] d (d.countWays die) :=
  onlyRegs_put _ _ _ _ (by simp)

theorem countWays_shows (d : Dev) (die : Nat) : (d.countWays die).showsWays die := by
  have hkeep : ∀ f : Fld, f.lo < 64 → f.off ≠ (F.PLZ_DCFG_CACHE_WAYS die).off ∨ f.lo ≠ 8 → (d.countWays die).get f = d.get f :=
    fun f hlo hne => get_put_ne _ _ _ _ (key_ne hlo (by decide : 8 < 64) hne)
  have hcount : (List.range 8).countP (fun g => d.groupOn die g) ≤ 8 := List.countP_le_length
  unfold Dev.showsWays
  simp only [groupOn_congr (hkeep (F.PLZ_DCFG_SCR_GROUPS die) (by decide : 0 < 64) (.inr (by decide : (0 : Nat) ≠ 8)))
    (hkeep (F.PLZ_WSTAT_PWR_ON die) (by decide : 8 < 64) (.inl (by simp [F.PLZ_WSTAT_PWR_ON, F.PLZ_DCFG_CACHE_WAYS])))
    (hkeep (F.PLZ_WAYS_POWER die) (by decide : 0 < 64) (.inr (by decide : (0 : Nat) ≠ 8)))]
  exact (get_put_same _ _ _).trans (Nat.mod_eq_of_lt (show _ < 2 ^ 8 by omega))

/-! ### PLZ_WAYS (R182, R183) -/

/-- The sequence that a value of PLZ_WAYS starts. -/
def Dev.powerStarted (d : Dev) (die old v : Nat) : Dev :=
  if old &&& v ≠ old then d.put (F.PLZ_WSTAT_STATE die) wsCleaning
  else if v ≠ old then d.put (F.PLZ_WSTAT_STATE die) wsPoweringUp
  else d

theorem powerStarted_frame (d : Dev) (die old v : Nat) : Dev.onlyRegs [F.PLZ_WSTAT_STATE die] d (d.powerStarted die old v) := by
  unfold Dev.powerStarted
  split
  · exact onlyRegs_put _ _ _ _ (by simp)
  · split
    · exact onlyRegs_put _ _ _ _ (by simp)
    · exact onlyRegs_refl _ d

theorem powerStarted_state {d : Dev} {die : Nat} (old v : Nat) (hidle : d.get (F.PLZ_WSTAT_STATE die) = wsIdle) :
    (d.powerStarted die old v).get (F.PLZ_WSTAT_STATE die) =
      if old &&& v ≠ old then wsCleaning else if v ≠ old then wsPoweringUp else wsIdle := by
  unfold Dev.powerStarted
  split
  · exact get_put_same _ _ _
  · split
    · exact get_put_same _ _ _
    · exact hidle

theorem wayPower_legal {d : Dev} {die v : Nat} (hidle : d.get (F.PLZ_WSTAT_STATE die) = wsIdle) (hok : d.waysOk die (v % 256) = true) :
    d.wayPower die v =
      ((d.put (F.PLZ_WAYS_POWER die) (v % 256)).powerStarted die (d.get (F.PLZ_WAYS_POWER die)) (v % 256)).countWays die :=
  if_neg (by simp [hidle, hok])

theorem wayPower_illegal {d : Dev} {die v : Nat} (h : ¬ (d.get (F.PLZ_WSTAT_STATE die) = wsIdle ∧ d.waysOk die (v % 256) = true)) :
    d.wayPower die v = d.refuse (F.PLZ_WAYS_POWER die).off v :=
  if_pos (by simpa only [Bool.or_eq_true, decide_eq_true_eq, Bool.not_eq_true', ne_eq, not_and_or, Bool.not_eq_true] using h)

/-- A legal write: PLZ_WAYS holds it, and the die's sequence starts. -/
theorem wayPower_taken {s : State} {die : Fin 4} {v : Word} (hs : s.powered) (hidle : s.dev.get (F.PLZ_WSTAT_STATE die) = wsIdle)
    (hok : s.dev.waysOk die (v.toNat % 256) = true) :
    Answers (.wayPowerWrite die v) s fun t =>
      t.dev.get (F.PLZ_WAYS_POWER die) = v.toNat % 256 ∧
        t.dev.get (F.PLZ_WSTAT_STATE die) = (if s.dev.get (F.PLZ_WAYS_POWER die) &&& v.toNat % 256 ≠ s.dev.get (F.PLZ_WAYS_POWER die)
          then wsCleaning else if v.toNat % 256 ≠ s.dev.get (F.PLZ_WAYS_POWER die) then wsPoweringUp else wsIdle) ∧
        t.dev.showsWays die ∧ State.onlyFields [F.PLZ_WAYS_POWER die, F.PLZ_WSTAT_STATE die, F.PLZ_DCFG_CACHE_WAYS die] s t := by
  refine answers_onDev (f := fun d => d.wayPower die v.toNat) hs rfl ?_
  dsimp only
  rw [wayPower_legal hidle hok]
  generalize hold : s.dev.get (F.PLZ_WAYS_POWER die) = old
  have hput : Dev.onlyRegs [F.PLZ_WAYS_POWER die] s.dev (s.dev.put (F.PLZ_WAYS_POWER die) (v.toNat % 256)) := onlyRegs_put _ _ _ _ (by simp)
  have hstarted := powerStarted_frame (s.dev.put (F.PLZ_WAYS_POWER die) (v.toNat % 256)) die old (v.toNat % 256)
  have hcounted := countWays_frame ((s.dev.put (F.PLZ_WAYS_POWER die) (v.toNat % 256)).powerStarted die old (v.toNat % 256)) die
  refine ⟨?_, ?_, countWays_shows _ _, onlyFields_of_dev ?_⟩
  · rw [hcounted.1 _ (by simp [Fld.key, F.PLZ_WAYS_POWER, F.PLZ_DCFG_CACHE_WAYS]; omega),
      hstarted.1 _ (by simp [Fld.key, F.PLZ_WAYS_POWER, F.PLZ_WSTAT_STATE]), get_put_same]
    exact Nat.mod_mod _ _
  · rw [hcounted.1 _ (by simp [Fld.key, F.PLZ_WSTAT_STATE, F.PLZ_DCFG_CACHE_WAYS]; omega)]
    exact powerStarted_state _ _ ((hput.1 _ (by simp [Fld.key, F.PLZ_WAYS_POWER, F.PLZ_WSTAT_STATE])).trans hidle)
  · exact onlyRegs_trans (onlyRegs_mono hput (by simp))
      (onlyRegs_trans (onlyRegs_mono hstarted (by simp)) (onlyRegs_mono hcounted (by simp)))

/-! ### The end of a power sequence (R182) -/

/-- The fields in which a die shows the end of a sequence. -/
def wayEndFields (die : Nat) : List Fld := [F.PLZ_WSTAT_STATE die, F.PLZ_DCFG_CACHE_WAYS die]

/-- The device at the end of a sequence, before its event. -/
def Dev.wayIdle (d : Dev) (die : Nat) : Dev := (d.put (F.PLZ_WSTAT_STATE die) wsIdle).countWays die

theorem wayEnd_eq (d : Dev) (die : Nat) :
    d.wayEnd die = (d.wayIdle die).raise evPlaza stOk die [die, d.get (F.PLZ_WSTAT_CLEANED die), d.get (F.PLZ_WSTAT_PWR_ON die)] := rfl

theorem wayIdle_frame (d : Dev) (die : Nat) : Dev.onlyRegs (wayEndFields die) d (d.wayIdle die) :=
  onlyRegs_trans (onlyRegs_put _ _ _ _ (by simp [wayEndFields])) (onlyRegs_mono (countWays_frame _ _) (by simp [wayEndFields]))

/-- The fields of a die's way power: PLZ_DCFG, PLZ_WAYS or PLZ_WSTAT. -/
def wayPowerFields (die : Nat) : List Fld :=
  [F.PLZ_DCFG_SCR_GROUPS die, F.PLZ_DCFG_CACHE_WAYS die, F.PLZ_WAYS_POWER die, F.PLZ_WSTAT_CLEANED die, F.PLZ_WSTAT_PWR_ON die,
    F.PLZ_WSTAT_STATE die]

theorem wayPowerFields_away (die : Fin 4) : ∀ f ∈ wayPowerFields die, f.awayFromEvents := by
  simp only [wayPowerFields, List.mem_cons, List.not_mem_nil, or_false]
  rintro f (rfl | rfl | rfl | rfl | rfl | rfl) <;> refine away_of_low ?_ ?_ <;>
    simp only [F.PLZ_DCFG_SCR_GROUPS, F.PLZ_DCFG_CACHE_WAYS, F.PLZ_WAYS_POWER, F.PLZ_WSTAT_CLEANED, F.PLZ_WSTAT_PWR_ON, F.PLZ_WSTAT_STATE] <;>
    omega

/-- The other fields of the die's way power read the same at the end of a sequence. -/
theorem wayEnd_get (d : Dev) (die : Fin 4) {f : Fld} (hf : f ∈ wayPowerFields die) (hne : ∀ g ∈ wayEndFields die, f.key ≠ g.key) :
    (d.wayEnd die).get f = d.get f := by
  rw [wayEnd_eq, raise_get _ _ _ _ _ (wayPowerFields_away die f hf)]
  exact (wayIdle_frame d die).1 f hne

theorem wayEnd_on (d : Dev) (die : Fin 4) : (d.wayEnd die).get (F.PLZ_WSTAT_PWR_ON die) = d.get (F.PLZ_WSTAT_PWR_ON die) := by
  refine wayEnd_get d die (by simp [wayPowerFields]) ?_
  simp only [wayEndFields, List.forall_mem_cons, Fld.key, F.PLZ_WSTAT_PWR_ON, F.PLZ_WSTAT_STATE, F.PLZ_DCFG_CACHE_WAYS]
  exact ⟨by omega, by omega, by simp⟩

theorem wayEnd_cleaned (d : Dev) (die : Fin 4) : (d.wayEnd die).get (F.PLZ_WSTAT_CLEANED die) = d.get (F.PLZ_WSTAT_CLEANED die) := by
  refine wayEnd_get d die (by simp [wayPowerFields]) ?_
  simp only [wayEndFields, List.forall_mem_cons, Fld.key, F.PLZ_WSTAT_CLEANED, F.PLZ_WSTAT_STATE, F.PLZ_DCFG_CACHE_WAYS]
  exact ⟨by omega, by omega, by simp⟩

theorem wayEnd_state (d : Dev) (die : Fin 4) : (d.wayEnd die).get (F.PLZ_WSTAT_STATE die) = wsIdle := by
  rw [wayEnd_eq, raise_get _ _ _ _ _ (wayPowerFields_away die _ (by simp [wayPowerFields]))]
  exact ((countWays_frame _ _).1 _ (by simp [Fld.key, F.PLZ_WSTAT_STATE, F.PLZ_DCFG_CACHE_WAYS]; omega)).trans (get_put_same _ _ _)

theorem wayEnd_shows (d : Dev) (die : Fin 4) : (d.wayEnd die).showsWays die := by
  have hkeep : ∀ f ∈ wayPowerFields die, (d.wayEnd die).get f = (d.wayIdle die).get f := fun f hf => by
    rw [wayEnd_eq, raise_get _ _ _ _ _ (wayPowerFields_away die f hf)]
  exact showsWays_congr (countWays_shows (d.put (F.PLZ_WSTAT_STATE die) wsIdle) die) (hkeep _ (by simp [wayPowerFields]))
    (hkeep _ (by simp [wayPowerFields])) (hkeep _ (by simp [wayPowerFields])) (hkeep _ (by simp [wayPowerFields]))

@[simp] theorem wayEnd_ways (d : Dev) (die : Nat) : (d.wayEnd die).plz.ways = d.plz.ways := by
  rw [wayEnd_eq, raise_ways]
  rfl

/-- The Plaza event of a sequence that ends after the fields `l` were written. -/
theorem wayEnd_raised {l : List Fld} {a d : Dev} (die : Fin 4) (h : Dev.onlyRegs l a d) (hl : ∀ f ∈ l, f ∈ wayPowerFields die) :
    Dev.raisedOne a (d.wayEnd die) evPlaza stOk die [die.val, d.get (F.PLZ_WSTAT_CLEANED die), d.get (F.PLZ_WSTAT_PWR_ON die)] ∧
      Dev.sameRegsBut ((l ++ wayEndFields die) ++ eventFields) a (d.wayEnd die) ∧ Dev.sameMemButRings [] a (d.wayEnd die) := by
  have hidle : Dev.onlyRegs (l ++ wayEndFields die) a (d.wayIdle die) :=
    onlyRegs_trans (onlyRegs_mono h fun _ => List.mem_append_left _) (onlyRegs_mono (wayIdle_frame d die) fun _ => List.mem_append_right _)
  have hfree : RingFree (l ++ wayEndFields die) := ringFree_of_away fun f hf =>
    wayPowerFields_away die f ((List.mem_append.mp hf).elim (hl f) (by simp [wayEndFields, wayPowerFields]; tauto))
  rw [wayEnd_eq]
  exact ⟨raise_one_after hidle hfree _ _ _ _, raise_regs_after hidle.1 _ _ _ _, raise_mem_after hidle hfree _ _ _ _⟩

/-! ### WAY_POWER_UP_DONE (R182) -/

theorem powerUpDone_run {d : Dev} {die : Nat} (h : d.get (F.PLZ_WSTAT_STATE die) = wsPoweringUp) :
    d.powerUpDone die = (d.put (F.PLZ_WSTAT_PWR_ON die) (d.get (F.PLZ_WAYS_POWER die))).wayEnd die :=
  if_neg (not_not_intro h)

/-- Groups that were switched on are on: the sequence ends. -/
theorem wayPowerUpDone_ended {s : State} (die : Fin 4) (hs : s.powered) (hstate : s.dev.get (F.PLZ_WSTAT_STATE die) = wsPoweringUp) :
    Answers (.wayPowerUpDone die) s fun t =>
      t.dev.get (F.PLZ_WSTAT_PWR_ON die) = s.dev.get (F.PLZ_WAYS_POWER die) ∧ t.dev.get (F.PLZ_WSTAT_STATE die) = wsIdle ∧
        t.dev.showsWays die ∧
        Dev.raisedOne s.dev t.dev evPlaza stOk die
          [die.val, s.dev.get (F.PLZ_WSTAT_CLEANED die), s.dev.get (F.PLZ_WAYS_POWER die)] ∧ t.dev.plz.ways = s.dev.plz.ways ∧
        State.onlyFieldsEv [F.PLZ_WSTAT_PWR_ON die, F.PLZ_WSTAT_STATE die, F.PLZ_DCFG_CACHE_WAYS die] s t := by
  refine answers_onDev (f := fun d => d.powerUpDone die) hs rfl ?_
  dsimp only
  rw [powerUpDone_run hstate]
  generalize hd : s.dev.put (F.PLZ_WSTAT_PWR_ON die) (s.dev.get (F.PLZ_WAYS_POWER die)) = d
  have hput : Dev.onlyRegs [F.PLZ_WSTAT_PWR_ON die] s.dev d := hd ▸ onlyRegs_put _ _ _ _ (by simp)
  have hon : d.get (F.PLZ_WSTAT_PWR_ON die) = s.dev.get (F.PLZ_WAYS_POWER die) := by
    rw [← hd, get_put_same]
    exact Nat.mod_eq_of_lt (get_lt s.dev (F.PLZ_WAYS_POWER die))
  have hcleaned : d.get (F.PLZ_WSTAT_CLEANED die) = s.dev.get (F.PLZ_WSTAT_CLEANED die) :=
    hput.1 _ (by simp [Fld.key, F.PLZ_WSTAT_CLEANED, F.PLZ_WSTAT_PWR_ON])
  obtain ⟨hraised, hregs, hmem⟩ := wayEnd_raised die hput (by simp [wayPowerFields])
  rw [hcleaned, hon] at hraised
  exact ⟨(wayEnd_on d die).trans hon, wayEnd_state d die, wayEnd_shows d die, hraised, (wayEnd_ways d die).trans (hd ▸ rfl),
    onlyFieldsEv_of_dev hregs hmem⟩

/-! ### WAY_CLEAN_DONE (R182) -/

/-- The written lines of the ways that are being cleaned. -/
def Dev.linesToClean (d : Dev) (die : Nat) : Nat :=
  d.plz.ways.countP fun r => d.cleaningKey die r.1 && (match r.2 with
    | some x => x.written
    | none => false)

/-- The groups that stay on. -/
def Dev.groupsLeft (d : Dev) (die : Nat) : Nat := d.get (F.PLZ_WSTAT_PWR_ON die) &&& d.get (F.PLZ_WAYS_POWER die)

/-- The device without the lines of the groups that go off. -/
def Dev.linesDropped (d : Dev) (die : Nat) : Dev :=
  { d with plz := { d.plz with ways := d.plz.ways.filter fun r => !d.cleaningKey die r.1 } }

/-- The same with the count of written lines and the groups that stay on. -/
def Dev.waysCleaned (d : Dev) (die : Nat) : Dev :=
  (d.linesDropped die).puts
    [(F.PLZ_WSTAT_CLEANED die, satTo (2 ^ 32 - 1) (d.linesToClean die)), (F.PLZ_WSTAT_PWR_ON die, d.groupsLeft die)]

theorem cleanDone_run {d : Dev} {die : Nat} (h : d.get (F.PLZ_WSTAT_STATE die) = wsCleaning) :
    d.cleanDone die =
      if d.groupsLeft die = (d.waysCleaned die).get (F.PLZ_WAYS_POWER die) then (d.waysCleaned die).wayEnd die
      else (d.waysCleaned die).put (F.PLZ_WSTAT_STATE die) wsPoweringUp :=
  if_neg (not_not_intro h)

theorem waysCleaned_frame (d : Dev) (die : Nat) :
    Dev.onlyRegs [F.PLZ_WSTAT_CLEANED die, F.PLZ_WSTAT_PWR_ON die] d (d.waysCleaned die) :=
  onlyRegs_trans (b := d.linesDropped die) (onlyRegs_core _ ⟨rfl, rfl, rfl, rfl⟩)
    (onlyRegs_puts (d.linesDropped die) [(F.PLZ_WSTAT_CLEANED die, _), (F.PLZ_WSTAT_PWR_ON die, _)])

theorem mem_waysCleaned (d : Dev) (die : Nat) (e : Nat × Option PLine) :
    e ∈ (d.waysCleaned die).plz.ways ↔ e ∈ d.plz.ways ∧ d.cleaningKey die e.1 = false := by
  simp [Dev.waysCleaned, Dev.linesDropped, List.mem_filter]

theorem waysCleaned_on (d : Dev) (die : Nat) : (d.waysCleaned die).get (F.PLZ_WSTAT_PWR_ON die) = d.groupsLeft die :=
  (get_put_same _ _ _).trans (Nat.mod_eq_of_lt (Nat.and_lt_two_pow _ (get_lt d (F.PLZ_WAYS_POWER die))))

theorem waysCleaned_cleaned (d : Dev) (die : Nat) :
    (d.waysCleaned die).get (F.PLZ_WSTAT_CLEANED die) = min (2 ^ 32 - 1) (d.linesToClean die) := by
  refine (get_put_ne _ _ _ _ (by simp [Fld.key, F.PLZ_WSTAT_CLEANED, F.PLZ_WSTAT_PWR_ON])).trans ((get_put_same _ _ _).trans ?_)
  rw [satTo_eq_min]
  exact Nat.mod_eq_of_lt (show _ < 2 ^ 32 by omega)

theorem waysCleaned_power (d : Dev) (die : Nat) : (d.waysCleaned die).get (F.PLZ_WAYS_POWER die) = d.get (F.PLZ_WAYS_POWER die) := by
  refine (waysCleaned_frame d die).1 _ ?_
  simp only [List.forall_mem_cons, Fld.key, F.PLZ_WAYS_POWER, F.PLZ_WSTAT_CLEANED, F.PLZ_WSTAT_PWR_ON]
  exact ⟨by omega, by omega, by simp⟩

/-- Groups that were switched off are clean and off: the sequence ends, or goes on with the groups to power up. -/
theorem wayCleanDone_ended {s : State} (die : Fin 4) (hs : s.powered) (hstate : s.dev.get (F.PLZ_WSTAT_STATE die) = wsCleaning) :
    Answers (.wayCleanDone die) s fun t =>
      (∀ e : Nat × Option PLine, e ∈ t.dev.plz.ways ↔ e ∈ s.dev.plz.ways ∧ s.dev.cleaningKey die e.1 = false) ∧
        t.dev.get (F.PLZ_WSTAT_CLEANED die) = min (2 ^ 32 - 1) (s.dev.linesToClean die) ∧
        t.dev.get (F.PLZ_WSTAT_PWR_ON die) = s.dev.groupsLeft die ∧
        (s.dev.groupsLeft die ≠ s.dev.get (F.PLZ_WAYS_POWER die) →
          t.dev.get (F.PLZ_WSTAT_STATE die) = wsPoweringUp ∧ t.dev.events = s.dev.events) ∧
        (s.dev.groupsLeft die = s.dev.get (F.PLZ_WAYS_POWER die) → t.dev.get (F.PLZ_WSTAT_STATE die) = wsIdle ∧
          Dev.raisedOne s.dev t.dev evPlaza stOk die [die.val, min (2 ^ 32 - 1) (s.dev.linesToClean die), s.dev.groupsLeft die]) ∧
        State.onlyFieldsEv [F.PLZ_WSTAT_CLEANED die, F.PLZ_WSTAT_PWR_ON die, F.PLZ_WSTAT_STATE die, F.PLZ_DCFG_CACHE_WAYS die] s t := by
  refine answers_onDev (f := fun d => d.cleanDone die) hs rfl ?_
  dsimp only
  rw [cleanDone_run hstate, waysCleaned_power]
  have hframe := waysCleaned_frame s.dev die
  split
  · next hall =>
    obtain ⟨hraised, hregs, hmem⟩ := wayEnd_raised die hframe (by simp [wayPowerFields])
    rw [waysCleaned_cleaned, waysCleaned_on] at hraised
    exact ⟨fun e => by rw [wayEnd_ways, mem_waysCleaned], (wayEnd_cleaned _ die).trans (waysCleaned_cleaned _ _),
      (wayEnd_on _ die).trans (waysCleaned_on _ _), fun h => absurd hall h, fun _ => ⟨wayEnd_state _ die, hraised⟩,
      onlyFieldsEv_of_dev hregs hmem⟩
  · next hmore =>
    have hput := sameRegsBut_put (s.dev.waysCleaned die) (F.PLZ_WSTAT_STATE die) wsPoweringUp
    refine ⟨fun e => mem_waysCleaned s.dev die e, ?_, ?_, fun _ => ⟨get_put_same _ _ _, hframe.2.2.2⟩, fun h => absurd h hmore,
      onlyFieldsEv_of_dev ?_ (sameMemButRings_same hframe.2.1 hframe.2.2.1)⟩
    · exact (hput _ (by simp [Fld.key, F.PLZ_WSTAT_CLEANED, F.PLZ_WSTAT_STATE])).trans (waysCleaned_cleaned _ _)
    · exact (hput _ (by simp [Fld.key, F.PLZ_WSTAT_PWR_ON, F.PLZ_WSTAT_STATE])).trans (waysCleaned_on _ _)
    · exact sameRegsBut_trans (sameRegsBut_mono hframe.1 (by simp)) (sameRegsBut_mono hput (by simp))

/-! ### PLZ_SCR (R185) -/

theorem scrWrite_ok {d : Dev} {die p v : Nat} (h : d.scrOk die p (bits v 31 0) (bits v 47 32) = true) :
    d.scrWrite die p v = d.puts [(F.PLZ_SCR_SIZE die p, bits v 47 32), (F.PLZ_SCR_BASE die p, bits v 31 0)] := if_pos h

theorem scrWrite_refused {d : Dev} {die p v : Nat} (h : d.scrOk die p (bits v 31 0) (bits v 47 32) = false) :
    d.scrWrite die p v = d.refuse (F.PLZ_SCR_SIZE die p).off v := if_neg (by simp [h])

/-- A range that the rules allow is taken. -/
theorem plzScrWrite_taken {s : State} {die : Fin 4} {p : Fin 8} {v : Word} (hs : s.powered)
    (hok : s.dev.scrOk die p (bits v.toNat 31 0) (bits v.toNat 47 32) = true) :
    Answers (.plzScrWrite die p v) s fun t =>
      t.dev.get (F.PLZ_SCR_BASE die p) = bits v.toNat 31 0 ∧ t.dev.get (F.PLZ_SCR_SIZE die p) = bits v.toNat 47 32 ∧
        State.onlyFields [F.PLZ_SCR_BASE die p, F.PLZ_SCR_SIZE die p] s t := by
  refine answers_onDev (f := fun d => d.scrWrite die p v.toNat) hs rfl ?_
  dsimp only
  rw [scrWrite_ok hok]
  refine ⟨(get_put_same _ _ _).trans (Nat.mod_mod _ _), ?_, onlyFields_of_dev (onlyRegs_mono (onlyRegs_puts _ _) (by simp))⟩
  exact (get_put_ne _ _ _ _ (by simp [Fld.key, F.PLZ_SCR_SIZE, F.PLZ_SCR_BASE])).trans ((get_put_same _ _ _).trans (Nat.mod_mod _ _))

/-- Settles O29: each command by its own lemma; refused writes are the register-access event of R7. -/
theorem wayPowerSequencesAndScratchRanges : Obligations.WayPowerSequencesAndScratchRanges := by
  unfold Obligations.WayPowerSequencesAndScratchRanges
  refine ⟨fun s die v hs => ⟨fun ⟨hidle, hok⟩ => wayPower_taken hs hidle hok, fun hillegal => ?_⟩,
    fun s die hs hstate => wayCleanDone_ended die hs hstate, fun s die hs hstate => wayPowerUpDone_ended die hs hstate,
    fun s die p v hs => ⟨fun hok => plzScrWrite_taken hs hok, fun hbad => ?_⟩⟩
  · refine refuse_answers ((onDev_powered (fun d => d.wayPower die v.toNat) s hs).trans ?_)
    rw [wayPower_illegal hillegal]
  · refine refuse_answers ((onDev_powered (fun d => d.scrWrite die p v.toNat) s hs).trans ?_)
    rw [scrWrite_refused hbad]

end Sys2Proof.Machine
end

section
/-! SUPPORT. A request at its Plaza slice: what answering it, touching its way and serving it leave (R172 to R176, R179). -/

namespace Sys2Proof.Machine

open Sys2Proof

/-! ### Operations that leave registers and memory alone -/

theorem respond_core (d : Dev) (tag : Option Nat) (status : Nat) (data : List Byte) : Dev.sameCore d (d.respond tag status data) := by
  cases tag <;> exact ⟨rfl, rfl, rfl, rfl⟩

theorem respond_outs (d : Dev) (tag status : Nat) (data : List Byte) :
    (d.respond (some tag) status data).outs = .response tag status data :: d.outs := rfl

theorem setWay_core (d : Dev) (slice set w : Nat) (x : Option PLine) : Dev.sameCore d (d.setWay slice set w x) := ⟨rfl, rfl, rfl, rfl⟩

theorem touchWay_core (d : Dev) (slice set w : Nat) : Dev.sameCore d (d.touchWay slice set w) := ⟨rfl, rfl, rfl, rfl⟩

theorem recallCores_core (d : Dev) (line : Nat) : Dev.sameCore d (d.recallCores line) := ⟨rfl, rfl, rfl, rfl⟩

/-! ### Ways and replacement trees (R173, R174) -/

theorem way_of_plz {a b : Dev} (h : b.plz.ways = a.plz.ways) (slice set w : Nat) : b.way slice set w = a.way slice set w := by
  unfold Dev.way
  rw [h]

theorem way_setWay (d : Dev) (slice set w : Nat) (x : Option PLine) : (d.setWay slice set w x).way slice set w = x :=
  table_get_set_same _ _ _ _

theorem plzTree_touchWay (d : Dev) (slice set w : Nat) :
    (d.touchWay slice set w).plzTree slice set = treeTouch 16 (d.plzTree slice set) w := table_get_set_same _ _ _ _

/-! ### Addresses by their range (R171, R192) -/

/-- Above the host's base lies host memory or nothing. -/
theorem paKind_of_isHost {pa : Nat} (h : isHost pa = true) : paKind pa = .host ∨ paKind pa = .none := by
  have hbase : 0x800000000000 ≤ pa := of_decide_eq_true h
  have hhbm : ¬ pa < hbmTop := by simp only [hbmTop]; omega
  have hreserve : ¬ pa < reserveTop := by simp only [reserveTop]; omega
  have hring : ¬ (ringBase ≤ pa ∧ pa < ringTop) := by simp only [ringTop]; omega
  have hscratch : ¬ (scratchBase ≤ pa ∧ pa < scratchTop) := by simp only [scratchTop]; omega
  unfold paKind
  rw [if_neg hhbm, if_neg hreserve, if_neg hring, if_neg hscratch]
  split
  · exact .inl rfl
  · exact .inr rfl

theorem not_isHost_of_kind {pa : Nat} (hhost : paKind pa ≠ .host) (hnone : paKind pa ≠ .none) : isHost pa = false :=
  Bool.eq_false_iff.mpr fun h => (paKind_of_isHost h).elim hhost hnone

theorem isHost_of_host {pa : Nat} (h : paKind pa = .host) : isHost pa = true := by
  unfold paKind at h
  split at h
  · cases h
  · split at h
    · cases h
    · split at h
      · cases h
      · split at h
        · cases h
        · split at h
          · next hrange => exact decide_eq_true hrange.1
          · cases h

/-- No register says which HBM addresses there are. -/
theorem paOk_hbm {pa : Nat} (h : paKind pa = .hbm) (a b : Dev) (n : Nat) : b.paOk pa n = a.paOk pa n := by
  unfold Dev.paOk
  rw [h]

/-- An HBM byte has one of the 384 channels (R194). -/
theorem hbmChannel_lt (d : Dev) (pa : Nat) : d.hbmChannel pa < 384 := by
  unfold Dev.hbmChannel hbmChannelRow
  dsimp only
  split
  · rw [Nat.zero_add]
    exact Nat.mod_lt _ (by decide)
  · have hpos := Nat.mod_lt pa (show 0 < 3 * gib by decide)
    have hdie : pa % (3 * gib) / 0x30000000 < 4 := by
      simp only [gib] at hpos ⊢
      omega
    have hin := Nat.mod_lt (pa % (3 * gib) % 0x30000000 / 2048 +
      5 * (pa % (3 * gib) % 0x30000000 / 2048 / 96 ^^^ pa % (3 * gib) % 0x30000000 / 2048 / 96 / 64)) (show 0 < 96 by decide)
    omega

/-- And so one of the 32 slices is its home (R171). -/
theorem homeSlice_lt {pa : Nat} (h : paKind pa = .hbm) (d : Dev) : d.homeSlice pa < 32 := by
  unfold Dev.homeSlice
  rw [h]
  have hchannel := hbmChannel_lt d pa
  dsimp only
  omega

end Sys2Proof.Machine
end

section
/-! PROOF. The proof of O27: a request at its slice hits, misses, merges, passes through or is lost (R171, R172, R174 to R176, R179,
R180). -/

namespace Sys2Proof.Machine

open Sys2Proof

/-! ### A request that reaches its slice (R172, R175) -/

theorem answers_plazaRequest {s : State} {pa len tag : Nat} {kind : PlzKind} {par : ParityOutcome} {P : State → Prop} (hs : s.powered)
    (hok : PReq.ok ⟨pa, len, kind, some tag⟩ = true) (h : P { s with dev := s.dev.plzServe par ⟨pa, len, kind, some tag⟩ }) :
    Answers (.plazaRequest pa len kind tag par .clean) s P := by
  refine answers_onDev (f := fun d =>
    if PReq.ok ⟨pa, len, kind, some tag⟩ then d.plazaRequest ⟨pa, len, kind, some tag⟩ par .clean else d) hs rfl ?_
  rw [if_pos hok]
  exact h

theorem length_of_write {pa len : Nat} {tag : Option Nat} {data : List Byte} (h : PReq.ok ⟨pa, len, .write data, tag⟩ = true) :
    data.length = len := by
  unfold PReq.ok at h
  simp only [Bool.and_eq_true, beq_iff_eq] at h
  exact h.2

theorem len_of_atomic {pa len : Nat} {tag : Option Nat} {op : AtomOp} {ty : AtomType} {a b : Nat}
    (h : PReq.ok ⟨pa, len, .atomic op ty a b, tag⟩ = true) : len = atomBytes ty := by
  unfold PReq.ok at h
  simp only [Bool.and_eq_true, beq_iff_eq] at h
  exact h.2.1.2

theorem plzServe_bounds {d : Dev} {par : ParityOutcome} {r : PReq} (h : d.paOk r.pa r.len = false) :
    d.plzServe par r = d.respond r.tag stBounds [] := if_pos (by simp [h])

theorem plzServe_hbm {d : Dev} {par : ParityOutcome} {r : PReq} (h : d.paOk r.pa r.len = true) (hk : paKind r.pa = .hbm) :
    d.plzServe par r = d.plzHbm par r := by
  unfold Dev.plzServe
  rw [if_neg (by simp [h]), hk]

theorem plzServe_through {d : Dev} {par : ParityOutcome} {r : PReq} (h : d.paOk r.pa r.len = true)
    (hk : paKind r.pa = .ring ∨ paKind r.pa = .host) : d.plzServe par r = d.plzThrough r := by
  unfold Dev.plzServe
  rw [if_neg (by simp [h])]
  rcases hk with hk | hk <;> rw [hk]

/-! ### What is applied to memory -/

/-- A read that no failed channel and no bad word disturbs. -/
theorem readStatus_clean {d : Dev} {pa n : Nat} (hpa : d.paOk pa n = true) (hfailed : d.failed pa n = false) (hbad : d.bad pa n = false) :
    d.readStatus pa n false = (stOk, d) := by
  unfold Dev.readStatus
  simp [hpa, hfailed, hbad]

theorem tryWrite_ok {d : Dev} {pa n : Nat} (h : d.writeStatus pa n = stOk) : d.tryWrite pa n = (stOk, d) := by
  unfold Dev.tryWrite
  dsimp only
  rw [h, if_pos (by decide)]

theorem plzApply_read {d : Dev} {pa len : Nat} {tag : Option Nat} (h : d.readStatus pa len false = (stOk, d)) :
    d.plzApply ⟨pa, len, .read, tag⟩ = d.respond tag stOk (d.read pa len) := by
  unfold Dev.plzApply
  dsimp only
  rw [h]
  rfl

theorem plzApply_write {d : Dev} {pa len : Nat} {data : List Byte} {tag : Option Nat} (h : d.writeStatus pa data.length = stOk) :
    d.plzApply ⟨pa, len, .write data, tag⟩ = ((d.recallCores (lineOf pa)).write pa data).respond tag stOk [] := by
  unfold Dev.plzApply
  dsimp only
  rw [tryWrite_ok h]
  rfl

theorem atomicAt_ok {d : Dev} {op : AtomOp} {ty : AtomType} {pa a b : Nat} (hk : paKind pa = .hbm)
    (hread : d.readStatus pa (atomBytes ty) false = (stOk, d)) (hwrite : d.tryWrite pa (atomBytes ty) = (stOk, d)) :
    d.atomicAt op ty pa a b false = (stOk, leNat (d.read pa (atomBytes ty)),
      d.write pa (leBytes (atomBytes ty) (atomNew op ty (leNat (d.read pa (atomBytes ty))) a b))) := by
  have hnot : ¬ (paKind pa = .ring ∨ isHost pa = true) := by simp [hk, not_isHost_of_kind]
  unfold Dev.atomicAt
  dsimp only
  rw [if_neg hnot, hread]
  split
  · next heq =>
    obtain ⟨-, rfl⟩ := Prod.mk.inj heq
    rw [hwrite]
    rfl
  · next hne heq => exact (hne (Prod.mk.inj heq).1.symm).elim

/-- An atomic of HBM answers the old value and leaves the new one (R165, R179). -/
theorem plzApply_atomic {d : Dev} {pa len : Nat} {op : AtomOp} {ty : AtomType} {a b : Nat} {tag : Option Nat} (hlen : len = atomBytes ty)
    (hk : paKind pa = .hbm) (hpa : d.paOk pa len = true) (hfailed : d.failed pa len = false) (hbad : d.bad pa len = false)
    (hwrite : d.writeStatus pa len = stOk) :
    d.plzApply ⟨pa, len, .atomic op ty a b, tag⟩ =
      ((d.recallCores (lineOf pa)).write pa (leBytes len (atomNew op ty (leNat (d.read pa len)) a b))).respond tag stOk
        (leBytes len (leNat (d.read pa len))) := by
  subst hlen
  have hatomic := atomicAt_ok (d := d.recallCores (lineOf pa)) (op := op) (a := a) (b := b) hk (readStatus_clean hpa hfailed hbad)
    (tryWrite_ok hwrite)
  unfold Dev.plzApply
  dsimp only
  rw [hatomic]
  rfl

/-- An atomic of Ring Road or host memory is refused (R179). -/
theorem plzApply_atomic_refused {d : Dev} {pa len : Nat} {op : AtomOp} {ty : AtomType} {a b : Nat} {tag : Option Nat}
    (h : paKind pa = .ring ∨ isHost pa = true) :
    d.plzApply ⟨pa, len, .atomic op ty a b, tag⟩ = (d.recallCores (lineOf pa)).respond tag stPerm [] := by
  unfold Dev.plzApply Dev.atomicAt
  dsimp only
  rw [if_pos h]
  rfl

/-! ### Requests that reach no HBM line (R171, R172, R179) -/

/-- A response adds nothing to the frame of what came before it. -/
theorem respond_frame {l : List Fld} {s : State} {d : Dev} (tag : Option Nat) (status : Nat) (data : List Byte) (h : Dev.onlyRegs l s.dev d) :
    State.onlyFields l s { s with dev := d.respond tag status data } :=
  onlyFields_of_dev (onlyRegs_trans h (onlyRegs_core _ (respond_core _ _ _ _)))

theorem plzThrough_atomic {d : Dev} {pa len : Nat} {op : AtomOp} {ty : AtomType} {a b : Nat} {tag : Option Nat} (h : d.stallsAt pa = false) :
    d.plzThrough ⟨pa, len, .atomic op ty a b, tag⟩ = d.plzApply ⟨pa, len, .atomic op ty a b, tag⟩ := by
  unfold Dev.plzThrough
  dsimp only
  rw [if_neg (by simp [h]), ite_self]

theorem plzThrough_device {d : Dev} {r : PReq} (h : d.stallsAt r.pa = false) (hdev : isHost r.pa = false) : d.plzThrough r = d.plzApply r := by
  unfold Dev.plzThrough
  rw [if_neg (by simp [h]), if_neg (by simp [hdev])]

/-! ### Hits (R174, R175) -/

/-- The slice with a hit counted and its way touched. -/
def Dev.hitCounted (d : Dev) (slice set w : Nat) : Dev := (d.bump (F.PLZ_HIT_COUNT (slice / 8) (slice % 8)) 1).touchWay slice set w

theorem hitCounted_frame (d : Dev) (slice set w : Nat) : Dev.onlyRegs [F.PLZ_HIT_COUNT (slice / 8) (slice % 8)] d (d.hitCounted slice set w) :=
  onlyRegs_trans (onlyRegs_bump _ _ _) (onlyRegs_core _ (touchWay_core _ _ _ _))

theorem hitCounted_count (d : Dev) (slice set w : Nat) :
    (d.hitCounted slice set w).get (F.PLZ_HIT_COUNT (slice / 8) (slice % 8)) =
      min (2 ^ 64 - 1) (d.get (F.PLZ_HIT_COUNT (slice / 8) (slice % 8)) + 1) := get_bump_same _ _ _

/-- What a request to HBM does where no miss register holds its line and a way does. -/
theorem plzHbm_hit {d : Dev} {pa len : Nat} {kind : PlzKind} {tag : Option Nat} {w : Nat}
    (hmiss : (d.plz.mshrs.any fun m => m.line == lineOf pa) = false)
    (hway : d.findWay (d.homeSlice pa) (lineOf pa) = some w) :
    d.plzHbm .clean ⟨pa, len, kind, tag⟩ = d.plzHit (d.homeSlice pa) w ⟨pa, len, kind, tag⟩ := by
  unfold Dev.plzHbm
  dsimp only
  rw [if_neg (by simp [hmiss]), hway]

theorem plzHit_read (d : Dev) (slice w pa len : Nat) (tag : Option Nat) :
    d.plzHit slice w ⟨pa, len, .read, tag⟩ = (d.hitCounted slice (plazaSet (128 * lineOf pa)) w).plzApply ⟨pa, len, .read, tag⟩ := rfl

theorem plzHit_writes (d : Dev) (slice w : Nat) {r : PReq} (h : plzWrites r.kind = true) :
    d.plzHit slice w r =
      ((d.setWay slice (plazaSet (128 * lineOf r.pa)) w (some ⟨lineOf r.pa, true⟩)).hitCounted slice (plazaSet (128 * lineOf r.pa)) w).plzApply
        r := by
  unfold Dev.plzHit
  dsimp only
  rw [if_pos h]
  rfl

/-- A hit that leaves `data` in memory: the way holds the line as written, the hit is counted, and no other byte changes. -/
theorem hit_written (s : State) (slice set w line pa tag : Nat) (data answer : List Byte) {d t : Dev}
    (hd : d = (s.dev.setWay slice set w (some ⟨line, true⟩)).hitCounted slice set w)
    (ht : t = ((d.recallCores line).write pa data).respond (some tag) stOk answer) :
    t.outs = .response tag stOk answer :: s.dev.outs ∧ t.read pa data.length = data ∧ t.way slice set w = some ⟨line, true⟩ ∧
      t.get (F.PLZ_HIT_COUNT (slice / 8) (slice % 8)) = min (2 ^ 64 - 1) (s.dev.get (F.PLZ_HIT_COUNT (slice / 8) (slice % 8)) + 1) ∧
      State.sameBut s { s with dev := t } ∧ Dev.sameRegsBut [F.PLZ_HIT_COUNT (slice / 8) (slice % 8)] s.dev t ∧
      Dev.sameMemBut [(pa, data.length)] s.dev t ∧ t.sram = s.dev.sram := by
  have hframe : Dev.onlyRegs [F.PLZ_HIT_COUNT (slice / 8) (slice % 8)] s.dev d :=
    hd ▸ onlyRegs_trans (onlyRegs_core _ (setWay_core _ _ _ _ _)) (hitCounted_frame _ _ _ _)
  have hget : ∀ f, t.get f = d.get f := fun f => by rw [ht]; rfl
  refine ⟨?_, ?_, ?_, ?_, ⟨rfl, rfl, rfl⟩, fun f hf => (hget f).trans (hframe.1 f hf), fun x hx => ?_, ?_⟩
  · rw [ht, hd]
    rfl
  · rw [ht]
    exact read_write _ _ _
  · have hways : t.plz.ways = (s.dev.setWay slice set w (some ⟨line, true⟩)).plz.ways := by rw [ht, hd]; rfl
    exact (way_of_plz hways _ _ _).trans (way_setWay _ _ _ _ _)
  · rw [hget, hd, hitCounted_count]
    rfl
  · rw [ht]
    exact (byte_write_outside _ _ _ _ (hx (pa, data.length) List.mem_cons_self)).trans
      (congrArg (fun m => m.byte x) hframe.2.1)
  · rw [ht]
    exact hframe.2.2.1

/-- A request whose line a way holds does what its hit does. -/
theorem answers_hit {s : State} {pa len tag w : Nat} {kind : PlzKind} {P : State → Prop} (hs : s.powered)
    (hok : PReq.ok ⟨pa, len, kind, some tag⟩ = true) (hpa : s.dev.paOk pa len = true) (hk : paKind pa = .hbm)
    (hmiss : (s.dev.plz.mshrs.any fun m => m.line == lineOf pa) = false)
    (hway : s.dev.findWay (s.dev.homeSlice pa) (lineOf pa) = some w)
    (h : P { s with dev := s.dev.plzHit (s.dev.homeSlice pa) w ⟨pa, len, kind, some tag⟩ }) :
    Answers (.plazaRequest pa len kind tag .clean .clean) s P := by
  refine answers_plazaRequest hs hok ?_
  rw [plzServe_hbm hpa hk, plzHbm_hit hmiss hway]
  exact h

/-! ### Misses (R174, R176) -/

theorem plzHbm_miss {d : Dev} {par : ParityOutcome} {pa len : Nat} {kind : PlzKind} {tag : Option Nat}
    (hmiss : (d.plz.mshrs.any fun m => m.line == lineOf pa) = false)
    (hway : d.findWay (d.homeSlice pa) (lineOf pa) = none) :
    d.plzHbm par ⟨pa, len, kind, tag⟩ = d.plzMiss (d.homeSlice pa) ⟨pa, len, kind, tag⟩ := by
  unfold Dev.plzHbm
  dsimp only
  rw [if_neg (by simp [hmiss]), hway]

/-- The device with a miss register taken and its way emptied. -/
def Dev.mshrTaken (d : Dev) (slice line w : Nat) (r : PReq) : Dev :=
  { d.setWay slice (plazaSet (128 * line)) w none with
    plz := { (d.setWay slice (plazaSet (128 * line)) w none).plz with mshrs := d.plz.mshrs ++ [(⟨slice, line, w, [r], []⟩ : Mshr)] } }

theorem mshrTaken_core (d : Dev) (slice line w : Nat) (r : PReq) : Dev.sameCore d (d.mshrTaken slice line w r) := ⟨rfl, rfl, rfl, rfl⟩

/-- It counts among those in use of its slice. -/
theorem mshrTaken_inUse (d : Dev) (slice line w : Nat) (r : PReq) :
    ((d.mshrTaken slice line w r).plz.mshrs.countP fun m => m.slice == slice) = (d.plz.mshrs.countP fun m => m.slice == slice) + 1 := by
  simp [Dev.mshrTaken, List.countP_append]

theorem plzMiss_read {d : Dev} {slice w pa len : Nat} {tag : Option Nat} (hpick : d.pickWay slice (plazaSet (128 * lineOf pa)) = some w)
    (hroom : (d.plz.mshrs.countP fun m => m.slice == slice) < 256) :
    d.plzMiss slice ⟨pa, len, .read, tag⟩ =
      ((d.mshrTaken slice (lineOf pa) w ⟨pa, len, .read, tag⟩).bump (F.PLZ_MISS_COUNT (slice / 8) (slice % 8)) 1).noteUse slice := by
  unfold Dev.plzMiss
  dsimp only
  rw [hpick]
  dsimp only
  rw [if_neg (by simp [PReq.wholeLine]), if_neg (Nat.not_le.mpr hroom)]
  rfl

/-- The registers that show how many miss registers of a slice are in use (R176). -/
def useFields (slice : Nat) : List Fld := [F.PLZ_MSHR_IN_USE (slice / 8) (slice % 8), F.PLZ_MSHR_PEAK (slice / 8) (slice % 8)]

theorem noteUse_frame (d : Dev) (slice : Nat) : Dev.onlyRegs (useFields slice) d (d.noteUse slice) :=
  onlyRegs_puts d [(F.PLZ_MSHR_IN_USE (slice / 8) (slice % 8), _), (F.PLZ_MSHR_PEAK (slice / 8) (slice % 8), _)]

@[simp] theorem noteUse_plz (d : Dev) (slice : Nat) : (d.noteUse slice).plz = d.plz := rfl

theorem noteUse_inUse (d : Dev) (slice : Nat) : (d.noteUse slice).get (F.PLZ_MSHR_IN_USE (slice / 8) (slice % 8)) =
    (d.plz.mshrs.countP fun m => m.slice == slice) % 2 ^ 9 :=
  (get_put_ne _ _ _ _ (by simp [Fld.key, F.PLZ_MSHR_IN_USE, F.PLZ_MSHR_PEAK])).trans (get_put_same _ _ _)

/-- A read that misses takes a miss register and a way. -/
theorem plazaRequest_readMiss {s : State} {pa len tag w : Nat} {par : ParityOutcome} (hs : s.powered)
    (hok : PReq.ok ⟨pa, len, .read, some tag⟩ = true) (hpa : s.dev.paOk pa len = true) (hk : paKind pa = .hbm)
    (hmiss : (s.dev.plz.mshrs.any fun m => m.line == lineOf pa) = false)
    (hway : s.dev.findWay (s.dev.homeSlice pa) (lineOf pa) = none) {slice inUse : Nat} (hslice : slice = s.dev.homeSlice pa)
    (hinUse : inUse = s.dev.plz.mshrs.countP fun m => m.slice == slice)
    (hpick : s.dev.pickWay slice (plazaSet (128 * lineOf pa)) = some w) (hroom : inUse < 256) :
    Answers (.plazaRequest pa len .read tag par .clean) s fun t =>
      t.dev.plz.mshrs = s.dev.plz.mshrs ++ [(⟨slice, lineOf pa, w, [⟨pa, len, .read, some tag⟩], []⟩ : Mshr)] ∧
        t.dev.way slice (plazaSet (128 * lineOf pa)) w = none ∧ t.dev.get (F.PLZ_MSHR_IN_USE (slice / 8) (slice % 8)) = inUse + 1 ∧
        t.dev.get (F.PLZ_MISS_COUNT (slice / 8) (slice % 8)) =
          min (2 ^ 64 - 1) (s.dev.get (F.PLZ_MISS_COUNT (slice / 8) (slice % 8)) + 1) ∧ t.dev.outs = s.dev.outs ∧
        State.onlyFields [F.PLZ_MISS_COUNT (slice / 8) (slice % 8), F.PLZ_MSHR_IN_USE (slice / 8) (slice % 8),
          F.PLZ_MSHR_PEAK (slice / 8) (slice % 8)] s t := by
  refine answers_plazaRequest hs hok ?_
  rw [plzServe_hbm hpa hk, plzHbm_miss hmiss hway, ← hslice, plzMiss_read hpick (hinUse ▸ hroom)]
  generalize htaken : s.dev.mshrTaken slice (lineOf pa) w ⟨pa, len, .read, some tag⟩ = d
  have hcore : Dev.sameCore s.dev d := htaken ▸ mshrTaken_core _ _ _ _ _
  have hcount : (d.plz.mshrs.countP fun m => m.slice == slice) = inUse + 1 := by rw [← htaken, mshrTaken_inUse, hinUse]
  have hbump := onlyRegs_bump d (F.PLZ_MISS_COUNT (slice / 8) (slice % 8)) 1
  have hnote := noteUse_frame (d.bump (F.PLZ_MISS_COUNT (slice / 8) (slice % 8)) 1) slice
  refine ⟨?_, ?_, ?_, ?_, ?_, onlyFields_of_dev ?_⟩
  · rw [noteUse_plz, bump_plz, ← htaken]
    rfl
  · rw [way_of_plz (b := (d.bump (F.PLZ_MISS_COUNT (slice / 8) (slice % 8)) 1).noteUse slice)
      (a := s.dev.setWay slice (plazaSet (128 * lineOf pa)) w none) (by rw [noteUse_plz, bump_plz, ← htaken]; rfl)]
    exact way_setWay _ _ _ _ _
  · rw [noteUse_inUse, bump_plz, hcount]
    exact Nat.mod_eq_of_lt (by omega)
  · refine (hnote.1 _ ?_).trans ((get_bump_same _ _ _).trans (by rw [sameCore_get hcore]; rfl))
    simp only [useFields, List.forall_mem_cons, Fld.key, F.PLZ_MISS_COUNT, F.PLZ_MSHR_IN_USE, F.PLZ_MSHR_PEAK]
    exact ⟨by omega, by omega, by simp⟩
  · rw [← htaken]
    rfl
  · exact onlyRegs_trans (onlyRegs_core _ hcore) (onlyRegs_trans (onlyRegs_mono hbump (by simp)) (onlyRegs_mono hnote (by simp [useFields])))

/-! ### Merges (R176) -/

/-- The device with a request joined to the miss registers of its line. -/
def Dev.joined (d : Dev) (r : PReq) : Dev :=
  { d with plz := { d.plz with mshrs := d.plz.mshrs.map fun m => if m.line = lineOf r.pa then m.join r else m } }

theorem joined_core (d : Dev) (r : PReq) : Dev.sameCore d (d.joined r) := ⟨rfl, rfl, rfl, rfl⟩

/-- With room in the register the request is held by it. -/
theorem joined_mshrs {d : Dev} {r : PReq} (hroom : ∀ m ∈ d.plz.mshrs, m.line = lineOf r.pa → m.reqs.length < 32) :
    (d.joined r).plz.mshrs = d.plz.mshrs.map fun m => if m.line = lineOf r.pa then { m with reqs := m.reqs ++ [r] } else m := by
  refine List.map_congr_left fun m hm => ?_
  split
  · next hline => exact if_pos (hroom m hm hline)
  · rfl

theorem plzHbm_merge {d : Dev} {par : ParityOutcome} {r : PReq} (hheld : ∃ m ∈ d.plz.mshrs, m.line = lineOf r.pa)
    (hroom : ∀ m ∈ d.plz.mshrs, m.line = lineOf r.pa → m.reqs.length < 32) :
    d.plzHbm par r = (d.joined r).bump (F.PLZ_MSHR_MERGED (d.homeSlice r.pa / 8) (d.homeSlice r.pa % 8)) 1 := by
  have hany : (d.plz.mshrs.any fun m => m.line == lineOf r.pa) = true := by simpa using hheld
  have hfull : ¬ (d.plz.mshrs.any fun m => m.line == lineOf r.pa && 32 ≤ m.reqs.length) = true := by simpa using hroom
  unfold Dev.plzHbm
  dsimp only
  rw [if_pos hany, if_neg hfull]
  rfl

/-! ### Lines that are lost (R180, R391) -/

theorem plzHbm_lost {d : Dev} {pa len : Nat} {kind : PlzKind} {tag : Option Nat} {w : Nat}
    (hmiss : (d.plz.mshrs.any fun m => m.line == lineOf pa) = false)
    (hway : d.findWay (d.homeSlice pa) (lineOf pa) = some w)
    (hwritten : d.way (d.homeSlice pa) (plazaSet (128 * lineOf pa)) w = some ⟨lineOf pa, true⟩) :
    d.plzHbm .failed ⟨pa, len, kind, tag⟩ = d.parityLost (d.homeSlice pa) ⟨pa, len, kind, tag⟩ := by
  unfold Dev.plzHbm
  dsimp only
  rw [if_neg (by simp [hmiss]), hway]
  exact if_pos hwritten

theorem uncorrCount_away {slice : Nat} (h : slice < 32) : (F.PLZ_PERR_UNCORR (slice / 8) (slice % 8)).awayFromEvents :=
  away_of_low (by simp only [F.PLZ_PERR_UNCORR]; omega) (by simp [F.PLZ_PERR_UNCORR])

/-- What leaves registers, memory and events alone leaves a raised event on record. -/
theorem raisedOne_core {a b c : Dev} {cls status source : Nat} {detail : List Nat} (hc : Dev.sameCore b c)
    (h : Dev.raisedOne a b cls status source detail) : Dev.raisedOne a c cls status source detail := by
  obtain ⟨e, hevents, hrest⟩ := h
  exact ⟨e, hc.2.2.2.trans hevents, hrest⟩

theorem onlyFieldsEv_core {l : List Fld} {s : State} {b c : Dev} (hc : Dev.sameCore b c)
    (h : State.onlyFieldsEv l s { s with dev := b }) : State.onlyFieldsEv l s { s with dev := c } := by
  obtain ⟨-, hregs, hmem, hsram⟩ := h
  exact ⟨⟨rfl, rfl, rfl⟩, fun f hf => (sameCore_get hc f).trans (hregs f hf),
    fun x hx hl => (congrArg (fun m => m.byte x) hc.2.1).trans (hmem x hx hl), hc.2.2.1.trans hsram⟩

/-- A parity failure that stays on a written line loses it: an event, a count, a response with the error. -/
theorem plazaRequest_lost {s : State} {pa len tag w : Nat} {kind : PlzKind} (hs : s.powered) (hok : PReq.ok ⟨pa, len, kind, some tag⟩ = true)
    (hpa : s.dev.paOk pa len = true) (hk : paKind pa = .hbm) (hmiss : (s.dev.plz.mshrs.any fun m => m.line == lineOf pa) = false)
    (hway : s.dev.findWay (s.dev.homeSlice pa) (lineOf pa) = some w)
    (hwritten : s.dev.way (s.dev.homeSlice pa) (plazaSet (128 * lineOf pa)) w = some ⟨lineOf pa, true⟩) {lost : Fld}
    (hlost : lost = F.PLZ_PERR_UNCORR (s.dev.homeSlice pa / 8) (s.dev.homeSlice pa % 8)) :
    Answers (.plazaRequest pa len kind tag .failed .clean) s fun t =>
      t.dev.outs.head? = some (.response tag stUncorrectable []) ∧ Dev.raisedOne s.dev t.dev evRas stUncorrectable 0 [pa] ∧
        t.dev.get lost = min (2 ^ 16 - 1) (s.dev.get lost + 1) ∧ State.onlyFieldsEv [lost] s t := by
  have haway : lost.awayFromEvents := hlost ▸ uncorrCount_away (homeSlice_lt hk s.dev)
  have hbump := onlyRegs_bump s.dev lost 1
  have hfree : RingFree [lost] := ringFree_of_away (by simpa using haway)
  have hcount : ((s.dev.bump lost 1).raise evRas stUncorrectable 0 [pa]).get lost = min (2 ^ 16 - 1) (s.dev.get lost + 1) := by
    rw [raise_get _ _ _ _ _ haway, get_bump_same, hlost]
    rfl
  refine answers_plazaRequest hs hok ?_
  rw [plzServe_hbm hpa hk, plzHbm_lost hmiss hway hwritten, Dev.parityLost, ← hlost]
  have hcore := respond_core ((s.dev.bump lost 1).raise evRas stUncorrectable 0 [pa]) (some tag) stUncorrectable []
  exact ⟨congrArg List.head? (respond_outs _ _ _ _), raisedOne_core hcore (raise_one_after hbump hfree _ _ _ _),
    (sameCore_get hcore _).trans hcount,
    onlyFieldsEv_core hcore (onlyFieldsEv_of_dev (raise_regs_after hbump.1 _ _ _ _) (raise_mem_after hbump hfree _ _ _ _))⟩

/-- Settles O27: one lemma for each way that a request of a line can go at its slice. -/
theorem plazaServesHitsMissesAndMerges : Obligations.PlazaServesHitsMissesAndMerges := by
  unfold Obligations.PlazaServesHitsMissesAndMerges
  refine ⟨?bounds, ?hit, ?miss, ?merge, ?ring, ?refused, ?lost⟩
  case bounds =>
    intro s pa len tag kind par hs hok hpa
    refine answers_plazaRequest hs hok ?_
    rw [plzServe_bounds hpa]
    exact ⟨rfl, respond_frame _ _ _ (onlyRegs_refl _ _)⟩
  case hit =>
    intro s pa len tag w kind hs hok hpa hk slice set hits hmiss hway
    refine ⟨fun hkind hread => ?_, fun d hd => ⟨fun data hkind hwrite => ?_, fun op ty a b hkind hwrite hfailed hbad => ?_⟩⟩
    · subst hkind
      have hread : (s.dev.hitCounted slice set w).readStatus pa len false = (stOk, s.dev.hitCounted slice set w) := hread
      refine answers_hit hs hok hpa hk hmiss hway ?_
      rw [plzHit_read, plzApply_read hread]
      exact ⟨rfl, hitCounted_count s.dev slice set w, plzTree_touchWay (s.dev.bump hits 1) slice set w, rfl,
        respond_frame _ _ _ (hitCounted_frame s.dev slice set w)⟩
    · subst hkind
      have hd : d = (s.dev.setWay slice set w (some ⟨lineOf pa, true⟩)).hitCounted slice set w := hd
      obtain rfl := length_of_write hok
      refine answers_hit hs hok hpa hk hmiss hway ?_
      rw [plzHit_writes _ _ _ rfl, ← hd, plzApply_write hwrite]
      exact hit_written s slice set w (lineOf pa) pa tag data [] hd rfl
    · subst hkind
      intro old
      have hd : d = (s.dev.setWay slice set w (some ⟨lineOf pa, true⟩)).hitCounted slice set w := hd
      have hold : d.read pa len = s.dev.read pa len := by rw [hd]; rfl
      have hpa' : d.paOk pa len = true := (paOk_hbm hk s.dev d len).trans hpa
      refine answers_hit hs hok hpa hk hmiss hway ?_
      rw [plzHit_writes _ _ _ rfl, ← hd, plzApply_atomic (len_of_atomic hok) hk hpa' hfailed hbad hwrite, hold]
      have hhit := hit_written s slice set w (lineOf pa) pa tag (leBytes len (atomNew op ty old a b)) (leBytes len old) hd rfl
      rw [length_leBytes] at hhit
      obtain ⟨houts, hread, hheld, -, hsame, hregs, hmem, hsram⟩ := hhit
      exact ⟨houts, hread, hheld, hsame, hregs, hmem, hsram⟩
  case miss =>
    intro s pa len tag w par hs hok hpa hk slice inUse hmiss hway hpick hroom
    exact plazaRequest_readMiss hs hok hpa hk hmiss hway rfl rfl hpick hroom
  case merge =>
    intro s pa len tag kind par hs hok hpa hk hheld hroom merged
    refine answers_plazaRequest hs hok ?_
    rw [plzServe_hbm hpa hk, plzHbm_merge hheld hroom]
    exact ⟨joined_mshrs hroom, get_bump_same _ _ _, rfl,
      onlyFields_of_dev (onlyRegs_trans (onlyRegs_core _ (joined_core _ _)) (onlyRegs_bump _ _ _))⟩
  case ring =>
    intro s pa len tag par hs hok hpa hk hstall hread
    refine answers_plazaRequest hs hok ?_
    rw [plzServe_through hpa (.inl hk), plzThrough_device hstall (not_isHost_of_kind (by simp [hk]) (by simp [hk])), plzApply_read hread]
    exact ⟨rfl, rfl, respond_frame _ _ _ (onlyRegs_refl _ _)⟩
  case refused =>
    intro s pa len tag op ty a b par hs hok hpa hk hstall
    refine answers_plazaRequest hs hok ?_
    rw [plzServe_through hpa hk, plzThrough_atomic hstall, plzApply_atomic_refused (hk.imp_right isHost_of_host)]
    exact ⟨rfl, respond_frame _ _ _ (onlyRegs_core _ (recallCores_core _ _))⟩
  case lost =>
    intro s pa len tag w kind hs hok hpa hk hmiss hway hwritten lost
    exact plazaRequest_lost hs hok hpa hk hmiss hway hwritten rfl

end Sys2Proof.Machine
end

section
/-! PROOF. The refutation of O28: a fill that meets a zero-line, on a memory whose cells are out of order. -/

namespace Sys2Proof.Machine

open Sys2Proof

/-! ### A zero-line at its fill, on a memory that is out of order (R177, R178) -/

/-- A miss register for the line at 0x3000000000 of slice 0 that holds a read of its first 64 bytes and a zero-line. -/
def readThenZero : Mshr := ⟨0, 0x60000000, 5, [⟨0x3000000000, 64, .read, some 0⟩, ⟨0x3000000000, 128, .zero, some 1⟩], []⟩

/-- The state after power-on reset but for that register and a memory that is out of order. -/
def fillAwaited : State :=
  { State.reset with dev := { Dev.reset with plz := { PlzSt.reset with mshrs := [readThenZero] }, mem := unsortedBuffer } }

theorem fillAwaited_powered : fillAwaited.powered := by
  unfold State.powered
  decide +kernel

/-- The byte at 5, which is not of that line, reads 0. -/
theorem fillAwaited_before : fillAwaited.dev.mem.byte 5 = 0#8 := by decide +kernel

/-- The zero-line takes the cell of the line's first byte away: the byte at 5 appears. -/
theorem fillAwaited_filled : (fillAwaited.dev.fillReturn (0 : Fin 32).val 0x60000000 false).mem.byte 5 = 1#8 := by decide +kernel

/-- Refutes O28: the statement quantifies over every memory. In one that is out of order a fill that meets a zero-line lets a byte appear
that does not lie in the line. -/
theorem not_plazaFillsAndLostHeaders : ¬ Obligations.PlazaFillsAndLostHeaders := by
  intro h
  obtain ⟨hfill, -⟩ := h
  obtain ⟨-, hzero⟩ := hfill fillAwaited 0 0x60000000 readThenZero _ fillAwaited_powered (by decide +kernel) (by decide +kernel) rfl
    (by decide +kernel) (by decide +kernel) rfl (by decide +kernel)
  obtain ⟨t, hexec, -, -, -, -, -, -, hmem, -⟩ := hzero 0x3000000000 64 0 1 rfl
  have hnext := onDev_powered (fun d => d.fillReturn (0 : Fin 32).val 0x60000000 false) fillAwaited fillAwaited_powered
  obtain rfl := Host.Outcome.next.inj (hnext.symm.trans hexec)
  have hbyte := hmem 5 (by decide +kernel)
  exact absurd (fillAwaited_filled.symm.trans (hbyte.trans fillAwaited_before)) (by decide)

end Sys2Proof.Machine
end

section
/-! PROOF. The refutation of O30: an ALLOC on a memory whose cells are out of order. -/

namespace Sys2Proof.Machine

open Sys2Proof

/-! ### An ALLOC that HBM can meet (R196 to R198) -/

/-- The entry that may run is the one that the device holds. -/
theorem entry_of_entryFor {d : Dev} {q seq type : Nat} {x : Queue} {e : Entry} (h : d.entryFor q seq type = some (x, e)) :
    d.entry q seq = some e := by
  unfold Dev.entryFor at h
  split at h
  · split at h
    · cases h
      assumption
    · cases h
  · cases h

/-- ALLOC of an entry that may run and is no FREE. -/
theorem exec_alloc {s : State} {q seq : Nat} {x : Queue} {e : Entry} {d : Dev} (hs : s.powered) (h : s.dev.entryRuns q seq tyMemory x e d)
    (hop : (frameDesc e.desc).op ≠ 1) : exec (.alloc q seq) s = .next { s with dev := Dev.allocEntry x e d } := by
  obtain ⟨hfor, rfl⟩ := h
  refine (onDev_powered (fun d => match d.entry q seq with
    | some e => if (frameDesc e.desc).op = 1 then d else Dev.onEntry q seq tyMemory Dev.allocEntry d
    | none => d) s hs).trans ?_
  rw [entry_of_entryFor hfor]
  dsimp only
  rw [if_neg hop, onEntry_runs _ hfor]

@[simp] theorem finishEntry_mem (d : Dev) (q seq status result : Nat) : (d.finishEntry q seq status result).mem = d.mem := rfl

/-- An ALLOC that HBM can meet, on a list of one extent in device memory that may be written: its frames are settled, then listed. -/
theorem allocEntry_hbm {x : Queue} {e : Entry} {d d1 d2 : Dev} {l : List Extent} {hbm : List Frame} {pa : Nat}
    (hzeros : (frameDesc e.desc).zeros = true) (hscratch : (frameDesc e.desc).scratch = true → d.has ftScratch = true)
    (hcount : (frameDesc e.desc).count ≠ 0) (halign : (frameDesc e.desc).list % 8 = 0)
    (hlocal : ¬ ((frameDesc e.desc).size = 2 ∧ (frameDesc e.desc).mode = 1))
    (hwalk : d.obtain ⟨0, holderFrames, x.root, x.part, (frameDesc e.desc).list, 8 * (frameDesc e.desc).count, 2, false,
      some (e.queue, e.seq)⟩ = (.ok l, d1))
    (hruns : extentRuns l (frameDesc e.desc).list (8 * (frameDesc e.desc).count) = [(pa, 8 * (frameDesc e.desc).count)])
    (hwait : d1.runsWait [(pa, 8 * (frameDesc e.desc).count)] = false)
    (hwrite : d1.writeStatus pa (8 * (frameDesc e.desc).count) = stOk) (hhost : isHost pa = false)
    (hchoose : d1.chooseFrames x.part (frameDesc e.desc) = some (hbm, [], d2)) :
    Dev.allocEntry x e d = ((d2.settleFrames hbm).writeRuns [(pa, 8 * (frameDesc e.desc).count)]
      ((byAddress hbm).flatMap fun f => frameEntry f (frameDesc e.desc).size false)).finishEntry e.queue e.seq stOk 0 := by
  unfold Dev.allocEntry
  dsimp only
  rw [if_neg (by simpa [hzeros] using hscratch), if_neg hcount, if_neg (not_not_intro halign)]
  unfold Dev.frameList
  rw [hwalk]
  dsimp only
  rw [hruns, hwait, if_neg Bool.false_ne_true, if_neg (by simpa using hlocal), hchoose]
  dsimp only
  rw [if_neg (by simp [Dev.writeRunsStatus, hwrite])]
  simp [hhost]

/-! ### A frame handed out on a memory that is out of order (R198) -/

/-- Memory cells out of order: a read of address 5 stops at the cell of address 0x10000 in front of it. -/
def unsortedFrames : Mem := ⟨[(0x10000, 1#8), (5, 1#8)], []⟩

/-- An entry that asks for one frame of 64 KiB; its list stands at 0x40. -/
def oneFrameEntry : Entry := ⟨5, 9, tyMemory, false, false, 3, 7, [0x40, 1, 0x200].flatMap (leBytes 8), false, none, false⟩

/-- Its queue: partition 1, root 3, RUNNING. -/
def oneFrameQueue : Queue := ⟨1, 1, 1, 3, 0, false, 0, 4, 0, 4, 0, qsRunning, 0, 0, 0, 0, 0, 0, 0⟩

/-- The state after power-on reset but for that entry and its queue, that memory, one frame that partition 1 holds at 0, its quota, and
root 3, which maps virtual addresses onto themselves. -/
def frameAsked : State :=
  { State.reset with
    dev := { Dev.reset.puts [(F.RBT_ROOT_VALID 3, 1), (F.RBT_ROOT_PART 3, 1), (F.ARB_FQ_QUOTA 1, 1)] with
      mem := unsortedFrames,
      rbt := { RbtSt.reset with ranges := [⟨3, 0, 36, 0, 7⟩] },
      tier := { TierSt.reset with frames := [⟨0, 0x10000, 1, false, false⟩] },
      host := { HostSt.reset with queues := [(5, some oneFrameQueue)], entries := [oneFrameEntry] } } }

/-- The same once the entry is marked as started. -/
def frameAskedStarted : Dev := frameAsked.dev.mapEntry 5 9 fun e => { e with started := true }

/-- The device with the frame list translated. -/
def frameListWalked : Dev := (frameAskedStarted.obtain ⟨0, holderFrames, 3, 1, 0x40, 8, 2, false, some (5, 9)⟩).2

/-- The frame that the request takes, and the device with it in the map. -/
def frameTaken : Frame := ⟨0x10000, 0x10000, 1, false, false⟩
def frameChosen : Dev := (Dev.takeHbm (frameDesc oneFrameEntry.desc) 1 1 frameListWalked).2

theorem frameAsked_powered : frameAsked.powered := by
  unfold State.powered
  decide +kernel

theorem frameAsked_runs : frameAsked.dev.entryRuns 5 9 tyMemory oneFrameQueue oneFrameEntry frameAskedStarted := ⟨by decide +kernel, rfl⟩

theorem frameAsked_walk : frameAskedStarted.obtain ⟨0, holderFrames, 3, 1, 0x40, 8, 2, false, some (5, 9)⟩ =
    (.ok [⟨0x40, 8, 0x40, 7⟩], frameListWalked) := by decide +kernel

theorem frameAsked_choice : frameListWalked.chooseFrames 1 (frameDesc oneFrameEntry.desc) = some ([frameTaken], [], frameChosen) := by
  decide +kernel

/-- The byte at 5, which lies in the frame that was held before, reads 0. -/
theorem frameAsked_before : frameAsked.dev.mem.byte 5 = 0#8 := by decide +kernel

/-- Zeroing the frame takes the cell of its first byte away: the byte at 5 appears. -/
theorem frameChosen_settled (n : Nat) (data : List Byte) :
    ((frameChosen.settleFrames [frameTaken]).writeRuns [(0x40, n)] data).mem.byte 5 = 1#8 := by
  have hzeroed : (frameChosen.settleFrames [frameTaken]).mem.byte 5 = 1#8 := by
    rw [settleFrames_mem]
    decide +kernel
  unfold Dev.writeRuns Dev.writeRuns
  rw [dev_write_byte, if_neg (by omega), hzeroed]

/-- So it appears once the entry has run. -/
theorem frameAsked_allocated : (Dev.allocEntry oneFrameQueue oneFrameEntry frameAskedStarted).mem.byte 5 = 1#8 := by
  have hentry := allocEntry_hbm (x := oneFrameQueue) (e := oneFrameEntry) (pa := 0x40) (by decide +kernel) (by decide +kernel)
    (by decide +kernel) (by decide +kernel) (by decide +kernel) frameAsked_walk (by decide +kernel) (by decide +kernel) (by decide +kernel)
    (by decide) frameAsked_choice
  rw [hentry, finishEntry_mem]
  exact frameChosen_settled _ _

/-- Refutes O30: the statement quantifies over every memory. In one that is out of order ALLOC, which zeroes the frame it takes, lets a
byte appear that lies neither in the frame nor in the list. -/
theorem not_framesAreAllocatedAndFreed : ¬ Obligations.FramesAreAllocatedAndFreed := by
  intro h
  obtain ⟨halloc, -⟩ := h
  obtain ⟨hmet, -⟩ := halloc frameAsked 5 9 0x40 oneFrameQueue oneFrameEntry frameAskedStarted frameListWalked [⟨0x40, 8, 0x40, 7⟩]
    frameAsked_powered frameAsked_runs (by decide) (by decide +kernel) (by decide +kernel) (by decide +kernel) (by decide +kernel)
    (by decide +kernel) (by decide +kernel) frameAsked_walk (by decide +kernel) (by decide +kernel) (by decide +kernel) (by decide)
  obtain ⟨t, hexec, -, -, -, -, -, -, -, -, -, hmem, -⟩ := hmet [frameTaken] frameChosen frameAsked_choice
  have hnext := exec_alloc frameAsked_powered frameAsked_runs (by decide +kernel)
  obtain rfl := Host.Outcome.next.inj (hnext.symm.trans hexec)
  have hbyte := hmem 5 (by decide +kernel)
  exact absurd (frameAsked_allocated.symm.trans (hbyte.trans frameAsked_before)) (by decide)

end Sys2Proof.Machine
end

section
/-! SUPPORT. Memory tiers: what events, HOLDs and a channel's new state leave alone (R61, R211, R389). -/

namespace Sys2Proof.Machine

open Sys2Proof

/-! ### What an event leaves of the tiers -/

/-- A record shorter than a line mends no code word. -/
theorem write_tier {data : List Byte} (h : data.length < 128) (d : Dev) (pa : Nat) : (d.write pa data).tier = d.tier := by
  have hwords : (d.tier.badWords.filter fun w => !lineFull pa data.length (w / 2)) = d.tier.badWords := by
    rw [List.filter_eq_self]
    intro w _
    simp [lineFull, inside]
    omega
  show { d.tier with badWords := d.tier.badWords.filter fun w => !lineFull pa data.length (w / 2) } = d.tier
  rw [hwords]

theorem ringWrite_tier {rec : List Byte} (h : rec.length = 64) (d : Dev) (r : Nat) : (d.ringWrite r rec).tier = d.tier := by
  have hkeep : ∀ pa : Nat, (d.keepRecord pa rec false).tier = d.tier := fun pa => by
    unfold Dev.keepRecord
    split <;> rfl
  have hrecord : ∀ pa : Nat, (d.writeRecord pa rec false).tier = d.tier := fun pa => by
    unfold Dev.writeRecord
    dsimp only
    split
    · exact hkeep pa
    · exact (write_tier (by omega) _ _).trans (hkeep pa)
  have hvector : ∀ (e : Dev) (v : Nat), (e.sendVector v).tier = e.tier := fun e v => by
    unfold Dev.sendVector
    split <;> rfl
  unfold Dev.ringWrite
  split
  · rfl
  · dsimp only
    split
    · rfl
    · rw [hvector, put_tier, hrecord]

@[simp] theorem raise_tier (d : Dev) (cls status source : Nat) (detail : List Nat) : (d.raise cls status source detail).tier = d.tier := by
  have hnotify : ∀ (e : Dev) (rec : List Byte), (e.notify rec).tier = e.tier := fun e rec => by
    unfold Dev.notify
    split
    · rfl
    · split <;> rfl
  rw [raise_eq, hnotify, ringWrite_tier (event_bytes_length _)]
  rfl

/-! ### What a HOLD leaves of them -/

@[simp] theorem assertHold_tier (d : Dev) (c : Nat) : (d.assertHold c).tier = d.tier :=
  show (d.assertHold c).sansHold.tier = d.sansHold.tier from congrArg Dev.tier (assertHold_sansHold d c)

@[simp] theorem clearHold_tier (d : Dev) (c : Nat) : (d.clearHold c).tier = d.tier :=
  show (d.clearHold c).sansHold.tier = d.sansHold.tier from congrArg Dev.tier (clearHold_sansHold d c)

@[simp] theorem clearHold_plz (d : Dev) (c : Nat) : (d.clearHold c).plz = d.plz :=
  show (d.clearHold c).sansHold.plz = d.sansHold.plz from congrArg Dev.plz (clearHold_sansHold d c)

/-! ### Frames of commands that raise events -/

theorem eventFrame_of_only {l : List Fld} {a b : Dev} (h : Dev.onlyRegs l a b) (hl : RingFree l) : Dev.eventFrame l a b :=
  ⟨sameRegsBut_mono h.1 fun _ hf => List.mem_append_left _ hf, sameMemButRings_same h.2.1 h.2.2.1, hl.inEventRing h.1⟩

theorem eventFrame_of_core {a b : Dev} (l : List Fld) (h : Dev.sameCore a b) : Dev.eventFrame l a b :=
  ⟨fun f _ => sameCore_get h f, sameMemButRings_same h.2.1 h.2.2.1, ringFree_nil.inEventRing fun f _ => sameCore_get h f⟩

theorem tierSet_core (d : Dev) (x : TierSt) : Dev.sameCore d { d with tier := x } := ⟨rfl, rfl, rfl, rfl⟩

theorem eventFrame_mono {l m : List Fld} {a b : Dev} (h : Dev.eventFrame l a b) (hs : ∀ f ∈ l, f ∈ m) : Dev.eventFrame m a b := by
  obtain ⟨hregs, hmem⟩ := h
  exact ⟨sameRegsBut_mono hregs fun f hf => List.mem_append.mpr ((List.mem_append.mp hf).imp_left (hs f)), hmem⟩

theorem eventFrame_trans {l : List Fld} {a b c : Dev} (h : Dev.eventFrame l a b) (k : Dev.eventFrame l b c) : Dev.eventFrame l a c := by
  obtain ⟨hregs, hmem, hrings⟩ := h
  obtain ⟨kregs, kmem, krings⟩ := k
  exact ⟨sameRegsBut_trans hregs kregs, sameMemButRings_trans hmem kmem hrings, fun x => (krings x).trans (hrings x)⟩

/-- An event's own frame. -/
theorem eventFrame_raised (l : List Fld) (d : Dev) (cls status source : Nat) (detail : List Nat) :
    Dev.eventFrame l d (d.raise cls status source detail) :=
  eventFrame_mono (eventFrame_raise (onlyRegs_refl [] d) ringFree_nil _ _ _ _) fun _ h => nomatch h

theorem onlyFieldsEv_of_frame {l : List Fld} {s : State} {d : Dev} (h : Dev.eventFrame l s.dev d) :
    State.onlyFieldsEv l s { s with dev := d } := onlyFieldsEv_of_dev h.1 h.2.1

/-- A field that neither the frame nor an event names reads as before. -/
theorem eventFrame_get {l : List Fld} {a b : Dev} (h : Dev.eventFrame l a b) {f : Fld} (haway : f.awayFromEvents)
    (hl : ∀ g ∈ l, f.key ≠ g.key) : b.get f = a.get f :=
  h.1 f fun g hg => (List.mem_append.mp hg).elim (hl g) (awayFromEvents_ne haway g)

/-- The one event that follows some register writes. -/
theorem raisedOne_before {l : List Fld} {a b c : Dev} {cls status source : Nat} {detail : List Nat} (h : Dev.onlyRegs l a b)
    (hl : RingFree l) (k : Dev.raisedOne b c cls status source detail) : Dev.raisedOne a c cls status source detail := by
  obtain ⟨e, he, hcls, hstatus, hsource, hdetail, hseq⟩ := k
  exact ⟨e, he.trans (by rw [h.2.2.2]), hcls, hstatus, hsource, hdetail, hseq.trans (h.1 _ fun g hg => (hl g hg).1)⟩

/-- Some events, each of what the device then shows. -/
theorem foldl_raise_frame {α : Type} (cls status : Nat) (source : α → Nat) (detail : Dev → α → List Nat) (l : List Fld) (xs : List α) :
    ∀ d : Dev, Dev.eventFrame l d (xs.foldl (fun d x => d.raise cls status (source x) (detail d x)) d) ∧
      (xs.foldl (fun d x => d.raise cls status (source x) (detail d x)) d).tier = d.tier ∧
      Dev.partsAlike d (xs.foldl (fun d x => d.raise cls status (source x) (detail d x)) d) := by
  induction xs with
  | nil => exact fun d => ⟨eventFrame_mono (eventFrame_refl d) (fun _ h => nomatch h), rfl, partsAlike_of_parts rfl⟩
  | cons x xs ih =>
    intro d
    obtain ⟨hframe, htier, hparts⟩ := ih (d.raise cls status (source x) (detail d x))
    exact ⟨eventFrame_trans (eventFrame_raised l d _ _ _ _) hframe, htier.trans (raise_tier _ _ _ _ _),
      partsAlike_trans (raise_parts _ _ _ _ _) hparts⟩

/-! ### The registers of chapter 10 -/

/-- A field of the block of the memory tiers. -/
def Fld.inTiers (f : Fld) : Prop := 0xC00000 ≤ f.off ∧ f.off < 0xC03000 ∧ f.lo < 64

theorem Fld.inTiers.away {f : Fld} (h : f.inTiers) : f.awayFromEvents := by
  obtain ⟨-, hoff, hlo⟩ := h
  exact away_of_low (by omega) hlo

theorem holdFields_away : ∀ f ∈ holdFields, f.awayFromEvents := by
  unfold Fld.awayFromEvents
  decide

/-- No HOLD writes one. -/
theorem Fld.inTiers.ne_hold {f : Fld} (h : f.inTiers) : ∀ g ∈ holdFields, f.key ≠ g.key := by
  obtain ⟨hoff, -, hlo⟩ := h
  intro g hg
  simp only [holdFields, List.mem_cons, List.not_mem_nil, or_false] at hg
  rcases hg with rfl | rfl | rfl <;> refine key_ne hlo (by decide) (.inl ?_) <;>
    simp only [F.TCK_STATUS_CAUSES, F.TCK_STATUS_STATE, F.TCK_STATUS_DCAUSES] <;> omega

/-- Fields of the tiers and of a HOLD set up no ring. -/
theorem ringFree_tiers {l : List Fld} (h : ∀ f ∈ l, f.inTiers) : RingFree l := ringFree_of_away fun f hf => (h f hf).away

theorem ringFree_hold : RingFree holdFields := ringFree_of_away holdFields_away

theorem ringFree_append {l m : List Fld} (hl : RingFree l) (hm : RingFree m) : RingFree (l ++ m) :=
  fun g hg => (List.mem_append.mp hg).elim (hl g) (hm g)

theorem ringFree_cons {f : Fld} {l : List Fld} (hf : f.awayFromEvents) (hl : RingFree l) : RingFree (f :: l) :=
  ringFree_append (l := [f]) (ringFree_of_away (by simpa using hf)) hl

theorem chanState_inTiers {c : Nat} (h : c < 384) : (F.MEM_CHAN_STATE c).inTiers := by
  simp only [Fld.inTiers, F.MEM_CHAN_STATE]
  omega

theorem chanRetrains_inTiers {c : Nat} (h : c < 384) : (F.MEM_CHAN_RETRAINS c).inTiers := by
  simp only [Fld.inTiers, F.MEM_CHAN_RETRAINS]
  omega

theorem reserve_inTiers {st : Nat} (h : st < 12) : (F.MEM_STACK_RESERVE st).inTiers := by
  simp only [Fld.inTiers, F.MEM_STACK_RESERVE]
  omega

theorem creqFields_inTiers : ∀ f ∈ creqFields, f.inTiers := by
  unfold Fld.inTiers
  decide

theorem creqStatus_inTiers : F.MEM_CREQ_STATUS.inTiers := by
  unfold Fld.inTiers
  decide

/-! ### A channel's state (R61, R211) -/

/-- What follows the write of a channel's state. -/
def chanShown : List Fld := [F.SCH_TRC_CHAN_OUT, F.MEM_FREE_HBM_FREE, F.MEM_FREE_RR_FREE]

theorem ringFree_chanShown : RingFree chanShown := ringFree_of_away (by unfold Fld.awayFromEvents; decide)

theorem ringFree_chanFields {c : Nat} (h : c < 384) : RingFree (chanFields c) := ringFree_cons (chanState_inTiers h).away ringFree_chanShown

/-- A field of the tiers other than the free counts is none that follows. -/
theorem ne_chanShown {f : Fld} (h : f.inTiers) (hfree : f.off ≠ 0xC02208) : ∀ g ∈ chanShown, f.key ≠ g.key := by
  obtain ⟨hoff, -, hlo⟩ := h
  intro g hg
  simp only [chanShown, List.mem_cons, List.not_mem_nil, or_false] at hg
  rcases hg with rfl | rfl | rfl <;> refine key_ne hlo (by decide) (.inl ?_) <;>
    simp only [F.SCH_TRC_CHAN_OUT, F.MEM_FREE_HBM_FREE, F.MEM_FREE_RR_FREE] <;> omega

theorem countFree_frame (d : Dev) : Dev.onlyRegs chanShown d d.countFree := onlyRegs_mono (onlyRegs_puts d _) (by simp [chanShown])

theorem setChan_after (d : Dev) (c st : Nat) : Dev.onlyRegs chanShown (d.put (F.MEM_CHAN_STATE c) st) (d.setChan c st) := by
  have hout : ∀ (e : Dev) (v : Nat), Dev.onlyRegs chanShown e (e.put F.SCH_TRC_CHAN_OUT v) := fun e v => onlyRegs_put _ _ _ _ (by simp [chanShown])
  unfold Dev.setChan
  dsimp only
  split
  · exact onlyRegs_trans (hout _ _) (countFree_frame _)
  · exact hout _ _

theorem setChan_frame (d : Dev) (c st : Nat) : Dev.onlyRegs (chanFields c) d (d.setChan c st) :=
  onlyRegs_trans (onlyRegs_put _ _ _ _ (by simp [chanFields])) (onlyRegs_mono (setChan_after d c st) fun _ hf => List.mem_cons_of_mem _ hf)

/-- The channel has the state that was written. -/
theorem chan_setChan (d : Dev) {c st : Nat} (hc : c < 384) (hst : st < 10) : (d.setChan c st).chan c = st := by
  have hshown : (F.MEM_CHAN_STATE c).off ≠ 0xC02208 := by
    simp only [F.MEM_CHAN_STATE]
    omega
  unfold Dev.chan
  rw [(setChan_after d c st).1 _ (ne_chanShown (chanState_inTiers hc) hshown), get_put_same]
  exact Nat.mod_eq_of_lt (show st < 2 ^ 4 by omega)

@[simp] theorem countFree_tier (d : Dev) : d.countFree.tier = d.tier := puts_tier _ d

@[simp] theorem countFree_plz (d : Dev) : d.countFree.plz = d.plz := puts_plz _ d

@[simp] theorem countFree_parts (d : Dev) : d.countFree.parts = d.parts := puts_parts _ d

@[simp] theorem setChan_tier (d : Dev) (c st : Nat) : (d.setChan c st).tier = d.tier := by
  unfold Dev.setChan
  dsimp only
  split
  · exact countFree_tier _
  · rfl

@[simp] theorem setChan_plz (d : Dev) (c st : Nat) : (d.setChan c st).plz = d.plz := by
  unfold Dev.setChan
  dsimp only
  split
  · exact countFree_plz _
  · rfl

@[simp] theorem setChan_parts (d : Dev) (c st : Nat) : (d.setChan c st).parts = d.parts := by
  unfold Dev.setChan
  dsimp only
  split
  · exact countFree_parts _
  · rfl

/-- A frame that names no state of a channel leaves it. -/
theorem chan_of_frame {l : List Fld} {a b : Dev} (h : Dev.eventFrame l a b) {c : Nat} (hc : c < 384)
    (hl : ∀ g ∈ l, (F.MEM_CHAN_STATE c).key ≠ g.key) : b.chan c = a.chan c := eventFrame_get h (chanState_inTiers hc).away hl

end Sys2Proof.Machine
end

section
/-! PROOF. O31: the regulators' bounds and windows, the patrol scrubber (R201, R204, R205, R345, R346). -/

namespace Sys2Proof.Machine

open Sys2Proof

/-! ### Bounds (R205) -/

theorem bwr_taken (s : State) (p : Fin 8) (v : Word) (hs : s.powered) (hle : bits v.toNat 6 0 ≤ bits v.toNat 14 8)
    (hpos : bits v.toNat 14 8 ≠ 0) (hmax : bits v.toNat 14 8 ≤ 64)
    (hall : ((List.range 8).filter (· != p.val)).foldl (fun n q => n + s.dev.get (F.MEM_BWR_MIN q)) 0 + bits v.toNat 6 0 ≤ 64) :
    Answers (.memBwrWrite p v) s fun t =>
      t.dev.get (F.MEM_BWR_MIN p) = bits v.toNat 6 0 ∧ t.dev.get (F.MEM_BWR_MAX p) = bits v.toNat 14 8 ∧
        State.onlyFields [F.MEM_BWR_MIN p, F.MEM_BWR_MAX p] s t := by
  refine ⟨_, onDev_powered (fun d => d.bwrWrite p v.toNat) s hs, ?_⟩
  have hw : s.dev.bwrWrite p v.toNat = (s.dev.put (F.MEM_BWR_MAX p) (bits v.toNat 14 8)).put (F.MEM_BWR_MIN p) (bits v.toNat 6 0) := by
    unfold Dev.bwrWrite
    exact if_neg (by omega)
  rw [hw]
  refine ⟨?_, ?_, onlyFields_of_dev (onlyRegs_trans (onlyRegs_put _ _ _ _ (by simp)) (onlyRegs_put _ _ _ _ (by simp)))⟩
  · rw [get_put_same]
    exact Nat.mod_eq_of_lt (show _ < 2 ^ 7 by omega)
  · have hne : (F.MEM_BWR_MAX p).key ≠ (F.MEM_BWR_MIN p).key := by
      simp only [Fld.key, F.MEM_BWR_MAX, F.MEM_BWR_MIN]
      omega
    rw [get_put_ne _ _ _ _ hne, get_put_same]
    exact Nat.mod_eq_of_lt (show _ < 2 ^ 7 by omega)

theorem bwr_refused (s : State) (p : Fin 8) (v : Word) (hs : s.powered)
    (h : bits v.toNat 14 8 < bits v.toNat 6 0 ∨ bits v.toNat 14 8 = 0 ∨ 64 < bits v.toNat 14 8 ∨
      64 < ((List.range 8).filter (· != p.val)).foldl (fun n q => n + s.dev.get (F.MEM_BWR_MIN q)) 0 + bits v.toNat 6 0) :
    Answers (.memBwrWrite p v) s fun t =>
      Dev.raisedOne s.dev t.dev evRegister stOk 0 [(F.MEM_BWR_MAX p).off, v.toNat] ∧ State.onlyFieldsEv regaccFields s t := by
  refine refuse_answers ((onDev_powered (fun d => d.bwrWrite p v.toNat) s hs).trans ?_)
  unfold Dev.bwrWrite
  exact congrArg (fun d => Host.Outcome.next { s with dev := d }) (if_pos h)

/-! ### A window of one partition (R205, R345, R346) -/

/-- What a window that falls short writes. -/
def shortFields (p : Nat) : List Fld :=
  [F.MEM_BWS_SHORT p, F.ARB_GB_WINDOWS p, F.ARB_GB_SHORT p, F.ARB_GBLAST_PART, F.ARB_GBLAST_CHANNEL, F.ARB_GBLAST_SHORT]

/-- What a window of a partition writes. -/
def windowFields (p : Nat) : List Fld := F.MEM_BWS_CAPPED p :: shortFields p

theorem windowFields_away {p : Nat} (hp : p < 8) : ∀ f ∈ windowFields p, f.awayFromEvents := by
  intro f hf
  simp only [windowFields, shortFields, List.mem_cons, List.not_mem_nil, or_false] at hf
  rcases hf with rfl | rfl | rfl | rfl | rfl | rfl | rfl <;>
    simp only [Fld.awayFromEvents, Fld.key, F.MEM_BWS_CAPPED, F.MEM_BWS_SHORT, F.ARB_GB_WINDOWS, F.ARB_GB_SHORT, F.ARB_GBLAST_PART,
      F.ARB_GBLAST_CHANNEL, F.ARB_GBLAST_SHORT, F.RAS_EVSEQ_NEXT] <;> omega

/-- They are seven fields. -/
theorem windowFields_nodup {p : Nat} (hp : p < 8) : ((windowFields p).map Fld.key).Nodup := by
  simp only [windowFields, shortFields, List.map_cons, List.map_nil, List.nodup_cons, List.mem_cons, List.not_mem_nil, or_false,
    List.nodup_nil, Fld.key, F.MEM_BWS_CAPPED, F.MEM_BWS_SHORT, F.ARB_GB_WINDOWS, F.ARB_GB_SHORT, F.ARB_GBLAST_PART, F.ARB_GBLAST_CHANNEL,
    F.ARB_GBLAST_SHORT, not_or, not_false_eq_true, and_true]
  omega

/-- CAPPED is none that a shortfall writes. -/
theorem capped_ne_short {p : Nat} (hp : p < 8) : ∀ g ∈ shortFields p, (F.MEM_BWS_CAPPED p).key ≠ g.key := fun _ hg heq =>
  (List.nodup_cons.mp (windowFields_nodup hp)).1 (heq ▸ List.mem_map_of_mem hg)

/-- No window makes a partition active. -/
theorem active_ne_window (p : Nat) {q : Nat} (hq : q < 8) : ∀ g ∈ windowFields p, (F.ARB_PART_ACTIVE q).key ≠ g.key := by
  intro g hg
  simp only [windowFields, shortFields, List.mem_cons, List.not_mem_nil, or_false] at hg
  rcases hg with rfl | rfl | rfl | rfl | rfl | rfl | rfl <;>
    simp only [Fld.key, F.ARB_PART_ACTIVE, F.MEM_BWS_CAPPED, F.MEM_BWS_SHORT, F.ARB_GB_WINDOWS, F.ARB_GB_SHORT, F.ARB_GBLAST_PART,
      F.ARB_GBLAST_CHANNEL, F.ARB_GBLAST_SHORT] <;> omega

theorem active_away {q : Nat} (hq : q < 8) : (F.ARB_PART_ACTIVE q).awayFromEvents := by
  simp only [Fld.awayFromEvents, Fld.key, F.ARB_PART_ACTIVE, F.RAS_EVSEQ_NEXT]
  omega

/-- A counter that is bumped on a condition. -/
theorem get_bump_if (d : Dev) (f : Fld) (c : Prop) [Decidable c] :
    (if c then d.bump f 1 else d).get f = min (2 ^ f.w - 1) (d.get f + b2n (decide c)) := by
  have hlt := get_lt d f
  by_cases h : c
  · simp [h, get_bump_same, b2n]
  · simp [h, b2n]
    omega

/-- A report raises one event at most and writes no other register. -/
theorem gbReport_frame (l : List Fld) (d : Dev) (p ch : Nat) : Dev.eventFrame l d (d.gbReport p ch) := by
  unfold Dev.gbReport
  dsimp only
  split
  · exact eventFrame_mono (eventFrame_refl d) fun _ h => nomatch h
  · exact eventFrame_trans (eventFrame_raised l d _ _ _ _) (eventFrame_of_core l (tierSet_core _ _))

/-- Nothing to report. -/
theorem gbReport_none {d : Dev} {p ch : Nat} (h : (Table.get (fun _ => (0, 0)) d.tier.gbAcc (gbKey p ch)).1 = 0) : d.gbReport p ch = d := by
  unfold Dev.gbReport
  simp [h]

/-- The first report of a partition and channel. -/
theorem gbReport_first {d : Dev} {p ch n m : Nat} (h : Table.get (fun _ => (0, 0)) d.tier.gbAcc (gbKey p ch) = (n, m)) (hn : n ≠ 0)
    (hlast : Table.get (fun _ => 0) d.tier.lastGb (gbKey p ch) = 0) :
    Dev.raisedOne d (d.gbReport p ch) evArbitration stGuarantee p [p, ch, n, m] := by
  unfold Dev.gbReport
  simp only [h, hlast]
  rw [if_neg (by simp [hn])]
  exact raise_one d _ _ _ _

/-- The registers of a window that falls short. -/
def Dev.shortNoted (d : Dev) (p ch short : Nat) : Dev :=
  (((d.bump (F.MEM_BWS_SHORT p) 1).bump (F.ARB_GB_WINDOWS p) 1).bump (F.ARB_GB_SHORT p) short).puts
    [(F.ARB_GBLAST_PART, p), (F.ARB_GBLAST_CHANNEL, ch), (F.ARB_GBLAST_SHORT, short)]

theorem shortWindow_core (d : Dev) (p ch short : Nat) : Dev.sameCore (d.shortNoted p ch short) (d.shortWindow p ch short) := ⟨rfl, rfl, rfl, rfl⟩

theorem shortNoted_frame (d : Dev) (p ch short : Nat) : Dev.onlyRegs (shortFields p) d (d.shortNoted p ch short) :=
  onlyRegs_trans (onlyRegs_mono (onlyRegs_bump _ _ _) (by simp [shortFields]))
    (onlyRegs_trans (onlyRegs_mono (onlyRegs_bump _ _ _) (by simp [shortFields]))
      (onlyRegs_trans (onlyRegs_mono (onlyRegs_bump _ _ _) (by simp [shortFields])) (onlyRegs_mono (onlyRegs_puts _ _) (by simp [shortFields]))))

theorem shortWindow_frame (d : Dev) (p ch short : Nat) : Dev.onlyRegs (shortFields p) d (d.shortWindow p ch short) :=
  onlyRegs_trans (shortNoted_frame d p ch short) (onlyRegs_core _ (shortWindow_core d p ch short))

/-- The counters of a short window. -/
theorem shortWindow_counts (d : Dev) {p : Nat} (hp : p < 8) (ch short : Nat) :
    (d.shortWindow p ch short).get (F.MEM_BWS_SHORT p) = min (2 ^ 32 - 1) (d.get (F.MEM_BWS_SHORT p) + 1) ∧
      (d.shortWindow p ch short).get (F.ARB_GB_WINDOWS p) = min (2 ^ 24 - 1) (d.get (F.ARB_GB_WINDOWS p) + 1) ∧
      (d.shortWindow p ch short).get (F.ARB_GB_SHORT p) = min (2 ^ 40 - 1) (d.get (F.ARB_GB_SHORT p) + short) := by
  have hnodup := (List.nodup_cons.mp (windowFields_nodup hp)).2
  have hkeep : ∀ (e : Dev) (f g : Fld) (n : Nat), f.key ≠ g.key → (e.bump g n).get f = e.get f := fun e f g n h => (get_bump e g f n).trans (if_neg h)
  simp only [shortFields, List.map_cons, List.map_nil, List.nodup_cons, List.mem_cons, List.not_mem_nil, or_false, not_or] at hnodup
  obtain ⟨⟨hsw, hss, hs1, hs2, hs3⟩, ⟨hws, hw1, hw2, hw3⟩, ⟨hg1, hg2, hg3⟩, -⟩ := hnodup
  simp only [sameCore_get (shortWindow_core d p ch short), Dev.shortNoted, Dev.puts]
  refine ⟨?_, ?_, ?_⟩
  · rw [get_put_ne _ _ _ _ hs3, get_put_ne _ _ _ _ hs2, get_put_ne _ _ _ _ hs1, hkeep _ _ _ _ hss, hkeep _ _ _ _ hsw, get_bump_same]
    rfl
  · rw [get_put_ne _ _ _ _ hw3, get_put_ne _ _ _ _ hw2, get_put_ne _ _ _ _ hw1, hkeep _ _ _ _ hws, get_bump_same, hkeep _ _ _ _ (Ne.symm hsw)]
    rfl
  · rw [get_put_ne _ _ _ _ hg3, get_put_ne _ _ _ _ hg2, get_put_ne _ _ _ _ hg1, get_bump_same, hkeep _ _ _ _ (Ne.symm hws),
      hkeep _ _ _ _ (Ne.symm hss)]
    rfl

/-- ARB_GBLAST names the partition, the channel and the shortfall. -/
theorem shortWindow_last (d : Dev) {p ch short : Nat} (hp : p < 8) (hch : ch < 512) (hshort : short < 2 ^ 32) :
    (d.shortWindow p ch short).get F.ARB_GBLAST_PART = p ∧ (d.shortWindow p ch short).get F.ARB_GBLAST_CHANNEL = ch ∧
      (d.shortWindow p ch short).get F.ARB_GBLAST_SHORT = short := by
  have hread : ∀ {f : Fld} {v : Nat}, (f, v) ∈ [(F.ARB_GBLAST_PART, p), (F.ARB_GBLAST_CHANNEL, ch), (F.ARB_GBLAST_SHORT, short)] → v < 2 ^ f.w →
      (d.shortWindow p ch short).get f = v := fun hf hv => by
    rw [sameCore_get (shortWindow_core d p ch short)]
    unfold Dev.shortNoted
    rw [get_puts_mem (fs := [F.ARB_GBLAST_PART, F.ARB_GBLAST_CHANNEL, F.ARB_GBLAST_SHORT]) rfl (by decide) hf, Nat.mod_eq_of_lt hv]
  exact ⟨hread (by simp) hp, hread (by simp) hch, hread (by simp) hshort⟩

/-- A window's counts, before its report. -/
def Dev.windowNoted (d : Dev) (ch p : Nat) (u : WindowUse) : Dev :=
  let lo := d.get (F.MEM_BWR_MIN p) * windowUnit ch
  let d := if d.get (F.MEM_BWR_MAX p) * windowUnit ch ≤ u.bytes then d.bump (F.MEM_BWS_CAPPED p) 1 else d
  if u.raised && decide (u.bytes < lo) then d.shortWindow p ch (lo - u.bytes) else d

theorem windowOf_eq (d : Dev) (ch p : Nat) (u : WindowUse) : d.windowOf ch p u = (d.windowNoted ch p u).gbReport p ch := rfl

/-- The device with CAPPED counted. -/
theorem cappedNoted_frame (d : Dev) (p : Nat) (c : Prop) [Decidable c] :
    Dev.onlyRegs [F.MEM_BWS_CAPPED p] d (if c then d.bump (F.MEM_BWS_CAPPED p) 1 else d) ∧
      (if c then d.bump (F.MEM_BWS_CAPPED p) 1 else d).tier = d.tier := by
  split
  · exact ⟨onlyRegs_bump _ _ _, rfl⟩
  · exact ⟨onlyRegs_refl _ _, rfl⟩

theorem windowNoted_frame (d : Dev) (ch p : Nat) (u : WindowUse) : Dev.onlyRegs (windowFields p) d (d.windowNoted ch p u) := by
  have hcapped := onlyRegs_mono (cappedNoted_frame d p (d.get (F.MEM_BWR_MAX p) * windowUnit ch ≤ u.bytes)).1
    (m := windowFields p) (by simp [windowFields])
  unfold Dev.windowNoted
  dsimp only
  split
  · exact onlyRegs_trans hcapped (onlyRegs_mono (shortWindow_frame _ _ _ _) fun _ hf => List.mem_cons_of_mem _ hf)
  · exact hcapped

theorem windowOf_frame (d : Dev) (ch : Nat) {p : Nat} (hp : p < 8) (u : WindowUse) : Dev.eventFrame (windowFields p) d (d.windowOf ch p u) :=
  eventFrame_trans (eventFrame_of_only (windowNoted_frame d ch p u) (ringFree_of_away (windowFields_away hp))) (gbReport_frame _ _ p ch)

/-- What a window writes reads after its report as before it. -/
theorem windowOf_get (d : Dev) (ch : Nat) {p : Nat} (hp : p < 8) (u : WindowUse) {f : Fld} (hf : f ∈ windowFields p) :
    (d.windowOf ch p u).get f = (d.windowNoted ch p u).get f :=
  eventFrame_get (gbReport_frame [] _ p ch) (windowFields_away hp f hf) fun _ h => nomatch h

/-- A window that does not fall short counts its cap. -/
theorem windowNoted_met {d : Dev} {ch p : Nat} {u : WindowUse} (h : (u.raised && decide (u.bytes < d.get (F.MEM_BWR_MIN p) * windowUnit ch)) = false) :
    d.windowNoted ch p u = if d.get (F.MEM_BWR_MAX p) * windowUnit ch ≤ u.bytes then d.bump (F.MEM_BWS_CAPPED p) 1 else d := by
  unfold Dev.windowNoted
  exact if_neg (by simp [h])

/-- One that falls short counts its shortfall too. -/
theorem windowNoted_short {d : Dev} {ch p : Nat} {u : WindowUse} (h : (u.raised && decide (u.bytes < d.get (F.MEM_BWR_MIN p) * windowUnit ch)) = true) :
    d.windowNoted ch p u = Dev.shortWindow (if d.get (F.MEM_BWR_MAX p) * windowUnit ch ≤ u.bytes then d.bump (F.MEM_BWS_CAPPED p) 1 else d) p ch
      (d.get (F.MEM_BWR_MIN p) * windowUnit ch - u.bytes) := by
  unfold Dev.windowNoted
  exact if_pos h

theorem windowNoted_capped (d : Dev) (ch : Nat) {p : Nat} (hp : p < 8) (u : WindowUse) :
    (d.windowNoted ch p u).get (F.MEM_BWS_CAPPED p) =
      min (2 ^ 32 - 1) (d.get (F.MEM_BWS_CAPPED p) + b2n (decide (d.get (F.MEM_BWR_MAX p) * windowUnit ch ≤ u.bytes))) := by
  cases hshort : u.raised && decide (u.bytes < d.get (F.MEM_BWR_MIN p) * windowUnit ch) with
  | false =>
    rw [windowNoted_met hshort]
    exact get_bump_if d _ _
  | true =>
    rw [windowNoted_short hshort, (shortWindow_frame _ _ _ _).1 _ (capped_ne_short hp)]
    exact get_bump_if d _ _

/-! ### The windows of a channel (R345) -/

/-- Partitions that are not active have no window. -/
theorem foldl_idle {ch : Nat} {d : Dev} : ∀ {l : List (WindowUse × Nat)}, (∀ r ∈ l, d.on (F.ARB_PART_ACTIVE r.2) = false) →
    l.foldl (fun d r => if d.on (F.ARB_PART_ACTIVE r.2) then d.windowOf ch r.2 r.1 else d) d = d
  | [], _ => rfl
  | r :: l, h => by
    rw [List.foldl_cons, if_neg (by simp [h r List.mem_cons_self])]
    exact foldl_idle fun x hx => h x (List.mem_cons_of_mem _ hx)

/-- With one active partition the channel has one window. -/
theorem regulatorWindow_one {d : Dev} {ch : Nat} {use : List WindowUse} {p : Fin 8} {u : WindowUse}
    (hactive : ∀ q : Fin 8, d.on (F.ARB_PART_ACTIVE q) = true ↔ q = p) (hu : use[p.val]? = some u) :
    d.regulatorWindow ch use = d.windowOf ch p u := by
  have hidle : ∀ {e : Dev}, (∀ q < 8, e.on (F.ARB_PART_ACTIVE q) = d.on (F.ARB_PART_ACTIVE q)) → ∀ q < 8, q ≠ p.val →
      e.on (F.ARB_PART_ACTIVE q) = false := fun he q hq hne => by
    rw [he q hq]
    exact Bool.eq_false_iff.mpr fun h => hne (congrArg Fin.val ((hactive ⟨q, hq⟩).mp h))
  have hafter : ∀ q < 8, (d.windowOf ch p u).on (F.ARB_PART_ACTIVE q) = d.on (F.ARB_PART_ACTIVE q) := fun q hq => by
    unfold Dev.on
    rw [eventFrame_get (windowOf_frame d ch p.isLt u) (active_away hq) (active_ne_window p hq)]
  have htake : (use.take 8)[p.val]? = some u := by rw [List.getElem?_take, if_pos p.isLt, hu]
  obtain ⟨hlt, hget⟩ := List.getElem?_eq_some_iff.mp htake
  have hlen : (use.take 8).length ≤ 8 := List.length_take_le 8 use
  have hsplit : use.take 8 = (use.take 8).take p ++ u :: (use.take 8).drop (p + 1) := by
    rw [← hget, List.getElem_cons_drop, List.take_append_drop]
  unfold Dev.regulatorWindow
  rw [hsplit, List.zipIdx_append, List.zipIdx_cons, List.foldl_append, List.foldl_cons]
  have hpos : 0 + ((use.take 8).take p).length = p.val := by rw [Nat.zero_add, List.length_take, Nat.min_eq_left hlt.le]
  rw [hpos, foldl_idle (d := d), if_pos ((hactive p).mpr rfl), foldl_idle]
  · intro r hr
    have hge := List.le_snd_of_mem_zipIdx hr
    have hsnd := List.snd_lt_of_mem_zipIdx hr
    rw [List.length_drop] at hsnd
    exact hidle hafter r.2 (by omega) (by omega)
  · intro r hr
    have hsnd := List.snd_lt_of_mem_zipIdx hr
    exact hidle (fun _ _ => rfl) r.2 (by omega) (by omega)

theorem regulator_window (s : State) (ch : Fin 392) (use : List WindowUse) (p : Fin 8) (u : WindowUse) (hs : s.powered)
    (hactive : ∀ q : Fin 8, s.dev.on (F.ARB_PART_ACTIVE q) = true ↔ q = p) (hu : use[p.val]? = some u) :
    exec (.regulatorWindow ch use) s = .next { s with dev := s.dev.windowOf ch p u } :=
  (onDev_powered (fun d => d.regulatorWindow ch use) s hs).trans (by rw [regulatorWindow_one hactive hu])

/-- A guarantee is at most 127 sixty-fourths of a Ring Road channel's window. -/
theorem guarantee_lt (d : Dev) (p ch : Nat) : d.get (F.MEM_BWR_MIN p) * windowUnit ch < 2 ^ 32 := by
  have hmin : d.get (F.MEM_BWR_MIN p) < 2 ^ 7 := get_lt d _
  have hunit : windowUnit ch ≤ 1966 := by
    unfold windowUnit
    split <;> omega
  have hle := Nat.mul_le_mul (Nat.le_of_lt hmin) hunit
  omega

/-- What a short window shows. -/
theorem windowNoted_shown (d : Dev) {ch p : Nat} (hp : p < 8) (hch : ch < 512) {u : WindowUse}
    (h : (u.raised && decide (u.bytes < d.get (F.MEM_BWR_MIN p) * windowUnit ch)) = true) :
    (d.windowNoted ch p u).get (F.MEM_BWS_SHORT p) = min (2 ^ 32 - 1) (d.get (F.MEM_BWS_SHORT p) + 1) ∧
      (d.windowNoted ch p u).get (F.ARB_GB_WINDOWS p) = min (2 ^ 24 - 1) (d.get (F.ARB_GB_WINDOWS p) + 1) ∧
      (d.windowNoted ch p u).get (F.ARB_GB_SHORT p) =
        min (2 ^ 40 - 1) (d.get (F.ARB_GB_SHORT p) + (d.get (F.MEM_BWR_MIN p) * windowUnit ch - u.bytes)) ∧
      (d.windowNoted ch p u).get F.ARB_GBLAST_PART = p ∧ (d.windowNoted ch p u).get F.ARB_GBLAST_CHANNEL = ch ∧
      (d.windowNoted ch p u).get F.ARB_GBLAST_SHORT = d.get (F.MEM_BWR_MIN p) * windowUnit ch - u.bytes := by
  have hlt := guarantee_lt d p ch
  obtain ⟨hframe, -⟩ := cappedNoted_frame d p (d.get (F.MEM_BWR_MAX p) * windowUnit ch ≤ u.bytes)
  have hkept : ∀ f ∈ shortFields p, (if d.get (F.MEM_BWR_MAX p) * windowUnit ch ≤ u.bytes then d.bump (F.MEM_BWS_CAPPED p) 1 else d).get f = d.get f :=
    fun f hf => hframe.1 f fun g hg => by
      rw [List.mem_singleton.mp hg]
      exact (capped_ne_short hp f hf).symm
  obtain ⟨hshort, hwindows, hgb⟩ := shortWindow_counts (if d.get (F.MEM_BWR_MAX p) * windowUnit ch ≤ u.bytes then
    d.bump (F.MEM_BWS_CAPPED p) 1 else d) hp ch (d.get (F.MEM_BWR_MIN p) * windowUnit ch - u.bytes)
  rw [windowNoted_short h]
  rw [hkept _ (by simp [shortFields])] at hshort hwindows hgb
  exact ⟨hshort, hwindows, hgb, shortWindow_last _ hp hch (by omega)⟩

/-- The report tables after a short window. -/
theorem windowNoted_acc (d : Dev) {ch p : Nat} {u : WindowUse}
    (h : (u.raised && decide (u.bytes < d.get (F.MEM_BWR_MIN p) * windowUnit ch)) = true) :
    Table.get (fun _ => (0, 0)) (d.windowNoted ch p u).tier.gbAcc (gbKey p ch) =
        ((Table.get (fun _ => (0, 0)) d.tier.gbAcc (gbKey p ch)).1 + 1,
          (Table.get (fun _ => (0, 0)) d.tier.gbAcc (gbKey p ch)).2 + (d.get (F.MEM_BWR_MIN p) * windowUnit ch - u.bytes)) ∧
      (d.windowNoted ch p u).tier.lastGb = d.tier.lastGb := by
  obtain ⟨-, htier⟩ := cappedNoted_frame d p (d.get (F.MEM_BWR_MAX p) * windowUnit ch ≤ u.bytes)
  rw [windowNoted_short h]
  unfold Dev.shortWindow
  dsimp only
  simp only [puts_tier, bump_tier, htier, table_get_set_same, true_and]

/-- REGULATOR_WINDOW of one active partition. -/
theorem window_counts (s : State) (ch : Fin 392) (use : List WindowUse) (p : Fin 8) (u : WindowUse) (hs : s.powered)
    (hactive : ∀ q : Fin 8, s.dev.on (F.ARB_PART_ACTIVE q) = true ↔ q = p) (hu : use[p.val]? = some u) :
    let lo := s.dev.get (F.MEM_BWR_MIN p) * windowUnit ch
    let capped := decide (s.dev.get (F.MEM_BWR_MAX p) * windowUnit ch ≤ u.bytes)
    let short := u.raised && decide (u.bytes < lo)
    let acc := Table.get (fun _ => (0, 0)) s.dev.tier.gbAcc (gbKey p ch)
    Answers (.regulatorWindow ch use) s fun t =>
      t.dev.get (F.MEM_BWS_CAPPED p) = min (2 ^ 32 - 1) (s.dev.get (F.MEM_BWS_CAPPED p) + b2n capped) ∧
        t.dev.get (F.MEM_BWS_SHORT p) = min (2 ^ 32 - 1) (s.dev.get (F.MEM_BWS_SHORT p) + b2n short) ∧
        (short = true →
          t.dev.get (F.ARB_GB_WINDOWS p) = min (2 ^ 24 - 1) (s.dev.get (F.ARB_GB_WINDOWS p) + 1) ∧
            t.dev.get (F.ARB_GB_SHORT p) = min (2 ^ 40 - 1) (s.dev.get (F.ARB_GB_SHORT p) + (lo - u.bytes)) ∧
            t.dev.get F.ARB_GBLAST_PART = p ∧ t.dev.get F.ARB_GBLAST_CHANNEL = ch ∧ t.dev.get F.ARB_GBLAST_SHORT = lo - u.bytes ∧
            (acc = (0, 0) → Table.get (fun _ => 0) s.dev.tier.lastGb (gbKey p ch) = 0 →
              Dev.raisedOne s.dev t.dev evArbitration stGuarantee p [p.val, ch.val, 1, lo - u.bytes])) ∧
        (short = false → acc.1 = 0 → t.dev.events = s.dev.events ∧ t.dev.mem = s.dev.mem) ∧
        State.onlyFieldsEv [F.MEM_BWS_CAPPED p, F.MEM_BWS_SHORT p, F.ARB_GB_WINDOWS p, F.ARB_GB_SHORT p, F.ARB_GBLAST_PART,
          F.ARB_GBLAST_CHANNEL, F.ARB_GBLAST_SHORT] s t := by
  intro lo capped short acc
  have hread : ∀ {f : Fld}, f ∈ windowFields p → (s.dev.windowOf ch p u).get f = (s.dev.windowNoted ch p u).get f := windowOf_get s.dev ch p.isLt u
  have hnoted := windowNoted_frame s.dev ch p u
  refine ⟨_, regulator_window s ch use p u hs hactive hu, ?_, ?_, fun hshort => ?_, fun hshort hacc => ?_,
    onlyFieldsEv_of_frame (windowOf_frame s.dev ch p.isLt u)⟩
  · exact (hread (by simp [windowFields])).trans (windowNoted_capped s.dev ch p.isLt u)
  · refine (hread (by simp [windowFields, shortFields])).trans ?_
    cases hshort : short with
    | true => exact (windowNoted_shown s.dev p.isLt (by omega) hshort).1
    | false =>
      obtain ⟨hframe, -⟩ := cappedNoted_frame s.dev p (s.dev.get (F.MEM_BWR_MAX p) * windowUnit ch ≤ u.bytes)
      have hlt : s.dev.get (F.MEM_BWS_SHORT p) < 2 ^ 32 := get_lt _ _
      rw [windowNoted_met hshort, hframe.1 _ fun g hg => List.mem_singleton.mp hg ▸ (capped_ne_short p.isLt _ (by simp [shortFields])).symm]
      exact (Nat.min_eq_right (Nat.le_sub_one_of_lt hlt)).symm
  · obtain ⟨-, hwindows, hgb, hpart, hchannel, hlast⟩ := windowNoted_shown s.dev p.isLt (show ch.val < 512 by omega) hshort
    refine ⟨(hread (by simp [windowFields, shortFields])).trans hwindows, (hread (by simp [windowFields, shortFields])).trans hgb,
      (hread (by simp [windowFields, shortFields])).trans hpart, (hread (by simp [windowFields, shortFields])).trans hchannel,
      (hread (by simp [windowFields, shortFields])).trans hlast, fun hacc hnone => ?_⟩
    obtain ⟨haccs, hlasts⟩ := windowNoted_acc s.dev hshort
    rw [show Table.get (fun _ => (0, 0)) s.dev.tier.gbAcc (gbKey p ch) = (0, 0) from hacc] at haccs
    simp only [Nat.zero_add] at haccs
    exact raisedOne_before hnoted (ringFree_of_away (windowFields_away p.isLt)) (gbReport_first haccs one_ne_zero (by rw [hlasts, hnone]))
  · have htier : (s.dev.windowNoted ch p u).tier = s.dev.tier := by
      rw [windowNoted_met hshort]
      exact (cappedNoted_frame s.dev p _).2
    rw [windowOf_eq, gbReport_none (by rw [htier]; exact hacc)]
    exact ⟨hnoted.2.2.2, hnoted.2.1⟩

/-! ### A patrol pass (R201, R204) -/

theorem hbmRegion_lt {pa : Nat} (h : pa < hbmTop) : pa / (3 * gib) < 248 := Nat.div_lt_of_lt_mul (by simpa [gib, hbmTop] using h)

/-- The serving channel of a byte of HBM is a channel. -/
theorem servingChannel_lt (d : Dev) {pa : Nat} (h : pa < hbmTop) : d.servingChannel pa < 384 := by
  have hc := hbmChannel_lt d pa
  have hk := hbmRegion_lt h
  unfold Dev.servingChannel
  dsimp only
  split
  · unfold partnerOf
    dsimp only
    split <;> omega
  · exact hc

/-- It follows from the mode of the byte's region and the state of its channel. -/
theorem servingChannel_congr {a b : Dev} (pa : Nat) (hmode : b.get (F.MEM_REGION_MODE (pa / (3 * gib))) = a.get (F.MEM_REGION_MODE (pa / (3 * gib))))
    (hstate : b.chan (a.hbmChannel pa) = a.chan (a.hbmChannel pa)) (hbefore : b.tier.before = a.tier.before) :
    b.servingChannel pa = a.servingChannel pa := by
  have hchannel : b.hbmChannel pa = a.hbmChannel pa := by
    unfold Dev.hbmChannel Dev.packageWide
    rw [hmode]
  unfold Dev.servingChannel Dev.redirected
  dsimp only
  rw [hchannel, hstate, hbefore]

theorem hbm_of_kept {d : Dev} {pa : Nat} (h : d.keptAt pa = true) : pa < hbmTop := by
  unfold Dev.keptAt at h
  split at h
  · simp at h
    exact h.2
  · cases h

theorem patrol_off (s : State) (a b : List Nat) (hs : s.powered) (h : s.dev.objNat 0x270002 = 0) : Answers (.patrolScrub a b) s fun t => t = s := by
  refine ⟨_, onDev_powered (fun d => d.patrol a b) s hs, ?_⟩
  rw [show s.dev.patrol a b = s.dev from if_pos h]

theorem patrol_corrects (s : State) (pa : Nat) (hs : s.powered) (h : s.dev.objNat 0x270002 ≠ 0) (hkept : s.dev.keptAt pa = true) :
    Answers (.patrolScrub [pa] []) s fun t =>
      let f := F.MEM_CHAN_CORR (s.dev.servingChannel pa)
      t.dev.get f = min (2 ^ 16 - 1) (s.dev.get f + 1) ∧ State.onlyFields [f] s t := by
  refine ⟨_, onDev_powered (fun d => d.patrol [pa] []) s hs, ?_⟩
  have hpass : s.dev.patrol [pa] [] = s.dev.bump (F.MEM_CHAN_CORR (s.dev.servingChannel pa)) 1 := by
    unfold Dev.patrol
    rw [if_neg h]
    simp [hkept]
  rw [hpass]
  exact ⟨get_bump_same _ _ _, onlyFields_of_dev (onlyRegs_bump _ _ _)⟩

/-- What the log of an uncorrectable error writes. -/
def uelogFields : List Fld := [F.MEM_UELOG_VALID, F.MEM_UELOG_KIND, F.MEM_UELOG_PA, F.MEM_UETN_TN]

theorem uelogFields_inTiers : ∀ f ∈ uelogFields, f.inTiers := by
  unfold Fld.inTiers
  decide

theorem uncorr_inTiers {st : Nat} (h : st < 12) : (F.MEM_STACK_UNCORR st).inTiers := by
  simp only [Fld.inTiers, F.MEM_STACK_UNCORR]
  omega

/-- MEM_UELOG and MEM_UETN of an uncorrectable error. -/
def Dev.ueNoted (d : Dev) (pa : Nat) : Dev :=
  d.puts [(F.MEM_UELOG_VALID, 1), (F.MEM_UELOG_KIND, d.ueKind pa), (F.MEM_UELOG_PA, pa), (F.MEM_UETN_TN, d.tnStamp)]

theorem ueNoted_frame (d : Dev) (pa : Nat) : Dev.onlyRegs uelogFields d (d.ueNoted pa) := onlyRegs_mono (onlyRegs_puts _ _) (by simp [uelogFields])

theorem ueNoted_shown (d : Dev) {pa : Nat} (h : pa < 2 ^ 56) : (d.ueNoted pa).get F.MEM_UELOG_VALID = 1 ∧ (d.ueNoted pa).get F.MEM_UELOG_PA = pa :=
  ⟨get_puts_mem (fs := uelogFields) rfl (by decide) (v := 1) (by simp) d,
    (get_puts_mem (fs := uelogFields) rfl (by decide) (v := pa) (by simp) d).trans (Nat.mod_eq_of_lt h)⟩

/-- The log changes no mode of a region and no state of a channel. -/
theorem ueNoted_serving (d : Dev) {pa a : Nat} (ha : a < hbmTop) : (d.ueNoted pa).servingChannel a = d.servingChannel a := by
  have hkeep : ∀ f : Fld, f.off < 0xC02210 → f.lo < 64 → (d.ueNoted pa).get f = d.get f := fun f hoff hlo => by
    refine (ueNoted_frame d pa).1 f fun g hg => ?_
    simp only [uelogFields, List.mem_cons, List.not_mem_nil, or_false] at hg
    rcases hg with rfl | rfl | rfl | rfl <;> refine key_ne hlo (by decide) (.inl ?_) <;>
      simp only [F.MEM_UELOG_VALID, F.MEM_UELOG_KIND, F.MEM_UELOG_PA, F.MEM_UETN_TN] <;> omega
  have hk := hbmRegion_lt ha
  have hc := hbmChannel_lt d a
  exact servingChannel_congr a (hkeep _ (by simp only [F.MEM_REGION_MODE]; omega) (Nat.zero_lt_succ 63))
    (hkeep _ (by simp only [F.MEM_CHAN_STATE]; omega) (Nat.zero_lt_succ 63)) (congrArg TierSt.before (puts_tier _ d))

/-- The log of an uncorrectable word of HBM. -/
theorem logUncorrectable_hbm (d : Dev) {pa : Nat} (h : pa < hbmTop) :
    d.logUncorrectable pa =
      ((d.ueNoted pa).bump (F.MEM_STACK_UNCORR (d.servingChannel pa / 32)) 1).raise evRas stUncorrectable 0 [pa] := by
  unfold Dev.logUncorrectable
  rw [show paKind pa = .hbm from if_pos h]
  rw [← ueNoted_serving d h]
  rfl

/-- What the log of an uncorrectable word of HBM leaves. -/
theorem logUncorrectable_effect (d : Dev) {pa : Nat} (h : pa < hbmTop) :
    ((d.logUncorrectable pa).get F.MEM_UELOG_VALID = 1 ∧ (d.logUncorrectable pa).get F.MEM_UELOG_PA = pa) ∧
      (d.logUncorrectable pa).tier = d.tier ∧ Dev.raisedOne d (d.logUncorrectable pa) evRas stUncorrectable 0 [pa] ∧
      Dev.eventFrame (uelogFields ++ [F.MEM_STACK_UNCORR (d.servingChannel pa / 32)]) d (d.logUncorrectable pa) := by
  have hstack : d.servingChannel pa / 32 < 12 := Nat.div_lt_of_lt_mul (servingChannel_lt d h)
  have hfree : RingFree (uelogFields ++ [F.MEM_STACK_UNCORR (d.servingChannel pa / 32)]) :=
    ringFree_append (ringFree_tiers uelogFields_inTiers) (ringFree_tiers (by simpa using uncorr_inTiers hstack))
  have hframe : Dev.onlyRegs (uelogFields ++ [F.MEM_STACK_UNCORR (d.servingChannel pa / 32)]) d
      ((d.ueNoted pa).bump (F.MEM_STACK_UNCORR (d.servingChannel pa / 32)) 1) :=
    onlyRegs_trans (onlyRegs_mono (ueNoted_frame d pa) fun _ => List.mem_append_left _)
      (onlyRegs_mono (onlyRegs_bump _ _ _) fun _ => List.mem_append_right _)
  have hread : ∀ f ∈ uelogFields, 0xC02210 ≤ f.off → (d.logUncorrectable pa).get f = (d.ueNoted pa).get f := fun f hf hoff => by
    have htiers := uelogFields_inTiers f hf
    rw [logUncorrectable_hbm d h, raise_get _ _ _ _ _ htiers.away, get_bump, if_neg (key_ne htiers.2.2 (uncorr_inTiers hstack).2.2 (.inl _))]
    simp only [F.MEM_STACK_UNCORR]
    omega
  obtain ⟨hvalid, hpa⟩ := ueNoted_shown d (pa := pa) (by simp only [hbmTop] at h; omega)
  refine ⟨⟨?_, ?_⟩, ?_, ?_, ?_⟩
  · exact (hread _ (by simp [uelogFields]) (by decide)).trans hvalid
  · exact (hread _ (by simp [uelogFields]) (by decide)).trans hpa
  · rw [logUncorrectable_hbm d h, raise_tier, bump_tier, Dev.ueNoted, puts_tier]
  · rw [logUncorrectable_hbm d h]
    exact raise_one_after hframe hfree _ _ _ _
  · rw [logUncorrectable_hbm d h]
    exact eventFrame_raise hframe hfree _ _ _ _

theorem patrol_uncorrectable (s : State) (pa : Nat) (hs : s.powered) (h : s.dev.objNat 0x270002 ≠ 0) (hkept : s.dev.keptAt pa = true)
    (hgood : s.dev.tier.badWords = []) :
    Answers (.patrolScrub [] [pa]) s fun t =>
      t.dev.tier.badWords = [pa / 64] ∧ t.dev.get F.MEM_UELOG_VALID = 1 ∧ t.dev.get F.MEM_UELOG_PA = pa / 64 * 64 ∧
        Dev.raisedOne s.dev t.dev evRas stUncorrectable 0 [pa / 64 * 64] ∧
        State.onlyFieldsEv [F.MEM_UELOG_VALID, F.MEM_UELOG_KIND, F.MEM_UELOG_PA, F.MEM_UETN_TN,
          F.MEM_STACK_UNCORR (s.dev.servingChannel (pa / 64 * 64) / 32)] s t := by
  have hword : pa / 64 * 64 < hbmTop := Nat.lt_of_le_of_lt (Nat.div_mul_le_self pa 64) (hbm_of_kept hkept)
  have hpass : s.dev.patrol [] [pa] = (s.dev.markBad pa).logUncorrectable (pa / 64 * 64) := by
    unfold Dev.patrol
    rw [if_neg h]
    simp [hkept]
  have hmark : s.dev.markBad pa = { s.dev with tier := { s.dev.tier with badWords := [pa / 64] } } := by
    unfold Dev.markBad
    simp [hgood]
  have hcore : Dev.sameCore s.dev (s.dev.markBad pa) := by
    rw [hmark]
    exact tierSet_core _ _
  have hserving : (s.dev.markBad pa).servingChannel (pa / 64 * 64) = s.dev.servingChannel (pa / 64 * 64) :=
    servingChannel_congr _ (sameCore_get hcore _) (sameCore_get hcore _) (by rw [hmark])
  obtain ⟨⟨hvalid, hpa⟩, htier, hone, hframe⟩ := logUncorrectable_effect (s.dev.markBad pa) hword
  rw [hserving] at hframe
  have hexec : exec (.patrolScrub [] [pa]) s = .next { s with dev := (s.dev.markBad pa).logUncorrectable (pa / 64 * 64) } :=
    (onDev_powered (fun d => d.patrol [] [pa]) s hs).trans (by rw [hpass])
  refine ⟨_, hexec, ?_, hvalid, hpa,
    raisedOne_before (onlyRegs_core [] hcore) ringFree_nil hone, onlyFieldsEv_of_frame (eventFrame_trans (eventFrame_of_core _ hcore) hframe)⟩
  exact (congrArg TierSt.badWords htier).trans (by rw [hmark])

/-- Settles O31, from the bounds, the one window and the patrol pass. -/
theorem regulatorsReportAndPatrolCorrects : Obligations.RegulatorsReportAndPatrolCorrects := by
  unfold Obligations.RegulatorsReportAndPatrolCorrects
  exact ⟨fun s p v hs => ⟨bwr_taken s p v hs, bwr_refused s p v hs⟩, window_counts, fun s hs => ⟨fun a b => patrol_off s a b hs,
    fun pa h hkept => ⟨patrol_corrects s pa hs h hkept, patrol_uncorrectable s pa hs h hkept⟩⟩⟩

end Sys2Proof.Machine
end

section
/-! PROOF. O32: the planned sequences of a channel (R208 to R212, R214). -/

namespace Sys2Proof.Machine

open Sys2Proof

/-! ### The sequence on a channel -/

theorem mapSeq_core (d : Dev) (c : Nat) (f : ChanSeq → ChanSeq) : Dev.sameCore d (d.mapSeq c f) := ⟨rfl, rfl, rfl, rfl⟩

theorem seqOn_mapSeq (d : Dev) (c : Nat) {f : ChanSeq → ChanSeq} (hf : ∀ q : ChanSeq, (f q).channel = q.channel) :
    (d.mapSeq c f).seqOn c = (d.seqOn c).map f := by
  have hkeep : ((fun q : ChanSeq => q.channel == c) ∘ fun q => if q.channel = c then f q else q) = fun q => q.channel == c := by
    funext q
    by_cases h : q.channel = c
    · simp [h, hf]
    · simp [h]
  show (d.tier.seqs.map fun q => if q.channel = c then f q else q).find? (fun q => q.channel == c) = _
  rw [List.find?_map, hkeep]
  unfold Dev.seqOn
  cases hfind : d.tier.seqs.find? fun q => q.channel == c with
  | none => rfl
  | some q => simp [show q.channel = c by simpa using List.find?_some hfind]

/-- The sequence follows the list of sequences. -/
theorem seqOn_congr {a b : Dev} (h : b.tier = a.tier) (c : Nat) : b.seqOn c = a.seqOn c := by
  unfold Dev.seqOn
  rw [h]

/-- The release of REPAIR writes the fields of a HOLD. -/
theorem repairRelease_frame (d : Dev) : Dev.onlyRegs holdFields d d.repairRelease := by
  unfold Dev.repairRelease
  split
  · exact onlyRegs_refl _ d
  · exact clearHold_frame d _

@[simp] theorem repairRelease_tier (d : Dev) : d.repairRelease.tier = d.tier := by
  unfold Dev.repairRelease
  split
  · rfl
  · exact clearHold_tier d _

/-- A switch of the map lets its sequence hold REPAIR no more. -/
theorem switched_frame (d : Dev) (c : Nat) : Dev.onlyRegs holdFields d (d.switched c) :=
  onlyRegs_trans (onlyRegs_core _ (mapSeq_core d c _)) (repairRelease_frame _)

theorem switched_seqOn {d : Dev} {c : Nat} {y : ChanSeq} (h : d.seqOn c = some y) :
    (d.switched c).seqOn c = some { y with repairAsserted := false } := by
  unfold Dev.switched
  rw [seqOn_congr (repairRelease_tier _), seqOn_mapSeq d c (f := fun q => { q with repairAsserted := false }) (fun _ => rfl), h]
  rfl

/-- What the end of a sequence writes. -/
def seqEndFields : List Fld := F.MEM_CREQ_STATUS :: holdFields

theorem creqStatus_ne_hold : ∀ g ∈ holdFields, F.MEM_CREQ_STATUS.key ≠ g.key := creqStatus_inTiers.ne_hold

/-- A channel's state is none of these. -/
theorem chan_ne_seqEnd {c : Nat} (hc : c < 384) : ∀ g ∈ seqEndFields, (F.MEM_CHAN_STATE c).key ≠ g.key := fun g hg => by
  rcases List.mem_cons.mp hg with rfl | hg
  · simp only [Fld.key, F.MEM_CHAN_STATE, F.MEM_CREQ_STATUS]
    omega
  · exact (chanState_inTiers hc).ne_hold g hg

/-- The sequence is off the list, and MEM_CREQ shows its status where a request made it. -/
def Dev.seqClosed (d : Dev) (c st : Nat) (y : ChanSeq) : Dev :=
  let d := { d with tier := { d.tier with seqs := d.tier.seqs.filter fun x => x.channel != c } }
  if y.op ≠ crRelease then d.put F.MEM_CREQ_STATUS st else d

theorem seqEnd_eq {d : Dev} {c : Nat} {y : ChanSeq} (h : d.seqOn c = some y) (st : Nat) :
    d.seqEnd c st = ((d.seqClosed c st y).seqEvent c y.op st 0).repairRelease := by
  unfold Dev.seqEnd
  rw [h]
  rfl

theorem seqClosed_frame (d : Dev) (c st : Nat) (y : ChanSeq) : Dev.onlyRegs [F.MEM_CREQ_STATUS] d (d.seqClosed c st y) := by
  unfold Dev.seqClosed
  dsimp only
  split
  · exact onlyRegs_trans (onlyRegs_core _ (tierSet_core _ _)) (onlyRegs_put _ _ _ _ List.mem_cons_self)
  · exact onlyRegs_core _ (tierSet_core _ _)

theorem seqClosed_tier (d : Dev) (c st : Nat) (y : ChanSeq) :
    (d.seqClosed c st y).tier = { d.tier with seqs := d.tier.seqs.filter fun x => x.channel != c } := by
  unfold Dev.seqClosed
  dsimp only
  split <;> rfl

/-- A sequence ends: it is off the list, MEM_CREQ and one memory event say so. -/
theorem seqEnd_effect {d : Dev} {c st : Nat} {y : ChanSeq} (h : d.seqOn c = some y) (hst : st < 16) :
    (d.seqEnd c st).seqOn c = none ∧ (y.op ≠ crRelease → (d.seqEnd c st).get F.MEM_CREQ_STATUS = st) ∧
      Dev.raisedOne d (d.seqEnd c st) evMemory stOk c [c, y.op, st, 0] ∧ Dev.eventFrame seqEndFields d (d.seqEnd c st) := by
  have hclosed := seqClosed_frame d c st y
  have hfree : RingFree [F.MEM_CREQ_STATUS] := ringFree_tiers (by simpa using creqStatus_inTiers)
  have hrelease := repairRelease_frame ((d.seqClosed c st y).seqEvent c y.op st 0)
  rw [seqEnd_eq h]
  refine ⟨?_, fun hop => ?_, ?_, ?_⟩
  · unfold Dev.seqOn Dev.seqEvent
    rw [repairRelease_tier, raise_tier, seqClosed_tier]
    simp
  · rw [hrelease.1 _ creqStatus_ne_hold, Dev.seqEvent, raise_get _ _ _ _ _ creqStatus_inTiers.away, Dev.seqClosed]
    dsimp only
    rw [if_pos hop, get_put_same]
    exact Nat.mod_eq_of_lt hst
  · exact raisedOne_after (raise_one_after hclosed hfree _ _ _ _) hrelease
  · exact eventFrame_trans (eventFrame_mono (eventFrame_raise hclosed hfree _ _ _ _) (by simp [seqEndFields]))
      (eventFrame_mono (eventFrame_of_only hrelease ringFree_hold) fun _ => List.mem_cons_of_mem _)

/-! ### Requests (R209) -/

theorem exec_creq {s : State} (hs : s.powered) {ch : Fin 512} {c : Instr} {op : Nat}
    (h : (c, op) ∈ [(Instr.retrain ch, crRetrain), (.repair ch, crRepair), (.spare ch, crSpare)]) :
    exec c s = .next { s with dev := s.dev.creq op ch } ∧ op < 8 := by
  simp only [List.mem_cons, Prod.mk.injEq, List.not_mem_nil, or_false] at h
  rcases h with ⟨rfl, rfl⟩ | ⟨rfl, rfl⟩ | ⟨rfl, rfl⟩
  · exact ⟨onDev_powered (fun d => d.creq crRetrain ch) s hs, by decide⟩
  · exact ⟨onDev_powered (fun d => d.creq crRepair ch) s hs, by decide⟩
  · exact ⟨onDev_powered (fun d => d.creq crSpare ch) s hs, by decide⟩

/-- MEM_CREQ as a request leaves it. -/
def Dev.creqShown (d : Dev) (op c st reason : Nat) : Dev :=
  d.puts [(F.MEM_CREQ_CHANNEL, c), (F.MEM_CREQ_OP, op), (F.MEM_CREQ_STATUS, st), (F.MEM_CREQ_REASON, reason)]

theorem creqShown_frame (d : Dev) (op c st reason : Nat) : Dev.onlyRegs creqFields d (d.creqShown op c st reason) :=
  onlyRegs_mono (onlyRegs_puts d _) (by simp [creqFields])

theorem creqShown_get {d : Dev} {op c st reason : Nat} {f : Fld} {v : Nat}
    (h : (f, v) ∈ [(F.MEM_CREQ_CHANNEL, c), (F.MEM_CREQ_OP, op), (F.MEM_CREQ_STATUS, st), (F.MEM_CREQ_REASON, reason)]) (hv : v < 2 ^ f.w) :
    (d.creqShown op c st reason).get f = v :=
  (get_puts_mem (fs := creqFields) rfl (by decide) h d).trans (Nat.mod_eq_of_lt hv)

/-- The reason follows the channel's state, the step of its stack and the committed spares. -/
theorem creqReason_congr {a b : Dev} {c : Nat} (hregs : Dev.onlyRegs creqFields a b) (htier : b.tier = a.tier) : b.creqReason c = a.creqReason c := by
  unfold Dev.creqReason
  by_cases hc : c < 384
  · have hkeep : ∀ f : Fld, f.off < 0xC02200 → f.lo < 64 → b.get f = a.get f := fun f hoff hlo => hregs.1 f fun g hg => by
      have hg' : g.off = 0xC02200 ∧ g.lo < 64 := (show ∀ g ∈ creqFields, g.off = 0xC02200 ∧ g.lo < 64 by decide) g hg
      exact key_ne hlo hg'.2 (.inl (by omega))
    have hstate : b.chan c = a.chan c := hkeep _ (by simp only [F.MEM_CHAN_STATE]; omega) (Nat.zero_lt_succ 63)
    rw [hstate, hkeep (F.MEM_STACK_STEP (c / 32)) (by simp only [F.MEM_STACK_STEP]; omega) (by simp only [F.MEM_STACK_STEP]; omega), htier]
  · rw [if_pos (show 384 ≤ c by omega), if_pos (show 384 ≤ c by omega)]

theorem creqReason_lt (d : Dev) (c : Nat) : d.creqReason c < 16 := by
  unfold Dev.creqReason
  split
  · omega
  · split
    · omega
    · split
      · omega
      · split
        · omega
        · split <;> omega

theorem lt_of_creqReason {d : Dev} {c : Nat} (h : d.creqReason c = 0) : c < 384 := by
  by_contra hc
  unfold Dev.creqReason at h
  rw [if_pos (show 384 ≤ c by omega)] at h
  split at h <;> omega

/-- A request that is taken: its REASON is 0. -/
theorem creq_taken {d : Dev} {op c : Nat} (hfree : d.get F.MEM_CREQ_STATUS ≠ cqBusy) (hhas : d.has ftChanRepair = true) :
    d.creq op c = if d.creqReason c ≠ 0 then (d.creqShown op c cqRefused (d.creqReason c)).seqEvent c op cqRefused (d.creqReason c)
      else (({ d.creqShown op c cqBusy 0 with tier :=
        { d.tier with seqs := d.tier.seqs ++ [(⟨c / 32, c, op, false, false⟩ : ChanSeq)] } } : Dev).setChan c csRequested).seqDefer c := by
  have hreason : (d.puts [(F.MEM_CREQ_CHANNEL, c), (F.MEM_CREQ_OP, op)]).creqReason c = d.creqReason c :=
    creqReason_congr (onlyRegs_mono (onlyRegs_puts d _) (by simp [creqFields])) (puts_tier _ d)
  unfold Dev.creq
  rw [if_neg (by simp [hfree, hhas])]
  dsimp only
  rw [hreason]
  rfl

theorem creq_refused {c : Instr} {s : State} {ch : Fin 512} {op : Nat} (hs : s.powered)
    (hc : (c, op) ∈ [(Instr.retrain ch, crRetrain), (.repair ch, crRepair), (.spare ch, crSpare)])
    (h : s.dev.get F.MEM_CREQ_STATUS = cqBusy ∨ s.dev.has ftChanRepair = false) :
    Answers c s fun t =>
      Dev.raisedOne s.dev t.dev evRegister stOk 0 [F.MEM_CREQ_GO.off, ch.val * 2 ^ 16 + op * 2 + 1] ∧ State.onlyFieldsEv regaccFields s t := by
  refine refuse_answers ((exec_creq hs hc).1.trans ?_)
  unfold Dev.creq
  rw [if_pos (by simpa using h)]

theorem creq_reason {c : Instr} {s : State} {ch : Fin 512} {op : Nat} (hs : s.powered)
    (hc : (c, op) ∈ [(Instr.retrain ch, crRetrain), (.repair ch, crRepair), (.spare ch, crSpare)])
    (hfree : s.dev.get F.MEM_CREQ_STATUS ≠ cqBusy) (hhas : s.dev.has ftChanRepair = true) (h : s.dev.creqReason ch ≠ 0) :
    Answers c s fun t =>
      t.dev.get F.MEM_CREQ_STATUS = cqRefused ∧ t.dev.get F.MEM_CREQ_REASON = s.dev.creqReason ch ∧ t.dev.tier = s.dev.tier ∧
        Dev.raisedOne s.dev t.dev evMemory stOk ch [ch.val, op, cqRefused, s.dev.creqReason ch] ∧ State.onlyFieldsEv creqFields s t := by
  obtain ⟨hexec, -⟩ := exec_creq hs hc
  rw [creq_taken hfree hhas, if_pos h] at hexec
  have hshown := creqShown_frame s.dev op ch cqRefused (s.dev.creqReason ch)
  have hring := ringFree_tiers creqFields_inTiers
  have hlt := creqReason_lt s.dev ch
  refine ⟨_, hexec, ?_, ?_, ?_, raise_one_after hshown hring _ _ _ _, onlyFieldsEv_of_frame (eventFrame_raise hshown hring _ _ _ _)⟩
  · exact (raise_get _ _ _ _ _ (creqFields_inTiers _ (by simp [creqFields])).away).trans (creqShown_get (by simp) (by decide))
  · exact (raise_get _ _ _ _ _ (creqFields_inTiers _ (by simp [creqFields])).away).trans (creqShown_get (by simp) hlt)
  · exact (raise_tier _ _ _ _ _).trans (puts_tier _ _)

/-- What a deferred request leaves: schedule events, and its sequence marked. -/
theorem seqDefer_effect (d : Dev) (c : Nat) :
    Dev.eventFrame [] d (d.seqDefer c) ∧ ∃ f : ChanSeq → ChanSeq, (d.seqDefer c).tier.seqs = d.tier.seqs.map f ∧
      ∀ q : ChanSeq, (f q).channel = q.channel ∧ (f q).stack = q.stack ∧ (f q).op = q.op := by
  have hsame : Dev.eventFrame [] d d ∧ ∃ f : ChanSeq → ChanSeq, d.tier.seqs = d.tier.seqs.map f ∧
      ∀ q : ChanSeq, (f q).channel = q.channel ∧ (f q).stack = q.stack ∧ (f q).op = q.op :=
    ⟨eventFrame_refl d, id, (List.map_id _).symm, fun _ => ⟨rfl, rfl, rfl⟩⟩
  unfold Dev.seqDefer
  split
  · split
    · exact hsame
    · obtain ⟨hframe, htier, -⟩ := foldl_raise_frame evSchedule stOk (fun p => p) (fun _ _ => [1, 1, c, d.trcAsked]) []
        ((d.mapSeq c fun q => { q with deferred := true }).uncovered d.trcAsked) (d.mapSeq c fun q => { q with deferred := true })
      refine ⟨eventFrame_trans (eventFrame_of_core _ (mapSeq_core d c _)) hframe, fun q => if q.channel = c then { q with deferred := true } else q,
        congrArg TierSt.seqs htier, fun q => ?_⟩
      dsimp only
      split <;> exact ⟨rfl, rfl, rfl⟩
  · exact hsame

theorem ringFree_creq : RingFree creqFields := ringFree_tiers creqFields_inTiers

/-- A field of MEM_CREQ is none that follows a channel's state. -/
theorem creq_ne_chan {c : Nat} (hc : c < 384) {f : Fld} (hf : f ∈ creqFields) : ∀ g ∈ chanFields c, f.key ≠ g.key := fun g hg => by
  have hoff : f.off = 0xC02200 := (show ∀ f ∈ creqFields, f.off = 0xC02200 by decide) f hf
  rcases List.mem_cons.mp hg with rfl | hg
  · refine key_ne (creqFields_inTiers f hf).2.2 (chanState_inTiers hc).2.2 (.inl ?_)
    simp only [F.MEM_CHAN_STATE]
    omega
  · exact ne_chanShown (creqFields_inTiers f hf) (by omega) g hg

theorem creq_accepted {c : Instr} {s : State} {ch : Fin 512} {op : Nat} (hs : s.powered)
    (hc : (c, op) ∈ [(Instr.retrain ch, crRetrain), (.repair ch, crRepair), (.spare ch, crSpare)])
    (hfree : s.dev.get F.MEM_CREQ_STATUS ≠ cqBusy) (hhas : s.dev.has ftChanRepair = true) (h : s.dev.creqReason ch = 0) :
    Answers c s fun t =>
      t.dev.get F.MEM_CREQ_STATUS = cqBusy ∧ t.dev.get F.MEM_CREQ_REASON = 0 ∧ t.dev.get F.MEM_CREQ_CHANNEL = ch ∧
        t.dev.get F.MEM_CREQ_OP = op ∧ t.dev.chan ch = csRequested ∧ t.dev.tier.seqs.length = s.dev.tier.seqs.length + 1 ∧
        (∃ y ∈ t.dev.tier.seqs, y.channel = ch ∧ y.stack = ch / 32 ∧ y.op = op) ∧
        State.onlyFieldsEv (creqFields ++ chanFields ch) s t := by
  obtain ⟨hexec, hop⟩ := exec_creq hs hc
  rw [creq_taken hfree hhas, if_neg (not_not_intro h)] at hexec
  have hlt := lt_of_creqReason h
  set d1 : Dev := { s.dev.creqShown op ch cqBusy 0 with
    tier := { s.dev.tier with seqs := s.dev.tier.seqs ++ [(⟨ch / 32, ch, op, false, false⟩ : ChanSeq)] } } with hd1
  have hshown : Dev.onlyRegs creqFields s.dev d1 := onlyRegs_trans (creqShown_frame s.dev op ch cqBusy 0) (onlyRegs_core _ (tierSet_core _ _))
  have hchan := setChan_frame d1 ch csRequested
  obtain ⟨hdefer, f, hseqs, hf⟩ := seqDefer_effect (d1.setChan ch csRequested) ch
  rw [setChan_tier] at hseqs
  have hread : ∀ {f : Fld} {v : Nat},
      (f, v) ∈ [(F.MEM_CREQ_CHANNEL, ch.val), (F.MEM_CREQ_OP, op), (F.MEM_CREQ_STATUS, cqBusy), (F.MEM_CREQ_REASON, 0)] → v < 2 ^ f.w →
      ((d1.setChan ch csRequested).seqDefer ch).get f = v := fun {f v} hmem hv => by
    have hf : f ∈ creqFields := List.mem_map_of_mem (f := Prod.fst) hmem
    calc ((d1.setChan ch csRequested).seqDefer ch).get f
      _ = (d1.setChan ch csRequested).get f := eventFrame_get hdefer (creqFields_inTiers f hf).away fun _ h => nomatch h
      _ = d1.get f := hchan.1 f (creq_ne_chan hlt hf)
      _ = v := creqShown_get (d := s.dev) hmem hv
  refine ⟨_, hexec, hread (by simp) (by decide), hread (by simp) (by decide), hread (by simp) ch.isLt, hread (by simp) hop, ?_, ?_, ?_, ?_⟩
  · exact (chan_of_frame hdefer hlt fun _ h => nomatch h).trans (chan_setChan d1 hlt (by decide))
  · show ((d1.setChan ch csRequested).seqDefer ch).tier.seqs.length = _
    rw [hseqs, List.length_map]
    exact List.length_append
  · refine ⟨f ⟨ch / 32, ch, op, false, false⟩, ?_, hf _⟩
    show _ ∈ ((d1.setChan ch csRequested).seqDefer ch).tier.seqs
    rw [hseqs]
    exact List.mem_map_of_mem (List.mem_append_right _ List.mem_cons_self)
  · exact onlyFieldsEv_of_frame (eventFrame_trans (eventFrame_mono (eventFrame_of_only hshown ringFree_creq) fun _ => List.mem_append_left _)
      (eventFrame_trans (eventFrame_mono (eventFrame_of_only hchan (ringFree_chanFields hlt)) fun _ => List.mem_append_right _)
        (eventFrame_mono hdefer fun _ h => nomatch h)))

/-! ### The start of a sequence (R209, R211) -/

/-- A field of the tiers is no channel's, where its register is neither. -/
theorem ne_chanFields {c : Nat} {f : Fld} (hf : f.inTiers) (hstate : (F.MEM_CHAN_STATE c).key ≠ f.key) (hfree : f.off ≠ 0xC02208) :
    ∀ g ∈ chanFields c, f.key ≠ g.key := fun g hg => by
  rcases List.mem_cons.mp hg with rfl | hg
  · exact hstate.symm
  · exact ne_chanShown hf hfree g hg

theorem reserve_ne_chan (c : Nat) {st : Nat} (hst : st < 12) : ∀ g ∈ chanFields c, (F.MEM_STACK_RESERVE st).key ≠ g.key := by
  refine ne_chanFields (reserve_inTiers hst) ?_ ?_ <;> simp only [Fld.key, F.MEM_CHAN_STATE, F.MEM_STACK_RESERVE] <;> omega

theorem localChan_lt (c : Nat) : localChan c < 2 ^ 8 := Nat.lt_trans (Nat.mod_lt c (by decide)) (by decide)

theorem channel_starts (s : State) (st : Fin 12) (y : ChanSeq) (hs : s.powered)
    (hfind : (s.dev.tier.seqs.find? fun y => y.stack == st.val && s.dev.chan y.channel == csRequested) = some y) (hc : y.channel < 384)
    (hfree : s.dev.get (F.MEM_STACK_RESERVE st) = 0xFF) (hcover : s.dev.uncovered s.dev.trcAsked = []) :
    Answers (.channelSequenceStart st) s fun t =>
      t.dev.get (F.MEM_STACK_RESERVE st) = localChan y.channel ∧ t.dev.chan y.channel = csMirroring ∧ t.dev.tier.seqs = s.dev.tier.seqs ∧
        Dev.raisedOne s.dev t.dev evMemory stOk y.channel [y.channel, y.op, cqBusy, 0] ∧
        State.onlyFieldsEv (F.MEM_STACK_RESERVE st :: chanFields y.channel) s t := by
  have hstart : s.dev.seqStart st =
      ((s.dev.put (F.MEM_STACK_RESERVE st) (localChan y.channel)).setChan y.channel csMirroring).raise evMemory stOk y.channel
        [y.channel, y.op, cqBusy, 0] := by
    unfold Dev.seqStart
    rw [hfind]
    dsimp only
    rw [if_neg (not_not_intro hfree), hcover, if_neg (by simp)]
    rfl
  have hexec : exec (.channelSequenceStart st) s = .next { s with dev := s.dev.seqStart st } := onDev_powered (fun d => d.seqStart st) s hs
  rw [hstart] at hexec
  have hchan := setChan_frame (s.dev.put (F.MEM_STACK_RESERVE st) (localChan y.channel)) y.channel csMirroring
  have hregs : Dev.onlyRegs (F.MEM_STACK_RESERVE st :: chanFields y.channel) s.dev
      ((s.dev.put (F.MEM_STACK_RESERVE st) (localChan y.channel)).setChan y.channel csMirroring) :=
    onlyRegs_trans (onlyRegs_put _ _ _ _ List.mem_cons_self) (onlyRegs_mono hchan fun _ => List.mem_cons_of_mem _)
  have hmirror := chan_setChan (s.dev.put (F.MEM_STACK_RESERVE st) (localChan y.channel)) hc (show csMirroring < 10 by decide)
  have hring := ringFree_cons (reserve_inTiers st.isLt).away (ringFree_chanFields hc)
  refine ⟨_, hexec, ?_, ?_, ?_, raise_one_after hregs hring _ _ _ _, onlyFieldsEv_of_frame (eventFrame_raise hregs hring _ _ _ _)⟩
  · refine (raise_get _ _ _ _ _ (reserve_inTiers st.isLt).away).trans ((hchan.1 _ (reserve_ne_chan _ st.isLt)).trans ?_)
    rw [get_put_same]
    exact Nat.mod_eq_of_lt (localChan_lt _)
  · dsimp only [Dev.chan]
    exact (raise_get _ _ _ _ _ (chanState_inTiers hc).away).trans hmirror
  · exact congrArg TierSt.seqs ((raise_tier _ _ _ _ _).trans ((setChan_tier _ _ _).trans (put_tier _ _ _)))

/-! ### The copies (R209, R210, R212) -/

/-- The copy of a channel raises events and does no more. -/
theorem copyErrors_frame (l : List Fld) (d : Dev) (c : Nat) :
    Dev.eventFrame l d (d.copyErrors c) ∧ (d.copyErrors c).tier = d.tier ∧ Dev.partsAlike d (d.copyErrors c) :=
  foldl_raise_frame evRas stUncorrectable (fun _ => c) (fun _ w => [64 * w]) l _ d

/-- Whether a switch holds REPAIR follows the tick state and the running images. -/
theorem switchHolds_congr {a b : Dev} (hstate : b.get F.TCK_STATUS_STATE = a.get F.TCK_STATUS_STATE) (hparts : Dev.partsAlike a b) :
    b.switchHolds = a.switchHolds := by
  have hrunning : b.runningParts = a.runningParts := by
    unfold Dev.runningParts
    congr 1
    funext p
    obtain ⟨l, hp⟩ := hparts p
    rw [hp]
  unfold Dev.switchHolds Dev.tickState
  rw [hstate, hrunning]

theorem switchReady_frame (d : Dev) (c : Nat) : Dev.onlyRegs holdFields d (d.switchReady c) := by
  unfold Dev.switchReady
  split
  · exact onlyRegs_trans (onlyRegs_core _ (mapSeq_core d c _)) (assertHold_frame _ _)
  · exact onlyRegs_refl _ d

theorem switchReady_badWords (d : Dev) (c : Nat) : (d.switchReady c).tier.badWords = d.tier.badWords := by
  unfold Dev.switchReady
  split
  · rw [assertHold_tier]
    rfl
  · rfl

/-- REPAIR is held where a scheduled image runs. -/
theorem switchReady_held {d : Dev} (h : d.switchHolds = true) (c : Nat) : (d.switchReady c).held hcRepair = true := by
  unfold Dev.switchReady
  rw [if_pos h]
  exact assertHold_held _ _ (by decide)

/-- The tick state is none of a channel's fields. -/
theorem tickState_ne_chan (c : Nat) : ∀ g ∈ chanFields c, F.TCK_STATUS_STATE.key ≠ g.key := by
  intro g hg
  simp only [chanFields, List.mem_cons, List.not_mem_nil, or_false] at hg
  rcases hg with rfl | rfl | rfl | rfl <;>
    simp only [Fld.key, F.TCK_STATUS_STATE, F.MEM_CHAN_STATE, F.SCH_TRC_CHAN_OUT, F.MEM_FREE_HBM_FREE, F.MEM_FREE_RR_FREE] <;> omega

theorem tickState_away : F.TCK_STATUS_STATE.awayFromEvents := holdFields_away _ (by simp [holdFields])

/-- A copy that ends: its channel waits for its switch. -/
theorem copyDone_effect (d : Dev) {c b : Nat} (hc : c < 384) (hb : b < 10) :
    (((d.copyErrors c).setChan c b).switchReady c).chan c = b ∧
      (d.switchHolds = true → (((d.copyErrors c).setChan c b).switchReady c).held hcRepair = true) ∧
      (((d.copyErrors c).setChan c b).switchReady c).tier.badWords = d.tier.badWords ∧
      Dev.eventFrame (chanFields c ++ holdFields) d (((d.copyErrors c).setChan c b).switchReady c) := by
  obtain ⟨hcopy, htier, hparts⟩ := copyErrors_frame (chanFields c) d c
  have hset := eventFrame_trans hcopy (eventFrame_of_only (setChan_frame (d.copyErrors c) c b) (ringFree_chanFields hc))
  have hready := switchReady_frame ((d.copyErrors c).setChan c b) c
  refine ⟨?_, fun h => switchReady_held ?_ c, ?_, ?_⟩
  · exact (hready.1 _ (chanState_inTiers hc).ne_hold).trans (chan_setChan _ hc hb)
  · rw [switchHolds_congr (eventFrame_get hset tickState_away (tickState_ne_chan c))
      (partsAlike_trans hparts (partsAlike_of_parts (setChan_parts _ _ _)))]
    exact h
  · rw [switchReady_badWords, setChan_tier, htier]
  · exact eventFrame_trans (eventFrame_mono hset fun _ => List.mem_append_left _)
      (eventFrame_mono (eventFrame_of_only hready ringFree_hold) fun _ => List.mem_append_right _)

theorem copy_done {s : State} {ch : Fin 384} {c : Instr} {a b : Nat} (hs : s.powered)
    (hc : (c, a, b) ∈ [(Instr.mirrorDone ch, csMirroring, csRedirectWait), (.restoreDone ch, csRestoring, csRestoreWait)])
    (hstate : s.dev.chan ch = a) (hpaused : s.dev.copyPaused ch = false) :
    Answers c s fun t =>
      t.dev.chan ch = b ∧ (s.dev.switchHolds = true → t.dev.held hcRepair = true) ∧ t.dev.tier.badWords = s.dev.tier.badWords ∧
        State.onlyFieldsEv (chanFields ch ++ holdFields) s t := by
  have hexec : exec c s = .next { s with dev := ((s.dev.copyErrors ch).setChan ch b).switchReady ch } ∧ b < 10 := by
    simp only [List.mem_cons, Prod.mk.injEq, List.not_mem_nil, or_false] at hc
    rcases hc with ⟨rfl, rfl, rfl⟩ | ⟨rfl, rfl, rfl⟩
    · refine ⟨(onDev_powered (fun d => d.mirrorDone ch) s hs).trans ?_, by decide⟩
      unfold Dev.mirrorDone
      rw [if_neg (by simp [hstate, hpaused])]
    · refine ⟨(onDev_powered (fun d => d.restoreDone ch) s hs).trans ?_, by decide⟩
      unfold Dev.restoreDone
      rw [if_neg (by simp [hstate, hpaused])]
  obtain ⟨hexec, hb⟩ := hexec
  obtain ⟨hchan, hheld, hbad, hframe⟩ := copyDone_effect s.dev ch.isLt hb
  exact ⟨_, hexec, hchan, hheld, hbad, onlyFieldsEv_of_frame hframe⟩

/-! ### The redirect (R209, R210) -/

/-- A channel's new state and the switch of its map. -/
theorem switchTo_effect {d : Dev} {c st : Nat} {y : ChanSeq} (h : d.seqOn c = some y) (hc : c < 384) (hst : st < 10) :
    ((d.setChan c st).switched c).chan c = st ∧ ((d.setChan c st).switched c).seqOn c = some { y with repairAsserted := false } ∧
      Dev.onlyRegs (chanFields c ++ holdFields) d ((d.setChan c st).switched c) := by
  have hswitch := switched_frame (d.setChan c st) c
  refine ⟨?_, switched_seqOn ((seqOn_congr (setChan_tier d c st) c).trans h), ?_⟩
  · exact (hswitch.1 _ (chanState_inTiers hc).ne_hold).trans (chan_setChan d hc hst)
  · exact onlyRegs_trans (onlyRegs_mono (setChan_frame d c st) fun _ => List.mem_append_left _)
      (onlyRegs_mono hswitch fun _ => List.mem_append_right _)

theorem ringFree_chanHold {c : Nat} (hc : c < 384) : RingFree (chanFields c ++ holdFields) := ringFree_append (ringFree_chanFields hc) ringFree_hold

theorem redirectSwitch_eq {d : Dev} {c : Nat} {y : ChanSeq} (h : d.seqOn c = some y) (hstate : d.chan c = csRedirectWait)
    (hpoint : d.switchPoint = true) :
    d.redirectSwitch c =
      if y.op = crSpare then ((d.setChan c csSpared).switched c).seqEnd c cqDone else (d.setChan c csWorking).switched c := by
  unfold Dev.redirectSwitch
  rw [h]
  dsimp only
  rw [if_neg (by simp [hstate, hpoint])]

theorem redirect_works (s : State) (ch : Fin 384) (y : ChanSeq) (hs : s.powered) (hseq : s.dev.seqOn ch = some y)
    (hstate : s.dev.chan ch = csRedirectWait) (hpoint : s.dev.switchPoint = true) (hop : y.op ≠ crSpare) :
    Answers (.redirectSwitch ch) s fun t =>
      t.dev.chan ch = csWorking ∧ t.dev.seqOn ch = some { y with repairAsserted := false } ∧ t.dev.events = s.dev.events ∧
        State.onlyFields (chanFields ch ++ holdFields) s t := by
  have hexec : exec (.redirectSwitch ch) s = .next { s with dev := (s.dev.setChan ch csWorking).switched ch } :=
    (onDev_powered (fun d => d.redirectSwitch ch) s hs).trans (by rw [redirectSwitch_eq hseq hstate hpoint, if_neg hop])
  obtain ⟨hchan, hon, hframe⟩ := switchTo_effect hseq ch.isLt (show csWorking < 10 by decide)
  exact ⟨_, hexec, hchan, hon, hframe.2.2.2, onlyFields_of_dev hframe⟩

/-- A switch that ends its sequence too. -/
theorem switchEnd_effect {d b : Dev} {c : Nat} {y : ChanSeq} {l : List Fld} (hon : b.seqOn c = some { y with repairAsserted := false })
    (hframe : Dev.onlyRegs l d b) (hring : RingFree l) (hc : c < 384) :
    (b.seqEnd c cqDone).chan c = b.chan c ∧ (b.seqEnd c cqDone).seqOn c = none ∧
      (y.op ≠ crRelease → (b.seqEnd c cqDone).get F.MEM_CREQ_STATUS = cqDone) ∧
      Dev.raisedOne d (b.seqEnd c cqDone) evMemory stOk c [c, y.op, cqDone, 0] ∧ Dev.eventFrame (seqEndFields ++ l) d (b.seqEnd c cqDone) := by
  obtain ⟨hnone, hstatus, hone, hend⟩ := seqEnd_effect hon (show cqDone < 16 by decide)
  exact ⟨chan_of_frame hend hc (chan_ne_seqEnd hc), hnone, hstatus, raisedOne_before hframe hring hone,
    eventFrame_trans (eventFrame_mono (eventFrame_of_only hframe hring) fun _ => List.mem_append_right _)
      (eventFrame_mono hend fun _ => List.mem_append_left _)⟩

theorem redirect_spares (s : State) (ch : Fin 384) (y : ChanSeq) (hs : s.powered) (hseq : s.dev.seqOn ch = some y)
    (hstate : s.dev.chan ch = csRedirectWait) (hpoint : s.dev.switchPoint = true) (hop : y.op = crSpare) :
    Answers (.redirectSwitch ch) s fun t =>
      t.dev.chan ch = csSpared ∧ t.dev.seqOn ch = none ∧ t.dev.get F.MEM_CREQ_STATUS = cqDone ∧
        Dev.raisedOne s.dev t.dev evMemory stOk ch [ch.val, crSpare, cqDone, 0] ∧
        State.onlyFieldsEv (F.MEM_CREQ_STATUS :: chanFields ch ++ holdFields) s t := by
  have hexec : exec (.redirectSwitch ch) s = .next { s with dev := ((s.dev.setChan ch csSpared).switched ch).seqEnd ch cqDone } :=
    (onDev_powered (fun d => d.redirectSwitch ch) s hs).trans (by rw [redirectSwitch_eq hseq hstate hpoint, if_pos hop])
  obtain ⟨hchan, hon, hregs⟩ := switchTo_effect hseq ch.isLt (show csSpared < 10 by decide)
  obtain ⟨hstays, hnone, hstatus, hone, hframe⟩ := switchEnd_effect hon hregs (ringFree_chanHold ch.isLt) ch.isLt
  refine ⟨_, hexec, hstays.trans hchan, hnone, hstatus (by rw [hop]; decide), hop ▸ hone, onlyFieldsEv_of_frame (eventFrame_mono hframe fun f hf => ?_)⟩
  simp only [seqEndFields, List.mem_append, List.mem_cons] at hf ⊢
  tauto

/-! ### The way back (R209) -/

/-- The reserve's occupant is none of what the end of a sequence writes. -/
theorem reserve_ne_seqEnd {st : Nat} (hst : st < 12) : ∀ g ∈ seqEndFields, (F.MEM_STACK_RESERVE st).key ≠ g.key := fun g hg => by
  rcases List.mem_cons.mp hg with rfl | hg
  · simp only [Fld.key, F.MEM_STACK_RESERVE, F.MEM_CREQ_STATUS]
    omega
  · exact (reserve_inTiers hst).ne_hold g hg

theorem restore_switch (s : State) (ch : Fin 384) (y : ChanSeq) (hs : s.powered) (hseq : s.dev.seqOn ch = some y)
    (hstate : s.dev.chan ch = csRestoreWait) (hpoint : s.dev.switchPoint = true) :
    Answers (.restoreSwitch ch) s fun t =>
      t.dev.chan ch = csIdle ∧ t.dev.get (F.MEM_STACK_RESERVE (ch / 32)) = 0xFF ∧ t.dev.seqOn ch = none ∧
        (y.op ≠ crRelease → t.dev.get F.MEM_CREQ_STATUS = cqDone) ∧ Dev.raisedOne s.dev t.dev evMemory stOk ch [ch.val, y.op, cqDone, 0] ∧
        State.onlyFieldsEv (F.MEM_CREQ_STATUS :: F.MEM_STACK_RESERVE (ch / 32) :: chanFields ch ++ holdFields) s t := by
  have hst : ch.val / 32 < 12 := by omega
  have hexec : exec (.restoreSwitch ch) s =
      .next { s with dev := (((s.dev.setChan ch csIdle).put (F.MEM_STACK_RESERVE (ch / 32)) 0xFF).switched ch).seqEnd ch cqDone } := by
    refine (onDev_powered (fun d => d.restoreSwitch ch) s hs).trans ?_
    unfold Dev.restoreSwitch
    rw [if_neg (by simp [hstate, hpoint])]
  have hset := setChan_frame s.dev ch csIdle
  have hput := onlyRegs_put [F.MEM_STACK_RESERVE (ch / 32)] (s.dev.setChan ch csIdle) _ 0xFF List.mem_cons_self
  have hswitch := switched_frame ((s.dev.setChan ch csIdle).put (F.MEM_STACK_RESERVE (ch / 32)) 0xFF) ch
  have hon := switched_seqOn ((seqOn_congr (show ((s.dev.setChan ch csIdle).put (F.MEM_STACK_RESERVE (ch / 32)) 0xFF).tier = s.dev.tier from
    setChan_tier _ _ _) ch).trans hseq)
  have hregs := onlyRegs_trans (onlyRegs_mono hset (m := F.MEM_STACK_RESERVE (ch / 32) :: chanFields ch ++ holdFields) (by simp +contextual))
    (onlyRegs_trans (onlyRegs_mono hput (by simp)) (onlyRegs_mono hswitch (by simp +contextual)))
  have hring := ringFree_cons (reserve_inTiers hst).away (ringFree_chanHold ch.isLt)
  obtain ⟨hstays, hnone, hstatus, hone, hframe⟩ := switchEnd_effect hon hregs hring ch.isLt
  obtain ⟨-, -, -, hend⟩ := seqEnd_effect hon (show cqDone < 16 by decide)
  refine ⟨_, hexec, hstays.trans ?_, ?_, hnone, hstatus, hone, onlyFieldsEv_of_frame (eventFrame_mono hframe fun f hf => ?_)⟩
  · refine (hswitch.1 _ (chanState_inTiers ch.isLt).ne_hold).trans (Eq.trans ?_ (chan_setChan s.dev ch.isLt (show csIdle < 10 by decide)))
    exact hput.1 _ (by simpa using (reserve_ne_chan ch.val hst _ List.mem_cons_self).symm)
  · refine (eventFrame_get hend (reserve_inTiers hst).away (reserve_ne_seqEnd hst)).trans ((hswitch.1 _ (reserve_inTiers hst).ne_hold).trans ?_)
    rw [get_put_same]
    rfl
  · simp only [seqEndFields, List.mem_append, List.mem_cons] at hf ⊢
    tauto

/-! ### The work on a channel (R209, R214, R215) -/

/-- The records that the work of a sequence applies. -/
def Dev.workRecords (d : Dev) (c : Nat) (y : ChanSeq) : List (List Byte) :=
  if y.op = crRepair then d.tier.softRepairs.filter (fun r => recordChannel r == c) else []

/-- The records applied, and the channel trained once more. -/
def Dev.worked (d : Dev) (c : Nat) (y : ChanSeq) : Dev :=
  ({ d with tier := { d.tier with applied := d.tier.applied ++ d.workRecords c y,
                                  softRepairs := d.tier.softRepairs.filter fun r => !(d.workRecords c y).contains r } } : Dev).bump
    (F.MEM_CHAN_RETRAINS c) 1

theorem worked_frame (d : Dev) (c : Nat) (y : ChanSeq) : Dev.onlyRegs [F.MEM_CHAN_RETRAINS c] d (d.worked c y) :=
  onlyRegs_trans (onlyRegs_core _ (tierSet_core _ _)) (onlyRegs_bump _ _ _)

theorem worked_tier (d : Dev) (c : Nat) (y : ChanSeq) :
    (d.worked c y).tier = { d.tier with applied := d.tier.applied ++ d.workRecords c y,
                                        softRepairs := d.tier.softRepairs.filter fun r => !(d.workRecords c y).contains r } := rfl

/-- A repair applies the records of its channel. -/
theorem worked_repair (d : Dev) (c : Nat) {y : ChanSeq} (hop : y.op = crRepair) {r : List Byte} (hr : r ∈ d.tier.softRepairs)
    (hchan : recordChannel r = c) : r ∈ (d.worked c y).tier.applied ∧ r ∉ (d.worked c y).tier.softRepairs := by
  have hmine : r ∈ d.workRecords c y := by
    rw [Dev.workRecords, if_pos hop]
    simpa [hr] using hchan
  rw [worked_tier]
  exact ⟨List.mem_append_right _ hmine, by simp [hmine]⟩

/-- Another sequence applies none. -/
theorem worked_other (d : Dev) (c : Nat) {y : ChanSeq} (hop : y.op ≠ crRepair) :
    (d.worked c y).tier.softRepairs = d.tier.softRepairs ∧ (d.worked c y).tier.applied = d.tier.applied := by
  have hmine : d.workRecords c y = [] := if_neg hop
  rw [worked_tier, hmine]
  simp

theorem workDone_eq {d : Dev} {c : Nat} {y : ChanSeq} (h : d.seqOn c = some y) (hstate : d.chan c = csWorking) (trained : Bool) :
    d.workDone c trained = if trained = true then (d.worked c y).setChan c csRestoring
      else (((d.worked c y).setChan c csSpared).raise evRas stOk c [c, csSpared]).seqEnd c cqDone := by
  unfold Dev.workDone
  rw [h]
  dsimp only
  rw [if_neg (not_not_intro hstate)]
  rfl

/-- RETRAINS is none of the other fields of a channel. -/
theorem retrains_ne_chan {c : Nat} (hc : c < 384) : ∀ g ∈ chanFields c, (F.MEM_CHAN_RETRAINS c).key ≠ g.key := by
  refine ne_chanFields (chanRetrains_inTiers hc) ?_ ?_ <;> simp only [Fld.key, F.MEM_CHAN_STATE, F.MEM_CHAN_RETRAINS] <;> omega

theorem work_trained (s : State) (ch : Fin 384) (y : ChanSeq) (hs : s.powered) (hseq : s.dev.seqOn ch = some y)
    (hstate : s.dev.chan ch = csWorking) :
    Answers (.channelWorkDone ch true) s fun t =>
      t.dev.chan ch = csRestoring ∧ t.dev.get (F.MEM_CHAN_RETRAINS ch) = min (2 ^ 16 - 1) (s.dev.get (F.MEM_CHAN_RETRAINS ch) + 1) ∧
        (y.op = crRepair → ∀ r ∈ s.dev.tier.softRepairs, recordChannel r = ch → r ∈ t.dev.tier.applied ∧ r ∉ t.dev.tier.softRepairs) ∧
        (y.op ≠ crRepair → t.dev.tier.softRepairs = s.dev.tier.softRepairs ∧ t.dev.tier.applied = s.dev.tier.applied) ∧
        State.onlyFields (F.MEM_CHAN_RETRAINS ch :: chanFields ch) s t := by
  have hexec : exec (.channelWorkDone ch true) s = .next { s with dev := (s.dev.worked ch y).setChan ch csRestoring } :=
    (onDev_powered (fun d => d.workDone ch true) s hs).trans (by rw [workDone_eq hseq hstate, if_pos rfl])
  have hworked := worked_frame s.dev ch y
  have hset := setChan_frame (s.dev.worked ch y) ch csRestoring
  have htier : ((s.dev.worked ch y).setChan ch csRestoring).tier = (s.dev.worked ch y).tier := setChan_tier _ _ _
  refine ⟨_, hexec, chan_setChan _ ch.isLt (show csRestoring < 10 by decide), ?_, fun hop r hr hchan => ?_, fun hop => ?_,
    onlyFields_of_dev (onlyRegs_trans (onlyRegs_mono hworked (by simp)) (onlyRegs_mono hset fun _ => List.mem_cons_of_mem _))⟩
  · exact (hset.1 _ (retrains_ne_chan ch.isLt)).trans (get_bump_same _ _ _)
  · dsimp only
    rw [htier]
    exact worked_repair s.dev ch hop hr hchan
  · dsimp only
    rw [htier]
    exact worked_other s.dev ch hop

/-- A failure is reported, and the sequence ends after it. -/
theorem failedEnd_effect {d b : Dev} {c : Nat} {y : ChanSeq} {l : List Fld} (hframe : Dev.onlyRegs l d b) (hring : RingFree l)
    (hon : b.seqOn c = some y) (hc : c < 384) (detail : List Nat) :
    ((b.raise evRas stOk c detail).seqEnd c cqDone).chan c = b.chan c ∧ ((b.raise evRas stOk c detail).seqEnd c cqDone).seqOn c = none ∧
      (y.op ≠ crRelease → ((b.raise evRas stOk c detail).seqEnd c cqDone).get F.MEM_CREQ_STATUS = cqDone) ∧
      (∃ e1 e2 : Event, ((b.raise evRas stOk c detail).seqEnd c cqDone).events = e2 :: e1 :: d.events ∧ e1.cls = evRas ∧ e1.detail = detail ∧
        e2.cls = evMemory ∧ e2.detail = [c, y.op, cqDone, 0]) ∧
      Dev.eventFrame (seqEndFields ++ l) d ((b.raise evRas stOk c detail).seqEnd c cqDone) := by
  obtain ⟨e1, he1, hcls1, -, -, hdetail1, -⟩ := raise_one_after hframe hring evRas stOk c detail
  obtain ⟨hnone, hstatus, ⟨e2, he2, hcls2, -, -, hdetail2, -⟩, hend⟩ :=
    seqEnd_effect ((seqOn_congr (raise_tier b evRas stOk c detail) c).trans hon) (show cqDone < 16 by decide)
  refine ⟨?_, hnone, hstatus, ⟨e1, e2, he2.trans (by rw [he1]), hcls1, hdetail1, hcls2, hdetail2⟩, ?_⟩
  · exact (chan_of_frame hend hc (chan_ne_seqEnd hc)).trans (raise_get b _ _ _ _ (chanState_inTiers hc).away)
  · exact eventFrame_trans (eventFrame_mono (eventFrame_raise hframe hring _ _ _ _) fun _ => List.mem_append_right _)
      (eventFrame_mono hend fun _ => List.mem_append_left _)

theorem work_fails (s : State) (ch : Fin 384) (y : ChanSeq) (hs : s.powered) (hseq : s.dev.seqOn ch = some y)
    (hstate : s.dev.chan ch = csWorking) :
    Answers (.channelWorkDone ch false) s fun t =>
      t.dev.chan ch = csSpared ∧ t.dev.seqOn ch = none ∧ (y.op ≠ crRelease → t.dev.get F.MEM_CREQ_STATUS = cqDone) ∧
        (∃ e1 e2 : Event, t.dev.events = e2 :: e1 :: s.dev.events ∧ e1.cls = evRas ∧ e1.detail = [ch.val, csSpared] ∧ e2.cls = evMemory ∧
          e2.detail = [ch.val, y.op, cqDone, 0]) ∧
        State.onlyFieldsEv (F.MEM_CREQ_STATUS :: F.MEM_CHAN_RETRAINS ch :: chanFields ch ++ holdFields) s t := by
  have hexec : exec (.channelWorkDone ch false) s =
      .next { s with dev := (((s.dev.worked ch y).setChan ch csSpared).raise evRas stOk ch [ch.val, csSpared]).seqEnd ch cqDone } :=
    (onDev_powered (fun d => d.workDone ch false) s hs).trans (by rw [workDone_eq hseq hstate, if_neg Bool.false_ne_true])
  have hregs : Dev.onlyRegs (F.MEM_CHAN_RETRAINS ch :: chanFields ch) s.dev ((s.dev.worked ch y).setChan ch csSpared) :=
    onlyRegs_trans (onlyRegs_mono (worked_frame s.dev ch y) (by simp)) (onlyRegs_mono (setChan_frame _ _ _) fun _ => List.mem_cons_of_mem _)
  have hring := ringFree_cons (chanRetrains_inTiers ch.isLt).away (ringFree_chanFields ch.isLt)
  have hon : ((s.dev.worked ch y).setChan ch csSpared).seqOn ch = some y := (seqOn_congr (setChan_tier _ _ _) ch).trans hseq
  obtain ⟨hstays, hnone, hstatus, hevents, hframe⟩ := failedEnd_effect hregs hring hon ch.isLt [ch.val, csSpared]
  have hspared := hstays.trans (chan_setChan _ ch.isLt (show csSpared < 10 by decide))
  generalize (((s.dev.worked ch y).setChan ch csSpared).raise evRas stOk ch [ch.val, csSpared]).seqEnd ch cqDone = d at *
  refine ⟨_, hexec, hspared, hnone, hstatus, hevents, onlyFieldsEv_of_frame (eventFrame_mono hframe fun f hf => ?_)⟩
  simp only [seqEndFields, List.mem_append, List.mem_cons] at hf ⊢
  tauto

/-- Settles O32, from the request, the start, the copies, the redirect, the work and the way back. -/
theorem plannedChannelSequences : Obligations.PlannedChannelSequences := by
  unfold Obligations.PlannedChannelSequences
  refine ⟨fun s ch c op hs hc => ⟨creq_refused hs hc, fun hfree hhas => ⟨creq_reason hs hc hfree hhas, creq_accepted hs hc hfree hhas⟩⟩,
    channel_starts, fun s ch c a b hs hc hstate hpaused => copy_done hs hc hstate hpaused, fun s ch y hs hseq hstate hpoint => ?_,
    fun s ch y hs hseq hstate => ⟨work_trained s ch y hs hseq hstate, work_fails s ch y hs hseq hstate⟩, restore_switch⟩
  exact ⟨redirect_works s ch y hs hseq hstate hpoint, redirect_spares s ch y hs hseq hstate hpoint⟩

end Sys2Proof.Machine
end

section
/-! PROOF. The refutation of O33: a cached line whose address no channel holds, whose region's mode is read where a channel's state stands. -/

namespace Sys2Proof.Machine

open Sys2Proof

/-! ### What a retrain that times out leaves of the cached lines (R214) -/

/-- A line that its channel's failure does not drop. -/
theorem mem_dropLines {d : Dev} {c : Nat} {r : Nat × Option PLine} (hr : r ∈ d.plz.ways)
    (h : ∀ y : PLine, r.2 = some y → d.hbmChannel (128 * y.line) ≠ c) : r ∈ (d.dropLines c).plz.ways := by
  unfold Dev.dropLines
  dsimp only
  rw [bump_plz]
  refine List.mem_filter.mpr ⟨hr, ?_⟩
  cases hline : r.2 with
  | none => rfl
  | some y => simpa using h y hline

theorem dropBefore_chan (d : Dev) (c k : Nat) : (d.dropBefore c).chan k = d.chan k := rfl

theorem dropBefore_plz (d : Dev) (c : Nat) : (d.dropBefore c).plz = d.plz := rfl

theorem retrainRelease_plz (d : Dev) : d.retrainRelease.plz = d.plz := by
  unfold Dev.retrainRelease
  split
  · rfl
  · exact clearHold_plz d _

theorem repairRelease_plz (d : Dev) : d.repairRelease.plz = d.plz := by
  unfold Dev.repairRelease
  split
  · rfl
  · exact clearHold_plz d _

theorem seqClosed_plz (d : Dev) (c st : Nat) (y : ChanSeq) : (d.seqClosed c st y).plz = d.plz := by
  unfold Dev.seqClosed
  dsimp only
  split <;> rfl

/-- The end of a sequence leaves the Plaza's ways alone. -/
theorem seqEnd_ways (d : Dev) (c st : Nat) : (d.seqEnd c st).plz.ways = d.plz.ways := by
  cases h : d.seqOn c with
  | none =>
    unfold Dev.seqEnd
    rw [h]
  | some y => rw [seqEnd_eq h, repairRelease_plz, Dev.seqEvent, raise_ways, seqClosed_plz]

/-- The ways once a channel that serves its data has failed. -/
theorem retrainFail_ways {d : Dev} {c : Nat} (hc : c < 384) (hstate : d.chan c = csRetraining) (hserves : d.chanBefore c < csWorking) :
    (d.retrainFail c).plz.ways = (((d.setChan c csFailed).dropBefore c).dropLines c).plz.ways := by
  unfold Dev.retrainFail
  rw [if_pos hc, if_neg (not_not_intro hstate)]
  dsimp only
  rw [if_neg (Nat.not_le.mpr hserves), seqEnd_ways, retrainRelease_plz, raise_ways]

theorem retrainTimeout_dev {s t : State} {ch : Fin 392} (hs : s.powered) (h : exec (.unplannedRetrainTimeout ch) s = .next t) :
    t.dev = s.dev.retrainFail ch := by
  have hnext : exec (.unplannedRetrainTimeout ch) s = .next { s with dev := s.dev.retrainFail ch } :=
    onDev_powered (fun d => d.retrainFail ch) s hs
  exact congrArg State.dev (Host.Outcome.next.inj (h.symm.trans hnext))

/-! ### A line beyond HBM -/

/-- Past the 248 regions of HBM the mode that is read for a region is a channel's state: a failed channel makes region 512 + c
package-wide. -/
theorem packageWide_of_failed {d : Dev} {c : Nat} (h : d.chan c = csFailed) : d.packageWide (512 + c) = true := by
  have hkey : (F.MEM_REGION_MODE (512 + c)).key = (F.MEM_CHAN_STATE c).key := by
    simp only [Fld.key, F.MEM_REGION_MODE, F.MEM_CHAN_STATE]
    omega
  have hstate : Table.get fieldReset d.regs (F.MEM_CHAN_STATE c).key % 2 ^ 4 = 9 := h
  have hmode : d.get (F.MEM_REGION_MODE (512 + c)) = 1 := by
    show Table.get fieldReset d.regs (F.MEM_REGION_MODE (512 + c)).key % 2 ^ 2 = 1
    rw [hkey]
    omega
  unfold Dev.packageWide
  rw [hmode]
  rfl

/-- A line in region 517, 96 granules up: on channel 5 of a die-local region, on channel 96 of a package-wide one. -/
def strayLine : PLine := ⟨(517 * (3 * gib) + 96 * 2048) / 128, false⟩

theorem strayLine_channel {d : Dev} (h : d.chan 5 = csFailed) : d.hbmChannel (128 * strayLine.line) ≠ 5 := by
  have hregion : 128 * strayLine.line / (3 * gib) = 512 + 5 := by decide +kernel
  unfold Dev.hbmChannel
  rw [hregion, packageWide_of_failed h]
  decide +kernel

/-- So the failure of channel 5 does not drop it. -/
theorem strayLine_kept {d : Dev} (hstate : d.chan 5 = csRetraining) (hserves : d.chanBefore 5 < csWorking) (hheld : (0, some strayLine) ∈ d.plz.ways) :
    (0, some strayLine) ∈ (d.retrainFail 5).plz.ways := by
  rw [retrainFail_ways (by decide) hstate hserves]
  refine mem_dropLines ?_ fun y hy => ?_
  · rw [dropBefore_plz, setChan_plz]
    exact hheld
  · rw [← Option.some.inj hy]
    exact strayLine_channel ((dropBefore_chan _ 5 5).trans (chan_setChan d (by decide) (show csFailed < 10 by decide)))

/-- The state before a retrain, where none is noted. -/
theorem chanBefore_unnoted {d : Dev} {c : Nat} (hstate : d.chan c = csRetraining) (hbefore : d.tier.before = []) : d.chanBefore c = 0 := by
  unfold Dev.chanBefore
  rw [if_pos hstate, hbefore]
  rfl

/-- A time-out of channel 5 that keeps the line on it is none that the statement allows. -/
theorem strayLine_refutes {s : State} (hs : s.powered) (hstate : s.dev.chan 5 = csRetraining) (hbefore : s.dev.tier.before = [])
    (hseqs : s.dev.tier.seqs = []) (hheld : (0, some strayLine) ∈ s.dev.plz.ways) (hline : s.dev.hbmChannel (128 * strayLine.line) = 5) :
    ¬ Obligations.UnplannedRetrainsAndRepairs := by
  intro h
  have hseq : s.dev.seqOn 5 = none := by
    unfold Dev.seqOn
    rw [hseqs]
    rfl
  have hserves : s.dev.chanBefore 5 < csWorking := by
    rw [chanBefore_unnoted hstate hbefore]
    decide
  obtain ⟨hretrains, -⟩ := h
  obtain ⟨-, -, -, -, -, htimeout⟩ := hretrains s 5 hs
  obtain ⟨hfails, -⟩ := htimeout (by decide) hstate hseq
  obtain ⟨t, hexec, -, -, hways, -⟩ := hfails hserves
  have hkept : (0, some strayLine) ∈ t.dev.plz.ways := by
    rw [retrainTimeout_dev hs hexec]
    exact strayLine_kept hstate hserves hheld
  obtain ⟨-, hchannel⟩ := hways _ hkept
  exact hchannel strayLine rfl hline

/-- The state after power-on reset but for channel 5, which retrains, and that line in a way of the Plaza. -/
def strayRetrain : State :=
  { State.reset with
    dev := { Dev.reset.put (F.MEM_CHAN_STATE 5) csRetraining with plz := { PlzSt.reset with ways := [(0, some strayLine)] } } }

theorem strayRetrain_powered : strayRetrain.powered := by
  unfold State.powered
  decide +kernel

theorem strayRetrain_state : strayRetrain.dev.chan 5 = csRetraining := by
  have hcore : Dev.sameCore (Dev.reset.put (F.MEM_CHAN_STATE 5) csRetraining) strayRetrain.dev := ⟨rfl, rfl, rfl, rfl⟩
  unfold Dev.chan
  rw [sameCore_get hcore, get_put_same]
  rfl

/-- The line is on channel 5. -/
theorem strayRetrain_line : strayRetrain.dev.hbmChannel (128 * strayLine.line) = 5 := by decide +kernel

/-- Refutes O33: the statement quantifies over every line that the Plaza holds. One whose address lies beyond HBM takes the mode of its
region from the state of a channel; as that channel fails, the line is no longer on it, and stays. -/
theorem not_unplannedRetrainsAndRepairs : ¬ Obligations.UnplannedRetrainsAndRepairs :=
  strayLine_refutes strayRetrain_powered strayRetrain_state rfl rfl List.mem_cons_self strayRetrain_line

end Sys2Proof.Machine
end

section
/-! SUPPORT. Rules of the Roundabout: what a translation, a request, a record of faults and an event leave of it (R222 to R228). -/

namespace Sys2Proof.Machine

open Sys2Proof

/-! ### What an event leaves of the Roundabout and the queues -/

@[simp] theorem raise_rbt (d : Dev) (cls status source : Nat) (detail : List Nat) : (d.raise cls status source detail).rbt = d.rbt := by
  obtain ⟨_, _, _, _, _, _, _, _, h⟩ := raise_sameButEvent d cls status source detail
  rw [h]

@[simp] theorem raise_entries (d : Dev) (cls status source : Nat) (detail : List Nat) :
    (d.raise cls status source detail).host.entries = d.host.entries := by
  have hring : ∀ (e : Dev) (r : Nat) (rec : List Byte), (e.ringWrite r rec).host.entries = e.host.entries := fun e r rec => by
    unfold Dev.ringWrite Dev.writeRecord Dev.keepRecord Dev.sendVector
    dsimp only
    split
    · rfl
    · split
      · rfl
      · split <;> split <;> split <;> rfl
  have hnotify : ∀ (e : Dev) (rec : List Byte), (e.notify rec).host = e.host := fun e rec => by
    unfold Dev.notify
    split
    · rfl
    · split <;> rfl
  rw [raise_eq, hnotify, hring]
  rfl

@[simp] theorem refuse_rbt (d : Dev) (off v : Nat) : (d.refuse off v).rbt = d.rbt := by
  rw [refuse_eq, raise_rbt, Dev.regaccNoted, bump_rbt, puts_rbt]

/-- A refused write that is a command on the Roundabout: one register-access event, and none of its lists changes. -/
theorem refuse_effect (s : State) (off v : Nat) :
    (∃ e : Event, (s.dev.refuse off v).events = e :: s.dev.events ∧ e.cls = evRegister) ∧ (s.dev.refuse off v).rbt = s.dev.rbt ∧
      State.onlyFieldsEv regaccFields s { s with dev := s.dev.refuse off v } := by
  obtain ⟨e, hevents, hcls, -⟩ := refuse_one s.dev off v
  exact ⟨⟨e, hevents, hcls⟩, refuse_rbt s.dev off v, onlyFieldsEv_of_dev (refuse_regs s.dev off v) (refuse_mem s.dev off v)⟩

/-! ### Translations (R218 to R225) -/

/-- From `a` to `b` only the caches of leaves and the two counters of RBT_STAT may have changed. -/
def Dev.walked (a b : Dev) : Prop :=
  Dev.sameRegsBut walkFields a b ∧ ∃ (r : Table Nat) (l : List Leaf) (p : Table (Option Leaf)) (t : Table Nat),
    b = { a with regs := r, rbt := { a.rbt with ranges := l, pages := p, pageTrees := t } }

theorem walked_refl (d : Dev) : d.walked d := ⟨sameRegsBut_refl _ d, d.regs, d.rbt.ranges, d.rbt.pages, d.rbt.pageTrees, rfl⟩

theorem walked_trans {a b c : Dev} (h : a.walked b) (k : b.walked c) : a.walked c := by
  obtain ⟨hregs, _, _, _, _, rfl⟩ := h
  obtain ⟨kregs, _, _, _, _, rfl⟩ := k
  exact ⟨sameRegsBut_trans hregs kregs, _, _, _, _, rfl⟩

/-- A write of the caches of leaves. -/
theorem walked_caches (d : Dev) (l : List Leaf) (p : Table (Option Leaf)) (t : Table Nat) :
    d.walked { d with rbt := { d.rbt with ranges := l, pages := p, pageTrees := t } } := ⟨fun _ _ => rfl, _, _, _, _, rfl⟩

theorem walked_bump {f : Fld} (hf : f ∈ walkFields) (d : Dev) : d.walked (d.bump f 1) :=
  ⟨sameRegsBut_mono (sameRegsBut_bump d f 1) (by simpa using hf), _, _, _, _, rfl⟩

theorem walked_pageTouch (d : Dev) (set w : Nat) : d.walked (d.pageTouch set w) := walked_caches d _ _ _

theorem walked_rangeUse (d : Dev) (l : Leaf) : d.walked (d.rangeUse l) := walked_caches d _ _ _

theorem walked_pageFill (d : Dev) (l : Leaf) : d.walked (d.pageFill l) :=
  walked_trans (b := { d with rbt := { d.rbt with pages := _ } }) (walked_caches d _ _ _) (walked_pageTouch _ _ _)

theorem Dev.walked.regs {a b : Dev} (h : a.walked b) : Dev.onlyRegs walkFields a b := by
  obtain ⟨hregs, _, _, _, _, rfl⟩ := h
  exact ⟨hregs, rfl, rfl, rfl⟩

theorem Dev.walked.holders {a b : Dev} (h : a.walked b) : b.rbt.holders = a.rbt.holders := by
  obtain ⟨-, _, _, _, _, rfl⟩ := h
  rfl

theorem Dev.walked.waiters {a b : Dev} (h : a.walked b) : b.rbt.waiters = a.rbt.waiters := by
  obtain ⟨-, _, _, _, _, rfl⟩ := h
  rfl

theorem Dev.walked.waitingBind {a b : Dev} (h : a.walked b) : b.rbt.waitingBind = a.rbt.waitingBind := by
  obtain ⟨-, _, _, _, _, rfl⟩ := h
  rfl

/-- A walk that meets no uncorrectable code word. -/
theorem walkFill_walked {d e : Dev} {root va need : Nat} {r : WalkRes} (h : d.walkFill root va need = (r, e))
    (hr : ∀ pa n : Nat, r ≠ .uncorrectable pa n) : d.walked e := by
  have hcount : d.walked (d.bump F.RBT_STAT_WALKS 1) := walked_bump (by simp [walkFields]) d
  unfold Dev.walkFill at h
  dsimp only at h
  split at h
  · obtain ⟨-, rfl⟩ := Prod.mk.inj h
    split
    · exact walked_trans hcount (walked_pageFill _ _)
    · exact walked_trans hcount (walked_rangeUse _ _)
  · obtain ⟨rfl, -⟩ := Prod.mk.inj h
    exact absurd rfl (hr _ _)
  · obtain ⟨-, rfl⟩ := Prod.mk.inj h
    exact hcount

theorem lookup_walked {d e : Dev} {root va need : Nat} {r : WalkRes} (h : d.lookup root va need = (r, e))
    (hr : ∀ pa n : Nat, r ≠ .uncorrectable pa n) : d.walked e := by
  have hcount : d.walked (d.bump F.RBT_STAT_HITS 1) := walked_bump (by simp [walkFields]) d
  unfold Dev.lookup at h
  split at h
  · split at h
    · obtain ⟨-, rfl⟩ := Prod.mk.inj h
      exact walked_trans hcount (walked_rangeUse _ _)
    · exact walkFill_walked h hr
  · split at h
    · split at h
      · obtain ⟨-, rfl⟩ := Prod.mk.inj h
        exact walked_trans hcount (walked_pageTouch _ _ _)
      · exact walkFill_walked h hr
    · exact walkFill_walked h hr

/-- The extents of a range, or a fault in it. -/
theorem extentsFrom_walked {root need stop : Nat} {x : Xlate} {e : Dev} (hx : ∀ st : Nat, x ≠ .stop st) :
    ∀ {n : Nat} {d : Dev} {va : Nat}, Dev.extentsFrom root need stop n d va = (x, e) → d.walked e := by
  intro n
  induction n generalizing x with
  | zero =>
    intro d va h
    obtain ⟨-, rfl⟩ := Prod.mk.inj h
    exact walked_refl _
  | succ n ih =>
    intro d va h
    rw [Dev.extentsFrom] at h
    split at h
    · obtain ⟨-, rfl⟩ := Prod.mk.inj h
      exact walked_refl _
    · split at h
      · rename_i hleaf
        have hfirst := lookup_walked hleaf fun _ _ => WalkRes.noConfusion
        dsimp only at h
        split at h
        · rename_i hrest
          obtain ⟨-, rfl⟩ := Prod.mk.inj h
          exact walked_trans hfirst (ih (fun _ => Xlate.noConfusion) hrest)
        · exact walked_trans hfirst (ih hx h)
      · rename_i hfault
        obtain ⟨-, rfl⟩ := Prod.mk.inj h
        exact lookup_walked hfault fun _ _ => WalkRes.noConfusion
      · obtain ⟨rfl, -⟩ := Prod.mk.inj h
        exact absurd rfl (hx _)

/-- A translation that ends without a status writes the caches and their counters only. -/
theorem translate_walked {d e : Dev} {root part va len need : Nat} {x : Xlate} (h : d.translate root part va len need = (x, e))
    (hx : ∀ st : Nat, x ≠ .stop st) : d.walked e := by
  unfold Dev.translate at h
  split at h
  · obtain ⟨rfl, -⟩ := Prod.mk.inj h
    exact absurd rfl (hx _)
  · split at h
    · obtain ⟨rfl, -⟩ := Prod.mk.inj h
      exact absurd rfl (hx _)
    · exact extentsFrom_walked hx h

/-- A root that is not valid, or another partition's (R217). -/
theorem translate_perm {d : Dev} {root part : Nat} (h : d.on (F.RBT_ROOT_VALID root) = false ∨ d.get (F.RBT_ROOT_PART root) ≠ part)
    (va len need : Nat) : d.translate root part va len need = (.stop stPerm, d) :=
  if_pos (by simpa using h)

/-! ### Holder records and the results of bindings (R225 to R227) -/

/-- The Roundabout's lists may differ, and no register, byte or event. -/
theorem rbtSet_core (d : Dev) (x : RbtSt) : Dev.sameCore d { d with rbt := x } := ⟨rfl, rfl, rfl, rfl⟩

theorem setBound_core (d : Dev) (b : Bound) : Dev.sameCore d (d.setBound b) := rbtSet_core d _

theorem setBound_head (d : Dev) (b : Bound) : (d.setBound b).rbt.bound.head? = some b := rfl

/-- A holder record is taken: it stands in a record of the range. -/
theorem hold_taken {d e : Dev} {id root va len : Nat} (h : d.hold id root va len = some e) :
    Dev.sameCore d e ∧ ∃ x ∈ e.rbt.holders, x.root = root ∧ x.va = va ∧ x.len = len ∧ id ∈ x.ids := by
  unfold Dev.hold at h
  split at h
  · rename_i hany
    obtain rfl := Option.some.inj h
    obtain ⟨x, hx, hfound⟩ := List.any_eq_true.mp hany
    have hkey : x.root = root ∧ x.va = va ∧ x.len = len := of_decide_eq_true hfound
    refine ⟨rbtSet_core d _, _, List.mem_map_of_mem hx, ?_⟩
    rw [if_pos hkey]
    exact ⟨hkey.1, hkey.2.1, hkey.2.2, List.mem_cons_self⟩
  · split at h
    · obtain rfl := Option.some.inj h
      exact ⟨rbtSet_core d _, _, List.mem_cons_self, rfl, rfl, rfl, List.mem_cons_self⟩
    · cases h

/-! ### Fault records (R228) -/

/-- A request as a waiter of record `i`. -/
def Waiter.parkedOn (w : Waiter) (i : Nat) : Waiter := { w with record := i }

/-- The fields of fault record `i`. -/
def recordFields (i : Nat) : List Fld :=
  [F.RBT_FREC0_OPEN i, F.RBT_FREC0_KIND i, F.RBT_FREC0_ACCESS i, F.RBT_FREC0_VA i, F.RBT_FREC0_ROOT i, F.RBT_FREC0_WAITERS i,
    F.RBT_FREC1_FIRST i]

theorem recordFields_nodup (i : Nat) : ((recordFields i).map Fld.key).Nodup := by
  simp only [recordFields, List.map_cons, List.map_nil, List.nodup_cons, List.mem_cons, List.not_mem_nil, or_false, List.nodup_nil, Fld.key,
    F.RBT_FREC0_OPEN, F.RBT_FREC0_KIND, F.RBT_FREC0_ACCESS, F.RBT_FREC0_VA, F.RBT_FREC0_ROOT, F.RBT_FREC0_WAITERS, F.RBT_FREC1_FIRST, not_or,
    not_false_eq_true, and_true]
  omega

/-- Where the fields of fault record `i` stand. -/
theorem recordFields_place {i : Nat} {f : Fld} (hf : f ∈ recordFields i) :
    0xE01000 + 0x10 * i ≤ f.off ∧ f.off ≤ 0xE01008 + 0x10 * i ∧ f.lo < 64 := by
  simp only [recordFields, List.mem_cons, List.not_mem_nil, or_false] at hf
  rcases hf with rfl | rfl | rfl | rfl | rfl | rfl | rfl <;>
    simp only [F.RBT_FREC0_OPEN, F.RBT_FREC0_KIND, F.RBT_FREC0_ACCESS, F.RBT_FREC0_VA, F.RBT_FREC0_ROOT, F.RBT_FREC0_WAITERS,
      F.RBT_FREC1_FIRST] <;> omega

theorem recordFields_away {i : Nat} (hi : i < 1024) : ∀ f ∈ recordFields i, f.awayFromEvents := fun f hf => by
  obtain ⟨-, hoff, hlo⟩ := recordFields_place hf
  exact away_of_low (by omega) hlo

theorem recordFields_ne_walk {i : Nat} : ∀ f ∈ recordFields i, ∀ g ∈ walkFields, f.key ≠ g.key := fun f hf g hg => by
  obtain ⟨hoff, -, hlo⟩ := recordFields_place hf
  simp only [walkFields, List.mem_cons, List.not_mem_nil, or_false] at hg
  rcases hg with rfl | rfl <;> refine key_ne hlo (by decide) (.inl ?_) <;> simp only [F.RBT_STAT_WALKS, F.RBT_STAT_HITS] <;> omega

theorem walkFields_away : ∀ f ∈ walkFields, f.awayFromEvents := by
  unfold Fld.awayFromEvents
  decide

theorem accessCode_mod (need : Nat) : accessCode need % 2 ^ 2 = accessCode need := by
  unfold accessCode
  split
  · rfl
  · split <;> rfl

theorem freeRecord_lt {d : Dev} {i : Nat} (h : d.freeRecord = some i) : i < 1024 := by
  unfold Dev.freeRecord at h
  exact List.mem_range.mp (List.mem_of_find?_eq_some h)

theorem addWaiter_frame (d : Dev) (w : Waiter) (i : Nat) : Dev.onlyRegs [F.RBT_FREC0_WAITERS i] d (d.addWaiter w i) :=
  onlyRegs_trans (b := { d with rbt := _ }) (onlyRegs_core _ (rbtSet_core d _)) (onlyRegs_put _ _ _ _ List.mem_cons_self)

theorem addWaiter_count (d : Dev) (w : Waiter) (i : Nat) :
    (d.addWaiter w i).get (F.RBT_FREC0_WAITERS i) = (d.get (F.RBT_FREC0_WAITERS i) + 1) % 2 ^ 10 := get_put_same _ _ _

theorem addWaiter_waiters (d : Dev) (w : Waiter) (i : Nat) : (d.addWaiter w i).rbt.waiters = d.rbt.waiters ++ [w.parkedOn i] :=
  rfl

/-- The fields of fault record `i` as a fault of `w` opens it, before it waits. -/
def openedWrites (w : Waiter) (kind va i : Nat) : List (Fld × Nat) :=
  [(F.RBT_FREC0_OPEN i, 1), (F.RBT_FREC0_KIND i, kind), (F.RBT_FREC0_ACCESS i, accessCode w.need), (F.RBT_FREC0_VA i, va / 0x10000),
    (F.RBT_FREC0_ROOT i, w.root), (F.RBT_FREC0_WAITERS i, 0), (F.RBT_FREC1_FIRST i, w.holder)]

theorem openedWrites_fields (w : Waiter) (kind va i : Nat) : (openedWrites w kind va i).map Prod.fst = recordFields i := rfl

/-- A fault record that opens with its first waiter, before its event. -/
def Dev.recordOpened (d : Dev) (w : Waiter) (kind va i : Nat) : Dev := (d.puts (openedWrites w kind va i)).addWaiter w i

theorem recordOpened_frame (d : Dev) (w : Waiter) (kind va i : Nat) : Dev.onlyRegs (recordFields i) d (d.recordOpened w kind va i) :=
  onlyRegs_trans (onlyRegs_puts_of (openedWrites_fields w kind va i) d) (onlyRegs_mono (addWaiter_frame _ w i) (by simp [recordFields]))

/-- The fields that describe the fault of record `i`: all but the count of its waiters. -/
def describedFields (i : Nat) : List Fld :=
  [F.RBT_FREC0_OPEN i, F.RBT_FREC0_KIND i, F.RBT_FREC0_ACCESS i, F.RBT_FREC0_VA i, F.RBT_FREC0_ROOT i, F.RBT_FREC1_FIRST i]

theorem describedFields_ne_count (i : Nat) : ∀ f ∈ describedFields i, f.key ≠ (F.RBT_FREC0_WAITERS i).key := fun f hf => by
  simp only [describedFields, List.mem_cons, List.not_mem_nil, or_false] at hf
  rcases hf with rfl | rfl | rfl | rfl | rfl | rfl <;>
    simp only [Fld.key, F.RBT_FREC0_OPEN, F.RBT_FREC0_KIND, F.RBT_FREC0_ACCESS, F.RBT_FREC0_VA, F.RBT_FREC0_ROOT, F.RBT_FREC0_WAITERS,
      F.RBT_FREC1_FIRST] <;> omega

theorem describedFields_subset (i : Nat) : ∀ f ∈ describedFields i, f ∈ recordFields i := by simp [describedFields, recordFields]

/-- They read as the fault gave them. -/
theorem recordOpened_get {w : Waiter} {kind va i v : Nat} {f : Fld} (hf : f ∈ describedFields i) (hm : (f, v) ∈ openedWrites w kind va i)
    (d : Dev) : (d.recordOpened w kind va i).get f = v % 2 ^ f.w :=
  ((addWaiter_frame _ w i).1 f (by simpa using describedFields_ne_count i f hf)).trans
    (get_puts_mem (openedWrites_fields w kind va i) (recordFields_nodup i) hm d)

theorem recordOpened_count (d : Dev) (w : Waiter) (kind va i : Nat) : (d.recordOpened w kind va i).get (F.RBT_FREC0_WAITERS i) = 1 := by
  rw [Dev.recordOpened, addWaiter_count,
    get_puts_mem (v := 0) (openedWrites_fields w kind va i) (recordFields_nodup i) (by simp [openedWrites]), Nat.zero_mod]
  rfl

theorem recordOpened_waiters (d : Dev) (w : Waiter) (kind va i : Nat) :
    (d.recordOpened w kind va i).rbt.waiters = d.rbt.waiters ++ [w.parkedOn i] := by
  rw [Dev.recordOpened, addWaiter_waiters, puts_rbt]

theorem park_joins {d : Dev} {w : Waiter} {kind va i : Nat} (h : d.faultRecord w.root va kind = some i) :
    d.park w kind va = d.addWaiter w i := by
  unfold Dev.park
  rw [h]

theorem park_opens {d : Dev} {w : Waiter} {kind va i : Nat} (hnone : d.faultRecord w.root va kind = none) (hfree : d.freeRecord = some i) :
    d.park w kind va =
      (d.recordOpened w kind va i).raise evTranslation stOk w.holder [i, w.root, va, accessCode w.need, kind] := by
  unfold Dev.park
  rw [hnone, hfree]
  rfl

/-- What the record of a fault shows once it has opened with its event. -/
theorem park_record {d : Dev} {w : Waiter} {kind va i : Nat} (hnone : d.faultRecord w.root va kind = none) (hfree : d.freeRecord = some i) :
    (d.park w kind va).on (F.RBT_FREC0_OPEN i) = true ∧ (d.park w kind va).get (F.RBT_FREC0_KIND i) = kind % 2 ^ 3 ∧
      (d.park w kind va).get (F.RBT_FREC0_ACCESS i) = accessCode w.need ∧
      (d.park w kind va).get (F.RBT_FREC0_VA i) = va / 0x10000 % 2 ^ 40 ∧ (d.park w kind va).get (F.RBT_FREC0_ROOT i) = w.root % 2 ^ 6 ∧
      (d.park w kind va).get (F.RBT_FREC0_WAITERS i) = 1 ∧ (d.park w kind va).get (F.RBT_FREC1_FIRST i) = w.holder % 2 ^ 10 ∧
      (d.park w kind va).rbt.waiters = d.rbt.waiters ++ [w.parkedOn i] := by
  have haway := recordFields_away (freeRecord_lt hfree)
  have hget : ∀ (f : Fld) (v : Nat), f ∈ describedFields i → (f, v) ∈ openedWrites w kind va i →
      (d.park w kind va).get f = v % 2 ^ f.w := fun f v hf hm => by
    rw [park_opens hnone hfree, raise_get _ _ _ _ _ (haway _ (describedFields_subset i _ hf)), recordOpened_get hf hm]
  have hopen : (d.park w kind va).get (F.RBT_FREC0_OPEN i) = 1 := hget _ 1 (by simp [describedFields]) (by simp [openedWrites])
  refine ⟨by rw [Dev.on, hopen]; rfl, hget _ _ ?_ ?_, (hget _ (accessCode w.need) ?_ ?_).trans (accessCode_mod _), hget _ _ ?_ ?_,
    hget _ _ ?_ ?_, ?count, hget _ _ ?_ ?_, ?waiters⟩
  case count => rw [park_opens hnone hfree, raise_get _ _ _ _ _ (haway _ (by simp [recordFields])), recordOpened_count]
  case waiters => rw [park_opens hnone hfree, raise_rbt, recordOpened_waiters]
  all_goals simp [describedFields, openedWrites]

/-- Its one event, and what else changes, where the walk before it wrote the counters of RBT_STAT only. -/
theorem park_raises {a d : Dev} {w : Waiter} {kind va i : Nat} (h : Dev.onlyRegs walkFields a d)
    (hnone : d.faultRecord w.root va kind = none) (hfree : d.freeRecord = some i) :
    Dev.raisedOne a (d.park w kind va) evTranslation stOk w.holder [i, w.root, va, accessCode w.need, kind] ∧
      Dev.eventFrame (recordFields i ++ walkFields) a (d.park w kind va) := by
  have hframe : Dev.onlyRegs (recordFields i ++ walkFields) a (d.recordOpened w kind va i) :=
    onlyRegs_trans (onlyRegs_mono h fun _ => List.mem_append_right _)
      (onlyRegs_mono (recordOpened_frame d w kind va i) fun _ => List.mem_append_left _)
  have hring : RingFree (recordFields i ++ walkFields) :=
    ringFree_append (ringFree_of_away (recordFields_away (freeRecord_lt hfree))) (ringFree_of_away walkFields_away)
  rw [park_opens hnone hfree]
  exact ⟨raise_one_after hframe hring _ _ _ _, eventFrame_raise hframe hring _ _ _ _⟩

/-! ### Requests (R225, R228, R232) -/

/-- A request whose range an invalidate covers waits. -/
theorem requestBind_waits {d : Dev} {w : Waiter} (h : d.invalidating w.root w.va w.len = true) :
    d.requestBind w = { d with rbt := { d.rbt with waitingBind := d.rbt.waitingBind ++ [w] } } := if_pos h

section

variable {d e : Dev} {w : Waiter} (hclear : d.invalidating w.root w.va w.len = false)
include hclear

theorem requestBind_faults {k va : Nat} (h : d.translate w.root w.part w.va w.len w.need = (.fault k va, e)) :
    d.requestBind w = e.park w k va := by
  unfold Dev.requestBind
  rw [hclear, h, if_neg Bool.false_ne_true]

theorem requestBind_stops {st : Nat} (h : d.translate w.root w.part w.va w.len w.need = (.stop st, e)) :
    d.requestBind w = e.waiterDone w st := by
  unfold Dev.requestBind
  rw [hclear, h]
  rfl

/-- A request of a queue entry only clears the way. -/
theorem requestBind_clears {l : List Extent} {q : Nat × Nat} (hentry : w.entry = some q)
    (h : d.translate w.root w.part w.va w.len w.need = (.ok l, e)) : d.requestBind w = e := by
  unfold Dev.requestBind
  rw [hclear, h]
  dsimp only
  rw [hentry]
  rfl

variable (hentry : w.entry = none)
include hentry

theorem requestBind_tooMany {l : List Extent} (h : d.translate w.root w.part w.va w.len w.need = (.ok l, e))
    (hmany : w.segment = true ∧ 16 < l.length) : d.requestBind w = e.setBound ⟨w.holder, w.root, w.va, stBounds, []⟩ := by
  unfold Dev.requestBind
  rw [hclear, h]
  dsimp only
  rw [hentry]
  dsimp only
  rw [if_neg Bool.false_ne_true, if_pos (by simpa using hmany), Dev.waiterDone, hentry]

theorem requestBind_holds {l : List Extent} {x : Dev} (h : d.translate w.root w.part w.va w.len w.need = (.ok l, e))
    (hfits : ¬ (w.segment = true ∧ 16 < l.length)) (hheld : e.hold w.holder w.root w.va w.len = some x) :
    d.requestBind w = x.setBound ⟨w.holder, w.root, w.va, stOk, l⟩ := by
  unfold Dev.requestBind
  rw [hclear, h]
  dsimp only
  rw [hentry]
  dsimp only
  rw [if_neg Bool.false_ne_true, if_neg (by simpa using hfits), hheld]

end

end Sys2Proof.Machine
end

section
/-! PROOF. The proof of O34: bindings that wait, translate, fail or park, and window lookups (R217, R225 to R228). -/

namespace Sys2Proof.Machine

open Sys2Proof

/-! ### Bindings -/

/-- The request that a BINDING makes. -/
def bindingWaiter (holder : Fin 512) (root : Fin 64) (part : Fin 8) (va len : Nat) (need : BitVec 3) (segment : Bool) : Waiter :=
  ⟨0, holder, root, part, va, len, need.toNat, segment, none⟩

section

variable {s : State} {holder : Fin 512} {root : Fin 64} {part : Fin 8} {va len : Nat} {need : BitVec 3} {segment : Bool}
  (hs : s.powered) (hnew : s.dev.isWaiting (bindingWaiter holder root part va len need segment) = false)
include hs hnew

/-- A binding that does not wait already makes its request. -/
theorem answers_binding {e : Dev} {P : State → Prop} (he : s.dev.requestBind (bindingWaiter holder root part va len need segment) = e)
    (h : P { s with dev := e }) : Answers (.binding holder root part va len need segment) s P := by
  refine answers_onDev (f := fun d => if d.isWaiting (bindingWaiter holder root part va len need segment) then d
    else d.requestBind (bindingWaiter holder root part va len need segment)) hs rfl ?_
  rwa [hnew, if_neg Bool.false_ne_true, he]

theorem binding_waits (hinv : s.dev.invalidating root va len = true) :
    Answers (.binding holder root part va len need segment) s fun t =>
      t.dev.rbt.waitingBind = s.dev.rbt.waitingBind ++ [bindingWaiter holder root part va len need segment] ∧
        State.onlyFields [] s t :=
  answers_binding hs hnew (requestBind_waits hinv) ⟨rfl, onlyFields_of_dev (onlyRegs_core _ (rbtSet_core _ _))⟩

variable (hclear : s.dev.invalidating root va len = false)
include hclear

theorem binding_tooMany {l : List Extent} {d : Dev} (h : s.dev.translate root part va len need.toNat = (.ok l, d))
    (hmany : segment = true ∧ 16 < l.length) :
    Answers (.binding holder root part va len need segment) s fun t =>
      t.dev.rbt.bound.head? = some ⟨holder, root, va, stBounds, []⟩ ∧ t.dev.rbt.holders = s.dev.rbt.holders ∧
        State.onlyFields walkFields s t := by
  have hwalked := translate_walked h fun _ => Xlate.noConfusion
  exact answers_binding hs hnew (requestBind_tooMany hclear rfl h hmany)
    ⟨rfl, hwalked.holders, onlyFields_of_dev (onlyRegs_trans hwalked.regs (onlyRegs_core _ (setBound_core _ _)))⟩

theorem binding_holds {l : List Extent} {d : Dev} (h : s.dev.translate root part va len need.toNat = (.ok l, d))
    (hfits : ¬ (segment = true ∧ 16 < l.length)) (hheld : (d.hold holder root va len).isSome = true) :
    Answers (.binding holder root part va len need segment) s fun t =>
      t.dev.rbt.bound.head? = some ⟨holder, root, va, stOk, l⟩ ∧
        (∃ h ∈ t.dev.rbt.holders, h.root = root ∧ h.va = va ∧ h.len = len ∧ holder.val ∈ h.ids) ∧ State.onlyFields walkFields s t := by
  obtain ⟨e, hheld⟩ := Option.isSome_iff_exists.mp hheld
  obtain ⟨hcore, hrecord⟩ := hold_taken hheld
  have hwalked := translate_walked h fun _ => Xlate.noConfusion
  exact answers_binding hs hnew (requestBind_holds hclear rfl h hfits hheld)
    ⟨rfl, hrecord, onlyFields_of_dev
      (onlyRegs_trans hwalked.regs (onlyRegs_trans (onlyRegs_core _ hcore) (onlyRegs_core _ (setBound_core _ _))))⟩

theorem binding_perm (hroot : s.dev.on (F.RBT_ROOT_VALID root) = false ∨ s.dev.get (F.RBT_ROOT_PART root) ≠ part) :
    Answers (.binding holder root part va len need segment) s fun t =>
      t.dev.rbt.bound.head? = some ⟨holder, root, va, stPerm, []⟩ ∧ State.onlyFields [] s t :=
  answers_binding hs hnew (requestBind_stops hclear (translate_perm hroot va len need.toNat))
    ⟨rfl, onlyFields_of_dev (onlyRegs_core _ (setBound_core _ _))⟩

theorem binding_joins {k v i : Nat} {d : Dev} (h : s.dev.translate root part va len need.toNat = (.fault k v, d))
    (hrecord : d.faultRecord root v k = some i) :
    Answers (.binding holder root part va len need segment) s fun t =>
      t.dev.get (F.RBT_FREC0_WAITERS i) = (s.dev.get (F.RBT_FREC0_WAITERS i) + 1) % 2 ^ 10 ∧
        t.dev.rbt.waiters = s.dev.rbt.waiters ++ [(bindingWaiter holder root part va len need segment).parkedOn i] ∧
        t.dev.events = s.dev.events ∧ State.onlyFields (F.RBT_FREC0_WAITERS i :: walkFields) s t := by
  have hwalked := translate_walked h fun _ => Xlate.noConfusion
  have hframe : Dev.onlyRegs (F.RBT_FREC0_WAITERS i :: walkFields) s.dev (d.addWaiter (bindingWaiter holder root part va len need segment) i) :=
    onlyRegs_trans (onlyRegs_mono hwalked.regs fun _ => List.mem_cons_of_mem _)
      (onlyRegs_mono (addWaiter_frame d _ i) (by simp))
  have hcount : d.get (F.RBT_FREC0_WAITERS i) = s.dev.get (F.RBT_FREC0_WAITERS i) :=
    hwalked.regs.1 _ (recordFields_ne_walk (i := i) _ (by simp [recordFields]))
  have hcounted := addWaiter_count d (bindingWaiter holder root part va len need segment) i
  have hwaiters := addWaiter_waiters d (bindingWaiter holder root part va len need segment) i
  have hparked := (requestBind_faults (w := bindingWaiter holder root part va len need segment) hclear h).trans (park_joins hrecord)
  rw [hcount] at hcounted
  rw [hwalked.waiters] at hwaiters
  exact answers_binding hs hnew hparked ⟨hcounted, hwaiters, hframe.2.2.2, onlyFields_of_dev hframe⟩

theorem binding_opens {k v i : Nat} {d : Dev} (h : s.dev.translate root part va len need.toNat = (.fault k v, d))
    (hnone : d.faultRecord root v k = none) (hfree : d.freeRecord = some i) :
    Answers (.binding holder root part va len need segment) s fun t =>
      t.dev.on (F.RBT_FREC0_OPEN i) = true ∧ t.dev.get (F.RBT_FREC0_KIND i) = k % 2 ^ 3 ∧
        t.dev.get (F.RBT_FREC0_ACCESS i) = accessCode need.toNat ∧ t.dev.get (F.RBT_FREC0_VA i) = v / 0x10000 % 2 ^ 40 ∧
        t.dev.get (F.RBT_FREC0_ROOT i) = root ∧ t.dev.get (F.RBT_FREC0_WAITERS i) = 1 ∧ t.dev.get (F.RBT_FREC1_FIRST i) = holder ∧
        t.dev.rbt.waiters = s.dev.rbt.waiters ++ [(bindingWaiter holder root part va len need segment).parkedOn i] ∧
        Dev.raisedOne s.dev t.dev evTranslation stOk holder [i, root.val, v, accessCode need.toNat, k] ∧
        State.onlyFieldsEv (recordFields i ++ walkFields) s t := by
  have hwalked := translate_walked h fun _ => Xlate.noConfusion
  have hparked := requestBind_faults (w := bindingWaiter holder root part va len need segment) hclear h
  obtain ⟨hopen, hkind, haccess, hva, hroot, hcount, hfirst, hwaiters⟩ :=
    park_record (w := bindingWaiter holder root part va len need segment) hnone hfree
  obtain ⟨hone, hframe⟩ := park_raises (w := bindingWaiter holder root part va len need segment) hwalked.regs hnone hfree
  rw [hwalked.waiters] at hwaiters
  generalize d.park (bindingWaiter holder root part va len need segment) k v = e at *
  refine answers_binding hs hnew hparked ⟨hopen, hkind, haccess, hva, hroot.trans ?_, hcount, hfirst.trans ?_, hwaiters, hone,
    onlyFieldsEv_of_frame hframe⟩
  · exact Nat.mod_eq_of_lt root.isLt
  · exact Nat.mod_eq_of_lt (holder.isLt.trans (by norm_num))

end

/-! ### Window lookups (R226) -/

section

variable {s : State} {holder : Fin 512} {root : Fin 64} {va len : Nat} (hs : s.powered)
include hs

theorem lookup_unheld (h : s.dev.holdsRange holder root va len = false) : Answers (.extentLookup holder root va len) s fun t => t = s := by
  refine answers_onDev (f := fun d => d.lookupWindow holder root va len) hs rfl ?_
  rw [Dev.lookupWindow, h]
  rfl

theorem lookup_shows {l : List Extent} {d : Dev} (hheld : s.dev.holdsRange holder root va len = true)
    (hnew : s.dev.isWaiting ⟨0, holder, root, s.dev.get (F.RBT_ROOT_PART root), va, len, 0, false, none⟩ = false)
    (hclear : s.dev.invalidating root va len = false)
    (h : s.dev.translate root (s.dev.get (F.RBT_ROOT_PART root)) va len 0 = (.ok l, d)) :
    Answers (.extentLookup holder root va len) s fun t =>
      t.dev.rbt.bound.head? = some ⟨holder, root, va, stOk, l⟩ ∧ t.dev.rbt.holders = s.dev.rbt.holders ∧
        State.onlyFields walkFields s t := by
  have hshows : s.dev.lookupWindow holder root va len = d.setBound ⟨holder, root, va, stOk, l⟩ := by
    unfold Dev.lookupWindow
    dsimp only
    rw [hheld, hnew, hclear, h]
    rfl
  have hwalked := translate_walked h fun _ => Xlate.noConfusion
  refine answers_onDev (f := fun d => d.lookupWindow holder root va len) hs rfl ?_
  dsimp only
  rw [hshows]
  exact ⟨rfl, hwalked.holders, onlyFields_of_dev (onlyRegs_trans hwalked.regs (onlyRegs_core _ (setBound_core _ _)))⟩

end

/-- Settles O34, by what the translation of a binding's range gives: extents, a root that is refused, or a fault that joins a record or
opens one. -/
theorem bindingsTranslateHoldAndPark : Obligations.BindingsTranslateHoldAndPark := by
  unfold Obligations.BindingsTranslateHoldAndPark
  dsimp only
  refine ⟨fun s holder root part va len need segment hs hnew => ⟨binding_waits hs hnew, fun hclear => ⟨fun l d h => ?_,
    binding_perm hs hnew hclear, fun k v i d h => ?_⟩⟩, fun s holder root va len hs => ⟨lookup_unheld hs, fun l d => lookup_shows hs⟩⟩
  · exact ⟨binding_tooMany hs hnew hclear h, binding_holds hs hnew hclear h⟩
  · exact ⟨binding_joins hs hnew hclear h, binding_opens hs hnew hclear h⟩

end Sys2Proof.Machine
end

section
/-! PROOF. The proof of O35: fault records that close, with their waiters walking again or ending (R220, R228 to R230). -/

namespace Sys2Proof.Machine

open Sys2Proof

/-! ### A record that closes (R229) -/

/-- The fields that closing record `i` writes. -/
def closedFields (i : Nat) : List Fld := [F.RBT_FREC0_OPEN i, F.RBT_FREC0_WAITERS i]

theorem closedFields_subset (i : Nat) : ∀ f ∈ closedFields i, f ∈ recordFields i := by simp [closedFields, recordFields]

theorem closedFields_nodup (i : Nat) : ((closedFields i).map Fld.key).Nodup := by
  simp [closedFields, Fld.key, F.RBT_FREC0_OPEN, F.RBT_FREC0_WAITERS]

/-- What closing it writes. -/
def closedWrites (i : Nat) : List (Fld × Nat) := [(F.RBT_FREC0_OPEN i, 0), (F.RBT_FREC0_WAITERS i, 0)]

theorem closedWrites_fields (i : Nat) : (closedWrites i).map Prod.fst = closedFields i := rfl

theorem closeRecord_fst (d : Dev) (i : Nat) : (d.closeRecord i).1 = d.rbt.waiters.filter (·.record == i) := rfl

theorem closeRecord_frame (d : Dev) (i : Nat) : Dev.onlyRegs (closedFields i) d (d.closeRecord i).2 :=
  onlyRegs_trans (b := { d with rbt := _ }) (onlyRegs_core _ (rbtSet_core d _)) (onlyRegs_puts_of (closedWrites_fields i) _)

theorem closeRecord_rbt (d : Dev) (i : Nat) :
    (d.closeRecord i).2.rbt = { d.rbt with waiters := d.rbt.waiters.filter (·.record != i) } := puts_rbt _ _

theorem closeRecord_host (d : Dev) (i : Nat) : (d.closeRecord i).2.host = d.host := puts_host _ _

/-- Both of its fields read 0. -/
theorem closeRecord_get {i : Nat} {f : Fld} (hf : f ∈ closedFields i) (d : Dev) : (d.closeRecord i).2.get f = 0 := by
  refine (get_puts_mem (v := 0) (closedWrites_fields i) (closedFields_nodup i) ?_ _).trans (Nat.zero_mod _)
  simpa [closedFields, closedWrites] using hf

/-- No invalidate covers another range for it. -/
theorem closeRecord_invalidating (d : Dev) (i root va len : Nat) :
    (d.closeRecord i).2.invalidating root va len = d.invalidating root va len := by
  have hstatus : (d.closeRecord i).2.get F.RBT_INV_STATUS = d.get F.RBT_INV_STATUS := (closeRecord_frame d i).1 _ fun g hg => by
    obtain ⟨hoff, -, hlo⟩ := recordFields_place (closedFields_subset i g hg)
    exact key_ne (by decide) hlo (.inl (by simp only [F.RBT_INV_STATUS]; omega))
  unfold Dev.invalidating
  rw [hstatus, closeRecord_rbt]

theorem retryWaiting_none {d : Dev} (h : d.rbt.waitingBind = []) : d.retryWaiting = d := by
  unfold Dev.retryWaiting
  rw [h, List.foldl_nil, ← h]

/-! ### One waiter (R229, R230) -/

section

variable {d : Dev} {i : Nat} {w : Waiter} (hone : d.rbt.waiters.filter (·.record == i) = [w]) (hbind : d.rbt.waitingBind = [])
include hone hbind

/-- The one waiter of a record, which a queue entry belongs to, walks again without a fault. -/
theorem rewalk_clears {e : Dev} {q : Nat × Nat} {l : List Extent} (hentry : w.entry = some q)
    (hclear : d.invalidating w.root w.va w.len = false)
    (h : (d.closeRecord i).2.translate w.root w.part w.va w.len w.need = (.ok l, e)) : d.rewalk i = e := by
  have hwalked := translate_walked h fun _ => Xlate.noConfusion
  have hnone : e.rbt.waitingBind = [] := by rw [hwalked.waitingBind, closeRecord_rbt, hbind]
  have hrequest := requestBind_clears ((closeRecord_invalidating d i _ _ _).trans hclear) hentry h
  unfold Dev.rewalk
  dsimp only
  rw [closeRecord_fst, hone, List.foldl_cons, List.foldl_nil, hrequest, retryWaiting_none hnone]

theorem failWaiters_one (status : Nat) : d.failWaiters i status = (d.closeRecord i).2.waiterDone w status := by
  have hnone : ((d.closeRecord i).2.waiterDone w status).rbt.waitingBind = [] := by
    unfold Dev.waiterDone
    split
    · exact (congrArg RbtSt.waitingBind (closeRecord_rbt d i)).trans hbind
    · exact (congrArg RbtSt.waitingBind (closeRecord_rbt d i)).trans hbind
  unfold Dev.failWaiters
  dsimp only
  rw [closeRecord_fst, hone, List.foldl_cons, List.foldl_nil, retryWaiting_none hnone]

end

theorem waiterDone_core (d : Dev) (w : Waiter) (status : Nat) : Dev.sameCore d (d.waiterDone w status) := by
  unfold Dev.waiterDone
  split
  · exact ⟨rfl, rfl, rfl, rfl⟩
  · exact setBound_core d _

theorem waiterDone_waiters (d : Dev) (w : Waiter) (status : Nat) : (d.waiterDone w status).rbt.waiters = d.rbt.waiters := by
  unfold Dev.waiterDone
  split <;> rfl

theorem waiterDone_bound {w : Waiter} (hentry : w.entry = none) (d : Dev) (status : Nat) :
    (d.waiterDone w status).rbt.bound.head? = some ⟨w.holder, w.root, w.va, status, []⟩ := by
  unfold Dev.waiterDone
  rw [hentry]
  exact setBound_head d _

/-- What the end of entry `n` of queue `q` makes of an entry. -/
def Entry.endedAs (q n : Nat) (x : Nat × Nat) (e : Entry) : Entry :=
  if e.queue = q ∧ e.seq = n ∧ e.finished.isNone then { e with finished := some x } else e

/-- It keeps its key. -/
theorem endedAs_key (q n : Nat) (x : Nat × Nat) (e : Entry) : (e.endedAs q n x).queue = e.queue ∧ (e.endedAs q n x).seq = e.seq := by
  unfold Entry.endedAs
  split <;> exact ⟨rfl, rfl⟩

theorem finishEntry_entry (d : Dev) (q n status result : Nat) :
    (d.finishEntry q n status result).entry q n = (d.entry q n).map (Entry.endedAs q n (status, result)) := by
  have hkeys : ((fun e : Entry => e.queue == q && e.seq == n) ∘ Entry.endedAs q n (status, result)) = fun e => e.queue == q && e.seq == n := by
    funext e
    obtain ⟨hqueue, hseq⟩ := endedAs_key q n (status, result) e
    rw [Function.comp_apply, hqueue, hseq]
  calc (d.finishEntry q n status result).entry q n
      = (d.host.entries.map (Entry.endedAs q n (status, result))).find? (fun e => e.queue == q && e.seq == n) := rfl
    _ = (d.entry q n).map (Entry.endedAs q n (status, result)) := by rw [List.find?_map, hkeys, Dev.entry]

/-- A waiter of a queue entry that has not ended ends it. -/
theorem waiterDone_ended {d : Dev} {w : Waiter} {q n : Nat} {e : Entry} (hentry : w.entry = some (q, n)) (h : d.entry q n = some e)
    (hopen : e.finished = none) (status : Nat) : (d.waiterDone w status).entryEnded q n status 0 := by
  have hkey : e.queue = q ∧ e.seq = n := by simpa using List.find?_some h
  unfold Dev.waiterDone
  rw [hentry]
  dsimp only
  rw [Dev.entryEnded, finishEntry_entry, h, Option.map_some, Entry.endedAs, if_pos ⟨hkey.1, hkey.2, by rw [hopen]; rfl⟩]
  rfl

/-- What closing a record of one waiter with a status leaves: the record closed, the waiter off it and ended. -/
theorem failWaiters_effect {d : Dev} {i : Nat} {w : Waiter} (hone : d.rbt.waiters.filter (·.record == i) = [w])
    (hbind : d.rbt.waitingBind = []) (status : Nat) :
    Dev.onlyRegs (closedFields i) d (d.failWaiters i status) ∧ (∀ f ∈ closedFields i, (d.failWaiters i status).get f = 0) ∧
      (d.failWaiters i status).rbt.waiters = d.rbt.waiters.filter (·.record != i) ∧
      (∀ (q n : Nat) (e : Entry), w.entry = some (q, n) → d.entry q n = some e → e.finished = none →
        (d.failWaiters i status).entryEnded q n status 0) ∧
      (w.entry = none → (d.failWaiters i status).rbt.bound.head? = some ⟨w.holder, w.root, w.va, status, []⟩) := by
  rw [failWaiters_one hone hbind]
  have hcore := waiterDone_core (d.closeRecord i).2 w status
  refine ⟨onlyRegs_trans (closeRecord_frame d i) (onlyRegs_core _ hcore), fun f hf => (sameCore_get hcore f).trans (closeRecord_get hf d),
    ?_, fun q n e hentry hfound hopen => ?_, fun hentry => waiterDone_bound hentry _ _⟩
  · rw [waiterDone_waiters, closeRecord_rbt]
  · refine waiterDone_ended hentry ?_ hopen status
    unfold Dev.entry
    rw [closeRecord_host]
    exact hfound

/-- A field that reads 0 is off. -/
theorem off_of_zero {d : Dev} {f : Fld} (h : d.get f = 0) : d.on f = false := by
  unfold Dev.on
  rw [h]
  rfl

/-- The three statuses that REJECT takes. -/
def rejectStatuses : List Nat := [stBounds, stPerm, stUncorrectable]

theorem resolveReject_closes {d : Dev} {i status : Nat} (hopen : d.on (F.RBT_FREC0_OPEN i) = true) (hstatus : status ∈ rejectStatuses) :
    d.resolveReject i status = d.failWaiters i status := if_pos (by rw [hopen]; exact List.contains_iff_mem.mpr hstatus)

theorem resolveReject_refuses {d : Dev} {i status : Nat} (h : d.on (F.RBT_FREC0_OPEN i) = false ∨ status ∉ rejectStatuses) :
    d.resolveReject i status = d.refuse F.RBT_RESOLVE_RECORD.off (status % 256 * 2 ^ 56 + 2 ^ 49 + i) := by
  refine if_neg fun hboth => ?_
  obtain ⟨hopen, hstatus⟩ := Bool.and_eq_true_iff.mp hboth
  rcases h with h | h
  · exact Bool.false_ne_true (h.symm.trans hopen)
  · exact h (List.contains_iff_mem.mp hstatus)

/-- What STALE_ROOT_RECHECK does. -/
def Dev.staleRecheck (d : Dev) (i : Nat) : Dev :=
  if d.on (F.RBT_FREC0_OPEN i) && d.get (F.RBT_FREC0_KIND i) == fkStale &&
    !genOlder (d.rootGen (d.get (F.RBT_FREC0_ROOT i))) (d.get (F.RBT_GEN_GEN (d.get (F.RBT_FREC0_ROOT i)))) then d.rewalk i else d

theorem exec_staleRootRecheck (i : Fin 1024) (s : State) : exec (.staleRootRecheck i) s = onDev (fun d => d.staleRecheck i) s := rfl

/-- What FAULT_RECORD_TIMEOUT does. -/
def Dev.recordTimeout (d : Dev) (i : Nat) : Dev :=
  if d.on (F.RBT_FREC0_OPEN i) && d.inForceNat 0x280001 != 0 then
    (d.raise evTranslation stFaultPending (d.get (F.RBT_FREC1_FIRST i)) (d.recordDetail i)).failWaiters i stFaultPending
  else d

theorem exec_faultRecordTimeout (i : Fin 1024) (s : State) : exec (.faultRecordTimeout i) s = onDev (fun d => d.recordTimeout i) s := rfl

/-! ### The commands -/

section

variable {s : State} (hs : s.powered) (i : Fin 1024)
include hs

theorem record_rewalks {w : Waiter} {q : Nat × Nat} {l : List Extent} {d : Dev} {c : Instr} (hopen : s.dev.on (F.RBT_FREC0_OPEN i) = true)
    (hone : s.dev.rbt.waiters.filter (·.record == i.val) = [w]) (hbind : s.dev.rbt.waitingBind = []) (hentry : w.entry = some q)
    (hclear : s.dev.invalidating w.root w.va w.len = false)
    (h : (s.dev.closeRecord i).2.translate w.root w.part w.va w.len w.need = (.ok l, d))
    (hc : c = .retry i ∨ (c = .staleRootRecheck i ∧ s.dev.get (F.RBT_FREC0_KIND i) = fkStale ∧
      genOlder (s.dev.rootGen (s.dev.get (F.RBT_FREC0_ROOT i))) (s.dev.get (F.RBT_GEN_GEN (s.dev.get (F.RBT_FREC0_ROOT i)))) = false)) :
    Answers c s fun t =>
      t.dev.on (F.RBT_FREC0_OPEN i) = false ∧ t.dev.get (F.RBT_FREC0_WAITERS i) = 0 ∧
        t.dev.rbt.waiters = s.dev.rbt.waiters.filter (·.record != i.val) ∧ t.dev.rbt.waitingBind = [] ∧
        State.onlyFields (F.RBT_FREC0_OPEN i :: F.RBT_FREC0_WAITERS i :: walkFields) s t := by
  have hrewalk := rewalk_clears hone hbind hentry hclear h
  have hexec : exec c s = .next { s with dev := d } := by
    rcases hc with rfl | ⟨rfl, hkind, hgen⟩
    · refine (onDev_powered (fun d => d.resolveRetry i) s hs).trans ?_
      rw [Dev.resolveRetry, if_pos hopen, hrewalk]
    · rw [exec_staleRootRecheck, onDev_powered _ s hs, Dev.staleRecheck, if_pos (by simp [hopen, hkind, hgen]), hrewalk]
  have hwalked := translate_walked h fun _ => Xlate.noConfusion
  have hzero : ∀ f ∈ closedFields i, d.get f = 0 := fun f hf =>
    (hwalked.regs.1 f (recordFields_ne_walk f (closedFields_subset i f hf))).trans (closeRecord_get hf s.dev)
  refine ⟨_, hexec, off_of_zero (hzero _ (by simp [closedFields])), hzero _ (by simp [closedFields]), ?_, ?_, onlyFields_of_dev
    (onlyRegs_trans (onlyRegs_mono (closeRecord_frame s.dev i) (by simp [closedFields])) (onlyRegs_mono hwalked.regs fun f hf => by simp [hf]))⟩
  · exact hwalked.waiters.trans (congrArg RbtSt.waiters (closeRecord_rbt _ _))
  · exact (hwalked.waitingBind.trans (congrArg RbtSt.waitingBind (closeRecord_rbt _ _))).trans hbind

theorem recheck_stale
    (h : genOlder (s.dev.rootGen (s.dev.get (F.RBT_FREC0_ROOT i))) (s.dev.get (F.RBT_GEN_GEN (s.dev.get (F.RBT_FREC0_ROOT i)))) = true) :
    Answers (.staleRootRecheck i) s fun t => t = s := by
  refine answers_onDev hs (exec_staleRootRecheck i s) ?_
  rw [Dev.staleRecheck, if_neg (by simp [h])]

theorem record_rejects {w : Waiter} {status : Nat} (hopen : s.dev.on (F.RBT_FREC0_OPEN i) = true)
    (hone : s.dev.rbt.waiters.filter (·.record == i.val) = [w]) (hbind : s.dev.rbt.waitingBind = [])
    (hstatus : status ∈ rejectStatuses) :
    Answers (.reject i status) s fun t =>
      t.dev.on (F.RBT_FREC0_OPEN i) = false ∧ t.dev.get (F.RBT_FREC0_WAITERS i) = 0 ∧
        t.dev.rbt.waiters = s.dev.rbt.waiters.filter (·.record != i.val) ∧
        (∀ (q n : Nat) (e : Entry), w.entry = some (q, n) → s.dev.entry q n = some e → e.finished = none → t.dev.entryEnded q n status 0) ∧
        (w.entry = none → t.dev.rbt.bound.head? = some ⟨w.holder, w.root, w.va, status, []⟩) ∧
        State.onlyFields [F.RBT_FREC0_OPEN i, F.RBT_FREC0_WAITERS i] s t := by
  obtain ⟨hframe, hzero, hwaiters, hended, hbound⟩ := failWaiters_effect hone hbind status
  refine answers_onDev (f := fun d => d.resolveReject i status) hs rfl ?_
  dsimp only
  rw [resolveReject_closes hopen hstatus]
  exact ⟨off_of_zero (hzero _ (by simp [closedFields])), hzero _ (by simp [closedFields]), hwaiters, hended, hbound, onlyFields_of_dev hframe⟩

theorem timeout_disabled (h : s.dev.inForceNat 0x280001 = 0) : Answers (.faultRecordTimeout i) s fun t => t = s := by
  refine answers_onDev hs (exec_faultRecordTimeout i s) ?_
  rw [Dev.recordTimeout, if_neg (by simp [h])]

theorem record_timesOut {w : Waiter} (hopen : s.dev.on (F.RBT_FREC0_OPEN i) = true) (hon : s.dev.inForceNat 0x280001 ≠ 0)
    (hone : s.dev.rbt.waiters.filter (·.record == i.val) = [w]) (hbind : s.dev.rbt.waitingBind = []) :
    Answers (.faultRecordTimeout i) s fun t =>
      t.dev.on (F.RBT_FREC0_OPEN i) = false ∧ t.dev.rbt.waiters = s.dev.rbt.waiters.filter (·.record != i.val) ∧
        (∀ (q n : Nat) (e : Entry), w.entry = some (q, n) → s.dev.entry q n = some e → e.finished = none →
          t.dev.entryEnded q n stFaultPending 0) ∧
        Dev.raisedOne s.dev t.dev evTranslation stFaultPending (s.dev.get (F.RBT_FREC1_FIRST i)) (s.dev.recordDetail i) ∧
        State.onlyFieldsEv [F.RBT_FREC0_OPEN i, F.RBT_FREC0_WAITERS i] s t := by
  have hraised := raise_one s.dev evTranslation stFaultPending (s.dev.get (F.RBT_FREC1_FIRST i)) (s.dev.recordDetail i)
  have hevent := eventFrame_raised (closedFields i) s.dev evTranslation stFaultPending (s.dev.get (F.RBT_FREC1_FIRST i)) (s.dev.recordDetail i)
  have hrbt := raise_rbt s.dev evTranslation stFaultPending (s.dev.get (F.RBT_FREC1_FIRST i)) (s.dev.recordDetail i)
  have hentries := raise_entries s.dev evTranslation stFaultPending (s.dev.get (F.RBT_FREC1_FIRST i)) (s.dev.recordDetail i)
  refine answers_onDev hs (exec_faultRecordTimeout i s) ?_
  dsimp only
  rw [Dev.recordTimeout, if_pos (by simp [hopen, hon])]
  generalize s.dev.raise evTranslation stFaultPending (s.dev.get (F.RBT_FREC1_FIRST i)) (s.dev.recordDetail i) = d at *
  rw [← hrbt] at hone hbind ⊢
  obtain ⟨hframe, hzero, hwaiters, hended, -⟩ := failWaiters_effect hone hbind stFaultPending
  have hring : RingFree (closedFields i) := ringFree_of_away fun f hf => recordFields_away i.isLt f (closedFields_subset i f hf)
  refine ⟨off_of_zero (hzero _ (by simp [closedFields])), hwaiters, fun q n e hentry hfound => hended q n e hentry ?_,
    raisedOne_after hraised hframe, onlyFieldsEv_of_frame (eventFrame_trans hevent (eventFrame_of_only hframe hring))⟩
  unfold Dev.entry
  rw [hentries]
  exact hfound

theorem retry_refused (hclosed : s.dev.on (F.RBT_FREC0_OPEN i) = false) :
    Answers (.retry i) s fun t =>
      Dev.raisedOne s.dev t.dev evRegister stOk 0 [F.RBT_RESOLVE_RECORD.off, 2 ^ 48 + i.val] ∧ State.onlyFieldsEv regaccFields s t := by
  refine refuse_answers ((onDev_powered (fun d => d.resolveRetry i) s hs).trans ?_)
  rw [Dev.resolveRetry, if_neg (by simp [hclosed])]

theorem reject_refused {status : Nat} (h : s.dev.on (F.RBT_FREC0_OPEN i) = false ∨ status ∉ rejectStatuses) :
    Answers (.reject i status) s fun t =>
      (∃ e : Event, t.dev.events = e :: s.dev.events ∧ e.cls = evRegister) ∧ t.dev.rbt = s.dev.rbt ∧ State.onlyFieldsEv regaccFields s t := by
  refine answers_onDev (f := fun d => d.resolveReject i status) hs rfl ?_
  dsimp only
  rw [resolveReject_refuses h]
  exact refuse_effect s _ _

end

/-- Settles O35, by the command and by whether the record is open: it closes with its waiter walking again or ending, or the write is
refused. -/
theorem faultRecordsAreResolved : Obligations.FaultRecordsAreResolved := by
  unfold Obligations.FaultRecordsAreResolved
  refine ⟨fun s i w q n l d c hs hopen hone hbind hentry hclear h hc => record_rewalks hs i hopen hone hbind hentry hclear h hc,
    fun s i hs => recheck_stale hs i, fun s i w status hs hopen hone hbind hstatus => record_rejects hs i hopen hone hbind hstatus,
    fun s i hs => timeout_disabled hs i, fun s i w hs hopen hon hone hbind => record_timesOut hs i hopen hon hone hbind,
    fun s i status hs => ⟨retry_refused hs i, reject_refused hs i⟩⟩

end Sys2Proof.Machine
end

section
/-! PROOF. The proof of O36: generations and root registers, invalidates and recalls (R219, R231 to R234). -/

namespace Sys2Proof.Machine

open Sys2Proof

/-! ### Generations and roots (R219, R234) -/

theorem commit_newer {s : State} (hs : s.powered) (root : Fin 64) (gen : Nat)
    (h : genOlder (s.dev.get (F.RBT_GEN_GEN root)) (gen % 2 ^ 32) = true) :
    Answers (.rbtCommit root gen) s fun t =>
      t.dev.get (F.RBT_GEN_GEN root) = gen % 2 ^ 32 ∧ State.onlyFields [F.RBT_GEN_GEN root] s t := by
  refine answers_onDev (f := fun d => d.commitGen root gen) hs rfl ?_
  dsimp only
  rw [Dev.commitGen, if_pos h]
  exact ⟨(get_put_same _ _ _).trans (Nat.mod_mod _ _), onlyFields_of_dev (onlyRegs_put _ _ _ _ List.mem_cons_self)⟩

theorem commit_refused {s : State} (hs : s.powered) (root : Fin 64) (gen : Nat)
    (h : genOlder (s.dev.get (F.RBT_GEN_GEN root)) (gen % 2 ^ 32) = false) :
    Answers (.rbtCommit root gen) s fun t =>
      Dev.raisedOne s.dev t.dev evRegister stOk 0 [F.RBT_COMMIT_GEN.off, root.val * 2 ^ 32 + gen % 2 ^ 32] ∧
        State.onlyFieldsEv regaccFields s t := by
  refine refuse_answers ((onDev_powered (fun d => d.commitGen root gen) s hs).trans ?_)
  rw [Dev.commitGen, if_neg (by rw [h]; exact Bool.false_ne_true)]

/-- The fields of a root register. -/
def rootFields (root : Nat) : List Fld := [F.RBT_ROOT_VALID root, F.RBT_ROOT_PART root, F.RBT_ROOT_REC_PA root]

theorem rootFields_nodup (root : Nat) : ((rootFields root).map Fld.key).Nodup := by
  simp [rootFields, Fld.key, F.RBT_ROOT_VALID, F.RBT_ROOT_PART, F.RBT_ROOT_REC_PA]

/-- What a write of it puts there. -/
def rootWrites (root v : Nat) : List (Fld × Nat) :=
  [(F.RBT_ROOT_VALID root, bits v 63 63), (F.RBT_ROOT_PART root, bits v 58 56), (F.RBT_ROOT_REC_PA root, bits v 55 6)]

theorem rootWrites_fields (root v : Nat) : (rootWrites root v).map Prod.fst = rootFields root := rfl

theorem rootWrite_free {d : Dev} {root v : Nat} (h : d.rootBusy root = false) : d.rootWrite root v = d.puts (rootWrites root v) :=
  if_neg (by simp [h])

theorem rootWrites_get {root v x : Nat} {f : Fld} (h : (f, x) ∈ rootWrites root v) (d : Dev) : (d.puts (rootWrites root v)).get f = x % 2 ^ f.w :=
  get_puts_mem (rootWrites_fields root v) (rootFields_nodup root) h d

/-- A field cut out of a word is no wider than its bits. -/
theorem bits_mod (v hi lo w : Nat) (h : w = hi + 1 - lo) : bits v hi lo % 2 ^ w = bits v hi lo := by
  subst h
  exact Nat.mod_mod _ _

theorem root_written {s : State} (hs : s.powered) (root : Fin 64) (v : Word) (h : s.dev.rootBusy root = false) :
    Answers (.rbtRootWrite root v) s fun t =>
      t.dev.get (F.RBT_ROOT_VALID root) = bits v.toNat 63 63 ∧ t.dev.get (F.RBT_ROOT_PART root) = bits v.toNat 58 56 ∧
        t.dev.get (F.RBT_ROOT_REC_PA root) = bits v.toNat 55 6 ∧
        State.onlyFields [F.RBT_ROOT_VALID root, F.RBT_ROOT_PART root, F.RBT_ROOT_REC_PA root] s t := by
  refine answers_onDev (f := fun d => d.rootWrite root v.toNat) hs rfl ?_
  dsimp only
  rw [rootWrite_free h]
  refine ⟨?_, ?_, ?_, onlyFields_of_dev (onlyRegs_puts_of (rootWrites_fields root v.toNat) s.dev)⟩
  · exact (rootWrites_get (by simp [rootWrites]) s.dev).trans (bits_mod _ 63 63 1 rfl)
  · exact (rootWrites_get (by simp [rootWrites]) s.dev).trans (bits_mod _ 58 56 3 rfl)
  · exact (rootWrites_get (by simp [rootWrites]) s.dev).trans (bits_mod _ 55 6 50 rfl)

theorem root_refused {s : State} (hs : s.powered) (root : Fin 64) (v : Word) (h : s.dev.rootBusy root = true) :
    Answers (.rbtRootWrite root v) s fun t =>
      Dev.raisedOne s.dev t.dev evRegister stOk 0 [(F.RBT_ROOT_VALID root).off, v.toNat] ∧ State.onlyFieldsEv regaccFields s t := by
  refine refuse_answers ((onDev_powered (fun d => d.rootWrite root v.toNat) s hs).trans ?_)
  rw [Dev.rootWrite, if_pos h]

/-! ### The recalls that an invalidate waits for (R232) -/

/-- The least of some numbers and `a` is none above any of them. -/
theorem foldl_min_le (l : List Nat) : ∀ a : Nat, l.foldl min a ≤ a ∧ ∀ j ∈ l, l.foldl min a ≤ j := by
  induction l with
  | nil => exact fun a => ⟨Nat.le_refl a, fun _ h => nomatch h⟩
  | cons x l ih =>
    intro a
    obtain ⟨hle, hall⟩ := ih (min a x)
    refine ⟨hle.trans (Nat.min_le_left _ _), fun j hj => ?_⟩
    rcases List.mem_cons.mp hj with rfl | hj
    · exact hle.trans (Nat.min_le_right _ _)
    · exact hall j hj

/-- The fields of RBT_INV_WAIT. -/
def waitFields : List Fld := [F.RBT_INV_WAIT_COUNT, F.RBT_INV_WAIT_LOWEST]

/-- The fields of RBT_INV and RBT_INV_WAIT. -/
def invFields : List Fld :=
  [F.RBT_INV_ROOT, F.RBT_INV_ORDER, F.RBT_INV_BASE, F.RBT_INV_ALL, F.RBT_INV_STATUS, F.RBT_INV_WAIT_COUNT, F.RBT_INV_WAIT_LOWEST]

theorem ringFree_inv : RingFree invFields := ringFree_of_away (by unfold Fld.awayFromEvents; decide)

theorem ringFree_ack : RingFree (F.RBT_INV_STATUS :: waitFields) := ringFree_of_away (by unfold Fld.awayFromEvents; decide)

/-- What RBT_INV_WAIT shows of some recalls. -/
def waitWrites (l : List Nat) : List (Fld × Nat) := [(F.RBT_INV_WAIT_COUNT, l.length), (F.RBT_INV_WAIT_LOWEST, l.foldl min 0x3FF)]

theorem waitWrites_fields (l : List Nat) : (waitWrites l).map Prod.fst = waitFields := rfl

theorem waitFields_nodup : (waitFields.map Fld.key).Nodup := by decide

theorem showRecalls_frame (d : Dev) : Dev.onlyRegs waitFields d d.showRecalls := onlyRegs_puts_of (waitWrites_fields d.rbt.recalls) d

theorem showRecalls_rbt (d : Dev) : d.showRecalls.rbt = d.rbt := puts_rbt _ _

theorem showRecalls_status (d : Dev) : d.showRecalls.get F.RBT_INV_STATUS = d.get F.RBT_INV_STATUS := (showRecalls_frame d).1 _ (by decide)

theorem showRecalls_count (d : Dev) : d.showRecalls.get F.RBT_INV_WAIT_COUNT = d.rbt.recalls.length % 2 ^ 10 :=
  get_puts_mem (waitWrites_fields d.rbt.recalls) waitFields_nodup List.mem_cons_self d

/-- No recall is of a lower holder than the lowest shown. -/
theorem showRecalls_lowest (d : Dev) : ∀ j ∈ d.rbt.recalls, d.showRecalls.get F.RBT_INV_WAIT_LOWEST ≤ j := fun j hj => by
  have hshown : d.showRecalls.get F.RBT_INV_WAIT_LOWEST = d.rbt.recalls.foldl min 0x3FF % 2 ^ 10 :=
    get_puts_mem (waitWrites_fields d.rbt.recalls) waitFields_nodup (List.mem_cons_of_mem _ List.mem_cons_self) d
  exact hshown ▸ (Nat.mod_le _ _).trans ((foldl_min_le d.rbt.recalls 0x3FF).2 j hj)

/-- The invalidate as it is DONE, with its event. -/
def Dev.invalidateDone (d : Dev) : Dev :=
  (d.showRecalls.put F.RBT_INV_STATUS 2).raise evInvalidate stOk d.rbt.recallRange.1
    [d.rbt.recallRange.1, d.rbt.recallRange.2.1, d.rbt.recallRange.2.2]

theorem settleInvalidate_waits {d : Dev} (h : d.rbt.recalls ≠ []) : d.settleInvalidate = d.showRecalls := by
  unfold Dev.settleInvalidate
  dsimp only
  rw [showRecalls_rbt, if_neg (by simp [h])]

theorem settleInvalidate_done {d : Dev} (hbusy : d.get F.RBT_INV_STATUS = 1) (hnone : d.rbt.recalls = []) (hbind : d.rbt.waitingBind = []) :
    d.settleInvalidate = d.invalidateDone := by
  have hwaiting : d.invalidateDone.rbt.waitingBind = [] := by
    rw [Dev.invalidateDone, raise_rbt, put_rbt, showRecalls_rbt, hbind]
  unfold Dev.settleInvalidate
  dsimp only
  rw [showRecalls_rbt, if_pos (by rw [showRecalls_status, hbusy, hnone]; rfl)]
  exact retryWaiting_none hwaiting

theorem invalidateDone_rbt (d : Dev) : d.invalidateDone.rbt = d.rbt := by
  rw [Dev.invalidateDone, raise_rbt, put_rbt, showRecalls_rbt]

theorem invalidateDone_regs (d : Dev) : Dev.onlyRegs (F.RBT_INV_STATUS :: waitFields) d (d.showRecalls.put F.RBT_INV_STATUS 2) :=
  onlyRegs_trans (onlyRegs_mono (showRecalls_frame d) fun _ => List.mem_cons_of_mem _) (onlyRegs_put _ _ _ _ List.mem_cons_self)

theorem invalidateDone_frame (d : Dev) : Dev.eventFrame (F.RBT_INV_STATUS :: waitFields) d d.invalidateDone :=
  eventFrame_raise (invalidateDone_regs d) ringFree_ack _ _ _ _

theorem invalidateDone_one (d : Dev) :
    Dev.raisedOne d d.invalidateDone evInvalidate stOk d.rbt.recallRange.1
      [d.rbt.recallRange.1, d.rbt.recallRange.2.1, d.rbt.recallRange.2.2] :=
  raise_one_after (invalidateDone_regs d) ringFree_ack _ _ _ _

theorem invStatus_away : F.RBT_INV_STATUS.awayFromEvents := away_of_low (by decide) (by decide)

theorem invalidateDone_status (d : Dev) : d.invalidateDone.get F.RBT_INV_STATUS = 2 :=
  (raise_get _ _ _ _ _ invStatus_away).trans (get_put_same _ _ _)

theorem invalidateDone_count (d : Dev) : d.invalidateDone.get F.RBT_INV_WAIT_COUNT = d.rbt.recalls.length % 2 ^ 10 :=
  ((raise_get _ _ _ _ _ (away_of_low (by decide) (by decide))).trans (get_put_ne _ _ _ _ (by decide))).trans (showRecalls_count d)

/-! ### Invalidates (R231, R232) -/

/-- The leaves that an invalidate leaves in the range entries. -/
theorem dropCaches_ranges (d : Dev) (root lo n : Nat) (l : Leaf) :
    l ∈ (d.dropCaches root lo n).rbt.ranges ↔ l ∈ d.rbt.ranges ∧ ¬ (l.root = root ∧ overlaps l.va (2 ^ l.z) lo n = true) := by
  simp [Dev.dropCaches, List.mem_filter, imp_iff_not_or]

/-- The page cache keeps no leaf of the range. -/
theorem dropCaches_pages {d : Dev} {root lo n : Nat} {x : Nat × Option Leaf} {l : Leaf} (hx : x ∈ (d.dropCaches root lo n).rbt.pages)
    (hl : x.2 = some l) (hroot : l.root = root) : overlaps l.va (2 ^ l.z) lo n = false := by
  have hkept := (List.mem_filter.mp hx).2
  simpa [hl, hroot] using hkept

/-- The holders of a range, each once. -/
def Dev.recallsFor (d : Dev) (root lo n : Nat) : List Nat := ((d.holdersIn root lo n).flatMap Holder.ids).eraseDups

/-- What GO writes to RBT_INV. -/
def invWrites (root base order : Nat) (all : Bool) : List (Fld × Nat) :=
  [(F.RBT_INV_ROOT, root), (F.RBT_INV_ORDER, order), (F.RBT_INV_BASE, base / 0x10000), (F.RBT_INV_ALL, b2n all), (F.RBT_INV_STATUS, 1)]

/-- The fields of RBT_INV that GO writes. -/
def goFields : List Fld := [F.RBT_INV_ROOT, F.RBT_INV_ORDER, F.RBT_INV_BASE, F.RBT_INV_ALL, F.RBT_INV_STATUS]

theorem goFields_nodup : (goFields.map Fld.key).Nodup := by decide

theorem invWrites_fields (root base order : Nat) (all : Bool) : (invWrites root base order all).map Prod.fst = goFields := rfl

/-- An invalidate that has begun: its registers, its caches dropped, a recall for each holder. -/
def Dev.invalidateBegun (d : Dev) (root base order : Nat) (all : Bool) : Dev :=
  let r := invRange base order all
  let e := (d.puts (invWrites root base order all)).dropCaches root r.1 r.2
  { e with rbt := { e.rbt with recalls := e.recallsFor root r.1 r.2, recallRange := (root, r.1, r.2) } }

section

variable (d : Dev) (root base order : Nat) (all : Bool)

theorem invalidate_begins (h : d.get F.RBT_INV_STATUS ≠ 1) :
    d.invalidate root base order all = (d.invalidateBegun root base order all).settleInvalidate := if_neg h

theorem invalidateBegun_frame : Dev.onlyRegs invFields d (d.invalidateBegun root base order all) :=
  onlyRegs_trans (b := d.puts (invWrites root base order all))
    (onlyRegs_mono (onlyRegs_puts_of (invWrites_fields root base order all) d) (by simp [goFields, invFields])) (onlyRegs_core _ ⟨rfl, rfl, rfl, rfl⟩)

theorem invalidateBegun_status : (d.invalidateBegun root base order all).get F.RBT_INV_STATUS = 1 :=
  get_puts_mem (v := 1) (invWrites_fields root base order all) goFields_nodup (by simp [invWrites]) d

theorem invalidateBegun_rbt :
    (d.invalidateBegun root base order all).rbt =
      { (d.dropCaches root (invRange base order all).1 (invRange base order all).2).rbt with
        recalls := d.recallsFor root (invRange base order all).1 (invRange base order all).2,
        recallRange := (root, (invRange base order all).1, (invRange base order all).2) } := by
  simp only [Dev.invalidateBegun, Dev.recallsFor, Dev.holdersIn, Dev.dropCaches, puts_rbt]

end

section

variable {s : State} {root : Fin 64} {base order : Nat} {all : Bool} (hs : s.powered)
include hs

theorem invalidate_refused (h : s.dev.get F.RBT_INV_STATUS = 1) :
    Answers (.invalidate root base order all) s fun t =>
      (∃ e : Event, t.dev.events = e :: s.dev.events ∧ e.cls = evRegister) ∧ t.dev.rbt = s.dev.rbt ∧ State.onlyFieldsEv regaccFields s t := by
  refine answers_onDev (f := fun d => d.invalidate root base order all) hs rfl ?_
  dsimp only
  rw [Dev.invalidate, if_pos h]
  exact refuse_effect s _ _

variable (hfree : s.dev.get F.RBT_INV_STATUS ≠ 1)
include hfree

theorem answers_invalidate {P : State → Prop} (h : P { s with dev := (s.dev.invalidateBegun root base order all).settleInvalidate }) :
    Answers (.invalidate root base order all) s P :=
  answers_onDev (f := fun d => d.invalidate root base order all) hs rfl (by
    rwa [invalidate_begins _ _ _ _ _ hfree])

theorem invalidate_done (hnone : s.dev.recallsFor root (invRange base order all).1 (invRange base order all).2 = [])
    (hbind : s.dev.rbt.waitingBind = []) :
    Answers (.invalidate root base order all) s fun t =>
      t.dev.get F.RBT_INV_STATUS = 2 ∧ t.dev.get F.RBT_INV_WAIT_COUNT = 0 ∧
        (∀ l : Leaf, l ∈ t.dev.rbt.ranges ↔ l ∈ s.dev.rbt.ranges ∧
          ¬ (l.root = root ∧ overlaps l.va (2 ^ l.z) (invRange base order all).1 (invRange base order all).2 = true)) ∧
        (∀ e ∈ t.dev.rbt.pages, ∀ l : Leaf, e.2 = some l → l.root = root →
          overlaps l.va (2 ^ l.z) (invRange base order all).1 (invRange base order all).2 = false) ∧
        Dev.raisedOne s.dev t.dev evInvalidate stOk root [root.val, (invRange base order all).1, (invRange base order all).2] ∧
        State.onlyFieldsEv invFields s t := by
  have hbegun := invalidateBegun_frame s.dev root base order all
  have hrbt := invalidateBegun_rbt s.dev root base order all
  have hsettled := settleInvalidate_done (invalidateBegun_status s.dev root base order all) (by rw [hrbt]; exact hnone)
    (by rw [hrbt]; exact hbind)
  have hstatus := invalidateDone_status (s.dev.invalidateBegun root base order all)
  have hcount := invalidateDone_count (s.dev.invalidateBegun root base order all)
  have hone := invalidateDone_one (s.dev.invalidateBegun root base order all)
  have hframe := invalidateDone_frame (s.dev.invalidateBegun root base order all)
  have hdone := invalidateDone_rbt (s.dev.invalidateBegun root base order all)
  rw [hrbt] at hone hdone hcount
  rw [hnone] at hcount
  refine answers_invalidate hs hfree ?_
  rw [hsettled]
  generalize (s.dev.invalidateBegun root base order all).invalidateDone = t at *
  refine ⟨hstatus, hcount, fun l => ?_, fun e he l => ?_, raisedOne_before hbegun ringFree_inv hone, onlyFieldsEv_of_frame
    (eventFrame_trans (eventFrame_of_only hbegun ringFree_inv) (eventFrame_mono hframe (by simp [waitFields, invFields])))⟩
  · exact hdone ▸ dropCaches_ranges s.dev root _ _ l
  · exact dropCaches_pages (d := s.dev) (by rw [hdone] at he; exact he)

theorem invalidate_recalls (hsome : s.dev.recallsFor root (invRange base order all).1 (invRange base order all).2 ≠ []) :
    Answers (.invalidate root base order all) s fun t =>
      t.dev.get F.RBT_INV_STATUS = 1 ∧ t.dev.rbt.recalls = s.dev.recallsFor root (invRange base order all).1 (invRange base order all).2 ∧
        t.dev.rbt.recallRange = (root.val, (invRange base order all).1, (invRange base order all).2) ∧
        t.dev.get F.RBT_INV_WAIT_COUNT = (s.dev.recallsFor root (invRange base order all).1 (invRange base order all).2).length % 2 ^ 10 ∧
        (∀ j ∈ s.dev.recallsFor root (invRange base order all).1 (invRange base order all).2, t.dev.get F.RBT_INV_WAIT_LOWEST ≤ j) ∧
        (∀ l : Leaf, l ∈ t.dev.rbt.ranges ↔ l ∈ s.dev.rbt.ranges ∧
          ¬ (l.root = root ∧ overlaps l.va (2 ^ l.z) (invRange base order all).1 (invRange base order all).2 = true)) ∧
        t.dev.events = s.dev.events ∧ State.onlyFields invFields s t := by
  have hrbt := invalidateBegun_rbt s.dev root base order all
  have hstatus := invalidateBegun_status s.dev root base order all
  have hbegun := invalidateBegun_frame s.dev root base order all
  refine answers_invalidate hs hfree ?_
  rw [settleInvalidate_waits (by rw [hrbt]; exact hsome)]
  generalize s.dev.invalidateBegun root base order all = d at *
  have hshown := (showRecalls_rbt d).trans hrbt
  have hrecalls : d.rbt.recalls = s.dev.recallsFor root (invRange base order all).1 (invRange base order all).2 :=
    congrArg RbtSt.recalls hrbt
  have hframe : Dev.onlyRegs invFields s.dev d.showRecalls :=
    onlyRegs_trans hbegun (onlyRegs_mono (showRecalls_frame d) (by simp [waitFields, invFields]))
  refine ⟨(showRecalls_status d).trans hstatus, congrArg RbtSt.recalls hshown, congrArg RbtSt.recallRange hshown, ?_, ?_, fun l => ?_,
    hframe.2.2.2, onlyFields_of_dev hframe⟩
  · exact hrecalls ▸ showRecalls_count d
  · exact hrecalls ▸ showRecalls_lowest d
  · exact hshown ▸ dropCaches_ranges s.dev root _ _ l

end

/-! ### Recalls (R232, R233) -/

/-- No launch, copy or collective is there to need a range. -/
def Dev.workless (d : Dev) : Prop :=
  d.clus.launches = [] ∧ d.host.copies = [] ∧ ∀ g : Nat, (d.sq g).waiting = [] ∧ (d.sq g).running = []

theorem debugUpdate_rbt (d : Dev) : d.debugUpdate.rbt = d.rbt :=
  show d.debugUpdate.sansHold.rbt = d.sansHold.rbt from congrArg Dev.rbt (debugUpdate_sansHold d)

theorem debugUpdate_workless {d : Dev} (h : d.workless) : d.debugUpdate.workless := by
  obtain ⟨hlaunches, hcopies, hsquares⟩ := h
  have hhost : d.debugUpdate.host = d.host :=
    show d.debugUpdate.sansHold.host = d.sansHold.host from congrArg Dev.host (debugUpdate_sansHold d)
  have hsquare : d.debugUpdate.square = d.square :=
    show d.debugUpdate.sansHold.square = d.sansHold.square from congrArg Dev.square (debugUpdate_sansHold d)
  refine ⟨by rw [debugUpdate_clus, hlaunches], by rw [hhost, hcopies], fun g => ?_⟩
  rw [show d.debugUpdate.sq g = d.sq g by unfold Dev.sq; rw [hsquare]]
  exact hsquares g

theorem copiesOn_workless {d : Dev} (h : d.workless) (engine : Nat) : d.copiesOn engine = [] := by
  unfold Dev.copiesOn
  rw [h.2.1, List.filter_nil]

theorem ownedRanges_workless {d : Dev} (h : d.workless) (id root : Nat) : d.ownedRanges id root = [] := by
  have hcopies := copiesOn_workless h (id - 400)
  obtain ⟨hlaunches, -, hsquares⟩ := h
  obtain ⟨hwaiting, hrunning⟩ := hsquares (id - 424)
  unfold Dev.ownedRanges
  rw [hlaunches, hcopies, hwaiting, hrunning]
  simp

/-- A holder's work that a recall stops, before its stray bindings go. -/
def Dev.workStopped (d : Dev) (id : Nat) : Dev :=
  if id < 400 then d.recallLaunches id d.rbt.recallRange.1 d.rbt.recallRange.2.1 d.rbt.recallRange.2.2
  else if id < 416 then d.recallCopies (id - 400) d.rbt.recallRange.1 d.rbt.recallRange.2.1 d.rbt.recallRange.2.2
  else if id = 424 ∨ id = 425 then d.recallSquares (id - 424) d.rbt.recallRange.1 d.rbt.recallRange.2.1 d.rbt.recallRange.2.2
  else d

/-- Without work only the debug summary may be brought up to date. -/
theorem workStopped_workless {d : Dev} (h : d.workless) (id : Nat) : d.workStopped id = d ∨ d.workStopped id = d.debugUpdate := by
  unfold Dev.workStopped
  split
  · right
    unfold Dev.recallLaunches
    rw [h.1]
    rfl
  · left
    split
    · unfold Dev.recallCopies
      rw [copiesOn_workless h]
      rfl
    · split
      · obtain ⟨hwaiting, hrunning⟩ := h.2.2 (id - 424)
        unfold Dev.recallSquares
        rw [hwaiting, hrunning]
        rfl
      · rfl

/-- A holder whose work needs no range lets go of all in the recalled one. -/
theorem releaseStray_lets_go {d : Dev} {id root lo n : Nat} (h : d.ownedRanges id root = []) {x : Holder}
    (hx : x ∈ (d.releaseStray id root lo n).rbt.holders) (hroot : x.root = root) (hover : overlaps x.va x.len lo n = true) : id ∉ x.ids := by
  obtain ⟨y, -, hy⟩ := List.mem_map.mp (List.mem_filter.mp hx).1
  rw [h] at hy
  split at hy
  · subst hy
    simp
  · rename_i hkept
    subst hy
    exact absurd (by simp [hroot, hover]) hkept

theorem releaseStray_recalls (d : Dev) (id root lo n : Nat) : (d.releaseStray id root lo n).rbt.recalls = d.rbt.recalls := rfl

theorem recall_stops {d : Dev} {id : Nat} (hin : d.rbt.recalls.contains id = true) (himage : ¬ (416 ≤ id ∧ id ≤ 423)) :
    d.recall id = (d.workStopped id).releaseStray id d.rbt.recallRange.1 d.rbt.recallRange.2.1 d.rbt.recallRange.2.2 := by
  show (if !d.rbt.recalls.contains id then d else if 416 ≤ id ∧ id ≤ 423 then _ else _) = _
  rw [hin, if_neg (by simp), if_neg himage]
  rfl

theorem recall_reports {d : Dev} {id : Nat} (hin : d.rbt.recalls.contains id = true) (himage : 416 ≤ id ∧ id ≤ 423) :
    d.recall id = d.raise evSchedule stOk (id - 416) [4, d.rbt.recallRange.1, d.rbt.recallRange.2.1] := by
  show (if !d.rbt.recalls.contains id then d else if 416 ≤ id ∧ id ≤ 423 then _ else _) = _
  rw [hin, if_neg (by simp), if_pos himage]

theorem recall_unasked {d : Dev} {id : Nat} (h : d.rbt.recalls.contains id = false) : d.recall id = d := if_pos (by simp only [h]; rfl)

theorem recallAck_unasked {d : Dev} {id : Nat} (h : d.rbt.recalls.contains id = false) : d.recallAck id = d := if_pos (by simp only [h]; rfl)

/-- The recalls without a holder's. -/
def Dev.recallTaken (d : Dev) (id : Nat) : Dev := { d with rbt := { d.rbt with recalls := d.rbt.recalls.filter (· != id) } }

theorem recallAck_taken {d : Dev} {id : Nat} (hin : d.rbt.recalls.contains id = true)
    (hgone : ((d.holdersIn d.rbt.recallRange.1 d.rbt.recallRange.2.1 d.rbt.recallRange.2.2).any fun x => x.ids.contains id) = false) :
    d.recallAck id = (d.recallTaken id).settleInvalidate := by
  show (if !d.rbt.recalls.contains id ||
    (d.holdersIn d.rbt.recallRange.1 d.rbt.recallRange.2.1 d.rbt.recallRange.2.2).any (fun x => x.ids.contains id) then d else _) = _
  rw [hin, hgone]
  rfl

section

variable {s : State} {h : Fin 512} (hs : s.powered)
include hs

theorem recalls_unasked (hout : s.dev.rbt.recalls.contains h.val = false) :
    ∀ c ∈ [Instr.recall h, .recallAck h], Answers c s fun t => t = s := by
  intro c hc
  simp only [List.mem_cons, List.not_mem_nil, or_false] at hc
  rcases hc with rfl | rfl
  · exact answers_onDev (f := fun d => d.recall h) hs rfl (by rw [recall_unasked hout])
  · exact answers_onDev (f := fun d => d.recallAck h) hs rfl (by rw [recallAck_unasked hout])

variable (hin : s.dev.rbt.recalls.contains h.val = true)
include hin

theorem recall_image (hlo : 416 ≤ h.val) (hhi : h.val ≤ 423) :
    Answers (.recall h) s fun t =>
      Dev.raisedOne s.dev t.dev evSchedule stOk (h.val - 416) [4, s.dev.rbt.recallRange.1, s.dev.rbt.recallRange.2.1] ∧
        t.dev.rbt = s.dev.rbt ∧ State.onlyFieldsEv [] s t := by
  refine answers_onDev (f := fun d => d.recall h) hs rfl ?_
  dsimp only
  rw [recall_reports hin ⟨hlo, hhi⟩]
  exact ⟨raise_one _ _ _ _ _, raise_rbt _ _ _ _ _, raise_frame _ _ _ _ _⟩

theorem recall_lets_go (hkind : h.val < 416 ∨ 423 < h.val) (hidle : s.dev.workless) :
    Answers (.recall h) s fun t =>
      (∀ x ∈ t.dev.rbt.holders, x.root = s.dev.rbt.recallRange.1 →
        overlaps x.va x.len s.dev.rbt.recallRange.2.1 s.dev.rbt.recallRange.2.2 = true → h.val ∉ x.ids) ∧
        t.dev.rbt.recalls = s.dev.rbt.recalls ∧ State.onlyFields debugFields s t := by
  have hstopped : (s.dev.workStopped h).workless ∧ (s.dev.workStopped h).rbt = s.dev.rbt ∧
      Dev.onlyRegs debugFields s.dev (s.dev.workStopped h) := by
    rcases workStopped_workless hidle h with hstop | hstop <;> rw [hstop]
    · exact ⟨hidle, rfl, onlyRegs_refl _ _⟩
    · exact ⟨debugUpdate_workless hidle, debugUpdate_rbt _, debugUpdate_frame _⟩
  obtain ⟨hwork, hrbt, hframe⟩ := hstopped
  refine answers_onDev (f := fun d => d.recall h) hs rfl ?_
  dsimp only
  rw [recall_stops hin (by omega)]
  have hrecalls : ((s.dev.workStopped h).releaseStray h s.dev.rbt.recallRange.1 s.dev.rbt.recallRange.2.1
      s.dev.rbt.recallRange.2.2).rbt.recalls = s.dev.rbt.recalls := (releaseStray_recalls _ _ _ _ _).trans (congrArg RbtSt.recalls hrbt)
  exact ⟨fun x hx => releaseStray_lets_go (ownedRanges_workless hwork h _) hx, hrecalls,
    onlyFields_of_dev (onlyRegs_trans hframe (onlyRegs_core _ (rbtSet_core _ _)))⟩

variable (hgone : ((s.dev.holdersIn s.dev.rbt.recallRange.1 s.dev.rbt.recallRange.2.1 s.dev.rbt.recallRange.2.2).any
    fun x => x.ids.contains h.val) = false)
include hgone

theorem answers_recallAck {P : State → Prop} (hp : P { s with dev := (s.dev.recallTaken h).settleInvalidate }) :
    Answers (.recallAck h) s P :=
  answers_onDev (f := fun d => d.recallAck h) hs rfl (by
    rwa [recallAck_taken hin hgone])

variable (hbusy : s.dev.get F.RBT_INV_STATUS = 1)
include hbusy

theorem recallAck_waits (hleft : s.dev.rbt.recalls.filter (· != h.val) ≠ []) :
    Answers (.recallAck h) s fun t =>
      t.dev.rbt.recalls = s.dev.rbt.recalls.filter (· != h.val) ∧
        t.dev.get F.RBT_INV_WAIT_COUNT = (s.dev.rbt.recalls.filter (· != h.val)).length % 2 ^ 10 ∧ t.dev.get F.RBT_INV_STATUS = 1 ∧
        t.dev.events = s.dev.events ∧ State.onlyFields [F.RBT_INV_WAIT_COUNT, F.RBT_INV_WAIT_LOWEST] s t := by
  have hframe : Dev.onlyRegs waitFields s.dev (s.dev.recallTaken h).showRecalls :=
    onlyRegs_trans (onlyRegs_core _ (rbtSet_core s.dev _)) (showRecalls_frame _)
  refine answers_recallAck hs hin hgone ?_
  rw [settleInvalidate_waits hleft]
  exact ⟨congrArg RbtSt.recalls (showRecalls_rbt _), showRecalls_count _, (showRecalls_status _).trans hbusy, hframe.2.2.2,
    onlyFields_of_dev hframe⟩

theorem recallAck_done (hleft : s.dev.rbt.recalls.filter (· != h.val) = []) (hbind : s.dev.rbt.waitingBind = []) :
    Answers (.recallAck h) s fun t =>
      t.dev.rbt.recalls = [] ∧ t.dev.get F.RBT_INV_STATUS = 2 ∧
        Dev.raisedOne s.dev t.dev evInvalidate stOk s.dev.rbt.recallRange.1
          [s.dev.rbt.recallRange.1, s.dev.rbt.recallRange.2.1, s.dev.rbt.recallRange.2.2] ∧
        State.onlyFieldsEv [F.RBT_INV_STATUS, F.RBT_INV_WAIT_COUNT, F.RBT_INV_WAIT_LOWEST] s t := by
  have htaken : Dev.onlyRegs (F.RBT_INV_STATUS :: waitFields) s.dev (s.dev.recallTaken h) := onlyRegs_core _ (rbtSet_core s.dev _)
  have hsettled := settleInvalidate_done (d := s.dev.recallTaken h) hbusy hleft hbind
  have hstatus := invalidateDone_status (s.dev.recallTaken h)
  have hrecalls := (congrArg RbtSt.recalls (invalidateDone_rbt (s.dev.recallTaken h))).trans hleft
  have hone := raisedOne_before htaken ringFree_ack (invalidateDone_one (s.dev.recallTaken h))
  have hframe := eventFrame_trans (eventFrame_of_only htaken ringFree_ack) (invalidateDone_frame (s.dev.recallTaken h))
  refine answers_recallAck hs hin hgone ?_
  rw [hsettled]
  generalize (s.dev.recallTaken h).invalidateDone = t at *
  exact ⟨hrecalls, hstatus, hone, onlyFieldsEv_of_frame hframe⟩

end

/-- Settles O36, by the command: a generation, a root register, an invalidate by the holders in its range, a recall by its holder, and an
acknowledgement by the recalls that are left. -/
theorem rootsGenerationsAndInvalidates : Obligations.RootsGenerationsAndInvalidates := by
  unfold Obligations.RootsGenerationsAndInvalidates
  refine ⟨fun s root gen hs => ⟨commit_newer hs root gen, commit_refused hs root gen⟩,
    fun s root v hs => ⟨root_written hs root v, root_refused hs root v⟩,
    fun s root base order all hs => ⟨invalidate_refused hs, fun hfree => ⟨invalidate_done hs hfree, invalidate_recalls hs hfree⟩⟩,
    fun s h hs => ⟨recalls_unasked hs, fun hin => ⟨recall_image hs hin, fun hkind hlaunches hcopies hsquares =>
      recall_lets_go hs hin hkind ⟨hlaunches, hcopies, hsquares⟩⟩⟩,
    fun s h hs hin hbusy hgone => ⟨recallAck_waits hs hin hgone hbusy, recallAck_done hs hin hgone hbusy⟩⟩

end Sys2Proof.Machine
end
